-- ==== Sys2Proof/Word.lean ====
section
/-!
DEFINITION. Sys2Proof/Word.lean: the words of the AZ9640. Registers are 32 bits wide (00_scope.md), device time
and engine registers 64 bits (R4, 05 R125), an action record 128 bits (R46), a MAC address 48 bits.
-/
namespace Sys2Proof

/-- A byte of a memory, of a packet or of a frame. -/
abbrev Byte := BitVec 8
/-- A 32-bit management register (00_scope.md, Registers, fields and byte order). -/
abbrev Word := BitVec 32
/-- A 64-bit value: device time (R4), an engine register, a mailbox. -/
abbrev DWord := BitVec 64
/-- A 128-bit record: an action (R46), a table entry (R66), a capture record (R75). -/
abbrev QWord := BitVec 128
/-- A 48-bit MAC address. -/
abbrev Mac := BitVec 48

end Sys2Proof
end

