-- ==== Sys2Proof/Syntax.lean ====
section
/-!
DEFINITION. Sys2Proof/Syntax.lean: the commands the block takes, one constructor per row of spec/opcode_table.json, and
the types of their operands. Unit numbers are bounded by their type; everything a command needs that the device already
holds (a record at a FIFO's head, a packet's payload, an instruction word in program RAM) is no operand: its meaning
reads it from the state.
-/
namespace Sys2Proof

/-- A command packet by its session (none: sessionless, R383) and its SEQ (R387). -/
structure CmdRef where
  session : Option (Fin 4)
  seq     : Nat
deriving DecidableEq, Repr

/-- How a row with a register of its own and an opcode of its own is asked for: a write of the word `w` to that
register, or the accepted command packet that carries its operands. -/
inductive Via where
  | reg (w : Word)
  | cmd (c : CmdRef)
deriving DecidableEq, Repr

/-- As `Via`, where the register is one of an array: instance `i`. -/
inductive ViaN where
  | reg (i : Nat) (w : Word)
  | cmd (c : CmdRef)
deriving DecidableEq, Repr

/-- Which end of a pulse or which polarity an edge has. -/
inductive Edge where
  | rising
  | falling
deriving DecidableEq, Repr

/-- How a row that reads something out is asked for: a read of the register or window instance `i`, or a command. -/
inductive ReadVia where
  | reg (i : Nat)
  | cmd (c : CmdRef)
deriving DecidableEq, Repr

/-- How a cycle-table order is given: a write of CT[t].CTL, whose time is CMD_TIME; a kind-0x5 action at table `t`; or a
CT_CTL command. -/
inductive CtVia where
  | reg (t : Fin 16)
  | action (t : Fin 16)
  | cmd (c : CmdRef)
deriving DecidableEq, Repr

/-- What ECC finds in the memory words that an instruction reads (R89): nothing, an error that it corrects, or one that
it cannot correct. -/
inductive Ecc where
  | clean
  | corrected
  | uncorrectable
deriving DecidableEq, Repr

/-- How a mailbox is written by the host: the _HI write of mailbox `m` of physical engine `n`, or MBOX_WRITE. -/
inductive MboxVia where
  | reg (n : Fin 68) (m : Fin 16) (w : Word)
  | cmd (c : CmdRef)
deriving DecidableEq, Repr

/-- A recipe key as it is inserted: its flash (by byte; unlisted: erased, 0xFF), its size in bytes, at which voltages its
SFDP signature is read, and what SFDP offers (R314–R316). -/
structure KeyChip where
  flash  : List (Nat × Byte) := []
  size   : Nat
  sfdp18 : Bool
  sfdp33 : Bool
  octal  : Bool
  erase4k : Bool
deriving DecidableEq, Repr

/-- A sync-link message as it arrives: lane, SRC and SEQ of its header, and whether its CRC is good (R370). -/
structure LaneMsg where
  lane : Fin 8
  src  : Fin 16
  seq  : BitVec 16
  ok   : Bool
deriving DecidableEq, Repr

/-- What the end of a wake from RET finds of the retained content (R437, R438, R443): all well; bank `k` lost; the check
words lost in the block; the save area of the registers lost; or an error in the keep store, corrected or not. -/
inductive Retention where
  | ok
  | bank (k : Fin 33)
  | inBlock
  | saveArea
  | keepStore (corrected : Bool)
deriving DecidableEq, Repr

/-- One measurement of the intake (R452): inputs of TA and TB in 10 mV, mA and 10 mW, the four consumer groups in 10 mW,
and the current of each auxiliary output in mA. -/
structure PowerSample where
  vin  : BitVec 16 × BitVec 16
  iin  : BitVec 16 × BitVec 16
  pin  : BitVec 16 × BitVec 16
  rail : List (BitVec 16)
  aux  : List (BitVec 16)
deriving DecidableEq, Repr

/-- The commands of the AZ9640: one constructor per row of spec/opcode_table.json. -/
inductive Instr where
  /-- SCHEDULER_TICK (R55): Every 2.5 ns tick the scheduler advances device time by 160 units and dispatches up to four eligible calendar entries. -/
  | schedulerTick
  /-- POST_ACCEPT (R52): A record at the head of a posting port FIFO is checked and either inserted into the calendar or refused with a post status. -/
  | postAccept
  /-- PREWAKE_REQUEST (R81): At DUE minus LEAD minus L minus 1 us, the scheduler sends a wake request to the target domain of a pending entry. -/
  | prewakeRequest
  /-- ACT_CANCEL (R63): A host cancel, by ACT_CANCEL.GO or the ACT_CANCEL command, removes every matching undispatched entry in one tick and returns the count. -/
  | actCancel (v : Via)
  /-- DRIVE_LOW (R48): At DUE, the launch cell drives the pin low and turns the driver on. -/
  | driveLow (p : Fin 1152)
  /-- DRIVE_HIGH (R48): At DUE, the launch cell drives the pin high and turns the driver on. -/
  | driveHigh (p : Fin 1152)
  /-- TOGGLE (R48): At DUE, the pin's output register is inverted and the driver turns on. -/
  | toggle (p : Fin 1152)
  /-- RELEASE (R48): At DUE, the driver turns off and the pin takes its configured pull. -/
  | release (p : Fin 1152)
  /-- PULSE_HIGH (R59): At DUE, the launch cell places the leading edge of a high pulse and keeps the queue entry until the trailing edge. -/
  | pulseHigh (p : Fin 1152)
  /-- PULSE_LOW (R59): At DUE, the launch cell places the leading edge of a low pulse and keeps the queue entry until the trailing edge. -/
  | pulseLow (p : Fin 1152)
  /-- PULSE_TRAILING_EDGE (R59): At DUE plus the pulse width, the trailing edge is placed and the launch queue entry is freed. -/
  | pulseTrailingEdge (p : Fin 1152)
  /-- CYCLE (R91): A CYCLE trigger starts a cycle boundary, or is latched or discarded when a cycle is running. -/
  | cycle (e : Fin 64)
  /-- SIGNAL (R92): A SIGNAL trigger ORs its mask into the engine's trigger flags. -/
  | signal (e : Fin 64)
  /-- STROBE (R207): A fabric strobe presents a one-cycle pulse and its data word at the strobe clock's qualifying edge. -/
  | strobe (t : Fin 384)
  /-- DISARM (R74): At DUE, the capture cell's arming is removed. -/
  | disarm (p : Fin 1152)
  /-- ARM_RISE (R74): At DUE, the capture cell is armed for rising edges up to the edge count. -/
  | armRise (p : Fin 1152)
  /-- ARM_FALL (R74): At DUE, the capture cell is armed for falling edges up to the edge count. -/
  | armFall (p : Fin 1152)
  /-- ARM_BOTH (R74): At DUE, the capture cell is armed for both edges up to the edge count. -/
  | armBoth (p : Fin 1152)
  /-- WIN_RISE (R74): At DUE, a capture window opens for the first rising edge. -/
  | winRise (p : Fin 1152)
  /-- WIN_FALL (R74): At DUE, a capture window opens for the first falling edge. -/
  | winFall (p : Fin 1152)
  /-- WIN_BOTH (R74): At DUE, a capture window opens for the first edge of either kind. -/
  | winBoth (p : Fin 1152)
  /-- CAPTURE_EDGE (R73): An input edge at an armed capture cell is timestamped and written as an EDGE record to its ring, and optionally to a mailbox. -/
  | captureEdge (p : Fin 1152) (ed : Edge) (q : Fin 40)
  /-- WINDOW_CLOSE (R74): A capture window that saw no edge closes and writes a MISS record. -/
  | windowClose (p : Fin 1152)
  /-- CAP_READ (R77): A read of word +0xC of a ring window, or the CAP_READ command, removes records from a capture ring. -/
  | capRead (v : ReadVia)
  /-- CONVERT (R182): At DUE, the ADC samples the selected channel or pair, or the action is discarded on a collision. -/
  | convert (c : Fin 4)
  /-- SEQUENCE (R183): At DUE, the ADC converts the codes of a sequence list at 200 ns spacing. -/
  | sequence (c : Fin 4)
  /-- ADC_RESULT (R185): A completed conversion writes ADC_RES and, when routed, an engine slot with NEW set. -/
  | adcResult (c : Fin 4) (v : BitVec 16)
  /-- CT_START (R68): A START, by CT[t].CTL, a kind-0x5 action or CT_CTL, validates the admin copy, copies it into the operational copy and sets BASE. -/
  | ctStart (v : CtVia)
  /-- CT_STOP (R72): A STOP, by register, action or CT_CTL, sets its boundary and withdraws the entries due at or after it. -/
  | ctStop (v : CtVia)
  /-- CT_SWAP (R70): A SWAP, by register, action or CT_CTL, validates the admin copy, withdraws entries due after boundary B and posts entries from the admin copy. -/
  | ctSwap (v : CtVia)
  /-- CT_ENTRY_POST (R69): ACT_CT_AHEAD before an entry's DUE, the table port posts it; a refused entry counts in MISS. -/
  | ctEntryPost (t : Fin 16)
  /-- CT_STOP_BOUNDARY (R68): At the STOP boundary, the table stops running. -/
  | ctStopBoundary (t : Fin 16)
  /-- CT_SWAP_BOUNDARY (R70): At the swap boundary, the admin copy becomes the operational copy and EV119 is raised. -/
  | ctSwapBoundary (t : Fin 16)
  /-- CT_COPYBACK_DONE (R71): The copy-back after a swap completes, and held admin writes are applied. -/
  | ctCopybackDone (t : Fin 16)
  /-- CT_WRITE (R66): The CT_WRITE command writes entries of a table's admin copy. -/
  | ctWrite (c : CmdRef)
  /-- RAISE (R48): Sets the counter's bit in the EV123 cause register. -/
  | raise (n : Fin 16)
  /-- ADD (R48): Adds DATA to a counter, modulo 2^32. -/
  | add (n : Fin 16)
  /-- COUNT_DOWN (R48): Subtracts DATA from a counter, saturating at 0, and raises EV123 when the counter reaches 0. -/
  | countDown (n : Fin 16)
  /-- LOAD (R48): Loads a new value into a counter. -/
  | load (n : Fin 16)
  /-- ACTION (R79): A received ACTION message is posted on port 82 with its DUE and effective tag. -/
  | action (m : LaneMsg) (dst : Fin 16) (w : QWord)
  /-- FRONT (R282): In the tick that begins at TF, the planes of the staged set exchange, the carry map applies and non-carried state is cleared. -/
  | front
  /-- FRONT_BACK (R291): In the tick that begins at TF, the device returns to the PREVIOUS format exactly as a FRONT does. -/
  | frontBack
  /-- HOLDOVER (R25): After LOSS_N sync intervals are missed, or the source port goes down, the device enters holdover and keeps its last rate. -/
  | holdover
  /-- CLK_TB_CTL_WRITE (R22): A write to CLK_TB_CTL sets the discipline mode, and a combination of SL_MASTER with MODE SYNC is refused. -/
  | clkTbCtlWrite (w : Word)
  /-- TIME_STEP (R26): CLK_TB_STEP_CTL.GO, or the TIME_STEP command, requests that the step offset be added to device time. -/
  | timeStep (v : Via)
  /-- TIME_STEP_APPLY (R27): At the first tick after GO, the step is applied to both pair members, or is refused when a Front is armed or DEGRADED is set. -/
  | timeStepApply
  /-- RES_FAIL (R29): Loss of activity on a resonator sets RES_FAIL and causes loss of lock on the ADPLLs that it references. -/
  | resFail (r : Fin 2)
  /-- LOSS_OF_LOCK (R42): An ADPLL's lock detector declares loss of lock, its consumers switch to backup, and a new lock sequence starts. -/
  | lossOfLock (n : Fin 8) (why : Fin 2)
  /-- LOCK_COMPLETE (R32): At the end of the lock sequence, LOCKED is set, EV136+n is raised and the outputs are ungated or returned from backup. -/
  | lockComplete (n : Fin 8)
  /-- TIME_WAIT_EXPIRY (R296): When no master time has arrived within TIME_WAIT in MODE SYNC, device time starts at 0 and TIME_FALLBACK is set. -/
  | timeWaitExpiry
  /-- ADPLL_ENABLE (R32): A write of CTL.EN starts the lock sequence, or gates all outputs and stops the DCO. -/
  | adpllEnable (n : Fin 8) (w : Word)
  /-- RELOCK (R32): CTL.RELOCK starts the lock sequence of a user ADPLL to the FCW in force. -/
  | relock (n : Fin 8)
  /-- FCW_WRITE (R38): A new FCW is a retune, starts a relock, or is refused with RANGE_ERR or CEIL_ERR. -/
  | fcwWrite (n : Fin 8) (v : DWord)
  /-- SLEW_DONE (R38): The applied FCW reaches the target FCW, and SLEWING clears. -/
  | slewDone (n : Fin 8)
  /-- OUTPUT_CTL_WRITE (R35): A write to OUT[m].CTL enables or disables the output glitch-free and changes DIV, PHASE or FDLY under its restrictions. -/
  | outputCtlWrite (n : Fin 8) (m : Fin 6) (w : Word)
  /-- GCLK_SRC_WRITE (R45): A change of a global tree source takes effect glitch-free through a low hold. -/
  | gclkSrcWrite (k : Fin 32) (w : Word)
  /-- RUN_EN_CLEAR (R96): Clearing RUN_EN stops CYCLE triggers from running and drops any latched trigger. -/
  | runEnClear (n : Fin 68)
  /-- LOCKSTEP_MISMATCH (R101): A shadow mismatch restores the checkpoint and retries the cycle, or fails the cycle. -/
  | lockstepMismatch (n : Fin 68) (bit : Fin 64)
  /-- MIGRATION_COPY_DONE (R107): A copy pass of a migration completes, and further dirty-line passes follow. -/
  | migrationCopyDone (e : Fin 64)
  /-- MIGRATE (R110): ENG[n].CTL.MIGRATE, or the ENG_MIGRATE command, moves the held logical engine to MIGRATE_TO, or is ignored with CMD_ERR. -/
  | migrate (v : ViaN)
  /-- HALT_CLR (R110): HALT_CLR, or the ENG_HALT_CLR command, returns a halted engine between cycles from its checkpoint. -/
  | haltClr (v : ViaN)
  /-- REINSTATE (R109): REINSTATE, or the ENG_REINSTATE command, makes a retired engine SPARE after a clean Drizzle pass. -/
  | reinstate (v : ViaN)
  /-- ENGINE_WATCHDOG (R118): When a cycle has not reached CEND by LIM percent of PERIOD, the cycle is abandoned or the engine halts. -/
  | engineWatchdog (n : Fin 68)
  /-- DATA_RAM_HOST_WRITE (R89): A host write to engine data RAM takes effect between cycles, or is stalled until the running cycle ends. -/
  | dataRamHostWrite (n : Fin 68) (k : Fin 16384) (w : Word)
  /-- MBOX_WRITE (R112): A host mailbox _HI write, or the MBOX_WRITE command, commits a mailbox value under the FULL and mode rules. -/
  | mboxWrite (v : MboxVia)
  /-- FAR_FLUSH (R116): FAR_CTL.FLUSH invalidates the far-code cache, and is ignored while a far routine executes. -/
  | farFlush (n : Fin 68)
  /-- FAR_LINE_FILL (R116): A far-code cache line fill completes from the NV read window, or raises FAR_ERR and the fetch exception. -/
  | farLineFill (n : Fin 68) (ecc ecc2 : Ecc)
  /-- EFFECT_STATUS_RETURN (R124): The status of a released POST, SEND, CANCEL or RQ returns and is written to its result register and the input log. -/
  | effectStatusReturn (n : Fin 68)
  /-- DRAIN_TIMEOUT (R156): A status that has not arrived after 65,535 clocks of the CEND drain counts as a lockstep mismatch. -/
  | drainTimeout (n : Fin 68)
  /-- WAIT_TIMEOUT (R113): The bound of a mailbox or trigger-flag wait runs out, and the instruction completes with TIMEOUT. -/
  | waitTimeout (n : Fin 68)
  /-- WAITT_WAKE (R143): At the first engine clock at or after its target time, a WAITT completes with OK. -/
  | waittWake (n : Fin 68)
  /-- BP_ACK (R208): The fabric acknowledges a bay-port transfer, and the stalled instruction completes. -/
  | bpAck (n : Fin 68) (v : DWord)
  /-- BP_TIMEOUT (R114): A bay-port transfer not completed within TMO clocks returns TIMEOUT and sets BP_ERR. -/
  | bpTimeout (n : Fin 68)
  /-- ALU (R135): Performs the integer function selected by FN, with flags written when S is set. -/
  | alu (n : Fin 68)
  /-- ADDI (R133): Adds a sign-extended immediate. -/
  | addi (n : Fin 68)
  /-- ANDI (R133): ANDs a zero-extended immediate. -/
  | andi (n : Fin 68)
  /-- ORI (R133): ORs a zero-extended immediate. -/
  | ori (n : Fin 68)
  /-- XORI (R133): XORs a zero-extended immediate. -/
  | xori (n : Fin 68)
  /-- SHI (R133): Shifts or rotates by an immediate count. -/
  | shi (n : Fin 68)
  /-- LDI (R133): Loads a sign-extended immediate. -/
  | ldi (n : Fin 68)
  /-- INSH (R133): Inserts a 16-bit immediate into halfword k of a register. -/
  | insh (n : Fin 68)
  /-- CMPI (R133): Sets the flags from a register minus an immediate. -/
  | cmpi (n : Fin 68)
  /-- NOP (R133): Performs no operation. -/
  | nop (n : Fin 68)
  /-- FPU (R136): Performs the floating-point operation selected by FN under IEEE 754 and FPCSR. -/
  | fpu (n : Fin 68)
  /-- FMA (R136): Performs a binary32 fused multiply-add variant with one rounding. -/
  | fma (n : Fin 68)
  /-- LD (R131): Loads 64 bits from the data address space. -/
  | ld (n : Fin 68) (ecc : Ecc)
  /-- LDW (R131): Loads 32 bits, zero-extended. -/
  | ldw (n : Fin 68) (ecc : Ecc)
  /-- LDWS (R131): Loads 32 bits, sign-extended. -/
  | ldws (n : Fin 68) (ecc : Ecc)
  /-- ST (R131): Stores 64 bits to data RAM and logs the line on its first write in the cycle. -/
  | st (n : Fin 68)
  /-- STW (R131): Stores 32 bits to data RAM and logs the line on its first write in the cycle. -/
  | stw (n : Fin 68)
  /-- BCC (R133): Branches relative to its own address when COND holds. -/
  | bcc (n : Fin 68)
  /-- JMP (R133): Jumps to TARGET. -/
  | jmp (n : Fin 68)
  /-- CALL (R133): Saves the return address in LR and jumps to TARGET. -/
  | call (n : Fin 68)
  /-- JR (R133): Jumps to the address in a register. -/
  | jr (n : Fin 68)
  /-- RET (R155): Returns to LR, and raises FETCH when LR[63] is set. -/
  | ret (n : Fin 68)
  /-- FRET (R155): Returns from far code to program RAM at LR. -/
  | fret (n : Fin 68)
  /-- FCALL (R155): Calls a far routine at a user NV offset through the far-code cache. -/
  | fcall (n : Fin 68)
  /-- POST (R140): Forms an action record with a DUE mode and releases it to the engine's posting port as an effect. -/
  | post (n : Fin 68)
  /-- CANCEL (R141): Cancels the engine's own matching actions, as an effect that returns a count. -/
  | cancel (n : Fin 68)
  /-- WAITT (R143): Waits for a device time bounded by the period, or completes at once with PAST or BEYOND. -/
  | waitt (n : Fin 68)
  /-- WAITF (R144): Waits a bounded time for trigger flags. -/
  | waitf (n : Fin 68)
  /-- TFCLR (R144): Clears selected trigger flags. -/
  | tfclr (n : Fin 68)
  /-- SEND (R145): Writes a value to a mailbox of a logical engine, as an effect. -/
  | send (n : Fin 68)
  /-- RECV (R146): Consumes one mailbox value, waiting a bounded time. -/
  | recv (n : Fin 68)
  /-- PEEK (R146): Reads a mailbox without consuming it. -/
  | peek (n : Fin 68)
  /-- RECVM (R146): Consumes the lowest-numbered full mailbox of a mask, waiting a bounded time. -/
  | recvm (n : Fin 68)
  /-- BPRD (R147): Reads a bay port by handshake. -/
  | bprd (n : Fin 68)
  /-- BPWR (R147): Writes a bay port by handshake, as an effect. -/
  | bpwr (n : Fin 68)
  /-- UWR (R148): Writes a unit register. -/
  | uwr (n : Fin 68)
  /-- URD (R148): Reads a unit register; a read from axis I/O is an input. -/
  | urd (n : Fin 68)
  /-- TRJ_GO (R159): Starts or replans a jerk-limited move to TARGET. -/
  | trjGo (n : Fin 68)
  /-- TRJ_STOP (R149): Brings the TRJ profile to rest within the limits. -/
  | trjStop (n : Fin 68)
  /-- QSTOP (R160): Brings the TRJ profile to rest with the quick-stop limits. -/
  | qstop (n : Fin 68)
  /-- TRJ_STEP (R159): Advances the TRJ profile by one PERIOD and returns the position. -/
  | trjStep (n : Fin 68)
  /-- ENGAGE (R166): Engages a cam table, in absolute or relative mode. -/
  | engage (n : Fin 68) (ecc : Ecc)
  /-- DISENGAGE (R166): Clears ENGAGED. -/
  | disengage (n : Fin 68)
  /-- CAM_STEP (R167): Computes the slave output of the engaged cam at MSAMP. -/
  | camStep (n : Fin 68) (ecc : Ecc)
  /-- VMSET (R165): Rebases the virtual master at CYCT with a new velocity. -/
  | vmset (n : Fin 68)
  /-- LOOP_RESET (R169): Clears INTEG and E_PREV of all LOOP stages. -/
  | loopReset (n : Fin 68)
  /-- BIQ_RESET (R170): Clears every Z1 and Z2 of the BIQ unit. -/
  | biqReset (n : Fin 68)
  /-- APPLY (R173): Applies latched PWM writes at the next period start at least 200 ns after its release. -/
  | apply (n : Fin 68)
  /-- PWM_WRITE_APPLY (R173): At the qualifying carrier period start, pending PWM register writes take effect. -/
  | pwmWriteApply (e : Fin 64)
  /-- CAMI (R150): Evaluates a cam table at a master position without changing the CAM state. -/
  | cami (n : Fin 68) (ecc : Ecc)
  /-- LOOPX (R151): Executes one step of the cascaded LOOP from an entry stage. -/
  | loopx (n : Fin 68)
  /-- BIQX (R152): Passes a sample through the four BIQ stages. -/
  | biqx (n : Fin 68)
  /-- LIMX (R152): Reports position, speed and following-error violations. -/
  | limx (n : Fin 68)
  /-- MFS (R127): Copies a special register into a general register. -/
  | mfs (n : Fin 68)
  /-- MTS (R127): Copies a general register into a writable special register. -/
  | mts (n : Fin 68)
  /-- CEND (R156): Drains the released effects' statuses and ends the cycle. -/
  | cend (n : Fin 68)
  /-- PRELOG (R154): Logs a range of data RAM lines in advance. -/
  | prelog (n : Fin 68)
  /-- CKH_NORETRY (R154): Marks the rest of the cycle NORETRY. -/
  | ckhNoretry (n : Fin 68)
  /-- LOGFREE (R154): Returns the smallest number of free log entries. -/
  | logfree (n : Fin 68)
  /-- RQ_NV_READ (R153): Requests a user NV read through the arbiter. -/
  | rqNvRead (n : Fin 68) (ecc : Ecc)
  /-- RQ_NV_PROGRAM (R153): Requests a user NV program through the arbiter. -/
  | rqNvProgram (n : Fin 68) (ecc : Ecc)
  /-- RQ_NV_ERASE (R153): Requests a user NV sector erase through the arbiter. -/
  | rqNvErase (n : Fin 68) (ecc : Ecc)
  /-- RQ_PRM_READ (R153): Requests a parameter store read. -/
  | rqPrmRead (n : Fin 68) (ecc : Ecc)
  /-- RQ_PRM_WRITE (R153): Requests a parameter store write. -/
  | rqPrmWrite (n : Fin 68) (ecc : Ecc)
  /-- RQ_TRUNK_TRANSMIT (R361): Requests transmission of a frame on the trunk ports. -/
  | rqTrunkTransmit (n : Fin 68) (ecc : Ecc)
  /-- QUADRATURE_COUNT (R175): An accepted change of A or B counts plus or minus one, or counts an illegal transition. -/
  | quadratureCount (e : Fin 64) (ha hb : BitVec 16)
  /-- INDEX_EDGE (R177): A rising Z edge latches IDX_CNT and IDX_T and performs an armed homing. -/
  | indexEdge (e : Fin 64) (high : Bool)
  /-- SSI_FRAME_END (R178): An SSI frame ends and is validated, converted and applied to the count, or discarded. -/
  | ssiFrameEnd (e : Fin 64) (bits : Nat) (low : Bool)
  /-- DS_SAMPLE (R179): A delta-sigma decimator completes a sample. -/
  | dsSample (e : Fin 64) (k : Fin 4) (bits : List Bool)
  /-- DS_CLKLOST (R179): No modulator clock edge for 1 us sets CLKLOST and clears VALID. -/
  | dsClklost (e : Fin 64)
  /-- CONTENTION (R200): A length-64 segment monitor detects contention, disconnects the segment and requests a scrub. -/
  | contention (i : Fin 48) (seg : Fin 2048) (drv : Byte)
  /-- SCRUB_REWRITE_DONE (R201): A scrub rewrite is read back with a matching CRC, and the disconnected segment reconnects. -/
  | scrubRewriteDone (src : Bool)
  /-- FABRIC_CANCEL (R210): A cancel record on a fabric post interface cancels matching entries of the group's port. -/
  | fabricCancel (i : Fin 48) (w : QWord)
  /-- FABRIC_MBOX_WRITE (R211): A fabric mailbox-interface write reaches an engine mailbox and returns its status. -/
  | fabricMboxWrite (i : Fin 48) (e : Fin 64) (m : Fin 16) (v : DWord)
  /-- FABRIC_REQUEST (R335): A fabric request-interface request to a shared resource is checked and queued at the arbiter. -/
  | fabricRequest (i : Fin 48) (op : Fin 6) (addr : Word) (len : Nat) (data : List Byte) (lock : BitVec 7)
  /-- EVENT_PORT_PULSE (R212): A fabric event-port pulse ORs its cause word into the cause register of a user event. -/
  | eventPortPulse (i : Fin 48) (u : Fin 64) (w : Word)
  /-- PRB_PIN_WRITE (R215): A write to TST.PRB[c].PIN routes a probe to a spare pin, or is refused with PIN_ERR. -/
  | prbPinWrite (c : Fin 64) (w : Word)
  /-- TRC_ARM (R217): ARM, by TRC_CMD or the TRC_CMD command, empties the trace buffer and starts storing. -/
  | trcArm (v : Via)
  /-- TRC_STOP (R217): STOP moves the trace to DONE. -/
  | trcStop (v : Via)
  /-- TRC_FORCE (R217): FORCE triggers the trace when source 0 is selected. -/
  | trcForce (v : Via)
  /-- TRACE_TRIGGER (R217): The trigger condition is met, the trace moves to TRIGGERED and TRC_TRIG is recorded. -/
  | traceTrigger
  /-- TRACE_DONE (R217): After POST samples past the trigger, the trace moves to DONE and may raise a user event. -/
  | traceDone
  /-- TRC_READ (R218): The TRC_READ command returns trace buffer samples. -/
  | trcRead (c : CmdRef)
  /-- BRAM_ECC_ERROR (R227): A block RAM read finds a single-bit error and corrects and writes it back, or a double-bit error and flags it. -/
  | bramEccError (i : Fin 48) (k : Fin 33) (p : Fin 2) (word : Fin 512) (bit : Fin 72) (ue : Bool)
  /-- MEM_SWEEP_READ (R228): Every INTERVAL, the background sweep checks one word of each ECC block. -/
  | memSweepRead (i : Fin 48) (k : Fin 33) (ecc : Ecc) (bit : Fin 72)
  /-- RESIDUE_MISMATCH (R232): A multiplier residue check fails, and the fault is counted and recorded. -/
  | residueMismatch (i : Fin 48) (k : Fin 33)
  /-- MEM_MOVE (R240): MEM_REPAIR MOVE moves a role to the spare, or is ignored with CMD_ERR. -/
  | memMove (i : Fin 48) (w : Word)
  /-- MEM_RETURN (R236): MEM_REPAIR RETURN moves a role back to its home block. -/
  | memReturn (i : Fin 48) (w : Word)
  /-- BRAM_COPY_DONE (R234): A block RAM copy completes, and reads switch to the new block. -/
  | bramCopyDone (i : Fin 48) (errs : List (Fin 512 × Fin 72 × Bool))
  /-- BRAM_INIT_DONE (R237): Front initialisation of a block RAM role from its buffer completes. -/
  | bramInitDone (i : Fin 48) (k : Fin 32)
  /-- STAGING_GO (R260): CFG_STG_CTL.GO, or STG_FROM_SLOT, starts a staging or store from a slot or from the key. -/
  | stagingGo (v : Via)
  /-- IMAGE_HEADER (R256): The image header is checked in order, and on a pass the slot becomes WRITING and the staged set LOADING. -/
  | imageHeader
  /-- FRAME (R257): A configuration frame is checked, zero-filled up to, and written to the slot and the staged plane. -/
  | frame (wr : Bool)
  /-- STG_BEGIN (R404): Starts a host-stream staging or store. -/
  | stgBegin (c : CmdRef)
  /-- STG_DATA (R404): Delivers image bytes of the host stream at the next offset. -/
  | stgData (c : CmdRef)
  /-- STG_END (R404): Waits for the load to end and returns its status. -/
  | stgEnd (c : CmdRef)
  /-- STG_ABORT (R263): STG_ABORT, or CFG_STG_CTL.ABORT, ends the staging with ABORTED after the current frame write. -/
  | stgAbort (v : Via)
  /-- HOST_STREAM_GAP (R404): No expected STG_DATA for 100 ms ends the staging with TRUNCATED. -/
  | hostStreamGap
  /-- SLOT_ERASE (R245): Requests the erase of a slot, or is refused with SLOT_BUSY. -/
  | slotErase (c : CmdRef)
  /-- SLOT_ERASE_DONE (R245): A slot erase completes, and the slot becomes EMPTY. -/
  | slotEraseDone (k : Fin 4)
  /-- SLOT_STAT (R399): Returns the CFG.SLOT registers of a slot. -/
  | slotStat (c : CmdRef)
  /-- SERVICE_ENTER (R244): Returns every pin to Frost, holds global clear and enters SERVICE. -/
  | serviceEnter (c : CmdRef)
  /-- SCRUB_READ (R268): Every INTERVAL, the readback checks one frame and corrects it or requests its rewrite. -/
  | scrubRead (ce : Fin 65) (bad : Bool)
  /-- BCAST (R375): A BCAST message chunk is forwarded and fed to the receiver's broadcast staging. -/
  | bcast (m : LaneMsg) (first last : Bool) (words : List DWord)
  /-- FRONT_ARM (R274): CFG_FRONT_CTL.ARM, or the FRONT_ARM command, arms a Front or refuses it with an arm status. -/
  | frontArm (v : Via)
  /-- FRONT_CANCEL (R280): CFG_FRONT_CTL.CANCEL, or FRONT_CANCEL, cancels an armed Front before D, or is refused with TOO_LATE. -/
  | frontCancel (v : Via)
  /-- FRONT_STAT (R399): Returns CFG_FRONT_STAT, NOTICE and LAST. -/
  | frontStat (c : CmdRef)
  /-- VERIFY_DONE (R276): Verification of the staged set passes or fails, and DONE may be released. -/
  | verifyDone (bad : List (BitVec 32 × Bool))
  /-- NOTICE (R278): A received arm notice is kept and matched, or causes a NOTICE or CONFLICT cancel. -/
  | notice (m : LaneMsg) (seq : BitVec 16) (dir : Bool) (tf d : DWord) (part : BitVec 16)
  /-- NOTICE_EXPIRY (R278): A kept notice is discarded at its D plus 1 us. -/
  | noticeExpiry (st : Fin 16)
  /-- VOTE_CLOSE (R279): At D minus 1 us, a device that is not VOTED cancels its Front. -/
  | voteClose
  /-- FRONT_COMMIT (R279): At D, DONE is sampled and the Front is committed or cancelled with VOTE. -/
  | frontCommit (line : Bool)
  /-- DONE_HOLD_END (R279): At D plus 1 us, a device that cancelled releases DONE. -/
  | doneHoldEnd
  /-- QUIET_END (R283): At TF plus 2.5 ns, clear is released and the regional clocks resume. -/
  | quietEnd
  /-- CROSSING_HOLD_END (R288): At TF plus 8 ns, held pins take the new configuration and deferred edges take effect. -/
  | crossingHoldEnd
  /-- POWER_UP (R294): The input rises above 33.0 V and the start-up sequence begins. -/
  | powerUp (vin : BitVec 16)
  /-- BASE_LOAD (R266): Start-up loads BASE into the active planes, and falls back to GOLDEN or to SERVICE. -/
  | baseLoad
  /-- RESET_N_ASSERT (R307): RESET_N held low for 1 us starts a cold reset. -/
  | resetNAssert
  /-- RESET_N_RELEASE (R307): The release of RESET_N begins start-up. -/
  | resetNRelease
  /-- COLD_RESET (R305): DEV_RESET_CTL or the RESET command starts a cold reset. -/
  | coldReset (v : Via)
  /-- WARM_RESET (R305): DEV_RESET_CTL or the RESET command starts a warm reset. -/
  | warmReset (v : Via)
  /-- MANAGEMENT_WATCHDOG (R306): The management watchdog expires and starts a warm reset. -/
  | managementWatchdog
  /-- DONE_RELEASE_POINT (R302): At k ms plus 0.2 ms, a ready device releases DONE. -/
  | doneReleasePoint
  /-- DONE_SAMPLE (R302): At k ms plus 0.5 ms, DONE is sampled and DONE_SEEN may set. -/
  | doneSample (line : Bool)
  /-- THAW (R303): At the next 1 ms boundary after DONE is seen, global clear is released and the pins leave Frost. -/
  | thaw
  /-- SUPPLY_BELOW_RESET (R310): The input falls below 33.0 V, loads are shed, the last-gasp record is programmed and a cold reset follows. -/
  | supplyBelowReset
  /-- GASP_SECTOR_ERASE (R311): A last-gasp sector whose slots are all used is erased in the background. -/
  | gaspSectorErase
  /-- STARTUP_WRITE (R295): Writes the start-up record. -/
  | startupWrite (c : CmdRef)
  /-- KEY_INSERTION (R313): KEY_PRESENT_N has been low for 50 ms, and KEY_VCC switches on. -/
  | keyInsertion (k : KeyChip)
  /-- KEY_REMOVAL (R313): KEY_PRESENT_N goes high, KEY_VCC switches off, and stagings and write-backs end. -/
  | keyRemoval
  /-- KEY_DISCOVERY (R315): After power and reset of the key, SFDP is read, the mode is chosen and the directory is read. -/
  | keyDiscovery
  /-- KEY_VOLTAGE_RETRY (R314): With AUTO, after 10 ms off, discovery is repeated at 3.3 V. -/
  | keyVoltageRetry
  /-- KEY_OVERCURRENT (R314): A KEY_VCC load above 180 mA for 100 us switches the supply off and sets OC. -/
  | keyOvercurrent
  /-- KEY_SELECT (R320): KEY_CMD.SELECT, KEY_SELECT or AUTO_STAGE selects a format entry and starts its staging. -/
  | keySelect (v : Via)
  /-- KEY_RESCAN (R319): Repeats discovery and the directory read. -/
  | keyRescan (v : Via)
  /-- KEY_STAT (R399): Returns KEY_STAT, KEY_FMT_STAT and KEY_ID. -/
  | keyStat (c : CmdRef)
  /-- KEY_READ (R399): Returns bytes read from the key. -/
  | keyRead (c : CmdRef)
  /-- SETTINGS_LOAD (R323): Settings records are verified and written to PRM, the blocks are bound and the journal is replayed. -/
  | settingsLoad (fail : Option Nat)
  /-- KEY_WB (R326): KEY_CMD.WB or KEY_WB writes the dirty bound blocks into journal records. -/
  | keyWb (v : Via) (fail : Option Nat)
  /-- WB_PERIOD_EXPIRY (R326): Every KEY_WB_PERIOD ms with WB_AUTO set and a block dirty, a write-back runs. -/
  | wbPeriodExpiry (fail : Option Nat)
  /-- PRM_WINDOW_WRITE (R325): A write to the PRM window passes the arbiter and sets DIRTY of a bound block. -/
  | prmWindowWrite (k : Fin 1048576) (w : Word)
  /-- PRM_READ (R399): Returns bytes of the parameter store. -/
  | prmRead (c : CmdRef)
  /-- PRM_WRITE (R399): Writes bytes of the parameter store. -/
  | prmWrite (c : CmdRef)
  /-- NV_PROGRAM (R337): NVC_OP_CTL OP 1, or NV_PROGRAM, requests a program of code words. -/
  | nvProgram (v : Via)
  /-- NV_ERASE (R338): NVC_OP_CTL OP 2, or NV_ERASE, requests a sector erase. -/
  | nvErase (v : Via)
  /-- NV_SUSPEND (R344): NVC_OP_CTL.SUSPEND, or NV_SUSPEND, suspends the pending erase. -/
  | nvSuspend (v : Via)
  /-- NV_RESUME (R344): NVC_OP_CTL.RESUME, or NV_RESUME, clears the command hold and possibly WARN_HOLD. -/
  | nvResume (v : Via)
  /-- NV_READ (R336): An arbitrated read of user NV returns data and a completion word. -/
  | nvRead (c : CmdRef)
  /-- NV_STAT (R399): Returns NVC_STAT, SUSP_CNT and ERASE_AGE. -/
  | nvStat (c : CmdRef)
  /-- NV_WINDOW_READ (R333): A read of the user NV window is served at once, stalls, or suspends an erase. -/
  | nvWindowRead (k : Fin 16777216) (ecc : Ecc)
  /-- NV_WINDOW_WRITE (R333): A write to the NV read window is ignored and sets CMD_ERR. -/
  | nvWindowWrite (k : Fin 16777216) (w : Word)
  /-- NV_PROGRAM_STEP (R337): A program pulse and its verify complete, and the word is marked DONE, stepped again or failed. -/
  | nvProgramStep (pass : Bool)
  /-- NV_ERASE_PULSE (R338): An erase pulse and its verify complete, and the sector becomes ERASED, is pulsed again or is remapped. -/
  | nvErasePulse (pass : Bool)
  /-- NV_RESUME_IDLE (R341): RESUME_IDLE us without reads of its bank ends a read suspension. -/
  | nvResumeIdle
  /-- FRAME_RECEIVE (R355): A trunk frame is timestamped, filtered, eliminated as a duplicate or passed to its consumer. -/
  | frameReceive (p : Fin 2) (f : List Byte) (good : Bool)
  /-- PEER_DELAY_EXCHANGE (R364): A peer-delay exchange completes and counts toward JOIN_N. -/
  | peerDelayExchange (p : Fin 2) (delay : Word)
  /-- LINK_UP (R364): A trunk PHY link comes up and the port enters LINK. -/
  | linkUp (p : Fin 2)
  /-- LINK_DOWN (R363): A trunk link fails, and the port leaves IN_SERVICE with its queues discarded. -/
  | linkDown (p : Fin 2)
  /-- GCL_CHANGE (R360): GCL_CTL.CHANGE requests a gate control list change at a commanded time. -/
  | gclChange (p : Fin 2) (w : Word)
  /-- GCL_CHANGE_BOUNDARY (R360): At boundary B, the admin list becomes the operational list. -/
  | gclChangeBoundary (p : Fin 2)
  /-- GATE_INTERVAL_END (R359): A gate control entry's interval ends and the next entry's gates apply. -/
  | gateIntervalEnd (p : Fin 2)
  /-- FRAME_TRANSMIT (R358): The highest open queue with a frame that fits before its gate closes starts transmitting. -/
  | frameTransmit (p : Fin 2)
  /-- RECOVERY_RESET (R362): No frame of a stream for NET_RESET_MS resets its recovery. -/
  | recoveryReset (i : Fin 64)
  /-- LATENT_ERROR_TEST (R362): At the end of each 2 s test period, latent error detection is evaluated. -/
  | latentErrorTest
  /-- WAKE_FRAME (R366): A wake frame received in RET wakes the port. -/
  | wakeFrame (p : Fin 2) (f : List Byte)
  /-- LINE_ENERGY (R366): Line energy for 1 ms wakes an OFF port and starts link-up. -/
  | lineEnergy (p : Fin 2)
  /-- HELLO (R368): A HELLO message updates the lane neighbour and the sync domain, or isolates the lane. -/
  | hello (m : LaneMsg) (master : Option (Fin 16)) (hops : Fin 8) (stations : BitVec 16) (chosen : Bool)
  /-- TIME (R372): A TIME message on the upstream lane gives an offset that the servo steers by. -/
  | time (m : LaneMsg) (t : DWord) (step : Bool)
  /-- DELAY_REQ (R372): A DELAY_REQ message is answered for the lane delay measurement. -/
  | delayReq (m : LaneMsg)
  /-- DELAY_RESP (R372): A DELAY_RESP message completes a one-way delay measurement. -/
  | delayResp (m : LaneMsg) (t2 t3 : DWord)
  /-- DELAY_MEASURE_TIMER (R372): Every 1 ms, a DELAY exchange starts on each tree lane. -/
  | delayMeasureTimer (l : Fin 8)
  /-- TIME_SEND_TIMER (R372): Every 8 us, TIME is sent on every downstream lane. -/
  | timeSendTimer
  /-- LANE_DOWN (R369): A sync lane fails, and the station chooses a new upstream lane. -/
  | laneDown (l : Fin 8)
  /-- COMMAND (R382): A command packet arrives, is authenticated, sequence-checked and ordered by arrival stamp. -/
  | command
  /-- RUN_COMMAND_START (R393): At its stamp plus 1 us, a RUN-class command starts, or is refused with CONFLICT. -/
  | runCommandStart (c : CmdRef)
  /-- SVC_WRITE (R381): A service-port WRITE transaction delivers a packet, or is discarded when its length is wrong. -/
  | svcWrite (b : List Byte)
  /-- SVC_READ (R381): A service-port READ transaction shifts out the oldest queued packet. -/
  | svcRead
  /-- SVC_STATUS (R381): A service-port STATUS transaction shifts out the queue status. -/
  | svcStatus
  /-- SESSION_TIMEOUT (R385): No valid packet for SESSION_TMO closes an OPEN session. -/
  | sessionTimeout (k : Fin 4)
  /-- OPENING_TIMEOUT (R385): No verified command within 1 s returns an OPENING session to FREE. -/
  | openingTimeout (k : Fin 4)
  /-- LEASE_LAPSE (R395): The lease lapses after LEASE_MS and may perform the lapse HOLD. -/
  | leaseLapse
  /-- EVENT_REPORT (R408): EVENT packets report subscribed events to the sessions. -/
  | eventReport (k : Fin 4)
  /-- IDENTIFY (R400): Returns the identity block. -/
  | identify (c : CmdRef)
  /-- SESSION_OPEN (R384): Opens a session and exchanges nonces for the session key. -/
  | sessionOpen (c : CmdRef)
  /-- SESSION_CLOSE (R385): Closes the session. -/
  | sessionClose (c : CmdRef)
  /-- PING (R399): Returns device time. -/
  | ping (c : CmdRef)
  /-- REG_READ (R403): Reads registers in ascending order. -/
  | regRead (c : CmdRef) (ecc : List Ecc)
  /-- REG_WRITE (R403): Writes registers in ascending order without interleaving. -/
  | regWrite (c : CmdRef)
  /-- REG_RMW (R403): Reads, masks and writes a register and returns the old value. -/
  | regRmw (c : CmdRef) (ecc : Ecc)
  /-- ACT_POST (R401): Offers action records to port 80 and returns their post statuses. -/
  | actPost (c : CmdRef)
  /-- TIME_READ (R399): Returns device time and CLK_TB_STAT. -/
  | timeRead (c : CmdRef)
  /-- PWR_STAT (R399): Returns a domain's state and last-wake record. -/
  | pwrStat (c : CmdRef)
  /-- AUX_SET (R458): AUX_SET, or a write of ANA.AUX[k].CTL, sets an auxiliary output's enable, shed policy and priority. -/
  | auxSet (v : ViaN)
  /-- EVT_SUBSCRIBE (R408): Sets the session's event subscription mask. -/
  | evtSubscribe (c : CmdRef)
  /-- EVT_READ (R399): Returns cause registers. -/
  | evtRead (c : CmdRef)
  /-- EVT_ACK (R399): Clears cause bits as a W1C write does. -/
  | evtAck (c : CmdRef)
  /-- ENG_RUN (R96): Sets RUN_EN of the engines in a mask. -/
  | engRun (c : CmdRef)
  /-- ENG_HOLD (R96): Clears RUN_EN of the engines in a mask. -/
  | engHold (c : CmdRef)
  /-- ENG_STAT (R399): Returns MAP, STAT, CAUSE and LOST of a logical engine's holder. -/
  | engStat (c : CmdRef)
  /-- LEASE_ACQUIRE (R392): Grants the lease when no session holds it. -/
  | leaseAcquire (c : CmdRef)
  /-- LEASE_RENEW (R392): Renews the lease. -/
  | leaseRenew (c : CmdRef)
  /-- LEASE_RELEASE (R392): Releases the lease. -/
  | leaseRelease (c : CmdRef)
  /-- LEASE_STAT (R399): Returns CMD_STAT. -/
  | leaseStat (c : CmdRef)
  /-- HOLD (R396): Cancels a Front, cancels actions, clears RUN_EN and stops tables as FLAGS select, and ORs CODE into EV242. -/
  | hold (c : CmdRef)
  /-- STOP (R397): Applies a HOLD, optionally halts engines, ORs CODE into EV243 and revokes the lease. -/
  | stop (c : CmdRef)
  /-- VAULT_PROV (R402): Provisions a vault key or the policy, in SERVICE on the service port only. -/
  | vaultProv (c : CmdRef)
  /-- FW_BEGIN (R399): Starts a firmware update into the inactive slot. -/
  | fwBegin (c : CmdRef)
  /-- FW_DATA (R399): Delivers firmware bytes at the next offset. -/
  | fwData (c : CmdRef)
  /-- FW_DATA_GAP (R399): A 100 ms gap without firmware data ends the update. -/
  | fwDataGap
  /-- FW_END (R350): Verifies the update and marks the slot bootable. -/
  | fwEnd (c : CmdRef) (ok : Bool)
  /-- TEST_UNLOCK (R487): In SERVICE, zeroises loaded keys, closes sessions and unlocks test access. -/
  | testUnlock (c : CmdRef)
  /-- GRANT_DECISION (R414): In an arbiter cycle, the lock owner, the longest waiter or the highest rank is granted a beat. -/
  | grantDecision (r : Fin 5)
  /-- BACKOFF_EXPIRY (R416): A losing requester's back-off runs out and it presents its request again. -/
  | backoffExpiry (r : Fin 5) (q : Fin 83)
  /-- BEAT_COMPLETE (R419): A granted beat completes and may end a lock. -/
  | beatComplete (r : Fin 5) (ecc : List Ecc)
  /-- LOCK_GAP_EXPIRY (R421): The lock owner presents no beat within LOCK_GAP, and the lock ends. -/
  | lockGapExpiry (r : Fin 5)
  /-- ARB_MODE_WRITE (R423): A write of MODE takes effect from the management controller, or is refused for any other source. -/
  | arbModeWrite (r : Fin 5) (w : Word)
  /-- DOM_REQ_ON (R433): PWR.DOM[d].REQ ON, or PWR_REQ, wakes a domain. -/
  | domReqOn (v : ViaN)
  /-- DOM_REQ_RET (R430): A request for RET starts entry, or is queued, held or refused. -/
  | domReqRet (v : ViaN)
  /-- DOM_REQ_OFF (R432): A request for OFF starts entry, or is demoted to RET or refused. -/
  | domReqOff (v : ViaN)
  /-- DOMAIN_RESET (R440): A request with STATE 3 takes a domain through the cold path. -/
  | domainReset (v : ViaN)
  /-- IDLE_TIMEOUT (R431): A domain idle for IDLE enters IDLE_TGT. -/
  | idleTimeout (d : Fin 135)
  /-- WAKE_REQUEST (R433): A wake source asks a domain in RET or OFF to wake. -/
  | wakeRequest (d : Fin 135) (src : Fin 16)
  /-- ENTRY_DONE (R430): Entry to RET or OFF completes, and any latched wake or kept request is acted on. -/
  | entryDone (d : Fin 135)
  /-- WAKE_DONE (R437): A wake from RET performs the retention checks and restores the registers, or takes the cold path. -/
  | wakeDone (d : Fin 135) (r : Retention)
  /-- COLD_RESTORE_DONE (R438): A cold path completes, the domain is ON and EV209 is raised. -/
  | coldRestoreDone (d : Fin 135)
  /-- SUPPLY_WARNING (R453): The input falls below the warning level, EV200 is raised and NV, slots, write-back and outputs respond. -/
  | supplyWarning
  /-- CLEAR_LEVEL_RISE (R454): The input rises through the clear level, and the 500 us count starts. -/
  | clearLevelRise
  /-- WARNING_CLEAR (R454): After 500 us at or above the clear level, warning ends and EV201 is raised. -/
  | warningClear
  /-- PORT_POWER_LOSS (R451): A port loses power, and the other takes the load. -/
  | portPowerLoss (p : Fin 2)
  /-- PORT_POWER_RETURN (R451): Power returns on a port. -/
  | portPowerReturn (p : Fin 2)
  /-- PORT_OVERVOLTAGE (R449): An input above 62.0 V for 10 us disconnects the port. -/
  | portOvervoltage (p : Fin 2)
  /-- OVERVOLTAGE_RECONNECT (R449): After 10 ms below 60.0 V, the port reconnects. -/
  | overvoltageReconnect (p : Fin 2)
  /-- INTAKE_CURRENT_LIMIT (R450): A port running at the 1.30 A limit sets its current-limit bit. -/
  | intakeCurrentLimit (p : Fin 2)
  /-- POWER_MEASURE (R452): Every 10 us, inputs and consumer groups are measured and EV206 may be raised. -/
  | powerMeasure (m : PowerSample)
  /-- AUX_SOFT_START_DONE (R460): An auxiliary output reaches regulation, and its trips apply. -/
  | auxSoftStartDone (k : Fin 8)
  /-- AUX_START_TIMEOUT (R460): An output not in regulation within 5 ms trips with cause START. -/
  | auxStartTimeout (k : Fin 8)
  /-- AUX_FUSE_TRIP (R460): An overload or short circuit trips an output off and clears EN. -/
  | auxFuseTrip (k : Fin 8)
  /-- AUX_BUDGET_CHECK (R461): Every 2 ms, the auxiliary power sum is checked and an output is shed when it is over budget. -/
  | auxBudgetCheck (sum : Nat)
  /-- AUX_STAGGER_ON (R459): At 200 us steps after warning ends, the next pending output switches on. -/
  | auxStaggerOn
  /-- THERMAL_READ (R463): Every 100 us, the junction sensors are read against the warning and critical levels. -/
  | thermalRead (t : List (BitVec 16))
  /-- DRIZZLE_SLICE_START (R468): The self-test controller starts a slice on a unit held by its spare or in an idle window. -/
  | drizzleSliceStart (t : Fin 7)
  /-- SLICE_END (R476): A slice ends PASS or FAIL, and a FAIL is recorded and run again. -/
  | sliceEnd (t : Fin 7) (pass : Bool) (addr : Word) (bit : Fin 128)
  /-- PASS_PERIOD_EXPIRY (R475): A coverage period ends with its pass incomplete, and LATE is counted. -/
  | passPeriodExpiry (t : Fin 7)
  /-- TST_REINSTATE (R482): Reinstates a retired block or a FAULTY spare after a clean pass, or sets CMD_ERR. -/
  | tstReinstate (w : Word)
  /-- JTAG_INSTRUCTION (R486): A JTAG instruction is loaded, and acts as BYPASS when it is locked or reserved. -/
  | jtagInstruction (i : Byte)
  /-- TEST_LOGIC_RESET (R486): Test-Logic-Reset by TMS or TRST_N selects IDCODE. -/
  | testLogicReset
  /-- CAUSE_CLEAR (R491): A W1C write clears cause bits, and a bit set in the same clock stays set. -/
  | causeClear (ev : Fin 320) (w : Word)
  /-- SUBSCRIPTION_SIGNAL (R496): A firing engine subscription delivers a SIGNAL to the logical engine, waking its domain if needed. -/
  | subscriptionSignal
  /-- EVT_ROUTE_WRITE (R498): A SUB or FAB write naming an invalid source is ignored and sets CMD_ERR. -/
  | evtRouteWrite (a : Word) (w : Word)
  /-- READ_CLEAR (R5): A read of an RC register returns the value and then clears it. -/
  | readClear (a : Word)
  /-- REGISTER_WRITE (R5): A write to a register with no row of its own takes effect by its access code and the reserved-field rules. -/
  | registerWrite (a : Word) (w : Word)
  /-- FABRIC_POST (R210): A sector's post interface takes a 128-bit action record by valid/ready handshake into the group's port FIFO and returns its post status in order. -/
  | fabricPost (i : Fin 48) (w : QWord)
  /-- SAMPLING_EDGE (R216): At each rising edge of the TRC_CTL.CLK tree in ARMED or TRIGGERED, the trace stores the 64 channel values with the device time, by MODE, and tests the trigger. -/
  | samplingEdge (t : Fin 32) (v : DWord) (q : Fin 160)
  /-- ERASE_SEGMENT_END (R338): An erase pulse segment of 2.5 us ends, and a pending read or command suspension takes effect with the erase shown as suspended and EV182 raised. -/
  | eraseSegmentEnd
  /-- PDELAY_REQ_INTERVAL (R357): Every logPdelayReqInterval, each trunk port running 802.1AS sends a peer-delay request, and an exchange without a response counts against asCapable. -/
  | pdelayReqInterval (p : Fin 2)
  /-- LANE_UP (R368): A sync-link lane completes training and alignment, sets its up cause bit of EV150 + l, and starts exchanging HELLO messages. -/
  | laneUp (l : Fin 8)
  /-- CLEAR_LEVEL_FALL (R454): While warning is in force, the input falls below the clear level without reaching the warning level, and the 500 us count ends with HOLDING cleared. -/
  | clearLevelFall
  /-- CT_PERIOD_BOUNDARY (R68): At each period boundary BASE + k x PERIOD of a running table, BASE advances to the new period and PERIODS increments. -/
  | ctPeriodBoundary (t : Fin 16)
  /-- PWM_EDGE (R172): At each activation or deactivation instant of a carrier period, an enabled PWM output delivers its edge, with dead time and inversion applied, to the launch cell that it owns. -/
  | pwmEdge (e : Fin 64) (k : Fin 6)
  /-- LONG_WAIT (R424): A request at an arbiter has waited longer than WAIT_WARN arbiter cycles, and the resource's bit of EV235 is set. -/
  | longWait (r : Fin 5)
deriving DecidableEq, Repr

end Sys2Proof
end

