-- ==== Sys2Proof/WellFormed.lean ====
section
/-!
DEFINITION. Sys2Proof/WellFormed.lean: what a command's operands must be for it to exist at the device's boundary: how much a
port, a link or a transaction can carry. Where an operand has a fixed range its type gives it (Sys2Proof/Syntax.lean).
-/
namespace Sys2Proof

/-- SEQ of a command packet is a 32-bit field (R379). -/
def CmdRef.wf (c : CmdRef) : Bool := decide (c.seq < 2 ^ 32)

/-- A register or a command (R379). -/
def Via.wf : Via → Bool
  | .reg _ => true
  | .cmd c => c.wf

/-- One of `count` registers, or a command. -/
def ViaN.wf (count : Nat) : ViaN → Bool
  | .reg i _ => decide (i < count)
  | .cmd c => c.wf

/-- One of four capture rings (R77), or a command. -/
def ReadVia.wf : ReadVia → Bool
  | .reg i => decide (i < 4)
  | .cmd c => c.wf

/-- A cycle-table order (R68). -/
def CtVia.wf : CtVia → Bool
  | .cmd c => c.wf
  | _ => true

/-- A mailbox write (R111). -/
def MboxVia.wf : MboxVia → Bool
  | .cmd c => c.wf
  | _ => true

/-- A key's flash: its bytes in ascending order of their addresses, and none beyond its density (R317). -/
def KeyChip.wf (k : KeyChip) : Bool :=
  k.flash.all (fun p => decide (p.1 < k.size)) &&
    (k.flash.zip k.flash.tail).all (fun p => decide (p.1.1 < p.2.1))

/-- A frame from its destination address to its payload holds two addresses and a type (R353). -/
def frameWf (f : List Byte) : Bool := decide (14 ≤ f.length)

/-- Data of a fabric request (R213, R413): `len` bytes for a program, a parameter write and a transmission, none otherwise. -/
def fabricData (op : Fin 6) (len : Nat) (data : List Byte) : Bool :=
  data.length == (if op = 1 ∨ op = 4 ∨ op = 5 then len else 0)

/-- The operands of a command are ones that its port, its link or its transaction can carry. -/
def Instr.wf : Instr → Bool
  | .schedulerTick | .postAccept | .prewakeRequest | .driveLow _ | .driveHigh _ | .toggle _ | .release _
  | .pulseHigh _ | .pulseLow _ | .pulseTrailingEdge _ | .cycle _ | .signal _ | .strobe _ | .disarm _ | .armRise _
  | .armFall _ | .armBoth _ | .winRise _ | .winFall _ | .winBoth _ | .captureEdge _ _ _ | .windowClose _ | .convert _
  | .sequence _ | .adcResult _ _ | .ctEntryPost _ | .ctStopBoundary _ | .ctSwapBoundary _ | .ctCopybackDone _
  | .raise _ | .add _ | .countDown _ | .load _ | .action _ _ _ | .front | .frontBack | .holdover | .clkTbCtlWrite _
  | .timeStepApply | .resFail _ | .lossOfLock _ _ | .lockComplete _ | .timeWaitExpiry | .adpllEnable _ _ | .relock _
  | .fcwWrite _ _ | .slewDone _ | .outputCtlWrite _ _ _ | .gclkSrcWrite _ _ | .runEnClear _ | .lockstepMismatch _ _
  | .migrationCopyDone _ | .engineWatchdog _ | .dataRamHostWrite _ _ _ | .farFlush _ | .farLineFill _ _ _
  | .effectStatusReturn _ | .drainTimeout _ | .waitTimeout _ | .waittWake _ | .bpAck _ _ | .bpTimeout _ | .alu _
  | .addi _ | .andi _ | .ori _ | .xori _ | .shi _ | .ldi _ | .insh _ | .cmpi _ | .nop _ | .fpu _ | .fma _ | .ld _ _
  | .ldw _ _ | .ldws _ _ | .st _ | .stw _ | .bcc _ | .jmp _ | .call _ | .jr _ | .ret _ | .fret _ | .fcall _ | .post _
  | .cancel _ | .waitt _ | .waitf _ | .tfclr _ | .send _ | .recv _ | .peek _ | .recvm _ | .bprd _ | .bpwr _ | .uwr _
  | .urd _ | .trjGo _ | .trjStop _ | .qstop _ | .trjStep _ | .engage _ _ | .disengage _ | .camStep _ _ | .vmset _
  | .loopReset _ | .biqReset _ | .apply _ | .pwmWriteApply _ | .cami _ _ | .loopx _ | .biqx _ | .limx _ | .mfs _
  | .mts _ | .cend _ | .prelog _ | .ckhNoretry _ | .logfree _ | .rqNvRead _ _ | .rqNvProgram _ _ | .rqNvErase _ _
  | .rqPrmRead _ _ | .rqPrmWrite _ _ | .rqTrunkTransmit _ _ | .quadratureCount _ _ _ | .indexEdge _ _ | .dsClklost _
  | .contention _ _ _ | .scrubRewriteDone _ | .fabricCancel _ _ | .fabricMboxWrite _ _ _ _ | .eventPortPulse _ _ _
  | .prbPinWrite _ _ | .traceTrigger | .traceDone | .bramEccError _ _ _ _ _ _ | .memSweepRead _ _ _ _
  | .residueMismatch _ _ | .memMove _ _ | .memReturn _ _ | .bramInitDone _ _ | .imageHeader | .frame _
  | .hostStreamGap | .slotEraseDone _ | .scrubRead _ _ | .notice _ _ _ _ _ _ | .noticeExpiry _ | .voteClose
  | .frontCommit _ | .doneHoldEnd | .quietEnd | .crossingHoldEnd | .powerUp _ | .baseLoad | .resetNAssert
  | .resetNRelease | .managementWatchdog | .doneReleasePoint | .doneSample _ | .thaw | .supplyBelowReset
  | .gaspSectorErase | .keyRemoval | .keyDiscovery | .keyVoltageRetry | .keyOvercurrent | .settingsLoad _
  | .wbPeriodExpiry _ | .prmWindowWrite _ _ | .nvWindowRead _ _ | .nvWindowWrite _ _ | .nvProgramStep _
  | .nvErasePulse _ | .nvResumeIdle | .peerDelayExchange _ _ | .linkUp _ | .linkDown _ | .gclChange _ _
  | .gclChangeBoundary _ | .gateIntervalEnd _ | .frameTransmit _ | .recoveryReset _ | .latentErrorTest
  | .lineEnergy _ | .hello _ _ _ _ _ | .time _ _ _ | .delayReq _ | .delayResp _ _ _ | .delayMeasureTimer _
  | .timeSendTimer | .laneDown _ | .command | .svcRead | .svcStatus | .sessionTimeout _ | .openingTimeout _
  | .leaseLapse | .eventReport _ | .fwDataGap | .grantDecision _ | .backoffExpiry _ _ | .lockGapExpiry _
  | .arbModeWrite _ _ | .idleTimeout _ | .wakeRequest _ _ | .entryDone _ | .wakeDone _ _ | .coldRestoreDone _
  | .supplyWarning | .clearLevelRise | .warningClear | .portPowerLoss _ | .portPowerReturn _ | .portOvervoltage _
  | .overvoltageReconnect _ | .intakeCurrentLimit _ | .auxSoftStartDone _ | .auxStartTimeout _ | .auxFuseTrip _
  | .auxBudgetCheck _ | .auxStaggerOn | .drizzleSliceStart _ | .sliceEnd _ _ _ _ | .passPeriodExpiry _
  | .tstReinstate _ | .jtagInstruction _ | .testLogicReset | .causeClear _ _ | .subscriptionSignal
  | .evtRouteWrite _ _ | .readClear _ | .registerWrite _ _ | .fabricPost _ _ | .samplingEdge _ _ _ | .eraseSegmentEnd
  | .pdelayReqInterval _ | .laneUp _ | .clearLevelFall | .ctPeriodBoundary _ | .pwmEdge _ _ | .longWait _ => true
  | .actCancel v => v.wf
  | .capRead v => v.wf
  | .ctStart v => v.wf
  | .ctStop v => v.wf
  | .ctSwap v => v.wf
  | .ctWrite c => c.wf
  | .timeStep v => v.wf
  | .migrate v => v.wf 68
  | .haltClr v => v.wf 68
  | .reinstate v => v.wf 68
  | .mboxWrite v => v.wf
  | .ssiFrameEnd _ bits _ => decide (bits < 2 ^ 48)
  | .dsSample _ _ bits => decide (bits.length ≤ 766)
  | .fabricRequest _ op _ len data _ => decide (len < 2 ^ 16) && fabricData op len data
  | .trcArm v => v.wf
  | .trcStop v => v.wf
  | .trcForce v => v.wf
  | .trcRead c => c.wf
  | .bramCopyDone _ errs => decide (errs.length ≤ 512)
  | .stagingGo v => v.wf
  | .stgBegin c => c.wf
  | .stgData c => c.wf
  | .stgEnd c => c.wf
  | .stgAbort v => v.wf
  | .slotErase c => c.wf
  | .slotStat c => c.wf
  | .serviceEnter c => c.wf
  | .bcast _ _ _ words => decide (words.length ≤ 64)
  | .frontArm v => v.wf
  | .frontCancel v => v.wf
  | .frontStat c => c.wf
  | .verifyDone bad => decide (bad.length ≤ 100864)
  | .coldReset v => v.wf
  | .warmReset v => v.wf
  | .startupWrite c => c.wf
  | .keyInsertion k => k.wf
  | .keySelect v => v.wf
  | .keyRescan v => v.wf
  | .keyStat c => c.wf
  | .keyRead c => c.wf
  | .keyWb v _ => v.wf
  | .prmRead c => c.wf
  | .prmWrite c => c.wf
  | .nvProgram v => v.wf
  | .nvErase v => v.wf
  | .nvSuspend v => v.wf
  | .nvResume v => v.wf
  | .nvRead c => c.wf
  | .nvStat c => c.wf
  | .frameReceive _ f _ => frameWf f
  | .wakeFrame _ f => frameWf f
  | .runCommandStart c => c.wf
  | .svcWrite b => decide (b.length ≤ 1500)
  | .identify c => c.wf
  | .sessionOpen c => c.wf
  | .sessionClose c => c.wf
  | .ping c => c.wf
  | .regRead c ecc => c.wf && decide (ecc.length ≤ 256)
  | .regWrite c => c.wf
  | .regRmw c _ => c.wf
  | .actPost c => c.wf
  | .timeRead c => c.wf
  | .pwrStat c => c.wf
  | .auxSet v => v.wf 8
  | .evtSubscribe c => c.wf
  | .evtRead c => c.wf
  | .evtAck c => c.wf
  | .engRun c => c.wf
  | .engHold c => c.wf
  | .engStat c => c.wf
  | .leaseAcquire c => c.wf
  | .leaseRenew c => c.wf
  | .leaseRelease c => c.wf
  | .leaseStat c => c.wf
  | .hold c => c.wf
  | .stop c => c.wf
  | .vaultProv c => c.wf
  | .fwBegin c => c.wf
  | .fwData c => c.wf
  | .fwEnd c _ => c.wf
  | .testUnlock c => c.wf
  | .beatComplete _ ecc => decide (ecc.length ≤ 8)
  | .domReqOn v => v.wf 135
  | .domReqRet v => v.wf 135
  | .domReqOff v => v.wf 135
  | .domainReset v => v.wf 135
  | .powerMeasure m => m.rail.length == 4 && m.aux.length == 8
  | .thermalRead t => t.length == 8

end Sys2Proof
end

