-- ==== Sys2Proof/Decode.lean ====
section
/-!
DEFINITION. Sys2Proof/Decode.lean: the commands that a word spells. spec/opcode_table.json gives no row any bits: the block
takes commands, and no word spells one.
-/
namespace Sys2Proof

/-- The command that an instruction word spells: none (no row of the table has bits). -/
def decodeTableWord (_nbits _w : Nat) : Option Instr := none

end Sys2Proof
end

