-- ==== Sys2Proof/Machine/Bits.lean ====
section
/-!
DEFINITION. Sys2Proof/Machine/Bits.lean: bit fields, sign extension, saturating counts, byte order (R8) and the
wrapped comparison of device times (R16).
-/
namespace Sys2Proof.Machine

/-- Field [hi:lo] of a 32-bit register, as a number (00_scope.md: a bit range is written [msb:lsb]). -/
def fld (w : Word) (hi lo : Nat) : Nat := (w.toNat >>> lo) % 2 ^ (hi + 1 - lo)

/-- The register with field [hi:lo] set to `v` (taken modulo the width of the field). -/
def setFld (w : Word) (hi lo v : Nat) : Word :=
  BitVec.ofNat 32
    (w.toNat - (((w.toNat >>> lo) % 2 ^ (hi + 1 - lo)) <<< lo) + ((v % 2 ^ (hi + 1 - lo)) <<< lo))

/-- Bit `i` of a register. -/
def bitOf (w : Word) (i : Nat) : Bool := w.toNat.testBit i

/-- The register with bit `i` set to `b`. -/
def setBitOf (w : Word) (i : Nat) (b : Bool) : Word := setFld w i i b.toNat

/-- Bits [hi:lo] of any number, as a number. -/
def nbits (n hi lo : Nat) : Nat := (n >>> lo) % 2 ^ (hi + 1 - lo)

/-- Sign-extension of the low `w` bits of `n` to an integer. -/
def sextInt (w n : Nat) : Int :=
  let m := n % 2 ^ w
  if m < 2 ^ (w - 1) then (m : Int) else (m : Int) - (2 ^ w : Nat)

/-- A 64-bit word from an integer, modulo 2^64. -/
def dw (i : Int) : DWord := BitVec.ofInt 64 i

/-- A 32-bit count incremented by `n`, saturating at the largest value of its `width` bits. -/
def satAdd (width : Nat) (c n : Nat) : Nat := min (c + n) (2 ^ width - 1)

/-- The low 32 bits of a 64-bit value: the _LO register of a pair (R7). -/
def loW (d : DWord) : Word := BitVec.ofNat 32 d.toNat
/-- The high 32 bits of a 64-bit value: the _HI register of a pair (R7). -/
def hiW (d : DWord) : Word := BitVec.ofNat 32 (d.toNat >>> 32)
/-- A 64-bit value from its _LO and _HI registers (R7). -/
def pairW (lo hi : Word) : DWord := BitVec.ofNat 64 (hi.toNat <<< 32 + lo.toNat)

/-- The signed wrapped difference a − b of two device times (R16, R17). -/
def tdiff (a b : DWord) : Int := (a - b).toInt

/-- Device time `a` is before `b` (R16): the wrapped difference b − a is greater than zero. -/
def before (a b : DWord) : Bool := decide (0 < tdiff b a)

/-- `a` is at or after `b` (R16). -/
def atOrAfter (a b : DWord) : Bool := !before a b

/-- The later of two device times (R16). -/
def laterOf (a b : DWord) : DWord := if before a b then b else a

/-- Device-time units of one microsecond (00_scope.md, common durations). -/
def unitsPerUs : Nat := 64000
/-- Device-time units of one millisecond. -/
def unitsPerMs : Nat := 64000000
/-- Device-time units of one 2.5 ns scheduler tick. -/
def unitsPerTick : Nat := 160

/-- `n` device-time units as a 64-bit value. -/
def units (n : Nat) : DWord := BitVec.ofNat 64 n

/-- The number a big-endian list of bytes spells (R8: packets, records on the wire). -/
def beNat : List Byte → Nat
  | [] => 0
  | b :: bs => b.toNat * 256 ^ bs.length + beNat bs

/-- The number a little-endian list of bytes spells (R8: memory and registers). -/
def leNat : List Byte → Nat
  | [] => 0
  | b :: bs => b.toNat + 256 * leNat bs

/-- `n` as `k` big-endian bytes. -/
def beBytes : Nat → Nat → List Byte
  | 0, _ => []
  | k + 1, n => BitVec.ofNat 8 (n >>> (8 * k)) :: beBytes k n

/-- `n` as `k` little-endian bytes. -/
def leBytes : Nat → Nat → List Byte
  | 0, _ => []
  | k + 1, n => BitVec.ofNat 8 n :: leBytes k (n >>> 8)

/-- Bytes [off, off+len) of a list. -/
def sliceB (l : List Byte) (off len : Nat) : List Byte := (l.drop off).take len

/-- The big-endian number in bytes [off, off+len) of a list. -/
def beAt (l : List Byte) (off len : Nat) : Nat := beNat (sliceB l off len)

/-- The indexes of the bits set in the low `n` bits of `m`, lowest first. -/
def bitsSet (n m : Nat) : List Nat := (List.range n).filter (fun i => m.testBit i)

end Sys2Proof.Machine
end

