-- ==== Sys2Proof/Machine/Crc.lean ====
section
/-!
DEFINITION. Sys2Proof/Machine/Crc.lean: the CRC-32 of configuration frames, key records, the repair log and the
canaries, with the parameters of R246.
-/
namespace Sys2Proof.Machine

/-- `k` shifts of the reflected polynomial 0x04C1_1DB7 (0xEDB8_8320 reflected). -/
def crcShift : Nat → Nat → Nat
  | 0, c => c
  | k + 1, c => crcShift k (if c % 2 = 1 then (c / 2) ^^^ 0xEDB88320 else c / 2)

/-- The register after a byte. -/
def crcByte (c : Nat) (b : Byte) : Nat := crcShift 8 (c ^^^ b.toNat)

/-- CRC-32 of a list of bytes: initial value and final XOR 0xFFFF_FFFF (R246). -/
def crc32 (l : List Byte) : Word := BitVec.ofNat 32 (l.foldl crcByte 0xFFFFFFFF ^^^ 0xFFFFFFFF)

end Sys2Proof.Machine
end

