-- ==== Sys2Proof/Config.lean ====
section
/-!
DEFINITION. Sys2Proof/Config.lean: what an implementation fixes and the spec leaves open. Every constant here is opaque
with no body: nothing can be proved of its value, so whatever is proved holds for every value.
-/
namespace Sys2Proof.Config

/-- A fresh value the spec leaves open, numbered by a counter of the state (`State.freeCtr`): the band found by a band
search (R32), the servo's law (R23), a device nonce (R384), data of an abandoned program (R346). -/
opaque freeBits : Nat → BitVec 64

/-- Whether tininess is detected before or after rounding, which IEEE 754-2019 leaves to the implementation (R130). -/
opaque tinyBeforeRounding : Bool

/-! The fabric's configuration fields, as a frame holds them: R194 gives the fields and R247 the frames, and the spec gives no place
of a field's bits within its frame. -/

/-- A signal that the device gives the logic of a sector: strobe `n` and bit `b` of its word (R207), REQ, WE and bit `b` of WDATA of port
interface `i` (R208), bit `b` of the read data and ERR of port `p` of a block RAM role (R225, R227), bit `b` of P and OVF of a
multiplier role (R230), a user pin used as an input, EVP[k] and EVL[k] of a fabric channel (R497). -/
inductive DevSig where
  | strobe (n : Nat)
  | strobeWord (n b : Nat)
  | piReq (i : Nat)
  | piWe (i : Nat)
  | piData (i b : Nat)
  | bramData (k p b : Nat)
  | bramErr (k p : Nat)
  | mulP (k b : Nat)
  | mulOvf (k : Nat)
  | pin (p : Nat)
  | evp (k : Nat)
  | evl (k : Nat)
deriving DecidableEq, Repr, Inhabited

/-- What a multiplexer at a bay selects (R197): nothing, an output of the bay, a segment readable there, by its length (0 to 3: 1, 4, 16,
64), its direction (0 E, 1 W, 2 N, 3 S), how far away its origin lies and its track; or a signal of the device. -/
inductive WireSrc where
  | none
  | out (k : Nat)
  | seg (len dir off track : Nat)
  | dev (x : DevSig)
deriving DecidableEq, Repr, Inhabited

/-- A wire taken at a bay of a sector. -/
structure Tap where
  bay : Nat := 0
  src : WireSrc := .none
deriving DecidableEq, Repr, Inhabited

/-- Product term: EN, LIT of input i in bits [2i + 1:2i], STEER (R194). -/
structure TermCfg where
  en    : Bool := false
  lit   : BitVec 80 := 0
  steer : BitVec 3 := 0
deriving DecidableEq, Repr, Inhabited

/-- Macrocell: MODE, POL, CLK, CE, CLR, PRE (R194). -/
structure CellCfg where
  mode : BitVec 2 := 0
  pol  : Bool := false
  clk  : BitVec 4 := 0
  ce   : BitVec 6 := 0
  clr  : BitVec 6 := 0
  pre  : BitVec 6 := 0
deriving DecidableEq, Repr, Inhabited

/-- LUT slot (R194). -/
structure SlotCfg where
  t     : BitVec 64 := 0
  frac  : Bool := false
  carry : Bool := false
  ciSel : BitVec 2 := 0
  daSel : BitVec 2 := 0
  dbSel : BitVec 2 := 0
  oaSel : Bool := false
  obSel : BitVec 2 := 0
  srvA  : Bool := false
  srvB  : Bool := false
deriving DecidableEq, Repr, Inhabited

/-- Quarter of a bay: CLK, CE, SR, SRMODE (R194). -/
structure QuarterCfg where
  clk   : BitVec 4 := 0
  ce    : BitVec 6 := 0
  sr    : BitVec 6 := 0
  async : Bool := false
deriving DecidableEq, Repr, Inhabited

/-- Product term `j` in the frame of part 0 of its bay; macrocell `m`, slot `l` and quarter `q` in that of part 1 (R247). -/
opaque termCfg (frame : List Byte) (j : Nat) : TermCfg
opaque cellCfg (frame : List Byte) (m : Nat) : CellCfg
opaque slotCfg (frame : List Byte) (l : Nat) : SlotCfg
opaque quarterCfg (frame : List Byte) (q : Nat) : QuarterCfg

/-- What output `n` (0–159) of the bay input mux selects, and what drives the segment of length `len`, direction `dir` and track `t`
that starts at the bay, in the frame of part 2 (R196, R247). -/
opaque muxSrc (frame : List Byte) (n : Nat) : WireSrc
opaque startSrc (frame : List Byte) (len dir t : Nat) : WireSrc

/-- The driver select of length-64 segment `seg` = 4 × origin bay + direction in the frame that holds it, and the source of its tap `j`
in the interface frames, joined (R198). -/
opaque selectOf (frame : List Byte) (seg : Nat) : BitVec 8
opaque tapSrc (frames : List Byte) (seg j : Nat) : WireSrc

/-- Whether the sector retimes the deassertion of global tree `t` to its regional clock `j`, in its interface frames (R205). -/
opaque retimes (frames : List Byte) (t j : Nat) : Bool

/-- The regional clock of an interface of the sector: 0–7 port interfaces, 8 posts, 9 mailboxes, 10 events, 11 requests. -/
opaque ifaceClk (frames : List Byte) (k : Nat) : BitVec 4

/-- A port of a block RAM role: regional clock, width (0 the whole word, 1 a half, 2 a quarter, 3 an eighth), OUTREG, READ_MODE (R223,
R225). -/
structure PortCfg where
  clk  : BitVec 4 := 0
  width : BitVec 2 := 0
  outReg : Bool := false
  readMode : BitVec 2 := 0
deriving DecidableEq, Repr, Inhabited

/-- A block RAM role: ECC and its ports A and B (R222, R223). -/
structure BramCfg where
  ecc : Bool := false
  a : PortCfg := {}
  b : PortCfg := {}
deriving DecidableEq, Repr, Inhabited

/-- A multiplier role (R230, R231). -/
structure MulCfg where
  clk  : BitVec 4 := 0
  mode : BitVec 2 := 0
  signA : Bool := false
  signB : Bool := false
  sat  : Bool := false
  areg : Bool := false
  breg : Bool := false
  creg : Bool := false
deriving DecidableEq, Repr, Inhabited

/-- Block RAM role `k` and multiplier role `k`, and where their inputs come from, in the interface frames: of port `p` (0 A, 1 B) inputs 0
enable, 1 write enable, 2–13 address bits, 14–85 write data bits; of a multiplier inputs 0 CE, 1 RST, 2 LOAD, 3 SUB, 4–30 A, 31–57 B,
58–121 C (R223, R230). -/
opaque bramCfg (frames : List Byte) (k : Nat) : BramCfg
opaque bramTap (frames : List Byte) (k p input : Nat) : Tap
opaque mulCfg (frames : List Byte) (k : Nat) : MulCfg
opaque mulTap (frames : List Byte) (k input : Nat) : Tap

/-- The source of a global reset/enable tree (R204). -/
inductive TreeSrc where
  | inactive
  | pin (p : Nat)
  | bay (sec bay out : Nat)
  | thawRel
deriving DecidableEq, Repr, Inhabited

/-- A global reset/enable tree: its source, and whether its polarity inverts it (R204). -/
structure TreeCfg where
  src : TreeSrc := .inactive
  invert : Bool := false
deriving DecidableEq, Repr, Inhabited

/-- Tree `t` in the global frames, joined (R204, R247). -/
opaque treeCfg (frames : List Byte) (t : Nat) : TreeCfg

/-- The level outside the device at user pin `p` (an input). -/
opaque pinInput (p : Nat) (time : BitVec 64) : Bool

/-- The level of the DS_CLK output of logical engine `e` at a device time, while its clock runs (R179: the spec does not give its phase). -/
opaque dsClk (e : Nat) (time : BitVec 64) : Bool

/-- The level of a wire that the spec does not give: one in a combinational loop, and one driven from a sector that is not ON. `wire`
numbers it. -/
opaque openWire (wire : Nat) (time : BitVec 64) : Bool

/-- The voltages of a bank's supply: 1.2, 1.8, 2.5 and 3.3 V (R509). -/
inductive BankV where
  | v12
  | v18
  | v25
  | v33
deriving DecidableEq, Repr

/-- The user I/O standards (R510, R513). -/
inductive IoStd where
  | lvcmos12
  | lvcmos18
  | lvcmos25
  | lvcmos33
  | lvdsOut
  | lvdsIn
deriving DecidableEq, Repr

/-- The I/O configuration of one user pin (R180, R247, R252). -/
structure PinCfg where
  /-- The pin is an output, and its output value comes from the launch cell. -/
  output : Bool := false
  /-- The pin's output value and its output enable come from the fabric (R288). -/
  fabric : Bool := false
  /-- The axis signal that the pin carries: logical engine and signal 0–15 (R180). -/
  axis   : Option (Nat × Nat) := none
  /-- The frame uses the pin for something else than an axis signal. -/
  other  : Bool := false
  /-- The pin is declared spare (R215). -/
  spare  : Bool := false
  /-- The configured pull: 1 up, 2 down, else none (R48, R288). -/
  pull   : BitVec 2 := 0
  /-- I/O standard, of a pin that is used; drive strength in mA; the termination of an LVDS input (R288, R510, R513). -/
  standard : Option IoStd := none
  drive  : BitVec 8 := 0
  term   : Bool := false
  /-- The owning sector; 63: none. -/
  sector : Nat := 63
  /-- Where a fabric pin's output value and output enable are taken in its sector. -/
  outTap : Tap := {}
  enTap  : Tap := {}
deriving DecidableEq, Repr, Inhabited

/-- The configuration of pin `k` (0–3) of a pin frame that is not all zeros (R247: the spec gives no bit layout). -/
opaque pinCfg (frame : List Byte) (k : Nat) : PinCfg

/-- The voltage that the global frame at `addr` (class 3, indexes 289–430; R247, R509) sets for bank `b`, where it is the one that does. -/
opaque bankOf (addr : Nat) (frame : List Byte) (b : Nat) : Option BankV

/-- The owner, 0 to 15, of sector `i` (0–47) or of logical engine `i − 48` in an ownership frame (R252). -/
opaque ownerOf (frame : List Byte) (i : Nat) : BitVec 4

/-- A pin frame or a global frame sets a reserved encoding of one of its fields (R258: the spec lists none of them). -/
opaque frameBad (addr : Nat) (frame : List Byte) : Bool

/-- What the interface frames of a sector (class 0, indexes 1,536–1,603, joined; R247) name: the value of RCLK[j], of
STB[n] and of PI[i], and the gate value of R203. -/
opaque rclkOf (frames : List Byte) (j : Nat) : BitVec 32
opaque strobeOf (frames : List Byte) (n : Nat) : BitVec 32
opaque portOf (frames : List Byte) (i : Nat) : BitVec 32
opaque gateOf (frames : List Byte) : BitVec 16

/-- The value loaded into CLK.GCLK[k] at Thaw from the global frames (class 3, indexes 289–430, joined; R247). -/
opaque gclkOf (frames : List Byte) (k : Nat) : BitVec 32

/-- How many values the dither LFSR and the delta-sigma modulator of ADPLL `n` have taken, at device time `now`, since the lock sequence
that began at `since` (R31: the spec gives no clock of the modulator). -/
opaque modClocks (n : Nat) (since now : BitVec 64) : Nat

/-- The mid code of the fine tuning bank, and the code that a modulator of order 1, 2 or 3 gives it after `k` values of its input, of
which `input` is the last (R31: the spec gives neither the bank's width nor the modulator's structure). -/
opaque fineMid : BitVec 32
opaque fineBank (order k : Nat) (input : Int) : BitVec 32

/-- Output enable and level that the boundary-scan register gives the cell of pin `p` (R486: what is shifted into it comes from the JTAG
port, bit by bit, and no row of the table brings it). -/
opaque boundaryPad (p : Nat) (time : BitVec 64) : Bool × Bool

/-- What a request's buffer reads beyond the end of data RAM (R153: the spec states nothing), by address. -/
opaque beyondRam (a : Nat) : BitVec 8

/-- Of the 68 frames of a sector that hold driver selects (class 0, indexes 1,536–1,603), the one that holds the select of
length-64 segment `seg` (R198, R247: the spec gives no layout); taken modulo 68. -/
opaque selectFrame (seg : Nat) : BitVec 7

/-- The version of the running firmware that IDENTIFY reports (R400), by firmware slot. -/
opaque fwVersion (slot : Nat) : BitVec 32

/-- The update status of an update whose verification fails (R350, R399: the spec gives no code). -/
opaque fwFailed : BitVec 8

end Sys2Proof.Config
end

