-- ==== Sys2Proof/Machine/RegAddr.lean ====
section
/-!
DEFINITION. Sys2Proof/Machine/RegAddr.lean: the management address of each register, under the name the spec gives it
(dots and brackets dropped; a 64-bit pair under its name without _LO).
-/
namespace Sys2Proof.Machine.Reg

/-- DEV_START_STAT (R312). -/
def DEV_START_STAT : Nat := 0x100
/-- DEV_STARTUP (R295). -/
def DEV_STARTUP : Nat := 0x104
/-- DEV_RESET_STAT (R306). -/
def DEV_RESET_STAT : Nat := 0x108
/-- DEV_RESET_CTL (R305). -/
def DEV_RESET_CTL : Nat := 0x10C
/-- DEV_FAULT_SRC (R309). -/
def DEV_FAULT_SRC : Nat := 0x110
/-- DEV_THAW_TIME (R303). -/
def DEV_THAW_TIME : Nat := 0x118
/-- DEV_GASP[w] (R311). -/
def DEV_GASP (i : Nat) : Nat := 0x200 + i * 0x4
/-- DEV_GASP_FREE (R311). -/
def DEV_GASP_FREE : Nat := 0x240
/-- CLK_TB_CTL (R22). -/
def CLK_TB_CTL : Nat := 0x100000
/-- CLK_TB_STAT (R19). -/
def CLK_TB_STAT : Nat := 0x100004
/-- CLK_TIME (R4). -/
def CLK_TIME : Nat := 0x100008
/-- CLK_TB_STEP (R26). -/
def CLK_TB_STEP : Nat := 0x100010
/-- CLK_TB_STEP_CTL (R26). -/
def CLK_TB_STEP_CTL : Nat := 0x100018
/-- CLK_TB_OFFSET (R23). -/
def CLK_TB_OFFSET : Nat := 0x10001C
/-- CLK_TB_RATE (R23). -/
def CLK_TB_RATE : Nat := 0x100020
/-- CLK_TB_STEP_THRESH (R24). -/
def CLK_TB_STEP_THRESH : Nat := 0x100024
/-- CLK_TB_SERVO (R23). -/
def CLK_TB_SERVO : Nat := 0x100028
/-- CLK_RES_STAT (R29). -/
def CLK_RES_STAT : Nat := 0x10002C
/-- CLK.ADPLL[tb].CTL (R20). -/
def CLK_ADPLL_CTL (i : Nat) : Nat := 0x101000 + i * 0x100
/-- CLK.ADPLL[n].STAT (R42). -/
def CLK_ADPLL_STAT (i : Nat) : Nat := 0x101004 + i * 0x100
/-- CLK.ADPLL[n].FCW (R30). -/
def CLK_ADPLL_FCW (i : Nat) : Nat := 0x101008 + i * 0x100
/-- CLK.ADPLL[n].FCW_ACT (R38). -/
def CLK_ADPLL_FCW_ACT (i : Nat) : Nat := 0x101010 + i * 0x100
/-- CLK.ADPLL[n].LOCK_FCW (R38). -/
def CLK_ADPLL_LOCK_FCW (i : Nat) : Nat := 0x101018 + i * 0x100
/-- CLK.ADPLL[tb].SLEW (R38). -/
def CLK_ADPLL_SLEW (i : Nat) : Nat := 0x101020 + i * 0x100
/-- CLK.ADPLL[tb].DS_SEED (R31). -/
def CLK_ADPLL_DS_SEED (i : Nat) : Nat := 0x101024 + i * 0x100
/-- CLK.ADPLL[tb].DCO_FLOOR (R40). -/
def CLK_ADPLL_DCO_FLOOR (i : Nat) : Nat := 0x101028 + i * 0x100
/-- CLK.ADPLL[tb].LOCK_CFG (R32). -/
def CLK_ADPLL_LOCK_CFG (i : Nat) : Nat := 0x10102C + i * 0x100
/-- CLK.ADPLL[n].OUT[m].CTL (R35). -/
def CLK_ADPLL_OUT_CTL (i : Nat) (j : Nat) : Nat := 0x101040 + i * 0x100 + j * 0x10
/-- CLK.ADPLL[tb].OUT[m].CEIL (R40). -/
def CLK_ADPLL_OUT_CEIL (i : Nat) (j : Nat) : Nat := 0x101044 + i * 0x100 + j * 0x10
/-- CLK.ADPLL[tb].OUT[m].BKP (R43). -/
def CLK_ADPLL_OUT_BKP (i : Nat) (j : Nat) : Nat := 0x101048 + i * 0x100 + j * 0x10
/-- CLK.GCLK[k] (R44). -/
def CLK_GCLK (i : Nat) : Nat := 0x102000 + i * 0x4
/-- ACT_CTL (R54). -/
def ACT_CTL : Nat := 0x200000
/-- ACT_STAT (R53). -/
def ACT_STAT : Nat := 0x200004
/-- ACT_PEND_HIGH (R53). -/
def ACT_PEND_HIGH : Nat := 0x200008
/-- ACT_LATE_POLICY (R61). -/
def ACT_LATE_POLICY : Nat := 0x20000C
/-- ACT_LATE_MAX (R61). -/
def ACT_LATE_MAX : Nat := 0x200010
/-- ACT_LATE_INFO (R62). -/
def ACT_LATE_INFO : Nat := 0x200014
/-- ACT_LATE_DUE (R62). -/
def ACT_LATE_DUE : Nat := 0x200018
/-- ACT_ERR (R52). -/
def ACT_ERR : Nat := 0x200020
/-- ACT_CT_AHEAD (R69). -/
def ACT_CT_AHEAD : Nat := 0x200024
/-- ACT_RMT_LEAD (R79). -/
def ACT_RMT_LEAD : Nat := 0x200028
/-- ACT_CANCEL (R63). -/
def ACT_CANCEL : Nat := 0x20002C
/-- ACT_CANCEL_CNT (R63). -/
def ACT_CANCEL_CNT : Nat := 0x200030
/-- ACT.LATE_CNT[k] (R62). -/
def ACT_LATE_CNT (i : Nat) : Nat := 0x200100 + i * 0x4
/-- ACT.DROP_CNT[k] (R62). -/
def ACT_DROP_CNT (i : Nat) : Nat := 0x200140 + i * 0x4
/-- ACT.CNT[n] (R48). -/
def ACT_CNT (i : Nat) : Nat := 0x200200 + i * 0x4
/-- ACT.PORT[e].QUOTA (R53). -/
def ACT_PORT_QUOTA (i : Nat) : Nat := 0x201000 + i * 0x8
/-- ACT.PORT[p].STAT (R53). -/
def ACT_PORT_STAT (i : Nat) : Nat := 0x201004 + i * 0x8
/-- ACT.CT[t].CTL (R68). -/
def ACT_CT_CTL (i : Nat) : Nat := 0x202000 + i * 0x40
/-- ACT.CT[t].STAT (R68). -/
def ACT_CT_STAT (i : Nat) : Nat := 0x202004 + i * 0x40
/-- ACT.CT[t].ADM_PERIOD (R67). -/
def ACT_CT_ADM_PERIOD (i : Nat) : Nat := 0x202008 + i * 0x40
/-- ACT.CT[t].OP_PERIOD (R68). -/
def ACT_CT_OP_PERIOD (i : Nat) : Nat := 0x202010 + i * 0x40
/-- ACT.CT[t].CMD_TIME (R68). -/
def ACT_CT_CMD_TIME (i : Nat) : Nat := 0x202018 + i * 0x40
/-- ACT.CT[t].BASE (R68). -/
def ACT_CT_BASE (i : Nat) : Nat := 0x202020 + i * 0x40
/-- ACT.CT[t].ADM_COUNT (R67). -/
def ACT_CT_ADM_COUNT (i : Nat) : Nat := 0x202028 + i * 0x40
/-- ACT.CT[t].OP_COUNT (R68). -/
def ACT_CT_OP_COUNT (i : Nat) : Nat := 0x20202C + i * 0x40
/-- ACT.CT[t].PERIODS (R68). -/
def ACT_CT_PERIODS (i : Nat) : Nat := 0x202030 + i * 0x40
/-- ACT.CT[t].MISS (R69). -/
def ACT_CT_MISS (i : Nat) : Nat := 0x202034 + i * 0x40
/-- ACT.CAP[r].CFG (R76). -/
def ACT_CAP_CFG (i : Nat) : Nat := 0x203000 + i * 0x10
/-- ACT.CAP[r].STAT (R76). -/
def ACT_CAP_STAT (i : Nat) : Nat := 0x203004 + i * 0x10
/-- ACT.CAP[r].LOST (R76). -/
def ACT_CAP_LOST (i : Nat) : Nat := 0x203008 + i * 0x10
/-- ACT.CAP[r].REC (R77). -/
def ACT_CAP_REC (i : Nat) (j : Nat) : Nat := 0x204000 + i * 0x10 + j * 0x4
/-- ACT.CT[t].ADM[e].W0 (R66). -/
def ACT_CT_ADM_W0 (i : Nat) (j : Nat) (k : Nat) : Nat := 0x210000 + i * 0x1000 + j * 0x10 + k * 0x4
/-- ACT.CT[t].ADM[e].W3 (R66). -/
def ACT_CT_ADM_W3 (i : Nat) (j : Nat) : Nat := 0x21000C + i * 0x1000 + j * 0x10
/-- ACT.CT[t].OP[e].W0 (R68). -/
def ACT_CT_OP_W0 (i : Nat) (j : Nat) (k : Nat) : Nat := 0x220000 + i * 0x1000 + j * 0x10 + k * 0x4
/-- ACT.CT[t].OP[e].W3 (R68). -/
def ACT_CT_OP_W3 (i : Nat) (j : Nat) : Nat := 0x22000C + i * 0x1000 + j * 0x10
/-- CFG_ID (R271). -/
def CFG_ID : Nat := 0x300000
/-- CFG_REV (R271). -/
def CFG_REV : Nat := 0x300004
/-- CFG_BOOT (R267). -/
def CFG_BOOT : Nat := 0x300008
/-- CFG_VAULT (R254). -/
def CFG_VAULT : Nat := 0x30000C
/-- CFG_MIN_SVN (R254). -/
def CFG_MIN_SVN : Nat := 0x300010
/-- CFG.SLOT[k].STAT (R242). -/
def CFG_SLOT_STAT (i : Nat) : Nat := 0x300100 + i * 0x20
/-- CFG.SLOT[k].ERR_ADDR (R259). -/
def CFG_SLOT_ERR_ADDR (i : Nat) : Nat := 0x300104 + i * 0x20
/-- CFG.SLOT[k].IMAGE_ID (R242). -/
def CFG_SLOT_IMAGE_ID (i : Nat) : Nat := 0x300108 + i * 0x20
/-- CFG.SLOT[k].SVN (R242). -/
def CFG_SLOT_SVN (i : Nat) : Nat := 0x300110 + i * 0x20
/-- CFG.SLOT[k].SECT (R242). -/
def CFG_SLOT_SECT (i : Nat) : Nat := 0x300114 + i * 0x20
/-- CFG.SLOT[k].STN (R242). -/
def CFG_SLOT_STN (i : Nat) : Nat := 0x30011C + i * 0x20
/-- CFG_STG_CTL (R260). -/
def CFG_STG_CTL : Nat := 0x300200
/-- CFG_STG_STAT (R259). -/
def CFG_STG_STAT : Nat := 0x300204
/-- CFG_STG_ERR_ADDR (R259). -/
def CFG_STG_ERR_ADDR : Nat := 0x300208
/-- CFG_STG_SECT (R271). -/
def CFG_STG_SECT : Nat := 0x300210
/-- CFG_STG_ENG (R271). -/
def CFG_STG_ENG : Nat := 0x300218
/-- CFG_STG_KEY (R260). -/
def CFG_STG_KEY : Nat := 0x300220
/-- CFG.OWN[s] (R252). -/
def CFG_OWN (i : Nat) : Nat := 0x300300 + i * 0x4
/-- CFG.EOWN[e] (R252). -/
def CFG_EOWN (i : Nat) : Nat := 0x300400 + i * 0x4
/-- CFG_SCRUB_CTL (R268). -/
def CFG_SCRUB_CTL : Nat := 0x300500
/-- CFG_SCRUB_CE (R268). -/
def CFG_SCRUB_CE : Nat := 0x300504
/-- CFG_SCRUB_FIX (R268). -/
def CFG_SCRUB_FIX : Nat := 0x300508
/-- CFG_SCRUB_SRC_ERR (R269). -/
def CFG_SCRUB_SRC_ERR : Nat := 0x30050C
/-- CFG_SCRUB_LAST (R268). -/
def CFG_SCRUB_LAST : Nat := 0x300510
/-- CFG_FRONT_CTL (R273). -/
def CFG_FRONT_CTL : Nat := 0x300600
/-- CFG_FRONT_STAT (R293). -/
def CFG_FRONT_STAT : Nat := 0x300604
/-- CFG_FRONT_TIME (R273). -/
def CFG_FRONT_TIME : Nat := 0x300608
/-- CFG_FRONT_DL (R273). -/
def CFG_FRONT_DL : Nat := 0x300610
/-- CFG_FRONT_PART (R273). -/
def CFG_FRONT_PART : Nat := 0x300618
/-- CFG_FRONT_NOTICE (R277). -/
def CFG_FRONT_NOTICE : Nat := 0x30061C
/-- CFG_FRONT_COUNT (R293). -/
def CFG_FRONT_COUNT : Nat := 0x300620
/-- CFG_FRONT_CANCELS (R280). -/
def CFG_FRONT_CANCELS : Nat := 0x300624
/-- CFG_FRONT_LAST (R293). -/
def CFG_FRONT_LAST : Nat := 0x300628
/-- CFG_FRONT_HELD (R288). -/
def CFG_FRONT_HELD : Nat := 0x300630
/-- NVC_CTL (R352). -/
def NVC_CTL : Nat := 0x400000
/-- NVC_STAT (R352). -/
def NVC_STAT : Nat := 0x400004
/-- NVC_OP_ADDR (R352). -/
def NVC_OP_ADDR : Nat := 0x400008
/-- NVC_OP_CTL (R352). -/
def NVC_OP_CTL : Nat := 0x40000C
/-- NVC_OP_RES (R339). -/
def NVC_OP_RES : Nat := 0x400010
/-- NVC_SUSP_CNT (R352). -/
def NVC_SUSP_CNT : Nat := 0x400014
/-- NVC_ERASE_AGE (R352). -/
def NVC_ERASE_AGE : Nat := 0x400018
/-- NVC_CE_CNT (R352). -/
def NVC_CE_CNT : Nat := 0x40001C
/-- NVC_UE_CNT (R352). -/
def NVC_UE_CNT : Nat := 0x400020
/-- NVC_RDFLAG (R352). -/
def NVC_RDFLAG : Nat := 0x400024
/-- NVC_SQUALL (R352). -/
def NVC_SQUALL : Nat := 0x400028
/-- NVC_INTR (R346). -/
def NVC_INTR : Nat := 0x40002C
/-- NVC_INTR_PROG (R346). -/
def NVC_INTR_PROG : Nat := 0x400030
/-- NVC.BANK[b].STAT (R352). -/
def NVC_BANK_STAT (i : Nat) : Nat := 0x400100 + i * 0x4
/-- NVC_DATA[n] (R352). -/
def NVC_DATA (i : Nat) : Nat := 0x400200 + i * 0x4
/-- NVC.SST[k] (R352). -/
def NVC_SST (i : Nat) : Nat := 0x410000 + i * 0x4
/-- KEY_CTL (R331). -/
def KEY_CTL : Nat := 0x500000
/-- KEY_STAT (R331). -/
def KEY_STAT : Nat := 0x500004
/-- KEY_CMD (R331). -/
def KEY_CMD : Nat := 0x500008
/-- KEY_SIZE (R331). -/
def KEY_SIZE : Nat := 0x50000C
/-- KEY_DIR_SEQ (R331). -/
def KEY_DIR_SEQ : Nat := 0x500010
/-- KEY_ID (R331). -/
def KEY_ID : Nat := 0x500014
/-- KEY_FMT_ID (R331). -/
def KEY_FMT_ID : Nat := 0x50001C
/-- KEY_FMT_STAT (R320). -/
def KEY_FMT_STAT : Nat := 0x500020
/-- KEY_SET_CNT (R331). -/
def KEY_SET_CNT : Nat := 0x500024
/-- KEY_WB_DIRTY (R331). -/
def KEY_WB_DIRTY : Nat := 0x500028
/-- KEY_WB_LOST (R329). -/
def KEY_WB_LOST : Nat := 0x50002C
/-- KEY_JSEQ (R331). -/
def KEY_JSEQ : Nat := 0x500030
/-- KEY_WB_PERIOD (R331). -/
def KEY_WB_PERIOD : Nat := 0x500034
/-- NET_CTL (R364). -/
def NET_CTL : Nat := 0x600000
/-- NET_STAT (R378). -/
def NET_STAT : Nat := 0x600004
/-- NET_MAC (R355). -/
def NET_MAC : Nat := 0x600008
/-- NET_PTP_EPOCH (R357). -/
def NET_PTP_EPOCH : Nat := 0x600010
/-- NET_GM_ID (R357). -/
def NET_GM_ID : Nat := 0x600018
/-- NET_RESET_MS (R362). -/
def NET_RESET_MS : Nat := 0x600020
/-- NET.VID[k] (R355). -/
def NET_VID (i : Nat) : Nat := 0x600040 + i * 0x4
/-- NET.PORT[p].CTL (R354). -/
def NET_PORT_CTL (i : Nat) : Nat := 0x601000 + i * 0x1000
/-- NET.PORT[p].STAT (R363). -/
def NET_PORT_STAT (i : Nat) : Nat := 0x601004 + i * 0x1000
/-- NET.PORT[p].PDELAY (R357). -/
def NET_PORT_PDELAY (i : Nat) : Nat := 0x601008 + i * 0x1000
/-- NET.PORT[p].RX_DROP (R355). -/
def NET_PORT_RX_DROP (i : Nat) : Nat := 0x60100C + i * 0x1000
/-- NET.PORT[p].PCP_MAP (R358). -/
def NET_PORT_PCP_MAP (i : Nat) : Nat := 0x601010 + i * 0x1000
/-- NET.PORT[p].GCL_CTL (R360). -/
def NET_PORT_GCL_CTL (i : Nat) : Nat := 0x601014 + i * 0x1000
/-- NET.PORT[p].ADM_BASE (R360). -/
def NET_PORT_ADM_BASE (i : Nat) : Nat := 0x601018 + i * 0x1000
/-- NET.PORT[p].ADM_CYCLE (R359). -/
def NET_PORT_ADM_CYCLE (i : Nat) : Nat := 0x601020 + i * 0x1000
/-- NET.PORT[p].ADM_LEN (R359). -/
def NET_PORT_ADM_LEN (i : Nat) : Nat := 0x601024 + i * 0x1000
/-- NET.PORT[p].OPER_BASE (R360). -/
def NET_PORT_OPER_BASE (i : Nat) : Nat := 0x601028 + i * 0x1000
/-- NET.PORT[p].OPER_CYCLE (R360). -/
def NET_PORT_OPER_CYCLE (i : Nat) : Nat := 0x601030 + i * 0x1000
/-- NET.PORT[p].OPER_LEN (R360). -/
def NET_PORT_OPER_LEN (i : Nat) : Nat := 0x601034 + i * 0x1000
/-- NET.PORT[p].TXQ_DROP (R358). -/
def NET_PORT_TXQ_DROP (i : Nat) : Nat := 0x601038 + i * 0x1000
/-- NET.PORT[p].ADM[e] (R359). -/
def NET_PORT_ADM (i : Nat) (j : Nat) : Nat := 0x601800 + i * 0x1000 + j * 0x4
/-- NET.PORT[p].OPER[e] (R360). -/
def NET_PORT_OPER (i : Nat) (j : Nat) : Nat := 0x604000 + i * 0x800 + j * 0x4
/-- NET.TXS[i].DA_LO (R362). -/
def NET_TXS_DA_LO (i : Nat) : Nat := 0x608000 + i * 0x20
/-- NET.TXS[i].DA_HI (R362). -/
def NET_TXS_DA_HI (i : Nat) : Nat := 0x608004 + i * 0x20
/-- NET.TXS[i].SEQ (R362). -/
def NET_TXS_SEQ (i : Nat) : Nat := 0x608008 + i * 0x20
/-- NET.RXS[i].DA_LO (R362). -/
def NET_RXS_DA_LO (i : Nat) : Nat := 0x60A000 + i * 0x20
/-- NET.RXS[i].DA_HI (R362). -/
def NET_RXS_DA_HI (i : Nat) : Nat := 0x60A004 + i * 0x20
/-- NET.RXS[i].PASSED (R362). -/
def NET_RXS_PASSED (i : Nat) : Nat := 0x60A008 + i * 0x20
/-- NET.RXS[i].DUPLICATE (R362). -/
def NET_RXS_DUPLICATE (i : Nat) : Nat := 0x60A00C + i * 0x20
/-- NET.RXS[i].ROGUE (R362). -/
def NET_RXS_ROGUE (i : Nat) : Nat := 0x60A010 + i * 0x20
/-- NET.RXS[i].TAGLESS (R362). -/
def NET_RXS_TAGLESS (i : Nat) : Nat := 0x60A014 + i * 0x20
/-- NET.RXS[i].RESETS (R362). -/
def NET_RXS_RESETS (i : Nat) : Nat := 0x60A018 + i * 0x20
/-- NET.SL[l].CTL (R378). -/
def NET_SL_CTL (i : Nat) : Nat := 0x60C000 + i * 0x20
/-- NET.SL[l].STAT (R368). -/
def NET_SL_STAT (i : Nat) : Nat := 0x60C004 + i * 0x20
/-- NET.SL[l].DELAY (R372). -/
def NET_SL_DELAY (i : Nat) : Nat := 0x60C008 + i * 0x20
/-- NET.SL[l].CRC_ERR (R370). -/
def NET_SL_CRC_ERR (i : Nat) : Nat := 0x60C00C + i * 0x20
/-- NET_SL_DOMAIN (R368). -/
def NET_SL_DOMAIN : Nat := 0x60C200
/-- CMD_CTL (R410). -/
def CMD_CTL : Nat := 0x700000
/-- CMD_STAT (R410). -/
def CMD_STAT : Nat := 0x700004
/-- CMD_LEASE_CFG (R395). -/
def CMD_LEASE_CFG : Nat := 0x700008
/-- CMD_LEASE_LEFT (R410). -/
def CMD_LEASE_LEFT : Nat := 0x70000C
/-- CMD_LAPSE_ENG (R395). -/
def CMD_LAPSE_ENG : Nat := 0x700010
/-- CMD_TAG_FAIL (R386). -/
def CMD_TAG_FAIL : Nat := 0x700018
/-- CMD_CONFLICT_CNT (R393). -/
def CMD_CONFLICT_CNT : Nat := 0x70001C
/-- CMD_REPLAY (R387). -/
def CMD_REPLAY : Nat := 0x700020
/-- CMD_LAPSE_CODE (R395). -/
def CMD_LAPSE_CODE : Nat := 0x700024
/-- CMD_LAPSE_TBL (R395). -/
def CMD_LAPSE_TBL : Nat := 0x700028
/-- CMD_LAPSE_CANCEL (R395). -/
def CMD_LAPSE_CANCEL : Nat := 0x70002C
/-- CMD.SESS[k].STAT (R410). -/
def CMD_SESS_STAT (i : Nat) : Nat := 0x700100 + i * 0x10
/-- CMD.SESS[k].SEQ (R410). -/
def CMD_SESS_SEQ (i : Nat) : Nat := 0x700104 + i * 0x10
/-- CMD.SESS[k].MAC (R410). -/
def CMD_SESS_MAC (i : Nat) : Nat := 0x700108 + i * 0x10
/-- ARB_ERR (R420). -/
def ARB_ERR : Nat := 0x800000
/-- ARB.REQ[q] (R425). -/
def ARB_REQ (i : Nat) : Nat := 0x800200 + i * 0x4
/-- ARB.R[r].CTL (R423). -/
def ARB_R_CTL (i : Nat) : Nat := 0x801000 + i * 0x200
/-- ARB.R[r].STAT (R425). -/
def ARB_R_STAT (i : Nat) : Nat := 0x801004 + i * 0x200
/-- ARB.R[r].GRANTS (R425). -/
def ARB_R_GRANTS (i : Nat) : Nat := 0x801008 + i * 0x200
/-- ARB.R[r].LONG_GRANTS (R425). -/
def ARB_R_LONG_GRANTS (i : Nat) : Nat := 0x80100C + i * 0x200
/-- ARB.R[r].WAIT_MAX (R425). -/
def ARB_R_WAIT_MAX (i : Nat) : Nat := 0x801010 + i * 0x200
/-- ARB.R[r].WAIT_WARN (R424). -/
def ARB_R_WAIT_WARN (i : Nat) : Nat := 0x801014 + i * 0x200
/-- ARB.R[r].RANK[w] (R425). -/
def ARB_R_RANK (i : Nat) (j : Nat) : Nat := 0x801100 + i * 0x200 + j * 0x4
/-- PWR_LAST_WAKE (R444). -/
def PWR_LAST_WAKE : Nat := 0x900000
/-- PWR_LAST_WAKE_TIME (R444). -/
def PWR_LAST_WAKE_TIME : Nat := 0x900004
/-- PWR_RETLOST (R438). -/
def PWR_RETLOST : Nat := 0x90000C
/-- PWR_SUPERSEDED (R436). -/
def PWR_SUPERSEDED : Nat := 0x900010
/-- PWR.DOM[d].CTL (R431). -/
def PWR_DOM_CTL (i : Nat) : Nat := 0x901000 + i * 0x20
/-- PWR.DOM[d].REQ (R433). -/
def PWR_DOM_REQ (i : Nat) : Nat := 0x901004 + i * 0x20
/-- PWR.DOM[d].STAT (R447). -/
def PWR_DOM_STAT (i : Nat) : Nat := 0x901008 + i * 0x20
/-- PWR.DOM[d].WAKE (R444). -/
def PWR_DOM_WAKE (i : Nat) : Nat := 0x90100C + i * 0x20
/-- PWR.DOM[d].WAKE_TIME (R444). -/
def PWR_DOM_WAKE_TIME (i : Nat) : Nat := 0x901010 + i * 0x20
/-- PWR.DOM[d].SUPERSEDED (R436). -/
def PWR_DOM_SUPERSEDED (i : Nat) : Nat := 0x901018 + i * 0x20
/-- PWR.DOM[d].LATENCY (R434). -/
def PWR_DOM_LATENCY (i : Nat) : Nat := 0x90101C + i * 0x20
/-- TST_CTL (R468). -/
def TST_CTL : Nat := 0xA00000
/-- TST_STAT (R490). -/
def TST_STAT : Nat := 0xA00004
/-- TST_SQ_CFG (R477). -/
def TST_SQ_CFG : Nat := 0xA00008
/-- TST_SCAN (R487). -/
def TST_SCAN : Nat := 0xA0000C
/-- TST_RLOG_CNT (R490). -/
def TST_RLOG_CNT : Nat := 0xA00010
/-- TST_RLOG_SEL (R480). -/
def TST_RLOG_SEL : Nat := 0xA00014
/-- TST_REINSTATE (R482). -/
def TST_REINSTATE : Nat := 0xA00018
/-- TST.TYPE[t].CTL (R475). -/
def TST_TYPE_CTL (i : Nat) : Nat := 0xA00100 + i * 0x20
/-- TST.TYPE[t].STAT (R490). -/
def TST_TYPE_STAT (i : Nat) : Nat := 0xA00104 + i * 0x20
/-- TST.TYPE[t].FAIL (R476). -/
def TST_TYPE_FAIL (i : Nat) : Nat := 0xA00108 + i * 0x20
/-- TST.TYPE[t].ABORT (R490). -/
def TST_TYPE_ABORT (i : Nat) : Nat := 0xA0010C + i * 0x20
/-- TST.TYPE[t].LATE (R475). -/
def TST_TYPE_LATE (i : Nat) : Nat := 0xA00110 + i * 0x20
/-- TST.TYPE[t].FAIL_UNIT (R476). -/
def TST_TYPE_FAIL_UNIT (i : Nat) : Nat := 0xA00114 + i * 0x20
/-- TST.TYPE[t].FAIL_ADDR (R476). -/
def TST_TYPE_FAIL_ADDR (i : Nat) : Nat := 0xA00118 + i * 0x20
/-- TST.SQ_SEC[s] (R477). -/
def TST_SQ_SEC (i : Nat) : Nat := 0xA00400 + i * 0x4
/-- TST.SQ_PLL[n] (R478). -/
def TST_SQ_PLL (i : Nat) : Nat := 0xA00500 + i * 0x4
/-- TST.RLOG[w] (R479). -/
def TST_RLOG (i : Nat) : Nat := 0xA01000 + i * 0x4
/-- TST.PRB[c].SEL (R214). -/
def TST_PRB_SEL (i : Nat) : Nat := 0xA08000 + i * 0x8
/-- TST.PRB[c].PIN (R215). -/
def TST_PRB_PIN (i : Nat) : Nat := 0xA08004 + i * 0x8
/-- PRB_STAT (R217). -/
def PRB_STAT : Nat := 0xA08400
/-- TRC_CTL (R217). -/
def TRC_CTL : Nat := 0xA09000
/-- TRC_CMD (R217). -/
def TRC_CMD : Nat := 0xA09004
/-- TRC_POST (R217). -/
def TRC_POST : Nat := 0xA09008
/-- TRC_STAT (R217). -/
def TRC_STAT : Nat := 0xA0900C
/-- TRC_TRIG (R217). -/
def TRC_TRIG : Nat := 0xA09010
/-- TRC_OLDEST (R218). -/
def TRC_OLDEST : Nat := 0xA09014
/-- TRC_MASK (R217). -/
def TRC_MASK : Nat := 0xA09018
/-- TRC_VAL (R217). -/
def TRC_VAL : Nat := 0xA09020
/-- TRC_TIME (R217). -/
def TRC_TIME : Nat := 0xA09028
/-- EVT_STAT (R499). -/
def EVT_STAT : Nat := 0xB00000
/-- EVT.MC_EN[w] (R495). -/
def EVT_MC_EN (i : Nat) : Nat := 0xB00100 + i * 0x4
/-- EVT.FAB[k] (R497). -/
def EVT_FAB (i : Nat) : Nat := 0xB00200 + i * 0x4
/-- EVT.PEND[w] (R498). -/
def EVT_PEND (i : Nat) : Nat := 0xB00300 + i * 0x4
/-- EVT.ENG[e].SUB[j] (R496). -/
def EVT_ENG_SUB (i : Nat) (j : Nat) : Nat := 0xB01000 + i * 0x80 + j * 0x4
/-- ANA_IN_STAT (R466). -/
def ANA_IN_STAT : Nat := 0xC00000
/-- ANA_WARN_CNT (R466). -/
def ANA_WARN_CNT : Nat := 0xC00004
/-- ANA_DIP_MIN (R466). -/
def ANA_DIP_MIN : Nat := 0xC00008
/-- ANA_PIN_WARN (R466). -/
def ANA_PIN_WARN : Nat := 0xC0000C
/-- ANA.PORT[p].VIN (R466). -/
def ANA_PORT_VIN (i : Nat) : Nat := 0xC00010 + i * 0x10
/-- ANA.PORT[p].IIN (R466). -/
def ANA_PORT_IIN (i : Nat) : Nat := 0xC00014 + i * 0x10
/-- ANA.PORT[p].PIN (R466). -/
def ANA_PORT_PIN (i : Nat) : Nat := 0xC00018 + i * 0x10
/-- ANA.PORT[p].STAT (R466). -/
def ANA_PORT_STAT (i : Nat) : Nat := 0xC0001C + i * 0x10
/-- ANA.RAIL[j] (R466). -/
def ANA_RAIL (i : Nat) : Nat := 0xC00030 + i * 0x4
/-- ANA.AUX[k].CTL (R466). -/
def ANA_AUX_CTL (i : Nat) : Nat := 0xC00200 + i * 0x10
/-- ANA.AUX[k].STAT (R466). -/
def ANA_AUX_STAT (i : Nat) : Nat := 0xC00204 + i * 0x10
/-- ANA_THERM_WARN (R466). -/
def ANA_THERM_WARN : Nat := 0xC00300
/-- ANA_THERM_CRIT (R466). -/
def ANA_THERM_CRIT : Nat := 0xC00304
/-- ANA.TEMP[j] (R466). -/
def ANA_TEMP (i : Nat) : Nat := 0xC00310 + i * 0x4
/-- ANA.ADC[c].STAT (R182). -/
def ANA_ADC_STAT (i : Nat) : Nat := 0xC01000 + i * 0x10
/-- ANA.ADC[c].COLL (R184). -/
def ANA_ADC_COLL (i : Nat) : Nat := 0xC01004 + i * 0x10
/-- ANA.SEQ[l].LEN (R183). -/
def ANA_SEQ_LEN (i : Nat) : Nat := 0xC01100 + i * 0x20
/-- ANA.SEQ[l].CODE[w] (R183). -/
def ANA_SEQ_CODE (i : Nat) (j : Nat) : Nat := 0xC01104 + i * 0x20 + j * 0x4
/-- ANA.ADC_RES[code] (R185). -/
def ANA_ADC_RES (i : Nat) : Nat := 0xC01400 + i * 0x4
/-- ANA.ADC_ROUTE[code] (R185). -/
def ANA_ADC_ROUTE (i : Nat) : Nat := 0xC01500 + i * 0x4
/-- ENG[n].CTL (R123). -/
def ENG_CTL (i : Nat) : Nat := 0x10000000 + i * 0x40000
/-- ENG[n].STAT (R123). -/
def ENG_STAT (i : Nat) : Nat := 0x10000004 + i * 0x40000
/-- ENG[n].MAP (R86). -/
def ENG_MAP (i : Nat) : Nat := 0x10000008 + i * 0x40000
/-- ENG[n].CYC (R95). -/
def ENG_CYC (i : Nat) : Nat := 0x1000000C + i * 0x40000
/-- ENG[n].WDT (R118). -/
def ENG_WDT (i : Nat) : Nat := 0x10000010 + i * 0x40000
/-- ENG[n].RETRY (R123). -/
def ENG_RETRY (i : Nat) : Nat := 0x10000014 + i * 0x40000
/-- ENG[n].SQUALL (R105). -/
def ENG_SQUALL (i : Nat) : Nat := 0x10000018 + i * 0x40000
/-- ENG[n].LOG (R103). -/
def ENG_LOG (i : Nat) : Nat := 0x1000001C + i * 0x40000
/-- ENG[n].CAUSE (R122). -/
def ENG_CAUSE (i : Nat) : Nat := 0x10000020 + i * 0x40000
/-- ENG[n].MBOX_CFG (R112). -/
def ENG_MBOX_CFG (i : Nat) : Nat := 0x10000024 + i * 0x40000
/-- ENG[n].MBOX_STAT (R112). -/
def ENG_MBOX_STAT (i : Nat) : Nat := 0x10000028 + i * 0x40000
/-- ENG[n].BP_CFG (R114). -/
def ENG_BP_CFG (i : Nat) : Nat := 0x1000002C + i * 0x40000
/-- ENG[n].FAR_CTL (R116). -/
def ENG_FAR_CTL (i : Nat) : Nat := 0x10000030 + i * 0x40000
/-- ENG[n].FAR_MISS (R116). -/
def ENG_FAR_MISS (i : Nat) : Nat := 0x10000034 + i * 0x40000
/-- ENG[n].LOST (R93). -/
def ENG_LOST (i : Nat) : Nat := 0x10000038 + i * 0x40000
/-- ENG[n].CYCT (R91). -/
def ENG_CYCT (i : Nat) : Nat := 0x10000040 + i * 0x40000
/-- ENG[n].MBOX[m] (R111). -/
def ENG_MBOX (i : Nat) (j : Nat) : Nat := 0x10000100 + i * 0x40000 + j * 0x8
/-- SEC[s].STAT (R220). -/
def SEC_STAT (i : Nat) : Nat := 0x20000000 + i * 0x100000
/-- SEC[s].RCLK_GATE (R203). -/
def SEC_RCLK_GATE (i : Nat) : Nat := 0x20000008 + i * 0x100000
/-- SEC[s].CONT_INFO (R200). -/
def SEC_CONT_INFO (i : Nat) : Nat := 0x2000000C + i * 0x100000
/-- SEC[s].CONT_CNT (R200). -/
def SEC_CONT_CNT (i : Nat) : Nat := 0x20000010 + i * 0x100000
/-- SEC[s].CONT_TIME (R200). -/
def SEC_CONT_TIME (i : Nat) : Nat := 0x20000014 + i * 0x100000
/-- SEC[s].STB_OVR (R207). -/
def SEC_STB_OVR (i : Nat) : Nat := 0x2000001C + i * 0x100000
/-- SEC[s].RCLK[j] (R203). -/
def SEC_RCLK (i : Nat) (j : Nat) : Nat := 0x20000020 + i * 0x100000 + j * 0x4
/-- SEC[s].STB[n] (R207). -/
def SEC_STB (i : Nat) (j : Nat) : Nat := 0x20000060 + i * 0x100000 + j * 0x4
/-- SEC[s].STB_DATA[n] (R207). -/
def SEC_STB_DATA (i : Nat) (j : Nat) : Nat := 0x20000080 + i * 0x100000 + j * 0x4
/-- SEC[s].PI[i] (R208). -/
def SEC_PI (i : Nat) (j : Nat) : Nat := 0x200000A0 + i * 0x100000 + j * 0x4
/-- SEC[s].MEM_ERR_INFO (R239). -/
def SEC_MEM_ERR_INFO (i : Nat) : Nat := 0x20001000 + i * 0x100000
/-- SEC[s].MEM_ERR_TIME (R239). -/
def SEC_MEM_ERR_TIME (i : Nat) : Nat := 0x20001004 + i * 0x100000
/-- SEC[s].MEM_CE_CNT (R239). -/
def SEC_MEM_CE_CNT (i : Nat) : Nat := 0x2000100C + i * 0x100000
/-- SEC[s].MEM_UE_CNT (R239). -/
def SEC_MEM_UE_CNT (i : Nat) : Nat := 0x20001010 + i * 0x100000
/-- SEC[s].MUL_ERR_CNT (R239). -/
def SEC_MUL_ERR_CNT (i : Nat) : Nat := 0x20001014 + i * 0x100000
/-- SEC[s].MEM_SQUALL (R239). -/
def SEC_MEM_SQUALL (i : Nat) : Nat := 0x20001018 + i * 0x100000
/-- SEC[s].MEM_SWEEP (R239). -/
def SEC_MEM_SWEEP (i : Nat) : Nat := 0x2000101C + i * 0x100000
/-- SEC[s].SPARE_BRAM (R239). -/
def SEC_SPARE_BRAM (i : Nat) : Nat := 0x20001020 + i * 0x100000
/-- SEC[s].SPARE_MUL (R239). -/
def SEC_SPARE_MUL (i : Nat) : Nat := 0x20001024 + i * 0x100000
/-- SEC[s].MEM_REPAIR (R240). -/
def SEC_MEM_REPAIR (i : Nat) : Nat := 0x20001028 + i * 0x100000
/-- SEC[s].BRAM_RETIRED (R239). -/
def SEC_BRAM_RETIRED (i : Nat) : Nat := 0x2000102C + i * 0x100000
/-- SEC[s].MUL_RETIRED (R239). -/
def SEC_MUL_RETIRED (i : Nat) : Nat := 0x20001030 + i * 0x100000
/-- SEC[s].MEM_INIT_BUSY (R237). -/
def SEC_MEM_INIT_BUSY (i : Nat) : Nat := 0x20001034 + i * 0x100000
/-- SEC[s].MEM_STAT (R239). -/
def SEC_MEM_STAT (i : Nat) : Nat := 0x20001038 + i * 0x100000

end Sys2Proof.Machine.Reg
end

