-- ==== Sys2Proof/Machine/RegTable.lean ====
section
/-!
DEFINITION. Sys2Proof/Machine/RegTable.lean: the register map, one row per register (or array of registers) of the
spec's register summaries: address, array strides, reset value, and the bits of each access code (R5). A bit in no
mask is reserved or read-only (R6). `legal` gives the encodings of a field that are not reserved; `hook` names the
registers whose write or read does more than hold a value.
-/
namespace Sys2Proof.Machine

/-- The registers whose write or read does more than hold a value (Machine/RegAccess.lean gives each its effect). -/
inductive Hook where
  | none
  | tbCtl
  | devTime
  | tbStepCtl
  | pllCtl
  | pllFcw
  | pllOut
  | pllBkp
  | gclk
  | actStat
  | actPendHigh
  | actCancel
  | quota
  | portStat
  | ctCtl
  | ctAdm
  | capFill
  | capRec
  | engCtl
  | engStat
  | engMap
  | engSquall
  | engCause
  | farCtl
  | mbox
  | adcStat
  | prbPin
  | trcCmd
  | memRepair
  | cfgVault
  | cfgMinSvn
  | stgCtl
  | frontCtl
  | resetCtl
  | faultSrc
  | gasp
  | gaspFree
  | keyCmd
  | keyDirty
  | nvcOpCtl
  | eraseAge
  | nvcIntr
  | netPortCtl
  | gclCtl
  | gclAdm
  | slCtl
  | cmdStat
  | cmdLeaseLeft
  | sessStat
  | sessSeq
  | sessMac
  | arbReq
  | arbCtl
  | arbStat
  | domReq
  | domStat
  | domLatency
  | auxCtl
  | tstStat
  | rlogCnt
  | tstReinstate
  | typeStat
  | sqSec
  | sqPll
  | rlogWord
  | evtRoute
  | evtPend
  | secStat
  | pllSlew
  | pllFloor
  | pllCeil
deriving DecidableEq, Repr

/-- One row of the register map. -/
structure RegRow where
  base  : Nat
  /-- (count, stride) of each array index, outermost first. -/
  dims  : List (Nat × Nat) := []
  reset : Nat := 0
  /-- RW bits (R5). -/
  rw    : Nat := 0
  /-- W1C bits (R5). -/
  w1c   : Nat := 0
  /-- RC bits (R5). -/
  rc    : Nat := 0
  /-- (hi, lo, least, greatest) of each field with reserved encodings (R6); a signed field's least encoding is above its greatest. -/
  legal : List (Nat × Nat × Nat × Nat) := []
  /-- 0 a 32-bit register; 1 the _LO, 2 the _HI register of a 64-bit pair (R7). -/
  pair  : Nat := 0
  hook  : Hook := .none
  /-- The first event source of an array of cause registers (R491). -/
  cause : Option Nat := Option.none
deriving DecidableEq, Repr

/-- Rows of the DEV block (R500). -/
def rowsDev0 : List RegRow := [
  -- DEV_START_STAT (R312)
  { base := 0x100 },
  -- DEV_STARTUP (R295)
  { base := 0x104, reset := 0xA000000 },
  -- DEV_RESET_STAT (R306)
  { base := 0x108, reset := 0x10 },
  -- DEV_RESET_CTL (R305)
  { base := 0x10C, hook := .resetCtl },
  -- DEV_FAULT_SRC (R309)
  { base := 0x110, hook := .faultSrc },
  -- DEV_THAW_TIME_LO / _HI (R303)
  { base := 0x118, pair := 1 },
  { base := 0x11C, pair := 2 },
  -- DEV_GASP[w] (R311)
  { base := 0x200, dims := [(16, 0x4)], hook := .gasp },
  -- DEV_GASP_FREE (R311)
  { base := 0x240, hook := .gaspFree } ]

/-- Rows of the CLK block (R500). DESIGN CHOICE (log entry 187): FCW_ACT and LOCK_FCW, for which the table gives no reset value, reset to 120.0. -/
def rowsClk0 : List RegRow := [
  -- CLK_TB_CTL (R22)
  { base := 0x100000, rw := 0x1F, legal := [(3, 2, 0, 2), (1, 0, 0, 2)], hook := .tbCtl },
  -- CLK_TB_STAT (R19)
  { base := 0x100004 },
  -- CLK_TIME_LO / _HI (R4)
  { base := 0x100008, pair := 1, hook := .devTime },
  { base := 0x10000C, pair := 2, hook := .devTime },
  -- CLK_TB_STEP_LO / _HI (R26)
  { base := 0x100010, rw := 0xFFFFFFFF, pair := 1 },
  { base := 0x100014, rw := 0xFFFFFFFF, pair := 2 },
  -- CLK_TB_STEP_CTL (R26)
  { base := 0x100018, w1c := 0x2, hook := .tbStepCtl },
  -- CLK_TB_OFFSET (R23)
  { base := 0x10001C },
  -- CLK_TB_RATE (R23)
  { base := 0x100020 },
  -- CLK_TB_STEP_THRESH (R24)
  { base := 0x100024, reset := 0xFA00, rw := 0xFFFFFFFF },
  -- CLK_TB_SERVO (R23)
  { base := 0x100028, reset := 0x640003, rw := 0xFF000F, legal := [(23, 16, 0, 200)] },
  -- CLK_RES_STAT (R29)
  { base := 0x10002C },
  -- CLK.ADPLL[tb].CTL (R20)
  { base := 0x101000, dims := [(2, 0x100)], reset := 0x160, hook := .pllCtl },
  -- CLK.ADPLL[n].CTL (R32)
  { base := 0x101200, dims := [(6, 0x100)], reset := 0x60, rw := 0xFFD, legal := [(10, 9, 0, 2)], hook := .pllCtl },
  -- CLK.ADPLL[n].STAT (R42)
  { base := 0x101004, dims := [(8, 0x100)], w1c := 0xF0 },
  -- CLK.ADPLL[n].FCW_LO / _HI (R30)
  { base := 0x101008, dims := [(8, 0x100)], rw := 0xFFFFFFFF, pair := 1, hook := .pllFcw },
  { base := 0x10100C, dims := [(8, 0x100)], reset := 0x78, rw := 0xFF, pair := 2, hook := .pllFcw },
  -- CLK.ADPLL[n].FCW_ACT_LO / _HI (R38)
  { base := 0x101010, dims := [(8, 0x100)], pair := 1 },
  { base := 0x101014, dims := [(8, 0x100)], reset := 0x78, pair := 2 },
  -- CLK.ADPLL[n].LOCK_FCW_LO / _HI (R38)
  { base := 0x101018, dims := [(8, 0x100)], pair := 1 },
  { base := 0x10101C, dims := [(8, 0x100)], reset := 0x78, pair := 2 },
  -- CLK.ADPLL[tb].SLEW (R38)
  { base := 0x101020, dims := [(2, 0x100)], reset := 0x64 },
  -- CLK.ADPLL[n].SLEW (R38)
  { base := 0x101220, dims := [(6, 0x100)], reset := 0x64, rw := 0x7F, legal := [(6, 0, 1, 100)], hook := .pllSlew },
  -- CLK.ADPLL[tb].DS_SEED (R31)
  { base := 0x101024, dims := [(2, 0x100)], reset := 0x1 } ]

/-- Rows of the CLK block (R500). -/
def rowsClk1 : List RegRow := [
  -- CLK.ADPLL[n].DS_SEED (R31)
  { base := 0x101224, dims := [(6, 0x100)], reset := 0x1, rw := 0xFFFFFFFF },
  -- CLK.ADPLL[tb].DCO_FLOOR (R40)
  { base := 0x101028, dims := [(2, 0x100)], reset := 0xFA0 },
  -- CLK.ADPLL[n].DCO_FLOOR (R40)
  { base := 0x101228, dims := [(6, 0x100)], reset := 0xFA0, rw := 0x1FFF, legal := [(12, 0, 4000, 8000)], hook := .pllFloor },
  -- CLK.ADPLL[tb].LOCK_CFG (R32)
  { base := 0x10102C, dims := [(2, 0x100)], reset := 0x8A714 },
  -- CLK.ADPLL[n].LOCK_CFG (R32)
  { base := 0x10122C, dims := [(6, 0x100)], reset := 0x8A714, rw := 0xFFFFFF },
  -- CLK.ADPLL[tb].OUT[0].CTL (R20)
  { base := 0x101040, dims := [(2, 0x100)], reset := 0x8000000F, rw := 0xDFFFFFFF, hook := .pllOut },
  -- CLK.ADPLL[tb].OUT[1].CTL (R20)
  { base := 0x101050, dims := [(2, 0x100)], reset := 0x8000000A, rw := 0xDFFFFFFF, hook := .pllOut },
  -- CLK.ADPLL[tb].OUT[2].CTL (R20)
  { base := 0x101060, dims := [(2, 0x100)], reset := 0x8000000C, rw := 0xDFFFFFFF, hook := .pllOut },
  -- CLK.ADPLL[tb].OUT[3].CTL (R20)
  { base := 0x101070, dims := [(2, 0x100)], reset := 0x80000030, rw := 0xDFFFFFFF, hook := .pllOut },
  -- CLK.ADPLL[tb].OUT[4].CTL (R20)
  { base := 0x101080, dims := [(2, 0x100)], reset := 0x80000078, rw := 0xDFFFFFFF, hook := .pllOut },
  -- CLK.ADPLL[tb].OUT[5].CTL (R20)
  { base := 0x101090, dims := [(2, 0x100)], reset := 0x80000014, rw := 0xDFFFFFFF, hook := .pllOut },
  -- CLK.ADPLL[n].OUT[m].CTL (R35)
  { base := 0x101240, dims := [(6, 0x100), (6, 0x10)], reset := 0x30, rw := 0xDFFFFFFF, hook := .pllOut },
  -- CLK.ADPLL[tb].OUT[m].CEIL (R40)
  { base := 0x101044, dims := [(2, 0x100), (6, 0x10)], reset := 0x186A00 },
  -- CLK.ADPLL[n].OUT[m].CEIL (R40)
  { base := 0x101244, dims := [(6, 0x100), (6, 0x10)], reset := 0x186A00, rw := 0x1FFFFF, legal := [(20, 0, 3900, 1600000)], hook := .pllCeil },
  -- CLK.ADPLL[tb].OUT[m].BKP (R43)
  { base := 0x101048, dims := [(2, 0x100), (6, 0x10)] },
  -- CLK.ADPLL[n].OUT[m].BKP (R43)
  { base := 0x101248, dims := [(6, 0x100), (6, 0x10)], rw := 0x1F7, legal := [(6, 4, 2, 7), (2, 0, 0, 5)], hook := .pllBkp },
  -- CLK.GCLK[k] (R44)
  { base := 0x102000, dims := [(32, 0x4)], rw := 0x3F377, legal := [(17, 12, 0, 47), (6, 4, 2, 7), (2, 0, 0, 5)], hook := .gclk },
  -- CLK.CAUSE[i] (R493)
  { base := 0x100080, dims := [(4, 0x4)], w1c := 0x1, cause := some 124 },
  -- CLK.CAUSE[i4] (R493)
  { base := 0x100090, dims := [(8, 0x4)], w1c := 0x7, cause := some 128 },
  -- CLK.CAUSE[i12] (R493)
  { base := 0x1000B0, dims := [(8, 0x4)], w1c := 0x3, cause := some 136 } ]

/-- Rows of the ACT block (R500). -/
def rowsAct0 : List RegRow := [
  -- ACT_CTL (R54)
  { base := 0x200000, reset := 0x400001, rw := 0x1FF0001 },
  -- ACT_STAT (R53)
  { base := 0x200004, hook := .actStat },
  -- ACT_PEND_HIGH (R53)
  { base := 0x200008, rc := 0x1FFF, hook := .actPendHigh },
  -- ACT_LATE_POLICY (R61)
  { base := 0x20000C, reset := 0x14555, rw := 0x3CFFF, legal := [(17, 16, 0, 2), (15, 14, 0, 2), (11, 10, 0, 2), (9, 8, 0, 2), (7, 6, 0, 2), (5, 4, 0, 2), (3, 2, 0, 2), (1, 0, 0, 2)] },
  -- ACT_LATE_MAX (R61)
  { base := 0x200010, reset := 0x3E8, rw := 0xFFFFF },
  -- ACT_LATE_INFO (R62)
  { base := 0x200014 },
  -- ACT_LATE_DUE_LO / _HI (R62)
  { base := 0x200018, pair := 1 },
  { base := 0x20001C, pair := 2 },
  -- ACT_ERR (R52)
  { base := 0x200020 },
  -- ACT_CT_AHEAD (R69)
  { base := 0x200024, reset := 0x8, rw := 0xFF },
  -- ACT_RMT_LEAD (R79)
  { base := 0x200028, reset := 0x2, rw := 0x7F },
  -- ACT_CANCEL (R63)
  { base := 0x20002C, rw := 0xFFFFFFF8, hook := .actCancel },
  -- ACT_CANCEL_CNT (R63)
  { base := 0x200030 },
  -- ACT.CAUSE[i0] (R85)
  { base := 0x200080, dims := [(2, 0x4)], w1c := 0x1FF, cause := some 112 },
  -- ACT.CAUSE[i2] (R85)
  { base := 0x200088, w1c := 0x3FA, cause := some 114 },
  -- ACT.CAUSE[i3] (R85)
  { base := 0x20008C, w1c := 0x1F, cause := some 115 },
  -- ACT.CAUSE[i4] (R85)
  { base := 0x200090, w1c := 0x3, cause := some 116 },
  -- ACT.CAUSE[i5] (R85)
  { base := 0x200094, w1c := 0xFF, cause := some 117 },
  -- ACT.CAUSE[i6] (R85)
  { base := 0x200098, w1c := 0x1F, cause := some 118 },
  -- ACT.CAUSE[i7] (R85)
  { base := 0x20009C, dims := [(2, 0x4)], w1c := 0xFFFF, cause := some 119 },
  -- ACT.CAUSE[i9] (R85)
  { base := 0x2000A4, dims := [(2, 0x4)], w1c := 0xF, cause := some 121 },
  -- ACT.CAUSE[i11] (R85)
  { base := 0x2000AC, w1c := 0xFFFF, cause := some 123 },
  -- ACT.LATE_CNT[k] (R62)
  { base := 0x200100, dims := [(9, 0x4)], rc := 0xFFFFFFFF },
  -- ACT.DROP_CNT[k] (R62)
  { base := 0x200140, dims := [(9, 0x4)], rc := 0xFFFFFFFF } ]

/-- Rows of the ACT block (R500). -/
def rowsAct1 : List RegRow := [
  -- ACT.CNT[n] (R48)
  { base := 0x200200, dims := [(16, 0x4)], rw := 0xFFFFFFFF },
  -- ACT.PORT[e].QUOTA (R53)
  { base := 0x201000, dims := [(64, 0x8)], reset := 0x20, rw := 0x1FFF, hook := .quota },
  -- ACT.PORT[f].QUOTA (R53)
  { base := 0x201200, dims := [(16, 0x8)], reset := 0x40, rw := 0x1FFF, hook := .quota },
  -- ACT.PORT[80].QUOTA (R53)
  { base := 0x201280, reset := 0x200, rw := 0x1FFF, hook := .quota },
  -- ACT.PORT[81].QUOTA (R53)
  { base := 0x201288, reset := 0x100, rw := 0x1FFF, hook := .quota },
  -- ACT.PORT[82].QUOTA (R53)
  { base := 0x201290, reset := 0xF8, rw := 0x1FFF, hook := .quota },
  -- ACT.PORT[83].QUOTA (R53)
  { base := 0x201298, reset := 0x8 },
  -- ACT.PORT[p].STAT (R53)
  { base := 0x201004, dims := [(84, 0x8)], rc := 0xFFFF, hook := .portStat },
  -- ACT.CT[t].CTL (R68)
  { base := 0x202000, dims := [(16, 0x40)], hook := .ctCtl },
  -- ACT.CT[t].STAT (R68)
  { base := 0x202004, dims := [(16, 0x40)], w1c := 0x18 },
  -- ACT.CT[t].ADM_PERIOD_LO / _HI (R67)
  { base := 0x202008, dims := [(16, 0x40)], rw := 0xFFFFFFFF, pair := 1, hook := .ctAdm },
  { base := 0x20200C, dims := [(16, 0x40)], rw := 0xFF, pair := 2, hook := .ctAdm },
  -- ACT.CT[t].OP_PERIOD_LO / _HI (R68)
  { base := 0x202010, dims := [(16, 0x40)], pair := 1 },
  { base := 0x202014, dims := [(16, 0x40)], pair := 2 },
  -- ACT.CT[t].CMD_TIME_LO / _HI (R68)
  { base := 0x202018, dims := [(16, 0x40)], rw := 0xFFFFFFFF, pair := 1 },
  { base := 0x20201C, dims := [(16, 0x40)], rw := 0xFFFFFFFF, pair := 2 },
  -- ACT.CT[t].BASE_LO / _HI (R68)
  { base := 0x202020, dims := [(16, 0x40)], pair := 1 },
  { base := 0x202024, dims := [(16, 0x40)], pair := 2 },
  -- ACT.CT[t].ADM_COUNT (R67)
  { base := 0x202028, dims := [(16, 0x40)], rw := 0x1FF, hook := .ctAdm },
  -- ACT.CT[t].OP_COUNT (R68)
  { base := 0x20202C, dims := [(16, 0x40)] },
  -- ACT.CT[t].PERIODS (R68)
  { base := 0x202030, dims := [(16, 0x40)] },
  -- ACT.CT[t].MISS (R69)
  { base := 0x202034, dims := [(16, 0x40)], rc := 0xFFFFFFFF },
  -- ACT.CAP[r].CFG (R76)
  { base := 0x203000, dims := [(4, 0x10)], reset := 0x1, rw := 0xBF0F07FF, legal := [(10, 0, 0, 1024)] },
  -- ACT.CAP[r].STAT (R76)
  { base := 0x203004, dims := [(4, 0x10)], hook := .capFill } ]

/-- Rows of the ACT block (R500). -/
def rowsAct2 : List RegRow := [
  -- ACT.CAP[r].LOST (R76)
  { base := 0x203008, dims := [(4, 0x10)], rc := 0xFFFFFFFF },
  -- ACT.CAP[r].REC (R77)
  { base := 0x204000, dims := [(4, 0x10), (4, 0x4)], hook := .capRec },
  -- ACT.CT[t].ADM[e].W0 (R66)
  { base := 0x210000, dims := [(16, 0x1000), (256, 0x10), (3, 0x4)], rw := 0xFFFFFFFF, hook := .ctAdm },
  -- ACT.CT[t].ADM[e].W3 (R66)
  { base := 0x21000C, dims := [(16, 0x1000), (256, 0x10)], rw := 0xFF, hook := .ctAdm },
  -- ACT.CT[t].OP[e].W0 (R68)
  { base := 0x220000, dims := [(16, 0x1000), (256, 0x10), (3, 0x4)] },
  -- ACT.CT[t].OP[e].W3 (R68)
  { base := 0x22000C, dims := [(16, 0x1000), (256, 0x10)] } ]

/-- Rows of the CFG block (R500). -/
def rowsCfg0 : List RegRow := [
  -- CFG_ID (R271)
  { base := 0x300000, reset := 0x969640 },
  -- CFG_REV (R271)
  { base := 0x300004, reset := 0x1 },
  -- CFG_BOOT (R267)
  { base := 0x300008 },
  -- CFG_VAULT (R254)
  { base := 0x30000C, hook := .cfgVault },
  -- CFG_MIN_SVN (R254)
  { base := 0x300010, hook := .cfgMinSvn },
  -- CFG.CAUSE[i] (R270)
  { base := 0x300080, dims := [(11, 0x4)], w1c := 0xFFFFFFFF, cause := some 160 },
  -- CFG.CAUSE[i15] (R270)
  { base := 0x3000BC, w1c := 0xFFFFFFFF, cause := some 175 },
  -- CFG.SLOT[k].STAT (R242)
  { base := 0x300100, dims := [(4, 0x20)] },
  -- CFG.SLOT[k].ERR_ADDR (R259)
  { base := 0x300104, dims := [(4, 0x20)] },
  -- CFG.SLOT[k].IMAGE_ID_LO / _HI (R242)
  { base := 0x300108, dims := [(4, 0x20)], pair := 1 },
  { base := 0x30010C, dims := [(4, 0x20)], pair := 2 },
  -- CFG.SLOT[k].SVN (R242)
  { base := 0x300110, dims := [(4, 0x20)] },
  -- CFG.SLOT[k].SECT_LO / _HI (R242)
  { base := 0x300114, dims := [(4, 0x20)], pair := 1 },
  { base := 0x300118, dims := [(4, 0x20)], pair := 2 },
  -- CFG.SLOT[k].STN (R242)
  { base := 0x30011C, dims := [(4, 0x20)] },
  -- CFG_STG_CTL (R260)
  { base := 0x300200, rw := 0xFC000030, hook := .stgCtl },
  -- CFG_STG_STAT (R259)
  { base := 0x300204 },
  -- CFG_STG_ERR_ADDR (R259)
  { base := 0x300208 },
  -- CFG_STG_SECT_LO / _HI (R271)
  { base := 0x300210, pair := 1 },
  { base := 0x300214, pair := 2 },
  -- CFG_STG_ENG_LO / _HI (R271)
  { base := 0x300218, pair := 1 },
  { base := 0x30021C, pair := 2 },
  -- CFG_STG_KEY_LO / _HI (R260)
  { base := 0x300220, rw := 0xFFFFFFFF, pair := 1 },
  { base := 0x300224, rw := 0xFFFFFFFF, pair := 2 } ]

/-- Rows of the CFG block (R500). -/
def rowsCfg1 : List RegRow := [
  -- CFG.OWN[s] (R252)
  { base := 0x300300, dims := [(48, 0x4)] },
  -- CFG.EOWN[e] (R252)
  { base := 0x300400, dims := [(64, 0x4)] },
  -- CFG_SCRUB_CTL (R268)
  { base := 0x300500, reset := 0xC000000A, rw := 0xC000FFFF },
  -- CFG_SCRUB_CE (R268)
  { base := 0x300504, rc := 0xFFFFFFFF },
  -- CFG_SCRUB_FIX (R268)
  { base := 0x300508, rc := 0xFFFFFFFF },
  -- CFG_SCRUB_SRC_ERR (R269)
  { base := 0x30050C, rc := 0xFFFFFFFF },
  -- CFG_SCRUB_LAST (R268)
  { base := 0x300510 },
  -- CFG_FRONT_CTL (R273)
  { base := 0x300600, rw := 0xFFFF0030, hook := .frontCtl },
  -- CFG_FRONT_STAT (R293)
  { base := 0x300604 },
  -- CFG_FRONT_TIME_LO / _HI (R273)
  { base := 0x300608, rw := 0xFFFFFFFF, pair := 1 },
  { base := 0x30060C, rw := 0xFFFFFFFF, pair := 2 },
  -- CFG_FRONT_DL_LO / _HI (R273)
  { base := 0x300610, rw := 0xFFFFFFFF, pair := 1 },
  { base := 0x300614, rw := 0xFFFFFFFF, pair := 2 },
  -- CFG_FRONT_PART (R273)
  { base := 0x300618, rw := 0xFFFF },
  -- CFG_FRONT_NOTICE (R277)
  { base := 0x30061C },
  -- CFG_FRONT_COUNT (R293)
  { base := 0x300620 },
  -- CFG_FRONT_CANCELS (R280)
  { base := 0x300624, rc := 0xFFFF },
  -- CFG_FRONT_LAST_LO / _HI (R293)
  { base := 0x300628, pair := 1 },
  { base := 0x30062C, pair := 2 },
  -- CFG_FRONT_HELD (R288)
  { base := 0x300630, rc := 0xFFFF } ]

/-- Rows of the NVC block (R500). -/
def rowsNvc0 : List RegRow := [
  -- NVC_CTL (R352)
  { base := 0x400000, reset := 0xA0803, rw := 0xFF1F03 },
  -- NVC_STAT (R352)
  { base := 0x400004, w1c := 0x8000 },
  -- NVC_OP_ADDR (R352)
  { base := 0x400008, rw := 0x3FFFFFF },
  -- NVC_OP_CTL (R352)
  { base := 0x40000C, hook := .nvcOpCtl },
  -- NVC_OP_RES (R339)
  { base := 0x400010 },
  -- NVC_SUSP_CNT (R352)
  { base := 0x400014 },
  -- NVC_ERASE_AGE (R352)
  { base := 0x400018, hook := .eraseAge },
  -- NVC_CE_CNT (R352)
  { base := 0x40001C, rc := 0xFFFF },
  -- NVC_UE_CNT (R352)
  { base := 0x400020, rc := 0xFFFF },
  -- NVC_RDFLAG (R352)
  { base := 0x400024 },
  -- NVC_SQUALL (R352)
  { base := 0x400028, reset := 0x3E80003, rw := 0xFFFF00FF },
  -- NVC_INTR (R346)
  { base := 0x40002C, w1c := 0x80000000, hook := .nvcIntr },
  -- NVC_INTR_PROG (R346)
  { base := 0x400030, w1c := 0x80000000, hook := .nvcIntr },
  -- NVC.CAUSE[i] (R352)
  { base := 0x400080, dims := [(16, 0x4)], w1c := 0xFFFFFFFF, cause := some 176 },
  -- NVC.BANK[b].STAT (R352)
  { base := 0x400100, dims := [(8, 0x4)], reset := 0x400000 },
  -- NVC_DATA[n] (R352)
  { base := 0x400200, dims := [(64, 0x4)], rw := 0xFFFFFFFF },
  -- NVC.SST[k] (R352)
  { base := 0x410000, dims := [(16384, 0x4)] } ]

/-- Rows of the KEY block (R500). -/
def rowsKey0 : List RegRow := [
  -- KEY_CTL (R331)
  { base := 0x500000, reset := 0x6, rw := 0x7F },
  -- KEY_STAT (R331)
  { base := 0x500004, w1c := 0x4000 },
  -- KEY_CMD (R331)
  { base := 0x500008, hook := .keyCmd },
  -- KEY_SIZE (R331)
  { base := 0x50000C },
  -- KEY_DIR_SEQ (R331)
  { base := 0x500010 },
  -- KEY_ID_LO / _HI (R331)
  { base := 0x500014, pair := 1 },
  { base := 0x500018, pair := 2 },
  -- KEY_FMT_ID (R331)
  { base := 0x50001C, rw := 0xFFFFFFFF },
  -- KEY_FMT_STAT (R320)
  { base := 0x500020 },
  -- KEY_SET_CNT (R331)
  { base := 0x500024 },
  -- KEY_WB_DIRTY (R331)
  { base := 0x500028, hook := .keyDirty },
  -- KEY_WB_LOST (R329)
  { base := 0x50002C, rc := 0xFFFF },
  -- KEY_JSEQ (R331)
  { base := 0x500030 },
  -- KEY_WB_PERIOD (R331)
  { base := 0x500034, reset := 0x3E8, rw := 0xFFFF },
  -- KEY.CAUSE[i] (R331)
  { base := 0x500080, dims := [(8, 0x4)], w1c := 0xFFFFFFFF, cause := some 192 } ]

/-- Rows of the NET block (R500). -/
def rowsNet0 : List RegRow := [
  -- NET_CTL (R364)
  { base := 0x600000, reset := 0x30100, rw := 0xFFF17F, legal := [(15, 12, 12, 3)] },
  -- NET_STAT (R378)
  { base := 0x600004 },
  -- NET_MAC_LO / _HI (R355)
  { base := 0x600008, pair := 1 },
  { base := 0x60000C, pair := 2 },
  -- NET_PTP_EPOCH_LO / _HI (R357)
  { base := 0x600010, rw := 0xFFFFFFFF, pair := 1 },
  { base := 0x600014, rw := 0xFFFFFFFF, pair := 2 },
  -- NET_GM_ID_LO / _HI (R357)
  { base := 0x600018, pair := 1 },
  { base := 0x60001C, pair := 2 },
  -- NET_RESET_MS (R362)
  { base := 0x600020, reset := 0x64, rw := 0xFFFF },
  -- NET.VID[k] (R355)
  { base := 0x600040, dims := [(16, 0x4)], rw := 0x80000FFF },
  -- NET.CAUSE[i] (R377)
  { base := 0x600080, dims := [(2, 0x4)], w1c := 0xFF, cause := some 144 },
  -- NET.CAUSE[i2] (R377)
  { base := 0x600088, w1c := 0x7, cause := some 146 },
  -- NET.CAUSE[i3] (R377)
  { base := 0x60008C, w1c := 0x3F, cause := some 147 },
  -- NET.CAUSE[i4] (R377)
  { base := 0x600090, w1c := 0xF, cause := some 148 },
  -- NET.CAUSE[i5] (R377)
  { base := 0x600094, w1c := 0x3, cause := some 149 },
  -- NET.CAUSE[i6] (R377)
  { base := 0x600098, dims := [(8, 0x4)], w1c := 0xF, cause := some 150 },
  -- NET.CAUSE[i14] (R377)
  { base := 0x6000B8, w1c := 0x1F, cause := some 158 },
  -- NET.PORT[p].CTL (R354)
  { base := 0x601000, dims := [(2, 0x1000)], reset := 0x3, rw := 0x7, hook := .netPortCtl },
  -- NET.PORT[p].STAT (R363)
  { base := 0x601004, dims := [(2, 0x1000)], w1c := 0x100 },
  -- NET.PORT[p].PDELAY (R357)
  { base := 0x601008, dims := [(2, 0x1000)] },
  -- NET.PORT[p].RX_DROP (R355)
  { base := 0x60100C, dims := [(2, 0x1000)], rc := 0xFFFFFFFF },
  -- NET.PORT[p].PCP_MAP (R358)
  { base := 0x601010, dims := [(2, 0x1000)], reset := 0xFAC688, rw := 0xFFFFFF },
  -- NET.PORT[p].GCL_CTL (R360)
  { base := 0x601014, dims := [(2, 0x1000)], rw := 0x40000000, w1c := 0x10000000, hook := .gclCtl },
  -- NET.PORT[p].ADM_BASE_LO / _HI (R360)
  { base := 0x601018, dims := [(2, 0x1000)], rw := 0xFFFFFFFF, pair := 1, hook := .gclAdm } ]

/-- Rows of the NET block (R500). DESIGN CHOICE (log entry 186): DA_LO of a stream and its word with DA_HI are two plain words, no pair of R7. -/
def rowsNet1 : List RegRow := [
  { base := 0x60101C, dims := [(2, 0x1000)], rw := 0xFFFFFFFF, pair := 2, hook := .gclAdm },
  -- NET.PORT[p].ADM_CYCLE (R359)
  { base := 0x601020, dims := [(2, 0x1000)], reset := 0xF4240, rw := 0xFFFFFFFF, hook := .gclAdm },
  -- NET.PORT[p].ADM_LEN (R359)
  { base := 0x601024, dims := [(2, 0x1000)], rw := 0x1FF, hook := .gclAdm },
  -- NET.PORT[p].OPER_BASE_LO / _HI (R360)
  { base := 0x601028, dims := [(2, 0x1000)], pair := 1 },
  { base := 0x60102C, dims := [(2, 0x1000)], pair := 2 },
  -- NET.PORT[p].OPER_CYCLE (R360)
  { base := 0x601030, dims := [(2, 0x1000)] },
  -- NET.PORT[p].OPER_LEN (R360)
  { base := 0x601034, dims := [(2, 0x1000)] },
  -- NET.PORT[p].TXQ_DROP (R358)
  { base := 0x601038, dims := [(2, 0x1000)], rc := 0xFFFFFFFF },
  -- NET.PORT[p].ADM[e] (R359)
  { base := 0x601800, dims := [(2, 0x1000), (512, 0x4)], rw := 0xFFFFFFFF, hook := .gclAdm },
  -- NET.PORT[p].OPER[e] (R360)
  { base := 0x604000, dims := [(2, 0x800), (512, 0x4)] },
  -- NET.TXS[i].DA_LO (R362)
  { base := 0x608000, dims := [(64, 0x20)], rw := 0xFFFFFFFF },
  -- NET.TXS[i].DA_HI (R362)
  { base := 0x608004, dims := [(64, 0x20)], rw := 0x8FFFFFFF },
  -- NET.TXS[i].SEQ (R362)
  { base := 0x608008, dims := [(64, 0x20)] },
  -- NET.RXS[i].DA_LO (R362)
  { base := 0x60A000, dims := [(64, 0x20)], rw := 0xFFFFFFFF },
  -- NET.RXS[i].DA_HI (R362)
  { base := 0x60A004, dims := [(64, 0x20)], rw := 0x8FFFFFFF },
  -- NET.RXS[i].PASSED (R362)
  { base := 0x60A008, dims := [(64, 0x20)], rc := 0xFFFFFFFF },
  -- NET.RXS[i].DUPLICATE (R362)
  { base := 0x60A00C, dims := [(64, 0x20)], rc := 0xFFFFFFFF },
  -- NET.RXS[i].ROGUE (R362)
  { base := 0x60A010, dims := [(64, 0x20)], rc := 0xFFFFFFFF },
  -- NET.RXS[i].TAGLESS (R362)
  { base := 0x60A014, dims := [(64, 0x20)], rc := 0xFFFFFFFF },
  -- NET.RXS[i].RESETS (R362)
  { base := 0x60A018, dims := [(64, 0x20)], rc := 0xFFFFFFFF },
  -- NET.SL[l].CTL (R378)
  { base := 0x60C000, dims := [(8, 0x20)], reset := 0x1, rw := 0x1, hook := .slCtl },
  -- NET.SL[l].STAT (R368)
  { base := 0x60C004, dims := [(8, 0x20)] },
  -- NET.SL[l].DELAY (R372)
  { base := 0x60C008, dims := [(8, 0x20)] },
  -- NET.SL[l].CRC_ERR (R370)
  { base := 0x60C00C, dims := [(8, 0x20)], rc := 0xFFFFFFFF } ]

/-- Rows of the NET block (R500). -/
def rowsNet2 : List RegRow := [
  -- NET_SL_DOMAIN (R368)
  { base := 0x60C200 } ]

/-- Rows of the CMD block (R500). -/
def rowsCmd0 : List RegRow := [
  -- CMD_CTL (R410)
  { base := 0x700000, reset := 0xA64CC00, rw := 0xFFFFFC00 },
  -- CMD_STAT (R410)
  { base := 0x700004, hook := .cmdStat },
  -- CMD_LEASE_CFG (R395)
  { base := 0x700008, rw := 0x8000000F },
  -- CMD_LEASE_LEFT (R410)
  { base := 0x70000C, hook := .cmdLeaseLeft },
  -- CMD_LAPSE_ENG_LO / _HI (R395)
  { base := 0x700010, rw := 0xFFFFFFFF, pair := 1 },
  { base := 0x700014, rw := 0xFFFFFFFF, pair := 2 },
  -- CMD_TAG_FAIL (R386)
  { base := 0x700018, rc := 0xFFFFFFFF },
  -- CMD_CONFLICT_CNT (R393)
  { base := 0x70001C, rc := 0xFFFFFFFF },
  -- CMD_REPLAY (R387)
  { base := 0x700020, rc := 0xFFFFFFFF },
  -- CMD_LAPSE_CODE (R395)
  { base := 0x700024, rw := 0xFFFFFFFF },
  -- CMD_LAPSE_TBL (R395)
  { base := 0x700028, rw := 0xFFFF },
  -- CMD_LAPSE_CANCEL (R395)
  { base := 0x70002C, rw := 0xFFFFFFF8 },
  -- CMD.CAUSE[i0] (R409)
  { base := 0x700080, w1c := 0xFFF, cause := some 240 },
  -- CMD.CAUSE[i1] (R409)
  { base := 0x700084, w1c := 0x3F, cause := some 241 },
  -- CMD.CAUSE[i2] (R409)
  { base := 0x700088, dims := [(2, 0x4)], w1c := 0xFFFFFFFF, cause := some 242 },
  -- CMD.CAUSE[i4] (R409)
  { base := 0x700090, w1c := 0xF, cause := some 244 },
  -- CMD.SESS[k].STAT (R410)
  { base := 0x700100, dims := [(4, 0x10)], hook := .sessStat },
  -- CMD.SESS[k].SEQ (R410)
  { base := 0x700104, dims := [(4, 0x10)], hook := .sessSeq },
  -- CMD.SESS[k].MAC_LO / _HI (R410)
  { base := 0x700108, dims := [(4, 0x10)], pair := 1, hook := .sessMac },
  { base := 0x70010C, dims := [(4, 0x10)], pair := 2, hook := .sessMac } ]

/-- Rows of the ARB block (R500). -/
def rowsArb0 : List RegRow := [
  -- ARB_ERR (R420)
  { base := 0x800000, w1c := 0x800000 },
  -- ARB.CAUSE[i0] (R424)
  { base := 0x800080, w1c := 0x1F, cause := some 232 },
  -- ARB.CAUSE[i1] (R424)
  { base := 0x800084, w1c := 0x1F1F, cause := some 233 },
  -- ARB.CAUSE[i2] (R424)
  { base := 0x800088, dims := [(3, 0x4)], w1c := 0x1F, cause := some 234 },
  -- ARB.REQ[q] (R425)
  { base := 0x800200, dims := [(83, 0x4)], hook := .arbReq },
  -- ARB.R[r].CTL (R423)
  { base := 0x801000, dims := [(5, 0x200)], reset := 0x40100810, rw := 0xC0FF7F7F, hook := .arbCtl },
  -- ARB.R[r].STAT (R425)
  { base := 0x801004, dims := [(5, 0x200)], hook := .arbStat },
  -- ARB.R[r].GRANTS (R425)
  { base := 0x801008, dims := [(5, 0x200)], rc := 0xFFFFFFFF },
  -- ARB.R[r].LONG_GRANTS (R425)
  { base := 0x80100C, dims := [(5, 0x200)], rc := 0xFFFFFFFF },
  -- ARB.R[r].WAIT_MAX (R425)
  { base := 0x801010, dims := [(5, 0x200)], rc := 0xFFFFFFFF },
  -- ARB.R[r].WAIT_WARN (R424)
  { base := 0x801014, dims := [(5, 0x200)], rw := 0xFFFFFF },
  -- ARB.R[r].RANK[w] (R425)
  { base := 0x801100, dims := [(5, 0x200), (4, 0x4)], reset := 0xAAAAAAAA, rw := 0xFFFFFFFF },
  -- ARB.R[r].RANK[w4] (R425)
  { base := 0x801110, dims := [(5, 0x200)], reset := 0x55555555, rw := 0xFFFFFFFF },
  -- ARB.R[r].RANK[w5] (R425)
  { base := 0x801114, dims := [(5, 0x200)], reset := 0xE, rw := 0x3F } ]

/-- Rows of the PWR block (R500). -/
def rowsPwr0 : List RegRow := [
  -- PWR_LAST_WAKE (R444)
  { base := 0x900000 },
  -- PWR_LAST_WAKE_TIME_LO / _HI (R444)
  { base := 0x900004, pair := 1 },
  { base := 0x900008, pair := 2 },
  -- PWR_RETLOST (R438)
  { base := 0x90000C },
  -- PWR_SUPERSEDED (R436)
  { base := 0x900010, rc := 0xFFFF },
  -- PWR.CAUSE[i8] (R446)
  { base := 0x9000A0, dims := [(2, 0x4)], w1c := 0xF, cause := some 208 },
  -- PWR.CAUSE[i10] (R446)
  { base := 0x9000A8, w1c := 0x1, cause := some 210 },
  -- PWR.CAUSE[i11] (R446)
  { base := 0x9000AC, w1c := 0x7, cause := some 211 },
  -- PWR.CAUSE[i12] (R446)
  { base := 0x9000B0, w1c := 0x1, cause := some 212 },
  -- PWR.CAUSE[i13] (R446)
  { base := 0x9000B4, w1c := 0x3, cause := some 213 },
  -- PWR.DOM[d].CTL (R431)
  { base := 0x901000, dims := [(135, 0x20)], reset := 0x1000000, rw := 0x3FFFFFF },
  -- PWR.DOM[d].REQ (R433)
  { base := 0x901004, dims := [(135, 0x20)], hook := .domReq },
  -- PWR.DOM[d].STAT (R447)
  { base := 0x901008, dims := [(135, 0x20)], w1c := 0xC0000, hook := .domStat },
  -- PWR.DOM[d].WAKE (R444)
  { base := 0x90100C, dims := [(135, 0x20)] },
  -- PWR.DOM[d].WAKE_TIME_LO / _HI (R444)
  { base := 0x901010, dims := [(135, 0x20)], pair := 1 },
  { base := 0x901014, dims := [(135, 0x20)], pair := 2 },
  -- PWR.DOM[d].SUPERSEDED (R436)
  { base := 0x901018, dims := [(135, 0x20)], rc := 0xFFFF },
  -- PWR.DOM[d].LATENCY (R434)
  { base := 0x90101C, dims := [(135, 0x20)], hook := .domLatency },
  -- PWR.CAUSE[i0] (R465)
  { base := 0x900080, dims := [(7, 0x4)], w1c := 0xFF, cause := some 200 } ]

/-- Rows of the TST block (R500). -/
def rowsTst0 : List RegRow := [
  -- TST.PRB[c].SEL (R214)
  { base := 0xA08000, dims := [(64, 0x8)], rw := 0x801FFFFF },
  -- TST.PRB[c].PIN (R215)
  { base := 0xA08004, dims := [(64, 0x8)], rw := 0x800007FF, hook := .prbPin },
  -- PRB_STAT (R217)
  { base := 0xA08400, w1c := 0x3 },
  -- TRC_CTL (R217)
  { base := 0xA09000, rw := 0x3FFFFF00 },
  -- TRC_CMD (R217)
  { base := 0xA09004, hook := .trcCmd },
  -- TRC_POST (R217)
  { base := 0xA09008, reset := 0x2000, rw := 0x7FFF },
  -- TRC_STAT (R217)
  { base := 0xA0900C },
  -- TRC_TRIG (R217)
  { base := 0xA09010 },
  -- TRC_OLDEST (R218)
  { base := 0xA09014 },
  -- TRC_MASK_LO / _HI (R217)
  { base := 0xA09018, rw := 0xFFFFFFFF, pair := 1 },
  { base := 0xA0901C, rw := 0xFFFFFFFF, pair := 2 },
  -- TRC_VAL_LO / _HI (R217)
  { base := 0xA09020, rw := 0xFFFFFFFF, pair := 1 },
  { base := 0xA09024, rw := 0xFFFFFFFF, pair := 2 },
  -- TRC_TIME_LO / _HI (R217)
  { base := 0xA09028, rw := 0xFFFFFFFF, pair := 1 },
  { base := 0xA0902C, rw := 0xFFFFFFFF, pair := 2 },
  -- TST_CTL (R468)
  { base := 0xA00000, reset := 0x80000110, rw := 0x80000310 },
  -- TST_STAT (R490)
  { base := 0xA00004, w1c := 0x80000000, hook := .tstStat },
  -- TST_SQ_CFG (R477)
  { base := 0xA00008, reset := 0x3E80003, rw := 0xFFFF00FF },
  -- TST_SCAN (R487)
  { base := 0xA0000C },
  -- TST_RLOG_CNT (R490)
  { base := 0xA00010, hook := .rlogCnt },
  -- TST_RLOG_SEL (R480)
  { base := 0xA00014, rw := 0x7FF },
  -- TST_REINSTATE (R482)
  { base := 0xA00018, hook := .tstReinstate },
  -- TST.CAUSE[i0] (R489)
  { base := 0xA00080, dims := [(2, 0x4)], w1c := 0x7F, cause := some 216 },
  -- TST.CAUSE[i2] (R489)
  { base := 0xA00088, w1c := 0x7FF, cause := some 218 } ]

/-- Rows of the TST block (R500). -/
def rowsTst1 : List RegRow := [
  -- TST.CAUSE[i3] (R489)
  { base := 0xA0008C, dims := [(2, 0x4)], w1c := 0x7F, cause := some 219 },
  -- TST.CAUSE[i5] (R489)
  { base := 0xA00094, w1c := 0x7, cause := some 221 },
  -- TST.CAUSE[i6] (R489)
  { base := 0xA00098, w1c := 0x7F, cause := some 222 },
  -- TST.CAUSE[i7] (R489)
  { base := 0xA0009C, w1c := 0x7, cause := some 223 },
  -- TST.TYPE[t].CTL (R475)
  { base := 0xA00100, dims := [(7, 0x20)], reset := 0x8000003C, rw := 0x8000FFFF },
  -- TST.TYPE[t].STAT (R490)
  { base := 0xA00104, dims := [(7, 0x20)], hook := .typeStat },
  -- TST.TYPE[t].FAIL (R476)
  { base := 0xA00108, dims := [(7, 0x20)], rc := 0xFFFF },
  -- TST.TYPE[t].ABORT (R490)
  { base := 0xA0010C, dims := [(7, 0x20)], rc := 0xFFFF },
  -- TST.TYPE[t].LATE (R475)
  { base := 0xA00110, dims := [(7, 0x20)], rc := 0xFFFF },
  -- TST.TYPE[t].FAIL_UNIT (R476)
  { base := 0xA00114, dims := [(7, 0x20)] },
  -- TST.TYPE[t].FAIL_ADDR (R476)
  { base := 0xA00118, dims := [(7, 0x20)] },
  -- TST.SQ_SEC[s] (R477)
  { base := 0xA00400, dims := [(48, 0x4)], hook := .sqSec },
  -- TST.SQ_PLL[n] (R478)
  { base := 0xA00500, dims := [(8, 0x4)], hook := .sqPll },
  -- TST.RLOG[w] (R479)
  { base := 0xA01000, dims := [(8, 0x4)], hook := .rlogWord } ]

/-- Rows of the EVT block (R500). -/
def rowsEvt0 : List RegRow := [
  -- EVT_STAT (R499)
  { base := 0xB00000, w1c := 0x1 },
  -- EVT.MC_EN[w] (R495)
  { base := 0xB00100, dims := [(10, 0x4)], reset := 0xFFFFFFFF, rw := 0xFFFFFFFF },
  -- EVT.FAB[k] (R497)
  { base := 0xB00200, dims := [(32, 0x4)], rw := 0xC00001FF, hook := .evtRoute },
  -- EVT.PEND[w] (R498)
  { base := 0xB00300, dims := [(10, 0x4)], hook := .evtPend },
  -- EVT.ENG[e].SUB[j] (R496)
  { base := 0xB01000, dims := [(64, 0x80), (32, 0x4)], rw := 0xC00001FF, hook := .evtRoute },
  -- EVT.UCAUSE[u] (R494)
  { base := 0xB04000, dims := [(64, 0x4)], w1c := 0xFFFFFFFF, cause := some 256 } ]

/-- Rows of the ANA block (R500). DESIGN CHOICE (log entry 185): the device is the AZ9640-F17-I, whose ANA_THERM_WARN and
ANA_THERM_CRIT reset to 100 and 110 (R1). -/
def rowsAna0 : List RegRow := [
  -- ANA.ADC[c].STAT (R182)
  { base := 0xC01000, dims := [(4, 0x10)], hook := .adcStat },
  -- ANA.ADC[c].COLL (R184)
  { base := 0xC01004, dims := [(4, 0x10)], rc := 0xFFFFFFFF },
  -- ANA.SEQ[l].LEN (R183)
  { base := 0xC01100, dims := [(16, 0x20)], reset := 0x1, rw := 0x1F },
  -- ANA.SEQ[l].CODE[w] (R183)
  { base := 0xC01104, dims := [(16, 0x20), (4, 0x4)], rw := 0x3F3F3F3F },
  -- ANA.ADC_RES[code] (R185)
  { base := 0xC01400, dims := [(48, 0x4)] },
  -- ANA.ADC_ROUTE[code] (R185)
  { base := 0xC01500, dims := [(48, 0x4)], rw := 0x80003F07 },
  -- ANA_IN_STAT (R466)
  { base := 0xC00000 },
  -- ANA_WARN_CNT (R466)
  { base := 0xC00004, rc := 0xFFFF },
  -- ANA_DIP_MIN (R466)
  { base := 0xC00008 },
  -- ANA_PIN_WARN (R466)
  { base := 0xC0000C, reset := 0x125C, rw := 0xFFFF },
  -- ANA.PORT[p].VIN (R466)
  { base := 0xC00010, dims := [(2, 0x10)] },
  -- ANA.PORT[p].IIN (R466)
  { base := 0xC00014, dims := [(2, 0x10)] },
  -- ANA.PORT[p].PIN (R466)
  { base := 0xC00018, dims := [(2, 0x10)] },
  -- ANA.PORT[p].STAT (R466)
  { base := 0xC0001C, dims := [(2, 0x10)] },
  -- ANA.RAIL[j] (R466)
  { base := 0xC00030, dims := [(4, 0x4)] },
  -- ANA.CAUSE[i] (R466)
  { base := 0xC00080, dims := [(8, 0x4)], w1c := 0xFFFFFFFF, cause := some 248 },
  -- ANA.AUX[k].CTL (R466)
  { base := 0xC00200, dims := [(8, 0x10)], rw := 0x331, hook := .auxCtl },
  -- ANA.AUX[k].STAT (R466)
  { base := 0xC00204, dims := [(8, 0x10)] },
  -- ANA_THERM_WARN (R466)
  { base := 0xC00300, reset := 0x64, rw := 0xFF },
  -- ANA_THERM_CRIT (R466)
  { base := 0xC00304, reset := 0x6E },
  -- ANA.TEMP[j] (R466)
  { base := 0xC00310, dims := [(8, 0x4)] } ]

/-- Rows of the ENG block (R500). -/
def rowsEng0 : List RegRow := [
  -- ENG[n].CTL (R123)
  { base := 0x10000000, dims := [(68, 0x40000)], reset := 0x4, rw := 0x7F0D, legal := [(14, 8, 0, 67)], hook := .engCtl },
  -- ENG[n].STAT (R123)
  { base := 0x10000004, dims := [(64, 0x40000)], reset := 0x2, w1c := 0x200, hook := .engStat },
  -- ENG[lee].STAT (R123)
  { base := 0x11000004, dims := [(4, 0x40000)], reset := 0x6, w1c := 0x200, hook := .engStat },
  -- ENG[n].MAP (R86)
  { base := 0x10000008, dims := [(64, 0x40000)], reset := 0x80000000, hook := .engMap },
  -- ENG[lee].MAP (R86)
  { base := 0x11000008, dims := [(4, 0x40000)] },
  -- ENG[n].CYC (R95)
  { base := 0x1000000C, dims := [(68, 0x40000)], reset := 0x1E8480, rw := 0xFFFFFF },
  -- ENG[n].WDT (R118)
  { base := 0x10000010, dims := [(68, 0x40000)], reset := 0x62, rw := 0x17F },
  -- ENG[n].RETRY (R123)
  { base := 0x10000014, dims := [(68, 0x40000)], rc := 0xFFFFFFFF },
  -- ENG[n].SQUALL (R105)
  { base := 0x10000018, dims := [(68, 0x40000)], reset := 0x3E80003, rw := 0xFFFF00FF, hook := .engSquall },
  -- ENG[n].LOG (R103)
  { base := 0x1000001C, dims := [(68, 0x40000)], rc := 0x7FFFFFF },
  -- ENG[n].CAUSE (R122)
  { base := 0x10000020, dims := [(68, 0x40000)], w1c := 0x1FFFF, hook := .engCause },
  -- ENG[n].MBOX_CFG (R112)
  { base := 0x10000024, dims := [(68, 0x40000)], rw := 0xFFFF },
  -- ENG[n].MBOX_STAT (R112)
  { base := 0x10000028, dims := [(68, 0x40000)], w1c := 0xFFFF0000 },
  -- ENG[n].BP_CFG (R114)
  { base := 0x1000002C, dims := [(68, 0x40000)], reset := 0x400, rw := 0xFFFF },
  -- ENG[n].FAR_CTL (R116)
  { base := 0x10000030, dims := [(68, 0x40000)], rw := 0x1, hook := .farCtl },
  -- ENG[n].FAR_MISS (R116)
  { base := 0x10000034, dims := [(68, 0x40000)], rc := 0xFFFFFFFF },
  -- ENG[n].LOST (R93)
  { base := 0x10000038, dims := [(68, 0x40000)], rc := 0xFFFFFFFF },
  -- ENG[n].CYCT_LO / _HI (R91)
  { base := 0x10000040, dims := [(68, 0x40000)], pair := 1 },
  { base := 0x10000044, dims := [(68, 0x40000)], pair := 2 },
  -- ENG[n].MBOX[m]_LO / _HI (R111)
  { base := 0x10000100, dims := [(68, 0x40000), (16, 0x8)], rw := 0xFFFFFFFF, pair := 1, hook := .mbox },
  { base := 0x10000104, dims := [(68, 0x40000), (16, 0x8)], rw := 0xFFFFFFFF, pair := 2, hook := .mbox } ]

/-- Rows of the SEC block (R500). -/
def rowsSec0 : List RegRow := [
  -- SEC[s].STAT (R220)
  { base := 0x20000000, dims := [(48, 0x100000)], hook := .secStat },
  -- SEC[s].CAUSE (R219)
  { base := 0x20000004, dims := [(48, 0x100000)], w1c := 0x7F, cause := some 64 },
  -- SEC[s].RCLK_GATE (R203)
  { base := 0x20000008, dims := [(48, 0x100000)], rw := 0xFFFF },
  -- SEC[s].CONT_INFO (R200)
  { base := 0x2000000C, dims := [(48, 0x100000)] },
  -- SEC[s].CONT_CNT (R200)
  { base := 0x20000010, dims := [(48, 0x100000)], rc := 0xFFFF },
  -- SEC[s].CONT_TIME_LO / _HI (R200)
  { base := 0x20000014, dims := [(48, 0x100000)], pair := 1 },
  { base := 0x20000018, dims := [(48, 0x100000)], pair := 2 },
  -- SEC[s].STB_OVR (R207)
  { base := 0x2000001C, dims := [(48, 0x100000)], w1c := 0xFF },
  -- SEC[s].RCLK[j] (R203)
  { base := 0x20000020, dims := [(48, 0x100000), (16, 0x4)] },
  -- SEC[s].STB[n] (R207)
  { base := 0x20000060, dims := [(48, 0x100000), (8, 0x4)] },
  -- SEC[s].STB_DATA[n] (R207)
  { base := 0x20000080, dims := [(48, 0x100000), (8, 0x4)] },
  -- SEC[s].PI[i] (R208)
  { base := 0x200000A0, dims := [(48, 0x100000), (8, 0x4)] },
  -- SEC[s].MEM_ERR_INFO (R239)
  { base := 0x20001000, dims := [(48, 0x100000)] },
  -- SEC[s].MEM_ERR_TIME_LO / _HI (R239)
  { base := 0x20001004, dims := [(48, 0x100000)], pair := 1 },
  { base := 0x20001008, dims := [(48, 0x100000)], pair := 2 },
  -- SEC[s].MEM_CE_CNT (R239)
  { base := 0x2000100C, dims := [(48, 0x100000)], rc := 0xFFFF },
  -- SEC[s].MEM_UE_CNT (R239)
  { base := 0x20001010, dims := [(48, 0x100000)], rc := 0xFFFF },
  -- SEC[s].MUL_ERR_CNT (R239)
  { base := 0x20001014, dims := [(48, 0x100000)], rc := 0xFFFF },
  -- SEC[s].MEM_SQUALL (R239)
  { base := 0x20001018, dims := [(48, 0x100000)], reset := 0x3E80003, rw := 0xFFFF00FF },
  -- SEC[s].MEM_SWEEP (R239)
  { base := 0x2000101C, dims := [(48, 0x100000)], reset := 0x80000064, rw := 0x8000FFFF },
  -- SEC[s].SPARE_BRAM (R239)
  { base := 0x20001020, dims := [(48, 0x100000)] },
  -- SEC[s].SPARE_MUL (R239)
  { base := 0x20001024, dims := [(48, 0x100000)] },
  -- SEC[s].MEM_REPAIR (R240)
  { base := 0x20001028, dims := [(48, 0x100000)], hook := .memRepair },
  -- SEC[s].BRAM_RETIRED (R239)
  { base := 0x2000102C, dims := [(48, 0x100000)] } ]

/-- Rows of the SEC block (R500). -/
def rowsSec1 : List RegRow := [
  -- SEC[s].MUL_RETIRED (R239)
  { base := 0x20001030, dims := [(48, 0x100000)] },
  -- SEC[s].MEM_INIT_BUSY (R237)
  { base := 0x20001034, dims := [(48, 0x100000)] },
  -- SEC[s].MEM_STAT (R239)
  { base := 0x20001038, dims := [(48, 0x100000)], w1c := 0x7 } ]

/-- The rows of the block that holds address `a` (R500); none outside every block. -/
def blockRows (a : Nat) : List RegRow :=
  if 0x0 ≤ a ∧ a ≤ 0xFFFFF then rowsDev0
  else if 0x100000 ≤ a ∧ a ≤ 0x1FFFFF then rowsClk0 ++ rowsClk1
  else if 0x200000 ≤ a ∧ a ≤ 0x2FFFFF then rowsAct0 ++ rowsAct1 ++ rowsAct2
  else if 0x300000 ≤ a ∧ a ≤ 0x3FFFFF then rowsCfg0 ++ rowsCfg1
  else if 0x400000 ≤ a ∧ a ≤ 0x4FFFFF then rowsNvc0
  else if 0x500000 ≤ a ∧ a ≤ 0x5FFFFF then rowsKey0
  else if 0x600000 ≤ a ∧ a ≤ 0x6FFFFF then rowsNet0 ++ rowsNet1 ++ rowsNet2
  else if 0x700000 ≤ a ∧ a ≤ 0x7FFFFF then rowsCmd0
  else if 0x800000 ≤ a ∧ a ≤ 0x8FFFFF then rowsArb0
  else if 0x900000 ≤ a ∧ a ≤ 0x9FFFFF then rowsPwr0
  else if 0xA00000 ≤ a ∧ a ≤ 0xAFFFFF then rowsTst0 ++ rowsTst1
  else if 0xB00000 ≤ a ∧ a ≤ 0xBFFFFF then rowsEvt0
  else if 0xC00000 ≤ a ∧ a ≤ 0xCFFFFF then rowsAna0
  else if 0x10000000 ≤ a ∧ a ≤ 0x110FFFFF then rowsEng0
  else if 0x20000000 ≤ a ∧ a ≤ 0x22FFFFFF then rowsSec0 ++ rowsSec1
  else []

end Sys2Proof.Machine
end

