-- ==== Sys2Proof/Machine/State.lean ====
section
/-!
DEFINITION. Sys2Proof/Machine/State.lean: everything the spec gives the AZ9640 to hold, as plain data. Every 32-bit
register of the register map (R500) has its one home in `State.regs`, keyed by its management address and holding only
the registers that differ from their reset value (Machine/RegTable.lean); what the spec gives the device beside its
registers stands in one structure per chapter. `pending` is the queue of commands, first in, first out.
-/
namespace Sys2Proof.Machine

/-- Why the machine stops. -/
inductive Fault where
  /-- A command that cannot exist at the device's boundary (a packet, a frame or a list longer than its port can
  carry, Sys2Proof.Instr.wf). Raised by nothing: no command of the table stops the device, and a command that is not
  well-formed runs like any other. Safe: no such input exists. -/
  | malformedCommand (what : String)
deriving DecidableEq, Repr

/-- Why a command has no meaning. -/
inductive Refusal where
  /-- A row of the opcode table not modelled yet, by its mnemonic. Raised by the arms of `exec` alone. Safe. -/
  | notModelled (mnemonic : String)
deriving DecidableEq, Repr

/-! ## Device time and clock synthesis (02) -/

/-- What drives the consumers of an ADPLL output (R32, R37, R43). -/
inductive OutSrc where
  /-- The output's own DCO. -/
  | own
  /-- Gated low. -/
  | gated
  /-- The sibling output `o` of ADPLL `p`. -/
  | sibling (p o : Nat)
  /-- The ring oscillator of each island. -/
  | ring
deriving DecidableEq, Repr

/-- One ADPLL beside its registers. -/
structure Adpll where
  /-- Target FCW latched by the running lock sequence (R32); none when no sequence runs. -/
  latched : Option DWord := none
  /-- A later FCW write waits for the end of the sequence (R34). -/
  laterFcw : Bool := false
  /-- The dither LFSR as loaded at the start of the last lock (R31). -/
  lfsr : Word := 0
  /-- Source of each output's consumers, by output; unlisted: the output's own DCO. -/
  outs : List (Nat × OutSrc) := []
  /-- Start of the running lock sequence. -/
  since : DWord := 0
  /-- Where and when the slew under way began (R38). -/
  slewFrom : DWord := 0
  slewAt : DWord := 0
  /-- Outputs whose fine delay has moved or moves to a new FDLY (R36): the delay, in 1/64 DCO period, from which it moves, and
  since when. -/
  fdly : List (Nat × Nat × DWord) := []
deriving DecidableEq, Repr

/-- Chapter 02 beside the registers. -/
structure Clk where
  /-- Time step requested by GO and not yet applied (R26), with the command that asked for it. -/
  step : Option (DWord × Option CmdRef) := none
  /-- The ADPLLs, by number. -/
  plls : List (Nat × Adpll) := []
  /-- Output of the member that failed last serves as time source while DEGRADED (R21). -/
  lastFailed : Nat := 0
deriving DecidableEq, Repr

/-! ## The timed action scheduler (03) -/

/-- An action record (R46). `tag` is the effective tag (R78). For kind 0x8, `inner`, `tgt` and `op` are the inner kind,
target and op and `station` the destination; for every other kind `inner` is the kind itself. -/
structure ActRec where
  due     : DWord
  kind    : Nat
  inner   : Nat
  tgt     : Nat
  op      : Nat
  tag     : Nat
  station : Nat
  data    : Word
deriving DecidableEq, Repr

/-- Who waits for the status of a post. -/
inductive PostOwner where
  /-- The POST instruction of logical engine `e`, result register `rd`, effect number `k`. -/
  | engine (e k : Nat)
  /-- Sector `s` of a fabric group (R210). -/
  | fabric (s : Nat)
  /-- Record `i` of an ACT_POST command (R401). -/
  | host (c : CmdRef) (i : Nat)
  /-- Entry of cycle table `t`; `adm`: posted from the admin copy of a pending swap (R70). -/
  | table (t : Nat) (adm : Bool)
  /-- A remote action of station `st` (R79). -/
  | remote (st : Nat)
  /-- The configuration controller (port 83). -/
  | config
deriving DecidableEq, Repr

/-- A pending calendar entry (R53–R57). -/
structure CalEntry where
  act  : ActRec
  port : Nat
  /-- Acceptance number: the order among equal DUE (R55). -/
  seq  : Nat
  owner : PostOwner
  /-- Its pre-wake request has been sent (R81, R82): the domain held for it. -/
  woke : Option Nat := none
deriving DecidableEq, Repr

/-- A dispatched action on its way to, or waiting at, its target for the effect instant (R54, R62). -/
structure Delivered where
  act  : ActRec
  port : Nat
  late : Bool
  /-- Device time of delivery. -/
  at_  : DWord
deriving DecidableEq, Repr

/-- One entry of a launch cell's queue (R59). -/
structure LaunchEntry where
  op    : Nat
  due   : DWord
  width : Nat
  /-- Instant at which the leading edge of a pulse was placed. -/
  lead  : Option DWord := none
deriving DecidableEq, Repr

/-- A launch cell (R58–R60). -/
structure LaunchCell where
  queue  : List LaunchEntry := []
  /-- The output register. -/
  out    : Bool := false
  /-- The driver is on. -/
  drive  : Bool := true
deriving DecidableEq, Repr

/-- The arming of a capture cell (R74). -/
structure Arming where
  rise  : Bool
  fall  : Bool
  /-- First instant captured. -/
  start : DWord
  /-- Edges left; none: until DISARM. -/
  left  : Option Nat
  /-- Close of a window. -/
  close : Option DWord
  ring  : Nat
  tag   : Nat
  late  : Bool
deriving DecidableEq, Repr

/-- A capture cell (R73, R74). -/
structure CaptureCell where
  arm      : Option Arming := none
  lastEdge : Option DWord := none
  ovf      : Bool := false
deriving DecidableEq, Repr

/-- A capture ring (R76, R77): its records, oldest first, and the next sequence number. -/
structure CapRing where
  recs : List QWord := []
  seq  : Word := 0
deriving DecidableEq, Repr

/-- A cycle table beside its registers (R66–R72). -/
structure CycTable where
  /-- Base of the period whose entries are being posted, and the next entry of it. -/
  cursorBase : DWord := 0
  cursorIdx  : Nat := 0
  /-- Entries due before this instant are skipped (R68). -/
  skipBefore : DWord := 0
  /-- Boundary of a pending swap (R70). -/
  swapAt     : Option DWord := none
  /-- Boundary of a pending stop (R72). -/
  stopAt     : Option DWord := none
  /-- The copy-back after a swap runs (R70). -/
  copyBack   : Bool := false
  /-- Admin writes held during the copy-back (R71): address and value, oldest first. -/
  held       : List (Nat × Word) := []
deriving DecidableEq, Repr

/-- A record waiting in a posting port FIFO (R50, R51): the record as sent, and who waits for its status. -/
structure PortRec where
  word  : QWord
  owner : PostOwner
deriving DecidableEq, Repr

/-- Chapter 03 beside the registers. -/
structure Act where
  /-- The calendar, in dispatch order: ascending DUE, then acceptance (R55). -/
  cal      : List CalEntry := []
  nextSeq  : Nat := 0
  fifos    : List (Nat × List PortRec) := []
  /-- Port last served by the round-robin (R51). -/
  rrPort   : Nat := 82
  delivered : List Delivered := []
  launch   : List (Nat × LaunchCell) := []
  capture  : List (Nat × CaptureCell) := []
  rings    : List (Nat × CapRing) := []
  tables   : List (Nat × CycTable) := []
  /-- Post statuses returned to fabric sectors, oldest first: sector and status (R210). -/
  fabStatus : List (Nat × Nat) := []
  /-- Records inserted or refused in this tick by ports 0–83 (R51). -/
  inserted : Nat := 0
  /-- Remote actions sent to other stations whose outcome there has not come back (R80). -/
  remoteOut : Nat := 0
deriving DecidableEq, Repr

/-! ## Axis engines, their instruction set and motion units (04, 05, 06) -/

/-- A seven-segment move in progress (R159): lengths in seconds and jerks as binary64, and where it stands. -/
structure TrjPlan where
  lens  : List DWord := []
  jerks : List DWord := []
  seg   : Nat := 0
  tIn   : DWord := 0
  vel   : DWord := 0
  acc   : DWord := 0
deriving DecidableEq, Repr

/-- What the checkpoint holds (R97): general registers, special registers, flags, the state of units 0–4. -/
structure EngCore where
  /-- g0–g31 (R126), 0 where unlisted. -/
  g      : List (Nat × DWord) := []
  trig   : Word := 0
  cyct   : DWord := 0
  cycno  : DWord := 0
  /-- ST: status in [7:0], mailbox index of RECVM in [11:8] (R134, R146). -/
  st     : DWord := 0
  /-- N, Z, C, V (R127). -/
  flagN  : Bool := false
  flagZ  : Bool := false
  flagC  : Bool := false
  flagV  : Bool := false
  fpcsr  : Word := 0
  lr     : DWord := 0
  /-- LOST (s13) as the running cycle sees it. -/
  lost   : Nat := 0
  /-- TFLAGS (s5). -/
  tflags : Word := 0
  /-- Registers of units 0–4, keyed 256 × unit + number; unlisted at their reset values (R157). -/
  units  : List (Nat × DWord) := []
  plan   : TrjPlan := {}
  /-- k of the last CAM STEP (R167). -/
  camK   : Int := 0
  /-- Previous master sample and its boundary (R164); none: the next sample is the first. -/
  camPrev : Option (DWord × DWord) := none
deriving DecidableEq, Repr

/-- An effect as the effect log records it (R99, R101). -/
inductive Effect where
  | post (due rec : DWord)
  | cancel (w : DWord)
  | send (e m : Nat) (v : DWord)
  | bayWrite (p : Nat) (v : DWord)
  | unitWrite (unit reg : Nat) (v : DWord)
  | unitCmd (unit cmd : Nat)
  | request (mode addr : Nat) (blk data : List Byte)
deriving DecidableEq, Repr

/-- A bay-port write that has left the engine and whose status has not come back (R142): port, sector, effect number, and when it
began. -/
structure BayOut where
  port  : Nat
  sec   : Nat
  k     : Nat
  since : DWord
deriving DecidableEq, Repr

/-- An instruction that has issued and waits (R124, R143–R147, R156). -/
inductive Stall where
  | waitt (target : DWord)
  | waitf (rd : Nat) (mask : Word)
  | recv (rd m : Nat)
  | recvm (rd : Nat) (mask : Nat)
  /-- A bay-port transfer with the port interface of sector `sec`; a write is effect `k`. -/
  | bayRead (rd p sec : Nat)
  | bayWrite (p sec k : Nat)
  | drain
  /-- A far-code cache line is being filled (R116). -/
  | farFill (line : Nat)
  /-- A POST with this DUE waits for room in the port's FIFO (R51, R140). -/
  | post (due : DWord)
deriving DecidableEq, Repr

/-- Who writes a mailbox (R111): the host, with the command whose reply waits; a capture ring; a sector's mailbox interface;
effect `k` of logical engine `e`. -/
inductive MailFrom where
  | host (c : Option CmdRef)
  | ring
  | fabric (sec : Nat)
  | engine (e k : Nat)
deriving DecidableEq, Repr

/-- A write that waits for the engine's domain to wake (R112). -/
structure HeldMail where
  mbox  : Nat
  value : DWord
  from_ : MailFrom
deriving DecidableEq, Repr

/-- A line of the far-code cache (R116). -/
structure FarLine where
  line  : Nat
  words : List Word
deriving DecidableEq, Repr

/-- An entry of the input log (R100): the status or value read, and the value that came with a status. -/
structure InEntry where
  status : DWord
  value  : Option DWord := none
deriving DecidableEq, Repr

/-- A migration in progress (R107). -/
structure Migration where
  target : Nat
  /-- The first copy has completed. -/
  copied : Bool := false
  /-- Boundaries since then. -/
  bounds : Nat := 0
  /-- Lines of data RAM that the pass under way copies again, and lines written since it began. -/
  passing : List Nat := []
  dirty  : List Nat := []
  /-- The source is retired at the switch (R105, R106), or becomes SPARE (R110). -/
  retire : Bool := false
  /-- The logical engine enters HALT on its new holder (R106). -/
  halt   : Bool := false
  /-- The source has failed and runs no more cycles. -/
  failed : Bool := false
  /-- The target still serves a Drizzle slice that has been aborted: it is not free yet (R108). -/
  waits  : Bool := false
  /-- A move of a Drizzle pass (R469). -/
  drizzle : Bool := false
  cmd    : Option CmdRef := none
deriving DecidableEq, Repr

/-- A PWM register write released and not yet applied: its release, or that of the APPLY that lets it go (R173); none
while it waits for an APPLY. -/
structure PwmWrite where
  reg   : Nat
  value : DWord
  rel   : Option DWord
deriving DecidableEq, Repr

/-- The axis I/O block of a logical engine (R87, 06): PWM outputs, encoder, delta-sigma inputs, ADC slots. -/
structure AxisIo where
  /-- PWM registers as written by the program, and as applied (R172, R173), by register number. -/
  pwmW    : List (Nat × DWord) := []
  pwmA    : List (Nat × DWord) := []
  /-- The registers that were in force before the last ones applied, and the instant at which those did (R172). -/
  pwmPrev : List (Nat × DWord) := []
  pwmFrom : Option DWord := none
  /-- Writes released and not yet applied. -/
  pwmPend : List PwmWrite := []
  /-- Release time of an APPLY not yet applied. -/
  applyAt : Option DWord := none
  /-- A PWM write or APPLY has applied since Thaw (R174). -/
  started : Bool := false
  /-- Fault levels in force (R174). -/
  fault   : Bool := false
  /-- First instant at which a new carrier acts (R173). -/
  carrierFrom : Option DWord := none
  /-- Last level delivered to each output's launch cell: 0 low, 1 high, 2 released; unlisted: none yet. -/
  pwmOut  : List (Nat × Nat) := []
  /-- Registers of unit 6 that only hold a value, by number. -/
  regs    : List (Nat × DWord) := []
  /-- Count of the encoder, and the tick of its last change. -/
  count   : DWord := 0
  changed : DWord := 0
  a : Bool := false
  b : Bool := false
  /-- First falling clock edge of the SSI frame in progress (R178). -/
  ssiRun  : Option DWord := none
  /-- Value of the last valid frame; none: the next valid frame is the first after MODE was written. -/
  ssiLast : Option Nat := none
  /-- Count and first falling edge of the last valid frame. -/
  ssiAt   : DWord := 0
  /-- Newest delta-sigma samples: input, value, completion; and samples since enable or clock return (R179). -/
  dsNew   : List (Nat × DWord × DWord) := []
  dsCount : List (Nat × Nat) := []
  /-- ADC result slots (R185). -/
  adc     : List (Nat × Word) := []
deriving DecidableEq, Repr

/-- A logical engine: everything that moves with it at a migration beside the registers of R522. -/
structure LEng where
  core    : EngCore := {}
  ckpt    : EngCore := {}
  exc     : DWord := 0
  epc     : DWord := 0
  /-- SIGNAL masks that have arrived since the boundary, which a restore keeps (R92, R97). -/
  signals : Word := 0
  /-- Cycles lost so far, as the next boundary will latch them into s13. -/
  lostNow : Nat := 0
  pc      : Nat := 0
  inFar   : Bool := false
  farBank : Nat := 0
  /-- Data RAM, by byte address. -/
  dram    : List (Nat × Byte) := []
  /-- Undo log: line number and its 32 logged bytes (R97). -/
  undo    : List (Nat × List Byte) := []
  /-- A first write found the undo log full (R103). -/
  unrestorable : Bool := false
  /-- Input log, oldest first (R100), and the replay position. -/
  inLog   : List InEntry := []
  inPos   : Nat := 0
  /-- Effect log (R101): effects released, and how many this attempt has produced. -/
  efLog   : List Effect := []
  efK     : Nat := 0
  /-- Number of the last effect of the cycle before: effects are numbered on from cycle to cycle. -/
  efBase  : Nat := 0
  /-- Effects released whose status has not returned (R156). -/
  efWait  : List Nat := []
  /-- Statuses returned, by effect number; and result registers still waiting: register, effect number (R124). -/
  efStat  : List (Nat × DWord) := []
  efPend  : List (Nat × Nat) := []
  /-- Statuses on their way back: effect number and value. -/
  ret     : List (Nat × DWord) := []
  stall   : Option Stall := none
  /-- Device time at which the stall began (R113, R114, R156). -/
  stallAt : DWord := 0
  /-- The bay-port write released before a mismatch whose status is still out (R142). -/
  bayOut  : Option BayOut := none
  /-- Instructions issued in this attempt and in the first attempt (R139). -/
  issued  : Nat := 0
  firstIssued : Nat := 0
  /-- Instant of the boundary of the running cycle, of the restart of its retry, and of the previous boundary. -/
  bound   : DWord := 0
  retryAt : Option DWord := none
  prevBound : Option DWord := none
  /-- Latched CYCLE trigger: DATA and effect instant (R93). -/
  latched : Option (Word × DWord) := none
  /-- HALT at the end of the cycle, ordered by STOP (R397). -/
  haltAtEnd : Bool := false
  /-- A lasting fault was declared in this cycle: the engine is retired at its end (R105). -/
  lasting : Bool := false
  /-- Mailbox values (R111). -/
  mbox    : List (Nat × DWord) := []
  heldMail : List HeldMail := []
  /-- MPUB as published at the last CEND (R164). -/
  published : DWord := 0
  /-- Far-code cache, most recently used first (R116). -/
  far     : List FarLine := []
  /-- Host writes to data RAM stalled until the cycle ends (R89): address and bytes, oldest first. -/
  hostW   : List (Nat × List Byte) := []
  mig     : Option Migration := none
  /-- The engine went into HALT after a cycle failure (R108, R485). -/
  failHalt : Bool := false
  /-- A cycle has failed, and the new holder's first cycle has not begun: each trigger is lost (R106). -/
  awaits  : Bool := false
  axis    : AxisIo := {}
deriving DecidableEq, Repr

/-- Chapters 04–06 beside the registers. -/
structure Eng where
  logical  : List (Nat × LEng) := []
  /-- Instant until which each converter is busy (R182), by converter. -/
  adcBusy  : List (Nat × DWord) := []
  /-- Mismatches of a physical engine within its squall window: time, program address, compare bit (R105). -/
  mism     : List (Nat × List (DWord × Nat × Nat)) := []
  /-- Conversions whose results are still to come: converter, code, LATE, sampling instant. -/
  adcRun   : List (Nat × Nat × Bool × DWord) := []
deriving DecidableEq, Repr


/-! ## Logic bays, block RAM and multipliers (07, 08) -/

/-- A copy between a block RAM role's home block and the sector's spare (R234, R236). -/
structure BramMove where
  role    : Nat
  /-- To the spare, or back to the home block. -/
  toSpare : Bool
  /-- A Drizzle slice asked for it: no SPARE cause bit (R470). -/
  drizzle : Bool := false
  /-- The home block is retired when the move is done: the fault that caused it. -/
  fault   : Bool := false
deriving DecidableEq, Repr

/-- A sector beside its registers. -/
structure Sector where
  /-- Flip-flops and macrocell registers at 1, by index (R213). -/
  ffs   : List Nat := []
  /-- Block RAM words, keyed 512 × role + word, 72 bits (R222). -/
  bram  : List (Nat × Nat) := []
  /-- Read data and output register of each block RAM port, keyed 2 × role + port (A 0, B 1), and the ports whose ERR is 1
  (R225, R227). -/
  bramRd : List (Nat × Nat) := []
  bramOut : List (Nat × Nat) := []
  bramErr : List Nat := []
  /-- P of each multiplier role, and the roles whose OVF is 1 (R230). -/
  mulP  : List (Nat × DWord) := []
  mulOvf : List Nat := []
  /-- Input registers of the multiplier roles, keyed 3 × role + input (A 0, B 1, C 2) (R231). -/
  mulIn : List (Nat × DWord) := []
  /-- Strobes whose one-cycle pulse STB[n] stands (R207), and port interfaces whose REQ has been seen by a clock edge (R208). -/
  stb   : List Nat := []
  /-- Fabric channels whose pulse EVP[k] stands (R497). -/
  evp   : List Nat := []
  reqSeen : List Nat := []
  /-- The two retiming stages of the trees that the sector retimes (R205), keyed 16 × tree + regional clock: bit 0 the first. -/
  sync  : List (Nat × Nat) := []
  /-- Length-64 segments disconnected by their monitor (R200): 4 × origin bay + direction. -/
  disc  : List Nat := []
  /-- The block RAM copy in progress. -/
  move  : Option BramMove := none
  /-- Block RAM role of a block with a lasting fault that takes the spare when the aborted slice has given it back (R471). -/
  nextMove : Option Nat := none
  /-- Next word of the sweep, by physical block, and when the sweep last read one of it (R228). -/
  sweep : List (Nat × Nat) := []
  sweepAt : List (Nat × DWord) := []
deriving DecidableEq, Repr

/-- The trace buffer beside its registers (R216–R218). -/
structure Trace where
  /-- Samples by index: channel values and time. -/
  samples : List (Nat × DWord × DWord) := []
  /-- Index of the next stored sample, and how many are valid. -/
  next    : Nat := 0
  fill    : Nat := 0
  lastV   : Option DWord := none
  /-- The settings in force since ARM: TRC_CTL, POST, MASK, VAL, TIME. -/
  ctl     : Word := 0
  post    : Nat := 0
  mask    : DWord := 0
  val     : DWord := 0
  time    : DWord := 0
  /-- A FORCE has been given (source 0); the trigger condition has been met and not yet taken. -/
  forced  : Bool := false
  hit     : Bool := false
  /-- Samples still to store after the trigger. -/
  left    : Nat := 0
deriving DecidableEq, Repr

/-- Chapters 07 and 08 beside the registers. -/
structure Fab where
  sectors : List (Nat × Sector) := []
  trace   : Trace := {}
  /-- Completions and statuses returned to sectors' request interfaces, oldest first: sector, status, data (R413). -/
  answers : List (Nat × Nat × List Byte) := []
  /-- Statuses returned to sectors' mailbox interfaces, oldest first (R211). -/
  mailSt  : List (Nat × Nat) := []
  /-- What the post interfaces present and the group has not yet taken, by sector (R210): a record, or a cancel. -/
  posts   : List (Nat × Bool × QWord) := []
  /-- Sector of each group whose post interface was served last (R210), and whose mailbox interface was (R211). -/
  postRr  : List (Nat × Nat) := []
  mailRr  : List (Nat × Nat) := []
  /-- What the mailbox interfaces present and the group has not yet taken, by sector: engine, mailbox and value; and the time
  at which a write of each group was last taken (R211). -/
  mails   : List (Nat × Nat × Nat × DWord) := []
  mailAt  : List (Nat × DWord) := []
deriving DecidableEq, Repr


/-! ## Images and the configuration store (09) -/

/-- Where a staging takes its image from (R260). -/
inductive StgSrc where
  | slot (k : Nat)
  /-- The recipe key, at a byte address. -/
  | key (addr : Nat)
  | host
  /-- A sync-link broadcast of station `src`, which arrives on lane `lane` (R264). -/
  | bcast (src lane : Nat)
deriving DecidableEq, Repr

/-- A staging or store in progress (R256–R265). -/
structure Staging where
  src       : StgSrc
  /-- Destination slot; none for a staging from a slot. -/
  dest      : Option Nat
  storeOnly : Bool := false
  /-- The image is forwarded on the sync links (R264). -/
  forward   : Bool := false
  /-- Bytes of a host stream or broadcast that have arrived and are not consumed. -/
  stream    : List Byte := []
  /-- No further byte arrives. -/
  ended     : Bool := false
  /-- The header, once it has passed its checks. -/
  header    : List Byte := []
  /-- Bytes consumed so far. -/
  off       : Nat := 0
  /-- Frames written, the last one's address, and the plaintext and the ciphertext of the frames so far. -/
  n         : Nat := 0
  last      : Option Nat := none
  plain     : List Byte := []
  /-- The pin frames of the image so far; one of zeros is empty. -/
  pins      : List (Nat × List Byte) := []
  /-- An image of an entry that has already given this station an image, and the last image of its entry (R264). -/
  second    : Bool := false
  final     : Bool := false
  cipher    : List Byte := []
  /-- The command whose final reply waits for the end. -/
  cmd       : Option CmdRef := none
  /-- It stages a selection of the key (R320). -/
  select    : Bool := false
  /-- Bytes of the image under way at the key (R264), and how many of them have been forwarded. -/
  len       : Nat := 0
  fwd       : Nat := 0
  /-- Key address and length of the further images of the format entry (R264). -/
  images    : List (Nat × Nat) := []
deriving DecidableEq, Repr

/-- The host stream of class 0x03 or 0x0F (R404, R399). -/
structure HostStream where
  total  : Nat
  /-- Next byte offset. -/
  next   : Nat := 0
  /-- Time of the last expected data. -/
  last   : DWord
  /-- Status, frames and first bad address of its load, once that has ended. -/
  result : Option (Nat × Nat × Nat) := none
  /-- STG_END has been given. -/
  closed : Bool := false
deriving DecidableEq, Repr

/-- Chapter 09 beside the registers. -/
structure Cfgs where
  /-- Frames of the active and of the staged planes by frame address (R246, R247): 512 data bytes; unlisted: a zero frame. -/
  active : List (Nat × List Byte) := []
  staged : List (Nat × List Byte) := []
  /-- The pin frames that the staged set holds (R248, R272), by index. -/
  stgPins : List Nat := []
  /-- Slot that sources each plane, plus one, by unit of configuration (Machine/CfgBase.lean, `unitOf`): the active and
  the staged planes (R243). -/
  actFrom : List (Nat × Nat) := []
  stgFrom : List (Nat × Nat) := []
  /-- The image in each slot, as received (R241). -/
  slots  : List (Nat × List Byte) := []
  /-- The key vault (R254, R384): AES keys, public keys, host keys. -/
  aes    : List (Nat × List Byte) := []
  pub    : List (Nat × List Byte) := []
  hk     : List (Nat × List Byte) := []
  requireEnc : Bool := false
  minSvn : Nat := 0
  staging : Option Staging := none
  /-- Broadcasting stations whose present format entry has already given this station an image (R264). -/
  taken  : List Nat := []
  host   : Option HostStream := none
  /-- Slot erases under way, with the commands that wait for them (R245). -/
  erasing : List (Nat × Option CmdRef) := []
  /-- The readback (R268): the frame it reads next, and whether it is in the staged planes. -/
  scrubAt : Nat := 0
  scrubStaged : Bool := false
  /-- Device time of the last frame read (R268). -/
  scrubTime : DWord := 0
  /-- Frames to be rewritten, first first: in the staged planes, address, and whether a contention monitor asked (R201,
  R268). -/
  rewrites : List (Bool × Nat × Bool) := []
deriving DecidableEq, Repr


/-! ## The Front (10) -/

/-- An arm notice kept from another station (R277, R278). -/
structure FrontNotice where
  station : Nat
  seq     : Nat
  dir     : Nat
  tf      : DWord
  d       : DWord
  part    : Nat
deriving DecidableEq, Repr

/-- A pin held by the crossing hold, with what it showed at TF: level, output enable and pull (R288). -/
structure HeldPin where
  pin   : Nat
  level : Bool
  drive : Bool
  pull  : Option Bool
deriving DecidableEq, Repr

/-- Chapter 10 beside the registers. -/
structure Front where
  /-- The fields read at ARM (R273). -/
  seq   : Nat := 0
  dir   : Nat := 0
  scope : Nat := 0
  part  : Nat := 0
  tf    : DWord := 0
  d     : DWord := 0
  /-- Verification of the armed Front has passed (R276). -/
  verified : Bool := false
  /-- The latest notice of each other station (R278). -/
  notices : List FrontNotice := []
  /-- Commit time of the cancelled Front for which DONE is still held low (R279). -/
  doneUntil : Option DWord := none
  /-- The crossing hold has ended, and the quiet interval runs (R283, R288). -/
  holdOver : Bool := true
  quiet    : Bool := false
  /-- The held pins (R288). -/
  held     : List HeldPin := []
deriving DecidableEq, Repr



/-! ## Start-up and reset (11) -/

/-- A firmware update under way (R350, R399). -/
structure FwUpdate where
  total : Nat
  data  : List Byte := []
  /-- Time of the last expected data. -/
  last  : DWord
deriving DecidableEq, Repr

/-- Chapter 11 beside the registers. -/
structure Boot where
  /-- The input stands above the reset level. -/
  supply  : Bool := false
  /-- RESET_N is low, and the device is held in reset (R307). -/
  resetN  : Bool := false
  /-- Start-up runs, from t0 to Thaw or SERVICE (R294). -/
  running : Bool := false
  /-- Global clear is asserted (R301). -/
  clear   : Bool := true
  /-- The frost profile and the bank voltages are in force (R298). -/
  frost   : Bool := false
  /-- The instant of Thaw, once DONE has been seen (R302). -/
  thawAt  : Option DWord := none
  /-- The last-gasp area: the records by slot; unlisted: pre-erased (R311). -/
  gasp    : List (Nat × List Byte) := []
  /-- A record has been programmed and not yet been reported. -/
  gaspNew : Bool := false
  /-- Warnings since Thaw, as the last-gasp record counts them (R310, R457). -/
  warns   : Nat := 0
  /-- Firmware slot that started the running firmware: 0 A, 1 B; the slots' contents and which are bootable (R350). -/
  fwSlot  : Nat := 0
  fwMem   : List (Nat × List Byte) := []
  fwBoot  : List Nat := [0]
  fwUp    : Option FwUpdate := none
deriving DecidableEq, Repr



/-! ## The recipe key (12) -/

/-- A selection whose staging runs (R320, R321). -/
structure KeySel where
  fmt    : Nat
  /-- Its entry is in the golden directory, and the entry's number. -/
  golden : Bool
  entry  : Nat
  /-- The repeat from the golden directory (R321). -/
  again  : Bool := false
  bcast  : Bool := false
  cmd    : Option CmdRef := none
deriving DecidableEq, Repr

/-- The journal in use (R325–R328): address, bytes of a half, current half, next free slot, next SEQ. -/
structure Journal where
  addr : Nat
  half : Nat
  cur  : Nat
  slot : Nat
  seq  : Nat
deriving DecidableEq, Repr

/-- Chapter 12 beside the registers. -/
structure Key where
  /-- The key recognised in the port, with its content. -/
  chip   : Option KeyChip := none
  /-- Discovery at 1.8 V has failed, and KEY_VCC is off for the repeat at 3.3 V (R314). -/
  retry  : Bool := false
  /-- Discovery is due: insertion, RESCAN, start-up, or the domain's return from OFF. -/
  discover : Bool := false
  /-- The discovery that is due is followed by the selection of AUTO_STAGE (R320). -/
  auto   : Bool := false
  /-- The golden directory is valid (R321). -/
  goldOk : Bool := false
  sel    : Option KeySel := none
  /-- Settings load due: the entry's key address, and whether it waits for a Front (R324). -/
  due    : Option (Nat × Bool) := none
  /-- Bound and dirty blocks of PRM, by number, rising (R323, R325). -/
  bound  : List Nat := []
  dirty  : List Nat := []
  journal : Option Journal := none
  /-- A write-back waits for the end of a staging or of a supply warning (R329), with the command that asked for it. -/
  wbDue  : Bool := false
  wbCmd  : Option CmdRef := none
  /-- Device time of the last write-back. -/
  wbAt   : DWord := 0
  /-- Commands whose final reply waits for discovery. -/
  rescan : Option CmdRef := none
  /-- The parameter store, by byte. -/
  prm    : List (Nat × Byte) := []
deriving DecidableEq, Repr

/-! ## Trunk ports and sync links (14) -/

/-- A trunk port beside its registers. -/
structure NetPort where
  /-- Frames waiting in the eight transmit queues, oldest first (R358). -/
  queues    : List (Nat × List (List Byte)) := []
  /-- Consecutive valid peer-delay exchanges (R364). -/
  joins     : Nat := 0
  /-- A Pdelay_Req has been sent and not answered; exchanges without a response in a row (R357). -/
  pdelayOut : Bool := false
  pdelayLost : Nat := 0
  /-- sequenceId of the next Pdelay_Req (R357). -/
  pdelaySeq : Nat := 0
  /-- A two-step Sync whose Follow_Up is still to come: its sequenceId and arrival (R356, R357). -/
  syncAt    : Option (Nat × DWord) := none
  /-- The operational gate list runs: entry in force and the instant at which it ends; start of its cycle (R359). -/
  gateEntry : Nat := 0
  gateEnd   : DWord := 0
  cycleBase : DWord := 0
  /-- Boundary B of a pending gate list change (R360). -/
  changeAt  : Option DWord := none
  /-- Priority vector of the grandmaster announced on the port, lower is better (R357), and its clockIdentity. -/
  announce  : Option (Nat × DWord) := none
  /-- The frame under transmission ends at this instant (R358). -/
  txUntil   : Option DWord := none
  /-- Frames sent on the wire with their FCS, oldest first. -/
  sent      : List (List Byte) := []
deriving DecidableEq, Repr

/-- The recovery of one receive stream (R362). -/
structure RxStream where
  /-- The recovery takes any sequence number next. -/
  fresh    : Bool := true
  high     : Nat := 0
  /-- Sequence numbers accepted, within the history. -/
  seen     : List Nat := []
  lastPass : DWord := 0
  /-- Frames passed and discarded as duplicates in this test period, by port. -/
  latPass  : List (Nat × Nat) := []
  latDup   : List (Nat × Nat) := []
  /-- Last sequence number seen on each port. -/
  lastSeq  : List (Nat × Nat) := []
deriving DecidableEq, Repr

/-- A sync-link message (R370). -/
structure LinkMsg where
  typ     : Nat
  src     : Nat
  dst     : Nat := 0
  seq     : Nat := 0
  spec    : Nat := 0
  payload : List DWord := []
deriving DecidableEq, Repr

/-- A sync lane beside its registers. -/
structure Lane where
  /-- What the neighbour's last HELLO said: the master it knows, its hops, the stations beyond the lane, and whether it
  chose this lane as its upstream (R368, R369). -/
  master  : Option Nat := none
  hops    : Nat := 0
  reach   : Nat := 0
  chosen  : Bool := false
  /-- The lane is up (trained and aligned). -/
  up      : Bool := false
  /-- A DELAY exchange is under way: its departure (R372). -/
  reqAt   : Option DWord := none
deriving DecidableEq, Repr

/-- Chapter 14 beside the registers. -/
structure Net where
  ports   : List (Nat × NetPort) := []
  rxs     : List (Nat × RxStream) := []
  lanes   : List (Nat × Lane) := []
  /-- Messages sent on the lanes, oldest first: lane and message. -/
  slSent  : List (Nat × LinkMsg) := []
  /-- Next SEQ of each message type this station sends. -/
  slSeq   : List (Nat × Nat) := []
  /-- SEQ of the last BCAST chunk by its source (R375). -/
  bcastSeq : List (Nat × Nat) := []
  /-- The source port of 802.1AS last in use (R357). -/
  srcPort : Option Nat := none
  /-- Instant of the last valid Sync or TIME message (R25). -/
  lastSync : DWord := 0
  /-- The sync interval of the source port in units, as its last Sync gives it (R25). -/
  syncIval : Nat := 8000000000
  /-- Test period of the latent error detection began (R362). -/
  latentAt : DWord := 0
deriving DecidableEq, Repr


/-! ## Command protocol (15) -/

/-- A packet that has reached the command interpreter and is not yet taken up (R382). -/
structure RxPacket where
  bytes : List Byte
  /-- 0 TA, 1 TB, 2 service port. -/
  iface : Nat
  mac   : Mac
  vid   : Nat
  stamp : DWord
deriving DecidableEq, Repr

/-- How far an accepted command has come (R382, R389, R393). -/
inductive CmdStage where
  /-- Waits for its turn (a command that is not RUN-class). -/
  | queued
  /-- RUN-class: waits for its stamp plus 1 us. -/
  | runWait
  /-- Started: its opcode's own step may run. -/
  | started
  /-- An L command that has answered PENDING and works. -/
  | working
  /-- A command whose reply waits for post statuses or a completion. -/
  | awaiting
deriving DecidableEq, Repr

/-- A command in flight: accepted, final reply not sent (R388). -/
structure Command where
  ref     : CmdRef
  v2      : Bool
  cls     : Nat
  op      : Nat
  payload : List Byte
  stamp   : DWord
  iface   : Nat
  mac     : Mac
  vid     : Nat
  stage   : CmdStage
  /-- Its session has closed: its reply is discarded (R390). -/
  mute    : Bool := false
  /-- Post statuses of an ACT_POST so far, by record (R401). -/
  partial_ : List (Nat × Nat) := []
  /-- Records of an ACT_POST offered so far, and since when the next one has had its turn (R401). -/
  offered : Nat := 0
  since   : Option DWord := none
deriving DecidableEq, Repr

/-- A packet the device sends: a reply or an EVENT (R379, R380). -/
structure OutPacket where
  bytes   : List Byte
  iface   : Nat
  mac     : Mac
  vid     : Nat
  isEvent : Bool
deriving DecidableEq, Repr

/-- One entry of the event reports that a session has not been sent yet (R408). -/
structure EvEntry where
  ev   : Nat
  bits : Word
  time : DWord
deriving DecidableEq, Repr

/-- A session (R383–R390). -/
structure Session where
  /-- 0 FREE, 1 OPENING, 2 OPEN. -/
  state    : Nat := 0
  key      : Nat := 0
  v2       : Bool := false
  iface    : Nat := 0
  mac      : Mac := 0
  vid      : Nat := 0
  /-- The session key K_s (R384). -/
  skey     : List Byte := []
  /-- The session was opened with no host key provisioned (R386). -/
  bare     : Bool := false
  /-- H, the highest accepted SEQ (R387). -/
  high     : Nat := 0
  /-- Accepted SEQs within H − 63 to H. -/
  seen     : List Nat := []
  /-- Final replies kept, by SEQ (R388). -/
  finals   : List (Nat × List Byte) := []
  /-- Subscription mask, bit n for EVn (R399). -/
  mask     : Nat := 0
  /-- Entries not yet reported, one per event (R408). -/
  reports  : List EvEntry := []
  /-- Number of EVENT packets sent. -/
  evSeq    : Nat := 0
  lastPkt  : DWord := 0
  openedAt : DWord := 0
deriving DecidableEq, Repr

/-- Chapter 15 beside the registers. -/
structure Cmdi where
  rx       : List RxPacket := []
  inflight : List Command := []
  sessions : List (Nat × Session) := []
  /-- Session that holds the lease, and the time of its last renewal (R392). -/
  lease    : Option (Nat × DWord) := none
  /-- Arrival stamps of HOLD-class and STOP-class commands (R393). -/
  stops    : List DWord := []
  /-- The service port's queue of outgoing packets (R381). -/
  svcQueue : List OutPacket := []
  /-- What the last service-port READ or STATUS shifted out. -/
  svcOut   : List Byte := []
deriving DecidableEq, Repr

/-! ## Shared resource arbiter (16) -/

/-- Who waits for the completion of a request. -/
inductive ArbOwner where
  /-- RQ of logical engine `e` with its request block at data RAM address `blk` (R153). -/
  | engine (e blk : Nat)
  /-- The request interface of sector `s` (R413). -/
  | fabric (s : Nat)
  /-- A command packet. -/
  | host (c : CmdRef)
  /-- The register interface of NVC or KEY, and window accesses (R412). -/
  | register
  /-- The management controller. -/
  | management
  /-- The self-test controller. -/
  | selfTest
deriving DecidableEq, Repr

/-- What a request at an arbiter asks its resource to do. -/
structure ArbReq where
  /-- Requester number q (R412). -/
  q      : Nat
  /-- Sector of a fabric group's request (R413). -/
  sector : Nat := 0
  /-- The operation: RQ's modes (R153) 0 NV read, 1 NV program, 2 NV erase, 3 PRM read, 4 PRM write, 5 trunk transmit; 6
  key read, 7 key page program, 8 key sector erase; its offset or address, length and data; for an
  engine's read, the two bytes of its buffer's address (R153). -/
  op     : Nat
  addr   : Nat
  len    : Nat
  data   : List Byte := []
  /-- Beats left to grant. -/
  beats  : Nat
  /-- Declared LOCK (R419). -/
  lock   : Nat := 0
  /-- Device cycle of the arbiter at which the current beat was first presented (R415). -/
  first  : Nat
  /-- Who waits for the completion. -/
  owner  : ArbOwner
  /-- Status gathered so far. -/
  status : Nat := 0
  /-- Bytes read so far. -/
  got    : List Byte := []
  /-- EV235 has been raised for this beat. -/
  warned : Bool := false
deriving DecidableEq, Repr

/-- A lock in force or accepted (R419). -/
structure ArbLock where
  q      : Nat
  sector : Nat
  left   : Nat
  /-- Its first beat has been granted: the resource is reserved. -/
  inForce : Bool
  /-- Arbiter cycle of the last completed beat (R421). -/
  last   : Nat
deriving DecidableEq, Repr

/-- One arbiter. -/
structure Arbiter where
  /-- Arbiter cycles (500 MHz, R414), and the device time at which its cycle 0 stands (R16, R28). -/
  cycle    : Nat := 0
  base     : DWord := 0
  reqs     : List ArbReq := []
  /-- The request whose beat is in progress. -/
  busy     : Option ArbReq := none
  /-- Locks accepted or in force, in order of acceptance. -/
  locks    : List ArbLock := []
  /-- The stream that holds or waits for the resource: true once taken (R422). -/
  stream   : Option Bool := none
  /-- Grants since the last every-Nth decision (R415). -/
  count    : Nat := 0
  last     : Nat := 0
  /-- Last requester granted at each rank (R414). -/
  rr       : List (Nat × Nat) := []
  /-- Requesters backing off: requester, length of the sequence, cycle at which it runs out (R416). -/
  backoff  : List (Nat × Nat × Nat) := []
  /-- Owner of a mode 1–3 grant (R423). -/
  modeOwner : Option Nat := none
  /-- Mode of the next grant decision (R423). -/
  mode     : Nat := 1
  /-- Sector last presented by each fabric group (R413). -/
  groupRr  : List (Nat × Nat) := []
deriving DecidableEq, Repr

/-! ## Power domains and retention (17) -/

/-- A power domain beside its registers. -/
structure Domain where
  /-- Start of the transition in progress. -/
  since    : DWord := 0
  /-- Latency of the transition in progress, in ns (R434). -/
  latency  : Nat := 0
  /-- Device time at which the domain last left ON and its clocks stopped (R429). -/
  stopped  : DWord := 0
  /-- State the domain came from when the transition began. -/
  origin   : Nat := 0
  /-- Wake latched during entry: source and time (R435). -/
  latched  : Option (Nat × DWord) := none
  /-- Entry count (R430). -/
  entries  : Nat := 0
  /-- Device time of the last activity (R431). -/
  active   : DWord := 0
  /-- The wake in progress was made for a copy: no reload and no check (R441). -/
  copyWake : Bool := false
  /-- Entry to RET follows the cold path (R521). -/
  thenRet  : Bool := false
  /-- Check entries in the keep store: the canaries of the retained banks (R430). -/
  canaries : List Word := []
  /-- The banks' hidden check words. -/
  checks   : List Word := []
  /-- The save area in the keep store with its CRC-32, and the check entries of the retained banks' content and of a sector's
  in-block registers (R430, R443). -/
  save     : List Byte := []
  saveCrc  : Word := 0
  bankCrc  : List Word := []
  blockCrc : Word := 0
  /-- Output enable and level of a sector's fabric pins when its clocks stopped (R429). -/
  pads     : List (Nat × Bool × Bool) := []
deriving DecidableEq, Repr


/-! ## Line power and auxiliary supplies (18) -/

/-- An auxiliary output beside its registers. -/
structure AuxOut where
  /-- Soft-start runs, since this time (R460). -/
  starting : Bool := false
  since    : DWord := 0
  /-- It goes off when warning begins under SHED, and returns at its end (R458). -/
  returns  : Bool := false
deriving DecidableEq, Repr

/-- Chapter 18 beside the registers. -/
structure Ana where
  aux     : List (Nat × AuxOut) := []
  /-- Start of the 500 µs count (R454). -/
  clearAt : DWord := 0
  /-- Outputs still to switch on after a warning, and the instant of the next (R459). -/
  stagger   : List Nat := []
  staggerAt : DWord := 0
  /-- Sensors that have not fallen 5 °C below the warning and the critical level since they reached it (R463, R464). -/
  warm : List Nat := []
  hot  : List Nat := []
deriving DecidableEq, Repr


/-! ## Self-test and fault tolerance (19) -/

/-- A slice in progress or its unit being restored (R468–R473). -/
structure Slice where
  unit   : Nat
  /-- Number of the slice within the unit, 0 up. -/
  k      : Nat := 0
  /-- What holds the unit's service: a SPARE engine, or the sector's spare (R469, R470). -/
  heldBy : Option Nat := none
  /-- State of a physical engine before the slice (R469). -/
  prev   : Nat := 0
  /-- The copy that frees the unit has ended and the test itself runs. -/
  running : Bool := true
  /-- The unit's repeated slice after a FAIL (R476). -/
  again  : Bool := false
  /-- Aborted: the instant at which the unit is restored (R473). -/
  restoreAt : Option DWord := none
deriving DecidableEq, Repr

/-- A unit type of Drizzle beside its registers (R467, R475, R476). -/
structure DrizzleType where
  slice   : Option Slice := none
  /-- Units that have completed the current pass, and units skipped in it. -/
  done    : List Nat := []
  skipped : List Nat := []
  /-- Units that failed a slice in the current pass. -/
  failed  : List Nat := []
  /-- Slices that a unit has completed in the current pass, of units with some but not all. -/
  progress : List (Nat × Nat) := []
  /-- Device time at which the current coverage period began. -/
  since   : DWord := 0
  /-- The pass is late and is being finished (R475). -/
  late    : Bool := false
deriving DecidableEq, Repr

/-- A repair-log record (R479). -/
structure RepairRec where
  time     : DWord
  addr     : Word
  unit     : Nat
  typ      : Nat
  cause    : Nat
  bit      : Nat
  resolved : Bool := false
  applied  : Bool := false
  noSpare  : Bool := false
  seq      : Nat
deriving DecidableEq, Repr

/-- Chapter 19 beside the registers. -/
structure Tst where
  types   : List (Nat × DrizzleType) := []
  /-- Fault times in each squall window (R477), keyed 4096 × type + unit. -/
  squall  : List (Nat × List DWord) := []
  /-- Units with a complete clean pass since their retirement (R109, R482), keyed 4096 × type + unit. -/
  clean   : List Nat := []
  /-- Units marked lasting that have no register of their own (R477), keyed 4096 × type + unit. -/
  lasting : List Nat := []
  /-- The repair log, oldest first (R479), and the next record number. -/
  rlog    : List RepairRec := []
  rlogSeq : Nat := 0
  /-- JTAG instruction in force (R486). -/
  jtag    : Nat := 1
  /-- What the selected test data register captures: the IDCODE, or the 0 of BYPASS; none for the boundary-scan register and the
  internal chains, whose content is not the device's own register state (R1, R486). -/
  jtagDr  : Option Word := some 0x19640A4D
  /-- Every loaded key copy has been zeroised, and none is loaded until a reset (R487). -/
  zeroised : Bool := false
deriving DecidableEq, Repr

/-! ## Events (20) -/

/-- Chapter 20 beside the registers. -/
structure Evt where
  /-- SIGNALs of fired subscriptions not yet delivered: logical engine and bit (R496). -/
  signals : List (Nat × Nat) := []
  /-- Pulses of fabric channels not yet presented to every sector that was ON: channel, and those sectors bit by bit (R497). -/
  pulses  : List (Nat × Nat) := []
  /-- The user event that an armed trace waits for (R217), and whether it has been raised since ARM. -/
  trigEv  : Option Nat := none
  trigSeen : Bool := false
deriving DecidableEq, Repr


/-! ## The user non-volatile array (13) -/

/-- The program of one code word in progress (R337): its offset, its data, and the steps run. -/
structure NvProg where
  addr : Nat
  data : List Byte
  step : Nat := 0
  /-- Waits for the erase to be suspended or to end, or for a hold to clear (R341, R345). -/
  waits : Bool := false
  /-- A read of its bank waits for the end of the current step; that step has ended, and the read is served (R341). -/
  readAsk : Bool := false
  readOk  : Bool := false
deriving DecidableEq, Repr

/-- The erase, running or suspended (R338, R344). -/
structure NvErase where
  sector : Nat
  owner  : ArbOwner
  /-- Time of acceptance. -/
  since  : DWord
  /-- Pulses ended by a verify, and segments of the present pulse that have run (8: its verify is next). -/
  pulses : Nat := 0
  seg    : Nat := 0
  /-- Suspended: no pulse is in progress. -/
  stopped : Bool := false
  /-- A read of its bank or a command asks for a suspension at the next segment boundary; a supply warning, for one after
  the verify. -/
  readAsk : Bool := false
  cmdAsk  : Bool := false
  warnAsk : Bool := false
  /-- Time of the last read of its bank. -/
  lastRead : DWord := 0
deriving DecidableEq, Repr

/-- Chapter 13 beside the registers. -/
structure Nv where
  /-- Stored bytes by offset; unlisted: 0xFF (R332). -/
  cells : List (Nat × Byte) := []
  /-- Hidden marks by code word: 1 STARTED, 3 STARTED and DONE; unlisted: clear. -/
  marks : List (Nat × Nat) := []
  prog  : Option NvProg := none
  erase : Option NvErase := none
  /-- A supply warning asks the program to stop after its step (R345). -/
  warnAsk : Bool := false
  /-- Acceptance of the last erase, and its age in µs once it has completed (NVC_ERASE_AGE). -/
  ageFrom : DWord := 0
  ageEnd  : Option Nat := some 0
  /-- Operations abandoned by a reset: the erase's and the program's offset (R346). -/
  lostErase : Option Nat := none
  lostProg  : Option Nat := none
deriving DecidableEq, Repr


/-! ## The whole state -/

/-- The machine: every register (`regs`), everything the chapters give the device beside its registers, and the queue
of waiting commands. -/
structure State where
  /-- Registers that differ from their reset value, by management address (R5, R500). -/
  regs     : List (Nat × Word) := []
  /-- _LO writes held until _HI is written, and _HI values captured by a read of _LO, by the address of _LO (R7). -/
  pairHeld : List (Nat × Word) := []
  pairShadow : List (Nat × Word) := []
  /-- Device time (R4, R16). -/
  time     : DWord := 0
  /-- Device time has started (R296). -/
  timeRuns : Bool := false
  /-- The value that the last register or window read gave its reader: the model's own record. -/
  readData : Word := 0
  /-- Number of free values used so far: the model's own field (Config.freeBits). -/
  freeCtr  : Nat := 0
  /-- Chapter 02. -/
  clk : Clk := {}
  /-- Chapter 03. -/
  act : Act := {}
  /-- Chapters 04–06. -/
  eng : Eng := {}
  /-- Chapter 15. -/
  cmd : Cmdi := {}
  /-- The five arbiters (16). -/
  arb : List (Nat × Arbiter) := []
  /-- Chapters 07 and 08. -/
  fab : Fab := {}
  /-- Chapter 09. -/
  cfg : Cfgs := {}
  /-- Chapter 14. -/
  net : Net := {}
  /-- The 135 power domains (17). -/
  dom : List (Nat × Domain) := []
  /-- Chapter 20. -/
  evt : Evt := {}
  /-- Chapter 19. -/
  tst : Tst := {}
  /-- Chapter 12. -/
  key : Key := {}
  /-- Chapter 10. -/
  front : Front := {}
  /-- Chapter 11. -/
  boot : Boot := {}
  /-- Chapter 13. -/
  nv : Nv := {}
  /-- Chapter 18. -/
  ana : Ana := {}
  /-- Commands waiting, first in, first out. -/
  pending  : List Instr := []
deriving DecidableEq, Repr

/-- The answer of a meaning. -/
abbrev Out := Host.Outcome State Fault Refusal

/-- The machine right after reset, as a device that has never had power since manufacture: every register at its reset
value, every memory empty, no command waiting (11_startup_and_reset.md; log entry 1). -/
def State.reset : State := {}

end Sys2Proof.Machine
end

