-- ==== Sys2Proof/Machine/Tab.lean ====
section
/-!
DEFINITION. Sys2Proof/Machine/Tab.lean: sparse tables. A table of the device (its registers, a memory, a set of
cells) is a list of (key, value) pairs in ONE canonical form: keys strictly rising, and no pair whose value is the
default its key reads as when unlisted. Equal tables are then equal data.
-/
namespace Sys2Proof.Machine

/-- The value of key `k`; `d k` where the table lists nothing. -/
def tabGet {α : Type} (d : Nat → α) : List (Nat × α) → Nat → α
  | [], k => d k
  | (j, v) :: t, k => if j = k then v else tabGet d t k

/-- The list with the pair of key `k` removed. -/
def tabErase {α : Type} : List (Nat × α) → Nat → List (Nat × α)
  | [], _ => []
  | (j, v) :: t, k => if j = k then t else (j, v) :: tabErase t k

/-- The list with key `k` set to `v`, at its place in the rising order. -/
def tabInsert {α : Type} : List (Nat × α) → Nat → α → List (Nat × α)
  | [], k, v => [(k, v)]
  | (j, w) :: t, k, v =>
    if k < j then (k, v) :: (j, w) :: t
    else if j = k then (k, v) :: t
    else (j, w) :: tabInsert t k v

/-- A write: the key takes the value, and a value equal to the default removes the pair. -/
def tabPut {α : Type} [DecidableEq α] (d : Nat → α) (t : List (Nat × α)) (k : Nat) (v : α) : List (Nat × α) :=
  if v = d k then tabErase t k else tabInsert t k v

/-- Keys strictly rising from a bound. -/
def tabRising {α : Type} : Nat → List (Nat × α) → Bool
  | _, [] => true
  | lo, (j, _) :: t => decide (lo ≤ j) && tabRising (j + 1) t

/-- The canonical form: rising keys, and no pair equal to its default. -/
def tabWf {α : Type} [DecidableEq α] (d : Nat → α) (t : List (Nat × α)) : Bool :=
  tabRising 0 t && t.all (fun p => decide (p.2 ≠ d p.1))

/-- The listed pairs with keys in [lo, lo + len). -/
def tabRange {α : Type} (t : List (Nat × α)) (lo len : Nat) : List (Nat × α) :=
  t.filter (fun p => decide (lo ≤ p.1 ∧ p.1 < lo + len))

/-- Every key of [lo, lo + len) back to its default. -/
def tabClear {α : Type} (t : List (Nat × α)) (lo len : Nat) : List (Nat × α) :=
  t.filter (fun p => decide (p.1 < lo ∨ lo + len ≤ p.1))

/-- The values of [src, src + len) copied to [dst, dst + len), the two ranges having the same defaults. -/
def tabCopy {α : Type} [DecidableEq α] (d : Nat → α) (t : List (Nat × α)) (src len dst : Nat) : List (Nat × α) :=
  (tabRange t src len).foldl (fun u p => tabPut d u (p.1 - src + dst) p.2) (tabClear t dst len)

end Sys2Proof.Machine
end

