-- ==== Sys2Proof/Machine/Ops.lean ====
section
/-!
DEFINITION. Sys2Proof/Machine/Ops.lean: the named operations that every chapter uses: a register and its fields, a
64-bit pair, a saturating count, a free value, which physical engine holds a logical engine, raising an event.
-/
namespace Sys2Proof.Machine

/-! ### Registers -/

/-- The indexes of an array register at offset `off` from its base; none where the offset is no element. -/
def dimsIndex : Nat → List (Nat × Nat) → Option (List Nat)
  | off, [] => if off = 0 then some [] else none
  | off, (count, stride) :: r =>
    if off / stride < count then (dimsIndex (off % stride) r).map (fun l => off / stride :: l) else none

/-- The first row of `l` that holds address `a`, with the indexes of the element. -/
def rowIn (a : Nat) : List RegRow → Option (RegRow × List Nat)
  | [] => none
  | r :: l =>
    if r.base ≤ a then
      match dimsIndex (a - r.base) r.dims with
      | some i => some (r, i)
      | none => rowIn a l
    else rowIn a l

/-- The row of the register map at address `a`; none where the address is reserved (R500, R501). -/
def regRow (a : Nat) : Option (RegRow × List Nat) := rowIn a (blockRows a)

/-- The value of the register at address `a` after a cold reset; 0 at a reserved address (R500). ENG[n].MAP of the
engines 0–63 names logical engine n (R86). -/
def regReset (a : Nat) : Word :=
  match regRow a with
  | some (r, i) => BitVec.ofNat 32 (r.reset + if r.hook = .engMap then i.headD 0 else 0)
  | none => 0

/-- The register at address `a`. -/
def State.getR (s : State) (a : Nat) : Word := tabGet regReset s.regs a

/-- The state with the register at address `a` holding `w`. -/
def State.setR (s : State) (a : Nat) (w : Word) : State := { s with regs := tabPut regReset s.regs a w }

/-- Field [hi:lo] of the register at `a`. -/
def State.getF (s : State) (a hi lo : Nat) : Nat := fld (s.getR a) hi lo

/-- The state with field [hi:lo] of the register at `a` set to `v`. -/
def State.setF (s : State) (a hi lo v : Nat) : State := s.setR a (setFld (s.getR a) hi lo v)

/-- Bit `i` of the register at `a`. -/
def State.getB (s : State) (a i : Nat) : Bool := bitOf (s.getR a) i

/-- The state with bit `i` of the register at `a` set to `b`. -/
def State.setB (s : State) (a i : Nat) (b : Bool) : State := s.setF a i i b.toNat

/-- The 64-bit pair whose _LO register is at `a` (R7). -/
def State.getD (s : State) (a : Nat) : DWord := pairW (s.getR a) (s.getR (a + 4))

/-- The state with the 64-bit pair at `a` holding `d`. -/
def State.setD (s : State) (a : Nat) (d : DWord) : State := (s.setR a (loW d)).setR (a + 4) (hiW d)

/-- Field [hi:lo] of the register at `a`, a saturating count, incremented by `n`. -/
def State.addF (s : State) (a hi lo n : Nat) : State := s.setF a hi lo (satAdd (hi + 1 - lo) (s.getF a hi lo) n)

/-- A 32-bit saturating count incremented by one. -/
def State.incR (s : State) (a : Nat) : State := s.addF a 31 0 1

/-- Registers [lo, lo + len) back to their reset values. -/
def State.resetRegs (s : State) (lo len : Nat) : State := { s with regs := tabClear s.regs lo len }

/-- Encoding `x` is none of the reserved ones of a field whose legal encodings run from `lo` up to `hi`, through 0 where `hi` is the
lower (R6). -/
def legalField (lo hi x : Nat) : Bool := if lo ≤ hi then decide (lo ≤ x ∧ x ≤ hi) else decide (lo ≤ x ∨ x ≤ hi)

/-- The value that a write of `w` leaves in a register that holds `old` (R5, R6): RW bits take it, W1C bits written 1
clear, every other bit keeps its value, and a field given a reserved encoding keeps its value. -/
def rowStore (r : RegRow) (old w : Word) : Word :=
  let v := (old &&& ~~~(BitVec.ofNat 32 r.rw)) ||| (w &&& BitVec.ofNat 32 r.rw)
  let v := r.legal.foldl
    (fun v f => if legalField f.2.2.1 f.2.2.2 (fld w f.1 f.2.1) then v else setFld v f.1 f.2.1 (fld old f.1 f.2.1)) v
  v &&& ~~~(w &&& BitVec.ofNat 32 r.w1c)

/-- A write of `w` to the register at `a` by its access codes alone; nothing at a reserved address (R500, R501). -/
def State.store (s : State) (a : Nat) (w : Word) : State :=
  match regRow a with
  | some (r, _) => s.setR a (rowStore r (s.getR a) w)
  | none => s

/-! ### Free values -/

/-- The next free value (Config.freeBits): the state with the counter advanced, and the value. -/
def State.fresh (s : State) : State × BitVec 64 :=
  ({ s with freeCtr := s.freeCtr + 1 }, Config.freeBits s.freeCtr)

/-! ### Logical and physical engines -/

/-- Physical engine `n` holds logical engine `e` (R86). -/
def State.holds (s : State) (n e : Nat) : Bool :=
  s.getB (Reg.ENG_MAP n) 31 && s.getF (Reg.ENG_MAP n) 5 0 == e

/-- The physical engine that holds logical engine `e`: its home slot, else a lee engine, else any (R86, R107). -/
def State.physOf (s : State) (e : Nat) : Option Nat :=
  if s.holds e e then some e
  else ((List.range 68).drop 64 ++ List.range 64).find? (fun n => s.holds n e)

/-- The logical engine that physical engine `n` holds. -/
def State.logicalOf (s : State) (n : Nat) : Option Nat :=
  if s.getB (Reg.ENG_MAP n) 31 then some (s.getF (Reg.ENG_MAP n) 5 0) else none

/-! ### Events (R491–R497) -/

/-- The cause register of event source `ev` (R491); none for a reserved source. -/
def State.causeAddr (s : State) (ev : Nat) : Option Nat :=
  if ev < 64 then (s.physOf ev).map Reg.ENG_CAUSE
  else if ev < 112 then some (0x20000000 + (ev - 64) * 0x100000 + 0x04)
  else if ev < 124 then some (0x00200080 + (ev - 112) * 4)
  else if ev < 144 then some (0x00100080 + (ev - 124) * 4)
  else if ev < 159 then some (0x00600080 + (ev - 144) * 4)
  else if ev < 160 then none
  else if ev < 171 ∨ ev = 175 then some (0x00300080 + (ev - 160) * 4)
  else if ev < 176 then none
  else if ev < 186 then some (0x00400080 + (ev - 176) * 4)
  else if ev < 192 then none
  else if ev < 199 then some (0x00500080 + (ev - 192) * 4)
  else if ev < 200 then none
  else if ev < 214 ∧ ev ≠ 207 then some (0x00900080 + (ev - 200) * 4)
  else if ev < 216 then none
  else if ev < 224 then some (0x00A00080 + (ev - 216) * 4)
  else if ev < 232 then none
  else if ev < 237 then some (0x00800080 + (ev - 232) * 4)
  else if ev < 240 then none
  else if ev < 245 then some (0x00700080 + (ev - 240) * 4)
  else if ev < 248 then none
  else if ev < 256 then some (0x00C00080 + (ev - 248) * 4)
  else if ev < 320 then some (0x00B04000 + (ev - 256) * 4)
  else none

/-- Whether EVn is a source that a SUB or FAB register may name (R498). -/
def sourceValid (ev : Nat) : Bool :=
  decide (ev < 320) && !(decide (ev = 159) || (decide (171 ≤ ev) && decide (ev ≤ 174)) ||
    (decide (186 ≤ ev) && decide (ev ≤ 191)) || decide (ev = 199) || decide (ev = 207) ||
    decide (ev = 214) || decide (ev = 215) || (decide (224 ≤ ev) && decide (ev ≤ 231)) ||
    (decide (237 ≤ ev) && decide (ev ≤ 239)) || (decide (245 ≤ ev) && decide (ev ≤ 247)))

/-- A routing register (SUB or FAB) fires: enabled, naming the source, under its MODE (R496, R497). -/
def routeFires (w : Word) (ev : Nat) (newly any : Bool) : Bool :=
  bitOf w 31 && decide (fld w 8 0 = ev) && (newly || (any && bitOf w 30))

/-- A report entry joined to a session's unreported entries (R408). -/
def addReport (l : List EvEntry) (ev : Nat) (bits : Word) (t : DWord) : List EvEntry :=
  match l with
  | [] => [⟨ev, bits, t⟩]
  | e :: r => if e.ev = ev then { e with bits := e.bits ||| bits } :: r else e :: addReport r ev bits t

/-- The sessions after newly set cause bits of a routed event (R408, R495). -/
def reportEvent (s : State) (ev : Nat) (bits : Word) : List (Nat × Session) :=
  if s.getB (0x00B00100 + ev / 32 * 4) (ev % 32) then
    s.cmd.sessions.map (fun p =>
      if p.2.state = 2 ∧ p.2.v2 = false ∧ p.2.mask.testBit ev = true
      then (p.1, { p.2 with reports := addReport p.2.reports ev bits s.time }) else p)
  else s.cmd.sessions

/-- The SIGNALs of engine subscriptions that fire (R496). -/
def subsFired (s : State) (ev : Nat) (newly any : Bool) : List (Nat × Nat) :=
  ((tabRange s.regs 0x00B01000 0x2000).filter (fun p => routeFires p.2 ev newly any)).map
    (fun p => ((p.1 - 0x00B01000) / 0x80, (p.1 - 0x00B01000) % 0x80 / 4))

/-- The sectors that are ON, bit by bit. -/
def State.onSectors (s : State) : Nat :=
  ((List.range 48).map (fun i => if s.getF (Reg.PWR_DOM_STAT i) 2 0 = 0 then 2 ^ i else 0)).sum

/-- The pulses of fabric channels that fire, each with the sectors that it is presented to: those that are ON (R497). -/
def channelsFired (s : State) (ev : Nat) (newly any : Bool) : List (Nat × Nat) :=
  ((tabRange s.regs 0x00B00200 0x80).filter (fun p => routeFires p.2 ev newly any)).map
    (fun p => ((p.1 - 0x00B00200) / 4, s.onSectors))

/-- A block sets cause bits of EVn: bits that go from 0 to 1 raise the event, which is reported to the sessions,
signalled to subscribed engines and pulsed on fabric channels (R491, R495–R497). -/
def State.raise (s : State) (ev : Nat) (bits : Nat) : State :=
  match s.causeAddr ev with
  | none => s
  | some a =>
    let b : Word := BitVec.ofNat 32 bits
    let old := s.getR a
    let new := b &&& ~~~old
    let newly := decide (new ≠ 0)
    let any := decide (b ≠ 0)
    let s1 := s.setR a (old ||| b)
    { s1 with
      cmd := { s1.cmd with sessions := if newly then reportEvent s1 ev new else s1.cmd.sessions },
      evt := { s1.evt with
        signals := s1.evt.signals ++ subsFired s1 ev newly any,
        pulses := s1.evt.pulses ++ channelsFired s1 ev newly any,
        trigSeen := s1.evt.trigSeen || (newly && s1.evt.trigEv == some ev) } }

/-- Any cause bit of EVn is set: bit n of EVT.PEND (R498), and the level of a fabric channel of that source (R497). -/
def State.evPending (s : State) (ev : Nat) : Bool :=
  match s.causeAddr ev with
  | some a => s.getR a != 0
  | none => false

/-! ### Power domains: the state that every block reads (R426, R447) -/

/-- STATE of domain `d`: 0 ON, 1 RET, 2 OFF, 3 ENTER_RET, 4 ENTER_OFF, 5 WAKING, 6 COLD_RESTORE. -/
def State.domState (s : State) (d : Nat) : Nat := s.getF (Reg.PWR_DOM_STAT d) 2 0

/-- Domain `d` is ON. -/
def State.domOn (s : State) (d : Nat) : Bool := s.domState d == 0

/-- The domain of sector `i`, of physical engine `n`, of ADPLL `n`, of a trunk port, of a sync lane (R426). -/
def domSector (i : Nat) : Nat := i
def domEngine (n : Nat) : Nat := 48 + n
def domPll (n : Nat) : Nat := 114 + n
def domTrunk (p : Nat) : Nat := 122 + p
def domLane (l : Nat) : Nat := 124 + l
/-- The key port, the user NV controller and the ADC (R426). -/
def domKey : Nat := 132
def domNv : Nat := 133
def domAdc : Nat := 134

/-- Domain `d` beside its registers. -/
def State.domX (s : State) (d : Nat) : Domain := tabGet (fun _ => {}) s.dom d

/-- The state with domain `d` holding `x`. -/
def State.setDomX (s : State) (d : Nat) (x : Domain) : State := { s with dom := tabPut (fun _ => {}) s.dom d x }

/-- Domain `d` has had activity now: its idle time starts again (R431). -/
def State.touch (s : State) (d : Nat) : State := s.setDomX d { s.domX d with active := s.time }

/-! ### The logical engines -/

/-- Logical engine `e`. -/
def State.leng (s : State) (e : Nat) : LEng := tabGet (fun _ => {}) s.eng.logical e

/-- The state with logical engine `e` holding `c`. -/
def State.setLeng (s : State) (e : Nat) (c : LEng) : State :=
  { s with eng := { s.eng with logical := tabPut (fun _ => {}) s.eng.logical e c } }

end Sys2Proof.Machine
end

