-- ==== Sys2Proof/Machine/NetBase.lean ====
section
/-!
DEFINITION. Sys2Proof/Machine/NetBase.lean: an Ethernet frame's fields, and a frame offered to the transmit queues of the
trunk ports (R358, R361, R362). The rows of the ports stand in Machine/Trunk.lean.
-/
namespace Sys2Proof.Machine

/-! ### Fields of a frame (destination address to the end of the payload, without FCS) -/

/-- Destination and source addresses. -/
def frDA (f : List Byte) : Nat := beAt f 0 6
def frSA (f : List Byte) : Nat := beAt f 6 6
/-- The frame carries a C-tag. -/
def frTagged (f : List Byte) : Bool := beAt f 12 2 == 0x8100
/-- VID and PCP: 0 without a tag. -/
def frVid (f : List Byte) : Nat := if frTagged f then beAt f 14 2 % 4096 else 0
def frPcp (f : List Byte) : Nat := if frTagged f then beAt f 14 2 / 8192 else 0
/-- Offset of the EtherType after the C-tag, and after an 802.1CB redundancy tag as well. -/
def frTypeOff (f : List Byte) : Nat := if frTagged f then 16 else 12
def frRtag (f : List Byte) : Bool := beAt f (frTypeOff f) 2 == 0xF1C1
def frBodyOff (f : List Byte) : Nat := frTypeOff f + (if frRtag f then 6 else 0)
/-- EtherType and payload. -/
def frType (f : List Byte) : Nat := beAt f (frBodyOff f) 2
def frPayload (f : List Byte) : List Byte := f.drop (frBodyOff f + 2)
/-- Sequence number of the redundancy tag. -/
def frSeq (f : List Byte) : Nat := beAt f (frTypeOff f + 4) 2

/-- The frame with a redundancy tag of sequence number `n` (R362; IEEE 802.1CB). -/
def addRtag (f : List Byte) (n : Nat) : List Byte :=
  f.take (frTypeOff f) ++ beBytes 2 0xF1C1 ++ beBytes 2 0 ++ beBytes 2 n ++ f.drop (frTypeOff f)

/-- The FCS as it leaves (IEEE 802.3): the CRC-32, least significant byte first. -/
def fcs (f : List Byte) : List Byte := leBytes 4 (crc32 f).toNat

/-- A frame as it goes on the wire: padded to 60 bytes, with its FCS (R353, R361). -/
def wireFrame (f : List Byte) : List Byte :=
  let g := f ++ List.replicate (60 - f.length) 0
  g ++ fcs g

/-! ### Ports -/

/-- Port `p` beside its registers. -/
def State.netPort (s : State) (p : Nat) : NetPort := tabGet (fun _ => {}) s.net.ports p

/-- The state with port `p` holding `x`. -/
def State.setNetPort (s : State) (p : Nat) (x : NetPort) : State :=
  { s with net := { s.net with ports := tabPut (fun _ => {}) s.net.ports p x } }

/-- STATE of port `p` (R363): 0 OFF, 1 DOWN, 2 LINK, 3 JOINING, 4 IN_SERVICE, 5 RET. -/
def State.portState (s : State) (p : Nat) : Nat := s.getF (Reg.NET_PORT_STAT p) 2 0

/-- Port `p` is IN_SERVICE. -/
def State.inService (s : State) (p : Nat) : Bool := s.portState p == 4

/-- The ports IN_SERVICE, lowest first. -/
def State.portsIn (s : State) : List Nat := [0, 1].filter (fun p => s.inService p)

/-- Bytes that wait in queue `q` of port `p`. -/
def State.queueBytes (s : State) (p q : Nat) : Nat :=
  ((tabGet (fun _ => []) (s.netPort p).queues q).map List.length).sum

/-- The queue of a frame by its PCP (R358). -/
def State.queueOf (s : State) (p : Nat) (f : List Byte) : Nat :=
  nbits (s.getR (Reg.NET_PORT_PCP_MAP p)).toNat (3 * frPcp f + 2) (3 * frPcp f)

/-- A frame offered to queue `q` of port `p` (R358): a full queue discards it. Answers whether it was taken. -/
def State.enqueue (s : State) (p q : Nat) (f : List Byte) : State × Bool :=
  if s.queueBytes p q + f.length ≤ 16384 then
    let x := s.netPort p
    (s.setNetPort p { x with queues := tabPut (fun _ => []) x.queues q (tabGet (fun _ => []) x.queues q ++ [f]) }, true)
  else ((s.incR (Reg.NET_PORT_TXQ_DROP p)).raise 147 (2 ^ (4 + p)), false)

/-- A stream register pair enables the destination address and VID of a frame (R362). -/
def streamMatch (lo hi : Word) (f : List Byte) : Bool :=
  bitOf hi 31 && decide (fld hi 27 16 = frVid f) && decide (fld hi 15 0 * 2 ^ 32 + lo.toNat = frDA f)

/-- The first enabled transmit stream that a frame matches (R362). -/
def State.txStream (s : State) (f : List Byte) : Option Nat :=
  (List.range 64).find? (fun i => streamMatch (s.getR (Reg.NET_TXS_DA_LO i)) (s.getR (Reg.NET_TXS_DA_HI i)) f)

/-- The first enabled receive stream that a frame matches (R362). -/
def State.rxStream (s : State) (f : List Byte) : Option Nat :=
  (List.range 64).find? (fun i => streamMatch (s.getR (Reg.NET_RXS_DA_LO i)) (s.getR (Reg.NET_RXS_DA_HI i)) f)

/-- A frame queued on each port of a list; answers whether some port took it. -/
def enqueueAll (q : Nat → Nat) (f : List Byte) : List Nat → State → State × Bool
  | [], s => (s, false)
  | p :: l, s =>
    let r := s.enqueue p (q p) f
    let t := enqueueAll q f l r.1
    (t.1, r.2 || t.2)

/-- A frame offered for transmission on the ports `named` (in order), in the queue that `q` gives for a port (R361,
R362): a frame of a transmit stream takes the stream's next sequence number and goes out on every port in service; any
other on the first named port in service. Status 0 OK, 0x60 TX_NOPORT, 0x62 TX_FULL. `both`: no single port was named. -/
def State.transmit (s : State) (named : List Nat) (both : Bool) (q : Nat → Nat) (f : List Byte) : State × Nat :=
  match s.txStream f, both, s.portsIn with
  | some i, true, _ :: _ =>
    let n := s.getF (Reg.NET_TXS_SEQ i) 15 0
    let s := s.setF (Reg.NET_TXS_SEQ i) 15 0 (n + 1)
    let r := enqueueAll q (addRtag f n) s.portsIn s
    if r.2 then (r.1, 0) else (r.1.raise 149 2, 0x62)
  | _, _, _ =>
    match named.filter (fun p => s.inService p) with
    | [] => (s.raise 149 1, 0x60)
    | p :: _ =>
      let r := s.enqueue p (q p) f
      if r.2 then (r.1, 0) else (r.1.raise 149 2, 0x62)

/-- A frame of the device itself (R380): destination, C-tag with VID and PCP, EtherType, payload. -/
def State.ownFrame (s : State) (da : Mac) (vid pcp type : Nat) (payload : List Byte) : List Byte :=
  beBytes 6 da.toNat ++ beBytes 6 (s.getD Reg.NET_MAC).toNat ++ beBytes 2 0x8100 ++ beBytes 2 (pcp * 8192 + vid) ++
    beBytes 2 type ++ payload

end Sys2Proof.Machine
end

