-- ==== Sys2Proof/Machine/Bays.lean ====
section
/-!
DEFINITION. Sys2Proof/Machine/Bays.lean: what one logic bay, one length-64 segment, one block RAM and one multiplier
compute (R187–R192, R198, R200, R223, R225, R226, R230, R232), as functions of their inputs and their configuration fields (R194).
Machine/Fabric.lean and Machine/FabClock.lean feed them from the configuration and the state.
-/
namespace Sys2Proof.Machine

/-! ### Product terms and macrocells (R187–R189) -/

/-- A literal's value for input `x`, by LIT: 0 none, 1 true, 2 complement, 3 both (R187, R194). -/
def literal (lit : Nat) (x : Bool) : Bool :=
  match lit with
  | 0 => true
  | 1 => x
  | 2 => !x
  | _ => false

/-- A product term over the 40 inputs: the AND of the selected literals; 0 where EN is 0 (R187). -/
def termValue (t : Config.TermCfg) (input : Nat → Bool) : Bool :=
  t.en && (List.range 40).all (fun i => literal (nbits t.lit.toNat (2 * i + 1) (2 * i)) (input i))

/-- Term `j` is steered to macrocell `m`: to its control term, or to its OR input. A group of 16 terms serves four macrocells (R188,
R194). -/
def steered (j : Nat) (t : Config.TermCfg) (m : Nat) (ptc : Bool) : Bool :=
  4 * (j / 16) + nbits t.steer.toNat 1 0 == m && t.steer.toNat.testBit 2 == ptc

/-- The OR of the terms steered to a macrocell, or to its PTC (R188). -/
def termOr (terms : Nat → Config.TermCfg) (input : Nat → Bool) (m : Nat) (ptc : Bool) : Bool :=
  (List.range 64).any (fun j => steered j (terms j) m ptc && termValue (terms j) input)

/-- The output of a macrocell (R189), by MODE: the XOR output, or the register. -/
def cellOut (mode : BitVec 2) (pol or_ reg : Bool) : Bool := if mode = 0 then xor or_ pol else reg

/-- The register of a macrocell after a rising edge of its clock (`edge`), with CE, CLR and PRE as they stand (R189). MODE 1 is the D
register, 2 the T register. -/
def cellReg (mode : BitVec 2) (pol or_ reg edge ce clr pre : Bool) : Bool :=
  if mode = 0 then false
  else if clr then false
  else if pre then true
  else if edge && ce then (if mode = 1 then xor or_ pol else xor reg (xor or_ pol))
  else reg

/-- A field of 6 bits that selects a control (R194): nothing, the bay's own `own`, or a global tree. -/
def ctlSel (code : BitVec 6) (nothing own : Bool) (tree : Nat → Bool) : Bool :=
  match nbits code.toNat 5 4 with
  | 0 => nothing
  | 1 => own
  | _ => tree (nbits code.toNat 3 0)

/-! ### LUT slots (R190–R192) -/

/-- The number that inputs I0, I1, … spell, I0 lowest. -/
def inputIndex : List Bool → Nat
  | [] => 0
  | b :: l => b.toNat + 2 * inputIndex l

/-- Halves A and B of a slot with truth table `t` and inputs I0–I5 (R190). -/
def lutHalves (frac : Bool) (t : DWord) (i : List Bool) : Bool × Bool :=
  if frac then
    let n := inputIndex (i.take 5)
    (t.toNat.testBit n, t.toNat.testBit (32 + n))
  else (t.toNat.testBit (inputIndex (i.take 6)), t.toNat.testBit (inputIndex (i.take 6)))

/-- CIN by CI_SEL (R191): the slot below, 0, 1, the bypass input. -/
def carryIn (sel : Nat) (below bypass : Bool) : Bool :=
  match sel with
  | 0 => below
  | 1 => false
  | 2 => true
  | _ => bypass

/-- SUM and COUT of a slot (R191); a slot that is not in carry mode passes CIN through. -/
def carryStage (carry p g cin : Bool) : Bool × Bool := (xor p cin, if carry then (if p then cin else g) else cin)

/-- D of a flip-flop by DA_SEL or DB_SEL (R192, R194): the LUT half, SUM or COUT, the bypass input. -/
def slotD (sel : BitVec 2) (half sumOrCout bypass : Bool) : Bool := if sel = 0 then half else if sel = 1 then sumOrCout else bypass

/-- A flip-flop of a slot after a rising edge (`edge`), or at an asynchronous SR (R192): SR precedes CE. -/
def slotFf (async srval q d edge ce sr : Bool) : Bool :=
  if sr && (async || edge) then srval
  else if edge && ce then d
  else q

/-! ### Length-64 segments (R198, R200) -/

/-- The level of a segment: its one enabled driver's; 0 where it is not driven. -/
def segmentLevel (select : Byte) (drivers : List Bool) : Bool :=
  match bitsSet 8 select.toNat with
  | [k] => drivers.getD k false
  | _ => false

/-- A driver select that the loader accepts: at most one bit, at a tap that exists (R198). -/
def selectOk (select : Byte) (taps : Nat) : Bool :=
  decide ((bitsSet 8 select.toNat).length ≤ 1) && (bitsSet 8 select.toNat).all (fun k => decide (k < taps))

/-! ### Block RAM ports (R223, R225, R226) -/

/-- The word and the lane that address `a` of a port of width `w` reaches in a word of `p` data bits. -/
def bramWord (p w a : Nat) : Nat := a / (p / w)
def bramLane (p w a : Nat) : Nat := a % (p / w)

/-- A port's read of a physical word. -/
def bramRead (p w a word : Nat) : Nat := (word >>> (w * bramLane p w a)) % 2 ^ w

/-- The physical word after a port's write of `v`. -/
def bramWrite (p w a word v : Nat) : Nat :=
  let sh := w * bramLane p w a
  word - (((word >>> sh) % 2 ^ w) <<< sh) + ((v % 2 ^ w) <<< sh)

/-- Read data of a port that writes (R225): READ_MODE 0, 1, 2. -/
def bramReadMode (mode old new previous : Nat) : Nat :=
  match mode with
  | 0 => old
  | 1 => new
  | _ => previous

/-- The data width of a physical word (R223). -/
def bramData (ecc : Bool) : Nat := if ecc then 64 else 72

/-- One access of a port to the physical word `word` (R223, R225): the word left, and the port's read data. Two ports in one slot
access it one after the other, B first (R226). -/
def bramAccess (ecc : Bool) (c : Config.PortCfg) (we : Bool) (a v word previous : Nat) : Nat × Nat :=
  let p := bramData ecc
  let w := p / 2 ^ c.width.toNat
  let old := bramRead p w a word
  if we then
    let new := bramWrite p w a word v
    (new, bramReadMode c.readMode.toNat old (bramRead p w a new) previous)
  else (word, old)

/-! ### Multipliers (R230, R232) -/

/-- A 27-bit input, signed or not. -/
def mulInput (signed : Bool) (v : Nat) : Int := if signed then sextInt 27 v else ((v % 2 ^ 27 : Nat) : Int)

/-- The exact sum of a mode (R230), from the product, C, the present P and CASC_IN. -/
def mulExact (mode : Nat) (sub load : Bool) (prod : Int) (c p casc : DWord) : Int :=
  match mode with
  | 0 => prod
  | 1 => prod + c.toInt
  | 2 => if load then c.toInt else if sub then p.toInt - prod else p.toInt + prod
  | _ => prod + casc.toInt

/-- The sum leaves the signed 64-bit range. -/
def mulOver (x : Int) : Bool := decide (x < -(2 ^ 63) ∨ 2 ^ 63 ≤ x)

/-- P of an exact sum: wrapped, or saturated (R230). -/
def mulResult (sat : Bool) (x : Int) : DWord :=
  if sat then (if 2 ^ 63 ≤ x then dw (2 ^ 63 - 1) else if x < -(2 ^ 63) then dw (-(2 ^ 63)) else dw x) else dw x

/-- OVF after a clock: set by a sum out of range, cleared by RST or LOAD. -/
def mulOvf (ovf rst load : Bool) (x : Int) : Bool := !rst && (mulOver x || (ovf && !load))

/-- The residue check of a product (R232). -/
def residueOk (a b prod : Int) : Bool := (a % 3 * (b % 3)) % 3 == prod % 3

end Sys2Proof.Machine
end

