-- ==== Sys2Proof/Machine/Frames.lean ====
section
/-!
DEFINITION. Sys2Proof/Machine/Frames.lean: configuration frames: their addresses, the planes that hold them, and the user pins' configuration
(R180, R246–R248).
-/
namespace Sys2Proof.Machine

/-! ### Frame addresses (R247) -/

def fClass (a : Nat) : Nat := a >>> 28
def fSector (a : Nat) : Nat := (a >>> 22) % 64
def fIndex (a : Nat) : Nat := a % 2 ^ 22

/-- Address of class `c`, sector `s`, index `i`. -/
def frameAddr (c s i : Nat) : Nat := c <<< 28 + s <<< 22 + i

/-- Index of a class 2 frame within its engine is one of the 145 that exist. -/
def engIndexOk (i : Nat) : Bool := decide (i ≤ 0x90)

/-- The address is one of those that R247 defines. -/
def addrDefined (a : Nat) : Bool :=
  let s := fSector a
  let i := fIndex a
  match fClass a with
  | 0 => decide (s < 48) && decide (i < 1604)
  | 1 => decide (s < 48) && decide (i < 288)
  | 2 => s == 63 && engIndexOk (i % 65536)
  | 3 => s == 63 && decide (i ≤ 430)
  | 4 => decide (s < 48) && decide (i < 7)
  | 5 => s == 63 && i == 0
  | _ => false

/-- Logical engine of a class 2 frame. -/
def fEngine (a : Nat) : Nat := fIndex a / 65536

/-- The unit of configuration whose planes have one source (R243): sector, 48 + logical engine, 112 + pin frame, or 400
for the global frames and the frost profile. -/
def unitOf (a : Nat) : Nat :=
  match fClass a with
  | 2 => 48 + fEngine a
  | 3 => if fIndex a < 288 then 112 + fIndex a else 400
  | 5 => 400
  | _ => fSector a

/-- All the defined addresses. -/
def maxFrames : Nat := 100864

/-! ### Planes -/

/-- A frame written to a plane; a frame of zeros is the default. -/
def planePut (p : List (Nat × List Byte)) (a : Nat) (data : List Byte) : List (Nat × List Byte) :=
  if data.all (fun b => b == 0) then tabErase p a else tabInsert p a data

/-- The frames of a plane that `sel` selects replaced by frames of zeros. -/
def planeClear (p : List (Nat × List Byte)) (sel : Nat → Bool) : List (Nat × List Byte) := p.filter (fun f => !sel f.1)

/-- The frames that `sel` selects taken from `src` into `dst`. -/
def planeTake (dst src : List (Nat × List Byte)) (sel : Nat → Bool) : List (Nat × List Byte) :=
  (src.filter (fun f => sel f.1)).foldl (fun t f => tabInsert t f.1 f.2) (planeClear dst sel)

/-- A frame of a plane as 512 bytes. -/
def planeFrame (p : List (Nat × List Byte)) (a : Nat) : List Byte :=
  match tabGet (fun _ => []) p a with
  | [] => List.replicate 512 0
  | f => f

/-- Data bit `i` of a frame (R246). -/
def frameBit (f : List Byte) (i : Nat) : Bool := (f.getD (i / 8) 0).getLsbD (i % 8)

/-- A field of the content `f`: a frame of zeros is inert (R248), and so is every field of it. -/
def decoded {α : Type} (f : List Byte) (inert : α) (dec : List Byte → α) : α := if f.all (fun b => b == 0) then inert else dec f

/-! ### Pins -/

/-- Address of the pin frame of pins 4i to 4i + 3 (R247). -/
def pinFrame (i : Nat) : Nat := 3 <<< 28 + 63 <<< 22 + i

/-- The I/O configuration of pin `p` in a plane; a zero frame drives no pin (R248). -/
def pinOf (plane : List (Nat × List Byte)) (p : Nat) : Config.PinCfg :=
  match tabGet (fun _ => []) plane (pinFrame (p / 4)) with
  | [] => {}
  | f => Config.pinCfg f (p % 4)

/-- The I/O configuration of pin `p` in force. -/
def State.pin (s : State) (p : Nat) : Config.PinCfg := pinOf s.cfg.active p

/-! ### Banks (R509, R510, R513) -/

/-- The standard is an LVDS one. -/
def lvds (d : Config.IoStd) : Bool := d == .lvdsOut || d == .lvdsIn

/-- The levels of a standard match a bank voltage (R510, R513). -/
def stdFits (d : Config.IoStd) (v : Config.BankV) : Bool :=
  match d with
  | .lvcmos12 => v == .v12
  | .lvcmos18 => v == .v18
  | .lvcmos25 => v == .v25
  | .lvcmos33 => v == .v33
  | .lvdsOut => v == .v25
  | .lvdsIn => v == .v18 || v == .v25

/-- The supply of bank `b` as the global frames in force set it (R509). -/
def State.bankVolt (s : State) (b : Nat) : Option Config.BankV :=
  (List.range 142).findSome? (fun k =>
    let a := frameAddr 3 63 (289 + k)
    Config.bankOf a (planeFrame s.cfg.active a) b)

/-- Pin `p` of a plane names no standard that voltage `v` does not suit. -/
def pinFits (plane : List (Nat × List Byte)) (v : Config.BankV) (p : Nat) : Bool :=
  (pinOf plane p).standard.all (fun d => stdFits d v)

/-- Pins 4i to 4i + 3 of a pin frame keep the LVDS rules that need no voltage (R510): banks B00 to B07, and both pins of a pair. -/
def lvdsPlaced (i : Nat) (data : List Byte) : Bool :=
  let std := fun p => (decoded data ({} : Config.PinCfg) (fun f => Config.pinCfg f (p % 4))).standard
  (List.range 4).all (fun k =>
    let p := 4 * i + k
    !(std p).any lvds || (decide (p / 48 < 8) && std (if p % 2 = 0 then p + 1 else p - 1) == std p))

/-! ### The frames of a sector -/

/-- The interface frames of sector `i` in the active plane, joined (R247). -/
def State.interfaceFrames (s : State) (i : Nat) : List Byte :=
  (List.range 68).flatMap (fun k => planeFrame s.cfg.active (frameAddr 0 i (1536 + k)))

/-- The global frames of the active plane, joined (R247). -/
def State.globalFrames (s : State) : List Byte :=
  (List.range 142).flatMap (fun k => planeFrame s.cfg.active (frameAddr 3 63 (289 + k)))

/-- The frame of part `part` of bay `bay` of sector `sec` in the active plane (R247). -/
def State.bayFrame (s : State) (sec bay part : Nat) : List Byte := planeFrame s.cfg.active (frameAddr 0 sec (3 * bay + part))

end Sys2Proof.Machine
end

