-- ==== Sys2Proof/Machine/Fabric.lean ====
section
/-!
DEFINITION. Sys2Proof/Machine/Fabric.lean: the wires of the fabric (07_logic_bays_and_routing.md): coordinates, segments, switch boxes, bay
outputs, the global reset/enable trees, and the level of every one of them in a state. Machine/FabClock.lean clocks them.
-/
namespace Sys2Proof.Machine

/-- Sector `i` beside its registers. -/
def State.sector (s : State) (i : Nat) : Sector := tabGet (fun _ => {}) s.fab.sectors i

/-- The state with sector `i` holding `x`. -/
def State.setSector (s : State) (i : Nat) (x : Sector) : State :=
  { s with fab := { s.fab with sectors := tabPut (fun _ => {}) s.fab.sectors i x } }

/-! ### Coordinates and segments (R186, R196) -/

/-- Device coordinates X and Y of bay `bay` of sector `sec`. -/
def bayX (sec bay : Nat) : Nat := 16 * (sec % 8) + bay % 16
def bayY (sec bay : Nat) : Nat := 32 * (sec / 8) + bay / 16

/-- The sector, and the bay within it, at device coordinates. -/
def sectorAt (x y : Nat) : Nat := x / 16 + 8 * (y / 32)
def bayAt (x y : Nat) : Nat := 16 * (y % 32) + x % 16

/-- Bays from a bay to the edge of the device in a direction: 0 E, 1 W, 2 N, 3 S. -/
def edgeRoom (x y dir : Nat) : Nat :=
  match dir with
  | 0 => 127 - x
  | 1 => x
  | 2 => 191 - y
  | _ => y

/-- The bay `d` bays further in a direction. -/
def stepX (x dir d : Nat) : Nat := if dir = 0 then x + d else if dir = 1 then x - d else x
def stepY (y dir d : Nat) : Nat := if dir = 2 then y + d else if dir = 3 then y - d else y

/-- The opposite direction. -/
def opposite (dir : Nat) : Nat := if dir % 2 = 0 then dir + 1 else dir - 1

/-- Length of a segment class: 1, 4, 16, 64; and how many of it start per bay and direction. -/
def segLength (len : Nat) : Nat := 4 ^ len
def segStarts (len : Nat) : Nat := if len = 0 then 8 else if len = 1 then 4 else 1

/-- How far a segment from (x, y) reaches: its length, or to the edge of the device. -/
def segReach (len dir x y : Nat) : Nat := min (segLength len) (edgeRoom x y dir)

/-- A segment of the class starts at (x, y) with track `t`: of length 64, at bays whose coordinate along the direction is a multiple of
4. -/
def segExists (len dir x y t : Nat) : Bool :=
  decide (len < 4) && decide (dir < 4) && decide (t < segStarts len) && (len != 3 || (if dir < 2 then x else y) % 4 == 0)

/-- The segment from (x, y) can be read `off` bays from its origin: at its end; length 4 at each bay, length 16 at every fourth, length 64
at its taps. -/
def segReadable (len dir x y off : Nat) : Bool :=
  let r := segReach len dir x y
  decide (off ≤ r) && (off == r ||
    (match len with
     | 1 => decide (1 ≤ off)
     | 2 => decide (4 ≤ off) && off % 4 == 0
     | 3 => decide (off < 64) && off % 8 == 0
     | _ => false))

/-- Length-64 segment `seg` = 4 × origin bay + direction of sector `i` exists. -/
def segmentExists (i seg : Nat) : Bool := segExists 3 (seg % 4) (bayX i (seg / 4)) (bayY i (seg / 4)) 0

/-- Taps of a length-64 segment that lie on the device (R198). -/
def tapsOf (i seg : Nat) : Nat := edgeRoom (bayX i (seg / 4)) (bayY i (seg / 4)) (seg % 4) / 8 + 1

/-- Frame of sector `i` that holds the select of segment `seg` (R198). -/
def selectAddr (i seg : Nat) : Nat := frameAddr 0 i (1536 + (Config.selectFrame seg).toNat % 68)

/-- A switch box connects a source at its bay to a start there (R197): the segment of class `len`, direction `dir`, track `t`, or for length
64 its tap `tap`. `ending`: the bay is the source segment's end. "The three other directions" are those other than the source's. -/
def boxConnects (src : Config.WireSrc) (ending : Bool) (len dir t tap : Nat) : Bool :=
  match src with
  | .none => false
  | .dev _ => true
  | .out k => if len = 0 then t == k % 8 else if len = 1 then t == k % 4 else true
  | .seg 0 d _ st => ending && (if len = 0 then t == st && dir != d else len == 1 && t == st % 4)
  | .seg 1 d _ st => ending && (if len = 0 then t == st % 8 else if len = 1 then t == st && dir != d else len == 2)
  | .seg 2 d _ st => if len = 1 then t == st % 4 else if len = 2 then ending && t == st && dir != d else len == 3
  | .seg _ d _ _ => len == 2 || (len == 3 && ending && dir == d && tap == 0)

/-! ### Wires -/

/-- A wire of the fabric: output `k` of a bay (0–15 the macrocells, 16 + 2l and 17 + 2l OA and OB of slot l), COUT of slot `l`, or the
segment of class `len`, direction `dir` and track `t` that starts at device coordinates (x, y). -/
inductive Wire where
  | out (sec bay k : Nat)
  | cout (sec bay l : Nat)
  | seg (len dir x y t : Nat)
deriving DecidableEq, Repr

/-- A number for a wire. -/
def Wire.number : Wire → Nat
  | .out sec bay k => 64 * (512 * sec + bay) + k
  | .cout sec bay l => 2 ^ 21 + 16 * (512 * sec + bay) + l
  | .seg len dir x y t => 2 ^ 22 + 8 * (16384 * (16 * (8 * len + dir) + y) + 128 * y + x) + t

/-- The output of the block RAM port, as the routing sees it (R225). -/
def State.bramOutput (s : State) (sec k p : Nat) : Nat :=
  let c := decoded (s.interfaceFrames sec) {} (fun f => Config.bramCfg f k)
  let x := s.sector sec
  tabGet (fun _ => 0) (if (if p = 0 then c.a else c.b).outReg then x.bramOut else x.bramRd) (2 * k + p)

/-- The transfer that port interface `i` of a sector presents (R208): whether it writes, and WDATA. -/
def State.portTransfer (s : State) (sec i : Nat) : Option (Bool × DWord) :=
  let w := s.getR (Reg.SEC_PI sec i)
  let c := s.leng (fld w 13 8)
  let value := fun (k : Nat) =>
    match c.efLog[k - c.efBase - 1]? with
    | some (.bayWrite _ v) => v
    | _ => 0
  if !bitOf w 31 then none
  else match c.stall, c.bayOut with
    | some (.bayRead _ p sc), _ => if p = fld w 1 0 ∧ sc = sec then some (false, 0) else none
    | some (.bayWrite p sc k), _ => if p = fld w 1 0 ∧ sc = sec then some (true, value k) else none
    | _, some b => if b.port = fld w 1 0 ∧ b.sec = sec then some (true, value b.k) else none
    | _, none => none

/-- The level of a device signal in a sector. -/
def State.devLevel (s : State) (sec : Nat) (d : Config.DevSig) : Bool :=
  let x := s.sector sec
  match d with
  | .strobe n => x.stb.contains n
  | .strobeWord n b => bitOf (s.getR (Reg.SEC_STB_DATA sec n)) b
  | .piReq i => (s.portTransfer sec i).isSome && !x.reqSeen.contains i
  | .piWe i => (s.portTransfer sec i).any Prod.fst
  | .piData i b => (s.portTransfer sec i).any (fun t => t.2.toNat.testBit b)
  | .bramData k p b => (s.bramOutput sec k p).testBit b
  | .bramErr k p => x.bramErr.contains (2 * k + p)
  | .mulP k b => (tabGet (fun _ => 0) x.mulP k).toNat.testBit b
  | .mulOvf k => x.mulOvf.contains k
  | .pin p => Config.pinInput p s.time
  | .evp k => x.evp.contains k
  | .evl k => s.getB (Reg.EVT_FAB k) 31 && s.evPending (s.getF (Reg.EVT_FAB k) 8 0)

/-- The level of what a multiplexer at a bay selects, from the levels `lv` of the wires; what is not readable there is no source. -/
def State.srcLevel (s : State) (lv : Wire → Bool) (sec bay : Nat) (x : Config.WireSrc) : Bool :=
  match x with
  | .none => false
  | .out k => decide (k < 48) && lv (.out sec bay k)
  | .dev d => s.devLevel sec d
  | .seg len dir off t =>
    let X := bayX sec bay
    let Y := bayY sec bay
    let ox := stepX X (opposite dir) off
    let oy := stepY Y (opposite dir) off
    decide (off ≤ edgeRoom X Y (opposite dir)) && segExists len dir ox oy t && segReadable len dir ox oy off && lv (.seg len dir ox oy t)

/-- The level that a tap of a sector gives. -/
def State.tapLevel (s : State) (lv : Wire → Bool) (sec : Nat) (t : Config.Tap) : Bool := s.srcLevel lv sec t.bay t.src

/-- The source segment of a multiplexer ends at the bay. -/
def endsAt (sec bay : Nat) (x : Config.WireSrc) : Bool :=
  match x with
  | .seg len dir off _ =>
    off == segReach len dir (stepX (bayX sec bay) (opposite dir) off) (stepY (bayY sec bay) (opposite dir) off)
  | _ => false

/-- The level of a segment start's multiplexer, where the switch box connects what it selects (R197). -/
def State.startLevel (s : State) (lv : Wire → Bool) (sec bay : Nat) (x : Config.WireSrc) (len dir t tap : Nat) : Bool :=
  boxConnects x (endsAt sec bay x) len dir t tap && s.srcLevel lv sec bay x

/-- The level of a segment (R196–R200): its multiplexer's at the origin; of length 64, its one enabled driver's, and 0 where it is not
driven or its monitor has disconnected it. -/
def State.segLevel (s : State) (lv : Wire → Bool) (len dir x y t : Nat) : Bool :=
  let sec := sectorAt x y
  let bay := bayAt x y
  if len = 3 then
    let seg := 4 * bay + dir
    if (s.sector sec).disc.contains seg then false
    else
      let f := s.interfaceFrames sec
      let drivers := (List.range 8).map (fun j =>
        let tx := stepX x dir (8 * j)
        let ty := stepY y dir (8 * j)
        decide (j < tapsOf sec seg) &&
          s.startLevel lv (sectorAt tx ty) (bayAt tx ty) (decoded f .none (fun f => Config.tapSrc f seg j)) 3 dir t j)
      segmentLevel (decoded (planeFrame s.cfg.active (selectAddr sec seg)) 0 (fun f => Config.selectOf f seg)) drivers
  else s.startLevel lv sec bay (decoded (s.bayFrame sec bay 2) .none (fun f => Config.startSrc f len dir t)) len dir t 0

/-- The level of global reset/enable tree `t` at its root (R204). -/
def State.treeRoot (s : State) (lv : Wire → Bool) (t : Nat) : Bool :=
  let c := decoded s.globalFrames {} (fun f => Config.treeCfg f t)
  match c.src with
  | .inactive => false
  | .pin p => xor c.invert (Config.pinInput p s.time)
  | .bay sec bay k => xor c.invert (lv (.out sec bay k))
  | .thawRel => xor c.invert (s.getF Reg.DEV_START_STAT 4 2 != 5)

/-- Tree `t` as a register on regional clock `j` of a sector sees it (R205): where the sector retimes it to that clock, its assertion acts
at once and its deassertion after two stages. -/
def State.treeAt (s : State) (lv : Wire → Bool) (sec j t : Nat) : Bool :=
  s.treeRoot lv t ||
    (decoded (s.interfaceFrames sec) false (fun f => Config.retimes f t j) &&
      (tabGet (fun _ => 0) (s.sector sec).sync (16 * t + j)).testBit 1)

/-! ### A bay (R187–R192) -/

/-- Output `n` of the input mux of a bay: 0–39 product-term inputs, 40 + 6l + i input i of slot l, 136 + l its bypass, 152 + q CE[q], 156 + q
SR[q]. -/
def State.bayIn (s : State) (lv : Wire → Bool) (sec bay n : Nat) : Bool :=
  s.srcLevel lv sec bay (decoded (s.bayFrame sec bay 2) .none (fun f => Config.muxSrc f n))

/-- The configuration of macrocell `m`, slot `l`, quarter `q` of a bay. -/
def State.cellOf (s : State) (sec bay m : Nat) : Config.CellCfg := decoded (s.bayFrame sec bay 1) {} (fun f => Config.cellCfg f m)
def State.slotOf (s : State) (sec bay l : Nat) : Config.SlotCfg := decoded (s.bayFrame sec bay 1) {} (fun f => Config.slotCfg f l)
def State.quarterOf (s : State) (sec bay q : Nat) : Config.QuarterCfg := decoded (s.bayFrame sec bay 1) {} (fun f => Config.quarterCfg f q)

/-- The OR input (`ptc` false) or the control term of macrocell `m` of a bay. -/
def State.cellTerm (s : State) (lv : Wire → Bool) (sec bay m : Nat) (ptc : Bool) : Bool :=
  termOr (fun j => decoded (s.bayFrame sec bay 0) {} (fun f => Config.termCfg f j)) (s.bayIn lv sec bay) m ptc

/-- Macrocell `m` of a bay: its register after an edge of its clock (`edge`), or as it stands with its asynchronous controls. -/
def State.cellNext (s : State) (lv : Wire → Bool) (sec bay m : Nat) (edge : Bool) : Bool :=
  let c := s.cellOf sec bay m
  let ctl := fun (code : BitVec 6) (nothing : Bool) =>
    ctlSel code nothing (s.cellTerm lv sec bay m true) (s.treeAt lv sec c.clk.toNat)
  cellReg c.mode c.pol (s.cellTerm lv sec bay m false) ((s.sector sec).ffs.contains (48 * bay + 32 + m)) edge
    (ctl c.ce true) (ctl c.clr false) (ctl c.pre false)

/-- The combinational values of slot `l` of a bay: halves A and B, SUM, COUT. -/
def State.slotValues (s : State) (lv : Wire → Bool) (sec bay l : Nat) : Bool × Bool × Bool × Bool :=
  let c := s.slotOf sec bay l
  let h := lutHalves c.frac c.t ((List.range 6).map (fun i => s.bayIn lv sec bay (40 + 6 * l + i)))
  let below := if 0 < l then lv (.cout sec bay (l - 1)) else if 16 ≤ bay then lv (.cout sec (bay - 16) 15) else false
  let r := carryStage c.carry h.1 h.2 (carryIn c.ciSel.toNat below (s.bayIn lv sec bay (136 + l)))
  (h.1, h.2, r.1, r.2)

/-- FF A (`b` false) or FF B of slot `l` of a bay, after an edge of its clock or as it stands with its asynchronous SR. -/
def State.ffNext (s : State) (lv : Wire → Bool) (sec bay l : Nat) (b edge : Bool) : Bool :=
  let c := s.slotOf sec bay l
  let q := s.quarterOf sec bay (l / 4)
  let ctl := fun (code : BitVec 6) (nothing : Bool) (n : Nat) =>
    ctlSel code nothing (s.bayIn lv sec bay (n + l / 4)) (s.treeAt lv sec q.clk.toNat)
  let v := s.slotValues lv sec bay l
  let byp := s.bayIn lv sec bay (136 + l)
  let d := if b then slotD c.dbSel v.2.1 v.2.2.2 byp else slotD c.daSel v.1 v.2.2.1 byp
  slotFf q.async (if b then c.srvB else c.srvA) ((s.sector sec).ffs.contains (48 * bay + 2 * l + b.toNat)) d edge (ctl q.ce true 152)
    (ctl q.sr false 156)

/-- The level of output `k` of a bay (R189, R192). -/
def State.outLevel (s : State) (lv : Wire → Bool) (sec bay k : Nat) : Bool :=
  if k < 16 then
    let c := s.cellOf sec bay k
    cellOut c.mode c.pol (s.cellTerm lv sec bay k false) (s.cellNext lv sec bay k false)
  else
    let l := (k - 16) / 2
    let c := s.slotOf sec bay l
    let v := s.slotValues lv sec bay l
    if k % 2 = 0 then (if c.oaSel then s.ffNext lv sec bay l false false else if c.carry then v.2.2.1 else v.1)
    else if c.obSel = 0 then v.2.1
    else if c.obSel = 1 then s.ffNext lv sec bay l true false
    else v.2.2.2

/-! ### Levels -/

/-- The sector that drives a wire. -/
def Wire.sector : Wire → Nat
  | .out sec _ _ => sec
  | .cout sec _ _ => sec
  | .seg _ _ x y _ => sectorAt x y

/-- One wire from the others: what a sector that is not ON gives other sectors is open. -/
def State.wireStep (s : State) (lv : Wire → Bool) (w : Wire) : Bool :=
  if !s.domOn (domSector w.sector) then Config.openWire w.number s.time
  else match w with
    | .out sec bay k => s.outLevel lv sec bay k
    | .cout sec bay l => (s.slotValues lv sec bay l).2.2.2
    | .seg len dir x y t => s.segLevel lv len dir x y t

/-- The level of a wire along paths of at most the given number of wires; a longer path is a loop, and its level is open. -/
def State.levelWithin (s : State) : Nat → Wire → Bool
  | 0, w => Config.openWire w.number s.time
  | n + 1, w => s.wireStep (s.levelWithin n) w

/-- More wires than the fabric has. -/
def wireBound : Nat := 4194304

/-- The level of a wire. -/
def State.level (s : State) (w : Wire) : Bool := s.levelWithin wireBound w

/-- What the fabric gives pin `p` (R429): output enable and level. -/
def State.fabricPad (s : State) (p : Nat) : Bool × Bool :=
  let c := s.pin p
  (s.tapLevel s.level c.sector c.enTap, s.tapLevel s.level c.sector c.outTap)

end Sys2Proof.Machine
end

