-- ==== Sys2Proof/Machine/Faults.lean ====
section
/-!
DEFINITION. Sys2Proof/Machine/Faults.lean: squall windows, lasting faults and the repair log (R477–R480): the operations
that every detecting block uses.
-/
namespace Sys2Proof.Machine

/-- Key of a unit in the squall and clean-pass tables. -/
def unitKey (typ unit : Nat) : Nat := 4096 * typ + unit

/-- The faults of a unit still inside a window of `ms` milliseconds at time `now` (R477). -/
def inWindow (l : List DWord) (now : DWord) (ms : Nat) : List DWord :=
  l.filter (fun t => decide (tdiff now t < (max ms 1 * unitsPerMs : Nat)))

/-- WINDOW in ms and COUNT of a squall setting [31:16], [7:0], where 0 is taken as 1 (R105, R477). -/
def squallCfg (w : Word) : Nat × Nat := (max (fld w 31 16) 1, max (fld w 7 0) 1)

/-- Faults of a unit in its window now. -/
def State.faultsNow (s : State) (typ unit ms : Nat) : Nat :=
  (inWindow (tabGet (fun _ => []) s.tst.squall (unitKey typ unit)) s.time ms).length

/-- One fault counted in a unit's squall window: the state, and whether the fault is lasting; the count of a lasting
fault restarts at 0 (R477). -/
def State.countFault (s : State) (typ unit : Nat) (cfg : Nat × Nat) : State × Bool :=
  let l := inWindow (tabGet (fun _ => []) s.tst.squall (unitKey typ unit)) s.time cfg.1 ++ [s.time]
  let lasting := decide (cfg.2 ≤ l.length)
  ({ s with tst := { s.tst with
      squall := tabPut (fun _ => []) s.tst.squall (unitKey typ unit) (if lasting then [] else l) } }, lasting)

/-- The oldest RESOLVED record removed; none where no record is RESOLVED. -/
def dropResolved : List RepairRec → Option (List RepairRec)
  | [] => none
  | r :: l => if r.resolved then some l else (dropResolved l).map (fun m => r :: m)

/-- A repair-log record written to a free place, or over the oldest RESOLVED one, or dropped (R480). -/
def State.repairLog (s : State) (typ unit : Nat) (addr : Word) (cause bit : Nat) (noSpare : Bool) : State :=
  let r : RepairRec := ⟨s.time, addr, unit, typ, cause, bit, false, false, noSpare, s.tst.rlogSeq⟩
  let put := fun l => ({ s with tst := { s.tst with rlog := l ++ [r], rlogSeq := (s.tst.rlogSeq + 1) % 65536 } } : State).raise 221 1
  if s.tst.rlog.length < 2048 then put s.tst.rlog
  else match dropResolved s.tst.rlog with
    | some l => put l
    | none => s.raise 221 2

/-- A lasting fault recorded: bit [type] of EV218 and a repair-log record (R477). -/
def State.lastingFault (s : State) (typ unit : Nat) (addr : Word) (cause bit : Nat) (noSpare : Bool) : State :=
  ((s.raise 218 (2 ^ typ)).repairLog typ unit addr cause bit noSpare)

/-- The unresolved records of a unit become RESOLVED when it is reinstated (R480). -/
def State.resolveLog (s : State) (typ unit : Nat) : State :=
  { s with tst := { s.tst with
      rlog := s.tst.rlog.map (fun r => if r.typ = typ ∧ r.unit = unit then { r with resolved := true } else r) } }

/-- The settings of the units without a register of their own (TST_SQ_CFG, R477). -/
def State.sqCfg (s : State) : Nat × Nat := squallCfg (s.getR Reg.TST_SQ_CFG)

/-- The Drizzle type `t`. -/
def State.dtype (s : State) (t : Nat) : DrizzleType := tabGet (fun _ => {}) s.tst.types t

/-- The state with Drizzle type `t` holding `d`. -/
def State.setDtype (s : State) (t : Nat) (d : DrizzleType) : State :=
  { s with tst := { s.tst with types := tabPut (fun _ => {}) s.tst.types t d } }

/-- A slice of type `t` recorded ABORTED (R471, R473): the count and bit [t] of EV217. -/
def State.noteAborted (s : State) (t : Nat) : State := (s.addF (Reg.TST_TYPE_ABORT t) 15 0 1).raise 217 (2 ^ t)

/-- A request for a unit under an idle-window slice aborts it: the unit is restored 500 ns later and the slice is run
again in a later window (R473). -/
def State.abortIdle (s : State) (t unit : Nat) : State :=
  match (s.dtype t).slice with
  | some sl =>
    if sl.unit = unit ∧ sl.restoreAt = none then
      (s.setDtype t { s.dtype t with slice := some { sl with restoreAt := some (s.time + units 32000) } }).noteAborted t
    else s
  | none => s

/-- The crypto block is asked for an operation, which aborts its slice (R472, R473). -/
def State.useCrypto (s : State) : State := s.abortIdle 6 0

/-- A unit of type `t` is under a slice or not yet restored from one, so it takes no action (R473). -/
def State.underTest (s : State) (t unit : Nat) : Bool :=
  match (s.dtype t).slice with
  | some sl => decide (sl.unit = unit) &&
      (match sl.restoreAt with
       | some r => before s.time r
       | none => true)
  | none => false

end Sys2Proof.Machine
end

