-- ==== Sys2Proof/Machine/Power.lean ====
section
/-!
DEFINITION. Sys2Proof/Machine/Power.lean: the power domains (17_power_domains.md): latencies, holds, a wake from any
source, the start and the end of an entry to RET or OFF. The rows that ask for them stand in Machine/PowerRows.lean.
-/
namespace Sys2Proof.Machine

/-- ON→RET entry, RET→ON and OFF→ON latency of domain `d` in ns (R426). -/
def domLatencies (d : Nat) : Nat × Nat × Nat :=
  if d < 48 then (3000, 4000, 60000)
  else if d < 116 then (2000, 2000, 30000)
  else if d < 122 then (1000, 40000, 40000)
  else if d < 124 then (1000, 5000, 200000000)
  else if d < 132 then (1000, 2000, 200000)
  else if d = 132 then (1000, 1000, 10000)
  else if d = 133 then (1000, 2000, 20000)
  else (1000, 1000, 10000)

/-- Retained banks of domain `d` (R426). -/
def domBanks (d : Nat) : Nat :=
  if d < 48 then 33 else if d < 116 then 24 else if d = 122 ∨ d = 123 then 8 else 0

/-- The cause bit of EV208 and EV209 for domain `d` (R446). -/
def domKind (d : Nat) : Nat := if d < 48 then 1 else if d < 116 then 2 else if d = 122 ∨ d = 123 then 4 else 8

/-- Hold bits of PWR.DOM[d].STAT that are held there (R432, R447). -/
def holdCopy : Nat := 30
def holdFront : Nat := 26
def holdStage : Nat := 25
def holdPrewake : Nat := 24

/-- A hold of domain `d` set or released. -/
def State.setHold (s : State) (d hold : Nat) (on : Bool) : State := s.setB (Reg.PWR_DOM_STAT d) hold on

/-- The sector with which the instruction of an engine has a bay-port transfer in progress. -/
def LEng.baySector (c : LEng) : Option Nat :=
  match c.stall with
  | some (.bayRead _ _ sec) => some sec
  | some (.bayWrite _ sec _) => some sec
  | _ => none

/-- A handshake transfer of domain `d` is in progress (R432): a bay-port transfer of the sector or of the engine. -/
def State.transfers (s : State) (d : Nat) : Bool :=
  (List.range 64).any (fun e =>
    match (s.leng e).baySector with
    | some i => i == d || (s.physOf e).map domEngine == some d
    | none => false)

/-- A user NV program or erase is pending: in progress, suspended, or waiting at its arbiter (R349, R432). -/
def State.nvPending (s : State) : Bool :=
  let a := tabGet (fun _ => ({} : Arbiter)) s.arb 0
  let w := fun (r : ArbReq) => r.op == 1 || r.op == 2
  s.nv.prog.isSome || s.nv.erase.isSome || a.reqs.any w || a.busy.any w

/-- The holds of domain `d` in the order of HOLD, [31:24] of PWR.DOM[d].STAT (R432): COPY, FRONT, STAGE and PREWAKE are held
there; XFER, PEER, TREE and NVOP follow from the machine. -/
def State.holdBits (s : State) (d : Nat) : Nat :=
  let peer := decide (d = 122 ∨ d = 123) && s.getF (Reg.NET_PORT_STAT (123 - d)) 2 0 != 4
  let lane := s.getF (Reg.NET_SL_STAT (d - 124)) 2 0
  let tree := decide (124 ≤ d ∧ d < 132) && (lane == 3 || lane == 4)
  let nvop := d == domNv && s.nvPending
  s.getF (Reg.PWR_DOM_STAT d) 31 24 ||| (128 * (s.transfers d).toNat + 32 * peer.toNat + 16 * tree.toNat + 8 * nvop.toNat)

/-- Any hold applies to domain `d` (R432). -/
def State.held (s : State) (d : Nat) : Bool := s.holdBits d != 0

/-- The last-wake records of a wake of domain `d` (R444). -/
def State.recordWake (s : State) (d src : Nat) (t : DWord) (cold replay reset : Bool) : State :=
  let w : Nat := 2 ^ 31 + cold.toNat * 2 ^ 30 + replay.toNat * 2 ^ 29 + reset.toNat * 2 ^ 28 + src
  let s := (s.setR (Reg.PWR_DOM_WAKE d) (BitVec.ofNat 32 w)).setD (Reg.PWR_DOM_WAKE_TIME d) t
  (s.setR Reg.PWR_LAST_WAKE (BitVec.ofNat 32 (w + d * 256))).setD Reg.PWR_LAST_WAKE_TIME t

/-- A transition of domain `d` begins: its new STATE and its latency in ns. -/
def State.beginTrans (s : State) (d st lat : Nat) : State :=
  let s := s.setDomX d { s.domX d with since := s.time, latency := lat, origin := s.domState d,
                                       stopped := if s.domOn d then s.time else (s.domX d).stopped }
  s.setF (Reg.PWR_DOM_STAT d) 2 0 st

/-- A wake of a domain in RET or OFF starts (R433, R437, R438). A wake for a copy needs no reload and no check (R441). -/
def State.startWake (s : State) (d src : Nat) (t : DWord) (replay copy : Bool) : State :=
  let l := domLatencies d
  let off := s.domState d == 2
  let cold := off && !copy
  let s := s.recordWake d src t cold replay false
  let s := s.setB (Reg.PWR_DOM_STAT d) 18 false
  let s := s.beginTrans d (if cold then 6 else 5) (if copy then (if off then 10000 else 2000) else if off then l.2.2 else l.2.1)
  s.setDomX d { s.domX d with copyWake := copy, latched := none }

/-- A request kept under R436 is superseded (R436). -/
def State.supersede (s : State) (d : Nat) : State :=
  let s := (s.addF (Reg.PWR_DOM_SUPERSEDED d) 15 0 1).addF Reg.PWR_SUPERSEDED 15 0 1
  (s.setB (Reg.PWR_DOM_STAT d) 19 true).raise 210 1

/-- The request kept for domain `d`, if any. -/
def State.kept (s : State) (d : Nat) : Option Nat :=
  if s.getB (Reg.PWR_DOM_STAT d) 16 then some (s.getF (Reg.PWR_DOM_STAT d) 15 14) else none

/-- The kept request cleared, or a new one kept in its place, which supersedes it. -/
def State.keepReq (s : State) (d : Nat) (r : Option Nat) : State :=
  match r with
  | none => (s.setB (Reg.PWR_DOM_STAT d) 16 false).setF (Reg.PWR_DOM_STAT d) 15 14 0
  | some st =>
    let s := if s.getB (Reg.PWR_DOM_STAT d) 16 then s.supersede d else s
    (s.setB (Reg.PWR_DOM_STAT d) 16 true).setF (Reg.PWR_DOM_STAT d) 15 14 st

/-- A wake request from source `src` made at time `t` (R433, R435): no effect on a domain that is ON or waking, latched
during entry (the kept requests of RET and OFF are then superseded, R436), carried out at once in RET and OFF. -/
def State.wakeAt (s : State) (d src : Nat) (t : DWord) (copy : Bool := false) : State :=
  match s.domState d with
  | 1 => s.startWake d src t false copy
  | 2 => s.startWake d src t false copy
  | 3 | 4 =>
    if (s.domX d).latched.isSome then s
    else
      let s := if s.kept d = some 1 ∨ s.kept d = some 2 then (s.supersede d).keepReq d none else s
      (s.setDomX d { s.domX d with latched := some (src, t), copyWake := copy }).setB (Reg.PWR_DOM_STAT d) 17 true
  | 0 => s.touch d
  | _ => s

/-- A wake request now. -/
def State.wake (s : State) (d src : Nat) (copy : Bool := false) : State := s.wakeAt d src s.time copy

/-- A hold of the STAGE, FRONT or COPY kind begins: it wakes a domain in RET or OFF (R432), without reload or check where `copy` says
that a copy overwrites all that it holds (R441). -/
def State.holdAndWake (s : State) (d hold src : Nat) (copy : Bool := false) : State := (s.wake d src copy).setHold d hold true

/-- The clocks of sector `d` stop, if they ran: its fabric pins keep what they show now (R429). -/
def State.stopSector (s : State) (d : Nat) : State :=
  if d < 48 ∧ s.domOn d = true then
    s.setDomX d { s.domX d with
      pads := ((List.range 1152).filter (fun p => (s.pin p).fabric && (s.pin p).sector == d)).map (fun p => (p, s.fabricPad p)) }
  else s

/-- Entry to RET (`st` 3) or OFF (`st` 4) starts (R430). -/
def State.startEntry (s : State) (d st : Nat) : State :=
  (s.stopSector d).beginTrans d st (if st = 3 then (domLatencies d).1 else 1000)

/-- The canary of bank `k` of domain `d` at entry count `n` (R430): CRC-32 of d, k (2 bytes each) and n (4 bytes). -/
def canary (d k n : Nat) : Word := crc32 (beBytes 2 d ++ beBytes 2 k ++ beBytes 4 n)

/-- The latency L that the power controller reports for domain `d`, in ns (R434). -/
def State.wakeLatency (s : State) (d : Nat) : Nat :=
  let l := domLatencies d
  match s.domState d with
  | 0 => 0
  | 1 => l.2.1
  | 2 => l.2.2
  | 3 => l.1 + l.2.1
  | 4 => 1000 + l.2.2
  | _ =>
    let spent := (tdiff s.time (s.domX d).since).toNat / 64
    (s.domX d).latency - spent

/-- The PREWAKE hold of domain `d` stands while an entry that pre-woke it is pending; its idle timer then restarts
(R82). -/
def State.refreshPrewake (s : State) (d : Nat) : State :=
  if s.act.cal.any (fun e => e.woke == some d) then s else (s.setHold d holdPrewake false).touch d

end Sys2Proof.Machine
end

