-- ==== Sys2Proof/Machine/ArbBase.lean ====
section
/-!
DEFINITION. Sys2Proof/Machine/ArbBase.lean: a request to a shared resource at its acceptance (R336, R153, R361, R419,
R420): the checks of the resource, then those of its arbiter, then its place in the arbiter's queue. The rows of the
arbiters stand in Machine/Arbiters.lean.
-/
namespace Sys2Proof.Machine

/-- Arbiter `r`. -/
def State.arbiter (s : State) (r : Nat) : Arbiter := tabGet (fun _ => {}) s.arb r

/-- The state with arbiter `r` holding `a`. -/
def State.setArb (s : State) (r : Nat) (a : Arbiter) : State := { s with arb := tabPut (fun _ => {}) s.arb r a }

/-- The arbiter cycle that begins now: 128 units of device time each (R414), counted by the wrapped difference (R16); never behind the
cycles of its decisions. -/
def Arbiter.now (a : Arbiter) (t : DWord) : Nat := a.cycle + (tdiff t (a.base + units (128 * a.cycle))).toNat / 128
def State.arbNow (s : State) (r : Nat) : Nat := (s.arbiter r).now s.time

/-- An arbiter takes up its cycles at device time `t` (R16); one that has stood idle for so long that the wrapped difference counts
none goes on from the cycle that it was in. -/
def Arbiter.rebase (a : Arbiter) (t : DWord) : Arbiter :=
  if before t (a.base + units (128 * a.cycle)) && a.reqs.isEmpty && a.busy.isNone && a.locks.isEmpty then
    { a with base := t - units (t.toNat % 128) - units (128 * a.cycle) }
  else { a with cycle := a.now t }

/-- The cycles of the arbiters go on at a device time that has stepped by `d` (R28). -/
def State.arbStep (s : State) (d : DWord) : State :=
  [0, 1, 2, 3, 4].foldl (fun s r => s.setArb r { s.arbiter r with base := (s.arbiter r).base + d }) s

/-- The resource of an operation (R411). -/
def opResource (op : Nat) : Nat := if op < 3 then 0 else if op < 5 then 3 else if op = 5 then 4 else 1

/-- Beats of an operation (R411, R335): code words of a program, 256-byte blocks of a parameter access, reads of at most 256
bytes of the key, else one. -/
def opBeats (op addr len : Nat) : Nat :=
  match op with
  | 1 => max 1 (len / 32)
  | 3 | 4 => max 1 ((addr + len - 1) / 256 + 1 - addr / 256)
  | 6 => max 1 ((len + 255) / 256)
  | _ => 1

/-- Requester number of a holder: logical engine, group of a sector, interpreter, management or self-test controller
(R412). -/
def ArbOwner.requester : ArbOwner → Nat
  | .engine e _ => e
  | .fabric s => 64 + s / 3
  | .host _ => 80
  | .register => 80
  | .management => 81
  | .selfTest => 82

/-- Sector of a holder. -/
def ArbOwner.sector : ArbOwner → Nat
  | .fabric s => s
  | _ => 0

/-- LOCK_MAX, LOCK_GAP in arbiter cycles, and NTH of arbiter `r` (R415, R421, R425). -/
def State.lockMax (s : State) (r : Nat) : Nat := max 1 (min 64 (s.getF (Reg.ARB_R_CTL r) 6 0))
def State.lockGap (s : State) (r : Nat) : Nat := 16 * max 1 (s.getF (Reg.ARB_R_CTL r) 23 16)
def State.nth (s : State) (r : Nat) : Nat := max 2 (min 64 (s.getF (Reg.ARB_R_CTL r) 14 8))

/-- The resource on which requester `q` holds a lock. -/
def State.lockOf (s : State) (q : Nat) : Option Nat :=
  (List.range 5).find? (fun r => (s.arbiter r).locks.any (fun l => l.q == q))

/-- Checks of the user NV controller (R336): 0x41 BAD_ADDR, 0x42 BAD_LEN; a bank holds 8 MiB. -/
def nvCheck (op addr len : Nat) : Nat :=
  let align := if op = 0 then 4 else if op = 1 then 32 else 4096
  if 0x03FFFFFF < addr ∨ addr % align ≠ 0 then 0x41
  else if op = 0 ∧ (len < 4 ∨ 256 < len ∨ len % 4 ≠ 0) then 0x42
  else if op = 1 ∧ (len < 32 ∨ 256 < len ∨ len % 32 ≠ 0) then 0x42
  else if op < 2 ∧ (addr + len - 1) / 2 ^ 23 ≠ addr / 2 ^ 23 then 0x42
  else 0

/-- Checks of the parameter store (R153): a 4 MiB store. -/
def prmCheck (addr len : Nat) : Nat :=
  if addr % 4 ≠ 0 ∨ 0x3FFFFF < addr then 0x41
  else if len = 0 ∨ len % 4 ≠ 0 ∨ 0x400000 < addr + len then 0x42
  else 0

/-- Checks of the trunk transmit queues (R361). -/
def txCheck (len : Nat) : Nat := if len < 60 ∨ 1518 < len then 0x61 else 0

/-- Logical engine `e` is fetching from bank `b` of the user NV (R117): its far-code cache holds a line of it, or a far
routine of it is executing. -/
def State.fetchesBank (s : State) (e b : Nat) : Bool :=
  let c := s.leng e
  c.far.any (fun l => l.line / 2 ^ 17 == b) || (c.inFar && c.farBank == b)

/-- The checks of a resource on a request (R336, R343, R153, R361). -/
def State.resourceCheck (s : State) (op addr len : Nat) (o : ArbOwner) : Nat :=
  if op < 3 then
    if nvCheck op addr len ≠ 0 then nvCheck op addr len
    else match o with
      | .engine e _ => if op ≠ 0 && s.fetchesBank e (addr / 2 ^ 23) then 0x40 else 0
      | _ => 0
  else if op < 5 then prmCheck addr len
  else if op = 5 then txCheck len
  else 0

/-- The refusals of the arbiter (R420): 1 LOCK_NEST, 2 LOCK_LEN, 3 LOCKED. -/
def State.arbCheck (s : State) (r q lock : Nat) : Nat :=
  if lock ≠ 0 ∧ (s.lockOf q).isSome = true then 1
  else if s.lockMax r < lock then 2
  else match s.lockOf q with
    | some h => if h ≠ r && (s.arbiter r).locks.any (fun l => l.q != q) then 3 else 0
    | none => 0

/-- A request at its acceptance: refused with a code, or queued at its arbiter with its lock held from now on (R419,
R420), which wakes the domain of the user NV controller or of the key port (R433). An XIP_CONFLICT
sets its cause bit of EV180, a bad address or length that of EV179 (R343, R351). -/
def State.submit (s : State) (op addr len : Nat) (data : List Byte) (lock : Nat) (o : ArbOwner) : State × Nat :=
  let r := opResource op
  let q := o.requester
  let c := s.resourceCheck op addr len o
  if c ≠ 0 then ((if c = 0x40 then s.raise 180 (if op = 1 then 1 else 2) else if op < 3 then s.raise 179 4 else s), c)
  else
    let a := s.arbCheck r q lock
    if a ≠ 0 then
      ((s.setR Reg.ARB_ERR (BitVec.ofNat 32 (a <<< 24 + (s.getF Reg.ARB_ERR 23 23) <<< 23 + q <<< 16 + r))).raise 234 (2 ^ r), a)
    else
      let s := s.setArb r ((s.arbiter r).rebase s.time)
      let x := s.arbiter r
      let req : ArbReq := { q := q, sector := o.sector, op := op, addr := addr, len := len, data := data,
                            beats := opBeats op addr len, lock := lock, first := s.arbNow r, owner := o }
      let locks := if lock = 0 then x.locks else x.locks ++ [{ q := q, sector := o.sector, left := lock, inForce := false, last := s.arbNow r }]
      let s := s.setArb r { x with reqs := x.reqs ++ [req], locks := locks }
      (if r = 0 then s.wake domNv 1 else if r = 1 then s.wake domKey 1 else s, 0)

end Sys2Proof.Machine
end

