-- ==== Sys2Proof/Machine/Sha256.lean ====
section
/-!
DEFINITION. Sys2Proof/Machine/Sha256.lean: SHA-256 and HMAC-SHA-256 (FIPS 180-4, FIPS 198-1), which the session keys, the
packet tags (R384) and the image digest (R249) use.
-/
namespace Sys2Proof.Machine

/-- The first 64 primes. -/
def shaPrimes : List Nat :=
  [2, 3, 5, 7, 11, 13, 17, 19, 23, 29, 31, 37, 41, 43, 47, 53, 59, 61, 67, 71, 73, 79, 83, 89, 97, 101, 103, 107, 109, 113, 127, 131] ++
    [137, 139, 149, 151, 157, 163, 167, 173, 179, 181, 191, 193, 197, 199, 211, 223, 227, 229, 233, 239, 241, 251, 257, 263, 269, 271,
      277, 281, 283, 293, 307, 311]

/-- The largest number of at most `bits` further bits beside `r` whose `k`-th power is at most `n`. -/
def rootUpTo (k n : Nat) : Nat → Nat → Nat
  | 0, r => r
  | bits + 1, r => rootUpTo k n bits (if (r + 2 ^ bits) ^ k ≤ n then r + 2 ^ bits else r)

/-- The first 32 bits of the fractional part of the `k`-th root of `p`. -/
def rootFraction (k p : Nat) : Word := BitVec.ofNat 32 (rootUpTo k (p * 2 ^ (32 * k)) 36 0)

/-- The working variables, and the sixteen words of the schedule that the next rounds use, the next one first. -/
structure ShaWork where
  a : Word
  b : Word
  c : Word
  d : Word
  e : Word
  f : Word
  g : Word
  h : Word
  w : List Word
deriving DecidableEq, Repr

/-- Two rotations of a word and a third word, added bit by bit. -/
def sigma (x : Word) (m n : Nat) (third : Word) : Word := x.rotateRight m ^^^ x.rotateRight n ^^^ third

/-- One round with the constant that the cube root of prime `p` gives; the schedule moves on by one word. -/
def ShaWork.round (v : ShaWork) (p : Nat) : ShaWork :=
  let w := fun i => v.w.getD i 0
  let big := v.h + sigma v.e 6 11 (v.e.rotateRight 25) + ((v.e &&& v.f) ||| (~~~v.e &&& v.g)) + rootFraction 3 p + w 0
  let top := big + sigma v.a 2 13 (v.a.rotateRight 22) + ((v.a &&& (v.b ||| v.c)) ||| (v.b &&& v.c))
  let word := w 0 + sigma (w 1) 7 18 (w 1 >>> 3) + w 9 + sigma (w 14) 17 19 (w 14 >>> 10)
  { a := top, b := v.a, c := v.b, d := v.c, e := v.d + big, f := v.e, g := v.f, h := v.g, w := v.w.tail ++ [word] }

/-- The initial hash value: the square roots of the first eight primes. -/
def shaInit : List Word := (shaPrimes.take 8).map (rootFraction 2)

/-- The hash value after one block of sixteen words. -/
def shaBlock (h : List Word) (blk : List Word) : List Word :=
  let x := fun i => h.getD i 0
  let v := shaPrimes.foldl ShaWork.round
    { a := x 0, b := x 1, c := x 2, d := x 3, e := x 4, f := x 5, g := x 6, h := x 7, w := blk }
  [x 0 + v.a, x 1 + v.b, x 2 + v.c, x 3 + v.d, x 4 + v.e, x 5 + v.f, x 6 + v.g, x 7 + v.h]

/-- The 32-bit big-endian words of a list of bytes. -/
def beWords : List Byte → List Word
  | a :: b :: c :: d :: r => BitVec.ofNat 32 (beNat [a, b, c, d]) :: beWords r
  | _ => []

/-- `n` blocks of sixteen words hashed. -/
def shaBlocks : Nat → List Word → List Word → List Word
  | 0, h, _ => h
  | n + 1, h, w => shaBlocks n (shaBlock h (w.take 16)) (w.drop 16)

/-- SHA-256: 32 bytes. -/
def sha256 (m : List Byte) : List Byte :=
  let pad := (55 + 64 - m.length % 64) % 64
  let b := m ++ [0x80] ++ List.replicate pad 0 ++ beBytes 8 (8 * m.length)
  (shaBlocks (b.length / 64) shaInit (beWords b)).flatMap (fun w => beBytes 4 w.toNat)

/-- HMAC-SHA-256. -/
def hmacSha256 (key m : List Byte) : List Byte :=
  let k := if 64 < key.length then sha256 key else key
  let k := k ++ List.replicate (64 - k.length) 0
  sha256 (k.map (· ^^^ 0x5C) ++ sha256 (k.map (· ^^^ 0x36) ++ m))

end Sys2Proof.Machine
end

