-- ==== Sys2Proof/Machine/CmdBase.lean ====
section
/-!
DEFINITION. Sys2Proof/Machine/CmdBase.lean: the command interpreter as every chapter's commands see it (15_command_protocol.md):
a command in its turn (R382, R393), its payload, and its replies (R379, R380, R388, R389, R398).
-/
namespace Sys2Proof.Machine

/-! ### Status codes of domain 0x00 (R398) -/

def csOK : Nat := 0x00
def csPENDING : Nat := 0x01
def csBADVERSION : Nat := 0x02
def csBADCLASS : Nat := 0x03
def csBADOPCODE : Nat := 0x04
def csBADLEN : Nat := 0x05
def csBADPARAM : Nat := 0x06
def csBADADDR : Nat := 0x07
def csFLOW : Nat := 0x08
def csAUTH : Nat := 0x09
def csCONFLICT : Nat := 0x0A
def csLEASEHELD : Nat := 0x0B
def csBUSY : Nat := 0x0C
def csTOOLATE : Nat := 0x0D
def csNOTSERVICE : Nat := 0x0E

/-- A status of another domain (R398). -/
def csOf (domain code : Nat) : Nat := domain * 256 + code

/-! ### Commands in flight -/

/-- The command `c` in flight. -/
def State.command (s : State) (c : CmdRef) : Option Command := s.cmd.inflight.find? (fun x => x.ref == c)

/-- The command in flight with `x` in place of the one of the same reference. -/
def State.setCommand (s : State) (x : Command) : State :=
  { s with cmd := { s.cmd with inflight := s.cmd.inflight.map (fun y => if y.ref = x.ref then x else y) } }

/-- Command `c` of the class and opcode, if its turn has come (R382): the first that waits of the commands that are not
RUN-class, or the first of the RUN-class commands that RUN_COMMAND_START has started. -/
def State.turn (s : State) (c : CmdRef) (cls op : Nat) : Option Command :=
  match s.command c with
  | some x =>
    if x.cls = cls ∧ x.op = op ∧
        (x.stage = .queued ∨ x.stage = .started) ∧
        (s.cmd.inflight.find? (fun y => decide (y.stage = x.stage))).map (·.ref) = some c then some x else none
  | none => none

/-- The session of a command, where it has one. -/
def State.session (s : State) (k : Nat) : Session := tabGet (fun _ => {}) s.cmd.sessions k

/-- The state with session `k` holding `x`. -/
def State.setSession (s : State) (k : Nat) (x : Session) : State :=
  { s with cmd := { s.cmd with sessions := tabPut (fun _ => {}) s.cmd.sessions k x } }

/-! ### Replies -/

/-- A packet with its header and tag (R379, R384, R406). `key`: the session key; none: a sessionless packet, whose tag is
16 zero bytes (R383). -/
def packetBytes (v2 : Bool) (typ session seq cls op status : Nat) (final : Bool) (time : DWord) (payload : List Byte)
    (key : Option (List Byte)) : List Byte :=
  let head :=
    if v2 then
      beBytes 1 2 ++ beBytes 1 typ ++ beBytes 1 session ++ beBytes 1 final.toNat ++ beBytes 2 seq ++ beBytes 1 cls ++
        beBytes 1 op ++ beBytes 2 status ++ beBytes 2 payload.length ++ beBytes 4 0
    else
      beBytes 1 3 ++ beBytes 1 typ ++ beBytes 1 session ++ beBytes 1 final.toNat ++ beBytes 4 seq ++ beBytes 1 cls ++
        beBytes 1 op ++ beBytes 2 status ++ beBytes 2 payload.length ++ beBytes 2 0 ++ beBytes 8 time.toNat
  let tag := match key with
    | some k => (hmacSha256 k (head ++ payload)).take 16
    | none => List.replicate 16 0
  head ++ payload ++ tag

/-- The oldest EVENT of the service queue dropped. -/
def dropEvent : List OutPacket → List OutPacket
  | [] => []
  | p :: l => if p.isEvent then l else p :: dropEvent l

/-- A packet sent to its interface (R380, R381): the service port's queue of 16, whose oldest EVENT gives way; or a frame
on both trunk ports when it matches a transmit stream, and otherwise on the port of the session. -/
def State.sendPacket (s : State) (p : OutPacket) : State :=
  if p.iface = 2 then
    let q := if 16 ≤ s.cmd.svcQueue.length then dropEvent s.cmd.svcQueue else s.cmd.svcQueue
    let q := if p.isEvent && decide (16 ≤ q.length) then q else q ++ [p]
    { s with cmd := { s.cmd with svcQueue := q } }
  else
    let f := s.ownFrame p.mac p.vid (s.getF Reg.CMD_CTL 15 13) 0x88B5 p.bytes
    (s.transmit [p.iface] true (fun q => s.queueOf q f) f).1

/-- The final replies kept with one more (R388): those of the accepted SEQs that R387 still answers. -/
def Session.keep (x : Session) (seq : Nat) (b : List Byte) : List (Nat × List Byte) :=
  (x.finals ++ [(seq, b)]).filter (fun p => x.seen.contains p.1)

/-- The packet of a reply of command `x` (R379, R383, R384). -/
def State.replyPacket (s : State) (x : Command) (status : Nat) (final : Bool) (payload : List Byte) : List Byte :=
  match x.ref.session with
  | some k => packetBytes x.v2 2 k.val x.ref.seq x.cls x.op status final x.stamp payload (some (s.session k.val).skey)
  | none => packetBytes x.v2 2 255 x.ref.seq x.cls x.op status final x.stamp payload none

/-- A reply of command `x` sent (R389): a final one is kept for R387; a command of a closed session sends nothing (R390). -/
def State.sendReply (s : State) (x : Command) (status : Nat) (final : Bool) (payload : List Byte) : State :=
  if x.mute then s
  else
    let b := s.replyPacket x status final payload
    let s := match x.ref.session, final with
      | some k, true => s.setSession k.val { s.session k.val with finals := (s.session k.val).keep x.ref.seq b }
      | _, _ => s
    s.sendPacket ⟨b, x.iface, x.mac, x.vid, false⟩

/-- The command is no longer in flight. -/
def State.dropCommand (s : State) (c : CmdRef) : State :=
  { s with cmd := { s.cmd with inflight := s.cmd.inflight.filter (fun y => y.ref != c) } }

/-- A reply of command `x` (R389): interim (FINAL 0) or final; a final reply ends the command. -/
def State.replyTo (s : State) (x : Command) (status : Nat) (final : Bool) (payload : List Byte) : State :=
  (if final then s.dropCommand x.ref else s).sendReply x status final payload

/-- The final reply of command `c`; nothing where it is no longer in flight. -/
def State.finish (s : State) (c : CmdRef) (status : Nat) (payload : List Byte) : State :=
  match s.command c with
  | some x => s.replyTo x status true payload
  | none => s

/-- The final reply of the command that waits, where there is one. -/
def State.finishOpt (s : State) (c : Option CmdRef) (status : Nat) (payload : List Byte) : State :=
  match c with
  | some c => s.finish c status payload
  | none => s

/-- An L command answers PENDING and works on (R389). -/
def State.pendingReply (s : State) (x : Command) : State := (s.replyTo x csPENDING false []).setCommand { x with stage := .working }

/-- A command waits for its reply to come about elsewhere. -/
def State.awaitReply (s : State) (x : Command) : State := s.setCommand { x with stage := .awaiting }

/-- The device is in SERVICE (R244). -/
def State.inServiceMode (s : State) : Bool := s.getF Reg.DEV_START_STAT 4 2 == 6

end Sys2Proof.Machine
end

