-- ==== Sys2Proof/Machine/LinkBase.lean ====
section
/-!
DEFINITION. Sys2Proof/Machine/LinkBase.lean: the sync domain as every chapter sees it (R368–R373): this station, the
route to another station, a message sent on a lane, and the time tree (R369).
The rows of the links stand in Machine/Links.lean.
-/
namespace Sys2Proof.Machine

/-- This device's station ID (R295). -/
def State.station (s : State) : Nat := s.getF Reg.DEV_STARTUP 11 8

/-- This device is the time master of the sync domain (R369). -/
def State.isMaster (s : State) : Bool := s.getB Reg.CLK_TB_CTL 4

/-- STATE of lane `l` (R378): 0 OFF, 1 DOWN, 2 TRAINING, 3 UPSTREAM, 4 DOWNSTREAM, 5 STANDBY, 6 ISOLATED. -/
def State.laneState (s : State) (l : Nat) : Nat := s.getF (Reg.NET_SL_STAT l) 2 0

/-- Lane `l` carries messages of the time tree (R369). -/
def State.treeLane (s : State) (l : Nat) : Bool := s.laneState l == 3 || s.laneState l == 4

/-- Lane `l` beside its registers. -/
def State.lane (s : State) (l : Nat) : Lane := tabGet (fun _ => {}) s.net.lanes l

/-- The state with lane `l` holding `x`. -/
def State.setLane (s : State) (l : Nat) (x : Lane) : State :=
  { s with net := { s.net with lanes := tabPut (fun _ => {}) s.net.lanes l x } }

/-- STATIONS of the sync domain (R368); this station belongs to it. -/
def State.stations (s : State) : Nat := s.getF Reg.NET_SL_DOMAIN 15 0 ||| 2 ^ s.station

/-- The lane of the route to station `d`: a tree lane that the HELLOs reach it by, else any lane that they reached it
by, which is then not up (R373, R80). -/
def State.routeLane (s : State) (d : Nat) : Option Nat :=
  let via := (List.range 8).filter (fun l => (s.lane l).reach.testBit d)
  match via.find? (fun l => s.treeLane l) with
  | some l => some l
  | none => via.head?

/-- The tree lanes. -/
def State.treeLanes (s : State) : List Nat := (List.range 8).filter (fun l => s.treeLane l)

/-- A message of this station with the next SEQ of its type (R370). -/
def State.newMsg (s : State) (typ dst spec : Nat) (payload : List DWord) : State × LinkMsg :=
  let n := tabGet (fun _ => 0) s.net.slSeq typ
  ({ s with net := { s.net with slSeq := tabPut (fun _ => 0) s.net.slSeq typ ((n + 1) % 65536) } },
   { typ := typ, src := s.station, dst := dst, seq := n, spec := spec, payload := payload })

/-- A message sent on lane `l`. -/
def State.sendMsg (s : State) (l : Nat) (m : LinkMsg) : State :=
  { s with net := { s.net with slSent := s.net.slSent ++ [(l, m)] } }

/-- A message sent on every tree lane but `from_` (R369, flooding). -/
def State.flood (s : State) (from_ : Option Nat) (m : LinkMsg) : State :=
  (s.treeLanes.filter (fun l => some l != from_)).foldl (fun s l => s.sendMsg l m) s

/-! ### The time tree (R368, R369) -/

/-- The lanes that are up. -/
def State.upLanes (s : State) : List Nat := (List.range 8).filter (fun l => (s.lane l).up)

/-- Station ID of the neighbour of lane `l`. -/
def State.neighbour (s : State) (l : Nat) : Nat := s.getF (Reg.NET_SL_STAT l) 7 4

/-- Order of lane `l` as an upstream lane: the master of the lower station ID (R372), the hop count, the neighbour's station
ID, the lane (R369). -/
def State.laneRank (s : State) (l : Nat) : Nat :=
  (((s.lane l).master.getD 15 * 8 + (s.lane l).hops) * 16 + s.neighbour l) * 8 + l

/-- The lane of lowest rank. -/
def State.bestLane (s : State) : List Nat → Option Nat
  | [] => none
  | l :: r =>
    match s.bestLane r with
    | some k => if s.laneRank k < s.laneRank l then some k else some l
    | none => some l

/-- The upstream lane that a station which is not the master chooses: of the up lanes whose neighbour knows a master and has not
itself chosen the lane (R369). -/
def State.upChoice (s : State) : Option Nat :=
  if s.isMaster then none
  else s.bestLane (s.upLanes.filter (fun l =>
    s.getB (Reg.NET_SL_STAT l) 3 && (s.lane l).master.isSome && !(s.lane l).chosen))

/-- The upstream lane in force. -/
def State.upLane (s : State) : Option Nat :=
  if s.getF Reg.NET_SL_DOMAIN 26 24 = 0 then none else some (s.getF Reg.NET_SL_DOMAIN 31 28)

/-- Stations that the HELLOs of the up lanes but `out` reach, this one included. -/
def State.heardStations (s : State) (out : Option Nat) : Nat :=
  (s.upLanes.filter (fun l => some l != out)).foldl (fun m l => m ||| (s.lane l).reach) (2 ^ s.station)

/-- The HELLO sent on lane `l` (R368, R370): what NET_SL_DOMAIN holds of the master, whether this station has chosen the lane,
and the stations it reaches by its other lanes. -/
def State.sendHello (s : State) (l : Nat) : State :=
  let w := s.getR Reg.NET_SL_DOMAIN
  let r := s.newMsg 4 0 0 [BitVec.ofNat 64
    (fld w 23 20 + fld w 19 19 * 16 + fld w 26 24 * 32 + (s.upLane == some l).toNat * 256 + s.heardStations (some l) * 65536)]
  r.1.sendMsg l r.2

/-- A DELAY exchange starts on lane `l` (R372). -/
def State.askDelay (s : State) (l : Nat) : State :=
  let r := s.newMsg 2 0 0 []
  (r.1.setLane l { r.1.lane l with reqAt := some s.time }).sendMsg l r.2

/-- STATE of an up lane (R369, R378), for upstream lane `c`. A lane that becomes a tree lane is woken (R57, R376) and measured
(R372). -/
def State.placeLane (c : Option Nat) (s : State) (l : Nat) : State :=
  let st := if some l = c then 3 else if (s.lane l).chosen then 4 else 5
  let was := s.treeLane l
  let s := s.setF (Reg.NET_SL_STAT l) 2 0 st
  if st ≠ 5 ∧ !was then (s.wake (domLane l) 1).askDelay l else s

/-- NET_SL_DOMAIN from the master known, the upstream lane `c` and the STATIONS. -/
def State.domainWord (s : State) (c : Option Nat) (stations : Nat) : Word :=
  let m := if s.isMaster then some s.station
    else match c with
      | some l => (s.lane l).master
      | none => none
  let hops := match c with
    | some l => min 7 ((s.lane l).hops + 1)
    | none => 0
  BitVec.ofNat 32 (c.getD 0 * 2 ^ 28 + hops * 2 ^ 24 + m.getD 0 * 2 ^ 20 + m.isSome.toNat * 2 ^ 19 + stations)

/-- The time tree after a change at a lane (R368, R369): the upstream lane is chosen, every up lane is placed, EV158 shows what
changed, and the neighbours hear of it. STATIONS follows the HELLOs (`heard`); the loss of a lane alone leaves it. -/
def State.updateTree (s : State) (heard : Bool) : State :=
  let c := s.upChoice
  let stations := if heard then s.heardStations none else s.stations
  let w := s.domainWord c stations
  let bits := (decide (stations ≠ s.stations)).toNat + 2 * (c != s.upLane).toNat + 4 * (decide (3 < fld w 26 24)).toNat
  let news := decide (w ≠ s.getR Reg.NET_SL_DOMAIN)
  let s := (s.setR Reg.NET_SL_DOMAIN w).raise 158 bits
  let s := s.upLanes.foldl (State.placeLane c) s
  if news then s.upLanes.foldl State.sendHello s else s

end Sys2Proof.Machine
end

