-- ==== Sys2Proof/Machine/Mailbox.lean ====
section
/-!
DEFINITION. Sys2Proof/Machine/Mailbox.lean: a write to a mailbox of a logical engine, from whatever writer (R111, R112).
-/
namespace Sys2Proof.Machine

/-! Status codes of engine instructions (R134). -/

def stOK : Nat := 0
def stTIMEOUT : Nat := 1
def stFULL : Nat := 2
def stEMPTY : Nat := 3
def stPAST : Nat := 4
def stBEYOND : Nat := 5
def stNOPORT : Nat := 6
def stBADPARAM : Nat := 7

/-- A write applied to mailbox `m` of logical engine `e`, held by physical engine `n` (R112): FULL and mode 1 refuse it,
and any write to a FULL mailbox sets OVR and MBOX_OVR. Answers the writer's status. -/
def State.mailCommit (s : State) (n e m : Nat) (v : DWord) : State × Nat :=
  let full := s.getB (Reg.ENG_MBOX_STAT n) m
  let refuse := full && s.getB (Reg.ENG_MBOX_CFG n) m
  let s := if full then (s.setB (Reg.ENG_MBOX_STAT n) (16 + m) true).raise e 0x200 else s
  if refuse then (s, stFULL)
  else
    ((s.setB (Reg.ENG_MBOX_STAT n) m true).setLeng e
      { s.leng e with mbox := tabPut (fun _ => 0) (s.leng e).mbox m v }, stOK)

/-- Place of a writer in the order of the writes of one engine clock (R112): host, capture ring, fabric by group, engines. -/
def MailFrom.place : MailFrom → Nat
  | .host _ => 0
  | .ring => 1
  | .fabric i => 2 + i / 3
  | .engine e _ => 18 + e

/-- A held write at its place: all held writes of a mailbox cross in the engine clock in which the wake has completed, in the
order of R112. -/
def holdMail : List HeldMail → HeldMail → List HeldMail
  | [], h => [h]
  | x :: l, h => if h.from_.place < x.from_.place then h :: x :: l else x :: holdMail l h

/-- A mailbox write (R111, R112): on a domain that is not ON it wakes the domain and is held until the wake has
completed, and only then has a status. -/
def State.mailWrite (s : State) (e m : Nat) (v : DWord) (from_ : MailFrom) : State × Option Nat :=
  match s.physOf e with
  | none => (s, none)
  | some n =>
    if s.domOn (domEngine n) then
      let r := (s.touch (domEngine n)).mailCommit n e m v
      (r.1, some r.2)
    else
      let s := s.wake (domEngine n) 1
      (s.setLeng e { s.leng e with heldMail := holdMail (s.leng e).heldMail ⟨m, v, from_⟩ }, none)

end Sys2Proof.Machine
end

