-- ==== Sys2Proof/Machine/SchedBase.lean ====
section
/-!
DEFINITION. Sys2Proof/Machine/SchedBase.lean: the timed action scheduler below its rows (03_timed_actions.md): the action
record, the port FIFOs, the check and the insertion of a record, cancellation, delivery to a target, late actions,
launch cells and capture rings.
-/
namespace Sys2Proof.Machine

/-! ### The action record (R46, R78) -/

/-- The fields of a 128-bit record. -/
def decodeRec (w : QWord) : ActRec :=
  let n := w.toNat
  let due : DWord := BitVec.ofNat 64 (n >>> 64)
  let kind := nbits n 63 60
  if kind = 8 then
    let t := nbits n 35 32
    { due := due, kind := 8, inner := nbits n 47 44, tgt := nbits n 59 48, op := nbits n 43 40,
      tag := if t = 0 then 0 else 0xE0 + t, station := nbits n 39 36, data := BitVec.ofNat 32 n }
  else
    { due := due, kind := kind, inner := kind, tgt := nbits n 59 48, op := nbits n 47 40, tag := nbits n 39 32,
      station := 0, data := BitVec.ofNat 32 n }

/-- The 128-bit record of an action. -/
def encodeRec (a : ActRec) : QWord :=
  BitVec.ofNat 128 (a.due.toNat <<< 64 + a.kind <<< 60 + a.tgt <<< 48 + a.data.toNat +
    (if a.kind = 8 then a.inner <<< 44 + a.op <<< 40 + a.station <<< 36 + (a.tag % 16) <<< 32
     else a.op <<< 40 + a.tag <<< 32))

/-- The inner action of a kind-0x8 record, as the receiver posts it (R79). -/
def innerRec (a : ActRec) : ActRec := { a with kind := a.inner, station := 0 }

/-- Number of targets of a kind (R48); 0 for a kind that has none. -/
def kindTargets (k : Nat) : Nat :=
  match k with
  | 0 | 3 => 1152
  | 1 => 64
  | 2 => 384
  | 4 => 4
  | 5 | 7 => 16
  | 6 => 1
  | _ => 0

/-- The ops of a kind (R48). -/
def opListed (k op : Nat) : Bool :=
  match k with
  | 0 => decide (op ≤ 5)
  | 1 => decide (op ≤ 1)
  | 2 => op == 0
  | 3 => decide (op ≤ 3) || (decide (5 ≤ op) && decide (op ≤ 7))
  | 4 => decide (op ≤ 1)
  | 5 => decide (op ≤ 2)
  | 6 => decide (op ≤ 1)
  | 7 => decide (op ≤ 3)
  | _ => false

/-- DATA is one that the kind and op take (R48, R52 BAD_DATA). -/
def dataOk (k op : Nat) (d : Word) : Bool :=
  match k, op with
  | 0, 4 | 0, 5 => decide (4 ≤ d.toNat)
  | 0, _ => d == 0
  | 1, 1 => d != 0
  | 3, 0 => d == 0
  | 3, 1 | 3, 2 | 3, 3 => fld d 29 8 == 0
  | 3, _ => fld d 29 0 != 0
  | 4, 0 => fld d 31 6 == 0 && !(bitOf d 5 && bitOf d 4)
  | 4, _ => fld d 31 4 == 0
  | 5, _ => d == 0
  | 7, 0 => d == 0
  | _, _ => true

/-! ### Posting (R50–R53) -/

/-- The device has Thawed (R301, R303). -/
def State.thawed (s : State) : Bool := s.getF Reg.DEV_START_STAT 4 2 == 5

/-- Records a port FIFO holds (R50); port 83 takes the configuration controller's own records. -/
def fifoDepth (p : Nat) : Nat := if p < 80 then 8 else if p = 80 then 64 else if p = 82 then 16 else 4096

/-- The FIFO of port `p`. -/
def State.fifo (s : State) (p : Nat) : List PortRec := tabGet (fun _ => []) s.act.fifos p

/-- The state with the FIFO of port `p` holding `l`. -/
def State.setFifo (s : State) (p : Nat) (l : List PortRec) : State :=
  { s with act := { s.act with fifos := tabPut (fun _ => []) s.act.fifos p l } }

/-- Port `p` has room for a record (R51). -/
def State.fifoRoom (s : State) (p : Nat) : Bool := decide ((s.fifo p).length < fifoDepth p)

/-- A record put into the FIFO of port `p`. -/
def State.fifoPush (s : State) (p : Nat) (w : QWord) (o : PostOwner) : State := s.setFifo p (s.fifo p ++ [⟨w, o⟩])

/-- Pending entries of port `p` (R53). -/
def State.used (s : State) (p : Nat) : Nat := (s.act.cal.filter (fun e => e.port == p)).length

/-- The quota of port `p` in force: above 4,088 is taken as 4,088 (R53). -/
def State.quota (s : State) (p : Nat) : Nat := min (s.getF (Reg.ACT_PORT_QUOTA p) 12 0) 4088

/-- The refusals of a record that its encoding gives (R52, R67): 3 BAD_KIND, 4 BAD_TARGET, 5 BAD_OP, 6 BAD_DATA,
7 BAD_TAG; 0 none. -/
def recStatus (p : Nat) (a : ActRec) : Nat :=
  if (9 ≤ a.kind) || (a.kind == 6 && p != 83) || (p == 81 && a.kind == 5) ||
      (a.kind == 8 && (a.inner == 6 || decide (8 ≤ a.inner))) then 3
  else if kindTargets a.inner ≤ a.tgt then 4
  else if !opListed a.inner a.op then 5
  else if !dataOk a.inner a.op a.data then 6
  else if a.kind != 8 && decide (0xE0 ≤ a.tag) && p != 82 && p != 83 then 7
  else 0

/-- The post status of a record (R52): the first reason that applies, in the order of the table. -/
def State.postStatus (s : State) (p : Nat) (a : ActRec) : Nat :=
  if !s.thawed then 9
  else if recStatus p a ≠ 0 then recStatus p a
  else if (2 ^ 62 : Int) < tdiff a.due s.time then 8
  else if s.quota p ≤ s.used p then 2
  else if p != 83 && decide (4088 ≤ (s.act.cal.filter (fun e => e.port != 83)).length) then 1
  else 0

/-- The bit of EV115 of port `p` (R85). -/
def quotaBit (p : Nat) : Nat := if p < 64 then 1 else if p < 80 then 2 else if p = 80 then 4 else if p = 81 then 8 else 16

/-- A refusal recorded: EV114 or EV115, ACT_ERR and the port's count (R52). -/
def State.noteRefused (s : State) (p : Nat) (a : ActRec) (st : Nat) : State :=
  let s := (s.setR Reg.ACT_ERR (BitVec.ofNat 32 (p <<< 24 + st <<< 20 + a.kind <<< 16 + a.tgt))).addF (Reg.ACT_PORT_STAT p) 15 0 1
  if st = 2 then s.raise 115 (quotaBit p) else s.raise 114 (2 ^ st)

/-- The calendar with `e` at its place: ascending DUE, then acceptance (R55). -/
def calInsert : List CalEntry → CalEntry → List CalEntry
  | [], e => [e]
  | x :: l, e => if before e.act.due x.act.due then e :: x :: l else x :: calInsert l e

/-- The post status goes back to its poster (R51, R69, R80, R210, R401). -/
def State.returnStatus (s : State) (o : PostOwner) (st : Nat) : State :=
  match o with
  | .engine e k => s.setLeng e { s.leng e with ret := (s.leng e).ret ++ [(k, BitVec.ofNat 64 st)] }
  | .fabric i => { s with act := { s.act with fabStatus := s.act.fabStatus ++ [(i, st)] } }
  | .host c i =>
    { s with cmd := { s.cmd with inflight := s.cmd.inflight.map (fun x =>
        if x.ref = c then { x with partial_ := x.partial_ ++ [(i, st)] } else x) } }
  | .table t _ => if st = 0 then s else (s.incR (Reg.ACT_CT_MISS t)).raise 120 (2 ^ t)
  | .remote st0 => if st ≠ 0 ∧ st0 = s.station then s.raise 121 4 else s
  | .config => s

/-! ### Pre-wake (R81, R82) -/

/-- LEAD in units: 16 to 256 ns (R54). -/
def State.lead (s : State) : Nat := 64 * max 16 (min 256 (s.getF Reg.ACT_CTL 24 16))

/-- RMT_LEAD in units: 1 to 64 us (R79). -/
def State.rmtLead (s : State) : Nat := unitsPerUs * max 1 (min 64 (s.getF Reg.ACT_RMT_LEAD 6 0))

/-- The lead of an action: RMT_LEAD for kind 0x8. -/
def State.leadOf (s : State) (a : ActRec) : Nat := if a.kind = 8 then s.rmtLead else s.lead

/-- The domain that an action wakes (R81). -/
def State.actDomain (s : State) (a : ActRec) : Option Nat :=
  match a.kind with
  | 1 => (s.physOf a.tgt).map domEngine
  | 2 => some (domSector (a.tgt / 8))
  | 4 => some domAdc
  | 8 => if a.station = s.station then none else (s.routeLane a.station).map domLane
  | _ => none

/-- The pre-wake request of an entry is due (R81): its domain, when PREWAKE is set, none has been sent for it, and
DUE − LEAD − L − 1 us with the latency now reported has been reached. -/
def State.prewakeDue (s : State) (e : CalEntry) : Option Nat :=
  match s.actDomain e.act with
  | none => none
  | some d =>
    if s.getB Reg.ACT_CTL 0 && e.woke.isNone &&
      decide (tdiff e.act.due s.time ≤ (s.leadOf e.act + 64 * s.wakeLatency d + unitsPerUs : Nat)) then some d else none

/-- The pre-wake request of the calendar entry with acceptance number `k`: the domain wakes and is held for it (R82). -/
def State.sendPrewake (s : State) (k d : Nat) : State :=
  let s := (s.wake d 2).setHold d holdPrewake true
  { s with act := { s.act with cal := s.act.cal.map (fun e => if e.seq = k then { e with woke := some d } else e) } }

/-- A record accepted into the calendar (R53, R82, R473): its port's count, the highest pending count, the abort of an
idle-window slice of its target, and the pre-wake request of an entry posted later than its wake time. -/
def State.accept (s : State) (p : Nat) (a : ActRec) (o : PostOwner) : State :=
  let e : CalEntry := { act := a, port := p, seq := s.act.nextSeq, owner := o }
  let s := { s with act := { s.act with cal := calInsert s.act.cal e, nextSeq := s.act.nextSeq + 1 } }
  let s := s.setF Reg.ACT_PEND_HIGH 12 0 (max (s.getF Reg.ACT_PEND_HIGH 12 0) s.act.cal.length)
  let s := match a.kind with
    | 0 | 3 => s.abortIdle 4 a.tgt
    | 4 => s.abortIdle 3 a.tgt
    | _ => s
  match s.prewakeDue e with
  | some d => s.sendPrewake e.seq d
  | none => s

/-- The record at the head of a FIFO checked and inserted or refused (R52). Answers the status. -/
def State.takeRecord (s : State) (p : Nat) (r : PortRec) : State × Nat :=
  let a := decodeRec r.word
  let st := s.postStatus p a
  ((if st = 0 then s.accept p a r.owner else s.noteRefused p a st).returnStatus r.owner st, st)

/-! ### Withdrawal and cancellation (R63–R65) -/

/-- The entries that `out` selects leave the calendar; domains held for them alone are released (R82). -/
def State.withdraw (s : State) (out : CalEntry → Bool) : State :=
  let gone := s.act.cal.filter out
  let s := { s with act := { s.act with cal := s.act.cal.filter (fun e => !out e) } }
  (gone.filterMap (fun e => e.woke)).foldl (fun s d => s.refreshPrewake d) s

/-- A calendar entry matches a cancel: a non-zero tag under the mask, the kind, the port; no Front entry (R63, R65). -/
def cancelMatch (tag mask kind port : Nat) (kindAny portAny : Bool) (e : CalEntry) : Bool :=
  e.act.kind != 6 && e.act.tag != 0 && (e.act.tag &&& mask) == (tag &&& mask) &&
  (kindAny || e.act.kind == kind) && (portAny || e.port == port)

/-- A cancel in one tick: the state, and the number of entries removed (R63). -/
def State.cancel (s : State) (tag mask kind port : Nat) (kindAny portAny : Bool) : State × Nat :=
  let m := cancelMatch tag mask kind port kindAny portAny
  (s.withdraw m, (s.act.cal.filter m).length)

/-! ### Pins and launch cells (R58–R60) -/

/-- The PWM output that owns the launch cell of pin `p` (R60, R180): logical engine and output. -/
def State.pwmOwner (s : State) (p : Nat) : Option (Nat × Nat) :=
  match (s.pin p).axis with
  | some (e, k) => if k < 6 then some (e, k) else none
  | none => none

/-- The launch cell of pin `p`. -/
def State.cell (s : State) (p : Nat) : LaunchCell := tabGet (fun _ => {}) s.act.launch p

/-- The state with the launch cell of pin `p` holding `c`. -/
def State.setCell (s : State) (p : Nat) (c : LaunchCell) : State :=
  { s with act := { s.act with launch := tabPut (fun _ => {}) s.act.launch p c } }

/-- A launch queue with `e` at its place: due order, then arrival (R59). -/
def launchInsert : List LaunchEntry → LaunchEntry → List LaunchEntry
  | [], e => [e]
  | x :: l, e => if before e.due x.due then e :: x :: l else x :: launchInsert l e

/-- The first queued entry whose leading edge is not yet placed. -/
def LaunchCell.next (c : LaunchCell) : Option LaunchEntry := c.queue.find? (fun e => e.lead.isNone)

/-- The instant of the trailing edge of a pulse under way. -/
def LaunchEntry.trail (e : LaunchEntry) : Option DWord := e.lead.map (fun t => t + units (e.width - e.width % 4))

/-- The earliest trailing edge of a list of entries. -/
def firstTrail : List LaunchEntry → Option LaunchEntry
  | [] => none
  | e :: l =>
    match e.trail, firstTrail l with
    | none, r => r
    | some _, none => some e
    | some t, some r => if (match r.trail with
                            | some u => before u t
                            | none => false) then some r else some e

/-- Instant `t` falls in the tick that begins now, or before it: an effect at `t` may come about. -/
def State.reached (s : State) (t : DWord) : Bool := decide (tdiff t s.time < (unitsPerTick : Nat))

/-- Of the events of a cell, its next leading edge comes first: no trailing edge falls at or before it. -/
def LaunchCell.leadFirst (c : LaunchCell) (e : LaunchEntry) : Bool :=
  match firstTrail c.queue with
  | some x => (match x.trail with
               | some t => before e.due t
               | none => true)
  | none => true

/-- A cell after the leading edge of its entry `e` (R48, R59): a pulse keeps its entry until its trailing edge. -/
def LaunchCell.launch (c : LaunchCell) (e : LaunchEntry) : LaunchCell :=
  match e.op with
  | 0 => { queue := c.queue.erase e, out := false, drive := true }
  | 1 => { queue := c.queue.erase e, out := true, drive := true }
  | 2 => { queue := c.queue.erase e, out := !c.out, drive := true }
  | 3 => { c with queue := c.queue.erase e, drive := false }
  | op => { queue := c.queue.replace e { e with lead := some e.due }, out := op == 4, drive := true }

/-! ### Delivery and late actions (R54–R62, R79, R83) -/

/-- A delivered action's instant of effect: DUE, or its arrival where DUE has then passed (R62). -/
def Delivered.instant (d : Delivered) : DWord := laterOf d.act.due d.at_

/-- Why a held entry is held, as the bit of EV122 (R83), or none. -/
def lateWakeBit (k : Nat) : Nat := if k = 2 then 1 else if k = 1 then 2 else if k = 4 then 4 else if k = 8 then 8 else 0

/-- The route of a remote action (R57, R80): `none` where it can be sent or posted; `some 0` lane down, `some 1` not in
the domain. -/
def State.remoteFails (s : State) (st : Nat) : Option Nat :=
  if st = s.station then none
  else if !s.stations.testBit st then some 1
  else match s.routeLane st with
    | some l => if s.treeLane l then none else some 0
    | none => some 0

/-- The target of an eligible entry can take it (R57, R83, R473). DESIGN CHOICE (log entry 214): a remote action to this station waits
while the FIFO of port 82 is full (R50, R79). -/
def State.targetReady (s : State) (a : ActRec) : Bool :=
  match a.kind with
  | 0 => (s.pwmOwner a.tgt).isSome || (decide ((s.cell a.tgt).queue.length < 4) && !s.underTest 4 a.tgt)
  | 3 => !s.underTest 4 a.tgt
  | 4 => s.domOn domAdc && !s.underTest 3 a.tgt
  | 8 =>
    if a.station = s.station then s.fifoRoom 82
    else if s.remoteFails a.station = none then (s.actDomain a).all (fun d => s.domOn d) else true
  | _ => (s.actDomain a).all (fun d => s.domOn d)

/-- A held entry noted (R60, R83). -/
def State.noteHeld (s : State) (a : ActRec) : State :=
  if a.kind = 0 then (if 4 ≤ (s.cell a.tgt).queue.length then s.raise 116 2 else s)
  else match s.actDomain a with
    | some d => if s.domOn d then s else s.raise 122 (lateWakeBit a.kind)
    | none => s

/-- A late action counted (R62). -/
def State.countLate (s : State) (e : CalEntry) (dropped : Bool) : State :=
  let a := e.act
  let s := (s.incR (Reg.ACT_LATE_CNT a.kind)).raise 112 (2 ^ a.kind)
  let s := (s.setD Reg.ACT_LATE_DUE a.due).setR Reg.ACT_LATE_INFO
    (BitVec.ofNat 32 (dropped.toNat <<< 31 + e.port <<< 24 + a.kind <<< 20 + a.tgt))
  if dropped then (s.incR (Reg.ACT_DROP_CNT a.kind)).raise 113 (2 ^ a.kind) else s

/-- The policy of a kind: 0 DROP, 1 DELIVER, 2 BOUNDED (R61). -/
def State.latePolicy (s : State) (k : Nat) : Nat := s.getF Reg.ACT_LATE_POLICY (2 * k + 1) (2 * k)

/-- A late action is discarded (R61): `slack` units remain before its DUE. -/
def State.lateDrops (s : State) (k : Nat) (slack : Int) : Bool :=
  let pol := s.latePolicy k
  pol == 0 || (pol == 2 && decide (((s.getF Reg.ACT_LATE_MAX 19 0 * 64 : Nat) : Int) < 1024 - slack))

/-- An inner action posted on port 82 (R79), with the bit of EV121 that a late arrival sets on the sending device
(R80). It is called with room in the FIFO: an action to the own station waits in the calendar until there is (DESIGN CHOICE, log entry 214). -/
def State.postInner (s : State) (a : ActRec) (src : Nat) : State :=
  let s := s.fifoPush 82 (encodeRec (innerRec a)) (.remote src)
  if src = s.station && decide (tdiff a.due s.time < (s.lead : Nat)) then s.raise 121 8 else s

/-- A remote action leaves (R79, R373), or is lost (R80). -/
def State.sendRemote (s : State) (a : ActRec) : State :=
  if a.station = s.station then s.postInner a s.station
  else match s.remoteFails a.station with
    | some b => s.raise 121 (2 ^ b)
    | none =>
      match s.routeLane a.station with
      | some l =>
        let w := (encodeRec a).toNat
        let r := s.newMsg 5 a.station 0 [BitVec.ofNat 64 (w >>> 64), BitVec.ofNat 64 w]
        let s := r.1.sendMsg l r.2
        { s with act := { s.act with remoteOut := s.act.remoteOut + 1 } }
      | none => s

/-- A dispatched entry delivered to its target (R54, R60, R79): a pin launch enters its cell's queue or is discarded for
PWM ownership; every other kind waits at its target for its instant. -/
def State.deliver (s : State) (e : CalEntry) (late : Bool) : State :=
  let a := e.act
  let d : Delivered := ⟨a, e.port, late, s.time⟩
  match a.kind with
  | 0 =>
    if (s.pwmOwner a.tgt).isSome then (s.incR (Reg.ACT_DROP_CNT 0)).raise 116 1
    else
      let c := s.cell a.tgt
      let t := d.instant
      s.setCell a.tgt { c with queue := launchInsert c.queue ⟨a.op, t - units (t.toNat % 4), a.data.toNat, none⟩ }
  | 8 => s.sendRemote a
  | _ => { s with act := { s.act with delivered := s.act.delivered ++ [d] } }

/-- An entry is eligible: DUE − LEAD has been reached, or DUE − RMT_LEAD for kind 0x8 (R54). -/
def State.eligible (s : State) (a : ActRec) : Bool := decide (tdiff a.due s.time ≤ (s.leadOf a : Nat))

/-- One tick's dispatch over the calendar in its order, with `n` slots left (R55–R57, R61): `front` selects the Front
entries, which are never held and never late. Answers the state and the entries that stay. -/
def dispatch (front : Bool) : List CalEntry → Nat → State → State × List CalEntry × Nat
  | [], n, s => (s, [], n)
  | e :: l, n, s =>
    let keep := fun (s : State) => let r := dispatch front l n s; (r.1, e :: r.2.1, r.2.2)
    if n = 0 ∨ (e.act.kind == 6) ≠ front ∨ s.eligible e.act = false then keep s
    else if front then dispatch front l (n - 1) (s.deliver e false)
    else if s.targetReady e.act = false then keep (s.noteHeld e.act)
    else
      let slack := tdiff e.act.due s.time
      if slack < 1024 then
        if s.lateDrops e.act.kind slack then dispatch front l n (s.countLate e true)
        else dispatch front l (n - 1) ((s.countLate e false).deliver e true)
      else dispatch front l (n - 1) (s.deliver e false)

/-- The dispatch of one tick: Fronts first, then the others, four in all (R55). -/
def State.dispatchTick (s : State) : State :=
  let f := dispatch true s.act.cal 4 s
  let r := dispatch false f.2.1 f.2.2 f.1
  let stay := r.2.1
  let gone := (s.act.cal.filter (fun e => !stay.any (fun x => x.seq == e.seq))).filterMap (fun e => e.woke)
  let s' := { r.1 with act := { r.1.act with cal := stay } }
  gone.foldl (fun s d => s.refreshPrewake d) s'

/-- What the receivers of remote actions find, as far as it has come back in this tick (R80): the spec gives no message that
brings it, so a free value says whether one action has ended, and how; a refusal and an arrival less than LEAD before DUE set
their bits of EV121. -/
def State.remoteReports (s : State) : State :=
  if s.act.remoteOut = 0 then s
  else
    let f := s.fresh
    let done : State := { f.1 with act := { f.1.act with remoteOut := f.1.act.remoteOut - 1 } }
    match f.2.toNat % 4 with
    | 0 => f.1
    | 1 => done
    | 2 => done.raise 121 4
    | _ => done.raise 121 8

/-- The Front is COMMITTED and instant `t` falls in its tick or later: what happens at `t` acts on the planes that the Front has
exchanged (R84, R282). -/
def State.afterFront (s : State) (t : DWord) : Bool := s.getF Reg.CFG_FRONT_STAT 2 0 == 3 && !before t s.front.tf

/-- The action of a list with the earliest instant, the first delivered among equals. -/
def firstInstant : List Delivered → Option Delivered
  | [] => none
  | d :: l =>
    match firstInstant l with
    | some x => if before x.instant d.instant then some x else some d
    | none => some d

/-- The effect instant of an action of a kind has come (R48): for the counters the first tick at or after DUE. -/
def State.effective (s : State) (kind : Nat) (t : DWord) : Bool := if kind = 7 then atOrAfter s.time t else s.reached t

/-- The delivered action of a kind and target that acts next, if it is of op `op` and its instant has come (R48, R62); not before
a Front whose tick comes first (R84). -/
def State.due? (s : State) (kind tgt op : Nat) : Option Delivered :=
  match firstInstant (s.act.delivered.filter (fun d => d.act.kind == kind && d.act.tgt == tgt)) with
  | some d => if d.act.op == op && s.effective kind d.instant && (kind == 6 || !s.afterFront d.instant) then some d else none
  | none => none

/-- A delivered action taken by its target. -/
def State.taken (s : State) (d : Delivered) : State :=
  { s with act := { s.act with delivered := s.act.delivered.erase d } }

/-! ### Capture rings (R75–R77) -/

/-- Ring `r`. -/
def State.ring (s : State) (r : Nat) : CapRing := tabGet (fun _ => {}) s.act.rings r

/-- The state with ring `r` holding `x`. -/
def State.setRing (s : State) (r : Nat) (x : CapRing) : State :=
  { s with act := { s.act with rings := tabPut (fun _ => {}) s.act.rings r x } }

/-- A capture record (R75). -/
def capRecord (time : DWord) (typ pin edge : Nat) (ovf late : Bool) (tag : Nat) (seq : Word) : QWord :=
  BitVec.ofNat 128 (time.toNat <<< 64 + typ <<< 60 + pin <<< 48 + edge <<< 46 + ovf.toNat <<< 45 + late.toNat <<< 44 +
    tag <<< 32 + seq.toNat)

/-- A record produced for ring `r` (R75, R76): it takes the next SEQ; a full ring discards it, counted and with EV118;
otherwise it is written, EV117 at the threshold, and TIME is copied to the mailbox of CFG. -/
def State.ringWrite (s : State) (r : Nat) (time : DWord) (typ pin edge : Nat) (ovf late : Bool) (tag : Nat) : State :=
  let x := s.ring r
  let rec_ := capRecord time typ pin edge ovf late tag x.seq
  let cfg := s.getR (Reg.ACT_CAP_CFG r)
  let s := if ovf then s.raise 118 16 else s
  let s := if typ = 2 then s.raise 117 (16 * 2 ^ r) else s
  if 1024 ≤ x.recs.length then
    ((s.setRing r { x with seq := x.seq + 1 }).incR (Reg.ACT_CAP_LOST r)).raise 118 (2 ^ r)
  else
    let s := s.setRing r { recs := x.recs ++ [rec_], seq := x.seq + 1 }
    let s := if x.recs.length + 1 = max 1 (fld cfg 10 0) then s.raise 117 (2 ^ r) else s
    if bitOf cfg 31 then (s.mailWrite (fld cfg 29 24) (fld cfg 19 16) time .ring).1 else s

/-- The oldest record of ring `r` removed (R77); nothing on an empty ring. -/
def State.ringPop (s : State) (r : Nat) : State := s.setRing r { s.ring r with recs := (s.ring r).recs.tail }

/-- The capture cell of pin `p`. -/
def State.capCell (s : State) (p : Nat) : CaptureCell := tabGet (fun _ => {}) s.act.capture p

/-- The state with the capture cell of pin `p` holding `c`. -/
def State.setCap (s : State) (p : Nat) (c : CaptureCell) : State :=
  { s with act := { s.act with capture := tabPut (fun _ => {}) s.act.capture p c } }


end Sys2Proof.Machine
end

