-- ==== Sys2Proof/Machine/FrontBase.lean ====
section
/-!
DEFINITION. Sys2Proof/Machine/FrontBase.lean: what other chapters need of the Front (10_front_switching.md): the staged set,
the crossing hold at a pin, and completion.
-/
namespace Sys2Proof.Machine

/-- The staged set: its sectors and its logical engines (R251). -/
def State.stgSectors (s : State) : Nat := (s.getD Reg.CFG_STG_SECT).toNat % 2 ^ 48
def State.stgEngines (s : State) : Nat := (s.getD Reg.CFG_STG_ENG).toNat

/-- The power domains of the staged set. -/
def State.stgDomains (s : State) : List Nat :=
  bitsSet 48 s.stgSectors ++ (bitsSet 64 s.stgEngines).filterMap (fun e => (s.physOf e).map domEngine)

/-- STATE of the staged set: 0 EMPTY, 1 LOADING, 2 READY, 3 FAILED, 4 PREVIOUS. -/
def State.stgState (s : State) : Nat := s.getF Reg.CFG_STG_STAT 2 0

/-- Domain `d` has a staged plane that is READY or PREVIOUS (R265). -/
def State.hasStaged (s : State) (d : Nat) : Bool :=
  (s.stgState == 2 || s.stgState == 4) &&
  (if d < 48 then s.stgSectors.testBit d
   else if d < 116 then (s.logicalOf (d - 48)).any (fun e => s.stgEngines.testBit e)
   else false)

/-- The request for RET or OFF that an engine kept while it ran a cycle is acted on at the cycle's end (R430), under the
rules of a new one (R432, R265). -/
def State.cycleEnded (s : State) (n : Nat) : State :=
  let d := domEngine n
  match s.kept d with
  | none => s
  | some st =>
    let s := s.keepReq d none
    if s.domState d ≠ 0 ∨ st = 0 ∨ st = 3 then s
    else if s.held d then s.raise 211 1
    else if st = 2 ∧ s.hasStaged d = true then (s.raise 211 4).startEntry d 3
    else s.startEntry d (st + 2)

/-- The regional clock of strobe `t` runs (R203, R207). -/
def State.strobeRuns (s : State) (t : Nat) : Bool :=
  let stb := s.getR (Reg.SEC_STB (t / 8) (t % 8))
  !bitOf stb 7 || s.getB (Reg.SEC_RCLK_GATE (t / 8)) (fld stb 3 0)

/-- A clock edge of sector `i` at instant `t` falls in the quiet interval of its Front (R283): from TF − 0.5 ns on, until the
interval ends. -/
def State.quietAt (s : State) (i : Nat) (t : DWord) : Bool :=
  s.stgSectors.testBit i &&
    (s.front.quiet || (s.getF Reg.CFG_FRONT_STAT 2 0 == 3 && !before t (s.front.tf - units 32)))

/-- Sector `i` is a switching sector in the quiet interval of its Front, for what has no place within its tick. -/
def State.quietFor (s : State) (i : Nat) : Bool := s.quietAt i s.time

/-- The logic of sector `i` runs: it runs under its configuration, its domain is ON, global clear is released, and no quiet interval
holds its clocks (R219, R283, R301, R426). -/
def State.sectorLive (s : State) (i : Nat) : Bool :=
  s.getB (Reg.SEC_STAT i) 1 && s.domOn (domSector i) && !s.boot.clear && !s.quietFor i

/-- Regional clock `j` of sector `i` runs (R203): its gate is open and its sector live. -/
def State.rclkRuns (s : State) (i j : Nat) : Bool :=
  s.sectorLive i && s.getB (Reg.SEC_RCLK_GATE i) j && s.getB (Reg.SEC_RCLK i j) 7

/-- The regional clock of interface `k` of sector `i` runs: 0–7 port interfaces, 8 posts, 9 mailboxes, 10 events, 11 requests. -/
def State.ifaceLive (s : State) (i k : Nat) : Bool :=
  s.rclkRuns i (decoded (s.interfaceFrames i) 0 (fun f => Config.ifaceClk f k)).toNat

/-- A delivered trigger or strobe, or an edge in a launch cell, that takes effect before `t` is still to come (R84). -/
def State.actsBefore (s : State) (t : DWord) : Bool :=
  s.act.delivered.any (fun d => match d.act.kind with
    | 1 => before d.instant t && (s.physOf d.act.tgt).any (fun n => s.domOn (domEngine n))
    | 2 => before (d.instant + units unitsPerTick) t && s.strobeRuns d.act.tgt && s.domOn (domSector (d.act.tgt / 8))
    | _ => false) ||
  s.act.launch.any (fun c => c.2.next.any (fun e => before e.due t) ||
    (firstTrail c.2.queue).any (fun e => e.trail.any (fun u => before u t)))

/-- Pin `p` is held by the crossing hold (R288). -/
def State.pinHeld (s : State) (p : Nat) : Bool := !s.front.holdOver && s.front.held.any (fun h => h.pin == p)

/-- A launch-cell edge on pin `p`: deferred at the pad, and counted, where the pin is held (R288). -/
def State.noteHold (s : State) (p : Nat) : State :=
  if s.pinHeld p then (s.addF Reg.CFG_FRONT_HELD 15 0 1).raise 170 1 else s

/-- A hold of a list of domains is released, and their idle timers restart. -/
def State.releaseHold (s : State) (hold : Nat) (l : List Nat) : State :=
  l.foldl (fun s d => if s.getB (Reg.PWR_DOM_STAT d) hold then (s.setHold d hold false).touch d else s) s

/-- Completion of the Front (R290), where everything it waits for has happened: the staged set becomes PREVIOUS, the held
domains are released (R275), and a settings load that waited for this Front is due (R324). -/
def State.frontComplete (s : State) : State :=
  if s.getF Reg.CFG_FRONT_STAT 2 0 = 4 ∧ s.front.holdOver = true ∧
      (bitsSet 48 s.stgSectors).all (fun i => s.getR (Reg.SEC_MEM_INIT_BUSY i) == 0) = true ∧
      (bitsSet 64 s.stgEngines).all (fun e => !((s.physOf e).any (fun n => s.getB (Reg.ENG_STAT n) 7))) = true then
    let s := ((s.setF Reg.CFG_FRONT_STAT 2 0 0).raise 167 1).setF Reg.CFG_STG_STAT 2 0 4
    let s := s.releaseHold holdFront (List.range 116)
    { s with key := { s.key with due := s.key.due.map (fun d => (d.1, false)) } }
  else s

/-! ### DONE and cancels (R277, R279, R280) -/

/-- This device's drive of DONE, shown in DONE_REL: low while a cabinet Front is ARMED, and while a cancelled one's
time has not passed. -/
def State.driveDone (s : State) : State :=
  s.setB Reg.DEV_START_STAT 0
    (!(s.front.doneUntil.isSome || (s.front.scope == 1 && s.getF Reg.CFG_FRONT_STAT 2 0 == 1)))

/-- A pending settings load that waits for a Front is dropped (R324). -/
def State.dropDue (s : State) : State :=
  match s.key.due with
  | some (_, true) => ({ s with key := { s.key with due := none } } : State).raise 196 16
  | _ => s

/-- Every participant's matching notice is held (R277). -/
def State.noticesHeld (s : State) : Bool :=
  s.front.scope == 0 || (s.getF Reg.CFG_FRONT_NOTICE 15 0 &&& s.front.part) == s.front.part

/-- The vote has closed, at D − 1 us, on a device that is not VOTED (R279). -/
def State.voteClosed (s : State) : Bool :=
  s.getF Reg.CFG_FRONT_STAT 2 0 == 1 && atOrAfter s.time (s.front.d - units unitsPerUs)

/-- The causes with which the close of the vote cancels (R280): VERIFY and NOTICE. -/
def State.voteCauses (s : State) : Nat := (if s.front.verified then 0 else 2) + (if s.noticesHeld then 0 else 4)

/-- The armed Front is cancelled for the causes in `causes`, bits of EV163 (R280): nothing happens where no Front is armed,
and none is cancelled once it is COMMITTED. A device that is not VOTED when the vote closes has cancelled for the causes of that
moment, whatever comes after it (R279). Before the vote closes, a cabinet Front that is cancelled keeps DONE low until
D + 1 us; a device that is VOTED when the vote has closed does not drive DONE again (R279). -/
def State.frontCancel (s : State) (causes : Nat) : State :=
  let st := s.getF Reg.CFG_FRONT_STAT 2 0
  if st ≠ 1 ∧ st ≠ 2 then s
  else
    let causes := if s.voteClosed then s.voteCauses else causes
    let isFront := fun (a : ActRec) => a.kind == 6
    let s : State := { s with act := { s.act with
      cal := s.act.cal.filter (fun e => !isFront e.act), delivered := s.act.delivered.filter (fun d => !isFront d.act) } }
    let s := s.setFifo 83 ((s.fifo 83).filter (fun r => !isFront (decodeRec r.word)))
    let s := (s.setF Reg.CFG_FRONT_STAT 2 0 0).setF Reg.CFG_FRONT_STAT 12 8 (causes % 32)
    let s := (s.addF Reg.CFG_FRONT_CANCELS 15 0 1).raise 163 causes
    let s := (s.releaseHold holdFront (List.range 116)).dropDue
    let low := s.front.scope == 1 && (st == 1 || before s.time (s.front.d - units unitsPerUs))
    let s := if low then { s with front := { s.front with doneUntil := some s.front.d } } else s
    if s.front.scope = 1 then s.driveDone else s

/-- The close of the vote where its moment has come and nothing has performed it yet (R279). -/
def State.closeVote (s : State) : State := if s.voteClosed then s.frontCancel s.voteCauses else s

end Sys2Proof.Machine
end

