-- ==== Sys2Proof/Machine/Clock.lean ====
section
/-!
DEFINITION. Sys2Proof/Machine/Clock.lean: the time-base pair, the user ADPLLs and their outputs, time steps and clock
trees (02_time_base_and_clocks.md, R18–R45), and the rows that change them.
-/
namespace Sys2Proof.Machine

/-! ### State of an ADPLL -/

/-- ADPLL `n` beside its registers. -/
def State.pll (s : State) (n : Nat) : Adpll := tabGet (fun _ => {}) s.clk.plls n

/-- The state with ADPLL `n` holding `x`. -/
def State.setPll (s : State) (n : Nat) (x : Adpll) : State :=
  { s with clk := { s.clk with plls := tabPut (fun _ => {}) s.clk.plls n x } }

/-- ADPLL `n` is locked. -/
def State.locked (s : State) (n : Nat) : Bool := s.getB (Reg.CLK_ADPLL_STAT n) 0

/-- Output `m` of ADPLL `n` is enabled. -/
def State.outEn (s : State) (n m : Nat) : Bool := s.getB (Reg.CLK_ADPLL_OUT_CTL n m) 31

/-- Source of the consumers of an output. -/
def State.outSrc (s : State) (n m : Nat) : OutSrc := tabGet (fun _ => .own) (s.pll n).outs m

/-- The consumers of an output take source `x`. -/
def State.setOutSrc (s : State) (n m : Nat) (x : OutSrc) : State :=
  s.setPll n { s.pll n with outs := tabPut (fun _ => .own) (s.pll n).outs m x }

/-- DIV of an output; 2,048 is written as 0 (OUT[m].CTL). -/
def divOf (w : Word) : Nat := if fld w 11 0 = 0 then 2048 else fld w 11 0

/-- The 40-bit FCW in a register pair. -/
def State.fcw (s : State) (a : Nat) : Nat := (s.getD a).toNat % 2 ^ 40

/-- The control word applied now (R32, R38): the latched target of a lock sequence; during a slew it has moved from where the
slew began toward the target at SLEW ppm of LOCK_FCW per microsecond. -/
def State.fcwAct (s : State) (n : Nat) : Nat :=
  if let some v := (s.pll n).latched then v.toNat % 2 ^ 40
  else if s.getB (Reg.CLK_ADPLL_STAT n) 3 then
    let x := s.pll n
    let t := s.fcw (Reg.CLK_ADPLL_FCW n)
    let moved := s.fcw (Reg.CLK_ADPLL_LOCK_FCW n) * max 1 (min 100 (s.getF (Reg.CLK_ADPLL_SLEW n) 6 0)) *
      (tdiff s.time x.slewAt).toNat / (1000000 * unitsPerUs)
    if x.slewFrom.toNat ≤ t then min t (x.slewFrom.toNat + moved) else max t (x.slewFrom.toNat - moved)
  else s.fcw (Reg.CLK_ADPLL_FCW_ACT n)

/-! ### Ceilings (R40, R41) -/

/-- Output `m` of ADPLL `n` feeds a global clock tree (R44). -/
def State.feedsTree (s : State) (n m : Nat) : Bool :=
  (List.range 32).any (fun k =>
    let w := s.getR (Reg.CLK_GCLK k)
    fld w 9 8 == 1 && fld w 6 4 == n && fld w 2 0 == m)

/-- Effective ceiling of an output in kHz (R40). -/
def State.effCeil (s : State) (n m : Nat) : Nat :=
  let c := s.getF (Reg.CLK_ADPLL_OUT_CEIL n m) 20 0
  if s.feedsTree n m then min c 600000 else c

/-- A control word places an enabled output above its effective ceiling (R41). -/
def State.aboveCeil (s : State) (n fcw : Nat) : Bool :=
  (List.range 6).any (fun m =>
    s.outEn n m && decide (s.effCeil n m * divOf (s.getR (Reg.CLK_ADPLL_OUT_CTL n m)) * 2 ^ 32 < fcw * 50000))

/-- A control word places the DCO below DCO_FLOOR (R41). -/
def State.belowFloor (s : State) (n fcw : Nat) : Bool :=
  decide (fcw * 50 < s.getF (Reg.CLK_ADPLL_DCO_FLOOR n) 12 0 * 2 ^ 32)

/-- The ceiling of the control word with the guard of 0.1 % (R40): the lowest over the enabled outputs of effective ceiling
times DIV, in the unit of the FCW; none where no output is enabled. -/
def State.ceilWord (s : State) (n : Nat) : Option Nat :=
  (((List.range 6).filter (fun m => s.outEn n m)).map (fun m =>
    s.effCeil n m * divOf (s.getR (Reg.CLK_ADPLL_OUT_CTL n m)) * 999 * 2 ^ 32 / 50000000)).min?

/-- The floor of the control word (R40): DCO_FLOOR in the unit of the FCW. -/
def State.floorWord (s : State) (n : Nat) : Nat := (s.getF (Reg.CLK_ADPLL_DCO_FLOOR n) 12 0 * 2 ^ 32 + 49) / 50

/-- The DCO control word behind the clamp (R40), whose ceiling no output exceeds. -/
def State.ctrlWord (s : State) (n : Nat) : Nat :=
  let w := max (s.floorWord n) (s.fcwAct n)
  match s.ceilWord n with
  | some c => min c w
  | none => w

/-- The loop of ADPLL `n` is closed (R32, R33): it is locked, or 12 us of its lock sequence have passed. -/
def State.loopClosed (s : State) (n : Nat) : Bool :=
  s.locked n || ((s.pll n).latched.isSome && atOrAfter s.time ((s.pll n).since + units (12 * unitsPerUs)))

/-- The loop filter drives the control word against the clamp (R33, R40, R41). -/
def State.clamps (s : State) (n : Nat) : Bool := s.loopClosed n && s.fcwAct n != s.ctrlWord n

/-- CLAMP is set where the control word runs against the clamp (R41). -/
def State.noteClamp (s : State) (n : Nat) : State := if s.clamps n then s.setB (Reg.CLK_ADPLL_STAT n) 4 true else s

/-- CLAMP of every ADPLL, after a change of the global trees (R40, R41). -/
def State.noteClamps (s : State) : State := (List.range 8).foldl State.noteClamp s

/-- Frequency in Hz that an enabled output of a locked ADPLL has from its own DCO, as a fraction (R35, R40). -/
def State.ownFreq (s : State) (n m : Nat) : Option (Nat × Nat) :=
  if s.locked n && s.outEn n m then
    some (s.ctrlWord n * 50000000, 2 ^ 32 * divOf (s.getR (Reg.CLK_ADPLL_OUT_CTL n m)))
  else none

/-- Frequency of the clock that the axis I/O takes from an output: its own, its sibling's, or none where the clock is
stopped (R43, R179). -/
def State.outFreq (s : State) (n m : Nat) : Option (Nat × Nat) :=
  match s.outSrc n m with
  | .own => s.ownFreq n m
  | .sibling p o => if s.outEn n m then s.ownFreq p o else none
  | _ => none

/-! ### Delta-sigma modulator (R31) -/

/-- One step of the dither LFSR, x^32 + x^22 + x^2 + x + 1: the word moves up by one bit, and the sum of bits 31, 21, 1 and 0 comes in
below (R31; log entry 182). -/
def lfsrStep (w : Word) : Word := (w <<< 1) ||| BitVec.ofNat 32 (bitOf w 31 ^^ bitOf w 21 ^^ bitOf w 1 ^^ bitOf w 0).toNat

/-- The LFSR after `k` steps. -/
def lfsrAfter : Nat → Word → Word
  | 0, w => w
  | k + 1, w => lfsrAfter k (lfsrStep w)

/-- Values that the modulator of ADPLL `n` has taken since the start of its last lock. -/
def State.modSteps (s : State) (n : Nat) : Nat := Config.modClocks n (s.pll n).since s.time

/-- The dither that the LFSR adds at the modulator input (R31): +1 or −1 LSB by its output bit 31, and 0 where DITHER is 0. -/
def State.dither (s : State) (n : Nat) : Int :=
  if s.getB (Reg.CLK_ADPLL_CTL n) 6 then (if bitOf (lfsrAfter (s.modSteps n) (s.pll n).lfsr) 31 then 1 else -1) else 0

/-- The modulator input (R31): the fraction of the control word, and the dither. -/
def State.modInput (s : State) (n : Nat) : Int := ((s.ctrlWord n % 2 ^ 32 : Nat) : Int) + s.dither n

/-- Code of the fine tuning bank (R31): the mid code at order 0, else what the modulator gives it. -/
def State.fineCode (s : State) (n : Nat) : Word :=
  let order := s.getF (Reg.CLK_ADPLL_CTL n) 8 7
  if order = 0 then Config.fineMid else Config.fineBank order (s.modSteps n) (s.modInput n)

/-! ### Output delay (R36) -/

/-- Output cycles of output `m` of ADPLL `n` from device time `a` until now, at its present frequency. -/
def State.cyclesSince (s : State) (n m : Nat) (a : DWord) : Nat :=
  match s.ownFreq n m with
  | some (num, den) => (tdiff s.time a).toNat * num / (den * (1000 * unitsPerMs))
  | none => 0

/-- The fine delay in force, in 1/64 DCO period (R36): it moves to FDLY by 1 in each output cycle. -/
def State.fineDelay (s : State) (n m : Nat) : Nat :=
  let t := s.getF (Reg.CLK_ADPLL_OUT_CTL n m) 17 12
  match (s.pll n).fdly.find? (fun p => p.1 == m) with
  | some (_, f, a) => if f ≤ t then min t (f + s.cyclesSince n m a) else max t (f - s.cyclesSince n m a)
  | none => t

/-- The delay of an output in 1/64 DCO period: PHASE whole periods, and the fine delay (R36). -/
def State.outDelay (s : State) (n m : Nat) : Nat := 64 * s.getF (Reg.CLK_ADPLL_OUT_CTL n m) 28 18 + s.fineDelay n m

/-- The fine delay of output `m` moves on from where it stands, at a device time that reads `t` from now on. -/
def State.anchorDelay (s : State) (n m : Nat) (t : DWord) : State :=
  s.setPll n { s.pll n with fdly := tabInsert (s.pll n).fdly m (s.fineDelay n m, t) }

/-- The fine delays that move, or have moved, do so from where they stand (R36). -/
def State.anchorDelays (s : State) (n : Nat) (t : DWord) : State :=
  (s.pll n).fdly.foldl (fun s p => s.anchorDelay n p.1 t) s

/-! ### Slew (R38) -/

/-- The slew of ADPLL `n` goes on from where it stands, at a device time that reads `t` from now on. -/
def State.anchorSlew (s : State) (t : DWord) (n : Nat) : State :=
  if s.getB (Reg.CLK_ADPLL_STAT n) 3 then
    s.setPll n { s.pll n with slewFrom := BitVec.ofNat 64 (s.fcwAct n), slewAt := t }
  else s

/-- A write of SLEW (R38): a slew under way goes on at the new limit. -/
def State.writeSlew (s : State) (n : Nat) (w : Word) : State :=
  ((s.noteClamp n).anchorSlew s.time n).store (Reg.CLK_ADPLL_SLEW n) w

/-- A write of a register that moves the clamp, F_CEIL or DCO_FLOOR (R40, R41). -/
def State.writeClamp (s : State) (n a : Nat) (w : Word) : State := (s.store a w).noteClamp n

/-! ### Lock sequence (R31–R34) -/

/-- The reference of ADPLL `n` (R29): 0 RES0, 1 RES1, 2 time-base OUT[4]. -/
def State.refOf (s : State) (n : Nat) : Nat := if n < 2 then n else s.getF (Reg.CLK_ADPLL_CTL n) 10 9

/-- The reference of ADPLL `n` is active. -/
def State.refAlive (s : State) (n : Nat) : Bool :=
  let r := s.refOf n
  if r < 2 then !s.getB Reg.CLK_RES_STAT r else true

/-- The backup of an output (R43): its sibling where that is an output of another, locked ADPLL; else the ring
oscillators. -/
def State.backupOf (s : State) (n m : Nat) : OutSrc :=
  let w := s.getR (Reg.CLK_ADPLL_OUT_BKP n m)
  let p := fld w 6 4
  if bitOf w 7 && p != n && decide (2 ≤ p) && s.locked p then .sibling p (fld w 2 0) else .ring

/-- Device time runs with both members of the pair unlocked (R21). -/
def State.degraded (s : State) : Bool := s.getB Reg.CLK_TB_STAT 5

/-- The backup that global clock tree `k` runs on (R43, R44): that of its ADPLL output, or, for time-base OUT[5] with both
members unlocked, the ring oscillators. -/
def State.treeBackup (s : State) (k : Nat) : Option OutSrc :=
  let w := s.getR (Reg.CLK_GCLK k)
  match fld w 9 8 with
  | 1 =>
    if !s.outEn (fld w 6 4) (fld w 2 0) then none
    else match s.outSrc (fld w 6 4) (fld w 2 0) with
      | .ring => some .ring
      | .sibling p o => some (.sibling p o)
      | _ => none
  | 2 => if s.degraded then some .ring else none
  | _ => none

/-- Regional clock `j` of sector `i` takes a tree of the list (R203). -/
def State.usesTree (s : State) (i j : Nat) (ks : List Nat) : Bool :=
  let w := s.getR (Reg.SEC_RCLK i j)
  bitOf w 7 && ks.contains (fld w 4 0)

/-- CLK_BACKUP of SEC[s].STAT: a regional clock's tree runs on its backup. -/
def State.onBackup (s : State) (i : Nat) : Bool :=
  let ks := (List.range 32).filter (fun k => (s.treeBackup k).isSome)
  !ks.isEmpty && (List.range 16).any (fun j => s.usesTree i j ks)

/-- The sectors of an ON domain with a tree that has switched, since state `old`, to the ring oscillators note it in their
cause (R206, R219, R429). -/
def State.noteRing (s old : State) : State :=
  let ks := (List.range 32).filter (fun k => s.treeBackup k == some .ring && old.treeBackup k != some .ring)
  if ks.isEmpty then s
  else ((List.range 48).filter (fun i => s.domOn (domSector i) && (List.range 16).any (fun j => s.usesTree i j ks))).foldl
    (fun s i => s.raise (64 + i) 8) s

/-- The outputs, of any ADPLL, whose islands run on output `m` of ADPLL `n`: itself, and those that have it as their sibling
backup (R43). -/
def State.fedBy (s : State) (n m : Nat) : List (Nat × Nat) :=
  ((List.range 8).flatMap (fun p => (List.range 6).map (fun o => (p, o)))).filter (fun q =>
    (q == (n, m) && s.outSrc n m == .own) || s.outSrc q.1 q.2 == .sibling n m)

/-- The islands on the enabled outputs of ADPLL `n` leave its DCO (R32, R42): those on output `m` take what `f m` gives. Where
that is the gate, an island that has the output as its sibling backup stays on it, low with it. -/
def State.leaveDco (s : State) (n : Nat) (f : Nat → OutSrc) : State :=
  (((List.range 6).filter (fun m => s.outEn n m)).foldl (fun t m =>
    (s.fedBy n m).foldl (fun t q => if f m == .gated && q != (n, m) then t else t.setOutSrc q.1 q.2 (f m)) t) s).noteRing s

/-- A lock sequence of ADPLL `n` starts with the FCW in its register (R31, R32): enabled outputs are gated, or run from
their backup with HOLD_THROUGH; those that already run from a backup stay on it. -/
def State.startLock (s : State) (n : Nat) : State :=
  let s := (s.anchorDelays n s.time).leaveDco n (fun m => if s.getB (Reg.CLK_ADPLL_OUT_CTL n m) 30 then s.backupOf n m else .gated)
  let seed := s.getR (Reg.CLK_ADPLL_DS_SEED n)
  let s := s.setPll n { s.pll n with latched := some (s.getD (Reg.CLK_ADPLL_FCW n)), laterFcw := false,
                                     lfsr := if seed = 0 then 1 else seed, since := s.time }
  ((s.setF (Reg.CLK_ADPLL_STAT n) 2 1 1).setB (Reg.CLK_ADPLL_STAT n) 0 false).setB (Reg.CLK_ADPLL_STAT n) 3 false

/-- A new FCW under the retune rules (R38, R39, R41), where `keep` is the FCW in force that a refusal leaves. -/
def State.retune (s : State) (n : Nat) (v keep : DWord) : State :=
  let a := Reg.CLK_ADPLL_FCW n
  let st := Reg.CLK_ADPLL_STAT n
  let lock := s.fcw (Reg.CLK_ADPLL_LOCK_FCW n)
  let near := decide ((v.toNat - lock + (lock - v.toNat)) * 1000000 ≤ 2000 * lock)
  let refuse := fun (b : Nat) => (s.setD a keep).setB st b true
  if s.locked n && !near && !s.getB (Reg.CLK_ADPLL_CTL n) 11 then refuse 5
  else if s.aboveCeil n v.toNat || s.belowFloor n v.toNat then refuse 6
  else if !s.locked n then s.setD a v
  else if near then
    let from_ := s.fcwAct n
    let s := (s.noteClamp n).anchorDelays n s.time
    let s := (s.setPll n { s.pll n with slewFrom := BitVec.ofNat 64 from_, slewAt := s.time }).setD a v
    (s.setD (Reg.CLK_ADPLL_FCW_ACT n) (BitVec.ofNat 64 from_)).setB st 3 (decide (from_ ≠ v.toNat))
  else (s.setD a v).startLock n

/-- A write of the FCW of ADPLL `n` (R30, R34, R38, R39, R41): ignored on the time-base pair (R20). During a lock sequence the value
waits for its end. -/
def State.writeFcw (s : State) (n : Nat) (v : DWord) : State :=
  let w : DWord := BitVec.ofNat 64 (v.toNat % 2 ^ 40)
  if n < 2 then s
  else if w.toNat < 80 * 2 ^ 32 ∨ 160 * 2 ^ 32 < w.toNat then s.setB (Reg.CLK_ADPLL_STAT n) 5 true
  else if (s.pll n).latched.isSome then (s.setD (Reg.CLK_ADPLL_FCW n) w).setPll n { s.pll n with laterFcw := true }
  else s.retune n w (s.getD (Reg.CLK_ADPLL_FCW n))

/-- FCW_WRITE. -/
def execFcwWrite (n : Fin 8) (v : DWord) (s : State) : Out := .next (s.writeFcw n v)

/-- SLEW_DONE (R38): the applied FCW has reached the target. -/
def execSlewDone (n : Fin 8) (s : State) : Out :=
  if s.getB (Reg.CLK_ADPLL_STAT n) 3 && s.fcwAct n == s.fcw (Reg.CLK_ADPLL_FCW n) then
    .next (((s.setD (Reg.CLK_ADPLL_FCW_ACT n) (s.getD (Reg.CLK_ADPLL_FCW n))).setB (Reg.CLK_ADPLL_STAT n) 3 false).noteClamp n)
  else .next s

/-! ### Time (R21, R26–R28, R296) -/

/-- The lock sequence of ADPLL `n` keeps its age when device time steps by `d`. -/
def State.ageLock (s : State) (d : DWord) (n : Nat) : State :=
  if (s.pll n).latched.isSome then s.setPll n { s.pll n with since := (s.pll n).since + d } else s

/-- The slews, the fine delays and the lock sequences of the ADPLLs, and the cycles of the arbiters, go on from where they stand, at a
device time that reads `t` from now on (R28, R32, R36, R38). -/
def State.anchored (s : State) (t : DWord) : State :=
  (List.range 8).foldl (fun r n => (((r.noteClamp n).anchorDelays n t).anchorSlew t n).ageLock (t - s.time) n) (s.arbStep (t - s.time))

/-- Device time starts at `t` (R296). -/
def State.startTime (s : State) (t : DWord) : State := { s.anchored t with time := t, timeRuns := true }

/-- MODE of CLK_TB_CTL: 0 FREE, 1 GPTP, 2 SYNC. -/
def State.tbMode (s : State) : Nat := s.getF Reg.CLK_TB_CTL 1 0

/-- The active member of the pair (R19). -/
def State.active (s : State) : Nat := s.getF Reg.CLK_TB_STAT 0 0

/-- The pair after its member `n` has lost lock (R19, R21): the other member, unless it is retired (R478), takes over in the same tick, or, where both
are unlocked, device time goes on on the one that failed last, DEGRADED, which cancels an armed Front (R280). -/
def State.pairLoss (s : State) (n : Nat) : State :=
  if s.locked (1 - n) && !s.getB (Reg.TST_SQ_PLL (1 - n)) 30 then
    (s.setF Reg.CLK_TB_STAT 0 0 (1 - n)).setB Reg.CLK_TB_STAT 1 false
  else
    let s := ((((s.setB Reg.CLK_TB_STAT 1 false).setB Reg.CLK_TB_STAT 5 true).noteRing s).raise 127 1).frontCancel 32
    { s with clk := { s.clk with lastFailed := n } }

/-- The pair after its member `n` has locked (R18, R19, R21, R296): it becomes the standby; after DEGRADED, or where no
member was locked, it becomes active without a step; at the first lock device time starts, unless MODE SYNC waits for
the master, and a start-up goes on to loading BASE (R294). -/
def State.pairLock (s : State) (n : Nat) : State :=
  if s.locked (1 - n) && !s.degraded then s.setB Reg.CLK_TB_STAT 1 true
  else
    let was := s.degraded
    let s := (s.setF Reg.CLK_TB_STAT 0 0 n).setB Reg.CLK_TB_STAT 5 false
    let s := if was then s.raise (136 + n) 2 else s
    let s := if s.boot.running && s.getF Reg.DEV_START_STAT 4 2 == 1 then s.setF Reg.DEV_START_STAT 4 2 2 else s
    if !s.timeRuns && (s.tbMode != 2 || s.isMaster) then s.startTime 0 else s

/-- A loss of lock counted in the window of ADPLL `n` (R477, R478): a lasting fault marks it LASTING, and retires a member
of the time-base pair. -/
def State.countLol (s : State) (n : Nat) : State :=
  let r := s.countFault 10 n s.sqCfg
  if r.2 then
    let s := r.1.setB (Reg.TST_SQ_PLL n) 31 true
    (if n < 2 then s.setB (Reg.TST_SQ_PLL n) 30 true else s).lastingFault 10 n 0xFFFFFFFF 9 255 false
  else r.1

/-- Loss of lock of ADPLL `n` (R42): EV128 + n, the count, the switch of every enabled output to its backup, and a new
lock sequence. -/
def State.loseLock (s : State) (n why : Nat) : State :=
  let st := Reg.CLK_ADPLL_STAT n
  let s := ((((s.anchorDelays n s.time).raise (128 + n) (2 ^ why)).setB st 0 false).addF st 31 16 1).countLol n
  let s := if n < 2 then s.pairLoss n else s
  ((s.leaveDco n (fun m => s.backupOf n m)).setB st 3 false).startLock n

/-- LOSS_OF_LOCK (R42): the lock detector declares loss of lock for cause 0 (phase error) or 1 (band edge). -/
def execLossOfLock (n : Fin 8) (why : Fin 2) (s : State) : Out :=
  if s.locked n then .next (s.loseLock n why) else .next s

/-- The locked ADPLLs that resonator `r` references (R29). -/
def State.refLocked (s : State) (r : Nat) : List Nat := (List.range 8).filter (fun n => s.locked n && s.refOf n == r)

/-- RES_FAIL (R29, R42, R43): resonator `r` is inactive; every ADPLL that it references loses lock at once, so none of them is a
sibling backup for another. RES_FAIL stays set: no row tells of a return of activity (DESIGN CHOICE, log entry 188). -/
def execResFail (r : Fin 2) (s : State) : Out :=
  if s.getB Reg.CLK_RES_STAT r then .next s
  else
    let s1 := s.setB Reg.CLK_RES_STAT r true
    let l := s1.refLocked r
    .next (l.foldl (fun s n => s.loseLock n 2) (l.foldl (fun s n => (s.anchorDelays n s.time).setB (Reg.CLK_ADPLL_STAT n) 0 false) s1))

/-- The lock sequence of ADPLL `n` has had the time that it takes at the least (R32): the band search, 64 reference periods within the
threshold, and SETTLE. Where device time does not run yet, nothing measures it. -/
def State.lockReady (s : State) (n : Nat) : Bool :=
  !s.timeRuns || atOrAfter s.time ((s.pll n).since + units (13280 * 64 + s.getF (Reg.CLK_ADPLL_LOCK_CFG n) 23 16 * unitsPerUs))

/-- LOCK_COMPLETE (R32, R34, R43): the lock sequence of ADPLL `n` ends. The band that the search finds is open. Gated
outputs run from the DCO; those on a backup return where RETURN is 1. -/
def execLockComplete (n : Fin 8) (s : State) : Out :=
  match (s.pll n).latched with
  | none => .next s
  | some v =>
    if !s.refAlive n || !s.lockReady n then .next s
    else
      let st := Reg.CLK_ADPLL_STAT n
      let later := (s.pll n).laterFcw
      let asked := s.getD (Reg.CLK_ADPLL_FCW n)
      let f := s.fresh
      let s1 := (((f.1.setF st 13 8 f.2.toNat).setF st 2 1 3).setB st 0 true).setD (Reg.CLK_ADPLL_LOCK_FCW n) v
      let s2 := (s1.setD (Reg.CLK_ADPLL_FCW_ACT n) v).setPll n { s1.pll n with latched := none, laterFcw := false }
      let back := (List.range 6).filter (fun m =>
        s2.outSrc n m == .gated || (s2.outSrc n m != .own && s2.getB (Reg.CLK_ADPLL_OUT_BKP n m) 8))
      let s3 := back.foldl (fun s m => s.setOutSrc n m .own) s2
      let s4 := (s3.raise (136 + n) 1)
      let s5 := if n.val < 2 then s4.pairLock n else s4
      let s6 := (s5.anchorDelays n s5.time).noteClamp n
      .next (if later then s6.retune n asked v else s6)

/-- EN of a user ADPLL falls: every output is gated and the DCO stops (CLK.ADPLL[n].CTL). -/
def State.pllOff (s : State) (n : Nat) : State :=
  let s := (List.range 6).foldl (fun s m => s.setOutSrc n m .gated) (s.anchorDelays n s.time)
  let s := s.setPll n { s.pll n with latched := none, laterFcw := false }
  ((s.setF (Reg.CLK_ADPLL_STAT n) 2 1 0).setB (Reg.CLK_ADPLL_STAT n) 0 false).setB (Reg.CLK_ADPLL_STAT n) 3 false

/-- Writes of ADPLL[n].CTL (R20, R32): a rise of EN starts the lock sequence, a fall gates every output and stops the
DCO, RELOCK starts the sequence again. The time-base pair ignores them. -/
def State.writePllCtl (s : State) (n : Nat) (w : Word) : State :=
  let a := Reg.CLK_ADPLL_CTL n
  if n < 2 then s
  else
    let was := s.getB a 0
    let s := s.store a w
    if was && !s.getB a 0 then s.pllOff n
    else if s.getB a 0 && (!was || bitOf w 12) then s.startLock n
    else s

/-- ADPLL_ENABLE (R32): a write of ADPLL[n].CTL. -/
def execAdpllEnable (n : Fin 8) (w : Word) (s : State) : Out := .next (s.writePllCtl n w)

/-- RELOCK (R32): CTL.RELOCK written with the other fields as they stand. -/
def execRelock (n : Fin 8) (s : State) : Out := .next (s.writePllCtl n (s.getR (Reg.CLK_ADPLL_CTL n) ||| 0x1000))

/-! ### Outputs (R20, R35–R37) -/

/-- The output frequency f_DCO / DIV lies between 3.9 MHz and 1.6 GHz, with DIV 3 to 2,048 (R35). -/
def State.divOk (s : State) (n div : Nat) : Bool :=
  let f := s.fcw (Reg.CLK_ADPLL_FCW n) * 50000
  decide (3 ≤ div) && decide (div ≤ 2048) && decide (3900 * div * 2 ^ 32 ≤ f) && decide (f ≤ 1600000 * div * 2 ^ 32)

/-- A write of a time-base output: DIV and EN of OUT[5] in ADPLL[0], which ADPLL[1] mirrors; everything else is ignored
(R20). -/
def State.writeTbOut (s : State) (n m : Nat) (w : Word) : State :=
  if n = 0 ∧ m = 5 then
    let d := fld w 11 0
    let ok := decide (10 ≤ d) && decide (d ≤ 1536)
    let s := if ok then s else s.setB (Reg.CLK_ADPLL_STAT 0) 7 true
    ([0, 1].foldl (fun s k =>
      let a := Reg.CLK_ADPLL_OUT_CTL k 5
      let s := s.setB a 31 (bitOf w 31)
      if ok then s.setF a 11 0 d else s) s).noteClamps
  else s

/-- A write of OUT[m].CTL of a user ADPLL (R35–R37): DIV and PHASE only while the output is disabled; a refused DIV sets
CFG_ERR. Enabling an output wakes the ADPLL (R433). DESIGN CHOICE (log entry 189): a write that leaves DIV as it is is no DIV
write, and a PHASE that may not be written keeps its value without CFG_ERR. -/
def State.writeOut (s : State) (n m : Nat) (w : Word) : State :=
  let a := Reg.CLK_ADPLL_OUT_CTL n m
  let old := s.getR a
  let en := bitOf old 31
  let newDiv := fld w 11 0 != fld old 11 0
  let divGood := !newDiv || (!en && s.divOk n (divOf w))
  let div := if divGood then fld w 11 0 else fld old 11 0
  let phase := if !en && decide (fld w 28 18 < divOf (setFld old 11 0 div)) then fld w 28 18 else fld old 28 18
  let v := setFld (setFld (setFld old 11 0 div) 28 18 phase) 17 12 (fld w 17 12)
  let v := setBitOf (setBitOf v 30 (bitOf w 30)) 31 (bitOf w 31)
  let s := if divGood then s else s.setB (Reg.CLK_ADPLL_STAT n) 7 true
  let s := if en && fld w 17 12 != fld old 17 12 then s.anchorDelay n m s.time else s
  let s := s.setR a v
  let s := if en && bitOf w 31 then s else s.setPll n { s.pll n with fdly := (s.pll n).fdly.filter (fun p => p.1 != m) }
  let s := if !en && bitOf w 31 then (s.setOutSrc n m (if s.locked n then .own else .gated)).wake (domPll n) 10
           else if en && !bitOf w 31 then s.setOutSrc n m .own else s
  s.noteClamp n

/-- OUTPUT_CTL_WRITE (R35–R37). -/
def execOutputCtlWrite (n : Fin 8) (m : Fin 6) (w : Word) (s : State) : Out :=
  .next (if n.val < 2 then s.writeTbOut n m w else s.writeOut n m w)

/-- A write of OUT[m].BKP (R43): RETURN written 1 brings consumers of a locked ADPLL back to it. -/
def State.writeBkp (s : State) (n m : Nat) (w : Word) : State :=
  let a := Reg.CLK_ADPLL_OUT_BKP n m
  let s := s.store a w
  if s.getB a 8 && s.locked n && s.outSrc n m != .own then s.setOutSrc n m .own else s

/-- A write of CLK.GCLK[k] (R44, R45): the new source of a tree takes effect glitch-free. -/
def State.writeGclk (s : State) (k : Nat) (w : Word) : State :=
  (s.store (Reg.CLK_GCLK k) w).noteClamps

/-- GCLK_SRC_WRITE. -/
def execGclkSrcWrite (k : Fin 32) (w : Word) (s : State) : Out := .next (s.writeGclk k w)

/-! ### Discipline (R23–R25, R296, R357) -/

/-- Port `p` announces a grandmaster and is asCapable. -/
def State.announced (s : State) (p : Nat) : Option (Nat × DWord) :=
  if s.getF (Reg.NET_PORT_STAT p) 4 3 = 3 then (s.netPort p).announce else none

/-- The source port (R357): the port forced by GPTP_PORT, else the one whose grandmaster the best master clock algorithm
prefers, TA at a tie. -/
def State.bestPort (s : State) : Option Nat :=
  match s.getF Reg.CLK_TB_CTL 3 2, s.announced 0, s.announced 1 with
  | 1, _, _ => some 0
  | 2, _, _ => some 1
  | _, some a, some b => if b.1 < a.1 then some 1 else some 0
  | _, some _, none => some 0
  | _, none, some _ => some 1
  | _, none, none => none

/-- The source port and the grandmaster after a change at the ports, in MODE GPTP (R357, R377). -/
def State.updateSource (s : State) : State :=
  if s.tbMode ≠ 1 then s
  else
    let p := s.bestPort
    let gm := match p.bind s.announced with
      | some a => a.2
      | none => s.getD Reg.NET_GM_ID
    let bits := (decide (gm ≠ s.getD Reg.NET_GM_ID)).toNat + 2 * (p != s.net.srcPort).toNat
    ({ s.setD Reg.NET_GM_ID gm with net := { s.net with srcPort := p } }).raise 146 bits

/-- Holdover begins (R25): EV125, with the last rate correction kept. -/
def State.enterHoldover (s : State) : State :=
  if s.getB Reg.CLK_TB_STAT 3 then s
  else ((s.setB Reg.CLK_TB_STAT 3 true).setB Reg.CLK_TB_STAT 2 false).raise 125 1

/-- MAX_CORR in the unit of CLK_TB_RATE, 0.1 ppb; 0 is taken as 1 ppm. -/
def State.maxCorr (s : State) : Nat := 10000 * max 1 (s.getF Reg.CLK_TB_SERVO 23 16)

/-- A valid sync message measured offset `off` (R23–R25, R296): the servo steers the rate within MAX_CORR, at the limit while
the offset exceeds the threshold; its law is open. Holdover ends. DESIGN CHOICE (log entry 190): a source that is ahead gives a
positive rate. -/
def State.servo (s : State) (off : Int) : State :=
  let big := decide (s.getF Reg.CLK_TB_STEP_THRESH 31 0 < off.natAbs)
  let lim := s.maxCorr
  let f := s.fresh
  let rate : Int := if big then (if 0 ≤ off then lim else -lim) else ((f.2.toNat % (2 * lim + 1) : Nat) : Int) - lim
  let s := if big then s else f.1
  let s := (s.setR Reg.CLK_TB_OFFSET (BitVec.ofInt 32 (max (-2147483648) (min 2147483647 off)))).setR Reg.CLK_TB_RATE (BitVec.ofInt 32 rate)
  let s := ((s.setB Reg.CLK_TB_STAT 4 big).setB Reg.CLK_TB_STAT 3 false).setB Reg.CLK_TB_STAT 2 true
  let s : State := { s.setB Reg.DEV_FAULT_SRC 2 false with net := { s.net with lastSync := s.time } }
  if big then s.raise 126 1 else s

/-! ### Steps (R22, R26–R28) -/

/-- TIME sent on every downstream lane (R372); `spec` 1 marks a step of the sender, which its slaves follow (R28). -/
def State.sendTime (s : State) (spec : Nat) : State :=
  let lanes := (List.range 8).filter (fun l => s.laneState l == 4)
  if lanes.isEmpty then s
  else
    let r := s.newMsg 1 0 spec [s.time]
    lanes.foldl (fun s l => s.sendMsg l r.2) r.1

/-- Device time takes `t` by a step (R26, R28): EV124 and COUNT; the downstream stations follow. Slews go on from where they
stand (R38), and running lock sequences keep their age. -/
def State.stepTo (s : State) (t : DWord) : State :=
  (((({ s.anchored t with time := t }).addF Reg.CLK_TB_STEP_CTL 31 16 1).raise 124 1).sendTime 1)

/-- A write of CLK_TB_CTL (R22): one that would leave SL_MASTER set with MODE SYNC changes neither. -/
def State.writeTbCtl (s : State) (w : Word) : State :=
  let old := s.getR Reg.CLK_TB_CTL
  let s1 := s.store Reg.CLK_TB_CTL w
  let s2 := if s1.isMaster && s1.tbMode == 2 then (s1.setB Reg.CLK_TB_CTL 4 (bitOf old 4)).setF Reg.CLK_TB_CTL 1 0 (fld old 1 0)
            else s1
  let s3 := if s2.tbMode = fld old 1 0 then s2
    else
      let t : State := { s2.setF Reg.CLK_TB_STAT 4 2 0 with net := { s2.net with lastSync := s2.time } }
      if t.tbMode = 0 then t.setR Reg.CLK_TB_RATE 0 else t
  let s4 := s3.updateSource
  if s4.isMaster = bitOf old 4 then s4 else s4.updateTree false

/-- CLK_TB_CTL_WRITE (R22). -/
def execClkTbCtlWrite (w : Word) (s : State) : Out := .next (s.writeTbCtl w)

/-- A step of `d` asked for, at the next tick (R26); it takes the place of one still waiting for that tick, whose command is
refused (log entry 19). -/
def State.askStep (s : State) (d : DWord) (c : Option CmdRef) : State :=
  let s := match s.clk.step with
    | some (_, some x) => s.finish x csBUSY []
    | _ => s
  { s with clk := { s.clk with step := some (d, c) } }

/-- A write of CLK_TB_STEP_CTL: REFUSED is W1C, and GO asks for the step in CLK_TB_STEP (R26). -/
def State.writeStepCtl (s : State) (w : Word) : State :=
  let s := s.store Reg.CLK_TB_STEP_CTL w
  if bitOf w 0 then s.askStep (s.getD Reg.CLK_TB_STEP) none else s

/-- TIME_STEP (R26): by GO, or by the command, whose reply follows the tick of the step. -/
def execTimeStep (v : Via) (s : State) : Out :=
  match v with
  | .reg w => .next (s.writeStepCtl w)
  | .cmd c =>
    match s.turn c 2 5 with
    | none => .next s
    | some x =>
      .next ((s.askStep (BitVec.ofNat 64 (beNat x.payload)) (some c)).awaitReply x)

/-- A Front is armed: ARMED, VOTED or COMMITTED (R275, R281). -/
def State.frontArmed (s : State) : Bool :=
  let st := s.getF Reg.CFG_FRONT_STAT 2 0
  st == 1 || st == 2 || st == 3

/-- TIME_STEP_APPLY (R26, R27): at the first tick after GO the offset is added to device time, or the step is refused
while a Front is armed or DEGRADED is set. -/
def execTimeStepApply (s : State) : Out :=
  match s.clk.step with
  | none => .next s
  | some (d, c) =>
    if !s.timeRuns then .next s
    else
      let s1 : State := { s with clk := { s.clk with step := none } }
      if s1.frontArmed || s1.degraded then
        .next ((s1.setB Reg.CLK_TB_STEP_CTL 1 true).finishOpt c csBUSY [])
      else
        let s2 := s1.stepTo (s1.time + d)
        .next (s2.finishOpt c csOK (beBytes 2 (s2.getF Reg.CLK_TB_STEP_CTL 31 16)))

end Sys2Proof.Machine
end

