-- ==== Sys2Proof/Machine/Float.lean ====
section
/-!
DEFINITION. Sys2Proof/Machine/Float.lean: IEEE 754-2019 binary32 and binary64 arithmetic as R130 and R136 use it: exact
integer significands, one rounding, the five exceptions, subnormals unless FTZ, every NaN result the canonical one.
-/
namespace Sys2Proof.Machine

/-- A binary format: exponent bits and fraction bits. -/
structure FFmt where
  eb : Nat
  mb : Nat
deriving DecidableEq, Repr

/-- binary32. -/
def fS : FFmt := ⟨8, 23⟩
/-- binary64. -/
def fD : FFmt := ⟨11, 52⟩

/-- A decoded value: a NaN (signalling or not), an infinity, or (−1)^neg × m × 2^e. -/
inductive FVal where
  | nan (signalling : Bool)
  | inf (neg : Bool)
  | num (neg : Bool) (m : Nat) (e : Int)
deriving DecidableEq, Repr

/-- Rounding mode RM and FTZ of FPCSR (R130). -/
structure FEnv where
  /-- 0 to nearest even, 1 toward zero, 2 down, 3 up. -/
  rm  : Nat := 0
  ftz : Bool := false
deriving DecidableEq, Repr

/-- A result and the exceptions it raised, as the bits of FPCSR.STICKY. -/
structure FRes where
  bits  : Nat
  flags : Nat := 0
deriving DecidableEq, Repr

/-- STICKY bits (R130). -/
def fNV : Nat := 16
def fDZ : Nat := 8
def fOF : Nat := 4
def fUF : Nat := 2
def fNX : Nat := 1

namespace FFmt
/-- The exponent bias. -/
def bias (f : FFmt) : Int := 2 ^ (f.eb - 1) - 1
/-- The largest biased exponent, that of infinities and NaNs. -/
def emax (f : FFmt) : Nat := 2 ^ f.eb - 1
/-- The canonical quiet NaN (R130). -/
def qnan (f : FFmt) : Nat := f.emax <<< f.mb + 2 ^ (f.mb - 1)
/-- The sign bit as a number. -/
def signBit (f : FFmt) (neg : Bool) : Nat := if neg then 2 ^ (f.eb + f.mb) else 0
/-- An infinity. -/
def infBits (f : FFmt) (neg : Bool) : Nat := f.signBit neg + f.emax <<< f.mb
end FFmt

/-- The value that the bits of a format spell; with FTZ a subnormal operand reads as zero (R130). -/
def fDecode (f : FFmt) (ftz : Bool) (bits : Nat) : FVal :=
  let neg := bits.testBit (f.eb + f.mb)
  let ex := (bits >>> f.mb) % 2 ^ f.eb
  let fr := bits % 2 ^ f.mb
  if ex = f.emax then (if fr = 0 then .inf neg else .nan (!fr.testBit (f.mb - 1)))
  else if ex = 0 then .num neg (if ftz then 0 else fr) (1 - f.bias - f.mb)
  else .num neg (2 ^ f.mb + fr) (ex - f.bias - f.mb)

/-- Number of bits of a significand. -/
def bitLen (m : Nat) : Nat := if m = 0 then 0 else Nat.log2 m + 1

/-- Whether a discarded part of `rem` out of 2^sh rounds the magnitude up. -/
def roundsUp (rm : Nat) (neg odd : Bool) (rem sh : Nat) : Bool :=
  if rem = 0 then false
  else match rm with
    | 0 => decide (2 ^ sh < 2 * rem) || (decide (2 ^ sh = 2 * rem) && odd)
    | 1 => false
    | 2 => neg
    | _ => !neg

/-- `m` × 2^−sh rounded to an integer, and whether it was inexact. -/
def roundShift (rm : Nat) (neg : Bool) (m : Nat) (sh : Int) : Nat × Bool :=
  if sh ≤ 0 then (m <<< (-sh).toNat, false)
  else
    let k := sh.toNat
    let q := m >>> k
    let rem := m % 2 ^ k
    (if roundsUp rm neg (q % 2 = 1) rem k then q + 1 else q, decide (rem ≠ 0))

/-- The bits of (−1)^neg × m × 2^e in format `f`, rounded once under the environment. The lowest bit of `m` may
stand for a discarded remainder (a sticky bit) where `m` has at least three bits more than the format. -/
def fPack (f : FFmt) (env : FEnv) (neg : Bool) (m : Nat) (e : Int) : FRes :=
  if m = 0 then ⟨f.signBit neg, 0⟩
  else
    let top : Int := e + bitLen m - 1
    let emin : Int := 1 - f.bias
    let qn : Int := top - f.mb
    let qs : Int := emin - f.mb
    let q := if qn < qs then qs else qn
    let r := roundShift env.rm neg m (q - e)
    let carry := decide (r.1 = 2 ^ (f.mb + 1))
    let mant := if carry then 2 ^ f.mb else r.1
    let q := if carry then q + 1 else q
    let u := roundShift env.rm neg m (qn - e)
    let tiny := decide (top < emin) &&
      (Config.tinyBeforeRounding || !(decide (top = emin - 1) && decide (u.1 = 2 ^ (f.mb + 1))))
    if mant < 2 ^ f.mb then
      if env.ftz && decide (mant ≠ 0) then ⟨f.signBit neg, fUF + fNX⟩
      else ⟨f.signBit neg + mant, if r.2 then (if tiny then fUF + fNX else fNX) else 0⟩
    else
      let be : Int := q + f.mb + f.bias
      if be ≥ f.emax then
        let toInf := match env.rm with
          | 0 => true
          | 1 => false
          | 2 => neg
          | _ => !neg
        ⟨if toInf then f.infBits neg else f.infBits neg - 1, fOF + fNX⟩
      else
        ⟨f.signBit neg + be.toNat <<< f.mb + (mant - 2 ^ f.mb),
         if r.2 then (if tiny then fUF + fNX else fNX) else 0⟩

/-- A NaN result; NV when an operand was signalling. -/
def fNanOf (f : FFmt) (sig : Bool) : FRes := ⟨f.qnan, if sig then fNV else 0⟩
/-- The NaN of an invalid operation. -/
def fInvalid (f : FFmt) : FRes := ⟨f.qnan, fNV⟩

/-- A signed exact sum a·2^ea + b·2^eb as an integer at the smaller exponent. -/
def exactSum (na : Bool) (a : Nat) (ea : Int) (nb : Bool) (b : Nat) (eb : Int) : Int × Int :=
  let e := if ea < eb then ea else eb
  let x : Int := (a <<< (ea - e).toNat : Nat)
  let y : Int := (b <<< (eb - e).toNat : Nat)
  ((if na then -x else x) + (if nb then -y else y), e)

/-- An exact sum packed; an exact zero of two non-zero or unlike-signed terms is +0, or −0 rounding down. -/
def packSum (f : FFmt) (env : FEnv) (na : Bool) (a : Nat) (ea : Int) (nb : Bool) (b : Nat) (eb : Int) : FRes :=
  let s := exactSum na a ea nb b eb
  if s.1 = 0 then ⟨f.signBit (if na = nb then na else decide (env.rm = 2)), 0⟩
  else fPack f env (decide (s.1 < 0)) s.1.natAbs s.2

/-- ra × rb + rc with one rounding; addition and multiplication are its special cases (R136). -/
def fFmaV (f : FFmt) (env : FEnv) (x y z : FVal) : FRes :=
  match x, y, z with
  | .nan a, .nan b, .nan c => fNanOf f (a || b || c)
  | .nan a, .nan b, _ => fNanOf f (a || b)
  | .nan a, _, .nan c => fNanOf f (a || c)
  | _, .nan b, .nan c => fNanOf f (b || c)
  | .nan a, _, _ => fNanOf f a
  | _, .nan b, _ => fNanOf f b
  | .inf n, .inf m, z => infAdd f (n != m) z
  | .inf n, .num m k _, z => if k = 0 then nanZ f z else infAdd f (n != m) z
  | .num n k _, .inf m, z => if k = 0 then nanZ f z else infAdd f (n != m) z
  | .num _ _ _, .num _ _ _, .nan c => fNanOf f c
  | .num _ _ _, .num _ _ _, .inf n => ⟨f.infBits n, 0⟩
  | .num n a ea, .num m b eb, .num l c ec => packSum f env (n != m) (a * b) (ea + eb) l c ec
where
  /-- An infinite product plus z. -/
  infAdd (f : FFmt) (n : Bool) : FVal → FRes
    | .nan c => fNanOf f c
    | .inf m => if n = m then ⟨f.infBits n, 0⟩ else fInvalid f
    | .num _ _ _ => ⟨f.infBits n, 0⟩
  /-- 0 × infinity, plus z. -/
  nanZ (f : FFmt) : FVal → FRes
    | _ => fInvalid f

/-- ra + rb. -/
def fAddV (f : FFmt) (env : FEnv) (x y : FVal) : FRes :=
  match x, y with
  | .nan a, .nan b => fNanOf f (a || b)
  | .nan a, _ => fNanOf f a
  | _, .nan b => fNanOf f b
  | .inf n, .inf m => if n = m then ⟨f.infBits n, 0⟩ else fInvalid f
  | .inf n, _ => ⟨f.infBits n, 0⟩
  | _, .inf m => ⟨f.infBits m, 0⟩
  | .num n a ea, .num m b eb => packSum f env n a ea m b eb

/-- The value with its sign changed. -/
def FVal.negate : FVal → FVal
  | .nan s => .nan s
  | .inf n => .inf (!n)
  | .num n m e => .num (!n) m e

/-- ra × rb. -/
def fMulV (f : FFmt) (env : FEnv) (x y : FVal) : FRes :=
  match x, y with
  | .nan a, .nan b => fNanOf f (a || b)
  | .nan a, _ => fNanOf f a
  | _, .nan b => fNanOf f b
  | .inf n, .inf m => ⟨f.infBits (n != m), 0⟩
  | .inf n, .num m k _ => if k = 0 then fInvalid f else ⟨f.infBits (n != m), 0⟩
  | .num n k _, .inf m => if k = 0 then fInvalid f else ⟨f.infBits (n != m), 0⟩
  | .num n a ea, .num m b eb => fPack f env (n != m) (a * b) (ea + eb)

/-- A quotient a·2^ea / b (b not 0), with enough bits for one rounding and the remainder in the lowest bit. -/
def packQuot (f : FFmt) (env : FEnv) (neg : Bool) (a : Nat) (ea : Int) (b : Nat) : FRes :=
  let k := f.mb + 4 + bitLen b
  let n := a <<< k
  let q := n / b
  fPack f env neg (2 * q + (if n % b = 0 then 0 else 1)) (ea - k - 1)

/-- ra / rb. -/
def fDivV (f : FFmt) (env : FEnv) (x y : FVal) : FRes :=
  match x, y with
  | .nan a, .nan b => fNanOf f (a || b)
  | .nan a, _ => fNanOf f a
  | _, .nan b => fNanOf f b
  | .inf _, .inf _ => fInvalid f
  | .inf n, .num m _ _ => ⟨f.infBits (n != m), 0⟩
  | .num n _ _, .inf m => ⟨f.signBit (n != m), 0⟩
  | .num n a ea, .num m b eb =>
    if b = 0 then (if a = 0 then fInvalid f else ⟨f.infBits (n != m), fDZ⟩)
    else packQuot f env (n != m) a (ea - eb) b

/-- The integer square root of `m`, found bit by bit from bit `k` − 1 down. -/
def isqrt : Nat → Nat → Nat → Nat
  | 0, _, r => r
  | k + 1, m, r => isqrt k m (if (r + 2 ^ k) * (r + 2 ^ k) ≤ m then r + 2 ^ k else r)

/-- The square root of ra. -/
def fSqrtV (f : FFmt) (env : FEnv) (x : FVal) : FRes :=
  match x with
  | .nan s => fNanOf f s
  | .inf n => if n then fInvalid f else ⟨f.infBits false, 0⟩
  | .num n m e =>
    if m = 0 then ⟨f.signBit n, 0⟩
    else if n then fInvalid f
    else
      let k0 := 2 * (f.mb + 4)
      let k := if (e - k0) % 2 = 0 then k0 else k0 + 1
      let w := m <<< k
      let r := isqrt (bitLen w / 2 + 1) w 0
      fPack f env false (2 * r + (if r * r = w then 0 else 1)) ((e - k) / 2 - 1)

/-- −1, 0, 1 as x is less than, equal to, greater than y; none where unordered (R136, FCMP). -/
def fOrder (x y : FVal) : Option Int :=
  match x, y with
  | .nan _, _ => none
  | _, .nan _ => none
  | .inf n, .inf m => some (if n = m then 0 else if n then -1 else 1)
  | .inf n, _ => some (if n then -1 else 1)
  | _, .inf m => some (if m then 1 else -1)
  | .num n a ea, .num m b eb =>
    let s := (exactSum n a ea (!m) b eb).1
    some (if s < 0 then -1 else if s = 0 then 0 else 1)

/-- Whether a value is a signalling NaN. -/
def FVal.isSig : FVal → Bool
  | .nan s => s
  | _ => false
/-- Whether a value is a NaN. -/
def FVal.isNan : FVal → Bool
  | .nan _ => true
  | _ => false
/-- The sign of a value (false for a NaN). -/
def FVal.isNeg : FVal → Bool
  | .nan _ => false
  | .inf n => n
  | .num n _ _ => n

/-- A value packed again without rounding (it came from the format). -/
def fRepack (f : FFmt) (env : FEnv) (x : FVal) : Nat :=
  match x with
  | .nan _ => f.qnan
  | .inf n => f.infBits n
  | .num n m e => (fPack f { env with ftz := false } n m e).bits

/-- minimumNumber (`mx` false) and maximumNumber (`mx` true) of IEEE 754-2019: a number before a NaN, −0 before +0. -/
def fMinMax (f : FFmt) (env : FEnv) (mx : Bool) (x y : FVal) : FRes :=
  let fl := if x.isSig || y.isSig then fNV else 0
  match x, y with
  | .nan _, .nan _ => ⟨f.qnan, fl⟩
  | .nan _, v => ⟨fRepack f env v, fl⟩
  | v, .nan _ => ⟨fRepack f env v, fl⟩
  | _, _ =>
    let lessXY := match fOrder x y with
      | some o => decide (o < 0) || (decide (o = 0) && x.isNeg && !y.isNeg)
      | none => false
    ⟨fRepack f env (if lessXY != mx then x else y), fl⟩

/-- A value of one format in another, rounded once. -/
def fConvert (g : FFmt) (env : FEnv) (x : FVal) : FRes :=
  match x with
  | .nan s => fNanOf g s
  | .inf n => ⟨g.infBits n, 0⟩
  | .num n m e => fPack g env n m e

/-- An integer times 2^−sh as a binary value, rounded once. -/
def fOfInt (g : FFmt) (env : FEnv) (i : Int) (sh : Nat) : FRes :=
  fPack g env (decide (i < 0)) i.natAbs (-(sh : Int))

/-- A binary value times 2^sh as a signed 64-bit integer: rounded under RM, saturated with NV when out of range, a NaN
as 0 with NV (R130). -/
def fToInt (env : FEnv) (sh : Nat) (x : FVal) : FRes :=
  let big : Nat := 2 ^ 63
  match x with
  | .nan _ => ⟨0, fNV⟩
  | .inf n => ⟨if n then big else big - 1, fNV⟩
  | .num n m e =>
    if (e + sh) > 64 ∧ m ≠ 0 then ⟨if n then big else big - 1, fNV⟩
    else
      let r := roundShift env.rm n m (-(e + sh))
      let v : Int := if n then -(r.1 : Int) else r.1
      if v < -(big : Int) then ⟨big, fNV⟩
      else if v > (big : Int) - 1 then ⟨big - 1, fNV⟩
      else ⟨(dw v).toNat, if r.2 then fNX else 0⟩

/-- A rational i / d (d not 0) as a binary value, rounded once to nearest even. -/
def fOfRat (g : FFmt) (i : Int) (d : Nat) : Nat :=
  if i = 0 then 0 else (packQuot g {} (decide (i < 0)) i.natAbs 0 d).bits

/-! ### binary32 and binary64 to nearest even, ignoring FPCSR: the arithmetic of the units (R159, R169, R170) -/

/-- binary32 of a unit register. -/
def sVal (b : Nat) : FVal := fDecode fS false b
/-- binary64 of the trajectory unit. -/
def dVal (b : Nat) : FVal := fDecode fD false b
def sAdd (a b : Nat) : Nat := (fAddV fS {} (sVal a) (sVal b)).bits
def sSub (a b : Nat) : Nat := (fAddV fS {} (sVal a) (sVal b).negate).bits
def sMul (a b : Nat) : Nat := (fMulV fS {} (sVal a) (sVal b)).bits
def sFma (a b c : Nat) : Nat := (fFmaV fS {} (sVal a) (sVal b) (sVal c)).bits
def sNeg (a : Nat) : Nat := if (sVal a).isNan then fS.qnan else a ^^^ 0x80000000
def sIsNan (a : Nat) : Bool := (sVal a).isNan
/-- a < b, false where unordered. -/
def sLt (a b : Nat) : Bool := match fOrder (sVal a) (sVal b) with
  | some o => decide (o < 0)
  | none => false
/-- `x` held to [lo, hi]. -/
def sClamp (x lo hi : Nat) : Nat := if sLt x lo then lo else if sLt hi x then hi else x
def dAdd (a b : Nat) : Nat := (fAddV fD {} (dVal a) (dVal b)).bits
def dSub (a b : Nat) : Nat := (fAddV fD {} (dVal a) (dVal b).negate).bits
def dMul (a b : Nat) : Nat := (fMulV fD {} (dVal a) (dVal b)).bits
def dDiv (a b : Nat) : Nat := (fDivV fD {} (dVal a) (dVal b)).bits
def dSqrt (a : Nat) : Nat := (fSqrtV fD {} (dVal a)).bits
def dNeg (a : Nat) : Nat := dSub 0 a
def dLt (a b : Nat) : Bool := match fOrder (dVal a) (dVal b) with
  | some o => decide (o < 0)
  | none => false
/-- binary32 to binary64, exact. -/
def sToD (a : Nat) : Nat := (fConvert fD {} (sVal a)).bits
/-- binary64 to binary32, to nearest even. -/
def dToS (a : Nat) : Nat := (fConvert fS {} (dVal a)).bits
/-- binary64 to Q32.32, to nearest even, saturating. -/
def dToQ (a : Nat) : DWord := BitVec.ofNat 64 (fToInt {} 32 (dVal a)).bits
/-- Finite and greater than zero. -/
def sPositive (a : Nat) : Bool := match sVal a with
  | .num n m _ => !n && decide (m ≠ 0)
  | _ => false

end Sys2Proof.Machine
end

