-- ==== Sys2Proof/Machine/Flags.lean ====
section
/-!
DEFINITION. Sys2Proof/Machine/Flags.lean: the integer and floating-point functions of the engines with every flag they
write (R128–R130, R135, R136), and the conditions of BCC and SEL. Pure functions of their operands.
-/
namespace Sys2Proof.Machine

/-- N, Z, C, V (R127, s7). -/
structure Nzcv where
  n : Bool
  z : Bool
  c : Bool
  v : Bool
deriving DecidableEq, Repr

/-- A result and the flags it writes; `none` for a flag it leaves (R135). -/
structure AluRes where
  val : Option DWord
  n   : Option Bool := none
  z   : Option Bool := none
  c   : Option Bool := none
  v   : Option Bool := none
deriving DecidableEq, Repr

/-- The sign bit. -/
def sgn (x : DWord) : Bool := x.msb

/-- Condition `c` over the flags (R135); code 0xF is reserved and never reaches here. -/
def condHolds (c : Nat) (f : Nzcv) : Bool :=
  match c with
  | 0x0 => f.z
  | 0x1 => !f.z
  | 0x2 => f.c
  | 0x3 => !f.c
  | 0x4 => f.n
  | 0x5 => !f.n
  | 0x6 => f.v
  | 0x7 => !f.v
  | 0x8 => f.c && !f.z
  | 0x9 => !f.c || f.z
  | 0xA => f.n == f.v
  | 0xB => f.n != f.v
  | 0xC => !f.z && (f.n == f.v)
  | 0xD => f.z || (f.n != f.v)
  | _ => true

/-- A result that writes N and Z from itself. -/
def resNZ (r : DWord) : AluRes := { val := some r, n := some (sgn r), z := some (decide (r = 0)) }

/-- a + b + carry, with NZCV. -/
def addRes (a b : DWord) (cin : Bool) : AluRes :=
  let s := a.toNat + b.toNat + cin.toNat
  let r : DWord := BitVec.ofNat 64 s
  { resNZ r with c := some (decide (2 ^ 64 ≤ s)), v := some (decide (a.toInt + b.toInt + cin.toNat ≠ r.toInt)) }

/-- a − b − borrow, with NZCV: C is 1 when no borrow occurred (R135). -/
def subRes (a b : DWord) (borrow : Bool) : AluRes :=
  let r : DWord := a - b - BitVec.ofNat 64 borrow.toNat
  { resNZ r with c := some (decide (b.toNat + borrow.toNat ≤ a.toNat)),
                 v := some (decide (a.toInt - b.toInt - borrow.toNat ≠ r.toInt)) }

/-- A logical result: N and Z, C and V cleared. -/
def logicRes (r : DWord) : AluRes := { resNZ r with c := some false, v := some false }

/-- A shifted result: N and Z, C the last bit shifted out, 0 for a count of 0 (R135). -/
def shiftRes (r : DWord) (count : Nat) (last : Bool) : AluRes :=
  { resNZ r with c := some (decide (count ≠ 0) && last) }

/-- SLL, SRL, SRA, ROR by 0–63, kinds 0–3 (R133 SHI, R135). -/
def shiftFn (kind : Nat) (a : DWord) (k : Nat) : AluRes :=
  match kind with
  | 0 => shiftRes (a <<< k) k (a.getLsbD (64 - k))
  | 1 => shiftRes (a >>> k) k (a.getLsbD (k - 1))
  | 2 => shiftRes (a.sshiftRight k) k (a.getLsbD (k - 1))
  | _ => shiftRes (a.rotateRight k) k (a.getLsbD (k - 1))

/-- A signed exact integer held to 64 bits: the value and whether it saturated (R129, ADDS, SUBS). -/
def satInt (i : Int) : DWord × Bool :=
  if i < -(2 ^ 63 : Int) then (BitVec.ofNat 64 (2 ^ 63), true)
  else if i > (2 ^ 63 : Int) - 1 then (BitVec.ofNat 64 (2 ^ 63 - 1), true)
  else (dw i, false)

/-- N, Z and V of a result. -/
def resNZV (r : DWord) (v : Bool) : AluRes := { resNZ r with v := some v }

/-- QMUL (R129): bits [95:32] of the exact product plus 2^31, saturated. -/
def qmulRes (a b : DWord) : AluRes :=
  let p := satInt ((a.toInt * b.toInt + 2 ^ 31).fdiv (2 ^ 32))
  resNZV p.1 p.2

/-- DIV, DIVU, REM, REMU, kinds 0–3 (R129, R135). -/
def divRes (kind : Nat) (a b : DWord) : AluRes :=
  if b = 0 then resNZV (if kind < 2 then 0 else a) true
  else match kind with
    | 0 => resNZV (dw (a.toInt.tdiv b.toInt)) (decide (a = BitVec.ofNat 64 (2 ^ 63) ∧ b = BitVec.ofNat 64 (2 ^ 64 - 1)))
    | 1 => resNZV (a / b) false
    | 2 => resNZV (dw (a.toInt.tmod b.toInt)) (decide (a = BitVec.ofNat 64 (2 ^ 63) ∧ b = BitVec.ofNat 64 (2 ^ 64 - 1)))
    | _ => resNZV (a % b) false

/-- Number of leading zeros of a 64-bit value (R135, CLZ). -/
def clz (a : DWord) : Nat := 64 - (if a = 0 then 0 else Nat.log2 a.toNat + 1)

/-- Number of set bits (R135, POPC). -/
def popc (a : DWord) : Nat := (bitsSet 64 a.toNat).length

/-- The ALU functions (R135) except SEL; none for a function number the table does not list. -/
def aluFn (fn : Nat) (a b : DWord) (f : Nzcv) : Option AluRes :=
  match fn with
  | 0x00 => some (addRes a b false)
  | 0x01 => some (subRes a b false)
  | 0x02 => some (addRes a b f.c)
  | 0x03 => some (subRes a b (!f.c))
  | 0x04 => some (logicRes (a &&& b))
  | 0x05 => some (logicRes (a ||| b))
  | 0x06 => some (logicRes (a ^^^ b))
  | 0x07 => some (logicRes (a &&& ~~~b))
  | 0x08 => some (shiftFn 0 a (b.toNat % 64))
  | 0x09 => some (shiftFn 1 a (b.toNat % 64))
  | 0x0A => some (shiftFn 2 a (b.toNat % 64))
  | 0x0B => some (shiftFn 3 a (b.toNat % 64))
  | 0x0C => some { subRes a b false with val := none }
  | 0x0D => some { logicRes (a &&& b) with val := none }
  | 0x0E => some (resNZ (if a.toInt < b.toInt then a else b))
  | 0x0F => some (resNZ (if a.toInt < b.toInt then b else a))
  | 0x10 => some (resNZ (if a.toNat < b.toNat then a else b))
  | 0x11 => some (resNZ (if a.toNat < b.toNat then b else a))
  | 0x12 => some (resNZV (if a.toInt < 0 then -a else a) (decide (a = BitVec.ofNat 64 (2 ^ 63))))
  | 0x13 => some (resNZV (-a) (decide (a = BitVec.ofNat 64 (2 ^ 63))))
  | 0x14 => some { val := some (BitVec.ofNat 64 (clz a)), z := some (decide (clz a = 0)) }
  | 0x15 => some { val := some (BitVec.ofNat 64 (popc a)), z := some (decide (popc a = 0)) }
  | 0x18 => some (resNZ (a * b))
  | 0x19 => some (resNZ (dw ((a.toInt * b.toInt).fdiv (2 ^ 64))))
  | 0x1A => some (resNZ (BitVec.ofNat 64 (a.toNat * b.toNat / 2 ^ 64)))
  | 0x1B => some (qmulRes a b)
  | 0x1C => some (divRes 0 a b)
  | 0x1D => some (divRes 1 a b)
  | 0x1E => some (divRes 2 a b)
  | 0x1F => some (divRes 3 a b)
  | 0x20 => let p := satInt (a.toInt + b.toInt); some (resNZV p.1 p.2)
  | 0x21 => let p := satInt (a.toInt - b.toInt); some (resNZV p.1 p.2)
  | _ => none

/-- CMP and TST write their flags whatever S says (R135). -/
def aluAlwaysFlags (fn : Nat) : Bool := fn == 0x0C || fn == 0x0D

/-! ### Floating point (R130, R136) -/

/-- The environment that FPCSR sets (R130). -/
def fpEnv (fpcsr : Word) : FEnv := { rm := fld fpcsr 22 21, ftz := bitOf fpcsr 23 }

/-- What an FPU function answers: a result, the exceptions raised, and flags for FCMP. -/
structure FpuRes where
  val   : Option Nat
  exc   : Nat := 0
  flags : Option Nzcv := none
deriving DecidableEq, Repr

/-- A floating-point result. -/
def fpuVal (r : FRes) : FpuRes := { val := some r.bits, exc := r.flags }

/-- FCMP (R136). -/
def fcmpRes (x y : FVal) : FpuRes :=
  let o := fOrder x y
  { val := none, exc := if x.isSig || y.isSig then fNV else 0
    flags := some { n := o == some (-1), z := o == some 0, c := o == some 0 || o == some 1, v := o.isNone } }

/-- FABS and FNEG: the sign of a number set or inverted; a NaN gives the canonical NaN (R130), and
no exception is signalled, as IEEE 754 has it of abs and negate. -/
def fSignFn (f : FFmt) (env : FEnv) (neg : Bool) (x : FVal) : FRes :=
  match x with
  | .nan _ => fNanOf f false
  | v => ⟨fRepack f env (if neg then v.negate else if v.isNeg then v.negate else v), 0⟩

/-- The FPU functions of one format: 0 add, 1 sub, 2 mul, 3 div, 4 sqrt, 5 min, 6 max, 7 abs, 8 neg, 9 cmp. -/
def fpuArith (f : FFmt) (env : FEnv) (k a b : Nat) : FpuRes :=
  let x := fDecode f env.ftz a
  let y := fDecode f env.ftz b
  match k with
  | 0 => fpuVal (fAddV f env x y)
  | 1 => fpuVal (fAddV f env x y.negate)
  | 2 => fpuVal (fMulV f env x y)
  | 3 => fpuVal (fDivV f env x y)
  | 4 => fpuVal (fSqrtV f env x)
  | 5 => fpuVal (fMinMax f env false x y)
  | 6 => fpuVal (fMinMax f env true x y)
  | 7 => fpuVal (fSignFn f env false x)
  | 8 => fpuVal (fSignFn f env true x)
  | _ => fcmpRes x y

/-- The FPU functions (R136); none for a function number the table does not list. -/
def fpuFn (fn : Nat) (env : FEnv) (a b : DWord) : Option FpuRes :=
  let a32 := a.toNat % 2 ^ 32
  let b32 := b.toNat % 2 ^ 32
  if fn ≤ 9 then some (fpuArith fS env fn a32 b32)
  else if 0x10 ≤ fn ∧ fn ≤ 0x12 ∨ 0x15 ≤ fn ∧ fn ≤ 0x19 then some (fpuArith fD env (fn - 0x10) a.toNat b.toNat)
  else match fn with
    | 0x20 => some (fpuVal (fConvert fS env (fDecode fD env.ftz a.toNat)))
    | 0x21 => some (fpuVal (fConvert fD env (fDecode fS env.ftz a32)))
    | 0x22 => some (fpuVal (fOfInt fS env a.toInt 0))
    | 0x23 => some (fpuVal (fToInt env 0 (fDecode fS env.ftz a32)))
    | 0x24 => some (fpuVal (fOfInt fD env a.toInt 0))
    | 0x25 => some (fpuVal (fToInt env 0 (fDecode fD env.ftz a.toNat)))
    | 0x26 => some (fpuVal (fOfInt fS env a.toInt 32))
    | 0x27 => some (fpuVal (fToInt env 32 (fDecode fS env.ftz a32)))
    | 0x28 => some (fpuVal (fOfInt fD env a.toInt 32))
    | 0x29 => some (fpuVal (fToInt env 32 (fDecode fD env.ftz a.toNat)))
    | _ => none

/-- The FMA variants 0–3 (R136): FMADD, FMSUB, FNMADD, FNMSUB. -/
def fmaFn (fn : Nat) (env : FEnv) (a b c : DWord) : FpuRes :=
  let x := fDecode fS env.ftz (a.toNat % 2 ^ 32)
  let y := fDecode fS env.ftz (b.toNat % 2 ^ 32)
  let z := fDecode fS env.ftz (c.toNat % 2 ^ 32)
  fpuVal (fFmaV fS env (if fn < 2 then x else x.negate) y (if fn % 2 = 0 then z else z.negate))

end Sys2Proof.Machine
end

