-- ==== Sys2Proof/Machine/Units.lean ====
section
/-!
DEFINITION. Sys2Proof/Machine/Units.lean: the five hardened motion units of a logical engine (06_motion_units_and_axis_io.md,
R157–R171) as functions of the state that the checkpoint holds.
-/
namespace Sys2Proof.Machine

/-- Reset value of register `k % 256` of unit `k / 256` (R157, R169, R171). -/
def unitReset (k : Nat) : DWord :=
  match k / 256, k % 256 with
  | 2, r => if r % 16 = 4 ∨ r % 16 = 6 then 0xFF800000 else if r % 16 = 5 ∨ r % 16 = 7 then 0x7F800000 else 0
  | 4, 0 => 0x8000000000000000
  | 4, 1 => 0x7FFFFFFFFFFFFFFF
  | 4, 2 => 0x7F800000
  | 4, 3 => 0x7FFFFFFFFFFFFFFF
  | _, _ => 0

/-- Register `r` of unit `u` (0–4). -/
def EngCore.unit (c : EngCore) (u r : Nat) : DWord := tabGet unitReset c.units (256 * u + r)

/-- The core with register `r` of unit `u` holding `v`. -/
def EngCore.setUnit (c : EngCore) (u r : Nat) (v : DWord) : EngCore :=
  { c with units := tabPut unitReset c.units (256 * u + r) v }

/-- A binary32 register of a unit: [31:0] of its 64 bits (R157). -/
def EngCore.unitS (c : EngCore) (u r : Nat) : Nat := (c.unit u r).toNat % 2 ^ 32

/-- Whether a unit's register holds a binary32 (R157: UWR ignores [63:32] of it). -/
def unitIsS (u r : Nat) : Bool :=
  match u with
  | 0 => (decide (1 ≤ r) && decide (r ≤ 5)) || r == 9 || r == 10
  | 1 => r == 2 || r == 11
  | 2 => r % 16 != 12
  | 3 => r != 0x20
  | 4 => r == 2 || r == 6
  | _ => false

/-- The bits of a unit register that hold a value: reserved bits of the control registers read 0 (R6). -/
def unitMask (u r : Nat) : DWord :=
  if unitIsS u r then 0xFFFFFFFF
  else match u, r with
    | 1, 0 => 0xFF
    | 2, r => if r % 16 = 12 then 1 else 0xFFFFFFFFFFFFFFFF
    | 3, 0x20 => 1
    | 4, 7 => 0x3F
    | 4, 8 => 0x3F
    | _, _ => 0xFFFFFFFFFFFFFFFF

/-! ### TRJ (unit 0; R149, R159, R160) -/

/-- TRJ state: 0 IDLE, 1 MOVING, 2 STOPPING, 3 QSTOPPING. -/
def EngCore.trjState (c : EngCore) : Nat := (c.unit 0 0x0B).toNat % 8

/-- STAT from state, WERR and segment. -/
def trjStat (state : Nat) (werr : Bool) (seg : Nat) : DWord := BitVec.ofNat 64 (state + 8 * werr.toNat + 16 * min seg 6)

/-- PERIOD in seconds as binary64 (R158). -/
def periodD (period : Nat) : Nat := fOfRat fD (period : Int) 64000000000

/-- Kinematics over `dt` at constant jerk, in binary64: increment of position, new speed, new acceleration (R159). -/
def kinematics (v a j dt : Nat) : Nat × Nat × Nat :=
  let half := 0x3FE0000000000000
  let sixth := fOfRat fD 1 6
  let inc := dMul dt (dAdd v (dMul dt (dAdd (dMul half a) (dMul dt (dMul sixth j)))))
  (inc, dAdd v (dMul dt (dAdd a (dMul half (dMul dt j)))), dAdd a (dMul dt j))

/-! The plan of a move (R159): two changes of speed, each of a jerk, a zero-jerk and an opposite-jerk segment, with the cruise between them.
Its numbers are binary64 (log entry 180). -/

/-- The larger, and the smaller, of two binary64 numbers; the absolute value. -/
def dMax (a b : Nat) : Nat := if dLt a b then b else a
def dMin (a b : Nat) : Nat := if dLt a b then a else b
def dAbs (a : Nat) : Nat := if dLt a 0 then dNeg a else a

/-- The change of speed from `v0` at acceleration `a0` to `v1` at none, within acceleration `am` and jerk `jm`: length and jerk of its three
segments. The peak acceleration is lowered where `am` is not reached, and the zero-jerk segment then has no length. -/
def speedChange (v0 a0 v1 am jm : Nat) : List (Nat × Nat) :=
  let half := 0x3FE0000000000000
  let rest := dAdd v0 (dMul half (dDiv (dMul a0 (dAbs a0)) jm))
  let down := dLt v1 rest
  let sgn := fun (x : Nat) => if down then dNeg x else x
  let a := sgn a0
  let dv := sgn (dSub v1 v0)
  let aa := dMul half (dMul a a)
  let peak := dMin am (dSqrt (dMax 0 (dAdd (dMul jm dv) aa)))
  let ramp := dSub peak a
  let t1 := dDiv (dAbs ramp) jm
  let t3 := dDiv peak jm
  let v12 := dDiv (dAbs (dSub (dMul half (dMul peak peak)) aa)) jm
  let v1st := if dLt ramp 0 then dNeg v12 else v12
  let left := dSub (dSub dv v1st) (dDiv (dMul half (dMul peak peak)) jm)
  let t2 := if dLt 0 peak then dMax 0 (dDiv left peak) else 0
  [(t1, sgn (if dLt ramp 0 then dNeg jm else jm)), (t2, 0), (t3, sgn (dNeg jm))]

/-- How far a list of segments goes from speed `v` and acceleration `a`. -/
def planDistance : List (Nat × Nat) → Nat → Nat → Nat
  | [], _, _ => 0
  | (len, j) :: l, v, a =>
    let r := kinematics v a j len
    dAdd r.1 (planDistance l r.2.1 r.2.2)

/-- How far a move with peak speed `vp` and no cruise goes. -/
def peakDistance (v0 a0 vp am jm : Nat) : Nat :=
  dAdd (planDistance (speedChange v0 a0 vp am jm) v0 a0) (planDistance (speedChange vp 0 0 am jm) vp 0)

/-- The lowered peak speed between `lo` and `hi` with which a move goes the distance `d`: the distance rises with it. -/
def lowerPeak (v0 a0 d am jm : Nat) : Nat → Nat → Nat → Nat
  | 0, lo, _ => lo
  | k + 1, lo, hi =>
    let mid := dMul 0x3FE0000000000000 (dAdd lo hi)
    if dLt d (peakDistance v0 a0 mid am jm) then lowerPeak v0 a0 d am jm k lo mid else lowerPeak v0 a0 d am jm k mid hi

/-- The seven segments of a move over the distance `d` (R159). Where the speed limit `vm` is not reached, the peak is lowered and the cruise
has no length; a negative peak passes the target and returns. -/
def movePlan (v0 a0 d vm am jm : Nat) : List (Nat × Nat) :=
  let up := peakDistance v0 a0 vm am jm
  let dn := peakDistance v0 a0 (dNeg vm) am jm
  let r : Nat × Nat :=
    if !dLt d up then (vm, dDiv (dSub d up) vm)
    else if !dLt dn d then (dNeg vm, dDiv (dSub dn d) vm)
    else (lowerPeak v0 a0 d am jm 64 (dNeg vm) vm, 0)
  speedChange v0 a0 r.1 am jm ++ [(r.2, 0)] ++ speedChange r.1 0 0 am jm

/-- The segments of a stop: the profile comes to rest in segments 4 to 6 (R149, R160). -/
def stopPlan (v0 a0 am jm : Nat) : List (Nat × Nat) := List.replicate 4 (0, 0) ++ speedChange v0 a0 0 am jm

/-- A plan from the present position, speed and acceleration (R159): to TARGET, or to rest. -/
def EngCore.planTo (c : EngCore) (stop : Bool) (amax jmax : DWord) : TrjPlan :=
  let v0 := c.plan.vel.toNat
  let a0 := c.plan.acc.toNat
  let am := sToD (amax.toNat % 2 ^ 32)
  let jm := sToD (jmax.toNat % 2 ^ 32)
  let d := fOfRat fD (c.unit 0 0 - c.unit 0 8).toInt (2 ^ 32)
  let p := if stop then stopPlan v0 a0 am jm else movePlan v0 a0 d (sToD (c.unitS 0 1)) am jm
  { c.plan with lens := p.map (fun s => BitVec.ofNat 64 s.1), jerks := p.map (fun s => BitVec.ofNat 64 s.2), seg := 0, tIn := 0 }

/-- GO (R149): BADPARAM (false) where a limit is 0, not finite or negative, the profile then unchanged. -/
def EngCore.trjGo (c : EngCore) : EngCore × Bool :=
  if sPositive (c.unitS 0 1) && sPositive (c.unitS 0 2) && sPositive (c.unitS 0 3) then
    ({ (c.setUnit 0 0x0B (trjStat 1 false 0)) with plan := c.planTo false (c.unit 0 2) (c.unit 0 3) }, true)
  else (c, false)

/-- STOP (R149, R160): nothing in IDLE. -/
def EngCore.trjStop (c : EngCore) : EngCore :=
  if c.trjState = 0 then c
  else { (c.setUnit 0 0x0B (trjStat 2 ((c.unit 0 0x0B).getLsbD 3) 0)) with plan := c.planTo true (c.unit 0 2) (c.unit 0 3) }

/-- QSTOP (R160): false where the quick-stop limits are not finite and positive, and AMAX and JMAX serve instead. -/
def EngCore.trjQstop (c : EngCore) : EngCore × Bool :=
  if c.trjState = 0 then (c, true)
  else
    let ok := sPositive (c.unitS 0 4) && sPositive (c.unitS 0 5)
    let a := if ok then c.unit 0 4 else c.unit 0 2
    let j := if ok then c.unit 0 5 else c.unit 0 3
    ({ (c.setUnit 0 0x0B (trjStat 3 ((c.unit 0 0x0B).getLsbD 3) 0)) with plan := c.planTo true a j }, ok)

/-- The profile advanced by `dt` seconds: through the rest of the present segment and on into the next ones. Answers
the plan and the increment of position in binary64. -/
def advancePlan : Nat → TrjPlan → Nat → Nat → TrjPlan × Nat
  | 0, p, _, inc => (p, inc)
  | k + 1, p, dt, inc =>
    match p.lens[p.seg]?, p.jerks[p.seg]? with
    | some len, some j =>
      let left := dSub len.toNat p.tIn.toNat
      if dLt dt left then
        let r := kinematics p.vel.toNat p.acc.toNat j.toNat dt
        ({ p with tIn := BitVec.ofNat 64 (dAdd p.tIn.toNat dt), vel := BitVec.ofNat 64 r.2.1,
                  acc := BitVec.ofNat 64 r.2.2 }, dAdd inc r.1)
      else
        let r := kinematics p.vel.toNat p.acc.toNat j.toNat left
        advancePlan k { p with seg := p.seg + 1, tIn := 0, vel := BitVec.ofNat 64 r.2.1, acc := BitVec.ofNat 64 r.2.2 }
          (dSub dt left) (dAdd inc r.1)
    | _, _ => (p, inc)

/-- STEP (R149, R159): one PERIOD along the profile. The last STEP of a move sets POS to TARGET exactly. -/
def EngCore.trjStep (c : EngCore) (period : Nat) : EngCore :=
  if c.trjState = 0 then c
  else
    let r := advancePlan 8 c.plan (periodD period) 0
    let pos := c.unit 0 8 + dToQ r.2
    let werr := (c.unit 0 0x0B).getLsbD 3
    if r.1.seg ≥ r.1.lens.length then
      let pos := if c.trjState = 1 then c.unit 0 0 else pos
      { ((((c.setUnit 0 8 pos).setUnit 0 9 0).setUnit 0 0xA 0).setUnit 0 0xB (trjStat 0 werr 6)) with
        plan := { r.1 with vel := 0, acc := 0 } }
    else
      { ((((c.setUnit 0 8 pos).setUnit 0 9 (BitVec.ofNat 64 (dToS r.1.vel.toNat))).setUnit 0 0xA
          (BitVec.ofNat 64 (dToS r.1.acc.toNat))).setUnit 0 0xB (trjStat c.trjState werr r.1.seg)) with plan := r.1 }

/-! ### CAM (unit 1; R150, R161–R168) -/

/-- A cam table descriptor (R161). -/
structure CamDesc where
  origin : DWord
  dx     : DWord
  ybase  : DWord
  rise   : DWord
  ctl    : DWord
deriving DecidableEq, Repr

/-- A descriptor from its words. -/
def camDesc (w : Nat → DWord) : CamDesc := ⟨w 0, w 1, w 2, w 3, w 4⟩

namespace CamDesc
/-- COUNT, FIRST, YSH, CYCLIC (R161). -/
def count (d : CamDesc) : Nat := nbits d.ctl.toNat 12 0
def first (d : CamDesc) : Nat := nbits d.ctl.toNat 27 16
def ysh (d : CamDesc) : Nat := nbits d.ctl.toNat 52 48
def cyclic (d : CamDesc) : Bool := d.ctl.getLsbD 62
/-- A descriptor is valid (R162). -/
def valid (d : CamDesc) : Bool :=
  d.ctl.getLsbD 63 && decide (2 ≤ d.count) && decide (d.count ≤ 4096) && decide (d.first + d.count ≤ 4096) &&
  decide (0 < d.dx.toInt)
/-- The master span S (R162). -/
def span (d : CamDesc) : Int := (d.count - 1 : Nat) * d.dx.toInt
end CamDesc

/-- What an evaluation gives: the table value without RISE and SLAVE_OFS, the period count k, and the slope as a
rational (numerator over DX³) in slave units per master unit (R163). -/
structure CamVal where
  value : DWord
  k     : Int
  slopeNum : Int
  slopeDen : Nat
deriving DecidableEq, Repr

/-- A point word: Y and T, signed (R161). -/
def camPoint (w : DWord) : Int × Int := (sextInt 32 (w.toNat >>> 32), sextInt 32 w.toNat)

/-- A table at master position `x` (R163), on a valid descriptor; `point` gives the point words of the plane. -/
def camEval (d : CamDesc) (point : Nat → DWord) (x : DWord) : CamVal :=
  let m0 : Int := (x - d.origin).toInt
  let S := d.span
  let k : Int := if d.cyclic then m0.fdiv S else 0
  let m : Int := if d.cyclic then m0 - k * S else max 0 (min m0 S)
  let dx := d.dx.toInt
  let i : Nat := min (m / dx).toNat (d.count - 2)
  let p : Int := m - i * dx
  let P0 := camPoint (point (d.first + i))
  let P1 := camPoint (point (d.first + i + 1))
  let c1 := P0.2
  let c2 := 3 * (P1.1 - P0.1) - 2 * P0.2 - P1.2
  let c3 := 2 * (P0.1 - P1.1) + P0.2 + P1.2
  let den := dx * dx * dx
  let num := (P0.1 * den + c1 * p * dx * dx + c2 * p * p * dx + c3 * p * p * p) * 2 ^ d.ysh
  { value := d.ybase + dw ((2 * num + den).fdiv (2 * den))
    k := k
    slopeNum := (c1 * dx * dx + 2 * c2 * p * dx + 3 * c3 * p * p) * 2 ^ d.ysh
    slopeDen := den.toNat }

/-- The virtual master at CYCT (R164, KIND 0). -/
def EngCore.virtualMaster (c : EngCore) (cyct : DWord) : DWord :=
  c.unit 1 4 + dw (((c.unit 1 5).toInt * tdiff cyct (c.unit 1 3)).fdiv (2 ^ 16))

/-- MVEL of the virtual master: VM_VEL × 64 × 10^9 / 2^48 units/s as binary32 (R164). -/
def virtualSpeed (vel : DWord) : DWord := BitVec.ofNat 64 (fOfRat fS (vel.toInt * 64000000000) (2 ^ 48))

/-- MVEL of a sampled master: difference of positions over difference of boundaries, in units/s (R164). -/
def sampledSpeed (pos prev : DWord) (t t0 : DWord) : DWord :=
  let dt := tdiff t t0
  if dt = 0 then 0
  else
    let n := (pos - prev).toInt * 64000000000 * (if dt < 0 then -1 else 1)
    BitVec.ofNat 64 (fOfRat fS n (2 ^ 32 * dt.natAbs))

/-- MSAMP and MVEL at a boundary from the position its source gives (R164). -/
def EngCore.sampleMaster (c : EngCore) (cyct : DWord) (source : DWord) : EngCore :=
  let kind := nbits (c.unit 1 0).toNat 7 6
  let msamp := match kind with
    | 0 => c.virtualMaster cyct
    | 3 => 0
    | _ => source
  let mvel := match kind, c.camPrev with
    | 3, _ => 0
    | _, none => 0
    | 0, some _ => virtualSpeed (c.unit 1 5)
    | _, some q => sampledSpeed msamp q.1 cyct q.2
  { ((c.setUnit 1 1 msamp).setUnit 1 2 mvel) with camPrev := some (msamp, cyct) }

/-- VMSET (R165). -/
def EngCore.vmset (c : EngCore) : EngCore :=
  let v := c.unit 1 6
  (((c.setUnit 1 4 (c.unit 1 1)).setUnit 1 3 c.cyct).setUnit 1 5 v).setUnit 1 2 (virtualSpeed v)

/-! ### LOOP (unit 2; R151, R169) -/

/-- dt and 1/dt in binary32 from PERIOD (R169). -/
def loopDt (period : Nat) : Nat := fOfRat fS (period : Int) 64000000000
def loopInvDt (period : Nat) : Nat := fOfRat fS 64000000000 (max period 1)

/-- Stage `s` with setpoint error `e`: the core, the output and whether it was clamped (R151, R169). -/
def EngCore.loopStage (c : EngCore) (s e period : Nat) : EngCore × Nat × Bool :=
  let r := fun i => c.unitS 2 (16 * s + i)
  let d := sMul (sMul (r 2) (sSub e (r 9))) (loopInvDt period)
  let u := sAdd (sAdd (sAdd (sMul (r 0) e) (r 8)) d) (r 3)
  if sIsNan e || sIsNan u then (c.setUnit 2 (16 * s + 11) 0, 0, true)
  else
    let inext := sFma (sMul (r 1) (loopDt period)) e (r 8)
    let hi := sLt (r 5) u
    let sat := hi || sLt u (r 4)
    let ep := sLt 0 e
    let integ := if !sat || (ep != hi) then sClamp inext (r 6) (r 7) else r 8
    let out := sClamp u (r 4) (r 5)
    ((((c.setUnit 2 (16 * s + 8) (BitVec.ofNat 64 integ)).setUnit 2 (16 * s + 9) (BitVec.ofNat 64 e)).setUnit 2
      (16 * s + 11) (BitVec.ofNat 64 out)), out, sat)

/-- Stage `s` has EN set. -/
def EngCore.loopOn (c : EngCore) (s : Nat) : Bool := (c.unit 2 (16 * s + 12)).getLsbD 0

/-- A later stage with setpoint `sp`: its error against its own FB, or, with EN clear, the setpoint passed through. -/
def EngCore.loopNext (c : EngCore) (s sp period : Nat) : EngCore × Nat × Bool :=
  if c.loopOn s then c.loopStage s (sSub sp (c.unitS 2 (16 * s + 10))) period
  else (c.setUnit 2 (16 * s + 11) (BitVec.ofNat 64 sp), sp, false)

/-- LOOPX from entry stage `s` (R151, R169): the core, the output of stage 2, whether any stage was clamped. -/
def EngCore.loopx (c : EngCore) (s : Nat) (ra rb : DWord) (period : Nat) : EngCore × Nat × Bool :=
  let fe := ra - rb
  let c0 := if s = 0 then c.setUnit 4 4 fe else c
  let e := if s = 0 then (fOfInt fS {} fe.toInt 32).bits else sSub (ra.toNat % 2 ^ 32) (rb.toNat % 2 ^ 32)
  let r0 := c0.loopStage s e period
  match s with
  | 0 =>
    let r1 := r0.1.loopNext 1 r0.2.1 period
    let r2 := r1.1.loopNext 2 r1.2.1 period
    (r2.1, r2.2.1, r0.2.2 || r1.2.2 || r2.2.2)
  | 1 =>
    let r1 := r0.1.loopNext 2 r0.2.1 period
    (r1.1, r1.2.1, r0.2.2 || r1.2.2)
  | _ => r0

/-- LOOP RESET: INTEG and E_PREV of all stages 0. -/
def EngCore.loopReset (c : EngCore) : EngCore :=
  [8, 9, 24, 25, 40, 41].foldl (fun c r => c.setUnit 2 r 0) c

/-! ### BIQ (unit 3; R152, R170) -/

/-- One BIQ stage on sample `x`. -/
def EngCore.biqStage (c : EngCore) (k x : Nat) : EngCore × Nat :=
  let r := fun i => c.unitS 3 (8 * k + i)
  if [0, 1, 2, 3, 4].all (fun i => r i % 2 ^ 31 == 0) then (c, x)
  else
    let y := sFma (r 0) x (r 5)
    let z1 := sFma (r 1) x (sFma (sNeg (r 3)) y (r 6))
    let z2 := sFma (r 2) x (sMul (sNeg (r 4)) y)
    ((c.setUnit 3 (8 * k + 5) (BitVec.ofNat 64 z1)).setUnit 3 (8 * k + 6) (BitVec.ofNat 64 z2), y)

/-- BIQX: the four stages in order. -/
def EngCore.biqx (c : EngCore) (x : Nat) : EngCore × Nat :=
  let r0 := c.biqStage 0 x
  let r1 := r0.1.biqStage 1 r0.2
  let r2 := r1.1.biqStage 2 r1.2
  r2.1.biqStage 3 r2.2

/-- BIQ RESET: every Z1 and Z2 0. -/
def EngCore.biqReset (c : EngCore) : EngCore :=
  [5, 6, 13, 14, 21, 22, 29, 30].foldl (fun c r => c.setUnit 3 r 0) c

/-! ### LIM (unit 4; R152, R171) -/

/-- Violations of position, speed (binary32 bits) and the following error held: [0] position, [1] speed, [2] FE. -/
def EngCore.limCheck (c : EngCore) (pos : DWord) (spd : Nat) : Nat :=
  let p := decide (pos.toInt < (c.unit 4 0).toInt) || decide ((c.unit 4 1).toInt < pos.toInt)
  let v := sIsNan spd || sLt (c.unitS 4 2) (spd % 2 ^ 31)
  let fe := min (c.unit 4 4).toInt.natAbs (2 ^ 63 - 1)
  let f := decide ((c.unit 4 3).toInt < (fe : Int))
  p.toNat + 2 * v.toNat + 4 * f.toNat

/-- LIMX (R152): POS and SPD hold what was checked. -/
def EngCore.limx (c : EngCore) (ra rb : DWord) : EngCore × Nat :=
  ((c.setUnit 4 5 ra).setUnit 4 6 (BitVec.ofNat 64 (rb.toNat % 2 ^ 32)), c.limCheck ra (rb.toNat % 2 ^ 32))

end Sys2Proof.Machine
end

