-- ==== Sys2Proof/Machine/AxisBase.lean ====
section
/-!
DEFINITION. Sys2Proof/Machine/AxisBase.lean: the axis I/O block of a logical engine (R172–R180): its registers, what it
latches at a cycle boundary, the level of a PWM output at an instant, and the fault levels of HALT.
-/
namespace Sys2Proof.Machine

/-! ### Registers -/

/-- Reset value of a PWM register (unit 5). -/
def pwmReset (r : Nat) : DWord := if r = 1 then 64000 else 0

/-- Reset value of an axis I/O register (unit 6). -/
def axisReset (r : Nat) : DWord := if r = 1 then 0x100000000 else 0

/-- Register `r` of unit 6 that only holds a value. -/
def AxisIo.reg (x : AxisIo) (r : Nat) : DWord := tabGet axisReset x.regs r

/-- The block with register `r` of unit 6 holding `v`. -/
def AxisIo.setReg (x : AxisIo) (r : Nat) (v : DWord) : AxisIo := { x with regs := tabPut axisReset x.regs r v }

/-- Field [hi:lo] of a register of unit 6. -/
def AxisIo.fieldOf (x : AxisIo) (r hi lo : Nat) : Nat := nbits (x.reg r).toNat hi lo

/-- The block with bit `i` of register `r` set to `b`. -/
def AxisIo.setBit (x : AxisIo) (r i : Nat) (b : Bool) : AxisIo :=
  let v := (x.reg r).toNat
  x.setReg r (BitVec.ofNat 64 (if v.testBit i = b then v else if b then v + 2 ^ i else v - 2 ^ i))

/-- MODE of ENC_CFG: 0 off, 1 quadrature, 2 SSI; 3 is handled as 0. -/
def AxisIo.encMode (x : AxisIo) : Nat := if x.fieldOf 0 1 0 = 3 then 0 else x.fieldOf 0 1 0

/-- The position of a count: count × ENC_SCALE, wrapping (R176). -/
def AxisIo.position (x : AxisIo) : DWord := x.count * x.reg 1

/-- The first scheduler tick at or after `t`. -/
def tickAt (t : DWord) : DWord := t + units ((unitsPerTick - t.toNat % unitsPerTick) % unitsPerTick)

/-- The SSI clock in Hz as a fraction, or none where it is stopped (R178). -/
def State.ssiFreq (s : State) (x : AxisIo) : Option (Nat × Nat) :=
  let div := if x.fieldOf 0 23 16 = 0 then 256 else x.fieldOf 0 23 16
  (s.outFreq (x.fieldOf 0 26 24) (x.fieldOf 0 29 27)).map (fun f => (f.1, f.2 * div))

/-- SSI_BITS: 8 to 48. -/
def AxisIo.ssiBits (x : AxisIo) : Nat := max 8 (min 48 (x.fieldOf 0 13 8))

/-- The modulator clock in Hz as a fraction (R179), from DS_OUT of DS_PLL divided by DS_DIV; none where it is external or stopped. -/
def State.dsFreq (s : State) (x : AxisIo) : Option (Nat × Nat) :=
  let div := if x.fieldOf 0x10 21 14 = 0 then 256 else x.fieldOf 0x10 21 14
  if (x.reg 0x10).getLsbD 13 then none
  else (s.outFreq (x.fieldOf 0x10 24 22) (x.fieldOf 0x10 27 25)).map (fun f => (f.1, f.2 * div))

/-- The level that axis signal `k` of logical engine `e` gives its pin, for the two clock outputs: SSI_CLK rests high and falls at the start of
a frame (R178); DS_CLK is the modulator clock, low while it is stopped, and an input with EXT (R179). -/
def State.axisClock (s : State) (e k : Nat) : Option Bool :=
  let x := (s.leng e).axis
  if k = 9 then
    match x.ssiRun, s.ssiFreq x with
    | some t0, some f => some (min (2 * x.ssiBits + 1) ((tdiff s.time t0).toNat * f.1 / (32000000000 * f.2)) % 2 == 1)
    | _, _ => some true
  else if k = 11 ∧ (x.reg 0x10).getLsbD 13 = false then some ((s.dsFreq x).isSome && Config.dsClk e s.time)
  else none

/-- An SSI frame at a boundary `t` (R178): suppressed with SSI_OVR while one runs; none, with SSI_ERR, on a clock above
10 MHz; none on a stopped clock. -/
def State.ssiStart (s : State) (x : AxisIo) (t : DWord) : AxisIo :=
  if x.ssiRun.isSome then x.setBit 0xA 3 true
  else match s.ssiFreq x with
    | none => x
    | some f => if 10000000 * f.2 < f.1 then x.setBit 0xA 2 true else { x with ssiRun := some (tickAt t) }

/-- The newest samples of the delta-sigma inputs latched for URD (R179). -/
def AxisIo.latchDs (x : AxisIo) : AxisIo :=
  x.dsNew.foldl (fun x p => (x.setReg (0x12 + p.1) p.2.1).setReg (0x16 + p.1) p.2.2) x

/-- What axis I/O latches at a boundary `t` (R176, R178, R179). -/
def State.axisLatch (s : State) (x : AxisIo) (t : DWord) : AxisIo :=
  let y := (x.setReg 2 x.position).latchDs
  if x.encMode = 2 then s.ssiStart (y.setReg 3 x.ssiAt) t else y.setReg 3 x.changed

/-! ### PWM carriers (R172, R173) -/

/-- A PWM register of a set of registers. -/
def pwmReg (l : List (Nat × DWord)) (r : Nat) : Nat := (tabGet pwmReset l r).toNat

/-- PER in force: bits [1:0] ignored, 64,000 to 0xFFFF_FFFC. -/
def pwmPer (l : List (Nat × DWord)) : Nat :=
  let p := max 64000 (min 0xFFFFFFFC (pwmReg l 1))
  p - p % 4

/-- DEAD in force: bits [1:0] ignored, at most 64,000. -/
def pwmDead (l : List (Nat × DWord)) : Nat :=
  let d := min 64000 (pwmReg l 3)
  d - d % 4

/-- CMP[k]: bits [1:0] ignored. -/
def pwmCmp (l : List (Nat × DWord)) (k : Nat) : Nat := pwmReg l (8 + k) - pwmReg l (8 + k) % 4

/-- The position of instant `t` within its carrier period. -/
def pwmPhase (l : List (Nat × DWord)) (t : DWord) : Nat := ((tdiff t (tabGet pwmReset l 2)).emod (pwmPer l)).toNat

/-- The first period start at or after `t` (R173). -/
def pwmStart (l : List (Nat × DWord)) (t : DWord) : DWord :=
  t + units ((pwmPer l - pwmPhase l t) % pwmPer l)

/-- The instant at which a write or an APPLY released at `rel` applies: the first period start at least 200 ns later. -/
def AxisIo.applyInstant (x : AxisIo) (rel : DWord) : DWord := pwmStart x.pwmA (rel + units 12800)

/-- The next instant at which something applies. -/
def AxisIo.nextApply (x : AxisIo) : Option DWord :=
  let l := (x.pwmPend.filterMap (fun w => w.rel)) ++ x.applyAt.toList
  (l.map x.applyInstant).foldl (fun m t => match m with
    | none => some t
    | some u => some (if before t u then t else u)) none

/-- The registers in force at instant `t`: those applied, and the pending ones whose instant it has passed. -/
def AxisIo.regsAt (x : AxisIo) (t : DWord) : List (Nat × DWord) :=
  x.pwmPend.foldl (fun l w => match w.rel with
    | some r => if atOrAfter t (x.applyInstant r) then tabPut pwmReset l w.reg w.value else l
    | none => l) x.pwmA

/-- The carrier of registers `l` differs from that of `m`. -/
def newCarrier (l m : List (Nat × DWord)) : Bool := pwmReg l 1 != pwmReg m 1 || pwmReg l 2 != pwmReg m 2

/-- The bounds of output `k` within the carrier period that starts at an instant `r` modulo 4, from its start (R172): equal where it is never
active, the whole period where it always is. The bounds of a centred interval are rounded down to a multiple of 4 units of device time. -/
def pwmInterval (l : List (Nat × DWord)) (r k : Nat) : Nat × Nat :=
  let per := pwmPer l
  let c := pwmCmp l k
  if per ≤ c then (0, per)
  else if (pwmReg l 0).testBit 1 then
    let a := (per - c) / 2
    let b := (per + c) / 2
    (a - min a ((a + r) % 4), b - (b + r) % 4)
  else (0, c)

/-- Touching intervals joined, empty ones dropped; the list rises. -/
def joinRuns : List (Int × Int) → List (Int × Int)
  | [] => []
  | (a, b) :: l =>
    if b ≤ a then joinRuns l
    else match joinRuns l with
      | [] => [(a, b)]
      | (c, d) :: m => if c ≤ b then (a, d) :: m else (a, b) :: (c, d) :: m

/-- Where output `k` is active in one period with registers `l` that starts at `p` from the present one (R172): the odd output of a pair takes
the complement of the even one. -/
def periodRuns (l : List (Nat × DWord)) (r k : Nat) (p : Int) : List (Int × Int) :=
  let pairs := (pwmReg l 0).testBit 2
  let i := pwmInterval l r (if pairs then k - k % 2 else k)
  if pairs && k % 2 == 1 then [(p, p + i.1), (p + i.2, p + pwmPer l)] else [(p + i.1, p + i.2)]

/-- The level at `q` of a waveform given by its changes, where a phase shorter than 320 units keeps the level before it (R172). -/
def heldLevel (q : Int) : List (Int × Bool) → Bool → Bool
  | [], cur => cur
  | [(s, v)], cur => if q < s then cur else v
  | (s, v) :: (t, w) :: l, cur => if q < s then cur else heldLevel q ((t, w) :: l) (if t - s < 320 then cur else v)

/-- The registers of the carrier period that starts at instant `p`, on the carrier of `l`: those in force before the last change where the
period began before it, else those applied or due by then; none, and inactive, before the carrier began and once another takes over
(R173). -/
def AxisIo.regsIn (x : AxisIo) (l : List (Nat × DWord)) (from_ : Option DWord) (p : DWord) : Option (List (Nat × DWord)) :=
  let m := if x.pwmFrom.any (before p) then x.pwmPrev else x.regsAt p
  if from_.any (before p) || newCarrier m l then none else some m

/-- Output `k` is active at instant `t` of the carrier of `l` (R172): what its periods give, each activation of a pair delayed by DEAD, short
phases left out. -/
def AxisIo.activeAt (x : AxisIo) (l : List (Nat × DWord)) (from_ : Option DWord) (k : Nat) (t : DWord) : Bool :=
  let per := pwmPer l
  let q := pwmPhase l t
  let start := t - units q
  let runs := joinRuns (([-2, -1, 0, 1, 2] : List Int).flatMap (fun i =>
    let p := start + dw (i * per)
    match x.regsIn l from_ p with
    | some m => periodRuns m (p.toNat % 4) k (i * per)
    | none => []))
  let dead : Int := if (pwmReg l 0).testBit 2 then (pwmDead l : Nat) else 0
  let late := runs.map (fun r => (if r.1 = -2 * (per : Int) then r.1 else r.1 + dead, r.2))
  heldLevel q ((late.filter (fun r => decide (r.1 < r.2))).flatMap (fun r => [(r.1, true), (r.2, false)])) false

/-- The level of a FAULT field: 0 low, 1 high, 2 released; 3 is handled as 2. -/
def faultLevel (l : List (Nat × DWord)) (k : Nat) : Nat := min 2 (nbits (pwmReg l 0xE) (2 * k + 1) (2 * k))

/-- The level of output `k` at instant `t` (R172–R174): 0 low, 1 high, 2 released; none from Thaw until the first write
applies. `halted`: the engine is in HALT. -/
def AxisIo.levelAt (x : AxisIo) (halted : Bool) (k : Nat) (t : DWord) : Option Nat :=
  let due := match x.nextApply with
    | some u => atOrAfter t u
    | none => false
  let l := x.regsAt t
  if !(x.started || due) then none
  else if x.fault && !(due && !halted) then some (faultLevel x.pwmA k)
  else if !(pwmReg l 0).testBit 0 then some (faultLevel l k)
  else
    let changed := newCarrier l x.pwmA
    let from_ := if changed then some (pwmStart l (x.nextApply.getD t)) else x.carrierFrom
    let act := from_.all (atOrAfter t) && x.activeAt l from_ k t
    some (if act != (pwmReg l 0).testBit (8 + k) then 1 else 0)

/-! ### Pins of an output -/

/-- The pins that a plane's frames assign to axis signal `k` of logical engine `e` (R180). -/
def pinsOf (plane : List (Nat × List Byte)) (e k : Nat) : List Nat :=
  ((tabRange plane (pinFrame 0) 288).flatMap (fun f => (List.range 4).map (fun j => 4 * (f.1 - pinFrame 0) + j))).filter
    (fun p => (pinOf plane p).axis == some (e, k))

/-- A launch cell at a level: 0 low, 1 high, 2 released; its queue is empty. -/
def cellLevel (v : Nat) (c : LaunchCell) : LaunchCell :=
  if v = 2 then { c with queue := [], drive := false } else { queue := [], out := v == 1, drive := true }

/-- Output `k` of logical engine `e` takes level `v` at once. -/
def State.forceLevel (s : State) (e k v : Nat) : State :=
  let s := (pinsOf s.cfg.active e k).foldl (fun s p => s.setCell p (cellLevel v (s.cell p))) s
  let c := s.leng e
  s.setLeng e { c with axis := { c.axis with pwmOut := tabPut (fun _ => 3) c.axis.pwmOut k v } }

/-- Every PWM output of logical engine `e` takes its FAULT level (R174). -/
def State.faultLevels (s : State) (e : Nat) : State :=
  let c := s.leng e
  let s := s.setLeng e { c with axis := { c.axis with fault := true } }
  (List.range 6).foldl (fun s k => s.forceLevel e k (faultLevel c.axis.pwmA k)) s

end Sys2Proof.Machine
end

