-- ==== Sys2Proof/Machine/EngineOps.lean ====
section
/-!
DEFINITION. Sys2Proof/Machine/EngineOps.lean: what happens to an engine as a whole (04_axis_engines.md): the planes, the
start and the end of a cycle, the checkpoint and its restore, retry and cycle failure, HALT, migration.
-/
namespace Sys2Proof.Machine

/-! ### Registers of a physical engine (R123) -/

/-- STATE of physical engine `n`, as stored: 2 between cycles, 3 running, 4 retrying, 5 HALT, 6 SPARE, 7 RETIRED, 8
migration copy, 9 under Drizzle slice. -/
def State.engState (s : State) (n : Nat) : Nat := s.getF (Reg.ENG_STAT n) 3 0

/-- The state with STATE of physical engine `n` set. -/
def State.setEngState (s : State) (n v : Nat) : State := s.setF (Reg.ENG_STAT n) 3 0 v

/-- PERIOD in force (R95, R123): below 500,000 taken as 500,000, above 16,000,000 as 16,000,000. -/
def State.period (s : State) (n : Nat) : Nat := max 500000 (min 16000000 (s.getF (Reg.ENG_CYC n) 23 0))

/-- The logical engine whose mailboxes, data RAM and planes the windows of physical engine `n` show: none in SPARE or RETIRED
(R123). -/
def State.windowOf (s : State) (n : Nat) : Option Nat :=
  if s.engState n == 6 || s.engState n == 7 then none else s.logicalOf n

/-- A cycle runs or is retried on physical engine `n`. -/
def State.inCycle (s : State) (n : Nat) : Bool := s.engState n == 3 || s.engState n == 4

/-- LOST counts one cycle lost: the host's count, and s13 as the next boundary latches it (R93, R127). -/
def State.loseCycle (s : State) (n e : Nat) : State :=
  let s := s.incR (Reg.ENG_LOST n)
  s.setLeng e { s.leng e with lostNow := min ((s.leng e).lostNow + 1) (2 ^ 32 - 1) }

/-! ### Memories (R88, R161, R247, R523) -/

/-- Address of class 2 frame `i` of logical engine `e` (R247). -/
def engFrame (e i : Nat) : Nat := 2 <<< 28 + 63 <<< 22 + e <<< 16 + i

/-- Byte `j` of class 2 frame `i` of engine `e` in a plane. -/
def frameByte (plane : List (Nat × List Byte)) (a j : Nat) : Byte := (tabGet (fun _ => []) plane a).getD j 0

/-- Bytes [j, j + n) of a frame. -/
def frameBytes (plane : List (Nat × List Byte)) (a j n : Nat) : List Byte :=
  let f := tabGet (fun _ => []) plane a
  (List.range n).map (fun i => f.getD (j + i) 0)

/-- The instruction at word `k` of program RAM in a plane. -/
def progWord (plane : List (Nat × List Byte)) (e k : Nat) : Word :=
  BitVec.ofNat 32 (leNat (frameBytes plane (engFrame e (k / 128)) (4 * (k % 128)) 4))

/-- `n` bytes of cam RAM from byte `a` on, within one frame. -/
def camBytes (plane : List (Nat × List Byte)) (e a n : Nat) : List Byte :=
  frameBytes plane (engFrame e (0x40 + a / 512)) (a % 512) n

/-- Point word `p` of cam RAM. -/
def camWord (plane : List (Nat × List Byte)) (e p : Nat) : DWord := BitVec.ofNat 64 (leNat (camBytes plane e (8 * p) 8))

/-- Word `w` of cam table descriptor `t`. -/
def descWord (plane : List (Nat × List Byte)) (e t w : Nat) : DWord :=
  BitVec.ofNat 64 (leNat (frameBytes plane (engFrame e 0x80) (40 * t + 8 * w) 8))

/-- The descriptor of table `t` in force. -/
def State.activeDesc (s : State) (e t : Nat) : CamDesc := camDesc (descWord s.cfg.active e t)

/-- The table of descriptor `d` at master position `x` in the active plane. -/
def State.camAt (s : State) (e : Nat) (d : CamDesc) (x : DWord) : CamVal := camEval d (camWord s.cfg.active e) x

/-- `n` bytes of a data RAM from `a` on. -/
def ramBytes (m : List (Nat × Byte)) (a n : Nat) : List Byte := (List.range n).map (fun i => tabGet (fun _ => 0) m (a + i))

/-- A data RAM with bytes written from `a` on. -/
def ramWrite : List (Nat × Byte) → Nat → List Byte → List (Nat × Byte)
  | m, _, [] => m
  | m, a, b :: l => ramWrite (tabPut (fun _ => 0) m a b) (a + 1) l

/-- Lines of data RAM written while a migration copies them (R107): dirty, and a further pass begins when more than 512
are dirty. -/
def Migration.wrote (g : Migration) (line : Nat) : Migration :=
  let d := if g.dirty.contains line then g.dirty else g.dirty ++ [line]
  if g.copied && g.passing.isEmpty && decide (512 < d.length) then { g with passing := d, dirty := [] } else { g with dirty := d }

/-- Lines still dirty. -/
def Migration.left (g : Migration) : Nat := (g.passing ++ g.dirty).eraseDups.length

/-- Bytes written to the data RAM of a logical engine, with the dirty lines of a migration noted. -/
def LEng.write (c : LEng) (a : Nat) (l : List Byte) : LEng :=
  { c with dram := ramWrite c.dram a l,
           mig := c.mig.map (fun g => (List.range ((a + l.length + 31) / 32 - a / 32)).foldl (fun g i => g.wrote (a / 32 + i)) g) }

/-! ### Logs (R97, R100, R101, R103) -/

/-- Entries of the input log: every status, every value, every status of an effect. -/
def LEng.inCount (c : LEng) : Nat := c.inLog.length + (c.inLog.filter (fun i => i.value.isSome)).length + c.efStat.length

/-- A log of `b` is full that was not full in `a`. -/
def LEng.fills (a b : LEng) : Bool :=
  let f := fun (x y : Nat) => decide (x < 256) && decide (256 ≤ y)
  f a.undo.length b.undo.length || f a.inCount b.inCount || f a.efLog.length b.efLog.length

/-- The rest of the cycle is marked NORETRY, with cause LOG_OVF where a log is the reason (R103). -/
def State.markNoRetry (s : State) (n e : Nat) (full : Bool) : State :=
  let s := s.setB (Reg.ENG_STAT n) 4 true
  if full then s.raise e 0x80 else s

/-- Logical engine `e` holds `b`, whose logs may have grown: high-water marks, and NORETRY when a log fills (R103). -/
def State.putLogged (s : State) (n e : Nat) (b : LEng) : State :=
  let a := s.leng e
  let hw := fun (s : State) (hi lo v : Nat) => s.setF (Reg.ENG_LOG n) hi lo (max (s.getF (Reg.ENG_LOG n) hi lo) (min v 256))
  let s := hw (hw (hw (s.setLeng e b) 26 18 b.efLog.length) 17 9 b.inCount) 8 0 b.undo.length
  if a.fills b then s.markNoRetry n e true else s

/-- The content of data RAM line `k` logged before its first write in the cycle (R97); a first write that finds the log
full makes the cycle unrestorable (R103). -/
def LEng.logLine (c : LEng) (k : Nat) : LEng :=
  if c.undo.any (fun u => u.1 == k) then c
  else if c.undo.length < 256 then { c with undo := c.undo ++ [(k, ramBytes c.dram (32 * k) 32)] }
  else { c with unrestorable := true }

/-- The checkpoint restored, with the undo log applied (R97, R101, R106). A SIGNAL that has arrived since the boundary is no work
of the cycle, and its flags stay (R92; log entry 21). -/
def LEng.restored (c : LEng) : LEng :=
  let c1 := c.undo.foldl (fun c u => c.write (32 * u.1) u.2) c
  { c1 with core := { c.ckpt with tflags := c.ckpt.tflags ||| c.signals }, undo := [] }

/-- A SIGNAL's mask ORed into the trigger flags (R92, R144). -/
def LEng.signal (c : LEng) (mask : Word) : LEng :=
  { c with core := { c.core with tflags := c.core.tflags ||| mask }, signals := c.signals ||| mask }

/-- A cycle's records dropped when it has ended: its effects keep their numbers. -/
def LEng.cleared (c : LEng) : LEng :=
  { c with stall := none, undo := [], unrestorable := false, inLog := [], inPos := 0, efLog := [],
           efBase := c.efBase + max c.efK c.efLog.length, efK := 0, efWait := [], efStat := [], efPend := [], ret := [],
           issued := 0, firstIssued := 0, retryAt := none, inFar := false, bayOut := none }

/-! ### Plane swap (R119–R121, R286) -/

/-- The carry ranges of a plane keep line `k` (R286). -/
def carries (plane : List (Nat × List Byte)) (e k : Nat) : Bool :=
  (List.range 16).any (fun i =>
    let w := beNat (frameBytes plane (engFrame e 0x80) (320 + 4 * i) 4)
    w.testBit 31 && decide (nbits w 26 16 ≤ k) && decide (k ≤ nbits w 10 0))

/-- Initial content of data RAM byte `a` (R247): bytes 0x0000 to 0x1FFF of the image, 0 above. -/
def initialByte (plane : List (Nat × List Byte)) (e a : Nat) : Byte :=
  if a < 0x2000 then frameByte plane (engFrame e (0x81 + a / 512)) (a % 512) else 0

/-- Data RAM initialised from a plane: kept bytes `keep` stay, the others take the image's content (R120, R438). -/
def initRam (plane : List (Nat × List Byte)) (e : Nat) (keep : Nat → Bool) (m : List (Nat × Byte)) : List (Nat × Byte) :=
  let kept := m.filter (fun p => keep (p.1 / 32))
  (List.range 0x2000).foldl (fun m a => if keep (a / 32) then m else tabPut (fun _ => 0) m a (initialByte plane e a)) kept

/-- The class 2 frames of engine `e` exchanged between the planes. -/
def Cfgs.swapEngine (c : Cfgs) (e : Nat) : Cfgs :=
  let lo := engFrame e 0
  let ins := fun (dst src : List (Nat × List Byte)) =>
    (tabRange src lo 0x10000).foldl (fun t p => tabInsert t p.1 p.2) (tabClear dst lo 0x10000)
  { c with active := ins c.active c.staged, staged := ins c.staged c.active }

/-- The plane swap of an engine (R120): g0–g15, the flags and the special registers but CYCNO and LOST are cleared, data
RAM outside the carry ranges is initialised, the far-code cache is invalidated. A Front that waited for it may be complete
(R290). -/
def State.swapPlanes (s : State) (n e : Nat) : State :=
  let s : State := { s with cfg := s.cfg.swapEngine e }
  let c := s.leng e
  let k := c.core
  let core := { k with g := k.g.filter (fun p => decide (16 ≤ p.1)), trig := 0, cyct := 0, st := 0, flagN := false,
                       flagZ := false, flagC := false, flagV := false, fpcsr := 0, lr := 0, tflags := 0 }
  let keep := carries s.cfg.active e
  let s := s.setLeng e { c with core := core, ckpt := core, exc := 0, epc := 0, signals := 0, far := [],
                                dram := initRam s.cfg.active e keep c.dram,
                                mig := c.mig.map (fun g => ((List.range 2048).filter (fun k => !keep k)).foldl Migration.wrote g) }
  ((s.setB (Reg.ENG_STAT n) 8 (!s.getB (Reg.ENG_STAT n) 8)).setB (Reg.ENG_STAT n) 7 false).frontComplete

/-! ### Cycle boundary (R91, R164, R176) -/

/-- The position that the master source of the CAM unit gives (R164): a published position or an encoder. -/
def State.masterSource (s : State) (c : EngCore) : DWord :=
  let m := (c.unit 1 0).toNat
  let g := s.leng (nbits m 5 0)
  if nbits m 7 6 = 1 then g.published else g.axis.position

/-- A cycle boundary at instant `t` with the trigger's DATA: TRIG, CYCT and CYCNO are loaded, LOST is latched, the master
is sampled, axis I/O latches, the checkpoint is taken, and execution begins at address 0 (R91). -/
def State.startCycle (s : State) (n e : Nat) (data : Word) (t : DWord) : State :=
  let c := s.leng e
  let early := match c.prevBound with
    | some p => decide (tdiff t p < (s.period n : Nat))
    | none => false
  let core := { c.core with trig := data, cyct := t, cycno := c.core.cycno + 1, lost := c.lostNow }
  let core := core.sampleMaster t (s.masterSource core)
  let s := s.setLeng e { c with core := core, ckpt := core, axis := s.axisLatch c.axis t, pc := 0, inFar := false,
                                bound := t, prevBound := some t, signals := 0, awaits := false }
  let s := ((s.setF (Reg.ENG_STAT n) 31 16 core.cycno.toNat).setB (Reg.ENG_STAT n) 4 false).setEngState n 3
  let s := (s.setD (Reg.ENG_CYCT n) t).touch (domEngine n)
  if early then s.raise e 0x20 else s

/-! ### HALT (R108, R174) -/

/-- Logical engine `e` enters HALT on physical engine `n`: no trigger stays latched, the axis outputs take their fault
levels, and HALTED is set. -/
def State.enterHalt (s : State) (n e : Nat) : State :=
  let s := s.setLeng e { s.leng e with latched := none, stall := none, inFar := false }
  (((s.setB (Reg.ENG_STAT n) 6 false).setEngState n 5).faultLevels e).raise e 0x10000

/-- The HALT of logical engine `e` follows a cycle failure, a fault source while it lasts (R108, R485). -/
def State.noteFailHalt (s : State) (e : Nat) : State := s.setLeng e { s.leng e with failHalt := true }

/-! ### Migration (R107, R108, R522) -/

/-- The lowest-numbered SPARE engine (R107). -/
def State.lowestSpare (s : State) : Option Nat := (List.range 68).find? (fun m => s.engState m == 6)

/-- The settings and counts of R522 move from `n` to `m`, and return to their reset values on `n`. -/
def State.moveRegs (s : State) (n m : Nat) : State :=
  let whole := [Reg.ENG_CYC, Reg.ENG_WDT, Reg.ENG_MBOX_CFG, Reg.ENG_MBOX_STAT, Reg.ENG_BP_CFG, Reg.ENG_LOST,
    Reg.ENG_CYCT, fun i => Reg.ENG_CYCT i + 4, Reg.ENG_CAUSE]
  let s := whole.foldl (fun s r => (s.setR (r m) (s.getR (r n))).setR (r n) (regReset (r n))) s
  let bits := [(Reg.ENG_CTL, 0, 0, 0), (Reg.ENG_CTL, 3, 2, 1), (Reg.ENG_FAR_CTL, 0, 0, 0), (Reg.ENG_STAT, 31, 16, 0)]
  bits.foldl (fun s f => (s.setF (f.1 m) f.2.1 f.2.2.1 (s.getF (f.1 n) f.2.1 f.2.2.1)).setF (f.1 n) f.2.1 f.2.2.1 f.2.2.2) s

/-- Physical engine `m` becomes the target of a migration: STATE 8, and the COPY hold, which wakes its domain without
reload (R107, R432, R441). -/
def State.takeTarget (s : State) (m : Nat) : State :=
  (s.setEngState m 8).holdAndWake (domEngine m) holdCopy 8 true

/-- A migration of logical engine `e` from `n` to the free engine `m` starts (R107). -/
def State.startMigration (s : State) (n m e : Nat) (g : Migration) : State :=
  let s := (s.takeTarget m).holdAndWake (domEngine n) holdCopy 8
  s.setLeng e { s.leng e with mig := some { g with target := m } }

/-- A migration that waited for physical engine `m` to become free takes it (R108). -/
def State.freeTarget (s : State) (m : Nat) : State :=
  match (List.range 64).find? (fun e => (s.leng e).mig.any (fun g => g.waits && g.target == m)) with
  | some e =>
    let s := s.takeTarget m
    s.setLeng e { s.leng e with mig := (s.leng e).mig.map (fun g => { g with waits := false }) }
  | none => s

/-- The switch of a migration from `n` to `m` (R107): MAP of both engines changes, the settings move, the far-code cache
starts empty; the source is RETIRED, SPARE, or under the slice that the move frees it for (R469). -/
def State.switchEngine (s : State) (n e : Nat) (g : Migration) : State :=
  let m := g.target
  let s := s.moveRegs n m
  let s := (s.setR (Reg.ENG_MAP m) (BitVec.ofNat 32 (2 ^ 31 + e))).setR (Reg.ENG_MAP n) 0
  let s := s.setLeng e { s.leng e with mig := none, far := [] }
  let s := (s.setHold (domEngine n) holdCopy false).setHold (domEngine m) holdCopy false
  let s := if s.getB (Reg.PWR_DOM_STAT (domEngine n)) holdFront then
      ((s.setHold (domEngine n) holdFront false).touch (domEngine n)).holdAndWake (domEngine m) holdFront 7 else s
  let s := if g.drizzle then s else s.raise e 4
  let s := s.setEngState n (if g.retire then 7 else if g.drizzle && (s.dtype 0).slice.any (fun sl => sl.unit == n) then 9 else 6)
  let s := s.finishOpt g.cmd csOK (beBytes 4 (s.getR (Reg.ENG_MAP m)).toNat)
  if s.engState n = 6 then s.freeTarget n else s

/-- A cycle boundary at `t` on physical engine `n` (R91, R107): a migration whose copy has completed switches at it when
at most 512 lines are dirty, or at the eighth boundary, and the cycle starts on the holder. -/
def State.boundary (s : State) (n e : Nat) (data : Word) (t : DWord) : State :=
  match (s.leng e).mig with
  | none => s.startCycle n e data t
  | some g =>
    if g.copied && !g.waits then
      if g.left ≤ 512 ∨ 7 ≤ g.bounds then
        ((s.switchEngine n e g).setEngState g.target 2).startCycle g.target e data t
      else (s.setLeng e { s.leng e with mig := some { g with bounds := g.bounds + 1 } }).startCycle n e data t
    else s.startCycle n e data t

/-- The clean passes of a retired engine count from its retirement (R109). -/
def State.forgetClean (s : State) (typ unit : Nat) : State :=
  { s with tst := { s.tst with clean := s.tst.clean.erase (unitKey typ unit) } }

/-- The engine slice in progress, aborted and recorded as ABORTED (R108, R473). -/
def State.dropEngineSlice (s : State) : State := (s.noteAborted 0).setDtype 0 { s.dtype 0 with slice := none }

/-- A lee engine that serves a Drizzle slice (R108): its slice is aborted, and the unit under test takes its work back at its next
cycle boundary; a lee engine that is still copying that work in is free at once, and the work stays where it is. Answers the lee
engine, and whether it is free. -/
def State.abortEngineSlice (s : State) : Option (State × Nat × Bool) :=
  match (s.dtype 0).slice with
  | some sl =>
    match sl.heldBy with
    | some m =>
      match s.logicalOf m, s.logicalOf sl.unit with
      | some e, _ =>
        if (s.leng e).mig.isSome then none
        else some ((s.dropEngineSlice.setEngState sl.unit 8).startMigration m sl.unit e { target := sl.unit, drizzle := true }, m, false)
      | none, some e =>
        if (s.leng e).mig.any (fun g => g.drizzle && g.target == m && !g.retire) then
          let s1 := (s.dropEngineSlice.setLeng e { s.leng e with mig := none }).setHold (domEngine sl.unit) holdCopy false
          some (s1.setEngState m 6, m, true)
        else none
      | none, none => none
    | none => none
  | none => none

/-- The unit under test of the engine slice whose lee engine is physical engine `n`. -/
def State.leeOf (s : State) (n : Nat) : Option Nat :=
  match (s.dtype 0).slice with
  | some sl => if sl.heldBy = some n then some sl.unit else none
  | none => none

/-- Logical engine `e` needs a new holder (R105, R106, R108): the lowest SPARE engine, or a lee engine freed from a
Drizzle slice; none where there is neither. A migration already under way goes on for the new reason: it is no move of a Drizzle
pass any more, and its slice ends as ABORTED. Where engine `n` is itself the lee engine of a slice, the unit under test takes its
work back. -/
def State.needHolder (s : State) (n e : Nat) (halt failed : Bool) : Option State :=
  let s := s.forgetClean 0 n
  match (s.leng e).mig with
  | some g =>
    let s := if g.drizzle && (s.dtype 0).slice.any (fun sl => sl.unit == n || sl.heldBy == some n) then s.dropEngineSlice else s
    some (s.setLeng e { s.leng e with mig := some { g with retire := true, drizzle := false, halt := g.halt || halt, failed := g.failed || failed } })
  | none =>
    let g : Migration := { target := 0, retire := true, halt := halt, failed := failed }
    match s.lowestSpare, s.leeOf n with
    | some m, none => some (s.startMigration n m e g)
    | _, some u => some (s.dropEngineSlice.startMigration n u e g)
    | none, none =>
      match s.abortEngineSlice with
      | none => none
      | some (s1, m, true) => some (s1.startMigration n m e g)
      | some (s1, m, false) => some ((s1.holdAndWake (domEngine n) holdCopy 8).setLeng e
          { s1.leng e with mig := some { g with target := m, waits := true } })

/-- Whether a new holder is to be had now. -/
def State.holderFree (s : State) (n e : Nat) : Bool := (s.needHolder n e false false).isSome

/-- A lasting fault at the end of its cycle (R105, R108): the engine is retired and its logical engine migrates, or it
stays in service DEGRADED. -/
def State.retireLasting (s : State) (n e : Nat) : State :=
  match s.needHolder n e false false with
  | some t => t
  | none => (s.setB (Reg.ENG_STAT n) 5 true).raise e 0x4000

/-! ### The end of a cycle (R92, R93, R106, R118, R119) -/

/-- Host writes that waited for the cycle's end (R89). -/
def LEng.applyHost (c : LEng) : LEng := c.hostW.foldl (fun c w => c.write w.1 w.2) { c with hostW := [] }

/-- A host write of bytes `b` at `a` of the data RAM that physical engine `n` holds (R89, R431, R433): in a cycle it waits
for the cycle's end; a domain that is not ON is woken, and it waits for the end of the wake. -/
def State.hostRam (s : State) (n a : Nat) (b : List Byte) : State :=
  match s.logicalOf n with
  | none => s
  | some e =>
    let c := s.leng e
    if s.inCycle n then s.setLeng e { c with hostW := c.hostW ++ [(a, b)] }
    else if s.domOn (domEngine n) then (s.setLeng e (c.write a b)).touch (domEngine n)
    else (s.setLeng e { c with hostW := c.hostW ++ [(a, b)] }).wake (domEngine n) 1

/-- Between cycles (R92): the planes swap where FRONT_PEND is set, stalled host writes complete, a lasting fault retires
the engine, and the engine halts or starts the cycle of a latched trigger; between cycles a kept power request is acted on
(R430). -/
def State.settle (s : State) (n e : Nat) (halt : Bool) : State :=
  let c := s.leng e
  let s := s.setLeng e { c.cleared with lasting := false, haltAtEnd := false }
  let s := (s.setB (Reg.ENG_STAT n) 4 false).setEngState n 2
  let s := if s.getB (Reg.ENG_STAT n) 7 then s.swapPlanes n e else s
  let s := (s.setLeng e (s.leng e).applyHost).touch (domEngine n)
  let s := if c.lasting then s.retireLasting n e else s
  let s := if halt || c.haltAtEnd then s.enterHalt n e
    else match c.latched with
      | some (d, t) =>
        ((s.setLeng e { s.leng e with latched := none }).setB (Reg.ENG_STAT n) 6 false).boundary n e d t
      | none => s
  if s.inCycle n then s else s.cycleEnded n

/-- The cycle is abandoned (R118, R138): with ACT 0 the checkpoint is restored and LOST counts; with ACT 1 the engine
halts; an unrestorable cycle is restored as far as its undo log reaches, and the engine halts. DESIGN CHOICE (log entry 193):
a cycle abandoned with ACT 1 while FRONT_PEND is set still takes the Front, and HALT_CLR then has nothing of it left to restore. -/
def State.abandon (s : State) (n e : Nat) : State :=
  let c := s.leng e
  if c.unrestorable then (s.setLeng e c.restored).settle n e true
  else if s.getB (Reg.ENG_WDT n) 8 then
    let r := s.settle n e true
    if s.getB (Reg.ENG_STAT n) 7 then r
    else r.setLeng e { r.leng e with undo := c.undo }
  else ((s.setLeng e c.restored).loseCycle n e).settle n e false

/-- The logical engine starts over on its new holder after a cycle failure (R106). -/
def State.afterFailure (s : State) (n e : Nat) (g : Migration) : State :=
  let s := (s.switchEngine n e g).setEngState g.target 2
  if g.halt then (s.enterHalt g.target e).noteFailHalt e else s

/-- Cycle failure (R106, R108): the checkpoint is restored, CYCLE_FAIL is set, a latched trigger is lost, the physical
engine is retired and the logical engine migrates at once, or halts where no holder is free. -/
def State.cycleFail (s : State) (n e : Nat) : State :=
  let c := s.leng e
  let halt := c.unrestorable
  let s := (s.raise e 2).addF (Reg.ENG_RETRY n) 31 16 1
  let s := s.setLeng e { c.restored.cleared with latched := none, lasting := false, haltAtEnd := false, awaits := true }
  let s := (s.setB (Reg.ENG_STAT n) 4 false).setB (Reg.ENG_STAT n) 6 false
  let s := if c.latched.isSome then s.loseCycle n e else s
  let s := (if s.getB (Reg.ENG_STAT n) 7 then s.swapPlanes n e else s)
  let s := s.setLeng e (s.leng e).applyHost
  match s.needHolder n e (halt || c.haltAtEnd) true with
  | none => ((s.setEngState n 2).enterHalt n e).noteFailHalt e
  | some t =>
    let t := t.setEngState n 7
    match (t.leng e).mig with
    | some g => if g.copied && !g.waits then t.afterFailure n e g else t
    | none => t

/-! ### Lockstep mismatch (R101–R105) -/

/-- A mismatch counted in the squall window of physical engine `n` (R105): whether the fault is lasting, and the first
mismatch of the window, which the repair log records. -/
def State.countMismatch (s : State) (n e pc bit : Nat) : State × Bool :=
  let cfg := squallCfg (s.getR (Reg.ENG_SQUALL n))
  let old := (tabGet (fun _ => []) s.eng.mism n).filter (fun m => decide (tdiff s.time m.1 < (cfg.1 * unitsPerMs : Nat)))
  let l := old ++ [(s.time, pc, bit)]
  let r := s.countFault 0 n cfg
  let s := { r.1 with eng := { r.1.eng with mism := tabPut (fun _ => []) r.1.eng.mism n (if r.2 then [] else l) } }
  if r.2 then
    match l with
    | (_, a, b) :: _ => (s.lastingFault 0 n (BitVec.ofNat 32 a) 2 b (!s.holderFree n e), true)
    | [] => (s, true)
  else (s, false)

/-- A mismatch in the running cycle (R101, R102, R104, R105): it counts, and the cycle is retried from its checkpoint,
or fails. -/
def State.mismatch (s : State) (n e bit : Nat) : State :=
  let c := s.leng e
  let r := s.countMismatch n e c.pc bit
  let s := r.1
  let out := match c.stall with
    | some (.bayWrite p sec k) => some ⟨p, sec, k, c.stallAt⟩
    | _ => c.bayOut
  let late := decide ((s.period n * 45 : Nat) ≤ 100 * tdiff s.time c.bound)
  let s := if s.engState n == 3 && late then s.raise e 8 else s
  if s.engState n == 4 || s.getB (Reg.ENG_STAT n) 4 || !s.getB (Reg.ENG_CTL n) 2 then s.cycleFail n e
  else
    (s.setLeng e { c.restored with
      pc := 0, inFar := false, stall := none, inPos := 0, efK := 0, efPend := [], firstIssued := c.issued, issued := 0,
      bayOut := out, retryAt := some s.time, lasting := c.lasting || r.2 }).setEngState n 4

/-! ### Bay ports (R114) -/

/-- The sector whose port interface bay port `p` of logical engine `e` is attached to. -/
def State.baySector (s : State) (e p : Nat) : Option Nat :=
  (s.regs.find? (fun r =>
    decide (0x20000000 ≤ r.1) && decide (r.1 < 0x23000000) && decide (0xA0 ≤ r.1 % 0x100000) &&
    decide (r.1 % 0x100000 < 0xC0) && bitOf r.2 31 && fld r.2 13 8 == e && fld r.2 1 0 == p)).map
      (fun r => (r.1 - 0x20000000) / 0x100000)

/-! ### Exceptions (R138, R139) -/

/-- An exception of code `code` at address `at_`: a cycle failure where the first attempt passed the instruction, else
EXC and EPC are written and the cycle is abandoned. -/
def State.takeExc (s : State) (n e code at_ : Nat) : State :=
  let c := s.leng e
  let retry := s.engState n == 4
  if retry && decide (c.issued ≤ c.firstIssued) then s.cycleFail n e
  else
    let s := s.setLeng e { c with exc := BitVec.ofNat 64 (code + 256 * retry.toNat),
                                  epc := BitVec.ofNat 64 (at_ + (if c.inFar then 2 ^ 63 else 0)) }
    (s.raise e 0x8000).abandon n e

end Sys2Proof.Machine
end

