-- ==== Sys2Proof/Machine/Operands.lean ====
section
/-!
DEFINITION. Sys2Proof/Machine/Operands.lean: the fields of an engine instruction word, which instruction a word is
(none: reserved, and ILLEGAL; R132, R133), and which general registers it names (R124).
-/
namespace Sys2Proof.Machine

/-! ### Fields (R132) -/

def fOP (w : Word) : Nat := fld w 31 26
def fRD (w : Word) : Nat := fld w 25 21
def fRA (w : Word) : Nat := fld w 20 16
def fRB (w : Word) : Nat := fld w 15 11
def fMOD (w : Word) : Nat := fld w 10 6
def fFN (w : Word) : Nat := fld w 5 0
def fSEL (w : Word) : Nat := fld w 10 0
def fIMM (w : Word) : Nat := fld w 15 0
/-- sext(imm) as a 64-bit value. -/
def immS (w : Word) : DWord := dw (sextInt 16 (fIMM w))
/-- zext(imm) as a 64-bit value. -/
def immZ (w : Word) : DWord := BitVec.ofNat 64 (fIMM w)
def fCOND (w : Word) : Nat := fld w 25 22
def fTARGET (w : Word) : Nat := fld w 12 0

/-- The instructions of the engines, as the opcode table's rows divide them. -/
inductive EngRow where
  | alu | addi | andi | ori | xori | shi | ldi | insh | cmpi | nop | fpu | fma
  | ld | ldw | ldws | st | stw | bcc | jmp | call | jr | ret | fret | fcall
  | post | cancel | waitt | waitf | tfclr | send | recv | peek | recvm | bprd | bpwr
  | uwr | urd | trjGo | trjStop | qstop | trjStep | engage | disengage | camStep | vmset
  | loopReset | biqReset | apply | cami | loopx | biqx | limx | mfs | mts | cend
  | prelog | ckhNoretry | logfree | rqNvRead | rqNvProgram | rqNvErase | rqPrmRead | rqPrmWrite | rqTrunk
deriving DecidableEq, Repr

/-- `r` where `ok` holds; otherwise the word is reserved. -/
def rowIf (ok : Bool) (r : EngRow) : Option EngRow := if ok then some r else none

/-- ALU functions that the table of R135 lists, with their reserved fields. -/
def aluLegal (w : Word) : Bool :=
  let fn := fFN w
  let m := fMOD w
  if fn = 0x16 then decide (m < 15)
  else
    (decide (fn ≤ 0x21) && fn != 0x17 && m % 16 == 0) &&
    (if fn = 0x0C ∨ fn = 0x0D then fRD w == 0 else true) &&
    (if 0x12 ≤ fn ∧ fn ≤ 0x15 then fRB w == 0 else true)

/-- FPU functions of one operand (R136): FSQRT, FABS, FNEG, the conversions. -/
def fpuUnary (fn : Nat) : Bool :=
  fn == 4 || fn == 7 || fn == 8 || fn == 0x17 || fn == 0x18 || decide (0x20 ≤ fn)

/-- FPU functions that the table of R136 lists, with their reserved fields. -/
def fpuLegal (w : Word) : Bool :=
  let fn := fFN w
  fMOD w == 0 &&
  (decide (fn ≤ 9) || (decide (0x10 ≤ fn) && decide (fn ≤ 0x12)) || (decide (0x15 ≤ fn) && decide (fn ≤ 0x19)) ||
    (decide (0x20 ≤ fn) && decide (fn ≤ 0x29))) &&
  (if fn = 9 ∨ fn = 0x19 then fRD w == 0 else true) &&
  (if fpuUnary fn then fRB w == 0 else true)

/-- Registers that a unit's table lists (R157–R179): unit and number. -/
def unitRegListed (unit reg : Nat) : Bool :=
  match unit with
  | 0 => decide (reg ≤ 5) || (decide (8 ≤ reg) && decide (reg ≤ 0x0B))
  | 1 => decide (reg ≤ 0x0B) || (decide (0x20 ≤ reg) && decide (reg < 0x60) && decide ((reg - 0x20) % 8 < 5))
  | 2 => decide (reg < 0x30) && decide (reg % 16 ≤ 12) && reg != 10
  | 3 => (decide (reg < 0x20) && decide (reg % 8 ≤ 6)) || reg == 0x20
  | 4 => decide (reg ≤ 8)
  | 5 => decide (reg ≤ 3) || (decide (8 ≤ reg) && decide (reg ≤ 0x0F))
  | 6 => decide (reg ≤ 0x0A) || reg == 0x10 || (decide (0x12 ≤ reg) && decide (reg ≤ 0x1A)) ||
         (decide (0x20 ≤ reg) && decide (reg ≤ 0x27))
  | _ => false

/-- Registers that a UWR may write: listed and not RO (R157). -/
def unitRegWritable (unit reg : Nat) : Bool :=
  unitRegListed unit reg &&
  (match unit with
   | 0 => decide (reg ≤ 5) || reg == 8
   | 1 => reg == 0 || (decide (3 ≤ reg) && decide (reg ≤ 8))
   | 2 => reg % 16 != 11
   | 4 => decide (reg ≤ 3) || decide (7 ≤ reg)
   | 5 => reg != 0x0F
   | 6 => decide (reg ≤ 1) || reg == 5 || (decide (8 ≤ reg) && decide (reg ≤ 0x0A)) || reg == 0x10
   | _ => true)

/-- The unit commands (R148, R149, R165–R173). -/
def ucmdRow (w : Word) : Option EngRow :=
  let rd0 := fRD w == 0
  let ra0 := fRA w == 0
  let rb0 := fRB w == 0
  match fld w 10 8, fld w 7 0 with
  | 0, 0 => rowIf (rd0 && ra0 && rb0) .trjGo
  | 0, 1 => rowIf (rd0 && ra0 && rb0) .trjStop
  | 0, 2 => rowIf (rd0 && ra0 && rb0) .qstop
  | 0, 3 => rowIf (ra0 && rb0) .trjStep
  | 1, 0 => rowIf rd0 .engage
  | 1, 1 => rowIf (rd0 && ra0 && rb0) .disengage
  | 1, 2 => rowIf (ra0 && rb0) .camStep
  | 1, 3 => rowIf (rd0 && ra0 && rb0) .vmset
  | 2, 0 => rowIf (rd0 && ra0 && rb0) .loopReset
  | 3, 0 => rowIf (rd0 && ra0 && rb0) .biqReset
  | 5, 0 => rowIf (rd0 && ra0 && rb0) .apply
  | _, _ => none

/-- The instruction that a word is; none for a reserved opcode, function, condition or a non-zero reserved field. -/
def insRow (w : Word) : Option EngRow :=
  let rd0 := fRD w == 0
  let ra0 := fRA w == 0
  let rb0 := fRB w == 0
  let mod0 := fMOD w == 0
  let fn0 := fFN w == 0
  match fOP w with
  | 0x01 => rowIf (aluLegal w) .alu
  | 0x02 => some .addi
  | 0x03 => some .andi
  | 0x04 => some .ori
  | 0x05 => some .xori
  | 0x06 => rowIf (fld w 15 8 == 0) .shi
  | 0x07 => rowIf ra0 .ldi
  | 0x08 => rowIf (decide (fRA w ≤ 3)) .insh
  | 0x09 => rowIf rd0 .cmpi
  | 0x0B => rowIf (fld w 25 0 == 0) .nop
  | 0x0C => rowIf (fpuLegal w) .fpu
  | 0x0D => rowIf (decide (fFN w ≤ 3)) .fma
  | 0x10 => some .ld
  | 0x11 => some .ldw
  | 0x12 => some .ldws
  | 0x13 => some .st
  | 0x14 => some .stw
  | 0x18 => rowIf (fld w 21 16 == 0 && fCOND w != 15) .bcc
  | 0x19 => rowIf (fld w 25 13 == 0) .jmp
  | 0x1A => rowIf (fld w 25 13 == 0) .call
  | 0x1B =>
    match fFN w with
    | 0 => rowIf (rd0 && rb0 && mod0) .jr
    | 1 => rowIf (rd0 && ra0 && rb0 && mod0) .ret
    | 2 => rowIf (rd0 && ra0 && rb0 && mod0) .fret
    | _ => none
  | 0x1C => rowIf (rd0 && rb0 && mod0 && fn0) .fcall
  | 0x20 => rowIf (decide (fMOD w ≤ 2) && fn0) .post
  | 0x21 => rowIf (rb0 && mod0 && fn0) .cancel
  | 0x22 => rowIf (rd0 && rb0 && decide (fMOD w ≤ 1) && fn0) .waitt
  | 0x23 => some .waitf
  | 0x24 => rowIf (mod0 && fn0) .send
  | 0x25 => rowIf (decide (fRA w < 16)) .recv
  | 0x26 => rowIf (decide (fRA w < 16) && fIMM w == 0) .peek
  | 0x27 => some .recvm
  | 0x28 => rowIf (decide (fRA w ≤ 3) && fIMM w == 0) .bprd
  | 0x29 => rowIf (decide (fRA w ≤ 3) && fIMM w == 0) .bpwr
  | 0x2A => rowIf (rd0 && rb0 && mod0 && fn0) .tfclr
  | 0x30 => rowIf (rd0 && rb0 && unitRegWritable (fld w 10 8) (fld w 7 0)) .uwr
  | 0x31 => rowIf (ra0 && rb0 && unitRegListed (fld w 10 8) (fld w 7 0)) .urd
  | 0x32 => ucmdRow w
  | 0x33 => rowIf (rb0 && fld w 10 3 == 0) .cami
  | 0x34 => rowIf (fld w 10 2 == 0 && fld w 1 0 != 3) .loopx
  | 0x35 => rowIf (rb0 && fSEL w == 0) .biqx
  | 0x36 => rowIf (fSEL w == 0) .limx
  | 0x3A => rowIf (decide (fRA w < 16) && rb0 && mod0 && fn0) .mfs
  | 0x3B => rowIf (decide (7 ≤ fRD w) && decide (fRD w ≤ 11) && rb0 && mod0 && fn0) .mts
  | 0x3C => rowIf (fld w 25 0 == 0) .cend
  | 0x3D =>
    match fSEL w with
    | 0 => rowIf (rd0 && decide (1 ≤ fRB w) && decide (fRB w ≤ 16)) .prelog
    | 1 => rowIf (rd0 && ra0 && rb0) .ckhNoretry
    | 2 => rowIf (ra0 && rb0) .logfree
    | _ => none
  | 0x3E =>
    if rb0 && fn0 then
      match fMOD w with
      | 0 => some .rqNvRead
      | 1 => some .rqNvProgram
      | 2 => some .rqNvErase
      | 3 => some .rqPrmRead
      | 4 => some .rqPrmWrite
      | 5 => some .rqTrunk
      | _ => none
    else none
  | _ => none

/-- The general registers an instruction reads or writes: each must hold its value, so a status still on its way to
one of them stalls the instruction (R124). -/
def regsNamed (r : EngRow) (w : Word) : List Nat :=
  match r with
  | .alu => (if fFN w = 0x0C ∨ fFN w = 0x0D then [] else [fRD w]) ++ [fRA w] ++ (if 0x12 ≤ fFN w ∧ fFN w ≤ 0x15 then [] else [fRB w])
  | .fpu => (if fFN w = 9 ∨ fFN w = 0x19 then [] else [fRD w]) ++ [fRA w] ++ (if fpuUnary (fFN w) then [] else [fRB w])
  | .post | .send | .loopx | .limx => [fRD w, fRA w, fRB w]
  | .fma => [fRD w, fRA w, fRB w, fMOD w]
  | .addi | .andi | .ori | .xori | .shi | .ld | .ldw | .ldws | .st | .stw | .cancel | .waitf | .recvm
  | .cami | .biqx | .rqNvRead | .rqNvProgram | .rqNvErase | .rqPrmRead | .rqPrmWrite | .rqTrunk => [fRD w, fRA w]
  | .ldi | .insh | .recv | .peek | .bprd | .bpwr | .urd | .trjStep | .camStep | .mfs | .logfree => [fRD w]
  | .cmpi | .jr | .fcall | .waitt | .tfclr | .uwr | .mts | .prelog => [fRA w]
  | .engage => [fRA w, fRB w]
  | .nop | .bcc | .jmp | .call | .ret | .fret | .trjGo | .trjStop | .qstop | .disengage | .vmset | .loopReset
  | .biqReset | .apply | .cend | .ckhNoretry => []

end Sys2Proof.Machine
end

