-- ==== Sys2Proof/Machine/EngineRun.lean ====
section
/-!
DEFINITION. Sys2Proof/Machine/EngineRun.lean: the issue of one engine instruction (R124): the fetch, the interlock, the
release of an effect (R99, R101), an input live or replayed (R100), and results.
-/
namespace Sys2Proof.Machine

/-- An instruction that issues: the state, the physical and the logical engine, the logical engine with the instruction
counted and the program counter past it, the word and its own address. -/
structure EngX where
  s   : State
  n   : Nat
  e   : Nat
  c   : LEng
  w   : Word
  at_ : Nat
  /-- The instruction had issued before and waited. -/
  again : Bool := false

/-! ### Fetch (R92, R116, R133) -/

/-- What a fetch gives: a word, a line of the far-code cache that must be filled, or the FETCH exception. -/
inductive Fetched where
  | word (w : Word)
  | fill (line : Nat)
  | bad

/-- The word at the program counter: program RAM, or the far window through the cache (16 words a line). -/
def State.fetch (s : State) (e : Nat) : Fetched :=
  let c := s.leng e
  if c.inFar then
    if 2 ^ 24 ≤ c.pc then .bad
    else match c.far.find? (fun l => l.line == c.pc / 16) with
      | some l => .word (l.words.getD (c.pc % 16) 0)
      | none => .fill (c.pc / 16)
  else if 8192 ≤ c.pc then .bad
  else .word (progWord s.cfg.active e c.pc)

/-- The far-code cache with the line of an access moved to the front, most recently used first. -/
def LEng.usedFar (c : LEng) : LEng :=
  if c.inFar then
    { c with far := c.far.filter (fun l => l.line == c.pc / 16) ++ c.far.filter (fun l => l.line != c.pc / 16) }
  else c

/-- A row of the engine instruction set on physical engine `n` (R124): the engine runs a cycle, nothing stalls it but a
wait that `resume` takes up again, and the word at its program counter is of this row. A word that is no instruction
raises ILLEGAL, whichever row asks; a word of another row, and one that waits for a status on its way to one of its
registers, change nothing. -/
def State.engRunW (s : State) (row : EngRow) (n : Nat) (resume : Stall → Bool) (f : EngX → State) : State :=
  match s.logicalOf n with
  | none => s
  | some e =>
    let c := s.leng e
    if s.inCycle n && s.domOn (domEngine n) && (match c.stall with
        | none => true
        | some x => resume x) then
      match s.fetch e with
      | .bad => (s.setLeng e { c with issued := c.issued + 1 }).takeExc n e 2 c.pc
      | .fill line => s.setLeng e { c with stall := some (.farFill line) }
      | .word w =>
        let again := c.stall.isSome
        let c1 := { c.usedFar with issued := if again then c.issued else c.issued + 1, stall := none }
        match insRow w with
        | none => (s.setLeng e c1).takeExc n e 1 c.pc
        | some r =>
          if r = row then
            if (regsNamed r w).any (fun i => c.efPend.any (fun p => p.1 == i)) then s
            else f ⟨s, n, e, { c1 with pc := c.pc + 1 }, w, c.pc, again⟩
          else s
    else s

/-- A row of an instruction that does not wait. -/
def State.engRun (s : State) (row : EngRow) (n : Nat) (f : EngX → State) : State := s.engRunW row n (fun _ => false) f

namespace EngX

/-- The state with the logical engine as the instruction leaves it. -/
def done (x : EngX) (c : LEng) : State := x.s.setLeng x.e c

/-- The core the instruction reads. -/
def core (x : EngX) : EngCore := x.c.core

/-- A general register. -/
def g (x : EngX) (i : Nat) : DWord := tabGet (fun _ => 0) x.c.core.g i

def ra (x : EngX) : DWord := x.g (fRA x.w)
def rb (x : EngX) : DWord := x.g (fRB x.w)
def rd (x : EngX) : DWord := x.g (fRD x.w)

/-- The cycle is a retry. -/
def retry (x : EngX) : Bool := x.s.engState x.n == 4

/-- The exception of code `code` at this instruction (R138, R139). -/
def exc (x : EngX) (code : Nat) : State := (x.done { x.c with pc := x.at_ }).takeExc x.n x.e code x.at_

/-- PERIOD in force. -/
def period (x : EngX) : Nat := x.s.period x.n

/-- The logical engine with the instruction stalled: the program counter stays on it, and the bound of the wait runs from the first
time it stalls. -/
def stalled (x : EngX) (st : Stall) : LEng :=
  { x.c with pc := x.at_, stall := some st, stallAt := if x.again then x.c.stallAt else x.s.time }

/-- The instruction stalls. -/
def stall (x : EngX) (st : Stall) : State := x.done (x.stalled st)

end EngX

/-- A core with general register `i` holding `v`. -/
def EngCore.setG (k : EngCore) (i : Nat) (v : DWord) : EngCore := { k with g := tabPut (fun _ => 0) k.g i v }

/-- N, Z, C, V of a core. -/
def EngCore.nzcv (k : EngCore) : Nzcv := ⟨k.flagN, k.flagZ, k.flagC, k.flagV⟩

/-- A core with Z set. -/
def EngCore.setZ (k : EngCore) (z : Bool) : EngCore := { k with flagZ := z }

/-- The status of an instruction: ST[7:0] holds the code, Z is set exactly on OK (R134). -/
def EngCore.status (k : EngCore) (st : Nat) : EngCore :=
  { k with st := (k.st &&& ~~~(0xFF : DWord)) ||| BitVec.ofNat 64 st, flagZ := st == stOK }

/-- A core with a function's result in `d` and the flags it writes, where `wf` lets it write them (R135). -/
def EngCore.alu (k : EngCore) (d : Nat) (r : AluRes) (wf : Bool) : EngCore :=
  let k := match r.val with
    | some v => k.setG d v
    | none => k
  if wf then
    { k with flagN := r.n.getD k.flagN, flagZ := r.z.getD k.flagZ, flagC := r.c.getD k.flagC, flagV := r.v.getD k.flagV }
  else k

/-- A logical engine with another core. -/
def LEng.withCore (c : LEng) (k : EngCore) : LEng := { c with core := k }

namespace EngX

/-- The instruction's whole result is a new core. -/
def put (x : EngX) (k : EngCore) : State := x.done (x.c.withCore k)

/-- The result `v` in rd. -/
def setRd (x : EngX) (v : DWord) : State := x.put (x.core.setG (fRD x.w) v)

/-! ### Inputs (R100, R101) -/

/-- The next entry of the input log, in a retry that has not exhausted it. -/
def replay? (x : EngX) : Option InEntry := if x.retry then x.c.inLog[x.c.inPos]? else none

/-- The logical engine after a logged input has been replayed. -/
def replayed (x : EngX) : LEng := { x.c with inPos := x.c.inPos + 1 }

/-- The logical engine with a live input logged, while the log has room. -/
def logIn (x : EngX) (i : InEntry) : LEng :=
  let n := x.c.inLog.length + 1
  { x.c with inLog := if x.c.inCount < 256 then x.c.inLog ++ [i] else x.c.inLog, inPos := n }

/-- An input `i` read live from the state as it then stands: it is logged, and `use_` gives the engine that takes it. -/
def liveIn (x : EngX) (s : State) (i : InEntry) (use_ : LEng → LEng) : State := s.putLogged x.n x.e (use_ (x.logIn i))

/-- An input that is there at once: replayed, or read live. -/
def input (x : EngX) (live : InEntry) (use_ : LEng → InEntry → LEng) : State :=
  match x.replay? with
  | some i => x.done (use_ x.replayed i)
  | none => x.liveIn x.s live (fun c => use_ c live)

end EngX

/-! ### Effects (R99, R101, R102) -/

/-- What becomes of an effect: it leaves the engine with its number, it has left in the first attempt and is suppressed,
or it differs from the one that has left. -/
inductive Released where
  | go (c : LEng) (k : Nat)
  | done (c : LEng) (k : Nat)
  | differ

/-- The release of effect `f` (R101). -/
def EngX.release (x : EngX) (f : Effect) : Released :=
  let i := x.c.efK
  let k := x.c.efBase + i + 1
  let c := { x.c with efK := i + 1 }
  match (if x.retry then x.c.efLog[i]? else none) with
  | some g => if g = f then .done c k else .differ
  | none => .go { c with efLog := if x.c.efLog.length < 256 then c.efLog ++ [f] else c.efLog } k

/-- An effect without a status: `act` carries it out. -/
def EngX.effect (x : EngX) (f : Effect) (act : State → State) : State :=
  match x.release f with
  | .differ => (x.done { x.c with pc := x.at_ }).cycleFail x.n x.e
  | .done c _ => x.done c
  | .go c _ => act (x.s.putLogged x.n x.e c)

/-- An effect whose status comes back for rd (R124, R142): `act` carries it out with its number, and the register waits
for the status, unless an earlier attempt already has it. -/
def EngX.asked (x : EngX) (f : Effect) (act : State → Nat → State) : State :=
  match x.release f with
  | .differ => (x.done { x.c with pc := x.at_ }).cycleFail x.n x.e
  | .done c k =>
    match c.efStat.find? (fun p => p.1 == k) with
    | some p => x.done (c.withCore (c.core.setG (fRD x.w) p.2))
    | none => x.done { c with efPend := c.efPend ++ [(fRD x.w, k)] }
  | .go c k =>
    act (x.s.putLogged x.n x.e { c with efPend := c.efPend ++ [(fRD x.w, k)], efWait := c.efWait ++ [k] }) k

/-- The status of effect `k` is on its way back to logical engine `e`. -/
def State.engStatus (s : State) (e k v : Nat) : State :=
  s.setLeng e { s.leng e with ret := (s.leng e).ret ++ [(k, BitVec.ofNat 64 v)] }

/-- A status that has come back (R124, R142): it is logged as an input, and a register that waits for it takes it. -/
def LEng.takeStatus (c : LEng) (k : Nat) (v : DWord) : LEng :=
  let core := c.efPend.foldl (fun (g : EngCore) p => if p.2 = k then g.setG p.1 v else g) c.core
  { c with core := core, efPend := c.efPend.filter (fun p => p.2 != k), efWait := c.efWait.filter (fun j => j != k),
           efStat := c.efStat ++ [(k, v)] }

/-- EFFECT_STATUS_RETURN (R99, R142): the oldest status on its way to physical engine `n` arrives. One of a cycle that has
ended is dropped. -/
def execEffectStatusReturn (n : Fin 68) (s : State) : Out :=
  match s.logicalOf n with
  | none => .next s
  | some e =>
    let c := s.leng e
    match c.ret with
    | [] => .next s
    | (k, v) :: l =>
      let c1 := { c with ret := l }
      if c.efWait.contains k then .next (s.putLogged n e (c1.takeStatus k v)) else .next (s.setLeng e c1)

end Sys2Proof.Machine
end

