-- ==== Sys2Proof/Machine/Crypto.lean ====
section
/-!
DEFINITION. Sys2Proof/Machine/Crypto.lean: the crypto block's AES-256-GCM and ECDSA P-256 verification, which the spec
names by their standards (R254, R255): FIPS 197 and SP 800-38D, FIPS 186-4. SHA-256 and HMAC stand in Machine/Sha256.lean.
-/
namespace Sys2Proof.Machine

/-! ### AES-256 (FIPS 197) -/

/-- Multiplication by x in GF(2^8). -/
def gfDouble (a : Nat) : Nat := let b := 2 * a; if 256 ≤ b then (b ^^^ 0x11B) % 256 else b

/-- Product in GF(2^8), over the low `k` bits of `b`. -/
def gfMul : Nat → Nat → Nat → Nat
  | 0, _, _ => 0
  | k + 1, a, b => (if b % 2 = 1 then a else 0) ^^^ gfMul k (gfDouble a) (b / 2)

/-- a^n in GF(2^8), by repeated product. -/
def gfPow (a : Nat) : Nat → Nat
  | 0 => 1
  | n + 1 => gfMul 8 a (gfPow a n)

/-- Rotation of a byte to the left. -/
def rotByte (a n : Nat) : Nat := (a <<< n ||| a >>> (8 - n)) % 256

/-- The S-box: the inverse, then the affine map. -/
def aesSub (a : Nat) : Nat :=
  let b := gfPow a 254
  b ^^^ rotByte b 1 ^^^ rotByte b 2 ^^^ rotByte b 3 ^^^ rotByte b 4 ^^^ 0x63

/-- Exclusive or of two lists of bytes. -/
def xorBytes (a b : List Nat) : List Nat := (a.zip b).map (fun p => p.1 ^^^ p.2)

/-- The key schedule: words `i` and on, from the words so far, newest first. -/
def aesWords : Nat → Nat → List (List Nat) → List (List Nat)
  | 0, _, l => l
  | k + 1, i, l =>
    let prev := l.headD []
    let t :=
      if i % 8 = 0 then
        let r := (prev.drop 1 ++ prev.take 1).map aesSub
        xorBytes r [gfPow 2 (i / 8 - 1), 0, 0, 0]
      else if i % 8 = 4 then prev.map aesSub
      else prev
    aesWords k (i + 1) (xorBytes (l.getD 7 []) t :: l)

/-- The 15 round keys of a 32-byte key. -/
def aesKeys (key : List Byte) : List (List Nat) :=
  let k := key.map BitVec.toNat
  let first := (List.range 8).map (fun i => (k.drop (4 * i)).take 4)
  let w := (aesWords 52 8 first.reverse).reverse
  (List.range 15).map (fun r => ((w.drop (4 * r)).take 4).flatten)

/-- Row shift of a state in column order. -/
def aesShift (st : List Nat) : List Nat := (List.range 16).map (fun i => st.getD ((i + 4 * (i % 4)) % 16) 0)

/-- Column mix. -/
def aesMix (st : List Nat) : List Nat :=
  (List.range 16).map (fun i =>
    let a := fun j => st.getD (i / 4 * 4 + (i + j) % 4) 0
    gfDouble (a 0) ^^^ gfDouble (a 1) ^^^ a 1 ^^^ a 2 ^^^ a 3)

/-- The block cipher under round keys. -/
def aesBlock (keys : List (List Nat)) (block : List Nat) : List Nat :=
  let s0 := xorBytes block (keys.headD [])
  let s1 := ((keys.drop 1).take 13).foldl (fun st k => xorBytes (aesMix (aesShift (st.map aesSub))) k) s0
  xorBytes (aesShift (s1.map aesSub)) (keys.getD 14 [])

/-! ### GCM (SP 800-38D) -/

/-- Big-endian number of a list of byte values, and its bytes. -/
def natOf (l : List Nat) : Nat := l.foldl (fun n b => 256 * n + b) 0
def bytesOf (k n : Nat) : List Nat := (beBytes k n).map BitVec.toNat

/-- Product in GCM's field over the bits of `x` from the highest, `k` left. -/
def ghMul (x : Nat) : Nat → Nat → Nat → Nat
  | 0, _, z => z
  | k + 1, v, z =>
    ghMul x k (if v % 2 = 1 then v / 2 ^^^ (0xE1 <<< 120) else v / 2) (if x.testBit k then z ^^^ v else z)

/-- GHASH of blocks under `h`. -/
def ghash (h : Nat) (blocks : List Nat) : Nat := blocks.foldl (fun y b => ghMul (y ^^^ b) 128 h 0) 0

/-- 16-byte blocks of a list, the last one padded with zeros. -/
def blocks16 (l : List Nat) : List Nat :=
  (List.range ((l.length + 15) / 16)).map (fun i =>
    let b := (l.drop (16 * i)).take 16
    natOf (b ++ List.replicate (16 - b.length) 0))

/-- Key-stream block `i` (0 up) of a message. -/
def gcmStream (keys : List (List Nat)) (iv : List Byte) (i : Nat) : List Nat :=
  aesBlock keys (iv.map BitVec.toNat ++ bytesOf 4 (i + 2))

/-- Bytes at offset `off` of a GCM message, decrypted. -/
def gcmPlain (key iv : List Byte) (off : Nat) (cipher : List Byte) : List Byte :=
  let keys := aesKeys key
  let first := off / 16
  let ks := ((List.range ((off + cipher.length + 15) / 16 - first)).flatMap (fun i => gcmStream keys iv (first + i))).drop (off % 16)
  (cipher.zip ks).map (fun p => p.1 ^^^ BitVec.ofNat 8 p.2)

/-- The GCM tag of a ciphertext under its additional data agrees. -/
def gcmTagOk (key iv aad cipher tag : List Byte) : Bool :=
  let keys := aesKeys key
  let h := natOf (aesBlock keys (List.replicate 16 0))
  let y := ghash h (blocks16 (aad.map BitVec.toNat) ++ blocks16 (cipher.map BitVec.toNat) ++
    [(8 * aad.length) <<< 64 + 8 * cipher.length])
  let e := natOf (aesBlock keys (iv.map BitVec.toNat ++ [0, 0, 0, 1]))
  decide (tag = beBytes 16 (y ^^^ e))

/-! ### ECDSA P-256 (FIPS 186-4) -/

def p256P : Nat := 0xFFFFFFFF00000001000000000000000000000000FFFFFFFFFFFFFFFFFFFFFFFF
def p256N : Nat := 0xFFFFFFFF00000000FFFFFFFFFFFFFFFFBCE6FAADA7179E84F3B9CAC2FC632551
def p256B : Nat := 0x5AC635D8AA3A93E7B3EBBD55769886BC651D06B0CC53B0F63BCE3C3E27D2604B
def p256Gx : Nat := 0x6B17D1F2E12C4247F8BCE6E563A440F277037D812DEB33A0F4A13945D898C296
def p256Gy : Nat := 0x4FE342E2FE1A7F9B8EE7EB4A7C0F9E162BCE33576B315ECECBB6406837BF51F5

/-- a^n modulo m, over the low `k` bits of n. -/
def powMod (m : Nat) : Nat → Nat → Nat → Nat
  | 0, _, _ => 1 % m
  | k + 1, a, n => (if n % 2 = 1 then a else 1) * powMod m k (a * a % m) (n / 2) % m

/-- The inverse modulo a prime `m` below 2^256. -/
def invMod (m a : Nat) : Nat := powMod m 256 (a % m) (m - 2)

/-- A point of the curve; none: the point at infinity. -/
abbrev Point := Option (Nat × Nat)

/-- Sum of two points. -/
def pointAdd (a b : Point) : Point :=
  match a, b with
  | none, q => q
  | p, none => p
  | some (x1, y1), some (x2, y2) =>
    let P := p256P
    if x1 = x2 ∧ (y1 + y2) % P = 0 then none
    else
      let l := if x1 = x2 then (3 * x1 * x1 + (P - 3)) * invMod P (2 * y1) % P
               else (y2 + P - y1) * invMod P (x2 + P - x1) % P
      let x3 := (l * l + 2 * P - x1 - x2) % P
      some (x3, (l * (x1 + P - x3) + P - y1) % P)

/-- n times a point, over the low `k` bits of n. -/
def pointMul : Nat → Nat → Point → Point
  | 0, _, _ => none
  | k + 1, n, p => pointAdd (if n % 2 = 1 then p else none) (pointMul k (n / 2) (pointAdd p p))

/-- The signature (r, s) of a message digest verifies under the public key (x, y). -/
def ecdsaOk (pub digest sig : List Byte) : Bool :=
  let q := (beAt pub 0 32, beAt pub 32 32)
  let r := beAt sig 0 32
  let s := beAt sig 32 32
  let onCurve := decide (q.1 < p256P) && decide (q.2 < p256P) &&
    q.2 * q.2 % p256P == (q.1 ^ 3 + (p256P - 3) * q.1 + p256B) % p256P
  if onCurve && decide (0 < r) && decide (r < p256N) && decide (0 < s) && decide (s < p256N) then
    let w := invMod p256N s
    match pointAdd (pointMul 256 (beNat digest * w % p256N) (some (p256Gx, p256Gy))) (pointMul 256 (r * w % p256N) (some q)) with
    | some (x, _) => x % p256N == r
    | none => false
  else false

end Sys2Proof.Machine
end

