-- ==== Sys2Proof/Machine/CfgBase.lean ====
section
/-!
DEFINITION. Sys2Proof/Machine/CfgBase.lean: images and the configuration store below their rows (09_images_and_configuration_store.md): frame
addresses, header and frame checks, the planes, a staging's request, holds and streams.
-/
namespace Sys2Proof.Machine

/-! ### The image header (R249–R251) -/

abbrev Header := List Byte

namespace Header
def kind (h : Header) : Nat := beAt h 6 1
def enc (h : Header) : Bool := (h.getD 7 0).getLsbD 0
def stations (h : Header) : Nat := beAt h 0xE 2
def owner (h : Header) : Nat := beAt h 0x10 1
def sectors (h : Header) : Nat := beAt h 0x12 6
def engines (h : Header) : Nat := beAt h 0x18 8
def frames (h : Header) : Nat := beAt h 0x20 4
def svn (h : Header) : Nat := beAt h 0x24 4
def imageId (h : Header) : Nat := beAt h 0x28 8
def keyId (h : Header) : Nat := beAt h 0x30 1
def sigKeyId (h : Header) : Nat := beAt h 0x31 1
def iv (h : Header) : List Byte := sliceB h 0x40 12
def tag (h : Header) : List Byte := sliceB h 0x50 16
def digest (h : Header) : List Byte := sliceB h 0x60 32
def sig (h : Header) : List Byte := sliceB h 0x80 64
/-- The bytes that the signature covers (R255). -/
def signed (h : Header) : List Byte := h.take 0x80 ++ sliceB h 0xC0 0xF40
/-- BASE or GOLDEN. -/
def whole (h : Header) : Bool := h.kind == 1 || h.kind == 2
/-- Every reserved byte and bit is 0 (R249). -/
def reservedOk (h : Header) : Bool :=
  let z := fun off len => (sliceB h off len).all (fun b => b == 0)
  z 0x11 1 && z 0x32 14 && z 0x4C 4 && z 0xE0 3872 && decide (beAt h 7 1 ≤ 1)
end Header

/-- Lowest bit set. -/
def lowestBit (n m : Nat) : Nat := ((bitsSet n m).head?).getD 0

/-- Number of bits set. -/
def bitCount (n m : Nat) : Nat := (bitsSet n m).length

/-- The owner of sector `s`, of logical engine `e`, in the present ownership table (R252). -/
def State.ownerSector (s : State) (i : Nat) : Nat := s.getF (Reg.CFG_OWN i) 3 0
def State.ownerEngine (s : State) (e : Nat) : Nat := s.getF (Reg.CFG_EOWN e) 3 0

/-- The four pins of pin frame `i` are all owned, in the active configuration, by sectors of `mask` (R253). -/
def State.pinFrameOwned (s : State) (i mask : Nat) : Bool :=
  (List.range 4).all (fun k => mask.testBit (s.pin (4 * i + k)).sector && decide ((s.pin (4 * i + k)).sector < 48))

/-- The addresses that an image's masks cover (R248). -/
def State.covers (s : State) (h : Header) (a : Nat) : Bool :=
  addrDefined a &&
  (h.whole ||
   (match fClass a with
    | 2 => h.engines.testBit (fEngine a)
    | 3 => decide (fIndex a < 288) && s.pinFrameOwned (fIndex a) h.sectors
    | 5 => false
    | _ => h.sectors.testBit (fSector a)))

/-- The addresses that the loader fills with zeros where the image skips them: no pin frame of a PARTIAL image (R248). -/
def State.fills (s : State) (h : Header) (a : Nat) : Bool := s.covers h a && (h.whole || fClass a != 3)

/-- How many addresses the masks cover (R248, R256). -/
def State.coverCount (s : State) (h : Header) : Nat :=
  if h.whole then maxFrames
  else 1899 * bitCount 48 h.sectors + 145 * bitCount 64 h.engines +
    ((List.range 288).filter (fun i => s.pinFrameOwned i h.sectors)).length

/-- An image may contain the frame (R253). -/
def State.allowed (s : State) (h : Header) (a : Nat) (data : List Byte) : Bool :=
  h.whole ||
  (match fClass a with
   | 2 => h.engines.testBit (fEngine a) && s.ownerEngine (fEngine a) == h.owner
   | 3 => decide (fIndex a < 288) && s.pinFrameOwned (fIndex a) h.sectors &&
      (List.range 4).all (fun k =>
        let o := (decoded data ({} : Config.PinCfg) (fun f => Config.pinCfg f k)).sector
        decide (48 ≤ o) || h.sectors.testBit o)
   | 5 => false
   | _ => h.sectors.testBit (fSector a) && s.ownerSector (fSector a) == h.owner)

/-! ### Checks (R256, R258) -/

/-- The first address that a mask names under another owner (R256, 13): class 0, then class 2. -/
def State.ownerFault (s : State) (h : Header) : Option Nat :=
  if h.whole then none
  else match (bitsSet 48 h.sectors).find? (fun i => s.ownerSector i != h.owner) with
    | some i => some (frameAddr 0 i 0)
    | none => ((bitsSet 64 h.engines).find? (fun e => s.ownerEngine e != h.owner)).map (fun e => engFrame e 0)

/-- The masks and the owner suit the kind (R250). -/
def Header.masksOk (h : Header) : Bool :=
  match h.kind with
  | 1 | 2 => h.sectors == 2 ^ 48 - 1 && h.engines == 2 ^ 64 - 1 && h.owner == 0
  | 3 => decide (1 ≤ h.owner) && decide (h.owner ≤ 14) && h.stations != 0 && (h.sectors != 0 || h.engines != 0)
  | _ => decide (1 ≤ h.owner) && decide (h.owner ≤ 14) && h.stations != 0 && h.sectors == 0 && h.engines != 0

/-- The vault holds a key of number `k`. -/
def vaultHas (v : List (Nat × List Byte)) (k : Nat) : Bool := v.any (fun p => p.1 == k)

/-- A vault key. -/
def vaultKey (v : List (Nat × List Byte)) (k : Nat) : List Byte := tabGet (fun _ => []) v k

/-- The header checks in their order (R256): the status and the failing address. `kinds`: the kinds that suit the
operation; `startup`: the station mask and the ownership table are not applied (R267). -/
def State.headerCheck (s : State) (h : Header) (kinds : List Nat) (startup : Bool) : Nat × Nat :=
  if beAt h 0 4 ≠ 0x415A494D then (1, 0)
  else if beAt h 4 2 ≠ 1 ∨ h.kind = 0 ∨ 4 < h.kind ∨ h.reservedOk = false then (2, 0)
  else if beAt h 8 2 ≠ 0x96 ∨ beAt h 0xA 2 ≠ 0x9640 ∨ (beAt h 0xC 2).testBit 1 = false then (3, 0)
  else if kinds.contains h.kind = false then (4, 0)
  else if h.masksOk = false then (5, 0)
  else if !startup && !h.whole && !h.stations.testBit s.station then (12, 0)
  else if s.coverCount h < h.frames then (7, 0)
  else if s.tst.zeroised || !(vaultHas s.cfg.pub h.sigKeyId) || (h.enc && !(vaultHas s.cfg.aes h.keyId)) then (9, 0)
  else if !h.enc && s.cfg.requireEnc then (10, 0)
  else if !ecdsaOk (vaultKey s.cfg.pub h.sigKeyId) (sha256 h.signed) h.sig then (11, 0)
  else match (if startup then none else s.ownerFault h) with
    | some a => (6, a)
    | none => if h.svn < s.cfg.minSvn then (8, 0) else (0, 0)

/-- A carry map's reserved bits are 0 (R284). -/
def carryFrameOk (i : Nat) (data : List Byte) : Bool := i != 6 || (data.drop 8).all (fun b => b == 0)

/-- A frost profile names no reserved state and sets no reserved bit (R299). -/
def frostFrameOk (data : List Byte) : Bool :=
  let n := leNat data
  (data.drop 432).all (fun b => b == 0) && (List.range 1152).all (fun p => decide (n >>> (3 * p) % 8 ≤ 4))

/-- The carry ranges of an engine frame 0x0080 are well formed (R286). -/
def rangesOk (data : List Byte) : Bool :=
  (List.range 16).all (fun i =>
    let w := beAt data (320 + 4 * i) 4
    nbits w 30 27 == 0 && nbits w 15 11 == 0 && (!w.testBit 31 || decide (nbits w 26 16 ≤ nbits w 10 0)))

/-- An axis signal given to two pins, or to a pin used otherwise (R180): in the pins of frame `i` of an image, against each other,
against the pins of the image already seen, and against every pin outside the image as the active configuration has it (R258).
`plane`: the pin frames already seen. A frame that the image covers and has not reached yet is none of these: DEDUCED (log entry 205). -/
def State.pinConflict (s : State) (h : Header) (plane : List (Nat × List Byte)) (i : Nat) (data : List Byte) : Bool :=
  let mine := fun p => decoded data ({} : Config.PinCfg) (fun f => Config.pinCfg f (p % 4))
  let other := fun p =>
    let f := p / 4
    if f = i then mine p
    else if plane.any (fun q => q.1 == pinFrame f) then pinOf plane p
    else if h.whole || (decide (i < f) && s.pinFrameOwned f h.sectors) then {}
    else s.pin p
  (List.range 4).any (fun k =>
    let c := mine (4 * i + k)
    match c.axis with
    | none => false
    | some x => c.other || (List.range 1152).any (fun p => p != 4 * i + k && (other p).axis == some x))

/-- Part 1 of a bay sets no reserved encoding (R194): MODE 3, a control select of 3, CARRY without FRAC, DA_SEL, DB_SEL or OB_SEL 3. -/
def bayEncodingOk (data : List Byte) : Bool :=
  let ctl := fun (c : BitVec 6) => nbits c.toNat 5 4 != 3
  (List.range 16).all (fun m =>
    let c := decoded data {} (fun f => Config.cellCfg f m)
    c.mode != 3 && ctl c.ce && ctl c.clr && ctl c.pre) &&
  (List.range 16).all (fun l =>
    let c := decoded data {} (fun f => Config.slotCfg f l)
    (c.frac || !c.carry) && c.daSel != 3 && c.dbSel != 3 && c.obSel != 3) &&
  (List.range 4).all (fun q =>
    let c := decoded data {} (fun f => Config.quarterCfg f q)
    ctl c.ce && ctl c.sr)

/-- The driver selects that frame `i` of a sector holds name at most one tap each, and one that lies on the device (R198). -/
def selectsOk (i sec : Nat) (data : List Byte) : Bool :=
  (List.range 2048).all (fun seg =>
    !segmentExists sec seg || selectAddr sec seg != frameAddr 0 sec i ||
      selectOk (decoded data 0 (fun f => Config.selectOf f seg)) (tapsOf sec seg))

/-- The standards that frame `i` of class 3 names, or the voltages that it sets, suit each other (R509, R510). `plane`: the pin frames
seen before it. A whole image names its voltages after its pins; in any other the voltages in force apply. -/
def State.banksOk (s : State) (h : Header) (plane : List (Nat × List Byte)) (i : Nat) (data : List Byte) : Bool :=
  if i < 288 then
    lvdsPlaced i data && (h.whole || (s.bankVolt (i / 12)).all (fun v =>
      (List.range 4).all (fun k => pinFits [(pinFrame i, if data.all (fun b => b == 0) then [] else data)] v (4 * i + k))))
  else
    (List.range 24).all (fun b => (Config.bankOf (frameAddr 3 63 i) data b).all (fun v =>
      (List.range 48).all (fun k => pinFits plane v (48 * b + k))))

/-- The content check of a frame (R258). -/
def State.contentCheck (s : State) (h : Header) (plane : List (Nat × List Byte)) (a : Nat) (data : List Byte) : Nat :=
  let i := fIndex a
  match fClass a with
  | 0 =>
    if i < 1536 then (if i % 3 = 1 && !bayEncodingOk data then 20 else 0)
    else if selectsOk i (fSector a) data then 0 else 19
  | 2 => if i % 65536 = 0x80 ∧ rangesOk data = false then 20 else 0
  | 3 =>
    if i = 288 then (if (List.range 112).any (fun k => decoded data 0 (fun f => Config.ownerOf f k) == 15) then 20 else 0)
    else if decoded data false (Config.frameBad a) then 20
    else if s.banksOk h plane i data = false then 20
    else if i < 288 ∧ s.pinConflict h plane i data = true then 21 else 0
  | 4 => if carryFrameOk i data then 0 else 20
  | 5 => if frostFrameOk data then 0 else 20
  | _ => 0

/-- The checks of a plaintext frame after its CRC (R257): the status. `last`: the address of the frame before. -/
def State.frameCheck (s : State) (h : Header) (plane : List (Nat × List Byte)) (last : Option Nat) (f : List Byte) : Nat :=
  let a := beAt f 0 4
  let data := sliceB f 4 512
  if (crc32 (f.take 516)).toNat ≠ beAt f 516 4 then 16
  else if last.any (fun l => decide (a ≤ l)) then 17
  else if addrDefined a = false then 18
  else if s.allowed h a data = false then 6
  else s.contentCheck h plane a data

/-! ### Slots and the staged set (R242, R243, R259) -/

/-- STATE of slot `k`: 0 EMPTY, 1 WRITING, 2 VALID, 3 INVALID, 4 REJECTED. -/
def State.slotState (s : State) (k : Nat) : Nat := s.getF (Reg.CFG_SLOT_STAT k) 2 0

/-- The ACT_SRC and STG_SRC marks of the four slots, from the sources of the planes (R243). -/
def State.noteMarks (s : State) : State :=
  [0, 1, 2, 3].foldl (fun s k =>
    (s.setB (Reg.CFG_SLOT_STAT k) 3 (s.cfg.actFrom.any (fun p => p.2 == k + 1))).setB (Reg.CFG_SLOT_STAT k) 4
      (s.cfg.stgFrom.any (fun p => p.2 == k + 1))) s

/-- Slot `k` takes state `v`; EV161 where that is a change (R270). -/
def State.setSlotState (s : State) (k v : Nat) : State :=
  if s.slotState k = v then s else (s.setF (Reg.CFG_SLOT_STAT k) 2 0 v).raise 161 (2 ^ k)

/-- The slot that is ACT_SRC, STG_SRC. -/
def State.actSrc (s : State) (k : Nat) : Bool := s.getB (Reg.CFG_SLOT_STAT k) 3
def State.stgSrc (s : State) (k : Nat) : Bool := s.getB (Reg.CFG_SLOT_STAT k) 4

/-- The image in slot `k`. -/
def State.slotBytes (s : State) (k : Nat) : List Byte := tabGet (fun _ => []) s.cfg.slots k

/-- A Front is armed or switching (R263, R275): STATE of CFG_FRONT_STAT is not IDLE. -/
def State.frontBusy (s : State) : Bool := s.getF Reg.CFG_FRONT_STAT 2 0 != 0

/-! ### A staging's request (R256, R260–R263, R422) -/

/-- The destination that the device chooses (R262). -/
def State.chooseDest (s : State) : Option Nat :=
  let l := [2, 3].filter (fun k => !s.actSrc k)
  match l.find? (fun k => !s.stgSrc k) with
  | some k => some k
  | none => l.head?

/-- A stream takes a resource (R422): at once where no beat is in progress, else when it has completed. -/
def State.streamTake (s : State) (r : Nat) : State :=
  let a := s.arbiter r
  s.setArb r { a with stream := some a.busy.isNone }

/-- A stream gives its resources back. -/
def State.streamEnd (s : State) : State :=
  [1, 2].foldl (fun s r => s.setArb r { s.arbiter r with stream := none }) s

/-- A request refused (R256, 1 and 2): its status, and EV160. -/
def State.stgRefuse (s : State) (st : Nat) : State × Nat := ((s.setF Reg.CFG_STG_STAT 12 8 st).raise 160 32, st)

/-- A staging or store asked for: `dest` 0 chosen, 2 and 3 STAGE_A and STAGE_B, 4 BASE, 5 GOLDEN. It starts and takes its
resources, or is refused with a status (R256, R260–R263). -/
def State.stgRequest (s : State) (src : StgSrc) (dest : Nat) (g : Staging) : State × Nat :=
  if s.cfg.staging.isSome ∨ s.frontBusy = true then s.stgRefuse 13
  else
    let go := fun (d : Option Nat) =>
      let g := { g with src := src, dest := d, storeOnly := g.storeOnly || dest == 4 || dest == 5 }
      let s : State := { s.useCrypto with cfg := { s.cfg with staging := some g } }
      let s := (s.setB Reg.CFG_STG_STAT 3 true).setF Reg.CFG_STG_STAT 31 13 0
      let s := match src with
        | .key _ => (s.wake domKey 6).streamTake 1
        | _ => s
      (s.streamTake 2, 0)
    match src with
    | .slot k =>
      if k < 2 then s.stgRefuse 4
      else if s.slotState k ≠ 2 ∨ s.cfg.erasing.any (fun e => e.1 == k) = true then s.stgRefuse 14
      else go none
    | _ =>
      if dest = 4 ∨ dest = 5 then
        let k := dest - 4
        if s.inServiceMode = false ∨ s.actSrc k = true ∨ s.cfg.erasing.any (fun e => e.1 == k) = true then s.stgRefuse 14
        else go (some k)
      else if dest = 2 ∨ dest = 3 then
        if s.actSrc dest ∨ s.cfg.erasing.any (fun e => e.1 == dest) = true then s.stgRefuse 14 else go (some dest)
      else match s.chooseDest with
        | some k => if s.cfg.erasing.any (fun e => e.1 == k) then s.stgRefuse 14 else go (some k)
        | none => s.stgRefuse 15

end Sys2Proof.Machine
end

