-- ==== Sys2Proof/Machine/KeyFlash.lean ====
section
/-!
DEFINITION. Sys2Proof/Machine/KeyFlash.lean: the content of the recipe key (12_recipe_key.md): the flash, the directories
and the journal as they lie on it.
-/
namespace Sys2Proof

open Machine

/-! ### The flash -/

/-- Byte `a` of the key's flash; erased bytes read 0xFF. -/
def KeyChip.byte (k : KeyChip) (a : Nat) : Byte := tabGet (fun _ => 0xFF) k.flash a

/-- Bytes [a, a + n) of the key. -/
def KeyChip.read (k : KeyChip) (a n : Nat) : List Byte := (List.range n).map (fun i => k.byte (a + i))

/-- Big-endian number of `n` bytes at `a` (R8, R317). -/
def KeyChip.be (k : KeyChip) (a n : Nat) : Nat := beNat (k.read a n)

/-- A page program: bits go from 1 to 0 (R316). -/
def KeyChip.program (k : KeyChip) : Nat → List Byte → KeyChip
  | _, [] => k
  | a, b :: l => ({ k with flash := tabPut (fun _ => 0xFF) k.flash a (k.byte a &&& b) } : KeyChip).program (a + 1) l

/-- The sector erases that clear [a, a + n). -/
def KeyChip.erase (k : KeyChip) (a n : Nat) : KeyChip := { k with flash := tabClear k.flash a n }

/-! ### Directories (R317–R319) -/

/-- Addresses of the two directories. -/
def KeyChip.dirAt (k : KeyChip) (golden : Bool) : Nat := if golden then k.size - 65536 else 0

/-- Entry `i` of the directory at `d`, and its fields. -/
def entryAt (d i : Nat) : Nat := d + 64 + 256 * i
def KeyChip.entryValid (k : KeyChip) (e : Nat) : Bool := (k.be (e + 4) 2).testBit 0
def KeyChip.entrySigned (k : KeyChip) (e : Nat) : Bool := (k.be (e + 4) 2).testBit 1
def KeyChip.entryId (k : KeyChip) (e : Nat) : Nat := k.be e 4
def KeyChip.imageCount (k : KeyChip) (e : Nat) : Nat := min 16 (k.be (e + 6) 1)

/-- Address, length and station mask of IMAGE[i]. -/
def KeyChip.image (k : KeyChip) (e i : Nat) : Nat × Nat × Nat :=
  (k.be (e + 0x40 + 12 * i) 4, k.be (e + 0x44 + 12 * i) 4, k.be (e + 0x48 + 12 * i) 2)

/-- The images of an entry. -/
def KeyChip.images (k : KeyChip) (e : Nat) : List (Nat × Nat × Nat) := (List.range (k.imageCount e)).map (k.image e)

/-- The journal of an entry, and its other regions: address and length. -/
def KeyChip.journalRegion (k : KeyChip) (e : Nat) : List (Nat × Nat) :=
  if k.be (e + 0x30) 4 = 0 then [] else [(k.be (e + 0x30) 4, k.be (e + 0x34) 4)]
def KeyChip.regions (k : KeyChip) (e : Nat) : List (Nat × Nat) :=
  (k.images e).map (fun r => (r.1, r.2.1)) ++
    (if k.be (e + 0x28) 4 = 0 then [] else [(k.be (e + 0x28) 4, k.be (e + 0x2C) 4)])

/-- Two regions share a byte. -/
def overlap (a b : Nat × Nat) : Bool := decide (a.1 < b.1 + b.2 ∧ b.1 < a.1 + a.2)

/-- A journal is laid over by another region of the list. -/
def journalClash : List (Nat × Nat) → List (Nat × Nat) → Bool
  | [], _ => false
  | j :: l, others => (l ++ others).any (overlap j) || journalClash l others

/-- The VALID entries of the directory at `d`, by number. -/
def KeyChip.validEntries (k : KeyChip) (d : Nat) : List Nat :=
  (List.range (k.be (d + 6) 2)).filter (fun i => k.entryValid (entryAt d i))

/-- A directory is valid (R318). -/
def KeyChip.dirValid (k : KeyChip) (golden : Bool) : Bool :=
  let d := k.dirAt golden
  let n := k.be (d + 6) 2
  let len := k.be (d + 8) 4
  let body := (k.read d 0x3C) ++ [0, 0, 0, 0] ++ k.read (d + 0x40) (len - 64)
  decide (65536 ≤ k.size) && k.be d 4 == 0x415A4B44 && k.be (d + 4) 2 == 1 && decide (1 ≤ n) && decide (n ≤ 255) &&
    len == 64 + 256 * n && (crc32 body).toNat == k.be (d + 0x3C) 4 &&
    (let es := (k.validEntries d).map (entryAt d)
     let journals := es.flatMap k.journalRegion
     let others := es.flatMap k.regions
     decide (es.map k.entryId).Nodup &&
       (journals ++ others).all (fun r => decide (r.1 + r.2 ≤ k.size) && !overlap r (0, 65536) &&
         !overlap r (k.size - 65536, 65536)) &&
       !journalClash journals others)

/-- The VALID entry with a FORMAT_ID in the directory at `d`. -/
def KeyChip.findEntry (k : KeyChip) (d fmt : Nat) : Option Nat :=
  (k.validEntries d).find? (fun i => k.entryId (entryAt d i) == fmt)

end Sys2Proof

namespace Sys2Proof.Machine

/-- Record slots of a half. -/
def Journal.slots (j : Journal) : Nat := j.half / 272

/-- Key address of slot `i` of half `h`. -/
def Journal.at (j : Journal) (h i : Nat) : Nat := j.addr + j.half * h + 272 * i

/-- Bytes written to a table of bytes. -/
def prmPut (m : List (Nat × Byte)) : Nat → List Byte → List (Nat × Byte)
  | _, [] => m
  | a, b :: l => prmPut (tabPut (fun _ => 0) m a b) (a + 1) l

end Sys2Proof.Machine

namespace Sys2Proof

open Machine

/-! ### The journal (R325–R328) -/

/-- A journal slot that is valid (R328): SEQ, block and address. -/
def KeyChip.journalSlot (k : KeyChip) (bound : List Nat) (a : Nat) : Option (Nat × Nat × Nat) :=
  let seq := k.be a 4
  let off := k.be (a + 4) 4
  if k.be (a + 268) 4 = 0 ∧ (crc32 (k.read a 264)).toNat = k.be (a + 264) 4 ∧ 1 ≤ seq ∧ seq ≤ 0xFFFFFFFD ∧
      off % 256 = 0 ∧ bound.contains (off / 256) = true then
    some (seq, off / 256, a)
  else none

/-- A valid slot at its place in ascending SEQ. -/
def seqInsert : List (Nat × Nat × Nat) → Nat × Nat × Nat → List (Nat × Nat × Nat)
  | [], x => [x]
  | y :: l, x => if x.1 < y.1 then x :: y :: l else y :: seqInsert l x

/-- The valid slots of both halves, in ascending SEQ. -/
def KeyChip.journalValid (k : KeyChip) (bound : List Nat) (j : Journal) : List (Nat × Nat × Nat) :=
  ([0, 1].flatMap (fun h => (List.range j.slots).filterMap (fun i => k.journalSlot bound (j.at h i)))).foldl seqInsert []

/-- The slot after the last one of half `h` that is not fully erased (R328). -/
def KeyChip.nextSlot (k : KeyChip) (j : Journal) (h : Nat) : Nat :=
  (List.range j.slots).foldl (fun n i => if (k.read (j.at h i) 272).all (fun b => b == 0xFF) then n else i + 1) 0

/-- The replay (R328): PRM, and the journal with its current half, next slot and next SEQ. -/
def KeyChip.replay (k : KeyChip) (bound : List Nat) (j : Journal) (m : List (Nat × Byte)) : List (Nat × Byte) × Journal :=
  let v := k.journalValid bound j
  let m := v.foldl (fun m r => prmPut m (256 * r.2.1) (k.read (r.2.2 + 8) 256)) m
  let cur := match v.getLast? with
    | some r => (r.2.2 - j.addr) / j.half
    | none => 0
  let seq := match v.getLast? with
    | some r => r.1 + 1
    | none => 1
  (m, { j with cur := cur, slot := k.nextSlot j cur, seq := seq })

end Sys2Proof
end

