-- ==== Sys2Proof/Machine/KeyBase.lean ====
section
/-!
DEFINITION. Sys2Proof/Machine/KeyBase.lean: the recipe key below its rows (12_recipe_key.md): a selection and its end, the
parameter store and the write-back.
-/
namespace Sys2Proof.Machine

/-- Bytes [a, a + n) of the key in the port; a port without a key reads as nothing. -/
def State.keyRead (s : State) (a n : Nat) : List Byte :=
  match s.key.chip with
  | some k => k.read a n
  | none => []
/-! ### Key state -/

/-- STATE of the key (R331): 0 ABSENT, 1 DEBOUNCE, 2 DISCOVERY, 3 READY, 4 ERROR. -/
def State.keyState (s : State) : Nat := s.getF Reg.KEY_STAT 2 0

/-- A selection, a settings load or a write-back runs. -/
def State.keyBusy (s : State) : Bool := s.getB Reg.KEY_STAT 3

/-- The key answers: it is recognised, powered, discovered, and its domain is ON. -/
def State.keyLive (s : State) : Bool :=
  s.key.chip.isSome && s.getB Reg.KEY_STAT 4 && !s.key.discover && s.domOn domKey

/-- A staging reads the key (R263). -/
def State.keyStaging (s : State) : Bool :=
  match s.cfg.staging with
  | some g => (match g.src with
    | .key _ => true
    | _ => false)
  | none => false

/-! ### Selection (R320, R321) -/

/-- The selection ends: KEY_STAT.BUSY clears and its command is answered. -/
def State.selectDone (s : State) (st : Nat) (c : Option CmdRef) : State :=
  let s : State := { s with key := { s.key with sel := none } }
  let s := (s.setB Reg.KEY_STAT 3 false).setF Reg.KEY_FMT_STAT 31 24 st
  let s := if st = 0 then s else s.raise 195 16
  s.finishOpt c (csOf (if st = 0 then 0 else 6) st) (beBytes 1 st)

/-- Entry `i` of a directory staged (R320, 4 and 5): its image, or its broadcast. Answers NO_IMAGE, STAGE_FAILED, or 0
where the staging runs. -/
def State.stageEntry (s : State) (k : KeyChip) (x : KeySel) : State × Nat :=
  let e := entryAt (k.dirAt x.golden) x.entry
  let imgs := k.images e
  let mine := (List.range imgs.length).find? (fun i => (imgs.getD i (0, 0, 0)).2.2.testBit s.station)
  let pick : Option Nat := if x.bcast then (if imgs.isEmpty then none else some 0) else mine
  match pick with
  | none => (s, 4)
  | some i =>
    let im := imgs.getD i (0, 0, 0)
    let s := (s.setD Reg.CFG_STG_KEY (BitVec.ofNat 64 im.1)).setF Reg.KEY_FMT_STAT 23 16 x.entry
    let s := s.setF Reg.KEY_FMT_STAT 15 12 (if x.bcast then mine.getD 0 else i)
    let rest := if x.bcast then (imgs.drop 1).map (fun r => (r.1, r.2.1)) else []
    let r := s.stgRequest (.key im.1) 0
      { src := .key im.1, dest := none, forward := x.bcast, len := im.2.1, images := rest, select := true }
    if r.2 = 0 then ({ r.1 with key := { r.1.key with sel := some x } }, 0) else (r.1, 7)

/-- A selection (R320). `fmt`: the FORMAT_ID, or none for the first VALID entry (AUTO_STAGE). -/
def State.keySelect (s : State) (fmt : Option Nat) (c : Option CmdRef) : State :=
  let fail := fun (s : State) (st : Nat) =>
    ((s.setF Reg.KEY_FMT_STAT 31 24 st).raise 195 16).finishOpt c (csOf 6 st) (beBytes 1 st)
  match s.key.chip with
  | none => fail s 1
  | some k =>
    if s.keyState ≠ 3 then fail s 2
    else if s.keyBusy then fail s 6
    else
      let golden := s.getF Reg.KEY_STAT 9 8 == 2
      let d := k.dirAt golden
      match (match fmt with
             | some f => k.findEntry d f
             | none => (k.validEntries d).head?) with
      | none => fail s 3
      | some i =>
        let s := (s.setB Reg.KEY_STAT 3 true).setR Reg.KEY_FMT_STAT 0
        let r := s.stageEntry k { fmt := k.entryId (entryAt d i), golden := golden, entry := i,
                                  bcast := s.getB Reg.KEY_CTL 0, cmd := c }
        if r.2 = 0 then r.1 else r.1.selectDone r.2 c

/-- A status that R321 repeats from the golden directory. -/
def retryable (st : Nat) : Bool :=
  (decide (1 ≤ st) && decide (st ≤ 11)) || (decide (16 ≤ st) && decide (st ≤ 21)) || (decide (23 ≤ st) && decide (st ≤ 26))

/-- The staging of a selection has ended with status `st` (R320, R321, R324). -/
def State.selectionEnded (s : State) (st : Nat) : State :=
  match s.key.sel, s.key.chip with
  | some x, some k =>
    if st = 0 ∨ st = 12 then
      let s := if x.again then (s.setB Reg.KEY_FMT_STAT 0 true).raise 198 1 else s
      let waits := s.getB Reg.KEY_CTL 3 && st == 0
      let e := entryAt (k.dirAt x.golden) x.entry
      ({ s with key := { s.key with due := some (e, waits) } } : State).selectDone 0 x.cmd
    else if !x.golden && !x.again && s.key.goldOk && s.getB Reg.KEY_CTL 1 && retryable st then
      match k.findEntry (k.dirAt true) x.fmt with
      | some i =>
        let r := s.stageEntry k { x with golden := true, entry := i, again := true }
        if r.2 = 0 then r.1 else r.1.selectDone 7 x.cmd
      | none => s.selectDone 7 x.cmd
    else s.selectDone 7 x.cmd
  | some x, none => s.selectDone 7 x.cmd
  | none, _ => s

/-! ### The parameter store (R322–R325) -/

/-- Bytes [a, a + n) of PRM. -/
def State.prmRead (s : State) (a n : Nat) : List Byte := (List.range n).map (fun i => tabGet (fun _ => 0) s.key.prm (a + i))

/-- A block number joined to a rising list. -/
def addBlock : List Nat → Nat → List Nat
  | [], b => [b]
  | x :: l, b => if b < x then b :: x :: l else if b = x then x :: l else x :: addBlock l b

/-- The 256-byte blocks of [a, a + n). -/
def blocksOf (a n : Nat) : List Nat := (List.range ((a + n - 1) / 256 + 1 - a / 256)).map (fun i => a / 256 + i)

/-- A write to PRM by any writer: the bound blocks that it touches become dirty (R325). -/
def State.prmWrite (s : State) (a : Nat) (data : List Byte) : State :=
  if data.isEmpty then s
  else
    let hit := (blocksOf a data.length).filter (fun b => s.key.bound.contains b)
    { s with key := { s.key with prm := prmPut s.key.prm a data, dirty := hit.foldl addBlock s.key.dirty } }

/-- The walk over the settings records of [a, end) (R322, R323): the store, the blocks written, the counts of loaded and
skipped records, and whether a bad record ended it. -/
def walkRecords (k : KeyChip) (station stop : Nat) :
    Nat → Nat → List (Nat × Byte) → List Nat → Nat → Nat → List (Nat × Byte) × List Nat × Nat × Nat × Bool
  | 0, _, m, bl, n, sk => (m, bl, n, sk, false)
  | fuel + 1, a, m, bl, n, sk =>
    if stop ≤ a then (m, bl, n, sk, false)
    else if k.byte a = 0xFF then (m, bl, n, sk, false)
    else
      let off := k.be (a + 4) 4
      let len := k.be (a + 8) 2
      if k.byte a ≠ 1 ∨ stop < a + 16 ∨ off % 4 ≠ 0 ∨ len < 4 ∨ 4096 < len ∨ len % 4 ≠ 0 ∨ 0x400000 < off + len ∨ stop < a + 16 + len then
        (m, bl, n, sk, true)
      else
        let good := (crc32 (k.read a (12 + len))).toNat == k.be (a + 12 + len) 4
        if good && (k.be (a + 2) 2).testBit station then
          walkRecords k station stop fuel (a + 16 + len) (prmPut m off (k.read (a + 12) len))
            ((blocksOf off len).foldl addBlock bl) (n + 1) sk
        else walkRecords k station stop fuel (a + 16 + len) m bl n (sk + 1)

/-! ### The write-back (R325–R327) -/

/-- Bytes 0–267 of a journal record (R325). -/
def journalRecord (seq block : Nat) (data : List Byte) : List Byte :=
  let b := beBytes 4 seq ++ beBytes 4 (256 * block) ++ data
  b ++ beBytes 4 (crc32 b).toNat

/-- What a write-back has come to. -/
structure WbRun where
  chip  : KeyChip
  j     : Journal
  dirty : List Nat
  /-- Blocks written. -/
  n     : Nat := 0
  /-- Key operations left before one fails; none: none fails. -/
  left  : Option Nat
  failed : Bool := false
  /-- SEQ has run out (R327). -/
  spent  : Bool := false
deriving DecidableEq, Repr

/-- One key operation is taken: whether it fails. -/
def WbRun.op (w : WbRun) : WbRun :=
  match w.left with
  | some 0 => { w with failed := true }
  | some (n + 1) => { w with left := some n }
  | none => w

/-- Block `b` written to slot `i` of half `h` (R326). -/
def WbRun.record (prm : Nat → List Byte) (w : WbRun) (h i b : Nat) : WbRun :=
  if w.failed || w.spent then w
  else if 0xFFFFFFFD < w.j.seq then { w with spent := true }
  else
    let w' := w.op
    if w'.failed then { w' with dirty := addBlock w'.dirty b }
    else
      let a := w.j.at h i
      let chip := (w.chip.program a (journalRecord w.j.seq b (prm b))).program (a + 268) [0, 0, 0, 0]
      { w' with chip := chip, j := { w.j with seq := w.j.seq + 1 }, dirty := w.dirty.erase b, n := w.n + 1 }

/-- A half erased (R327). -/
def WbRun.eraseHalf (w : WbRun) (h : Nat) : WbRun :=
  if w.failed || w.spent then w
  else
    let w' := w.op
    if w'.failed then w' else { w' with chip := w'.chip.erase (w.j.at h 0) w.j.half }

/-- The journal compacted into the other half (R327). -/
def WbRun.compact (prm : Nat → List Byte) (bound : List Nat) (w : WbRun) : WbRun :=
  let h := 1 - w.j.cur
  let w := w.eraseHalf h
  let w := (List.range bound.length).foldl (fun w i => w.record prm h i (bound.getD i 0)) w
  let w := w.eraseHalf w.j.cur
  if w.failed || w.spent then w else { w with j := { w.j with cur := h, slot := bound.length } }

/-- The dirty blocks written in ascending order (R326). -/
def WbRun.blocks (prm : Nat → List Byte) (bound : List Nat) : List Nat → WbRun → WbRun
  | [], w => w
  | b :: l, w =>
    if w.failed || w.spent then w
    else if !w.dirty.contains b then WbRun.blocks prm bound l w
    else if w.j.slot < w.j.slots then
      let w' := w.record prm w.j.cur w.j.slot b
      WbRun.blocks prm bound l (if w'.failed || w'.spent then w' else { w' with j := { w'.j with slot := w.j.slot + 1 } })
    else WbRun.blocks prm bound l (w.compact prm bound)

/-- A write-back (R326, R327), with the number of key operations that succeed before one fails. Answers the number of
blocks written. -/
def State.writeBack (s : State) (fail : Option Nat) : State × Nat :=
  let s : State := { s with key := { s.key with wbAt := s.time } }
  match s.key.chip, s.key.journal with
  | some k, some j =>
    if s.getB Reg.KEY_STAT 12 then
      let w : WbRun := { chip := k, j := j, dirty := s.key.dirty, left := fail }
      let w := w.blocks (fun b => s.prmRead (256 * b) 256) s.key.bound s.key.dirty
      let s : State := { s with key := { s.key with chip := some w.chip, journal := some w.j, dirty := w.dirty } }
      let s := if w.n = 0 then s else s.setR Reg.KEY_JSEQ (BitVec.ofNat 32 (w.j.seq - 1))
      let s := if w.spent then s.setB Reg.KEY_STAT 12 false else s
      (s.raise 197 (if w.failed then 4 else 1), w.n)
    else (s, 0)
  | _, _ => (s, 0)

end Sys2Proof.Machine
end

