-- ==== Sys2Proof/Machine/Images.lean ====
section
/-!
DEFINITION. Sys2Proof/Machine/Images.lean: stagings and stores, from their request to their end, and the slots
(09_images_and_configuration_store.md).
-/
namespace Sys2Proof.Machine

/-- The header of the image under way. -/
def Staging.hdr (g : Staging) : Header := g.header

/-! ### Forwarding (R264, R375) -/

/-- The chunks of an image of `len` bytes at key address `a` from byte `off` as far as `upto`; the last chunk of the
image may be short. `final`: no further image follows. Answers the bytes forwarded. -/
def State.sendChunks (s : State) (a len upto : Nat) (final : Bool) : Nat → Nat → State × Nat
  | 0, off => (s, off)
  | fuel + 1, off =>
    let n := min 64 (len - off)
    if n = 0 ∨ upto < off + n then (s, off)
    else
      let b := s.keyRead (a + off) n
      let words := (List.range ((n + 7) / 8)).map (fun i => BitVec.ofNat 64 (beNat ((sliceB b (8 * i) 8 ++ List.replicate 7 0).take 8)))
      let spec := (if off = 0 then 1 else 0) + (if final && decide (off + n = len) then 2 else 0)
      let r := s.newMsg 7 0 spec words
      (r.1.flood none r.2).sendChunks a len upto final fuel (off + n)

/-- A whole image forwarded, from byte `off` on. -/
def State.sendImage (s : State) (a len off : Nat) (final : Bool) : State := (s.sendChunks a len len final (len / 64 + 1) off).1

/-- The images of a list forwarded, one after the other. -/
def State.sendImages (s : State) : List (Nat × Nat) → State
  | [] => s
  | x :: l => (s.sendImage x.1 x.2 0 l.isEmpty).sendImages l

/-- A forwarding staging has consumed the bytes up to `off`: whole chunks of them leave. -/
def State.forwardTo (s : State) (g : Staging) (off : Nat) : State :=
  match g.src, g.forward with
  | .key a, true =>
    let r := s.sendChunks a g.len off g.images.isEmpty (g.len / 64 + 1) g.fwd
    { r.1 with cfg := { r.1.cfg with staging := r.1.cfg.staging.map (fun g => { g with fwd := r.2 }) } }
  | _, _ => s

/-- A further image of the entry at the station that sends it (R264): one for this station is its second and is refused with BUSY, as
any receiver refuses it; another is marked SKIPPED. -/
def State.ownFurther (s : State) (x : Nat × Nat) : State :=
  if (Header.stations (s.keyRead x.1 4096)).testBit s.station then (s.stgRefuse 13).1 else s.raise 160 4

/-- The rest of the entry is read and forwarded, though this station's staging has ended (R264, R320). -/
def State.forwardRest (s : State) (g : Staging) : State :=
  match g.src, g.forward with
  | .key a, true => g.images.foldl State.ownFurther ((s.sendImage a g.len g.fwd g.images.isEmpty).sendImages g.images)
  | _, _ => s

/-! ### The end of a load (R259) -/

/-- The state of a slot and of the staged set after a status. -/
def slotAfter (st : Nat) : Nat := if st = 0 then 2 else if st = 22 ∨ st = 27 then 3 else 4
def setAfter (st : Nat) : Nat := if st = 0 then 2 else 3

/-- The cause bit of EV160 (R270). -/
def stagingBit (store : Bool) (st : Nat) : Nat :=
  if st = 13 then 5 else if store then (if st = 0 then 3 else 4) else if st = 0 then 0 else if st = 12 then 2 else 1

/-- The reply payload of the command that waits for a load: STG_FROM_SLOT its status, STG_END frames and address too. -/
def loadReply (op st n addr : Nat) : List Byte := if op = 2 then beBytes 1 st ++ beBytes 4 n ++ beBytes 4 addr else beBytes 1 st

/-- The staging or store ends with status `st` (R259, R263, R265). A load that has not reached WRITING leaves the slot
and the staged set as they were. -/
def State.endLoad (s : State) (st addr : Nat) : State :=
  match s.cfg.staging with
  | none => s
  | some g =>
    let started := !g.header.isEmpty
    let s := match g.dest, started with
      | some k, true =>
        ((s.setF (Reg.CFG_SLOT_STAT k) 31 27 st).setR (Reg.CFG_SLOT_ERR_ADDR k) (BitVec.ofNat 32 addr)).setSlotState k (slotAfter st)
      | _, _ => s
    let s := if started && !g.storeOnly then s.setF Reg.CFG_STG_STAT 2 0 (setAfter st) else s
    let s := ((s.setF Reg.CFG_STG_STAT 12 8 st).setB Reg.CFG_STG_STAT 3 false).setR Reg.CFG_STG_ERR_ADDR (BitVec.ofNat 32 addr)
    let s := (s.raise 160 (2 ^ stagingBit g.storeOnly st)).streamEnd
    let s := s.releaseHold holdStage (List.range 116)
    let s : State := { s with cfg := { s.cfg with
      staging := none,
      host := match g.src with
        | .host => s.cfg.host.map (fun h => { h with result := some (st, g.n, addr) })
        | _ => s.cfg.host } }
    let s := if st = 22 ∨ st = 27 then s else s.forwardRest g
    let s := match g.cmd with
      | some c => s.finish c (csOf (if st = 0 then 0 else 2) st) (loadReply ((s.command c).map (·.op) |>.getD 0) st g.n addr)
      | none => s
    if g.select then s.selectionEnded st else s

/-! ### Bytes of the source -/

/-- The next `n` bytes of the source: none while they have not arrived; fewer where the stream has ended before them. -/
def State.nextBytes (s : State) (g : Staging) (n : Nat) : Option (List Byte) :=
  match g.src with
  | .slot k => some (sliceB (s.slotBytes k) g.off n)
  | .key a => if s.keyLive then some (s.keyRead (a + g.off) n) else none
  | _ =>
    if n ≤ g.stream.length then some (g.stream.take n)
    else if g.ended then some [] else none

/-- `n` bytes of the source consumed. -/
def Staging.consume (g : Staging) (n : Nat) : Staging :=
  match g.src with
  | .host => { g with off := g.off + n, stream := g.stream.drop n }
  | .bcast _ _ => { g with off := g.off + n, stream := g.stream.drop n }
  | _ => { g with off := g.off + n }

/-- The source has more bytes than the image (R258): none while that is not known. -/
def Staging.more (g : Staging) : Option Bool :=
  match g.src with
  | .slot _ => some false
  | .key _ => some false
  | _ => if !g.stream.isEmpty then some true else if g.ended then some false else none

/-- Slot writes are not suspended by a supply warning (R263). -/
def State.warned (s : State) : Bool := s.getB Reg.ANA_IN_STAT 16

/-! ### The header (R256, R257) -/

/-- The kinds that suit the slot and the operation (R241, R256). -/
def Staging.kinds (g : Staging) : List Nat :=
  match g.dest with
  | some 0 => [1]
  | some 1 => [2]
  | _ => [3, 4]

/-- The slot that sources the staged planes. -/
def Staging.slot (g : Staging) : Nat :=
  match g.src, g.dest with
  | .slot k, _ => k
  | _, some k => k
  | _, none => 0

/-- The destination slot becomes WRITING with the image's header (R257). -/
def State.slotBegin (s : State) (k : Nat) (h : Header) : State :=
  let s : State := { s with cfg := { s.cfg with slots := tabInsert s.cfg.slots k h } }
  let s := ((s.setF (Reg.CFG_SLOT_STAT k) 31 10 0).setF (Reg.CFG_SLOT_STAT k) 7 5 h.kind).setR (Reg.CFG_SLOT_ERR_ADDR k) 0
  let s := (s.setD (Reg.CFG_SLOT_IMAGE_ID k) (BitVec.ofNat 64 h.imageId)).setR (Reg.CFG_SLOT_SVN k) (BitVec.ofNat 32 h.svn)
  let s := (s.setD (Reg.CFG_SLOT_SECT k) (BitVec.ofNat 64 h.sectors)).setR (Reg.CFG_SLOT_STN k) (BitVec.ofNat 32 (h.owner <<< 16 + h.stations))
  s.setSlotState k 1

/-- The units of configuration of an image's masks. -/
def Header.units (h : Header) : List Nat := bitsSet 48 h.sectors ++ (bitsSet 64 h.engines).map (fun e => 48 + e)

/-- The staged set becomes LOADING (R257, R262, R265): its sectors and engines are woken and held ON. -/
def State.setBegin (s : State) (g : Staging) (h : Header) : State :=
  let s := s.dropDue
  let s : State := { s with cfg := { s.cfg with
    stgPins := [], stgFrom := [] } }
  let s := (s.setD Reg.CFG_STG_SECT (BitVec.ofNat 64 h.sectors)).setD Reg.CFG_STG_ENG (BitVec.ofNat 64 h.engines)
  let s := ((s.setF Reg.CFG_STG_STAT 5 4 g.slot).setF Reg.CFG_STG_STAT 2 0 1).noteMarks
  s.stgDomains.foldl (fun s d => s.holdAndWake d holdStage 6) s

/-- The checks of R257 that come after the last frame, and the end of the load; nothing while the source may go on. -/
def State.loadTail (s : State) (g : Staging) : State :=
  if g.n < g.hdr.frames then s
  else match g.more with
    | none => s
    | some true => s.endLoad 23 0
    | some false =>
      if sha256 g.plain ≠ g.hdr.digest then s.endLoad 24 0
      else if g.hdr.enc && (s.tst.zeroised || !gcmTagOk (vaultKey s.cfg.aes g.hdr.keyId) g.hdr.iv (g.header.take 0x40) g.cipher g.hdr.tag) then
        s.endLoad 25 0
      else
        let s := if g.storeOnly then s
          else { s with cfg := { s.cfg with
            staged := planeClear s.cfg.staged (fun a => s.fills g.header a && !g.last.any (fun l => decide (a ≤ l))) } }
        s.endLoad 0 0

/-- A broadcast image that names this station, whatever becomes of it, has given the station its image of the entry (R264); after the
entry's last image nothing more is to come. -/
def State.noteTaken (s : State) (g : Staging) (h : Header) : State :=
  match g.src with
  | .bcast st _ =>
    if (Header.stations h).testBit s.station && !g.final && !s.cfg.taken.contains st then
      { s with cfg := { s.cfg with taken := st :: s.cfg.taken } }
    else s
  | _ => s

/-- The header of the image under way, once its 4,096 bytes are there (R256): it is refused, passed over (a forwarded
entry's image for other stations), or accepted. -/
def State.headerStep (s : State) (g : Staging) : State :=
  match s.nextBytes g 4096 with
  | none => s
  | some h =>
    if h.length < 4096 then s.endLoad 22 0
    else
      let c := s.headerCheck h g.kinds false
      let s := s.noteTaken g h
      if g.second && (Header.stations h).testBit s.station then s.endLoad 13 0
      else if c.1 = 12 then
        match g.images, g.src with
        | x :: l, .key a =>
          let s := (s.sendImage a g.len 0 false).raise 160 4
          { s with cfg := { s.cfg with staging := some { g with src := .key x.1, len := x.2, images := l, fwd := 0 } } }
        | _, _ => s.endLoad 12 0
      else if c.1 ≠ 0 then s.endLoad c.1 c.2
      else
        let g' := { g with header := h }.consume 4096
        let s := match g.dest with
          | some k => s.slotBegin k h
          | none => s
        let s := if g.storeOnly then s else s.setBegin g h
        let s : State := { s with cfg := { s.cfg with staging := some g' } }
        let s := s.forwardTo g' g'.off
        match s.cfg.staging with
        | some g' => s.loadTail g'
        | none => s

/-! ### A frame (R257, R258) -/

/-- The plaintext of a frame of the stream at frame number `n`. -/
def State.plainFrame (s : State) (h : Header) (n : Nat) (f : List Byte) : List Byte :=
  if h.enc then gcmPlain (vaultKey s.cfg.aes h.keyId) h.iv (520 * n) f else f

/-- The staged planes with zeros in the addresses that the image skips before address `a` (R248). -/
def State.zeroFill (s : State) (g : Staging) (a : Nat) : List (Nat × List Byte) :=
  planeClear s.cfg.staged (fun x => s.fills g.header x && decide (x < a) && !g.last.any (fun l => decide (x ≤ l)))

/-- A frame that has passed its checks: zero fill up to it, the slot, the plane (R248, R257). With the first one its slot is a source of
the staged planes (R243). -/
def State.putFrame (s : State) (g : Staging) (raw plain : List Byte) : State :=
  let a := beAt plain 0 4
  let from_ := if g.storeOnly || g.n != 0 then s.cfg.stgFrom else (Header.units g.header).map (fun u => (u, g.slot + 1))
  let data := sliceB plain 4 512
  let pin := fClass a == 3 && decide (fIndex a < 288)
  let slots := match g.dest with
    | some k => tabInsert s.cfg.slots k (s.slotBytes k ++ raw)
    | none => s.cfg.slots
  let staged := if g.storeOnly then s.cfg.staged else planePut (s.zeroFill g a) a data
  let own := !g.storeOnly && pin
  let g' := { g with n := g.n + 1, last := some a, plain := g.plain ++ plain,
                     cipher := if g.hdr.enc then g.cipher ++ raw else [],
                     pins := if pin then tabInsert g.pins a (if data.all (fun b => b == 0) then [] else data) else g.pins }.consume 520
  let s : State := { s with cfg := { s.cfg with
    slots := slots, staged := staged, staging := some g',
    stgPins := if own then s.cfg.stgPins ++ [fIndex a] else s.cfg.stgPins,
    stgFrom := if own then tabInsert from_ (unitOf a) (g.slot + 1) else from_ } }
  let s := if g.n = 0 then s.noteMarks else s
  let s := match g.dest with
    | some k => s.setF (Reg.CFG_SLOT_STAT k) 26 10 (g.n + 1)
    | none => s
  (s.setF Reg.CFG_STG_STAT 31 13 (g.n + 1)).forwardTo g' g'.off

/-- One frame of the image under way (R257). `wr`: its write to the slot verifies (R259). -/
def State.frameStep (s : State) (g : Staging) (wr : Bool) : State :=
  if g.hdr.frames ≤ g.n then s.loadTail g
  else match s.nextBytes g 520 with
    | none => s
    | some f =>
      if f.length < 520 then s.endLoad 22 0
      else
        let p := s.plainFrame g.header g.n f
        let st := s.frameCheck g.header g.pins g.last p
        if st ≠ 0 then s.endLoad st (beAt p 0 4)
        else if g.dest.isSome && !wr then
          let s : State := if g.storeOnly then s else { s with cfg := { s.cfg with staged := s.zeroFill g (beAt p 0 4) } }
          s.endLoad 26 (beAt p 0 4)
        else
          let s := s.putFrame g f p
          match s.cfg.staging with
          | some g' => s.loadTail g'
          | none => s

/-- The loader runs on with what has arrived, at most `n` steps. -/
def State.drain : Nat → State → State
  | 0, s => s
  | n + 1, s =>
    match s.cfg.staging with
    | some g => (if g.header.isEmpty then s.headerStep g else s.frameStep g true).drain n
    | none => s

/-- IMAGE_HEADER (R256). -/
def execImageHeader (s : State) : Out :=
  match s.cfg.staging with
  | some g => if g.header.isEmpty && !s.warned then .next (s.headerStep g) else .next s
  | none => .next s

/-- FRAME (R257), once the domains of the staged set are ON (R265) and slot writes are not suspended (R263). -/
def execFrame (wr : Bool) (s : State) : Out :=
  match s.cfg.staging with
  | some g =>
    if !g.header.isEmpty && !s.warned && (g.storeOnly || s.stgDomains.all (fun d => s.domOn d)) then .next (s.frameStep g wr)
    else .next s
  | none => .next s

/-! ### Requests (R260–R263) -/

/-- Bytes of the image at key address `a`, from its header. -/
def State.keyImageLen (s : State) (a : Nat) : Nat := 4096 + 520 * beNat (s.keyRead (a + 0x20) 4)

/-- GO of CFG_STG_CTL (R260, R271). -/
def State.stagingGo (s : State) : State :=
  let w := s.getR Reg.CFG_STG_CTL
  let src := fld w 31 30
  if s.cfg.staging.isSome ∨ s.frontBusy = true then (s.stgRefuse 13).1
  else if 2 ≤ src ∨ fld w 29 28 = 1 then (s.stgRefuse 4).1
  else if src = 0 then (s.stgRequest (.slot (fld w 27 26)) 0 { src := .slot 0, dest := none }).1
  else
    let a := (s.getD Reg.CFG_STG_KEY).toNat
    (s.stgRequest (.key a) (fld w 29 28)
      { src := .key a, dest := none, storeOnly := bitOf w 5, forward := bitOf w 4, len := s.keyImageLen a }).1

/-- A write of CFG_STG_CTL: ABORT acts before GO (R263). -/
def State.writeStgCtl (s : State) (w : Word) : State :=
  let s := s.store Reg.CFG_STG_CTL w
  let s := if bitOf w 1 then s.endLoad 27 0 else s
  if bitOf w 0 then s.stagingGo else s

/-- STAGING_GO (R260): CFG_STG_CTL.GO, or STG_FROM_SLOT. -/
def execStagingGo (v : Via) (s : State) : Out :=
  match v with
  | .reg w => if bitOf w 0 then .next (s.writeStgCtl w) else .next s
  | .cmd c =>
    match s.turn c 3 4 with
    | none => .next s
    | some x =>
      if beAt x.payload 1 1 ≠ 0 ∨ 3 < beAt x.payload 0 1 then .next (s.replyTo x csBADPARAM true [])
      else
        let r := s.stgRequest (.slot (beAt x.payload 0 1)) 0 { src := .slot 0, dest := none, cmd := some c }
        if r.2 = 0 then .next (r.1.pendingReply x) else .next (r.1.replyTo x (csOf 2 r.2) true (beBytes 1 r.2))

/-- STG_BEGIN (R404). -/
def execStgBegin (c : CmdRef) (s : State) : Out :=
  match s.turn c 3 0 with
  | none => .next s
  | some x =>
    let dest := beAt x.payload 0 1
    let store := beAt x.payload 1 1
    if dest = 1 ∨ 5 < dest ∨ 1 < store then .next (s.replyTo x csBADPARAM true [])
    else
      let r := s.stgRequest .host dest { src := .host, dest := none, storeOnly := store == 1 }
      if r.2 ≠ 0 then .next (r.1.replyTo x (csOf 2 r.2) true [])
      else .next (({ r.1 with cfg := { r.1.cfg with
          host := some { total := beAt x.payload 2 4, last := r.1.time } } } : State).replyTo x csOK true [])

/-- STG_DATA (R404): the next bytes of the host stream. While slot writes are suspended its reply is withheld (R389). -/
def execStgData (c : CmdRef) (s : State) : Out :=
  match s.turn c 3 1 with
  | none => .next s
  | some x =>
    let data := x.payload.drop 4
    match s.cfg.staging, s.cfg.host with
    | some g, some h =>
      if g.src ≠ .host ∨ h.closed = true ∨ h.result.isSome ∨ beAt x.payload 0 4 ≠ h.next then .next (s.replyTo x csBADPARAM true [])
      else
        let next := h.next + data.length
        let s : State := { s with cfg := { s.cfg with
          staging := some { g with stream := g.stream ++ data, ended := decide (h.total ≤ next) },
          host := some { h with next := next, last := s.time } } }
        .next (if s.warned then s.awaitReply x else s.replyTo x csOK true [])
    | _, _ => .next (s.replyTo x csBADPARAM true [])

/-- STG_END (R404): waits for the load to end and returns its status. -/
def execStgEnd (c : CmdRef) (s : State) : Out :=
  match s.turn c 3 2 with
  | none => .next s
  | some x =>
    match s.cfg.host with
    | some h =>
      match h.result with
      | some (st, n, a) => .next (s.replyTo x (csOf (if st = 0 then 0 else 2) st) true (loadReply 2 st n a))
      | none =>
        let s : State := { s with cfg := { s.cfg with
          host := some { h with closed := true },
          staging := s.cfg.staging.map (fun g => { g with cmd := some c }) } }
        .next (s.pendingReply x)
    | none =>
      let st := s.getF Reg.CFG_STG_STAT 12 8
      .next (s.replyTo x (csOf (if st = 0 then 0 else 2) st) true
        (loadReply 2 st (s.getF Reg.CFG_STG_STAT 31 13) (s.getR Reg.CFG_STG_ERR_ADDR).toNat))

/-- STG_ABORT (R263): CFG_STG_CTL.ABORT, or the command. -/
def execStgAbort (v : Via) (s : State) : Out :=
  match v with
  | .reg w => if bitOf w 1 then .next (s.writeStgCtl w) else .next s
  | .cmd c =>
    match s.turn c 3 3 with
    | none => .next s
    | some x => .next ((s.endLoad 27 0).replyTo x csOK true [])

/-- HOST_STREAM_GAP (R404): 100 ms without the expected data, before every byte of the image has arrived. -/
def execHostStreamGap (s : State) : Out :=
  match s.cfg.staging, s.cfg.host with
  | some g, some h =>
    if g.src = .host ∧ h.next < h.total ∧ (100 * unitsPerMs : Nat) ≤ tdiff s.time h.last then .next (s.endLoad 22 0) else .next s
  | _, _ => .next s

/-! ### Slots (R244, R245) -/

/-- An erase of slot `k` is refused (R244, R245). -/
def State.eraseRefused (s : State) (k : Nat) : Bool :=
  s.actSrc k || s.stgSrc k || s.slotState k == 1 || (decide (k < 2) && !s.inServiceMode) ||
    s.cfg.erasing.any (fun e => e.1 == k) || s.cfg.staging.any (fun g => g.dest == some k || g.src == .slot k)

/-- SLOT_ERASE (R245). -/
def execSlotErase (c : CmdRef) (s : State) : Out :=
  match s.turn c 3 5 with
  | none => .next s
  | some x =>
    let k := beAt x.payload 0 1
    if 3 < k then .next (s.replyTo x csBADPARAM true [])
    else if s.eraseRefused k then .next (s.replyTo x (csOf 2 14) true [])
    else .next (({ s with cfg := { s.cfg with erasing := s.cfg.erasing ++ [(k, some c)] } } : State).pendingReply x)

/-- A slot with no image. -/
def State.clearSlot (s : State) (k : Nat) : State :=
  let s : State := { s with cfg := { s.cfg with slots := tabErase s.cfg.slots k } }
  (s.setSlotState k 0).resetRegs (Reg.CFG_SLOT_STAT k) 0x20

/-- SLOT_ERASE_DONE (R245): the slot becomes EMPTY. -/
def execSlotEraseDone (k : Fin 4) (s : State) : Out :=
  match s.cfg.erasing.find? (fun e => e.1 == k.val) with
  | none => .next s
  | some e => .next ((({ s with cfg := { s.cfg with erasing := s.cfg.erasing.erase e } } : State).clearSlot k).finishOpt e.2 csOK [])

/-- SLOT_STAT (R399): the registers of a slot. -/
def execSlotStat (c : CmdRef) (s : State) : Out :=
  match s.turn c 3 6 with
  | none => .next s
  | some x =>
    let k := beAt x.payload 0 1
    if 3 < k then .next (s.replyTo x csBADPARAM true [])
    else .next (s.replyTo x csOK true
      ((List.range 8).flatMap (fun i => beBytes 4 (s.getR (Reg.CFG_SLOT_STAT k + 4 * i)).toNat)))

/-! ### Broadcast (R264, R375) -/

/-- A message with a bad CRC is discarded and counted (R370). -/
def State.badCrc (s : State) (l : Nat) : State := (s.incR (Reg.NET_SL_CRC_ERR l)).raise (150 + l) 4

/-- The broadcast of station `src` has a gap (R375). -/
def State.bcastGap (s : State) (src : Nat) : State :=
  let s := s.raise 158 16
  match s.cfg.staging with
  | some g => (match g.src with
    | .bcast a _ => if a = src then s.endLoad 22 0 else s
    | _ => s)
  | none => s

/-- The first chunk of an image of station `src` arrives on lane `l` (R264): the image before it is complete, and this one is a
staging of its own. -/
def State.bcastFirst (s : State) (src l : Nat) : State :=
  let s := match s.cfg.staging with
    | some g => (match g.src with
      | .bcast a _ =>
        if a = src then
          let t := ({ s with cfg := { s.cfg with staging := some { g with ended := true } } } : State).drain (maxFrames + 2)
          if t.cfg.staging.isSome then t.endLoad 22 0 else t
        else s
      | _ => s)
    | none => s
  (s.stgRequest (.bcast src l) 0 { src := .bcast src l, dest := none, second := s.cfg.taken.contains src }).1

/-- Bytes of the broadcast of station `src` reach the staging that takes it (R263: none may wait). -/
def State.bcastFeed (s : State) (src : Nat) (b : List Byte) (last : Bool) : State :=
  match s.cfg.staging with
  | some g => (match g.src with
    | .bcast a _ =>
      if a ≠ src then s
      else if s.warned && decide (4096 < g.off + g.stream.length + b.length) then s.endLoad 22 0
      else { s with cfg := { s.cfg with staging := some { g with stream := g.stream ++ b, ended := last, final := last } } }
    | _ => s)
  | none => s

/-- BCAST (R375): a chunk is forwarded on the other tree lanes and fed to this station's staging. -/
def execBcast (m : LaneMsg) (first last : Bool) (words : List DWord) (s : State) : Out :=
  let l := m.lane.val
  let src := m.src.val
  if !m.ok then .next (s.badCrc l)
  else if !s.treeLane l || src == s.station then .next s
  else
    let msg : LinkMsg := { typ := 7, src := src, seq := m.seq.toNat, spec := first.toNat + 2 * last.toNat, payload := words }
    let s := s.flood (some l) msg
    let want := tabGet (fun _ => 0) s.net.bcastSeq src
    let s := if want ≠ 0 && want - 1 != m.seq.toNat then s.bcastGap src else s
    let s : State := { s with net := { s.net with bcastSeq := tabInsert s.net.bcastSeq src ((m.seq.toNat + 1) % 65536 + 1) } }
    let s := if first then s.bcastFirst src l else s
    let s := s.bcastFeed src (words.flatMap (fun w => beBytes 8 w.toNat)) last
    if last then .next { s with cfg := { s.cfg with taken := s.cfg.taken.filter (fun t => t != src) } } else .next s

end Sys2Proof.Machine
end

