-- ==== Sys2Proof/Machine/Key.lean ====
section
/-!
DEFINITION. Sys2Proof/Machine/Key.lean: the rows of the recipe key (12_recipe_key.md).
-/
namespace Sys2Proof.Machine

/-- Statuses of domain 0x06 (R320). -/
def ksNOKEY : Nat := 1
def ksNOTREADY : Nat := 2
def ksBUSY : Nat := 6

/-! ### Insertion, removal, discovery (R313–R319) -/

/-- KEY_VCC on at the voltage of VSEL; AUTO begins at 1.8 V (R314). -/
def State.keyPower (s : State) : State :=
  (s.setB Reg.KEY_STAT 5 (s.getF Reg.KEY_CTL 5 4 == 1)).setB Reg.KEY_STAT 4 true

/-- Discovery is due (R313, R319). -/
def State.keyDiscover (s : State) (auto : Bool) : State :=
  let s := (s.setF Reg.KEY_STAT 2 0 2).keyPower
  ({ s with key := { s.key with discover := true, retry := false, auto := auto } } : State).wake domKey 11

/-- KEY_INSERTION (R313, R314, R320). -/
def execKeyInsertion (k : KeyChip) (s : State) : Out :=
  if s.key.chip.isSome then .next s
  else
    let s : State := { s with key := { s.key with chip := some k } }
    .next ((s.raise 192 1).keyDiscover (s.thawed && s.getB Reg.KEY_CTL 6))

/-- What the port shows with no key. -/
def State.keyGone (s : State) : State :=
  let s := (s.setR Reg.KEY_STAT (s.getR Reg.KEY_STAT &&& 0x4000)).setR Reg.KEY_SIZE 0
  (s.setR Reg.KEY_DIR_SEQ 0).setD Reg.KEY_ID 0

/-- A staging from the key ends TRUNCATED (R263, R321). -/
def State.cutStaging (s : State) : State := if s.keyStaging then s.endLoad 22 0 else s

/-- KEY_REMOVAL (R313, R324, R329). -/
def execKeyRemoval (s : State) : Out :=
  if s.key.chip.isNone then .next s
  else
    let k := s.key
    let s := s.dropDue
    let s : State := { s with key := { s.key with chip := none, retry := false, discover := false, auto := false, goldOk := false,
                                                  due := none, bound := [], dirty := [], journal := none, wbDue := false,
                                                  wbCmd := none, rescan := none } }
    let s := ((s.addF Reg.KEY_WB_LOST 15 0 k.dirty.length).raise 193 1).raise 197 2
    let s := s.keyGone.cutStaging
    .next (((s.finishOpt k.wbCmd (csOf 6 ksNOKEY) (beBytes 2 0)).finishOpt k.rescan (csOf 6 ksNOKEY)
      (beBytes 4 (s.getR Reg.KEY_STAT).toNat)))

/-- Discovery ends in ERROR with a cause bit of EV195. -/
def State.keyError (s : State) (bit : Nat) : State :=
  let c := s.key.rescan
  let s : State := { s with key := { s.key with discover := false, retry := false, auto := false, rescan := none } }
  let s := ((s.setF Reg.KEY_STAT 2 0 4).setF Reg.KEY_STAT 9 8 0).raise 195 bit
  s.finishOpt c csOK (beBytes 4 (s.getR Reg.KEY_STAT).toNat)

/-- The directories are read (R319). -/
def State.keyDirectory (s : State) (k : KeyChip) : State :=
  let gold := k.dirValid true
  let s : State := { s with key := { s.key with goldOk := gold } }
  if !k.dirValid false && !gold then s.keyError 4
  else
    let dir := if k.dirValid false then 1 else 2
    let d := k.dirAt (dir == 2)
    let c := s.key.rescan
    let auto := s.key.auto
    let s : State := { s with key := { s.key with discover := false, auto := false, rescan := none } }
    let s := ((s.setF Reg.KEY_STAT 2 0 3).setF Reg.KEY_STAT 9 8 dir).setR Reg.KEY_DIR_SEQ (BitVec.ofNat 32 (k.be (d + 0xC) 4))
    let s := (s.setD Reg.KEY_ID (BitVec.ofNat 64 (k.be (d + 0x10) 8))).raise 194 (dir + (if k.octal then 0 else 4))
    let s := s.finishOpt c csOK (beBytes 4 (s.getR Reg.KEY_STAT).toNat)
    if auto then s.keySelect none none else s

/-- KEY_DISCOVERY (R314, R315, R317, R319): SFDP at the supply's voltage, then the directories. -/
def execKeyDiscovery (s : State) : Out :=
  match s.key.chip with
  | none => .next s
  | some k =>
    if !s.key.discover || s.key.retry || s.getB Reg.KEY_STAT 10 || !s.domOn domKey then .next s
    else
      let s := if s.getB Reg.KEY_STAT 4 then s else s.keyPower
      let high := s.getB Reg.KEY_STAT 5
      if !(if high then k.sfdp33 else k.sfdp18) then
        if s.getF Reg.KEY_CTL 5 4 == 2 && !high then
          .next { s.setB Reg.KEY_STAT 4 false with key := { s.key with retry := true } }
        else .next (s.keyError 1)
      else if 2 ^ 29 < k.size then .next (s.keyError 2)
      else
        let s := (s.setR Reg.KEY_SIZE (BitVec.ofNat 32 k.size)).setF Reg.KEY_STAT 7 6 (if k.octal then 2 else 1)
        .next (s.keyDirectory k)

/-- KEY_VOLTAGE_RETRY (R314): KEY_VCC, off for 10 ms, returns at 3.3 V. -/
def execKeyVoltageRetry (s : State) : Out :=
  if s.key.retry then
    .next { (s.setB Reg.KEY_STAT 5 true).setB Reg.KEY_STAT 4 true with key := { s.key with retry := false } }
  else .next s

/-- KEY_OVERCURRENT (R314): KEY_VCC is off until the key is removed. -/
def execKeyOvercurrent (s : State) : Out :=
  if s.key.chip.isSome && s.getB Reg.KEY_STAT 4 then
    let c := s.key.rescan
    let s := (((s.setB Reg.KEY_STAT 4 false).setB Reg.KEY_STAT 10 true).setF Reg.KEY_STAT 7 6 0).setF Reg.KEY_STAT 2 0 4
    let s : State := { s with key := { s.key with discover := false, retry := false, auto := false, rescan := none } }
    let s := (s.raise 195 8).cutStaging
    .next (s.finishOpt c (csOf 6 ksNOTREADY) (beBytes 4 (s.getR Reg.KEY_STAT).toNat))
  else .next s

/-! ### KEY_CMD and the commands (R319, R320, R326, R331) -/

/-- A write-back is asked for (R326, R329): it waits for the end of a staging from the key or of a supply warning. -/
def State.askWriteBack (s : State) (c : Option CmdRef) (fail : Option Nat) : State :=
  if s.keyStaging || s.warned then { s with key := { s.key with wbDue := true, wbCmd := c.orElse (fun _ => s.key.wbCmd) } }
  else
    let r := s.writeBack fail
    ({ r.1 with key := { r.1.key with wbDue := false, wbCmd := none } } : State).finishOpt c csOK (beBytes 2 r.2)

/-- A write-back that waited runs once it may. -/
def State.waitingWriteBack (s : State) (fail : Option Nat) : State :=
  if s.key.wbDue && !s.keyStaging && !s.warned then s.askWriteBack s.key.wbCmd fail else s

/-- A write of KEY_CMD: SELECT, then WB, then RESCAN; a bit given while a key operation runs is ignored, with CMD_ERR. -/
def State.writeKeyCmd (s : State) (w : Word) (fail : Option Nat) : State :=
  let err := fun (s : State) => s.setB Reg.KEY_STAT 14 true
  let s := if bitOf w 0 then
      (if s.keyBusy then err s else s).keySelect (some (s.getR Reg.KEY_FMT_ID).toNat) none else s
  let s := if bitOf w 1 then (if s.keyBusy then err s else s.askWriteBack none fail) else s
  if bitOf w 2 then
    (if s.keyBusy || s.key.discover then err s
     else if s.key.chip.isSome && !s.getB Reg.KEY_STAT 10 then s.keyDiscover false else s)
  else s

/-- KEY_SELECT (R320): KEY_CMD.SELECT, or the command. -/
def execKeySelect (v : Via) (s : State) : Out :=
  match v with
  | .reg w => if bitOf w 0 then .next (s.writeKeyCmd w none) else .next s
  | .cmd c =>
    match s.turn c 6 1 with
    | none => .next s
    | some x => .next ((s.pendingReply x).keySelect (some (beAt x.payload 0 4)) (some c))

/-- KEY_RESCAN (R319): KEY_CMD.RESCAN, or the command. -/
def execKeyRescan (v : Via) (s : State) : Out :=
  match v with
  | .reg w => if bitOf w 2 then .next (s.writeKeyCmd w none) else .next s
  | .cmd c =>
    match s.turn c 6 4 with
    | none => .next s
    | some x =>
      let stat := beBytes 4 (s.getR Reg.KEY_STAT).toNat
      if s.key.chip.isNone then .next (s.replyTo x (csOf 6 ksNOKEY) true stat)
      else if s.getB Reg.KEY_STAT 10 then .next (s.replyTo x (csOf 6 ksNOTREADY) true stat)
      else if s.keyBusy || s.key.discover then .next (s.replyTo x (csOf 6 ksBUSY) true stat)
      else
        let s := (s.pendingReply x).keyDiscover false
        .next { s with key := { s.key with rescan := some c } }

/-- KEY_STAT (R399): KEY_STAT, KEY_FMT_STAT, KEY_ID. -/
def execKeyStat (c : CmdRef) (s : State) : Out :=
  match s.turn c 6 0 with
  | none => .next s
  | some x => .next (s.replyTo x csOK true (beBytes 4 (s.getR Reg.KEY_STAT).toNat ++
      beBytes 4 (s.getR Reg.KEY_FMT_STAT).toNat ++ beBytes 8 (s.getD Reg.KEY_ID).toNat))

/-- A command that asks a shared resource: refused by its arbiter, or answered when its last beat completes. -/
def State.hostRequest (s : State) (x : Command) (op addr len : Nat) (data : List Byte) : State :=
  let r := s.submit op addr len data 0 (.host x.ref)
  if r.2 = 0 then r.1.awaitReply x
  else r.1.replyTo x (csOf (if r.2 < 0x40 then 5 else 4) r.2) true []

/-- KEY_READ (R316, R399): 1 to 1,024 bytes of the key. -/
def execKeyRead (c : CmdRef) (s : State) : Out :=
  match s.turn c 6 3 with
  | none => .next s
  | some x =>
    let a := beAt x.payload 0 4
    let n := beAt x.payload 4 2
    match s.key.chip with
    | none => .next (s.replyTo x (csOf 6 ksNOKEY) true [])
    | some k =>
      if n = 0 ∨ 1024 < n then .next (s.replyTo x csBADPARAM true [])
      else if s.keyState ≠ 3 then .next (s.replyTo x (csOf 6 ksNOTREADY) true [])
      else if k.size < a + n then .next (s.replyTo x csBADADDR true [])
      else .next (s.hostRequest x 6 a n [])

/-! ### Settings and write-back (R322–R328) -/

/-- The signature of a settings area passes (R322). -/
def State.settingsSigned (s : State) (k : KeyChip) (e : Nat) : Bool :=
  let a := k.be (e + 0x28) 4
  let n := k.be (e + 0x2C) 4
  let id := (k.byte (e + 7)).toNat
  !(k.entrySigned e) ||
    (decide (64 ≤ n) && vaultHas s.cfg.pub id &&
      !s.tst.zeroised && ecdsaOk (vaultKey s.cfg.pub id) (sha256 (k.read a (n - 64))) (k.read (a + n - 64) 64))

/-- The walk over the settings area of the entry at key address `e` (R322, R323). -/
def State.settingsWalk (s : State) (k : KeyChip) (e : Nat) : List (Nat × Byte) × List Nat × Nat × Nat × Bool :=
  let a := k.be (e + 0x28) 4
  let n := k.be (e + 0x2C) 4
  if a = 0 then (s.key.prm, [], 0, 0, false)
  else walkRecords k s.station (a + n - (if k.entrySigned e then 64 else 0)) (n / 16 + 1) a s.key.prm [] 0 0

/-- The journal that the entry at key address `e` names, before its replay. -/
def entryJournal (k : KeyChip) (e : Nat) : Option Journal :=
  if k.be (e + 0x30) 4 = 0 then none
  else some { addr := k.be (e + 0x30) 4, half := k.be (e + 0x34) 4 / 2, cur := 0, slot := 0, seq := 1 }

/-- Write-back is enabled for a journal (R325). -/
def wbEnabled (k : KeyChip) (bound : List Nat) (j : Option Journal) : Bool :=
  match j with
  | some j => k.erase4k && decide (bound.length < j.slots)
  | none => false

/-- The new binding after the walk has written `m` and the blocks `bound`: the journal is replayed (R325, R328). -/
def State.bindSettings (s : State) (k : KeyChip) (e : Nat) (m : List (Nat × Byte)) (bound : List Nat) : State :=
  let p := match entryJournal k e with
    | some j => let q := k.replay bound j m; (q.1, some q.2)
    | none => (m, none)
  let en := wbEnabled k bound p.2
  let s : State := { s with key := { s.key with prm := p.1, bound := bound, dirty := [], journal := p.2, wbAt := s.time } }
  let s := (s.setB Reg.KEY_STAT 11 (!bound.isEmpty)).setB Reg.KEY_STAT 12 en
  let s := s.setR Reg.KEY_JSEQ (BitVec.ofNat 32 ((p.2.map (fun j => j.seq - 1)).getD 0))
  if en then s else s.raise 197 8

/-- The load of the settings of the entry at key address `e` (R323, R325, R328). -/
def State.loadSettings (s : State) (k : KeyChip) (e : Nat) : State :=
  if k.be (e + 0x28) 4 ≠ 0 ∧ s.settingsSigned k e = false then s.raise 196 8
  else
    let r := s.settingsWalk k e
    let s := s.bindSettings k e r.1 r.2.1
    let s := (s.setF Reg.KEY_SET_CNT 15 0 (min r.2.2.1 65535)).setF Reg.KEY_SET_CNT 31 16 (min r.2.2.2.1 65535)
    s.raise 196 (1 + (if r.2.2.2.1 = 0 then 0 else 2) + (if r.2.2.2.2 then 4 else 0))

/-- SETTINGS_LOAD (R323, R324): the load that is due, once the key port is free; the dirty blocks of the binding it
replaces are written back first. -/
def execSettingsLoad (fail : Option Nat) (s : State) : Out :=
  match s.key.due, s.key.chip with
  | some (e, false), some _ =>
    if s.key.sel.isSome || s.keyStaging || s.warned || !s.keyLive then .next s
    else
      let s := if s.key.dirty.isEmpty then s else (s.writeBack fail).1
      let s : State := { s with key := { s.key with due := none } }
      match s.key.chip with
      | some k => .next (s.loadSettings k e)
      | none => .next s
  | _, _ => .next s

/-- KEY_WB (R326): KEY_CMD.WB, or the command. -/
def execKeyWb (v : Via) (fail : Option Nat) (s : State) : Out :=
  match v with
  | .reg w => if bitOf w 1 then .next (s.writeKeyCmd w fail) else .next s
  | .cmd c =>
    match s.turn c 6 2 with
    | none => .next s
    | some x =>
      if s.key.chip.isNone then .next (s.replyTo x (csOf 6 ksNOKEY) true (beBytes 2 0))
      else if s.keyBusy ∨ s.key.wbCmd.isSome = true then .next (s.replyTo x (csOf 6 ksBUSY) true (beBytes 2 0))
      else .next ((s.pendingReply x).askWriteBack (some c) fail)

/-- WB_PERIOD_EXPIRY (R326, R329): a write-back that waits, or the one that the period asks for. -/
def execWbPeriodExpiry (fail : Option Nat) (s : State) : Out :=
  if s.key.wbDue then .next (s.waitingWriteBack fail)
  else
    let p := unitsPerMs * max 1 (s.getF Reg.KEY_WB_PERIOD 15 0)
    if s.getB Reg.KEY_CTL 2 && !s.key.dirty.isEmpty && !s.keyBusy && atOrAfter s.time (s.key.wbAt + units p) then
      .next (s.askWriteBack none fail)
    else .next s

/-! ### The parameter store (R325, R399) -/

/-- PRM_WINDOW_WRITE: word `k` of the window at 0x3000_0000. -/
def execPrmWindowWrite (k : Fin 1048576) (w : Word) (s : State) : Out := .next (s.prmWrite (4 * k.val) (leBytes 4 w.toNat))

/-- PRM_READ. -/
def execPrmRead (c : CmdRef) (s : State) : Out :=
  match s.turn c 6 5 with
  | none => .next s
  | some x =>
    let n := beAt x.payload 4 2
    if n < 4 ∨ 1024 < n then .next (s.replyTo x csBADPARAM true [])
    else .next (s.hostRequest x 3 (beAt x.payload 0 4) n [])

/-- PRM_WRITE. -/
def execPrmWrite (c : CmdRef) (s : State) : Out :=
  match s.turn c 6 6 with
  | none => .next s
  | some x =>
    let d := x.payload.drop 4
    .next (s.hostRequest x 4 (beAt x.payload 0 4) d.length d)

end Sys2Proof.Machine
end

