-- ==== Sys2Proof/Machine/ArbOps.lean ====
section
/-!
DEFINITION. Sys2Proof/Machine/ArbOps.lean: the end of a beat and of a request at an arbiter (16_shared_resource_arbiter.md), and the
delivery of a completion to whoever waits for it (R339, R153, R361, R413).
-/
namespace Sys2Proof.Machine

/-- Bytes for the data RAM of logical engine `e`: written between cycles, once its domain is ON (R89, R153). What lies
beyond the RAM is dropped. -/
def State.ramDeliver (s : State) (e a : Nat) (b : List Byte) : State :=
  let b := b.take (0x10000 - a)
  match s.physOf e with
  | none => s
  | some n =>
    let c := s.leng e
    if s.inCycle n || !s.domOn (domEngine n) then
      (s.setLeng e { c with hostW := c.hostW ++ [(a, b)] }).wake (domEngine n) 1
    else s.setLeng e (c.write a b)

/-- A request has ended with status `st`, completion word `word` and data: they reach its owner. -/
def State.complete (s : State) (q : ArbReq) (st word : Nat) (data : List Byte) : State :=
  match q.owner with
  | .engine e blk =>
    let s := if data.isEmpty then s else s.ramDeliver e (leNat q.data) data
    s.ramDeliver e (blk + 14) (leBytes 2 word)
  | .fabric i =>
    { s with fab := { s.fab with answers := s.fab.answers ++ [(i, word, data)] } }
  | .host c =>
    let dom := if st = 0 then csOK else csOf 4 st
    if q.op < 3 then s.finish c dom (beBytes 2 word ++ data) else s.finish c dom data
  | .register => (s.setR Reg.NVC_OP_RES (BitVec.ofNat 32 word)).setB Reg.NVC_STAT 3 false
  | _ => s

/-- The beat in progress at arbiter `r` is over (R419, R421, R422): the lock counts it, an overrun is noted, and a stream
that waits takes the resource. -/
def State.beatOver (s : State) (r : Nat) (q : ArbReq) (more : Bool) : State :=
  let a := s.arbiter r
  let mine := fun (l : ArbLock) => l.q == q.q && l.sector == q.sector && l.inForce
  let locks := a.locks.map (fun l => if mine l then { l with left := l.left - 1, last := s.arbNow r } else l)
  let ended := locks.any (fun l => mine l && l.left == 0)
  let s := s.setArb r { a with busy := none, locks := locks.filter (fun l => !(mine l && l.left == 0)),
                               stream := a.stream.map (fun _ => true) }
  if ended && more then s.raise 232 (2 ^ r) else s

/-- The beat of `q` ends and the request with it, with status `st`, word and data. -/
def State.endRequest (s : State) (r : Nat) (q : ArbReq) (st word : Nat) (data : List Byte) : State :=
  (s.beatOver r q false).complete q st word data

/-- The beat of `q` ends and its next beat is presented anew (R415). -/
def State.nextBeat (s : State) (r : Nat) (q : ArbReq) (got : List Byte) : State :=
  let s := s.beatOver r q true
  let a := s.arbiter r
  s.setArb r { a with reqs := { q with beats := q.beats - 1, got := got, first := s.arbNow r, warned := false } :: a.reqs }

end Sys2Proof.Machine
end

