-- ==== Sys2Proof/Machine/Links.lean ====
section
/-!
DEFINITION. Sys2Proof/Machine/Links.lean: the rows of the sync links (R368–R376) and holdover (R25).
-/
namespace Sys2Proof.Machine

/-- Lane `l` is up and not ISOLATED: messages arrive on it. -/
def State.carries (s : State) (l : Nat) : Bool := (s.lane l).up && s.laneState l != 6

/-- LANE_UP (R368): training and alignment are complete; HELLOs start. -/
def execLaneUp (l : Fin 8) (s : State) : Out :=
  if s.getB (Reg.NET_SL_CTL l) 0 && s.domOn (domLane l) && !(s.lane l).up && s.laneState l != 6 then
    let s := (s.setLane l { up := true }).raise (150 + l) 1
    .next ((s.setF (Reg.NET_SL_STAT l) 3 0 5).sendHello l)
  else .next s

/-- Lane `l` is no longer up (R369, R375): STATE takes `st`; a broadcast that came by it has a gap; in MODE SYNC the loss of the
upstream lane begins holdover (R25); the tree is formed again. -/
def State.loseLane (s : State) (l st : Nat) : State :=
  let x := s.lane l
  let up := s.laneState l == 3
  let s := s.setLane l { x with up := false, master := none, hops := 0, chosen := false, reqAt := none }
  let s := (s.setF (Reg.NET_SL_STAT l) 3 3 0).setF (Reg.NET_SL_STAT l) 2 0 st
  let s := match s.cfg.staging with
    | some g => (match g.src with
      | .bcast a k => if k = l then s.bcastGap a else s
      | _ => s)
    | none => s
  let s := if up && s.tbMode == 2 then s.enterHoldover else s
  s.updateTree false

/-- LANE_DOWN (R369): the lane fails. -/
def execLaneDown (l : Fin 8) (s : State) : Out :=
  if (s.lane l).up then .next ((s.raise (150 + l) 2).loseLane l 1) else .next s

/-- A write of NET.SL[l].CTL (R378): EN 0 takes the lane down and holds it OFF. -/
def State.writeSlCtl (s : State) (l : Nat) (w : Word) : State :=
  let s := s.store (Reg.NET_SL_CTL l) w
  if bitOf w 0 then (if s.laneState l = 0 && s.domOn (domLane l) then s.setF (Reg.NET_SL_STAT l) 2 0 1 else s)
  else if (s.lane l).up then (s.raise (150 + l) 2).loseLane l 0
  else s.setF (Reg.NET_SL_STAT l) 2 0 0

/-- HELLO (R368): the neighbour and the sync domain, or a lane that leads back to this station, which is ISOLATED. -/
def execHello (m : LaneMsg) (master : Option (Fin 16)) (hops : Fin 8) (stations : BitVec 16) (chosen : Bool) (s : State) : Out :=
  let l := m.lane.val
  if !s.carries l then .next s
  else if !m.ok then .next (s.badCrc l)
  else if m.src.val = s.station then
    .next ((s.raise (150 + l) 8).loseLane l 6)
  else
    let x : Lane := { s.lane l with master := master.map (·.val), hops := hops, reach := stations.toNat ||| 2 ^ m.src.val, chosen := chosen }
    let s := (s.setLane l x).setF (Reg.NET_SL_STAT l) 7 3 (m.src.val * 2 + 1)
    .next (s.updateTree true)

/-- Delay of lane `l` in device-time units, from picoseconds. -/
def State.laneDelay (s : State) (l : Nat) : Nat := (s.getR (Reg.NET_SL_DELAY l)).toNat * 64 / 1000

/-- The master that the TIME messages of lane `l` come from, where this station knows another, or is one itself (R372). -/
def State.otherMaster (s : State) (l : Nat) : Bool :=
  match (s.lane l).master with
  | some k => s.getB Reg.NET_SL_DOMAIN 19 && decide (s.getF Reg.NET_SL_DOMAIN 23 20 ≠ k)
  | none => false

/-- A step of the master, followed in the same tick (R28): a Front that is not yet committed is cancelled with cause TIME. -/
def State.followStep (s : State) (t : DWord) : State :=
  ((s.stepTo t).frontCancel 32).servo 0

/-- TIME (R28, R296, R372): on the upstream lane of a slave in MODE SYNC, the master's time starts device time, steps it, or
gives an offset. `step`: the message tells of a step of the master. -/
def execTime (m : LaneMsg) (t : DWord) (step : Bool) (s : State) : Out :=
  let l := m.lane.val
  if !s.carries l then .next s
  else if !m.ok then .next (s.badCrc l)
  else if !s.treeLane l then .next s
  else
    let s := if s.otherMaster l then s.raise 158 8 else s
    let now := t + units (s.laneDelay l)
    if s.tbMode ≠ 2 ∨ s.laneState l ≠ 3 then .next s
    else if !s.timeRuns then .next ((s.startTime now).servo 0)
    else if step then .next (s.followStep now)
    else .next (s.servo (tdiff now s.time))

/-- DELAY_REQ (R372): answered with its arrival and the answer's departure. -/
def execDelayReq (m : LaneMsg) (s : State) : Out :=
  let l := m.lane.val
  if !s.carries l then .next s
  else if !m.ok then .next (s.badCrc l)
  else
    let r := s.newMsg 3 0 0 [s.time, s.time]
    .next (r.1.sendMsg l r.2)

/-- DELAY_RESP (R372): half of the way there and back, in steps of 5 ps. -/
def execDelayResp (m : LaneMsg) (t2 t3 : DWord) (s : State) : Out :=
  let l := m.lane.val
  if !s.carries l then .next s
  else if !m.ok then .next (s.badCrc l)
  else
    match (s.lane l).reqAt with
    | none => .next s
    | some t1 =>
      let trip := tdiff s.time t1 - tdiff t3 t2
      let ps := trip.toNat * 1000 / 128 / 5 * 5
      .next ((s.setLane l { s.lane l with reqAt := none }).setR (Reg.NET_SL_DELAY l) (BitVec.ofNat 32 ps))

/-- DELAY_MEASURE_TIMER (R372): every 1 ms a DELAY exchange starts on a tree lane. -/
def execDelayMeasureTimer (l : Fin 8) (s : State) : Out :=
  if s.treeLane l && s.carries l then .next (s.askDelay l) else .next s

/-- TIME_SEND_TIMER (R372): the master, and a disciplined slave, send their time on every downstream lane. -/
def execTimeSendTimer (s : State) : Out :=
  if s.timeRuns && (s.isMaster || (s.tbMode == 2 && s.getB Reg.CLK_TB_STAT 2)) then .next (s.sendTime 0) else .next s

/-- ACTION (R79, R373): a remote action for this station is posted on port 82; one for another goes on along the tree. -/
def execAction (m : LaneMsg) (dst : Fin 16) (w : QWord) (s : State) : Out :=
  let l := m.lane.val
  if !s.carries l then .next s
  else if !m.ok then .next (s.badCrc l)
  else if !s.treeLane l then .next s
  else if dst.val = s.station then
    if s.fifoRoom 82 then .next (s.postInner (decodeRec w) m.src) else .next s
  else
    match s.routeLane dst with
    | some k =>
      if k ≠ l && s.treeLane k then
        .next (s.sendMsg k { typ := 5, src := m.src, dst := dst, seq := m.seq.toNat,
                             payload := [BitVec.ofNat 64 (w.toNat >>> 64), BitVec.ofNat 64 w.toNat] })
      else .next s
    | none => .next s

/-- LOSS_N, 1 to 15; 0 is taken as 1 (R25). -/
def State.lossN (s : State) : Nat := max 1 (s.getF Reg.CLK_TB_SERVO 3 0)

/-- The sync interval of the source in units (R25, R372): 8 us in MODE SYNC, in MODE GPTP that of the source's Sync messages. -/
def State.syncIval (s : State) : Nat := if s.tbMode = 1 then s.net.syncIval else 8 * unitsPerUs

/-- LOSS_N sync intervals have passed without a valid sync message (R25). -/
def State.syncLost (s : State) : Bool := decide (((s.lossN * s.syncIval : Nat) : Int) ≤ tdiff s.time s.net.lastSync)

/-- HOLDOVER (R25, R372, R377): LOSS_N sync intervals have passed without a valid sync message from the source. -/
def execHoldover (s : State) : Out :=
  if s.syncLost = false ∨ s.getB Reg.CLK_TB_STAT 3 = true then .next s
  else if s.tbMode = 2 ∧ s.isMaster = false then .next s.enterHoldover
  else if s.tbMode = 1 then .next (s.enterHoldover.raise 146 4)
  else .next s

end Sys2Proof.Machine
end

