-- ==== Sys2Proof/Machine/FabClock.lean ====
section
/-!
DEFINITION. Sys2Proof/Machine/FabClock.lean: a rising edge of a global clock tree: what it does to the flip-flops, the block RAM ports, the
multipliers and the interfaces that the tree clocks (R189, R192, R203, R205, R207, R208, R223–R226, R230, R231).
-/
namespace Sys2Proof.Machine

/-- An edge of global tree `t` clocks regional clock `j` of sector `i`. -/
def State.clocks (s : State) (t i j : Nat) : Bool := s.rclkRuns i j && s.getF (Reg.SEC_RCLK i j) 4 0 == t

/-- Flip-flop or macrocell register `f` of a sector (R213) after an edge of tree `t`; one that the edge does not clock takes its
asynchronous controls. -/
def State.registerNext (s : State) (t i f : Nat) : Bool :=
  let bay := f / 48
  let r := f % 48
  if r < 32 then s.ffNext s.level i bay (r / 2) (r % 2 == 1) (s.clocks t i (s.quarterOf i bay (r / 8)).clk.toNat)
  else s.cellNext s.level i bay (r - 32) (s.clocks t i (s.cellOf i bay (r - 32)).clk.toNat)

/-- The retiming stages of a sector after an edge of tree `t` (R205): an asserted tree sets both; an edge of the regional clock shifts a
deassertion in. -/
def State.syncNext (s : State) (t i : Nat) : List (Nat × Nat) :=
  (List.range 256).foldl (fun l k =>
    if decoded (s.interfaceFrames i) false (fun f => Config.retimes f (k / 16) (k % 16)) then
      let v := tabGet (fun _ => 0) l k
      tabPut (fun _ => 0) l k (if s.treeRoot s.level (k / 16) then 3 else if s.clocks t i (k % 16) then (2 * v) % 4 else v)
    else tabErase l k) (s.sector i).sync

/-! ### Block RAM ports (R223–R227) -/

/-- The configuration of block RAM role `k` of sector `i`. -/
def State.bramOf (s : State) (i k : Nat) : Config.BramCfg := decoded (s.interfaceFrames i) {} (fun f => Config.bramCfg f k)

/-- `n` inputs of port `p` of block RAM role `k` from number `m` on, lowest first, as a number. -/
def State.bramIn (s : State) (i k p m n : Nat) : Nat :=
  inputIndex ((List.range n).map (fun b =>
    s.tapLevel s.level i (decoded (s.interfaceFrames i) {} (fun f => Config.bramTap f k p (m + b)))))

/-- An edge at port `p` (0 A, 1 B) of block RAM role `k`: the output register takes the read data, and an enabled port makes its access
to the sector `x`. -/
def State.bramEdge (s : State) (i k p : Nat) (x : Sector) : Sector :=
  let c := s.bramOf i k
  let port := if p = 0 then c.a else c.b
  let key := 2 * k + p
  let was := tabGet (fun _ => 0) x.bramRd key
  let x := { x with bramOut := tabPut (fun _ => 0) x.bramOut key was }
  if s.bramIn i k p 0 1 = 0 then x
  else
    let a := s.bramIn i k p 2 12
    let d := bramData c.ecc
    let w := 512 * k + bramWord d (d / 2 ^ port.width.toNat) a % 512
    let r := bramAccess c.ecc port (s.bramIn i k p 1 1 == 1) a (s.bramIn i k p 14 72) (tabGet (fun _ => 0) x.bram w) was
    { x with bram := tabPut (fun _ => 0) x.bram w r.1, bramRd := tabPut (fun _ => 0) x.bramRd key r.2,
             bramErr := x.bramErr.filter (fun e => e != key) }

/-- Every block RAM port that tree `t` clocks, port B of a role before its port A (R226). -/
def State.bramsNext (s : State) (t i : Nat) (x : Sector) : Sector :=
  (List.range 32).foldl (fun x k =>
    let c := s.bramOf i k
    let x := if s.clocks t i c.b.clk.toNat then s.bramEdge i k 1 x else x
    if s.clocks t i c.a.clk.toNat then s.bramEdge i k 0 x else x) x

/-! ### Multipliers (R230, R231) -/

/-- `n` inputs of multiplier role `k` from number `m` on, as a number. -/
def State.mulInputs (s : State) (i k m n : Nat) : Nat :=
  inputIndex ((List.range n).map (fun b =>
    s.tapLevel s.level i (decoded (s.interfaceFrames i) {} (fun f => Config.mulTap f k (m + b)))))

/-- An edge of multiplier role `k` on the sector `x`: RST clears every register; CE lets the input registers and P load. CASC_IN is the P that
role k − 1 held before the edge. -/
def State.mulEdge (s : State) (i k : Nat) (x : Sector) : Sector :=
  let c : Config.MulCfg := decoded (s.interfaceFrames i) {} (fun f => Config.mulCfg f k)
  let old := s.sector i
  let reg := fun (j : Nat) => tabGet (fun _ => (0 : DWord)) old.mulIn (3 * k + j)
  let now := fun (j : Nat) => (BitVec.ofNat 64 (if j = 0 then s.mulInputs i k 4 27 else if j = 1 then s.mulInputs i k 31 27
    else s.mulInputs i k 58 64) : DWord)
  let use_ := fun (j : Nat) => if (if j = 0 then c.areg else if j = 1 then c.breg else c.creg) then reg j else now j
  let load := s.mulInputs i k 2 1 == 1
  if s.mulInputs i k 1 1 = 1 then
    { x with mulP := tabPut (fun _ => 0) x.mulP k 0, mulOvf := x.mulOvf.filter (fun r => r != k),
             mulIn := x.mulIn.filter (fun r => r.1 / 3 != k) }
  else if s.mulInputs i k 0 1 = 0 then x
  else
    let p := fun (r : Nat) => tabGet (fun _ => (0 : DWord)) old.mulP r
    let sum := mulExact c.mode.toNat (s.mulInputs i k 3 1 == 1) load
      (mulInput c.signA (use_ 0).toNat * mulInput c.signB (use_ 1).toNat) (use_ 2) (p k) (if k = 0 then 0 else p (k - 1))
    let ovf := mulOvf (old.mulOvf.contains k) false load sum
    { x with mulP := tabPut (fun _ => 0) x.mulP k (mulResult c.sat sum),
             mulOvf := if ovf then (if x.mulOvf.contains k then x.mulOvf else x.mulOvf ++ [k]) else x.mulOvf.filter (fun r => r != k),
             mulIn := [0, 1, 2].foldl (fun l j => tabPut (fun _ => 0) l (3 * k + j) (now j)) x.mulIn }

/-- Every multiplier role that tree `t` clocks. -/
def State.mulsNext (s : State) (t i : Nat) (x : Sector) : Sector :=
  (List.range 32).foldl (fun x k =>
    if s.clocks t i (decoded (s.interfaceFrames i) ({} : Config.MulCfg) (fun f => Config.mulCfg f k)).clk.toNat then s.mulEdge i k x
    else x) x

/-! ### A sector -/

/-- An edge of tree `t` clocks the event input of sector `i`. -/
def State.clocksEvents (s : State) (t i : Nat) : Bool :=
  s.clocks t i (decoded (s.interfaceFrames i) 0 (fun f => Config.ifaceClk f 10)).toNat

/-- Sector `i` after a rising edge of tree `t`: registers, block RAM ports, multipliers, the pulses of its strobes (R207) and of fabric channels (R497), and the REQ of
its port interfaces (R208). -/
def State.sectorEdge (s : State) (t i : Nat) : Sector :=
  let x := s.sector i
  let x1 := { x with
    ffs := (List.range 24576).filter (s.registerNext t i)
    sync := s.syncNext t i
    stb := x.stb.filter (fun n => !s.clocks t i (s.getF (Reg.SEC_STB i n) 3 0))
    evp := if s.clocksEvents t i then ((s.evt.pulses.filter (fun p => p.2.testBit i)).map (·.1)).eraseDups else x.evp
    reqSeen := (List.range 8).filter (fun k => (s.portTransfer i k).isSome &&
      (x.reqSeen.contains k || s.clocks t i (decoded (s.interfaceFrames i) 0 (fun f => Config.ifaceClk f k)).toNat)) }
  s.mulsNext t i (s.bramsNext t i x1)

/-- A rising edge of global clock tree `t` (R203): every live sector takes it, from the levels just before it. -/
def State.treeEdge (s : State) (t : Nat) : State :=
  let live := (List.range 48).filter s.sectorLive
  let r := live.foldl (fun r i => r.setSector i (s.sectorEdge t i)) s
  let seen := live.filter (s.clocksEvents t)
  let rest := fun (m : Nat) => seen.foldl (fun (m i : Nat) => if m.testBit i then m - 2 ^ i else m) m
  { r with evt := { r.evt with pulses := (r.evt.pulses.map (fun p => (p.1, rest p.2))).filter (fun p => p.2 != 0) } }

end Sys2Proof.Machine
end

