-- ==== Sys2Proof/Machine/FabPorts.lean ====
section
/-!
DEFINITION. Sys2Proof/Machine/FabPorts.lean: the posts and mailbox writes that the sectors of a fabric group present, and the group's
round-robin service of them (R210, R211).
-/
namespace Sys2Proof.Machine

/-- The sector of group `g` that the round-robin serves next, of those that `ready` selects: the first after the one served last. -/
def nextSector (g last : Nat) (ready : Nat → Bool) : Option Nat :=
  ([1, 2, 3].map (fun k => 3 * g + (last + k) % 3)).find? ready

/-- The first entry of a list with key `i` removed. -/
def dropFirst {α : Type} : List (Nat × α) → Nat → List (Nat × α)
  | [], _ => []
  | (j, v) :: l, i => if j = i then l else (j, v) :: dropFirst l i

/-- The sector's first entry. -/
def firstOf {α : Type} (l : List (Nat × α)) (i : Nat) : Option α := (l.find? (fun p => p.1 == i)).map Prod.snd

/-- What sector `i` presents at its post interface can be taken: a record while the FIFO has room, a cancel once the sector's own records
have left it (R210). -/
def State.postReady (s : State) (i : Nat) : Bool :=
  let p := 64 + i / 3
  match firstOf s.fab.posts i with
  | none => false
  | some (false, _) => s.fifoRoom p
  | some (true, _) => !(s.fifo p).any (fun r => r.owner == .fabric i)

/-- A cancel of a sector on its group's port, whose count goes back (R65, R210). A word with a bit set above [20:0] removes nothing. -/
def State.fabricCancel (s : State) (i : Nat) (w : QWord) : State :=
  let n := w.toNat
  let r := if n / 2 ^ 21 ≠ 0 then (s, 0)
    else s.cancel (nbits n 7 0) (nbits n 15 8) (nbits n 19 16) (64 + i / 3) (n.testBit 20) false
  { r.1 with act := { r.1.act with fabStatus := r.1.act.fabStatus ++ [(i, r.2)] } }

/-- What sector `i` presents is taken (R210). -/
def State.takePost (s : State) (i : Nat) : State :=
  match firstOf s.fab.posts i with
  | none => s
  | some (c, w) =>
    let s : State := { s with fab := { s.fab with
      posts := dropFirst s.fab.posts i, postRr := tabPut (fun _ => 2) s.fab.postRr (i / 3) (i % 3) } }
    if c then s.fabricCancel i w else s.fifoPush (64 + i / 3) w (.fabric i)

/-- Group `g` serves its post interfaces, at most `n` times (R210). -/
def State.servePosts (s : State) (g : Nat) : Nat → State
  | 0 => s
  | n + 1 =>
    match nextSector g (tabGet (fun _ => 2) s.fab.postRr g) s.postReady with
    | none => s
    | some i => (s.takePost i).servePosts g n

/-- A post or a cancel presented by sector `i`; its group serves it when its turn and its place come. -/
def State.presentPost (s : State) (i : Nat) (cancel : Bool) (w : QWord) : State :=
  let s : State := { s with fab := { s.fab with posts := s.fab.posts ++ [(i, cancel, w)] } }
  s.servePosts (i / 3) s.fab.posts.length

/-- A mailbox write of sector `i` is made, and its status goes back once it is known (R211, R112). -/
def State.takeMail (s : State) (i : Nat) : State :=
  match firstOf s.fab.mails i with
  | none => s
  | some (e, m, v) =>
    let s : State := { s with fab := { s.fab with
      mails := dropFirst s.fab.mails i
      mailRr := tabPut (fun _ => 2) s.fab.mailRr (i / 3) (i % 3)
      mailAt := tabInsert s.fab.mailAt (i / 3) s.time } }
    let r := s.mailWrite e m v (.fabric i)
    match r.2 with
    | some st => { r.1 with fab := { r.1.fab with mailSt := r.1.fab.mailSt ++ [(i, st)] } }
    | none => r.1

/-- Group `g` takes one mailbox write, in its round-robin, where 4 ns have passed since its last (R211). -/
def State.serveMail (s : State) (g : Nat) : State :=
  let due := match s.fab.mailAt.find? (fun p => p.1 == g) with
    | some p => atOrAfter s.time (p.2 + units 256)
    | none => true
  if !due then s
  else match nextSector g (tabGet (fun _ => 2) s.fab.mailRr g) (fun i => (firstOf s.fab.mails i).isSome) with
    | some i => s.takeMail i
    | none => s

/-- The mailbox writes of one tick: a lower group goes first (R211). -/
def State.serveMails (s : State) : State := (List.range 16).foldl State.serveMail s

end Sys2Proof.Machine
end

