-- ==== Sys2Proof/Machine/Fab.lean ====
section
/-!
DEFINITION. Sys2Proof/Machine/Fab.lean: the rows of the fabric (07_logic_bays_and_routing.md): contention and scrub, what sectors send to
the scheduler, the mailboxes, the events and the shared resources, probes and the trace buffer; and the continuous
readback (R268, R269).
-/
namespace Sys2Proof.Machine

/-- A fault in the configuration of sector `i`, at frame `addr`, counted in its squall window (R477, type 9). -/
def State.sectorFault (s : State) (i addr cause : Nat) : State :=
  let r := s.countFault 9 i s.sqCfg
  if r.2 then (r.1.setB (Reg.TST_SQ_SEC i) 31 true).lastingFault 9 i (BitVec.ofNat 32 addr) cause 255 false else r.1

/-! ### Contention and scrub (R200–R202, R268, R269) -/

/-- DISC and SCRUB_PEND of SEC[i].STAT. A requested scrub has not completed while it waits and while a segment stays
disconnected. -/
def State.noteDisc (s : State) (i : Nat) : State :=
  let disc := !(s.sector i).disc.isEmpty
  let pend := s.cfg.rewrites.any (fun r => r.2.2 && fClass r.2.1 == 0 && fSector r.2.1 == i)
  (s.setB (Reg.SEC_STAT i) 2 disc).setB (Reg.SEC_STAT i) 4 (pend || disc)

/-- A segment of sector `i` is disconnected, and the scrub of the frame that holds its select is asked for first (R200). -/
def State.disconnect (s : State) (i seg : Nat) : State :=
  let s := s.setSector i { s.sector i with disc := (s.sector i).disc ++ [seg] }
  ({ s with cfg := { s.cfg with rewrites := (false, selectAddr i seg, true) :: s.cfg.rewrites } } : State).useCrypto.noteDisc i

/-- CONTENTION (R200): the monitor of segment `seg` of sector `i` saw the drivers `drv`. A second detection on a
disconnected segment is recorded and counted, and starts no second scrub (R201). -/
def execContention (i : Fin 48) (seg : Fin 2048) (drv : Byte) (s : State) : Out :=
  if !segmentExists i seg || !s.sectorLive i then .next s
  else
    let s := s.addF (Reg.SEC_CONT_CNT i) 15 0 1
    let s := s.setR (Reg.SEC_CONT_INFO i) (BitVec.ofNat 32 (2 ^ 31 + drv.toNat <<< 12 + seg.val))
    let s := (s.setD (Reg.SEC_CONT_TIME i) s.time).raise (64 + i) 1
    let s := if (s.sector i).disc.contains seg.val then s else s.disconnect i seg
    .next (s.sectorFault i (selectAddr i seg) 6)

/-- Frame number `n` of a pass of the readback (R268): classes 0, 3, 4 and 5 of the active plane, then classes 0 and 4 of the
staged sectors; none past the end. -/
def State.scrubFrame (s : State) (n : Nat) : Option (Bool × Nat) :=
  if n < 76992 then some (false, frameAddr 0 (n / 1604) (n % 1604))
  else if n < 77423 then some (false, frameAddr 3 63 (n - 76992))
  else if n < 77759 then some (false, frameAddr 4 ((n - 77423) / 7) ((n - 77423) % 7))
  else if n < 77760 then some (false, frameAddr 5 63 0)
  else if s.getB Reg.CFG_SCRUB_CTL 30 ∧ (s.stgState = 2 ∨ s.stgState = 4) then
    let l := bitsSet 48 s.stgSectors
    let m := n - 77760
    if m < 1604 * l.length then some (true, frameAddr 0 (l.getD (m / 1604) 0) (m % 1604))
    else if m < 1611 * l.length then
      some (true, frameAddr 4 (l.getD ((m - 1604 * l.length) / 7) 0) ((m - 1604 * l.length) % 7))
    else none
  else none

/-- The number of the next frame to read from `n` on: the frames of a sector whose domain is not ON are passed over
(R442), a sector at a time, and a pass begins again at 0. -/
def State.scrubNext (s : State) : Nat → Nat → Option (Nat × Bool × Nat)
  | 0, _ => none
  | k + 1, n =>
    match s.scrubFrame n with
    | none => s.scrubNext k 0
    | some (st, a) =>
      if (fClass a = 0 ∨ fClass a = 4) ∧ s.domOn (domSector (fSector a)) = false then
        s.scrubNext k (n - fIndex a + (if fClass a = 0 then 1604 else 7))
      else some (n, st, a)

/-- A frame to be rewritten, at the end of the list unless it already waits. -/
def State.askRewrite (s : State) (st : Bool) (a : Nat) : State :=
  if s.cfg.rewrites.any (fun r => r.1 == st && r.2.1 == a) then s
  else ({ s with cfg := { s.cfg with rewrites := s.cfg.rewrites ++ [(st, a, false)] } } : State).useCrypto

/-- A segment of the frame waits for a scrub that has failed (R269: the frame is tried again on the next pass). -/
def State.stillDisc (s : State) (st : Bool) (a : Nat) : Bool :=
  !st && fClass a == 0 && (s.sector (fSector a)).disc.any (fun seg => selectAddr (fSector a) seg == a)

/-- INTERVAL of the readback has passed since it last read a frame (R268, R271): units of 10 ns, 0 taken as 1. -/
def State.scrubDue (s : State) : Bool :=
  decide (((640 * max 1 (s.getF Reg.CFG_SCRUB_CTL 15 0) : Nat) : Int) ≤ tdiff s.time s.cfg.scrubTime)

/-- SCRUB_READ (R268): the readback checks one frame. `ce` of its 64 words are corrected in place; `bad`: a word is uncorrectable, or the
CRC does not match, and the frame's rewrite is asked for. -/
def execScrubRead (ce : Fin 65) (bad : Bool) (s : State) : Out :=
  if !s.getB Reg.CFG_SCRUB_CTL 31 || !s.scrubDue then .next s
  else match s.scrubNext 200 s.cfg.scrubAt with
    | none => .next s
    | some (n, st, a) =>
      let s : State := { s with cfg := { s.cfg with scrubAt := n + 1, scrubStaged := st, scrubTime := s.time } }
      let s := if ce.val = 0 then s else (s.addF Reg.CFG_SCRUB_CE 31 0 ce).raise 162 2
      .next (if bad || s.stillDisc st a then s.askRewrite st a else s)

/-- The content of frame `a` in the image of slot `k`, decrypted (R268); a frame that the image does not hold was filled
with zeros. None where the slot holds no image. -/
def State.slotFrame (s : State) (k a : Nat) : Option (List Byte) :=
  let b := s.slotBytes k
  if b.length < 4096 then none
  else
    let h := b.take 4096
    let f := fun n => s.plainFrame h n (sliceB b (4096 + 520 * n) 520)
    match (List.range (Header.frames h)).find? (fun n => beAt (f n) 0 4 == a) with
    | some n => some (sliceB (f n) 4 512)
    | none => some (List.replicate 512 0)

/-- The frame from the source slot of its plane (R243, R268). -/
def State.sourceFrame (s : State) (st : Bool) (a : Nat) : Option (List Byte) :=
  match tabGet (fun _ => 0) (if st then s.cfg.stgFrom else s.cfg.actFrom) (unitOf a) with
  | 0 => none
  | k + 1 => s.slotFrame k a

/-- A frame of a sector has been rewritten: SCRUB_FIXED, one fault, and the disconnected segments of the frame follow the
select again (R201, R219, R268). -/
def State.sectorRewritten (s : State) (st : Bool) (a : Nat) : State :=
  if fClass a = 0 ∨ fClass a = 1 ∨ fClass a = 4 then
    let i := fSector a
    let s := s.raise (64 + i) 2
    let x := s.sector i
    let s := if st then s else s.setSector i { x with disc := x.disc.filter (fun seg => selectAddr i seg != a) }
    (s.noteDisc i).sectorFault i a 7
  else s

/-- A frame read again from its source slot, checked, rewritten and read back (R268); `src`: the source has not failed. A failed
source leaves the plane as it is (R269). Answers whether the frame has been rewritten. -/
def State.rewriteFrame (s : State) (st : Bool) (a : Nat) (src : Bool) : State × Bool :=
  let s := s.setR Reg.CFG_SCRUB_LAST (BitVec.ofNat 32 a)
  match (if src then s.sourceFrame st a else none) with
  | none =>
    let s := (s.incR Reg.CFG_SCRUB_SRC_ERR).raise 162 4
    (if fClass a = 0 then s.noteDisc (fSector a) else s, false)
  | some f =>
    let s : State := { s with cfg := { s.cfg with
      active := if st then s.cfg.active else planePut s.cfg.active a f,
      staged := if st then planePut s.cfg.staged a f else s.cfg.staged } }
    (((s.incR Reg.CFG_SCRUB_FIX).raise 162 1).sectorRewritten st a, true)

/-- SCRUB_REWRITE_DONE (R201, R268, R269): the first frame of the list is rewritten; `src`: its source has not failed. -/
def execScrubRewriteDone (src : Bool) (s : State) : Out :=
  match s.cfg.rewrites with
  | [] => .next s
  | (st, a, _) :: l => .next (({ s with cfg := { s.cfg with rewrites := l } } : State).rewriteFrame st a src).1

/-! ### Posts, mailboxes, requests, events (R210–R213) -/

/-- FABRIC_POST (R210): sector `i` presents a record at its post interface. -/
def execFabricPost (i : Fin 48) (w : QWord) (s : State) : Out :=
  if s.ifaceLive i 8 then .next (s.presentPost i false w) else .next s

/-- FABRIC_CANCEL (R210, R65): sector `i` presents a cancel at its post interface. -/
def execFabricCancel (i : Fin 48) (w : QWord) (s : State) : Out :=
  if s.ifaceLive i 8 then .next (s.presentPost i true w) else .next s

/-- FABRIC_MBOX_WRITE (R211): sector `i` presents a write to mailbox `m` of logical engine `e`; the tick's service takes it. -/
def execFabricMboxWrite (i : Fin 48) (e : Fin 64) (m : Fin 16) (v : DWord) (s : State) : Out :=
  if s.ifaceLive i 9 then .next { s with fab := { s.fab with mails := s.fab.mails ++ [(i.val, e.val, m.val, v)] } } else .next s

/-- FABRIC_REQUEST (R413, R361): a request of sector `i`; a refusal goes back at once. -/
def execFabricRequest (i : Fin 48) (op : Fin 6) (addr : Word) (len : Nat) (data : List Byte) (lock : BitVec 7) (s : State) : Out :=
  if !s.ifaceLive i 11 then .next s
  else
    let r := s.submit op addr.toNat len data lock.toNat (.fabric i)
    if r.2 = 0 then .next r.1 else .next { r.1 with fab := { r.1.fab with answers := r.1.fab.answers ++ [(i.val, r.2, [])] } }

/-- EVENT_PORT_PULSE (R212): the word is ORed into the cause register of user event `u`. -/
def execEventPortPulse (i : Fin 48) (u : Fin 64) (w : Word) (s : State) : Out :=
  if s.ifaceLive i 10 then .next (s.raise (256 + u) w.toNat) else .next s

/-! ### Probes (R213–R215) -/

/-- Channel `c` shows its flip-flop: enabled, with an index that is not reserved, in a sector that is ON (R214). -/
def State.probeLive (s : State) (c : Nat) : Bool :=
  let w := s.getR (Reg.TST_PRB_SEL c)
  bitOf w 31 && decide (fld w 20 15 < 48) && decide (fld w 14 0 < 28928) && s.domOn (domSector (fld w 20 15))

/-- Bit `n` of sector `i` by its probe index (R213, R238): a flip-flop or macrocell register as it stands, a bit of the output register
of port A of a block RAM role, which reads 0 while OUTREG is 0, or a bit of P of a multiplier role. -/
def State.probeBit (s : State) (i n : Nat) : Bool :=
  if n < 24576 then
    let r := n % 48
    if r < 32 then s.ffNext s.level i (n / 48) (r / 2) (r % 2 == 1) false else s.cellNext s.level i (n / 48) (r - 32) false
  else if n < 26880 then
    let k := (n - 24576) / 72
    (s.bramOf i k).a.outReg && (tabGet (fun _ => 0) (s.sector i).bramOut (2 * k)).testBit ((n - 24576) % 72)
  else if n < 28928 then (tabGet (fun _ => (0 : DWord)) (s.sector i).mulP ((n - 26880) / 64)).toNat.testBit ((n - 26880) % 64)
  else false

/-- The global tree that clocks probe index `n` of sector `i`. -/
def State.probeTree (s : State) (i n : Nat) : Nat :=
  let j := if n < 24576 then
      (if n % 48 < 32 then (s.quarterOf i (n / 48) (n % 48 / 8)).clk else (s.cellOf i (n / 48) (n % 48 - 32)).clk).toNat
    else if n < 26880 then (s.bramOf i ((n - 24576) / 72)).a.clk.toNat
    else (decoded (s.interfaceFrames i) ({} : Config.MulCfg) (fun f => Config.mulCfg f ((n - 26880) / 64))).clk.toNat
  s.getF (Reg.SEC_RCLK i j) 4 0

/-- What channel `c` shows (R214). -/
def State.probeLevel (s : State) (c : Nat) : Bool :=
  let w := s.getR (Reg.TST_PRB_SEL c)
  s.probeLive c && s.probeBit (fld w 20 15) (fld w 14 0)

/-- The 64 channel values at an edge of tree `t` (R216). A channel whose flip-flop is clocked from another tree is an asynchronous input, and
shows what `v` says. -/
def State.probeValues (s : State) (t : Nat) (v : DWord) : DWord :=
  let w := fun (c : Nat) => s.getR (Reg.TST_PRB_SEL c)
  let shows := fun (c : Nat) =>
    if s.probeTree (fld (w c) 20 15) (fld (w c) 14 0) = t then s.probeLevel c else s.probeLive c && v.toNat.testBit c
  BitVec.ofNat 64 (((List.range 64).filter shows).map (fun c => 2 ^ c)).sum

/-- A write of TST.PRB[c].PIN (R215): refused where it names a pin that is not spare or that carries another channel. -/
def State.writePrbPin (s : State) (c : Nat) (w : Word) : State :=
  let p := fld w 10 0
  let taken := (List.range 64).any (fun d => d != c && s.getB (Reg.TST_PRB_PIN d) 31 && s.getF (Reg.TST_PRB_PIN d) 10 0 == p)
  if decide (1152 ≤ p) || !(s.pin p).spare || taken then s.setB Reg.PRB_STAT 0 true
  else s.store (Reg.TST_PRB_PIN c) w

/-- PRB_PIN_WRITE (R215). -/
def execPrbPinWrite (c : Fin 64) (w : Word) (s : State) : Out := .next (s.writePrbPin c w)

/-! ### The trace buffer (R216–R218) -/

/-- STATE of TRC_STAT: 0 IDLE, 1 ARMED, 2 TRIGGERED, 3 DONE. -/
def State.trcState (s : State) : Nat := s.getF Reg.TRC_STAT 1 0

/-- The trace buffer replaced. -/
def State.setTrace (s : State) (x : Trace) : State := { s with fab := { s.fab with trace := x } }

/-- ARM (R217): the settings are read, the buffer is emptied. Ignored in ARMED and TRIGGERED, and for a reserved source. -/
def State.trcArm (s : State) : State :=
  if s.trcState = 1 ∨ s.trcState = 2 ∨ 4 ≤ s.getF Reg.TRC_CTL 16 14 then s.setB Reg.PRB_STAT 1 true
  else
    let w := s.getR Reg.TRC_CTL
    let s := s.setTrace { ctl := w, post := min 16384 (s.getF Reg.TRC_POST 14 0), mask := s.getD Reg.TRC_MASK,
                          val := s.getD Reg.TRC_VAL, time := s.getD Reg.TRC_TIME }
    let s : State := { s with evt := { s.evt with
      trigEv := if fld w 16 14 = 3 then some (256 + fld w 13 8) else none, trigSeen := false } }
    (s.setR Reg.TRC_STAT 1).setR Reg.TRC_OLDEST 0

/-- STOP (R217): DONE from any state but IDLE. -/
def State.trcStop (s : State) : State :=
  if s.trcState = 0 then s.setB Reg.PRB_STAT 1 true else s.setF Reg.TRC_STAT 1 0 3

/-- FORCE (R217): the trigger of source 0. -/
def State.trcForce (s : State) : State :=
  if s.trcState = 0 then s.setB Reg.PRB_STAT 1 true else s.setTrace { s.fab.trace with forced := true }

/-- A write of TRC_CMD: ARM, STOP, FORCE, each where its bit is set. -/
def State.writeTrcCmd (s : State) (w : Word) : State :=
  let s := if bitOf w 0 then s.trcArm else s
  let s := if bitOf w 1 then s.trcStop else s
  if bitOf w 2 then s.trcForce else s

/-- Command TRC_CMD (R399): TRC_CTL, TRC_POST and the command byte. An ignored order answers BUSY. -/
def State.trcCommand (s : State) (c : CmdRef) (bit : Nat) : State :=
  match s.turn c 8 3 with
  | none => s
  | some x =>
    let w : Word := BitVec.ofNat 32 (beAt x.payload 8 1)
    if w = 0 ∨ 8 ≤ w.toNat then s.replyTo x csBADPARAM true []
    else if bitOf w bit then
      let s := (s.store Reg.TRC_CTL (BitVec.ofNat 32 (beAt x.payload 0 4))).store Reg.TRC_POST (BitVec.ofNat 32 (beAt x.payload 4 4))
      let t := (s.setB Reg.PRB_STAT 1 false).writeTrcCmd w
      let ignored := t.getB Reg.PRB_STAT 1
      (t.setB Reg.PRB_STAT 1 (ignored || s.getB Reg.PRB_STAT 1)).replyTo x (if ignored then csBUSY else csOK) true []
    else s

/-- An order of the trace by bit `bit` of TRC_CMD, or by the command. -/
def State.trcOrder (s : State) (v : Via) (bit : Nat) : State :=
  match v with
  | .reg w => if bitOf w bit then s.writeTrcCmd w else s
  | .cmd c => s.trcCommand c bit

/-- TRC_ARM (R217). -/
def execTrcArm (v : Via) (s : State) : Out := .next (s.trcOrder v 0)
/-- TRC_STOP (R217). -/
def execTrcStop (v : Via) (s : State) : Out := .next (s.trcOrder v 1)
/-- TRC_FORCE (R217). -/
def execTrcForce (v : Via) (s : State) : Out := .next (s.trcOrder v 2)

/-- The trigger condition of the armed source holds at a sampling edge at time `at_` (R217). -/
def State.trcHit (s : State) (v at_ : DWord) : Bool :=
  let x := s.fab.trace
  match fld x.ctl 16 14 with
  | 0 => x.forced
  | 1 => (v &&& x.mask) == (x.val &&& x.mask)
  | 2 => atOrAfter at_ x.time
  | _ => s.evt.trigSeen

/-- A sample stored in the ring (R216): the values, and the time `at_` of the edge rounded down to 1 ns. -/
def State.trcStore (s : State) (v at_ : DWord) : State :=
  let x := s.fab.trace
  let fill := min 16384 (x.fill + 1)
  let next := (x.next + 1) % 16384
  let t := at_ - units (at_.toNat % 64)
  let s := s.setTrace { x with samples := tabPut (fun _ => (0, 0)) x.samples x.next (v, t), next := next, fill := fill, lastV := some v }
  (s.setF Reg.TRC_STAT 16 2 fill).setF Reg.TRC_OLDEST 13 0 (if fill = 16384 then next else 0)

/-- The trace takes a sampling edge at time `at_` with the channel values `v` (R216, R217): in ARMED the trigger is tested; in TRIGGERED
samples are stored until POST have been. -/
def State.trcSample (s : State) (v at_ : DWord) : State :=
  let x := s.fab.trace
  let stored := !bitOf x.ctl 17 || x.lastV != some v
  match s.trcState with
  | 1 =>
    if x.hit then s
    else
      let hit := s.trcHit v at_
      let s := if stored || hit then s.trcStore v at_ else s
      s.setTrace { s.fab.trace with hit := hit }
  | 2 =>
    if x.left = 0 ∨ stored = false then s
    else
      let s := s.trcStore v at_
      s.setTrace { s.fab.trace with left := x.left - 1 }
  | _ => s

/-- SAMPLING_EDGE (R203, R216): a rising edge of global tree `t`, `q` units into the tick. The trace samples where it is its tree, and then the
fabric that the tree clocks takes the edge. `v`: what the channels show that are clocked from other trees. -/
def execSamplingEdge (t : Fin 32) (v : DWord) (q : Fin 160) (s : State) : Out :=
  .next ((if fld s.fab.trace.ctl 22 18 = t.val then s.trcSample (s.probeValues t v) (s.time + units q.val) else s).treeEdge t)

/-- TRACE_TRIGGER (R217): the trigger condition has been met at the sampling edge just stored. -/
def execTraceTrigger (s : State) : Out :=
  let x := s.fab.trace
  if s.trcState = 1 ∧ x.hit = true then
    let s := (s.setF Reg.TRC_STAT 1 0 2).setF Reg.TRC_TRIG 13 0 ((x.next + 16383) % 16384)
    .next (s.setTrace { x with hit := false, left := x.post })
  else .next s

/-- TRACE_DONE (R217): POST samples after the trigger have been stored; UEV is raised where UEV_EN is set. -/
def execTraceDone (s : State) : Out :=
  let x := s.fab.trace
  if s.trcState = 2 ∧ x.left = 0 then
    let s := s.setF Reg.TRC_STAT 1 0 3
    .next (if bitOf x.ctl 23 then s.raise (256 + fld x.ctl 29 24) 0x80000000 else s)
  else .next s

/-- Word `k` (0–3) of sample `i` as the window shows it: zero except in IDLE and DONE (R218). -/
def State.trcWord (s : State) (i k : Nat) : Word :=
  if s.trcState = 1 ∨ s.trcState = 2 then 0
  else
    let x := tabGet (fun _ => (0, 0)) s.fab.trace.samples (i % 16384)
    match k with
    | 0 => loW x.1
    | 1 => hiW x.1
    | 2 => loW x.2
    | _ => hiW x.2

/-- TRC_READ (R218, R399): samples from the first named on, in the order of the window's words. -/
def execTrcRead (c : CmdRef) (s : State) : Out :=
  match s.turn c 8 4 with
  | none => .next s
  | some x =>
    let first := beAt x.payload 0 2
    let n := beAt x.payload 2 1
    if 16384 ≤ first ∨ n = 0 ∨ 90 < n then .next (s.replyTo x csBADPARAM true [])
    else .next (s.replyTo x csOK true
      ((List.range n).flatMap (fun i => (List.range 4).flatMap (fun k => beBytes 4 (s.trcWord (first + i) k).toNat))))

end Sys2Proof.Machine
end

