-- ==== Sys2Proof/Machine/Mem.lean ====
section
/-!
DEFINITION. Sys2Proof/Machine/Mem.lean: the rows of the block RAMs and multipliers (08_block_memory_and_multipliers.md): errors, the spares
and their moves, initialisation at a Front.
-/
namespace Sys2Proof.Machine

/-- Unit number of physical block `k` of sector `i` (R467). -/
def memUnit (i k : Nat) : Nat := 33 * i + k

/-- The SPARE register of a kind: 1 block RAM, 2 multiplier. -/
def spareReg (kind i : Nat) : Nat := if kind = 1 then Reg.SEC_SPARE_BRAM i else Reg.SEC_SPARE_MUL i

/-- The role that physical block `k` serves (R222): its own, unless the spare serves it; the spare's. -/
def State.memRole (s : State) (kind i k : Nat) : Option Nat :=
  let used := s.getB (spareReg kind i) 31
  let role := s.getF (spareReg kind i) 4 0
  if k = 32 then (if used then some role else none)
  else if used && role == k && !s.getB (spareReg kind i) 30 then none else some k

/-- A Drizzle slice of the kind in sector `i`. -/
def State.memSlice (s : State) (kind i : Nat) : Option Slice := (s.dtype kind).slice.filter (fun sl => sl.unit / 33 == i)

/-- The slice of the kind dropped and recorded ABORTED (R471). -/
def State.dropSlice (s : State) (kind : Nat) : State :=
  (s.noteAborted kind).setDtype kind { s.dtype kind with slice := none }

/-- The copy of a block RAM role starts (R234, R236): COPYING; USED and the role too where Drizzle asked for it (R470). -/
def State.bramStart (s : State) (i : Nat) (m : BramMove) : State :=
  let s := (s.setSector i { s.sector i with move := some m }).setB (Reg.SEC_SPARE_BRAM i) 30 true
  if m.drizzle then (s.setB (Reg.SEC_SPARE_BRAM i) 31 true).setF (Reg.SEC_SPARE_BRAM i) 4 0 m.role else s

/-- A multiplier role moves to the spare at a clock edge of its own (R235). -/
def State.mulMove (s : State) (i role : Nat) (drizzle : Bool) : State :=
  let s := s.setR (Reg.SEC_SPARE_MUL i) (BitVec.ofNat 32 (2 ^ 31 + s.getF (Reg.SEC_SPARE_MUL i) 29 29 <<< 29 + role))
  if drizzle then s else s.raise (64 + i) 64

/-- The multiplier role on the spare returns to its home block (R236). -/
def State.mulReturn (s : State) (i : Nat) : State :=
  (s.setB (Reg.SEC_SPARE_MUL i) 31 false).setF (Reg.SEC_SPARE_MUL i) 4 0 0

/-- The slice of a block RAM (`kind` 1) or multiplier (2) that is under way is aborted (R471): the role returns from the spare, or the copy to it
ends at once. -/
def State.abortMem (s : State) (kind : Nat) : State :=
  match (s.dtype kind).slice with
  | none => s
  | some sl =>
    let i := sl.unit / 33
    let s := s.dropSlice kind
    if sl.heldBy.isNone then s
    else if kind = 2 then s.mulReturn i
    else match (s.sector i).move with
      | some m =>
        if m.toSpare then
          let r := Reg.SEC_SPARE_BRAM i
          ((((s.setSector i { s.sector i with move := none }).setB r 30 false).setB r 31 false).setF r 4 0 0)
        else s
      | none => s.bramStart i { role := sl.unit % 33, toSpare := false, drizzle := true }

/-- The copy in progress in sector `i` is done (R234, R236): the role is on the spare, or at home again. A block that
failed is retired; the slice that asked for the copy runs its test, or has ended; a role that waited for the spare
takes it. -/
def State.bramDone (s : State) (i : Nat) (m : BramMove) : State :=
  let r := Reg.SEC_SPARE_BRAM i
  let s := (s.setSector i { s.sector i with move := none }).setB r 30 false
  if m.toSpare then
    let s := (s.setB r 31 true).setF r 4 0 m.role
    let s := if m.fault then s.setB (Reg.SEC_BRAM_RETIRED i) m.role true else s
    if m.drizzle then s.setDtype 1 { s.dtype 1 with slice := (s.dtype 1).slice.map (fun sl => { sl with running := true }) }
    else s.raise (64 + i) 64
  else
    let s := (s.setB r 31 false).setF r 4 0 0
    let s := if m.drizzle ∧ (s.memSlice 1 i).isSome then s.setDtype 1 { s.dtype 1 with slice := none } else s
    match (s.sector i).nextMove with
    | some k => (s.setSector i { s.sector i with nextMove := none }).bramStart i { role := k, toSpare := true, fault := true }
    | none => s

/-- A lasting fault of a block RAM (R233, R234, R236, R471): `k` is a home block or the spare. -/
def State.bramLasting (s : State) (i k : Nat) (addr : Word) (cause bit : Nat) : State :=
  let x := s.sector i
  let r := Reg.SEC_SPARE_BRAM i
  let log := fun (s : State) (noSpare : Bool) => s.lastingFault 1 (memUnit i k) addr cause bit noSpare
  let faulty := s.getB r 29
  if k = 32 then log (s.setB r 29 true) false
  else if x.move.any (fun m => m.toSpare && m.role == k) then
    let s := if (s.memSlice 1 i).isSome then s.dropSlice 1 else s
    log (s.setSector i { x with move := x.move.map (fun m => { m with fault := true, drizzle := false }) }) false
  else
    match s.memSlice 1 i with
    | some _ =>
      if faulty ∨ x.nextMove.isSome then log (s.setB (Reg.SEC_MEM_STAT i) 2 true) true
      else
        let s := s.abortMem 1
        log (if s.getB r 30 then s.setSector i { s.sector i with nextMove := some k }
          else s.bramStart i { role := k, toSpare := true, fault := true }) false
    | none =>
      if s.getB r 31 || s.getB r 30 || faulty then log (s.setB (Reg.SEC_MEM_STAT i) 2 true) true
      else log (s.bramStart i { role := k, toSpare := true, fault := true }) false

/-- A lasting fault of a multiplier (R232, R235, R236, R471). -/
def State.mulLasting (s : State) (i k : Nat) (addr : Word) (cause bit : Nat) : State :=
  let r := Reg.SEC_SPARE_MUL i
  let log := fun (s : State) (noSpare : Bool) => s.lastingFault 2 (memUnit i k) addr cause bit noSpare
  if k = 32 then log (s.setB r 29 true) false
  else
    let s' := if (s.memSlice 2 i).isSome then s.abortMem 2 else s
    if s'.getB r 31 || s'.getB r 29 then log (s.setB (Reg.SEC_MEM_STAT i) 1 true) true
    else log ((s'.setB (Reg.SEC_MUL_RETIRED i) k true).mulMove i k false) false

/-- One fault of a block RAM (`kind` 1) or a multiplier (2) counted in the squall window of its physical block (R227, R232,
R477). -/
def State.memFault (s : State) (kind i k : Nat) (addr : Word) (cause bit : Nat) : State :=
  let r := s.countFault kind (memUnit i k) (squallCfg (s.getR (Reg.SEC_MEM_SQUALL i)))
  if r.2 then (if kind = 1 then r.1.bramLasting i k addr cause bit else r.1.mulLasting i k addr cause bit) else r.1

/-- The last-error record (R239). -/
def State.memInfo (s : State) (i : Nat) (ue mul spare : Bool) (role bit word : Nat) : State :=
  (s.setR (Reg.SEC_MEM_ERR_INFO i) (BitVec.ofNat 32 (2 ^ 31 + ue.toNat <<< 30 + mul.toNat <<< 29 + spare.toNat <<< 28 +
    role <<< 23 + bit <<< 16 + word))).setD (Reg.SEC_MEM_ERR_TIME i) s.time

/-- ECC of the role that physical block `k` serves is on (R223, R229). -/
def State.eccOn (s : State) (i k : Nat) : Bool := (s.memRole 1 i k).any (fun r => (s.bramOf i r).ecc)

/-- An error that ECC detects in a word of a physical block (R227). -/
def State.bramError (s : State) (i k word bit : Nat) (ue : Bool) : State :=
  match s.memRole 1 i k with
  | none => s
  | some role =>
    let s := if ue then (s.addF (Reg.SEC_MEM_UE_CNT i) 15 0 1) else (s.addF (Reg.SEC_MEM_CE_CNT i) 15 0 1)
    let s := s.memInfo i ue false (k == 32) role (if ue then 127 else bit) word
    let s := s.raise (64 + i) (if ue then 32 else 16)
    s.memFault 1 i k (BitVec.ofNat 32 word) (if ue then 4 else 3) (if ue then 255 else bit)

/-- Read data that ECC cannot correct (R227): the port delivers the word uncorrected, which is open, with ERR; the word keeps its error. -/
def State.bramBad (s : State) (i k p word : Nat) : State :=
  match s.memRole 1 i k with
  | none => s
  | some role =>
    let c := s.bramOf i role
    let port := if p = 0 then c.a else c.b
    let f := s.fresh
    let s := f.1
    let x := s.sector i
    s.setSector i { x with
      bram := tabPut (fun _ => 0) x.bram (512 * role + word) f.2.toNat
      bramRd := tabPut (fun _ => 0) x.bramRd (2 * role + p) (f.2.toNat % 2 ^ (64 / 2 ^ port.width.toNat))
      bramErr := x.bramErr.filter (fun e => e != 2 * role + p) ++ [2 * role + p] }

/-- BRAM_ECC_ERROR (R227): the last read of port `p` (0 A, 1 B) of physical block `k` has found an error in `word`. A single-bit error is corrected
in the read data and in the word; an ECC-off block finds none (R229). -/
def execBramEccError (i : Fin 48) (k : Fin 33) (p : Fin 2) (word : Fin 512) (bit : Fin 72) (ue : Bool) (s : State) : Out :=
  if s.domOn (domSector i) && s.eccOn i k then
    .next ((if ue then s.bramBad i k p word else s).bramError i k word bit ue)
  else .next s

/-- INTERVAL µs have passed since the sweep last read a word of block `k` (R228, R239: 0 is taken as 1). -/
def State.sweepDue (s : State) (i k : Nat) : Bool :=
  match (s.sector i).sweepAt.find? (fun p => p.1 == k) with
  | some p => atOrAfter s.time (p.2 + units (unitsPerUs * max 1 (s.getF (Reg.SEC_MEM_SWEEP i) 15 0)))
  | none => true

/-- MEM_SWEEP_READ (R228): the sweep checks the next word of a block whose ECC is on. -/
def execMemSweepRead (i : Fin 48) (k : Fin 33) (ecc : Ecc) (bit : Fin 72) (s : State) : Out :=
  if s.getB (Reg.SEC_MEM_SWEEP i) 31 && s.domOn (domSector i) && s.eccOn i k && s.sweepDue i k then
    let x := s.sector i
    let w := tabGet (fun _ => 0) x.sweep k
    let s := s.setSector i { x with sweep := tabPut (fun _ => 0) x.sweep k ((w + 1) % 512), sweepAt := tabInsert x.sweepAt k s.time }
    match ecc with
    | .clean => .next s
    | .corrected => .next (s.bramError i k w bit false)
    | .uncorrectable => .next (s.bramError i k w bit true)
  else .next s

/-- RESIDUE_MISMATCH (R232): a wrong product of physical multiplier `k`. -/
def execResidueMismatch (i : Fin 48) (k : Fin 33) (s : State) : Out :=
  match (if s.domOn (domSector i) then s.memRole 2 i k else none) with
  | none => .next s
  | some role =>
    let s := (s.addF (Reg.SEC_MUL_ERR_CNT i) 15 0 1).memInfo i false true (k.val == 32) role 0 0
    .next (s.memFault 2 i k 0xFFFFFFFF 5 255)

/-! ### MEM_REPAIR (R236, R240, R471) -/

/-- A write of MEM_REPAIR of sector `i`: MOVE, RETURN, or ignored with CMD_ERR. -/
def State.writeMemRepair (s : State) (i : Nat) (w : Word) : State :=
  let kind := if bitOf w 8 then 2 else 1
  let r := spareReg kind i
  let role := fld w 4 0
  let err := s.setB (Reg.SEC_MEM_STAT i) 0 true
  let used := s.getB r 31
  let busy := s.getB r 30 || (s.memSlice kind i).any (fun sl => sl.heldBy.isSome)
  let retired := s.getB (if kind = 1 then Reg.SEC_BRAM_RETIRED i else Reg.SEC_MUL_RETIRED i) role
  match fld w 31 30 with
  | 0 => s
  | 1 =>
    if busy || used || s.getB r 29 then err
    else if kind = 1 then s.bramStart i { role := role, toSpare := true }
    else s.mulMove i role false
  | 2 =>
    if busy || !used || s.getF r 4 0 != role || retired then err
    else if kind = 1 then s.bramStart i { role := role, toSpare := false }
    else s.mulReturn i
  | _ => err

/-- MEM_MOVE (R240): a write of MEM_REPAIR with CMD 1. -/
def execMemMove (i : Fin 48) (w : Word) (s : State) : Out :=
  if fld w 31 30 = 1 then .next (s.writeMemRepair i w) else .next s

/-- MEM_RETURN (R240): a write of MEM_REPAIR with CMD 2. -/
def execMemReturn (i : Fin 48) (w : Word) (s : State) : Out :=
  if fld w 31 30 = 2 then .next (s.writeMemRepair i w) else .next s

/-- The physical block that a copy reads. -/
def BramMove.from_ (m : BramMove) : Nat := if m.toSpare then m.role else 32

/-- BRAM_COPY_DONE (R234): the copy in progress in sector `i` completes. `errs`: the words in which it found errors, with the bit, or
an uncorrectable one. It corrects a single-bit error, and copies an uncorrectable word as it is. -/
def execBramCopyDone (i : Fin 48) (errs : List (Fin 512 × Fin 72 × Bool)) (s : State) : Out :=
  match (s.sector i).move with
  | some m =>
    let s := if s.eccOn i m.from_ then errs.foldl (fun s e => s.bramError i m.from_ e.1 e.2.1 e.2.2) s else s
    .next (match (s.sector i).move with
      | some m => s.bramDone i m
      | none => s)
  | none => .next s

/-- BRAM_INIT_DONE (R237): role `k` of sector `i` has its initial content, which may complete the Front (R290). -/
def execBramInitDone (i : Fin 48) (k : Fin 32) (s : State) : Out :=
  if s.getB (Reg.SEC_MEM_INIT_BUSY i) k then .next (s.setB (Reg.SEC_MEM_INIT_BUSY i) k false).frontComplete else .next s

end Sys2Proof.Machine
end

