-- ==== Sys2Proof/Machine/KeepStore.lean ====
section
/-!
DEFINITION. Sys2Proof/Machine/KeepStore.lean: what an entry to RET puts into the keep store (R430, R443) and what the wake checks there
(R437): save areas, canaries, and the CRCs of the retained banks and of a sector's in-block registers.
-/
namespace Sys2Proof.Machine

/-- The numbers of a list as 64-bit words, in little-endian bytes. -/
def wordBytes (l : List DWord) : List Byte := l.flatMap (fun w => leBytes 8 w.toNat)

/-- What the save list of logical engine `e` names: its checkpoint set and its mailboxes (R430). -/
def LEng.saveWords (c : LEng) : List DWord :=
  let k := c.core
  let flags : Nat := 8 * k.flagN.toNat + 4 * k.flagZ.toNat + 2 * k.flagC.toNat + k.flagV.toNat
  (List.range 32).map (tabGet (fun _ => 0) k.g) ++
    [k.trig.setWidth 64, k.cyct, k.cycno, k.st, BitVec.ofNat 64 flags, k.fpcsr.setWidth 64, k.lr, BitVec.ofNat 64 k.lost, k.tflags.setWidth 64] ++
    (List.range 16).map (tabGet (fun _ => 0) c.mbox) ++ k.units.map (fun p => p.2)

/-- The first register of the control block of domain `d`, where its state registers begin. -/
def domBlock (d : Nat) : Nat :=
  if d < 122 then Reg.CLK_ADPLL_CTL (d - 114)
  else if d < 124 then Reg.NET_PORT_CTL (d - 122)
  else if d < 132 then Reg.NET_SL_CTL (d - 124)
  else if d = 132 then Reg.KEY_CTL
  else if d = 133 then Reg.NVC_CTL
  else 0x00C01000

/-- The save area of domain `d` (R430, R443): a sector's flip-flops and macrocell registers in 3,072 bytes; an engine's save list in 1,024;
64 state registers of any other domain in 256. The order within an area is the model's (log entry 183). -/
def State.saveArea (s : State) (d : Nat) : List Byte :=
  if d < 48 then leBytes 3072 (((s.sector d).ffs.filter (fun f => decide (f < 24576))).map (fun f => 2 ^ f)).sum
  else if d < 116 then
    match s.logicalOf (d - 48) with
    | some e => (wordBytes (s.leng e).saveWords ++ List.replicate 1024 0).take 1024
    | none => List.replicate 1024 0
  else (List.range 64).flatMap (fun i => leBytes 4 (s.getR (domBlock d + 4 * i)).toNat)

/-- The content of retained bank `k` of domain `d` (R426): a physical block RAM; 8 KiB of an engine's memories; 16 KiB of a transmit
queue. -/
def State.bankBytes (s : State) (d k : Nat) : List Byte :=
  if d < 48 then
    match s.memRole 1 d k with
    | some r => (List.range 512).flatMap (fun w => leBytes 9 (tabGet (fun _ => 0) (s.sector d).bram (512 * r + w)))
    | none => []
  else if d < 116 then
    match s.logicalOf (d - 48) with
    | none => []
    | some e =>
      let frames := fun (p : List (Nat × List Byte)) (b : Nat) =>
        (List.range 16).flatMap (fun i => frameBytes p (engFrame e (b + 16 * (k % 4) + i)) 0 512)
      if k < 8 then ramBytes (s.leng e).dram (8192 * k) 8192
      else if k < 12 then frames s.cfg.active 0
      else if k < 16 then frames s.cfg.staged 0
      else if k < 20 then frames s.cfg.active 0x40
      else frames s.cfg.staged 0x40
  else ((tabGet (fun _ => []) (s.netPort (d - 122)).queues k).flatMap id).take 16384

/-- The in-block registers of sector `d` (R430): the multipliers' inputs, P and OVF, and the block RAMs' output registers. -/
def State.blockBytes (s : State) (d : Nat) : List Byte :=
  let x := s.sector d
  if d < 48 then
    wordBytes (x.mulIn.map (fun p => p.2) ++ x.mulP.map (fun p => p.2) ++ x.mulOvf.map (BitVec.ofNat 64)) ++
      x.bramOut.flatMap (fun p => leBytes 9 p.2)
  else []

/-- Domain `d` as an entry to RET leaves its keep store (R430): one more entry counted, the save area with its CRC, the canaries in the
banks and in the keep store, and the CRCs of the banks and of the in-block registers. -/
def State.keepDomain (s : State) (d : Nat) : Domain :=
  let x := s.domX d
  let n := x.entries + 1
  let words := (List.range (domBanks d)).map (fun k => canary d k n)
  let area := s.saveArea d
  { x with entries := n, canaries := words, checks := words, save := area, saveCrc := crc32 area,
           bankCrc := (List.range (domBanks d)).map (fun k => crc32 (s.bankBytes d k)),
           blockCrc := if d < 48 then crc32 (s.blockBytes d) else 0 }

/-- The first failing bank of the checks that the keep store itself decides at a wake (R437, R447): a bank whose check word is not its
canary, 255 where the save area does not match its CRC; none where every check passes. -/
def Domain.badBank (x : Domain) : Option Nat :=
  match (List.range x.canaries.length).find? (fun k => x.canaries.getD k 0 != x.checks.getD k 0) with
  | some k => some k
  | none => if x.save.isEmpty || crc32 x.save == x.saveCrc then none else some 255

end Sys2Proof.Machine
end

