-- ==== Sys2Proof/Machine/PowerRows.lean ====
section
/-!
DEFINITION. Sys2Proof/Machine/PowerRows.lean: the rows of the power domains (17_power_domains.md): requests, the idle timers, the end of
an entry, of a wake and of the cold path.
-/
namespace Sys2Proof.Machine

/-! ### What an entry and a loss of a domain do to its unit -/

/-- The link of port `p` is lost (R363, R377): asCapable goes with it, and where it is the source port, holdover begins
(R25, R357). -/
def State.linkLost (s : State) (p : Nat) : State :=
  let a := Reg.NET_PORT_STAT p
  let bits := 2 * (s.getB a 3).toNat + 8 * (s.getB a 4).toNat
  let src := s.tbMode == 1 && s.net.srcPort == some p
  let s := ((s.setF a 4 3 0).setNetPort p { s.netPort p with announce := none, syncAt := none }).raise (144 + p) bits
  if src then s.enterHoldover.updateSource else s.updateSource

/-- A trunk port leaves service for STATE `st` (R363, R365): its queued frames are discarded and counted. In DOWN and OFF it
has no link. -/
def State.portLeaves (s : State) (p st : Nat) : State :=
  let x := s.netPort p
  let n := (x.queues.map (fun q => q.2.length)).sum
  let s := s.setNetPort p { x with queues := [], joins := 0, pdelayOut := false, pdelayLost := 0 }
  let s := s.addF (Reg.NET_PORT_TXQ_DROP p) 31 0 n
  let s := (s.setF (Reg.NET_PORT_STAT p) 2 0 st).setB Reg.NET_STAT p false
  if st = 5 then s else s.linkLost p

/-- The locks of a requester that is masked because domain `d` is in RET, OFF or reset end at once (R418, R421). -/
def State.endMaskedLocks (s : State) (d : Nat) : State :=
  let mine := fun (l : ArbLock) =>
    if l.q < 64 then (s.physOf l.q).map domEngine == some d
    else decide (64 ≤ l.q ∧ l.q < 80) && domSector l.sector == d
  [0, 1, 2, 3, 4].foldl (fun s r =>
    let a := s.arbiter r
    if a.locks.any mine then (s.setArb r { a with locks := a.locks.filter (fun l => !mine l) }).raise 233 (2 ^ (8 + r)) else s) s

/-- Entry of domain `d` to RET (`st` 3) or OFF (`st` 4) starts (R430). -/
def State.enter (s : State) (d st : Nat) : State :=
  let s := s.startEntry d st
  if d = 122 ∨ d = 123 then s.portLeaves (d - 122) (if st = 3 then 5 else 0)
  else if 116 ≤ d ∧ d < 122 then s.pllOff (d - 114)
  else s

/-- A user ADPLL may leave ON only while no output is enabled and no global tree selects it (R432). -/
def State.pllInUse (s : State) (d : Nat) : Bool :=
  decide (116 ≤ d ∧ d < 122) && (List.range 6).any (fun m => s.outEn (d - 114) m || s.feedsTree (d - 114) m)

/-- Block RAM contents of sector `i` from the buffers of the active plane, but for the roles that `keep` selects (R237):
nine bytes of the buffer per word. -/
def State.loadBuffers (s : State) (i : Nat) (keep : Nat → Bool) : State :=
  let x := s.sector i
  let kept := x.bram.filter (fun p => keep (p.1 / 512))
  let roles := ((tabRange s.cfg.active (frameAddr 1 i 0) 288).map (fun f => fIndex f.1 / 9)).eraseDups
  let word := fun k w => leNat ((List.range 9).map (fun j =>
    let b := 9 * w + j
    frameByte s.cfg.active (frameAddr 1 i (9 * k + b / 512)) (b % 512)))
  let bram := (roles.filter (fun k => !keep k)).foldl (fun m k =>
    (List.range 512).foldl (fun m w => tabPut (fun _ => 0) m (512 * k + w) (word k w)) m) kept
  s.setSector i { x with bram := bram }

/-- The staged plane of a unit is reloaded where it is READY or PREVIOUS, and lost otherwise (R428, R438): the frames that `mine`
selects. -/
def State.coldStaged (s : State) (mine : Nat → Bool) : State :=
  if s.stgState = 2 ∨ s.stgState = 4 then s
  else { s with cfg := { s.cfg with staged := s.cfg.staged.filter (fun f => !mine f.1) } }

/-- The cold path of a sector (R438): flip-flops and registers are 0, block RAM roles take their buffers, and the segments
follow the reloaded frames. -/
def State.coldSector (s : State) (i : Nat) : State :=
  let s := s.coldStaged (fun a => (fClass a == 0 || fClass a == 1 || fClass a == 4) && fSector a == i)
  let x := s.sector i
  let s := s.setSector i { move := x.move, nextMove := x.nextMove, sweep := x.sweep, sweepAt := x.sweepAt }
  (s.loadBuffers i (fun _ => false)).noteDisc i

/-- The cold path of the engine that holds logical engine `e` (R438): registers, CYCNO and LOST included, take their reset
values, data RAM the image's content, mailboxes are empty, and the engine is between cycles. -/
def State.coldEngine (s : State) (n e : Nat) : State :=
  let c := s.leng e
  let s := (s.coldStaged (fun a => fClass a == 2 && fEngine a == e)).setLeng e { c.cleared with
    core := {}, ckpt := {}, failHalt := false, exc := 0, epc := 0, signals := 0, awaits := false, lostNow := 0, pc := 0, latched := none, mbox := [], far := [],
    dram := initRam s.cfg.active e (fun _ => false) [] }
  let s := (s.setR (Reg.ENG_MBOX_STAT n) 0).setF (Reg.ENG_STAT n) 31 16 0
  let s := ((s.setB (Reg.ENG_STAT n) 4 false).setB (Reg.ENG_STAT n) 6 false)
  if s.inCycle n then s.setEngState n 2 else s

/-- The cold path of the key port (R438): its registers take their reset values, and a key that is present is discovered again (R316).
What runs on in the management controller and the parameter store still shows: BUSY, and the bound blocks with their write-back. -/
def State.coldKey (s : State) : State :=
  let shown := s.getR Reg.KEY_STAT &&& 0x1808
  let s := (s.resetRegs Reg.KEY_CTL 0x80).setR Reg.KEY_STAT shown
  let s := if s.key.chip.isSome then s.setF Reg.KEY_STAT 2 0 2 else s
  { s with key := { s.key with discover := s.key.chip.isSome } }

/-- What the cold path restores of domain `d` (R438). -/
def State.coldContent (s : State) (d : Nat) : State :=
  if d < 48 then s.coldSector d
  else if d < 116 then
    match s.logicalOf (d - 48) with
    | some e => s.coldEngine (d - 48) e
    | none => s
  else if d < 122 then (s.resetRegs (Reg.CLK_ADPLL_CTL (d - 114)) 0x100).setPll (d - 114) {}
  else if d < 124 then (s.setNetPort (d - 122) { s.netPort (d - 122) with queues := [] }).setF (Reg.NET_PORT_STAT (d - 122)) 2 0 1
  else if d < 132 then ((s.resetRegs (Reg.NET_SL_CTL (d - 124)) 0x20).setLane (d - 124) {}).setF (Reg.NET_SL_STAT (d - 124)) 2 0 1
  else if d = 132 then
    s.coldKey
  else if d = 133 then (s.resetRegs 0x00400000 0x80).resetRegs 0x00400200 0x100
  else { s.resetRegs 0x00C01000 0x600 with eng := { s.eng with adcBusy := [], adcRun := [] } }

/-- Completions that waited for the engine's wake reach its data RAM, and writes that waited at its mailboxes are applied
in their order, and their statuses go back (R112, R418). -/
def State.applyHeld (s : State) (n e : Nat) : State :=
  let l := (s.leng e).heldMail
  let s := s.setLeng e { s.leng e with heldMail := [] }
  l.foldl (fun s h =>
    let r := s.mailCommit n e h.mbox h.value
    match h.from_ with
    | .engine f k => r.1.engStatus f k r.2
    | .fabric i => { r.1 with fab := { r.1.fab with mailSt := r.1.fab.mailSt ++ [(i, r.2)] } }
    | .host c => r.1.finishOpt c csOK []
    | .ring => r.1) (if s.inCycle n then s else s.setLeng e (s.leng e).applyHost)

/-! ### Requests (R432, R436, R440, R445) -/

/-- Status codes of domain 0x07 (R445). -/
def pwrOK : Nat := 0
def pwrQUEUED : Nat := 1
def pwrHELD : Nat := 2
def pwrDEMOTED : Nat := 3
def pwrINUSE : Nat := 4
def pwrBADDOMAIN : Nat := 5

/-- The engine of domain `d` runs a cycle (R430). -/
def State.domInCycle (s : State) (d : Nat) : Bool := decide (48 ≤ d ∧ d < 116) && s.inCycle (d - 48)

/-- A refusal for a hold: HELD, with PWR_REF where the other trunk port is out of service (R365, R446). -/
def State.refuseHeld (s : State) (d : Nat) : State × Nat :=
  let s := if (d = 122 ∨ d = 123) ∧ s.inService (123 - d) = false then
      (s.setB (Reg.NET_PORT_STAT (d - 122)) 8 true).raise (144 + (d - 122)) 128 else s
  (s.raise 211 1, pwrHELD)

/-- The unit of a domain that leaves ON for the cold path (R429, R439): a sector's pins hold, a trunk port and an up lane leave service,
an ADPLL gates its outputs. -/
def State.unitStops (s : State) (d : Nat) : State :=
  let s := s.stopSector d
  if d = 122 ∨ d = 123 then s.portLeaves (d - 122) 1
  else if 116 ≤ d ∧ d < 122 then s.pllOff (d - 114)
  else if 124 ≤ d ∧ d < 132 ∧ (s.lane (d - 124)).up = true then (s.raise (150 + (d - 124)) 2).loseLane (d - 124) 1
  else s

/-- A domain reset starts (R440). -/
def State.startReset (s : State) (d : Nat) : State :=
  let s := ((s.recordWake d 3 s.time true false true).endMaskedLocks d).unitStops d
  s.beginTrans d 6 (if s.hasStaged d then 120000 else (domLatencies d).2.2)

/-- A request for OFF is carried out as RET where a staged plane is READY or PREVIOUS (R265, R432). -/
def State.demoted (s : State) (d : Nat) : Bool := decide (d < 116) && s.hasStaged d

/-- A request for RET or OFF (`st` 1 or 2) of a domain that is in no transition. -/
def State.reqDown (s : State) (d st : Nat) : State × Nat :=
  if s.held d then s.refuseHeld d
  else if s.domState d = 0 ∧ s.pllInUse d = true then (s.raise 211 2, pwrINUSE)
  else
    let dem := st == 2 && s.demoted d
    let st := if dem then 1 else st
    let r := if dem then pwrDEMOTED else pwrOK
    let s := if dem then s.raise 211 4 else s
    if s.domState d = 0 then
      if s.domInCycle d then (s.keepReq d (some st), r) else (s.enter d (st + 2), r)
    else if s.domState d = 1 then (if st = 2 then s.enter d 4 else s, r)
    else if st = 1 then
      let s := s.wake d 3
      (s.setDomX d { s.domX d with thenRet := true }, r)
    else (s, r)

/-- A request for state `st` of domain `d`, by register or command (R432, R433, R436, R440, R521). Answers its status. -/
def State.domReq (s : State) (d st : Nat) : State × Nat :=
  if 3 ≤ s.domState d then
    if st = 3 ∧ d = domNv ∧ s.nvPending = true then s.refuseHeld d
    else if st = 0 ∧ s.domState d < 5 then (s.wake d 3, pwrQUEUED)
    else if (s.domX d).latched.isSome ∧ (st = 1 ∨ st = 2) then (s.supersede d, pwrQUEUED)
    else (s.keepReq d (some st), pwrQUEUED)
  else
    let s := if (s.kept d).isSome then (s.supersede d).keepReq d none else s
    match st with
    | 0 => (s.wake d 3, pwrOK)
    | 3 => if d = domNv ∧ s.nvPending = true then s.refuseHeld d else (s.startReset d, pwrOK)
    | _ => s.reqDown d st

/-- A write of PWR.DOM[d].REQ: its status is shown in STAT.LAST_REQ. -/
def State.writeDomReq (s : State) (d : Nat) (w : Word) : State :=
  let r := s.domReq d (fld w 1 0)
  r.1.setF (Reg.PWR_DOM_STAT d) 22 20 r.2

/-- A request for state `st`: by the register, or by PWR_REQ (R399, R445). -/
def State.powerReq (s : State) (v : ViaN) (st : Nat) : State :=
  match v with
  | .reg d w => if d < 135 ∧ fld w 1 0 = st then s.writeDomReq d w else s
  | .cmd c =>
    match s.turn c 7 0 with
    | none => s
    | some x =>
      let d := beAt x.payload 0 1
      let want := beAt x.payload 1 1
      if 3 < want then s.replyTo x csBADPARAM true []
      else if want ≠ st then s
      else if 134 < d then s.replyTo x (csOf 7 pwrBADDOMAIN) true (beBytes 1 pwrBADDOMAIN)
      else
        let r := s.domReq d st
        r.1.replyTo x (if r.2 = 0 then csOK else csOf 7 r.2) true (beBytes 1 r.2)

/-- DOM_REQ_ON (R433). -/
def execDomReqOn (v : ViaN) (s : State) : Out := .next (s.powerReq v 0)
/-- DOM_REQ_RET (R430, R432). -/
def execDomReqRet (v : ViaN) (s : State) : Out := .next (s.powerReq v 1)
/-- DOM_REQ_OFF (R430, R432). -/
def execDomReqOff (v : ViaN) (s : State) : Out := .next (s.powerReq v 2)
/-- DOMAIN_RESET (R440). -/
def execDomainReset (v : ViaN) (s : State) : Out := .next (s.powerReq v 3)

/-- A kept request is acted on under the rules of a new one (R436). -/
def State.actKept (s : State) (d : Nat) : State :=
  match s.kept d with
  | some st => ((s.keepReq d none).domReq d st).1
  | none => s

/-- The idle time of domain `d` in units (R431). -/
def State.idleTime (s : State) (d : Nat) : Nat := unitsPerUs * min 16000000 (s.getF (Reg.PWR_DOM_CTL d) 23 0)

/-- IDLE_TIMEOUT (R431): a domain idle for its time enters RET or OFF. -/
def execIdleTimeout (d : Fin 135) (s : State) : Out :=
  let t := s.idleTime d
  if s.domState d = 0 ∧ t ≠ 0 ∧ (t : Int) ≤ tdiff s.time (s.domX d).active ∧ s.held d = false ∧ s.domInCycle d = false ∧
      s.pllInUse d = false then
    let off := s.getF (Reg.PWR_DOM_CTL d) 25 24 == 2 && !s.demoted d
    .next (s.enter d (if off then 4 else 3))
  else .next s

/-- WAKE_REQUEST (R433): a wake from any of its sources; that of an engine to be copied to needs no reload and no check (R441). -/
def execWakeRequest (d : Fin 135) (src : Fin 16) (s : State) : Out :=
  if 1 ≤ src.val ∧ src.val ≤ 11 then
    .next (s.wake d src (src.val == 8 && decide (48 ≤ d.val ∧ d.val < 116) && (s.logicalOf (d.val - 48)).isNone))
  else .next s

/-! ### The end of a transition -/

/-- A domain has reached ON: writes held for it are applied, and it is idle from now (R112, R431). -/
def State.domUp (s : State) (d : Nat) : State :=
  let s := ((s.setF (Reg.PWR_DOM_STAT d) 2 0 0).setDomX d { s.domX d with copyWake := false }).touch d
  if 48 ≤ d ∧ d < 116 then
    match s.logicalOf (d - 48) with
    | some e => s.applyHeld (d - 48) e
    | none => s
  else s

/-- What a transition's end does next (R436, R521): the kept request, or the entry to RET of a request for RET from OFF. -/
def State.afterTrans (s : State) (d : Nat) : State :=
  if (s.domX d).thenRet ∧ s.domState d = 0 then
    let s := s.setDomX d { s.domX d with thenRet := false }
    if (s.kept d).isSome then s.actKept d else s.enter d 3
  else s.actKept d

/-- ENTRY_DONE (R428, R430, R435, R436): the domain is in RET or OFF; a latched wake is carried out at once. -/
def execEntryDone (d : Fin 135) (s : State) : Out :=
  let st := s.domState d
  if st ≠ 3 ∧ st ≠ 4 then .next s
  else
    let x := s.domX d
    let kept : Domain := if st = 3 then s.keepDomain d
      else { x with canaries := [], checks := [], save := [], saveCrc := 0, bankCrc := [], blockCrc := 0 }
    let s := (s.setDomX d kept).setF (Reg.PWR_DOM_STAT d) 2 0 (st - 2)
    let s := s.endMaskedLocks d
    let s := if 48 ≤ d.val ∧ d.val < 116 then
        (match s.logicalOf (d - 48) with
         | some e => s.setLeng e { s.leng e with far := [] }
         | none => s)
      else if 124 ≤ d.val ∧ d.val < 132 ∧ st = 4 then ((s.loseLane (d - 124) 0).setLane (d - 124) {}).setF (Reg.NET_SL_STAT (d - 124)) 3 0 0
      else if d.val = 132 ∧ st = 4 then
        let s := (s.setF Reg.KEY_STAT 7 6 0).setF Reg.KEY_STAT 5 4 0
        { s with key := { s.key with discover := s.key.chip.isSome } }
      else s
    match x.latched with
    | some (src, t) =>
      let s := (s.setB (Reg.PWR_DOM_STAT d) 17 false).startWake d src t true x.copyWake
      .next (s.raise 212 1)
    | none => .next (s.actKept d)

/-- A failed check at a wake (R437, R438): the cold path, EV208, PWR_RETLOST, and one fault of a sector or an engine. -/
def State.retentionLost (s : State) (d bank : Nat) : State :=
  let s := (s.setB (Reg.PWR_DOM_WAKE d) 30 true).setF (Reg.PWR_DOM_WAKE d) 23 16 bank
  let s := if s.getF Reg.PWR_LAST_WAKE 15 8 = d then s.setB Reg.PWR_LAST_WAKE 30 true else s
  let s := (s.setR Reg.PWR_RETLOST (BitVec.ofNat 32 (2 ^ 31 + d <<< 16 + bank))).setB (Reg.PWR_DOM_STAT d) 18 true
  let s := (s.raise 208 (domKind d)).beginTrans d 6 (if s.hasStaged d then 120000 else (domLatencies d).2.2)
  if d < 48 then s.sectorFault d 0xFFFFFFFF 8
  else if d < 116 then
    let n := d - 48
    let r := s.countFault 0 n (squallCfg (s.getR (Reg.ENG_SQUALL n)))
    if r.2 then
      let s := r.1.lastingFault 0 n 0xFFFFFFFF 8 255 false
      match s.logicalOf n with
      | some e => s.setLeng e { s.leng e with lasting := true }
      | none => s
    else r.1
  else s

/-- A wake from RET ends with every check passed (R437): the registers are restored, and the domain is ON. A port rejoins
(R365), an enabled ADPLL locks (R32). -/
def State.wakeEnds (s : State) (d : Nat) : State :=
  let s := s.domUp d
  let s := if d = 122 ∨ d = 123 then
      s.setF (Reg.NET_PORT_STAT (d - 122)) 2 0 (if s.getB (Reg.NET_PORT_STAT (d - 122)) 3 then 2 else 1)
    else if 116 ≤ d ∧ d < 122 ∧ s.getB (Reg.CLK_ADPLL_CTL (d - 114)) 0 = true then s.startLock (d - 114)
    else s
  s.afterTrans d

/-- WAKE_DONE (R437, R438, R441, R443): the end of a wake, with what the checks find. -/
def execWakeDone (d : Fin 135) (r : Retention) (s : State) : Out :=
  if s.domState d ≠ 5 then .next s
  else if (s.domX d).copyWake then .next ((s.domUp d).afterTrans d)
  else
    match r with
    | .ok =>
      (match (s.domX d).badBank with
       | some k => .next (s.retentionLost d k)
       | none => .next (s.wakeEnds d))
    | .bank k => if k.val < domBanks d then .next (s.retentionLost d k) else .next s
    | .inBlock => if d.val < 48 then .next (s.retentionLost d 254) else .next s
    | .saveArea => .next (s.retentionLost d 255)
    | .keepStore true => .next ((s.raise 213 1).wakeEnds d)
    | .keepStore false => .next ((s.raise 213 2).retentionLost d 255)

/-- COLD_RESTORE_DONE (R438, R446): the cold path of the domain ends. -/
def execColdRestoreDone (d : Fin 135) (s : State) : Out :=
  if s.domState d ≠ 6 then .next s
  else
    let s := (s.coldContent d).raise 209 (domKind d)
    let s := s.domUp d
    let s := if 48 ≤ d.val ∧ d.val < 116 then
        (match s.logicalOf (d - 48) with
         | some e =>
           if (s.leng e).lasting then (s.setLeng e { s.leng e with lasting := false }).retireLasting (d - 48) e else s
         | none => s)
      else s
    .next (s.afterTrans d)

end Sys2Proof.Machine
end

