-- ==== Sys2Proof/Machine/Reset.lean ====
section
/-!
DEFINITION. Sys2Proof/Machine/Reset.lean: resets and the beginning of a start-up (11_startup_and_reset.md): what each kind keeps, the origin
t0, RESET_N, the supply and the last-gasp record.
-/
namespace Sys2Proof.Machine

/-! ### What a reset keeps (R305) -/

/-- Registers that no reset changes: they show the NV die's content (slots, start-up record, MAC, sector states of the
user array, SCAN_SEEN), or what is measured at the pins. -/
def keptAlways (a : Nat) : Bool :=
  a == Reg.DEV_STARTUP || a == Reg.NET_MAC || a == Reg.NET_MAC + 4 || a == Reg.TST_SCAN || a == Reg.ANA_IN_STAT ||
    decide (Reg.CFG_SLOT_STAT 0 ≤ a ∧ a < Reg.CFG_SLOT_STAT 0 + 0x80) ||
    decide (Reg.NVC_SST 0 ≤ a ∧ a < Reg.NVC_SST 0 + 0x10000) ||
    decide (Reg.NVC_BANK_STAT 0 ≤ a ∧ a < Reg.NVC_BANK_STAT 0 + 0x20) ||
    decide (Reg.ANA_PORT_VIN 0 ≤ a ∧ a < Reg.ANA_RAIL 0 + 0x10) ||
    decide (Reg.ANA_TEMP 0 ≤ a ∧ a < Reg.ANA_TEMP 0 + 0x20)

/-- Registers that a warm reset keeps beside them (R305): the time base's, DEV_RESET_STAT, the last-wake records. -/
def keptWarm (a : Nat) : Bool :=
  a == Reg.DEV_RESET_STAT || decide (Reg.CLK_TB_CTL ≤ a ∧ a < Reg.CLK_TB_CTL + 0x80) ||
    decide (Reg.CLK_ADPLL_CTL 0 ≤ a ∧ a < Reg.CLK_ADPLL_CTL 0 + 0x200) ||
    decide (Reg.PWR_LAST_WAKE ≤ a ∧ a < Reg.PWR_LAST_WAKE + 12) ||
    (decide (Reg.PWR_DOM_CTL 0 ≤ a ∧ a < Reg.PWR_DOM_CTL 0 + 0x20 * 135) && decide (0xC ≤ a % 0x20 ∧ a % 0x20 < 0x18))

/-- `n` free bytes (R346: the data of an abandoned program). -/
def State.freshBytes (s : State) (n : Nat) : State × List Byte :=
  (List.range (n / 8)).foldl (fun r _ => let f := r.1.fresh; (f.1, r.2 ++ leBytes 8 f.2.toNat)) (s, [])

/-- Bytes stored in the user array from offset `a` on. -/
def nvPut (m : List (Nat × Byte)) : Nat → List Byte → List (Nat × Byte)
  | _, [] => m
  | a, b :: l => nvPut (tabPut (fun _ => 0xFF) m a b) (a + 1) l

/-- The code word of a program that has begun and is abandoned: STARTED without DONE, its data undefined (R346). -/
def State.abandonNv (s : State) : State :=
  let nv := s.nv
  let prog := nv.prog.filter (fun p => !p.waits || decide (0 < p.step))
  let keep : Nv := { cells := nv.cells, marks := nv.marks,
                     lostErase := (nv.erase.map (fun e => 4096 * e.sector)).orElse (fun _ => nv.lostErase),
                     lostProg := (prog.map (fun p => p.addr)).orElse (fun _ => nv.lostProg) }
  match prog with
  | none => { s with nv := keep }
  | some p =>
    let r := s.freshBytes 32
    { r.1 with nv := { keep with cells := nvPut keep.cells p.addr r.2, marks := tabPut (fun _ => 0) keep.marks (p.addr / 32) 1 } }

/-- The frames in the ports' queues go out, before the reset that follows a reply (class 0x0F). -/
def State.flushPorts (s : State) : State :=
  { s with net := { s.net with ports := s.net.ports.map (fun p =>
      (p.1, { p.2 with sent := p.2.sent ++ (p.2.queues.flatMap (fun q => q.2)).map wireFrame, queues := [] })) } }

/-- The device as a reset leaves it, with nothing started (R305). -/
def State.afterReset (s : State) (warm : Bool) : State :=
  let s := s.abandonNv
  let regs := s.regs.filter (fun p => keptAlways p.1 || (warm && keptWarm p.1))
  let t : State := {
    regs := regs, readData := s.readData, freeCtr := s.freeCtr, pending := s.pending,
    time := if warm then s.time else 0, timeRuns := warm && s.timeRuns,
    clk := if warm then { plls := s.clk.plls.filter (fun p => decide (p.1 < 2)), lastFailed := s.clk.lastFailed } else {},
    cfg := { slots := s.cfg.slots, aes := s.cfg.aes, pub := s.cfg.pub, hk := s.cfg.hk,
             requireEnc := s.cfg.requireEnc, minSvn := s.cfg.minSvn },
    key := { chip := s.key.chip },
    nv := s.nv,
    net := { ports := (s.net.ports.map (fun p => (p.1, ({ sent := p.2.sent } : NetPort)))).filter (fun p => p.2 != {}), slSent := s.net.slSent },
    tst := { rlog := s.tst.rlog, rlogSeq := s.tst.rlogSeq },
    dom := if warm then (s.dom.map (fun p => (p.1,
      ({ entries := p.2.entries, canaries := p.2.canaries, checks := p.2.checks, save := p.2.save, saveCrc := p.2.saveCrc,
         bankCrc := p.2.bankCrc, blockCrc := p.2.blockCrc } : Domain)))).filter (fun p => p.2 != {}) else [],
    boot := { supply := s.boot.supply, resetN := s.boot.resetN, gasp := s.boot.gasp, gaspNew := s.boot.gaspNew,
              fwSlot := s.boot.fwSlot, fwMem := s.boot.fwMem, fwBoot := s.boot.fwBoot } }
  let t := (t.setB Reg.TST_SCAN 0 false).setF Reg.ANA_IN_STAT 31 16 0
  if warm then t else t.resetRegs Reg.DEV_RESET_STAT 4

/-! ### The last-gasp area (R310, R311) -/

/-- SEQ of a last-gasp record. -/
def gaspSeq (r : List Byte) : Nat := leNat (sliceB r 4 4)

/-- The record of the highest SEQ, with its slot. -/
def newestGasp : List (Nat × List Byte) → Option (Nat × List Byte)
  | [] => none
  | p :: l =>
    match newestGasp l with
    | some q => if gaspSeq p.2 < gaspSeq q.2 then some q else some p
    | none => some p

/-- The lowest pre-erased slot. -/
def State.freeGasp (s : State) : Option Nat := (List.range 128).find? (fun k => !s.boot.gasp.any (fun p => p.1 == k))

/-- NV_OP and NV_ADDR of a record (R310). -/
def State.gaspNv (s : State) : Nat × Nat :=
  match s.nv.prog, s.nv.erase with
  | some p, some e => if p.waits then (if e.stopped then (4, 4096 * e.sector) else (2, 4096 * e.sector)) else (1, p.addr)
  | some p, none => (if p.waits then 3 else 1, p.addr)
  | none, some e => (if e.stopped then 4 else 2, 4096 * e.sector)
  | none, none => (0, 0)

/-- The last-gasp record (R310). -/
def State.gaspRecord (s : State) : List Byte :=
  let seq := match newestGasp s.boot.gasp with
    | some p => gaspSeq p.2 + 1
    | none => 1
  let nv := s.gaspNv
  let b := leBytes 4 0x47415350 ++ leBytes 4 seq ++ leBytes 8 s.time.toNat ++ leBytes 8 (s.getD Reg.DEV_THAW_TIME).toNat ++
    leBytes 2 (s.getR (Reg.ANA_PORT_VIN 0)).toNat ++ leBytes 2 (s.getR (Reg.ANA_PORT_VIN 1)).toNat ++ leBytes 1 s.boot.warns ++
    leBytes 1 (s.getF Reg.CFG_FRONT_STAT 2 0) ++ leBytes 1 (s.getF Reg.CFG_STG_STAT 2 0) ++ leBytes 1 nv.1 ++ leBytes 4 nv.2 ++
    List.replicate 24 0
  b ++ leBytes 4 (crc32 b).toNat

/-- DEV_GASP shows the newest record (R312). -/
def State.showGasp (s : State) : State :=
  match newestGasp s.boot.gasp with
  | some p => (List.range 16).foldl (fun s w => s.setR (Reg.DEV_GASP w) (BitVec.ofNat 32 (leNat (sliceB p.2 (4 * w) 4)))) s
  | none => s

/-! ### t0 (R294, R295, R245, R346, R456) -/

/-- A slot found WRITING becomes INVALID with TRUNCATED (R245). -/
def State.repairSlots (s : State) : State :=
  [0, 1, 2, 3].foldl (fun s k =>
    let s := (s.setB (Reg.CFG_SLOT_STAT k) 3 false).setB (Reg.CFG_SLOT_STAT k) 4 false
    if s.slotState k = 1 then (s.setF (Reg.CFG_SLOT_STAT k) 31 27 22).setSlotState k 3 else s) s

/-- An abandoned NV operation in NVC_INTR or NVC_INTR_PROG: VALID, KIND 1 program or 2 erase, and its offset (R346). -/
def State.showLost (s : State) (r kind off : Nat) : State :=
  (s.setR r (BitVec.ofNat 32 (2 ^ 31 + kind * 2 ^ 29 + off))).raise 181 2

/-- The abandoned operations that start-up finds (R346). -/
def State.showAbandoned (s : State) : State :=
  let s := match s.nv.lostErase, s.nv.lostProg with
    | some e, some p => (s.showLost Reg.NVC_INTR 2 e).showLost Reg.NVC_INTR_PROG 1 p
    | some e, none => s.showLost Reg.NVC_INTR 2 e
    | none, some p => s.showLost Reg.NVC_INTR 1 p
    | none, none => s
  { s with nv := { s.nv with lostErase := none, lostProg := none } }

/-- MODE, GPTP_PORT and SL_MASTER of the start-up record in CLK_TB_CTL (R295). -/
def State.loadStartup (s : State) : State :=
  let w := s.getR Reg.DEV_STARTUP
  let mode := if bitOf w 4 && fld w 1 0 == 2 then 0 else fld w 1 0
  s.store Reg.CLK_TB_CTL (setFld (w &&& 0x1F) 1 0 mode)

/-- Start-up begins at t0 (R294): SOURCE of the reset; warm or cold. The time base starts (a warm reset finds it running),
links come up from DOWN, and warning is in force (R456). -/
def State.beginStart (s : State) (source : Nat) (warm : Bool) : State :=
  let s := if warm then (s.addF Reg.DEV_RESET_STAT 31 16 1).setF Reg.DEV_RESET_STAT 5 4 2 else s.setF Reg.DEV_RESET_STAT 5 4 1
  let s := s.setF Reg.DEV_RESET_STAT 3 0 source
  let b := s.boot
  let s : State := { s with
    boot := { b with running := true, clear := true, fwSlot := b.fwBoot.headD 0 },
    key := { s.key with discover := s.key.chip.isSome } }
  let s := s.showGasp.repairSlots.showAbandoned
  let s := s.setB Reg.ANA_IN_STAT 16 true
  let s : State := if 3800 ≤ s.getF Reg.ANA_IN_STAT 15 0 then
      { s.setB Reg.ANA_IN_STAT 17 true with ana := { s.ana with clearAt := s.time } } else s
  let s := [0, 1].foldl (fun s p => s.setF (Reg.NET_PORT_STAT p) 2 0 1) s
  let s := (List.range 8).foldl (fun s l => s.setF (Reg.NET_SL_STAT l) 2 0 1) s
  let s := if warm then s.setF Reg.DEV_START_STAT 4 2 (if s.locked 0 || s.locked 1 then 2 else 1)
    else ((s.loadStartup.setF Reg.DEV_START_STAT 4 2 1).startLock 0).startLock 1
  s.updateTree true

/-- A reset of a powered device (R305, R306); under RESET_N it waits for the release. -/
def State.resetNow (s : State) (warm : Bool) (source : Nat) : State :=
  if !s.boot.supply || s.boot.resetN then s else (s.afterReset warm).beginStart source warm

/-! ### Rows -/

/-- POWER_UP (R294): the input, `vin` in 10 mV, rises above 33.0 V. SOURCE is 1 where a new last-gasp record is found
(R311). -/
def execPowerUp (vin : BitVec 16) (s : State) : Out :=
  if s.boot.supply ∨ vin.toNat ≤ 3300 then .next s
  else
    let new := s.boot.gaspNew
    let s := (s.afterReset false).setF Reg.ANA_IN_STAT 15 0 vin.toNat
    let s : State := { s with boot := { s.boot with supply := true, gaspNew := false } }
    let s := s.setB Reg.DEV_RESET_STAT 8 new
    if s.boot.resetN then .next s else .next (s.beginStart (if new then 1 else 0) false)

/-- SUPPLY_BELOW_RESET (R310): the last-gasp record goes to a pre-erased slot, and a cold reset follows without supply. -/
def execSupplyBelowReset (s : State) : Out :=
  if !s.boot.supply then .next s
  else
    let b := s.boot
    let b := match s.freeGasp with
      | some k => { b with gasp := tabInsert b.gasp k s.gaspRecord, gaspNew := true }
      | none => b
    .next (({ s with boot := { b with supply := false } } : State).afterReset false)

/-- RESET_N_ASSERT (R307): a low level of 1 us starts a cold reset, in which the device stays. -/
def execResetNAssert (s : State) : Out :=
  .next (({ s with boot := { s.boot with resetN := true } } : State).afterReset false)

/-- RESET_N_RELEASE (R307): start-up begins. -/
def execResetNRelease (s : State) : Out :=
  if !s.boot.resetN then .next s
  else
    let s : State := { s with boot := { s.boot with resetN := false } }
    .next (if s.boot.supply then s.beginStart 2 false else s)

/-- A write of DEV_RESET_CTL (R306, R312). -/
def State.writeResetCtl (s : State) (w : Word) : State :=
  if fld w 31 16 ≠ 0x5A3C then s
  else match fld w 1 0 with
    | 1 => s.resetNow false 5
    | 2 => s.resetNow true 5
    | _ => s

/-- A reset by register or by the RESET command, whose reply goes out first (R306, R390); kind 1 cold, 2 warm. -/
def State.resetRow (s : State) (v : Via) (kind : Nat) : State :=
  match v with
  | .reg w => if fld w 1 0 = kind then s.writeResetCtl w else s
  | .cmd c =>
    match s.turn c 15 0 with
    | none => s
    | some x =>
      let k := beAt x.payload 0 1
      if k ≠ 1 ∧ k ≠ 2 then s.replyTo x csBADPARAM true []
      else if k ≠ kind then s
      else
        let s := (s.replyTo x csOK true []).flushPorts
        let own := s.cmd.svcQueue
        let t := s.resetNow (kind == 2) 4
        { t with cmd := { t.cmd with svcQueue := own } }

/-- COLD_RESET (R305, R306). -/
def execColdReset (v : Via) (s : State) : Out := .next (s.resetRow v 1)
/-- WARM_RESET (R305, R306). -/
def execWarmReset (v : Via) (s : State) : Out := .next (s.resetRow v 2)
/-- MANAGEMENT_WATCHDOG (R306): a warm reset. -/
def execManagementWatchdog (s : State) : Out := .next (s.resetNow true 3)

/-- GASP_SECTOR_ERASE (R311): from Thaw a sector whose slots are all used, the older records first; in a start-up that
finds no pre-erased slot, the sector that does not hold the newest record. -/
def execGaspSectorErase (s : State) : Out :=
  let g := s.boot.gasp
  let full := fun i => decide (64 ≤ (g.filter (fun p => p.1 / 64 == i)).length)
  let newest := ((newestGasp g).map (fun p => p.1 / 64)).getD 0
  let erase := fun (i : Nat) => ({ s with boot := { s.boot with gasp := g.filter (fun p => p.1 / 64 != i) } } : State)
  if s.thawed then
    if full (1 - newest) then .next (erase (1 - newest)) else if full newest then .next (erase newest) else .next s
  else if s.boot.running ∧ s.freeGasp = none then .next (erase (1 - newest))
  else .next s

end Sys2Proof.Machine
end

