-- ==== Sys2Proof/Machine/NvOps.lean ====
section
/-!
DEFINITION. Sys2Proof/Machine/NvOps.lean: the user NV controller below its rows (13_user_nonvolatile_array.md): reads and their flags,
holds, the start and the end of a program and of an erase.
-/
namespace Sys2Proof.Machine

/-- User NV statuses (R336). -/
def nvPROGTWICE : Nat := 0x43
def nvFAIL : Nat := 0x44
def nvERASEPENDING : Nat := 0x45
def nvINCOMPLETE : Nat := 0x46
def nvUNCORRECTABLE : Nat := 0x47

/-- Hold bits of NVC_STAT (R344). -/
def holdRead : Nat := 9
def holdCmd : Nat := 10
def holdWarn : Nat := 11

/-- STATE of sector `k`: 0 ERASED, 1 IN_USE, 2 ERASE_INCOMPLETE, 3 ERASE_FAIL. -/
def State.nvSector (s : State) (k : Nat) : Nat := s.getF (Reg.NVC_SST k) 31 30

/-- Code word `w` is INCOMPLETE (R346). -/
def State.nvIncomplete (s : State) (w : Nat) : Bool :=
  tabGet (fun _ => 0) s.nv.marks w == 1 || decide (2 ≤ s.nvSector (w / 128))

/-- Code word `w` is not erased (R337). -/
def State.nvUsed (s : State) (w : Nat) : Bool :=
  tabGet (fun _ => 0) s.nv.marks w != 0 || decide (2 ≤ s.nvSector (w / 128))

/-- Stored bytes [a, a + n). -/
def State.nvBytes (s : State) (a n : Nat) : List Byte := (List.range n).map (fun i => tabGet (fun _ => 0xFF) s.nv.cells (a + i))

/-- OP and BANK of NVC_STAT. -/
def State.nvShow (s : State) : State :=
  let warn := s.getB Reg.NVC_STAT holdWarn
  let r : Nat × Nat := match s.nv.prog, s.nv.erase with
    | some p, some e =>
      if !p.waits && !warn then (1, p.addr / 2 ^ 23) else if !e.stopped then (2, e.sector / 2048) else (4, p.addr / 2 ^ 23)
    | some p, none => (if p.waits || warn then 4 else 1, p.addr / 2 ^ 23)
    | none, some e => (if e.stopped then 3 else 2, e.sector / 2048)
    | none, none => (0, 0)
  (s.setF Reg.NVC_STAT 2 0 r.1).setF Reg.NVC_STAT 6 4 r.2

/-- One fault of a bank in its squall window (R347): at the threshold its sector is marked RETIRE_PEND. -/
def State.nvFault (s : State) (k cause : Nat) : State :=
  let r := s.countFault 8 (k / 2048) (squallCfg (s.getR Reg.NVC_SQUALL))
  if !r.2 then r.1
  else
    let s := r.1.lastingFault 8 (k / 2048) (BitVec.ofNat 32 (4096 * k)) cause 255 false
    let s := if s.getB (Reg.NVC_SST k) 28 then s else s.addF (Reg.NVC_BANK_STAT (k / 2048)) 7 0 1
    (s.setB (Reg.NVC_SST k) 28 true).raise 184 2

/-- NVC_RDFLAG shows a flagged word. -/
def State.nvFlag (s : State) (w flag : Nat) : State := s.setR Reg.NVC_RDFLAG (BitVec.ofNat 32 (2 ^ 31 + flag * 2 ^ 28 + 32 * w))

/-- The read of one code word (R334, R346, R339): its status, and whether it was corrected. -/
def State.nvReadWord (s : State) (w : Nat) (ecc : Ecc) : State × Nat × Bool :=
  let inc := s.nvIncomplete w
  let s := if inc then (s.nvFlag w 1).raise 181 1 else s
  match ecc with
  | .clean => (s, if inc then nvINCOMPLETE else 0, false)
  | .corrected => ((s.addF Reg.NVC_CE_CNT 15 0 1).raise 178 1, if inc then nvINCOMPLETE else 0, true)
  | .uncorrectable =>
    ((((s.addF Reg.NVC_UE_CNT 15 0 1).raise 178 2).nvFlag w 2).nvFault (w / 128) 4, nvUNCORRECTABLE, false)

/-- The code words of a read, first first (R339): the state, status and index of the first flagged word, and whether one
was corrected. `eccs`: what ECC finds in each; none beyond the list. -/
def State.nvReadWords (s : State) (first : Nat) : Nat → Nat → List Ecc → State × Nat × Nat × Bool
  | 0, _, _ => (s, 0, 0, false)
  | n + 1, i, eccs =>
    let r := s.nvReadWord (first + i) (eccs.headD .clean)
    let t := r.1.nvReadWords first n (i + 1) eccs.tail
    if r.2.1 ≠ 0 then (t.1, r.2.1, i, r.2.2 || t.2.2.2) else (t.1, t.2.1, t.2.2.1, r.2.2 || t.2.2.2)

/-- The code words that bytes [a, a + n) touch. -/
def wordsOf (a n : Nat) : Nat := (a + n - 1) / 32 + 1 - a / 32

/-! ### Holds (R341, R344, R345) -/

/-- The erase is pulsing or its verify runs. -/
def State.nvPulsing (s : State) : Bool := s.nv.erase.any (fun e => !e.stopped)

/-- The erase is suspended, for every cause that asks for it. -/
def State.nvSuspend (s : State) (hold bit : Nat) : State :=
  match s.nv.erase with
  | none => s
  | some e =>
    let new := !s.getB Reg.NVC_STAT hold
    let s := if e.stopped then s else s.incR Reg.NVC_SUSP_CNT
    let s : State := { s with nv := { s.nv with erase := some { e with stopped := true, readAsk := e.readAsk && hold != holdRead,
                                                                       cmdAsk := e.cmdAsk && hold != holdCmd } } }
    let s := s.setB Reg.NVC_STAT hold true
    if new then s.raise 182 bit else s

/-- The suspensions that have been asked for take effect at a segment's end. -/
def State.nvAsked (s : State) : State :=
  let s := if s.nv.erase.any (fun e => e.readAsk) then s.nvSuspend holdRead 1 else s
  if s.nv.erase.any (fun e => e.cmdAsk) then s.nvSuspend holdCmd 2 else s

/-- A program's code word begins, once nothing pulses and no hold stops it (R337, R341, R342): a word that is not erased ends
the request with PROG_TWICE. -/
def State.nvBegin (s : State) : State :=
  match s.nv.prog, (s.arbiter 0).busy with
  | some p, some q =>
    if !p.waits || s.nvPulsing || s.getB Reg.NVC_STAT holdWarn then s
    else
      let w := p.addr / 32
      if s.nvUsed w then
        let idx := q.len / 32 - q.beats
        let s : State := { s with nv := { s.nv with prog := none } }
        let s := (s.raise 179 1).raise 176 1
        s.endRequest 0 q nvPROGTWICE (0x8000 + idx * 256 + nvPROGTWICE) []
      else
        let f := s.freshBytes 32
        let s := if f.1.nvSector (w / 128) = 0 then f.1.setF (Reg.NVC_SST (w / 128)) 31 30 1 else f.1
        { s with nv := { s.nv with prog := some { p with waits := false, step := 0 }, cells := nvPut s.nv.cells p.addr f.2,
                                   marks := tabPut (fun _ => 0) s.nv.marks w 1 } }
  | _, _ => s

/-- Pulsing of a suspended erase restarts once every hold has cleared and no program runs beside it (R342, R344). -/
def State.nvResume (s : State) : State :=
  match s.nv.erase with
  | some e =>
    if e.stopped && s.nv.prog.isNone && !s.getB Reg.NVC_STAT holdRead && !s.getB Reg.NVC_STAT holdCmd &&
        !s.getB Reg.NVC_STAT holdWarn then
      { s with nv := { s.nv with erase := some { e with stopped := false } } }
    else s
  | none => s

/-- A hold clears: a program may go on, or the erase resumes, with the cause bit of EV183. -/
def State.nvRelease (s : State) (hold bit : Nat) : State :=
  if !s.getB Reg.NVC_STAT hold then s
  else
    let s := s.setB Reg.NVC_STAT hold false
    let was := s.nvPulsing
    let prog := s.nv.prog.isSome && hold == holdWarn
    let s := s.nvResume
    let s := if (!was && s.nvPulsing) || prog then s.raise 183 bit else s
    s.nvBegin.nvShow

/-- A read of bank `b` at the controller (R333, R341): whether it is served now; else the suspension that it asks for is
noted. -/
def State.nvServe (s : State) (b : Nat) : State × Bool :=
  if !s.domOn domNv then (s.wake domNv 1, false)
  else
    let s := s.touch domNv
    if s.nv.prog.any (fun p => p.addr / 2 ^ 23 == b && !p.waits && !p.readOk) then
      ({ s with nv := { s.nv with prog := s.nv.prog.map (fun p => { p with readAsk := true }) } }, false)
    else match s.nv.erase with
    | none => (s, true)
    | some e =>
      if e.sector / 2048 ≠ b then (s, true)
      else
        let s : State := { s with nv := { s.nv with erase := some { e with lastRead := s.time } } }
        let suspend := s.getB Reg.NVC_CTL 0
        if e.stopped then ((if suspend then s.nvSuspend holdRead 1 else s), true)
        else if suspend then
          if e.seg = 8 then ((s.nvSuspend holdRead 1).nvBegin.nvShow, true)
          else ({ s with nv := { s.nv with erase := some { e with lastRead := s.time, readAsk := true } } }, false)
        else (s, e.seg == 0)

/-- EV200 (R345): what pulses stops after its step or verify; with nothing pulsing WARN_HOLD is set at once. -/
def State.nvWarn (s : State) : State :=
  let pulsing := s.nvPulsing || s.nv.prog.any (fun p => !p.waits)
  let er := s.nv.erase.map (fun e => if e.stopped then e else { e with warnAsk := true })
  let s : State := { s with nv := { s.nv with warnAsk := s.nv.prog.any (fun p => !p.waits), erase := er } }
  if pulsing then s
  else
    let s := if s.nv.erase.isSome then s.raise 182 4 else s
    (s.setB Reg.NVC_STAT holdWarn true).nvShow

/-- The warning's suspension takes effect at the end of a step or of a verify. -/
def State.nvWarnStop (s : State) : State :=
  let s : State := { s with nv := { s.nv with warnAsk := false } }
  let s := match s.nv.erase with
    | some e =>
      let s := if e.stopped then s else s.incR Reg.NVC_SUSP_CNT
      { s with nv := { s.nv with erase := some { e with stopped := true, warnAsk := false } } }
    | none => s
  let s := s.setB Reg.NVC_STAT holdWarn true
  (if s.nv.erase.isSome || s.nv.prog.isSome then s.raise 182 4 else s).nvShow

/-- EV201 (R345): WARN_HOLD clears where RESUME_AUTO is 1; a warning that ended before its stop took effect asks for none. -/
def State.nvClear (s : State) : State :=
  let er := s.nv.erase.map (fun e => { e with warnAsk := false })
  let s : State := { s with nv := { s.nv with warnAsk := false, erase := er } }
  if s.getB Reg.NVC_CTL 1 then s.nvRelease holdWarn 4 else s

/-! ### Programs and erases (R337, R338, R347, R348) -/

/-- An arbiter beat of a program is granted: its code word waits until it may begin. -/
def State.nvProgram (s : State) (q : ArbReq) : State :=
  let i := q.len / 32 - q.beats
  let s : State := { s with nv := { s.nv with prog := some { addr := q.addr + 32 * i, data := sliceB q.data (32 * i) 32, waits := true } } }
  s.nvBegin.nvShow

/-- A code word has ended with status 0 or FAIL: the request goes on or ends, and a suspended erase may resume. -/
def State.nvWordDone (s : State) (q : ArbReq) (st : Nat) : State :=
  let warn := s.nv.warnAsk
  let s : State := { s with nv := { s.nv with prog := none } }
  let idx := q.len / 32 - q.beats
  let s := if st ≠ 0 then (s.raise 176 1).endRequest 0 q st (0x8000 + idx * 256 + st) []
    else if q.beats ≤ 1 then (s.raise 176 1).endRequest 0 q 0 0x8000 []
    else s.nextBeat 0 q []
  if warn then s.nvWarnStop else s.nvResume.nvShow

/-- An erase beat is taken (R335, R342): its sector becomes ERASE_INCOMPLETE, or the request ends with ERASE_PENDING. -/
def State.nvErase (s : State) (q : ArbReq) : State :=
  if s.nv.erase.isSome then
    ((s.raise 179 2).raise 176 2).endRequest 0 q nvERASEPENDING (0x8000 + nvERASEPENDING) []
  else
    let k := q.addr / 4096
    let s := (s.setF (Reg.NVC_SST k) 31 30 2).setR Reg.NVC_SUSP_CNT 0
    let s := s.beatOver 0 q false
    ({ s with nv := { s.nv with erase := some { sector := k, owner := q.owner, since := s.time, lastRead := s.time },
                                ageFrom := s.time, ageEnd := none } } : State).nvShow

/-- The sector of an erase is served by a spare row from now on (R347). -/
def State.nvRemap (s : State) (k : Nat) : State :=
  let b := Reg.NVC_BANK_STAT (k / 2048)
  let s := if s.getB (Reg.NVC_SST k) 28 then s.setF b 7 0 (s.getF b 7 0 - 1) else s
  let s := (s.setF b 22 16 (s.getF b 22 16 - 1)).setF (Reg.NVC_SST k) 29 28 2
  (s.repairLog 8 (k / 2048) (BitVec.ofNat 32 (4096 * k)) 10 255 false).raise 184 1

/-- The erase ends: `ok`, or FAIL with no spare row left; `remap`: a spare row was used. -/
def State.nvErased (s : State) (e : NvErase) (ok remap : Bool) : State :=
  let k := e.sector
  let s := if remap then s.nvRemap k else s
  let s : State := if ok then
      { s with nv := { s.nv with cells := tabClear s.nv.cells (4096 * k) 4096, marks := tabClear s.nv.marks (128 * k) 128 } }
    else s
  let s := if ok then (s.setF (Reg.NVC_SST k) 31 30 0).addF (Reg.NVC_SST k) 26 0 1
    else ((s.setF (Reg.NVC_SST k) 31 30 3).raise 177 6).nvFault k 10
  let s := if ok && s.getF (Reg.NVC_SST k) 26 0 == 100000000 then s.raise 185 1 else s
  let age := min ((tdiff s.time s.nv.ageFrom).toNat / unitsPerUs) (2 ^ 32 - 1)
  let st := if ok then 0 else nvFAIL
  let q : ArbReq := { q := 0, op := 2, addr := 4096 * k, len := 0, beats := 0, first := 0, owner := e.owner }
  let s : State := { s with nv := { s.nv with erase := none, ageEnd := some age } }
  let s := (s.raise 176 2).complete q st (0x8000 + (if remap then 0x2000 else 0) + st) []
  let s := [holdRead, holdCmd].foldl (fun s h => s.setB Reg.NVC_STAT h false) s
  let s := if e.warnAsk then s.nvWarnStop else s
  s.nvBegin.nvShow

end Sys2Proof.Machine
end

