-- ==== Sys2Proof/Machine/Nv.lean ====
section
/-!
DEFINITION. Sys2Proof/Machine/Nv.lean: the rows of the user non-volatile array (13_user_nonvolatile_array.md).
-/
namespace Sys2Proof.Machine

/-! ### The register interface (R335, R344, R352) -/

/-- SUSPEND (R344): an erase that pulses stops at its segment's end, or in its verify at once; whether one is pending. -/
def State.nvCmdSuspend (s : State) : State × Bool :=
  match s.nv.erase with
  | none => (s.setB Reg.NVC_STAT 15 true, false)
  | some e =>
    if e.stopped || e.seg == 8 then ((s.nvSuspend holdCmd 2).nvBegin.nvShow, true)
    else ({ s with nv := { s.nv with erase := some { e with cmdAsk := true } } }, true)

/-- RESUME (R344, R345): the command hold clears, and the warning hold where RESUME_AUTO is 0 and EV201 has come. -/
def State.nvCmdResume (s : State) : State :=
  let s : State := { s with nv := { s.nv with erase := s.nv.erase.map (fun e => { e with cmdAsk := false }) } }
  let s := s.nvRelease holdCmd 2
  if !s.getB Reg.NVC_CTL 1 && !s.getB Reg.ANA_IN_STAT 16 then s.nvRelease holdWarn 2 else s

/-- A request of the register interface: program (1) or erase (2). A refusal is shown in NVC_OP_RES. -/
def State.nvRegRequest (s : State) (op nwords : Nat) : State :=
  let a := s.getF Reg.NVC_OP_ADDR 25 0
  let data := (List.range (8 * nwords)).flatMap (fun n => leBytes 4 (s.getR (Reg.NVC_DATA n)).toNat)
  let r := s.submit op a (if op = 1 then 32 * nwords else 0) (if op = 1 then data else []) 0 .register
  if r.2 = 0 then (r.1.setR Reg.NVC_OP_RES 0).setB Reg.NVC_STAT 3 true
  else r.1.setR Reg.NVC_OP_RES (BitVec.ofNat 32 (0x8000 + r.2))

/-- A write of NVC_OP_CTL: SUSPEND, then RESUME, then OP. -/
def State.writeNvOpCtl (s : State) (w : Word) : State :=
  let s := if bitOf w 8 then s.nvCmdSuspend.1 else s
  let s := if bitOf w 9 then s.nvCmdResume else s
  match fld w 1 0 with
  | 0 => s
  | 3 => s.setB Reg.NVC_STAT 15 true
  | op => if s.getB Reg.NVC_STAT 3 then s.setB Reg.NVC_STAT 15 true else s.nvRegRequest op (fld w 6 4 + 1)

/-- An L command at the user NV arbiter: PENDING, or the refusal. -/
def State.nvHostRequest (s : State) (x : Command) (op addr : Nat) (data : List Byte) : State :=
  let r := s.submit op addr data.length data 0 (.host x.ref)
  if r.2 = 0 then r.1.pendingReply x else r.1.replyTo x (csOf (if r.2 < 0x40 then 5 else 4) r.2) true []

/-- NV_PROGRAM (R335, R337): NVC_OP_CTL with OP 1, or the command. -/
def execNvProgram (v : Via) (s : State) : Out :=
  match v with
  | .reg w => if fld w 1 0 = 1 then .next (s.writeNvOpCtl w) else .next s
  | .cmd c =>
    match s.turn c 5 1 with
    | none => .next s
    | some x => .next (s.nvHostRequest x 1 (beAt x.payload 0 4) (x.payload.drop 4))

/-- NV_ERASE (R335, R338): NVC_OP_CTL with OP 2, or the command. -/
def execNvErase (v : Via) (s : State) : Out :=
  match v with
  | .reg w => if fld w 1 0 = 2 then .next (s.writeNvOpCtl w) else .next s
  | .cmd c =>
    match s.turn c 5 2 with
    | none => .next s
    | some x => .next (s.nvHostRequest x 2 (beAt x.payload 0 4) [])

/-- NV_SUSPEND (R344): NVC_OP_CTL.SUSPEND, or the command, which answers BUSY where it is ignored. -/
def execNvSuspend (v : Via) (s : State) : Out :=
  match v with
  | .reg w => if bitOf w 8 then .next (s.writeNvOpCtl w) else .next s
  | .cmd c =>
    match s.turn c 5 3 with
    | none => .next s
    | some x =>
      let r := s.nvCmdSuspend
      .next (r.1.replyTo x (if r.2 then csOK else csBUSY) true [])

/-- NV_RESUME (R344, R345): NVC_OP_CTL.RESUME, or the command. -/
def execNvResume (v : Via) (s : State) : Out :=
  match v with
  | .reg w => if bitOf w 9 then .next (s.writeNvOpCtl w) else .next s
  | .cmd c =>
    match s.turn c 5 4 with
    | none => .next s
    | some x => .next (s.nvCmdResume.replyTo x csOK true [])

/-- NV_READ (R335, R399): an arbitrated read. -/
def execNvRead (c : CmdRef) (s : State) : Out :=
  match s.turn c 5 0 with
  | none => .next s
  | some x => .next (s.hostRequest x 0 (beAt x.payload 0 4) (beAt x.payload 4 2) [])

/-- NVC_ERASE_AGE (R344): µs since the acceptance of the current or last erase, frozen at completion. -/
def State.eraseAge (s : State) : Nat :=
  match s.nv.ageEnd with
  | some n => n
  | none => min ((tdiff s.time s.nv.ageFrom).toNat / unitsPerUs) (2 ^ 32 - 1)

/-- NV_STAT (R399): NVC_STAT, SUSP_CNT, ERASE_AGE. -/
def execNvStat (c : CmdRef) (s : State) : Out :=
  match s.turn c 5 5 with
  | none => .next s
  | some x => .next (s.replyTo x csOK true (beBytes 4 (s.getR Reg.NVC_STAT).toNat ++
      beBytes 4 (s.getR Reg.NVC_SUSP_CNT).toNat ++ beBytes 4 s.eraseAge))

/-! ### The window (R333, R334, R341, R346) -/

/-- Word `k` of the window read, with what ECC finds; where the bank is under a pulse the reader waits, and the read is
done when it is asked for again. -/
def State.nvWindow (s : State) (k : Nat) (ecc : Ecc) : State × Bool :=
  let r := s.nvServe (k / 2 ^ 21)
  if !r.2 then r
  else
    let f := r.1.nvReadWord (k / 8) ecc
    ({ f.1 with readData := BitVec.ofNat 32 (leNat (s.nvBytes (4 * k) 4)) }, true)

/-- NV_WINDOW_READ (R333). -/
def execNvWindowRead (k : Fin 16777216) (ecc : Ecc) (s : State) : Out := .next (s.nvWindow k ecc).1

/-- NV_WINDOW_WRITE (R333): ignored, with CMD_ERR. -/
def execNvWindowWrite (_k : Fin 16777216) (_w : Word) (s : State) : Out := .next (s.setB Reg.NVC_STAT 15 true)

/-- FAR_LINE_FILL (R116, R346): the line that an engine's far fetch waits for, 64 bytes of the array, into its 4-way set,
counted in FAR_MISS; an uncorrectable or INCOMPLETE word sets FAR_ERR and raises FETCH. -/
def execFarLineFill (n : Fin 68) (ecc ecc2 : Ecc) (s : State) : Out :=
  match s.logicalOf n with
  | none => .next s
  | some e =>
    match (s.leng e).stall with
    | some (.farFill line) =>
      let r := s.nvServe (line / 2 ^ 17)
      if !r.2 || !s.inCycle n then .next r.1
      else
        let f := r.1.nvReadWords (2 * line) 2 0 [ecc, ecc2]
        let c := f.1.leng e
        if f.2.1 ≠ 0 then .next (((f.1.setLeng e { c with stall := none }).raise e 0x800).takeExc n e 2 c.pc)
        else
          let b := s.nvBytes (64 * line) 64
          let words := (List.range 16).map (fun i => (BitVec.ofNat 32 (leNat (sliceB b (4 * i) 4)) : Word))
          let set := c.far.filter (fun l => l.line % 16 == line % 16)
          let out := if 4 ≤ set.length then set.getLast?.map (fun l => l.line) else none
          .next ((f.1.setLeng e { c with stall := none, far := ⟨line, words⟩ :: c.far.filter (fun l => some l.line != out) }).incR
            (Reg.ENG_FAR_MISS n))
    | _ => .next s

/-! ### Pulses (R337, R338, R341, R344, R345) -/

/-- NV_PROGRAM_STEP (R337): one pulse and its verify. -/
def execNvProgramStep (pass : Bool) (s : State) : Out :=
  match s.nv.prog, (s.arbiter 0).busy with
  | some p, some q =>
    if p.waits || s.getB Reg.NVC_STAT holdWarn then .next s
    else
      let w := p.addr / 32
      if pass then
        let s : State := { s with nv := { s.nv with cells := nvPut s.nv.cells p.addr p.data,
                                                    marks := tabPut (fun _ => 0) s.nv.marks w 3 } }
        .next (s.nvWordDone q 0)
      else if max 1 (min 16 (s.getF Reg.NVC_CTL 12 8)) ≤ p.step + 1 then
        .next (((s.raise 177 1).nvFault (w / 128) 10).nvWordDone q nvFAIL)
      else
        let s : State := { s with nv := { s.nv with prog := some { p with step := p.step + 1, readOk := p.readAsk, readAsk := false } } }
        .next (if s.nv.warnAsk then s.nvWarnStop else s)
  | _, _ => .next s

/-- ERASE_SEGMENT_END (R338, R341, R344): 2.5 us of the pulse have run; the suspensions asked for take effect. -/
def execEraseSegmentEnd (s : State) : Out :=
  match s.nv.erase with
  | some e =>
    if e.stopped || decide (8 ≤ e.seg) then .next s
    else .next ({ s with nv := { s.nv with erase := some { e with seg := e.seg + 1 } } } : State).nvAsked.nvBegin.nvShow
  | none => .next s

/-- NV_ERASE_PULSE (R338, R345): the verify that ends a pulse of eight segments. -/
def execNvErasePulse (pass : Bool) (s : State) : Out :=
  match s.nv.erase with
  | some e =>
    if e.stopped || e.seg != 8 then .next s
    else
      let k := e.sector
      let spare := decide (0 < s.getF (Reg.NVC_BANK_STAT (k / 2048)) 22 16)
      let e := { e with pulses := e.pulses + 1, seg := 0 }
      if pass then .next (s.nvErased e true (s.getB (Reg.NVC_SST k) 28 && spare))
      else if 12 ≤ e.pulses then .next (s.nvErased e spare spare)
      else
        let s : State := { s with nv := { s.nv with erase := some e } }
        .next (if e.warnAsk then s.nvWarnStop else s)
  | none => .next s

/-- NV_RESUME_IDLE (R341): RESUME_IDLE µs without a read of the erase's bank end a read suspension. -/
def execNvResumeIdle (s : State) : Out :=
  match s.nv.erase with
  | some e =>
    let t := unitsPerUs * max 1 (s.getF Reg.NVC_CTL 23 16)
    if e.stopped && s.getB Reg.NVC_STAT holdRead && atOrAfter s.time (e.lastRead + units t) then .next (s.nvRelease holdRead 1)
    else .next s
  | none => .next s

end Sys2Proof.Machine
end

