-- ==== Sys2Proof/Machine/Arbiters.lean ====
section
/-!
DEFINITION. Sys2Proof/Machine/Arbiters.lean: the rows of the shared resource arbiter (16_shared_resource_arbiter.md).
-/
namespace Sys2Proof.Machine

/-! ### Who presents what (R412–R418) -/

/-- RANK of requester `q` at arbiter `r` (R412, R425). -/
def State.rankOf (s : State) (r q : Nat) : Nat := s.getF (Reg.ARB_R_RANK r (q / 16)) (2 * (q % 16) + 1) (2 * (q % 16))

/-- The power controller masks a request (R418): the engine that holds it, or its sector, is not ON. -/
def State.reqMasked (s : State) (q : ArbReq) : Bool :=
  if q.q < 64 then !((s.physOf q.q).any (fun n => s.domOn (domEngine n)))
  else decide (q.q < 80) && !s.domOn (domSector q.sector)

/-- A program or erase waits at the arbiter while a warning holds the controller (R345, R456). -/
def State.reqWaits (s : State) (q : ArbReq) : Bool :=
  (q.op == 1 || q.op == 2) && (s.getB Reg.NVC_STAT holdWarn || s.warned)

/-- The sectors of a group, from the one after the last presented on (R413). -/
def groupOrder (g last : Nat) : List Nat := [1, 2, 3].map (fun i => 3 * g + (last + i) % 3)

/-- The request that requester `q` presents, or would if it did not back off (R413, R418). -/
def State.headOf (s : State) (r q : Nat) : Option ArbReq :=
  let a := s.arbiter r
  let mine := a.reqs.filter (fun x => x.q == q)
  if 64 ≤ q ∧ q < 80 then
    let order := match a.locks.find? (fun l => l.q == q) with
      | some l => [l.sector]
      | none => groupOrder (q - 64) (tabGet (fun _ => 2) a.groupRr q)
    let first := order.filterMap (fun i => mine.find? (fun x => x.sector == i))
    first.find? (fun x => !s.reqMasked x && !s.reqWaits x)
  else match mine with
    | x :: _ => if s.reqMasked x || s.reqWaits x then none else some x
    | [] => none

/-- The requesters with a pending request, in rising order. -/
def Arbiter.asking (a : Arbiter) : List Nat := (List.range 83).filter (fun q => a.reqs.any (fun x => x.q == q))

/-- Requester `q` backs off (R416). -/
def Arbiter.backsOff (a : Arbiter) (q : Nat) : Bool := a.backoff.any (fun b => b.1 == q && b.2.2 != 0)

/-- The next of a list of requesters after `last`, in turn. -/
def nextAfter (l : List Nat) (last : Nat) : Option Nat := (l.find? (fun q => decide (last < q))).orElse (fun _ => l.head?)

/-- The choice by rank among presenting requesters, in turn among equals (R414). -/
def State.byRank (s : State) (r : Nat) (l : List Nat) : Option Nat :=
  let top := (l.map (s.rankOf r)).foldl max 0
  nextAfter (l.filter (fun q => s.rankOf r q == top)) (tabGet (fun _ => 82) (s.arbiter r).rr top)

/-- The longest waiter among requesters (R415): the earliest presented beat, the lower number among equals. -/
def longest (f : Nat → Nat) : List Nat → Option Nat
  | [] => none
  | q :: l =>
    match longest f l with
    | some p => if f p < f q then some p else some q
    | none => some q

/-- The losers of a decision back off (R416). -/
def Arbiter.lose (a : Arbiter) (now : Nat) (losers : List Nat) : Arbiter :=
  losers.foldl (fun a q =>
    let len := match a.backoff.find? (fun b => b.1 == q) with
      | some b => min 1024 (2 * b.2.1)
      | none => 8
    { a with backoff := a.backoff.filter (fun b => b.1 != q) ++ [(q, len, now + len)] }) a

/-- Beat of `q` granted to arbiter `r` (R411, R414, R419): the resource begins it. -/
def State.grant (s : State) (r : Nat) (x : ArbReq) : State :=
  let now := s.arbNow r
  let a := s.arbiter r
  let mine := fun (l : ArbLock) => l.q == x.q && l.sector == x.sector
  let a := { a with
    reqs := a.reqs.erase x, busy := some x, last := x.q, cycle := now + 1,
    rr := tabPut (fun _ => 82) a.rr (s.rankOf r x.q) x.q,
    backoff := a.backoff.filter (fun b => b.1 != x.q),
    groupRr := if 64 ≤ x.q ∧ x.q < 80 then tabPut (fun _ => 2) a.groupRr x.q (x.sector % 3) else a.groupRr,
    locks := if x.lock = 0 then a.locks else a.locks.map (fun l => if mine l then { l with inForce := true } else l) }
  let s := (s.setArb r a).incR (Reg.ARB_R_GRANTS r)
  let s := s.setR (Reg.ARB_R_WAIT_MAX r) (BitVec.ofNat 32 (max (s.getR (Reg.ARB_R_WAIT_MAX r)).toNat (min (now - x.first) (2 ^ 32 - 1))))
  if r = 0 ∧ x.op = 1 then s.nvProgram x else s

/-- A resource can take a beat: it is idle, no stream holds or asks for it, its domain is ON, its arbiter is not under
test. -/
def State.canGrant (s : State) (r : Nat) : Bool :=
  let a := s.arbiter r
  a.busy.isNone && a.stream.isNone && (if r = 0 then s.domOn domNv else if r = 1 then s.domOn domKey else true) &&
    !s.underTest 5 r

/-- The owner of the grant of a mode 1–3 that is in force, and still presents (R423). -/
def State.modeHolder (s : State) (r : Nat) : Option Nat := (s.arbiter r).modeOwner.filter (fun q => (s.headOf r q).isSome)

/-- The decision with no lock in force (R414–R416, R423). -/
def State.decide_ (s : State) (r : Nat) : State :=
  let a := s.arbiter r
  let heads := a.asking.filter (fun q => (s.headOf r q).isSome)
  let present := heads.filter (fun q => !a.backsOff q)
  let firstOf := fun q => ((s.headOf r q).map (fun x => x.first)).getD 0
  let give := fun (s : State) (q : Nat) (f : Arbiter → Arbiter) =>
    match s.headOf r q with
    | some x => (s.setArb r (f ((s.arbiter r).lose (s.arbNow r) (present.filter (fun p => p != q))))).grant r x
    | none => s
  match s.modeHolder r with
  | some q =>
    (match s.headOf r q with
     | some x => s.grant r x
     | none => s)
  | none =>
    let rank := s.byRank r present
    if a.mode ≠ 0 then
      match rank with
      | some q => give s q (fun a => { a with modeOwner := some q })
      | none => s.setArb r { a with modeOwner := none }
    else
      let nth := decide (s.nth r ≤ a.count + 1)
      match (if nth then longest firstOf heads else rank) with
      | none => s.setArb r { a with modeOwner := none }
      | some q =>
        let s := if nth && some q != rank then s.incR (Reg.ARB_R_LONG_GRANTS r) else s
        give s q (fun a => { a with modeOwner := none, count := if nth then 0 else a.count + 1 })

/-- GRANT_DECISION (R414): one arbiter cycle in which the resource of arbiter `r` can take a beat. A request for a
resource whose arbiter is under test aborts the slice (R473). -/
def execGrantDecision (r : Fin 5) (s : State) : Out :=
  let a := s.arbiter r
  if s.underTest 5 r && !a.reqs.isEmpty then .next (s.abortIdle 5 r)
  else if !s.canGrant r then .next s
  else
    let t := match a.locks.find? (fun l => l.inForce) with
      | some l =>
        (match s.headOf r l.q with
         | some x => if x.sector = l.sector then (s.setArb r { a with count := a.count + 1 }).grant r x else s
         | none => s)
      | none => s.decide_ r
    let b := t.arbiter r
    .next (t.setArb r { b with cycle := max b.cycle (s.arbNow r + 1) })

/-- BACKOFF_EXPIRY (R416): requester `q` presents again. -/
def execBackoffExpiry (r : Fin 5) (q : Fin 83) (s : State) : Out :=
  let a := s.arbiter r
  .next (s.setArb r { a with backoff := a.backoff.map (fun b =>
    if b.1 = q.val ∧ b.2.2 ≤ s.arbNow r then (b.1, b.2.1, 0) else b) })

/-! ### Beats (R411) -/

/-- The range of the present block of a parameter access (R411): first byte and end. -/
def ArbReq.block (q : ArbReq) : Nat × Nat :=
  let i := opBeats q.op q.addr q.len - q.beats
  let b := q.addr / 256 + i
  (max q.addr (256 * b), min (q.addr + q.len) (256 * (b + 1)))

/-- A beat that has read `d`: the request ends with its data, or goes on. -/
def State.readBeat (s : State) (r : Nat) (q : ArbReq) (d : List Byte) : State :=
  if q.beats ≤ 1 then s.endRequest r q 0 0x8000 (q.got ++ d) else s.nextBeat r q (q.got ++ d)

/-- A read beat of the user NV (R334, R339). -/
def State.nvReadBeat (s : State) (q : ArbReq) (eccs : List Ecc) : State :=
  let v := s.nvServe (q.addr / 2 ^ 23)
  if !v.2 then v.1
  else
    let f := v.1.nvReadWords (q.addr / 32) (wordsOf q.addr q.len) 0 eccs
    let word := 0x8000 + (if f.2.2.2 then 0x4000 else 0) + (if f.2.1 = 0 then 0 else f.2.2.1 * 256) + f.2.1
    f.1.endRequest 0 q f.2.1 word (s.nvBytes q.addr q.len)

/-- A frame beat of the trunk transmit resource (R361, R362). -/
def State.frameBeat (s : State) (q : ArbReq) : State :=
  let port := nbits q.addr 9 8
  let named := match port with
    | 0 => [0, 1]
    | 1 => [0]
    | 2 => [1]
    | _ => []
  let r := s.transmit named (port == 0) (fun _ => q.addr % 8) q.data
  r.1.endRequest 4 q r.2 (0x8000 + r.2) []

/-- BEAT_COMPLETE (R411): the beat in progress at arbiter `r` completes; `eccs`: what ECC finds in the code words of a
user NV read. A program's beat ends with its steps (NV_PROGRAM_STEP). -/
def execBeatComplete (r : Fin 5) (ecc : List Ecc) (s : State) : Out :=
  match (s.arbiter r).busy with
  | none => .next s
  | some q =>
    match q.op with
    | 0 => .next (s.nvReadBeat q ecc)
    | 1 => .next s
    | 2 => .next (s.nvErase q)
    | 3 => .next (s.readBeat 3 q (s.prmRead q.block.1 (q.block.2 - q.block.1)))
    | 4 =>
      let s := s.prmWrite q.block.1 (sliceB q.data (q.block.1 - q.addr) (q.block.2 - q.block.1))
      .next (if q.beats ≤ 1 then s.endRequest 3 q 0 0x8000 [] else s.nextBeat 3 q [])
    | 5 => .next (s.frameBeat q)
    | _ =>
      if s.key.chip.isNone then
        (match q.owner with
         | .host c => .next ((s.beatOver 1 q false).finish c (csOf 6 ksNOKEY) [])
         | _ => .next (s.beatOver 1 q false))
      else if !s.keyLive then .next s
      else .next (s.readBeat 1 q (s.keyRead (q.addr + q.got.length) (min 256 (q.len - q.got.length))))

/-- LOCK_GAP_EXPIRY (R421): the owner of a lock in force has presented no beat for LOCK_GAP; not in modes 1–3 (R423). -/
def execLockGapExpiry (r : Fin 5) (s : State) : Out :=
  let a := s.arbiter r
  match a.locks.find? (fun l => l.inForce) with
  | some l =>
    if a.mode = 0 ∧ a.busy.isNone = true ∧ a.reqs.any (fun x => x.q == l.q && x.sector == l.sector) = false ∧
        l.last + s.lockGap r ≤ s.arbNow r then
      .next ((s.setArb r { a with locks := a.locks.erase l }).raise 233 (2 ^ r.val))
    else .next s
  | none => .next s

/-- LONG_WAIT (R424): requests that have waited longer than WAIT_WARN. -/
def execLongWait (r : Fin 5) (s : State) : Out :=
  let a := s.arbiter r
  let lim := s.getF (Reg.ARB_R_WAIT_WARN r) 23 0
  let late := fun (x : ArbReq) => lim != 0 && !x.warned && decide (lim < s.arbNow r - x.first)
  if a.reqs.any late then
    .next ((s.setArb r { a with reqs := a.reqs.map (fun x => if late x then { x with warned := true } else x) }).raise 235 (2 ^ r.val))
  else .next s

/-- A write of ARB.R[r].CTL by a source other than the management controller (R423): it cannot change MODE. -/
def State.writeArbCtl (s : State) (r : Nat) (w : Word) : State :=
  let a := Reg.ARB_R_CTL r
  let mode := s.getF a 31 30
  let s := if fld w 31 30 = mode then s else s.setB Reg.ARB_ERR 23 true
  s.store a (setFld w 31 30 mode)

/-- ARB_MODE_WRITE (R423): such a write. -/
def execArbModeWrite (r : Fin 5) (w : Word) (s : State) : Out := .next (s.writeArbCtl r w)

end Sys2Proof.Machine
end

