-- ==== Sys2Proof/Machine/AxisRows.lean ====
section
/-!
DEFINITION. Sys2Proof/Machine/AxisRows.lean: what happens at the pins of the axes and at the analog converters (R172–R185):
PWM writes and edges, the encoder, delta-sigma samples, conversions and their results.
-/
namespace Sys2Proof.Machine

/-- The state with the axis I/O block of logical engine `e` holding `x`. -/
def State.setAxis (s : State) (e : Nat) (x : AxisIo) : State := s.setLeng e { s.leng e with axis := x }

/-- Logical engine `e` is in HALT. -/
def State.halted (s : State) (e : Nat) : Bool :=
  match s.physOf e with
  | some n => s.engState n == 5
  | none => false

/-! ### PWM (R172–R174) -/

/-- What applies at instant `t` has applied (R173); fault levels end with it, unless the engine is in HALT (R174). -/
def AxisIo.applied (x : AxisIo) (t : DWord) (halted : Bool) : AxisIo :=
  let l := x.regsAt t
  let here := fun r => atOrAfter t (x.applyInstant r)
  { x with
    pwmA := l
    pwmPrev := x.pwmA
    pwmFrom := some t
    pwmPend := x.pwmPend.filter (fun w => !w.rel.any here)
    applyAt := if x.applyAt.any here then none else x.applyAt
    started := true
    fault := x.fault && halted
    carrierFrom := if newCarrier l x.pwmA then some (pwmStart l t) else x.carrierFrom }

/-- PWM_WRITE_APPLY (R173): the period start has come at which the released writes, or an APPLY, take effect. -/
def execPwmWriteApply (e : Fin 64) (s : State) : Out :=
  let x := (s.leng e).axis
  match x.nextApply with
  | some t => if s.reached t then .next (s.setAxis e (x.applied t (s.halted e))) else .next s
  | none => .next s

/-- The first instant, at 4-unit steps of the tick that begins 64 ns from now, at which output `k` takes a level that it
has not been given; bits [1:0] of an edge's instant are ignored (R58). -/
def State.nextEdge (s : State) (e k : Nat) : Option (DWord × Nat) :=
  let x := (s.leng e).axis
  let cur := tabGet (fun _ => 3) x.pwmOut k
  ((List.range 40).filterMap (fun j =>
    let t := s.time + units (4096 + 4 * j)
    match x.levelAt (s.halted e) k (t + 3) with
    | some v => if v = cur then none else some (t, v)
    | none => none)).head?

/-- PWM_EDGE (R174): an edge of output `k` is delivered to the launch cell of its pin, 64 ns before it is due. -/
def execPwmEdge (e : Fin 64) (k : Fin 6) (s : State) : Out :=
  match s.nextEdge e k with
  | none => .next s
  | some (t, v) =>
    let s1 := (pinsOf s.cfg.active e k).foldl (fun s p =>
      let c := s.cell p
      s.setCell p { c with queue := launchInsert c.queue ⟨if v = 2 then 3 else v, t, 0, none⟩ }) s
    let x := (s1.leng e).axis
    .next (s1.setAxis e { x with pwmOut := tabPut (fun _ => 3) x.pwmOut k v })

/-! ### Encoder (R175–R178) -/

/-- Place of the two levels in the quadrature sequence, A leading. -/
def quadPlace (a b : Bool) : Nat := if a then (if b then 2 else 1) else (if b then 3 else 0)

/-- The block after the count changed by `d` at `now`. -/
def AxisIo.countBy (x : AxisIo) (d : Int) (now : DWord) : AxisIo :=
  let d := if (x.reg 0).getLsbD 7 then -d else d
  { x with count := x.count + dw d, changed := now }

/-- The level accepted from the samples of the last ticks, bit i of `h` being that of i ticks ago: one that has been stable for FILT + 1 ticks,
else the level accepted before (R175). -/
def AxisIo.accepted (x : AxisIo) (h : BitVec 16) (old : Bool) : Bool :=
  let n := h.toNat % 2 ^ (x.fieldOf 0 5 2 + 1)
  if n = 0 then false else if n + 1 = 2 ^ (x.fieldOf 0 5 2 + 1) then true else old

/-- QUADRATURE_COUNT (R175): the samples of A and B in the last ticks, newest in bit 0; an accepted change of one counts, of both is an
illegal transition. -/
def execQuadratureCount (e : Fin 64) (ha hb : BitVec 16) (s : State) : Out :=
  let x := (s.leng e).axis
  if x.encMode ≠ 1 then .next s
  else
    let a := x.accepted ha x.a
    let b := x.accepted hb x.b
    let y := { x with a := a, b := b }
    match (quadPlace a b + 4 - quadPlace x.a x.b) % 4 with
    | 0 => .next s
    | 1 => .next (s.setAxis e (y.countBy 1 s.time))
    | 3 => .next (s.setAxis e (y.countBy (-1) s.time))
    | _ =>
      let st := (y.reg 0xA).toNat
      .next (s.setAxis e (y.setReg 0xA (BitVec.ofNat 64 (st % 65536 + 65536 * satAdd 16 (nbits st 31 16) 1))))

/-- INDEX_EDGE (R177): a rising edge of Z, taken only while A and B are high (`high`) where Z_GATE is set; HOME.ARM sets the count. -/
def execIndexEdge (e : Fin 64) (high : Bool) (s : State) : Out :=
  let x := (s.leng e).axis
  if ((x.reg 0).getLsbD 6 && !high) = true then .next s
  else
    let y := if (x.reg 8).getLsbD 0 then ({ x with count := x.reg 9, changed := s.time } : AxisIo).setReg 8 0 else x
    .next (s.setAxis e (((y.setReg 6 y.count).setReg 7 s.time).setBit 0xA 0 true))

/-- Binary from Gray code of `w` bits. -/
def grayDecode : Nat → Nat → Nat
  | 0, _ => 0
  | w + 1, g =>
    let hi := grayDecode w (g / 2)
    2 * hi + (if (g % 2 == 1) != (hi % 2 == 1) then 1 else 0)

/-- The instant at which the frame in progress has been judged: one clock period after its last bit (R178). -/
def State.ssiEnd (s : State) (x : AxisIo) : Option DWord :=
  match x.ssiRun, s.ssiFreq x with
  | some t, some f => some (t + units ((2 * x.ssiBits + 1) * 32000000000 * f.2 / f.1))
  | _, _ => none

/-- SSI_FRAME_END (R178): the bits read, and whether the data line was low after the last one. -/
def execSsiFrameEnd (e : Fin 64) (bits : Nat) (low : Bool) (s : State) : Out :=
  let x := (s.leng e).axis
  match x.ssiRun, s.ssiEnd x with
  | some t0, some t1 =>
    if s.reached t1 then
      let y := { x with ssiRun := none }
      if low then
        let w := x.ssiBits
        let v := if (x.reg 0).getLsbD 14 then grayDecode w (bits % 2 ^ w) else bits % 2 ^ w
        let count := match x.ssiLast with
          | none => BitVec.ofNat 64 v
          | some u => x.count + dw (sextInt w (v + 2 ^ w - u))
        .next (s.setAxis e ({ y with count := count, ssiLast := some v, ssiAt := t0 }.setBit 0xA 1 true))
      else .next (s.setAxis e ((y.setBit 0xA 2 true).setBit 0xA 1 false))
    else .next s
  | _, _ => .next s

/-! ### Delta-sigma inputs (R179) -/

/-- OSR: 32 to 256. -/
def AxisIo.osr (x : AxisIo) : Nat := max 32 (min 256 (x.fieldOf 0x10 12 4))

/-- The modulator clock runs: it is external, or its output runs. -/
def State.dsClock (s : State) (x : AxisIo) : Bool :=
  (x.reg 0x10).getLsbD 13 || (s.outFreq (x.fieldOf 0x10 24 22) (x.fieldOf 0x10 27 25)).isSome

/-- Weight of the data sample `i` clocks ago in a sinc3 decimator of ratio `n`: in how many ways `i` is a sum of three numbers below `n`. -/
def sincWeight (n i : Nat) : Nat :=
  let tri := fun (m : Nat) => if m ≤ i then (i - m + 1) * (i - m + 2) / 2 else 0
  tri 0 + 3 * tri (2 * n) - 3 * tri n - tri (3 * n)

/-- The decimated output S, from 0 to OSR³, of the data samples `bits`, newest first (R179). -/
def sinc3 (n : Nat) (bits : List Bool) : Nat :=
  ((List.range (3 * n - 2)).map (fun i => if bits.getD i false then sincWeight n i else 0)).sum

/-- OSR clocks of the device's own modulator clock have passed since input `k` gave its last sample, to within a tick (R179). -/
def State.dsPaced (s : State) (x : AxisIo) (k : Nat) : Bool :=
  match s.dsFreq x, x.dsNew.find? (fun p => p.1 == k) with
  | some f, some p => decide (((x.osr * 64000000000 * f.2 / f.1 : Nat) : Int) < tdiff s.time p.2.2 + 160)
  | _, _ => true

/-- DS_SAMPLE (R179): the decimator of an enabled input completes a sample from its data bits, newest first. -/
def execDsSample (e : Fin 64) (k : Fin 4) (bits : List Bool) (s : State) : Out :=
  let x := (s.leng e).axis
  if !(x.reg 0x10).getLsbD k.val || !s.dsClock x || !s.dsPaced x k then .next s
  else
    let full := x.osr ^ 3
    let f := BitVec.ofNat 64 (fOfRat fS (2 * (sinc3 x.osr bits : Nat) - (full : Int)) full)
    let n := tabGet (fun _ => 0) x.dsCount k + 1
    let y := { x with dsNew := tabInsert x.dsNew k (f, s.time), dsCount := tabPut (fun _ => 0) x.dsCount k (min n 4) }
    let y := y.setBit 0x1A 4 false
    .next (s.setAxis e (if 3 < n then y.setBit 0x1A k true else y))

/-- DS_CLKLOST (R179): no modulator clock edge for 1 µs. -/
def execDsClklost (e : Fin 64) (s : State) : Out :=
  let x := (s.leng e).axis
  if !(x.reg 0x10).getLsbD 13 && s.dsClock x then .next s
  else .next (s.setAxis e { (x.setReg 0x1A 0x10) with dsCount := [] })

/-! ### Analog converters (R182–R185) -/

/-- The instant until which converter `c` is busy. -/
def State.adcUntil (s : State) (c : Nat) : Option DWord := s.eng.adcBusy.find? (fun b => b.1 == c) |>.map Prod.snd

/-- An action at converter `c` whose samples are `codes` (R182–R184): discarded whole in the busy time; else its
converter is busy for 200 ns an entry, and each entry with a listed code samples in its slot. -/
def State.convert (s : State) (c : Nat) (d : Delivered) (codes : List Nat) : State :=
  let t := d.instant
  let s := s.taken d
  if (s.adcUntil c).any (fun u => before t u) then s.incR (Reg.ANA_ADC_COLL c)
  else
    let runs := ((List.range codes.length).zip codes).filter (fun p => decide (p.2 < 48))
    let s := s.touch domAdc
    { s with eng := { s.eng with
        adcBusy := tabInsert s.eng.adcBusy c (t + units (12800 * codes.length))
        adcRun := s.eng.adcRun ++ runs.map (fun p => (c, p.2, d.late, t + units (12800 * p.1))) } }

/-- CONVERT (R182): the channel or pair of DATA. -/
def execConvert (c : Fin 4) (s : State) : Out :=
  match s.due? 4 c 0 with
  | some d => .next (s.convert c d [fld d.act.data 5 0])
  | none => .next s

/-- The codes of sequence list `l` (R183). -/
def State.seqCodes (s : State) (l : Nat) : List Nat :=
  (List.range (max 1 (min 16 (s.getF (Reg.ANA_SEQ_LEN l) 4 0)))).map (fun e =>
    s.getF (Reg.ANA_SEQ_CODE l (e / 4)) (8 * (e % 4) + 5) (8 * (e % 4)))

/-- SEQUENCE (R183). -/
def execSequence (c : Fin 4) (s : State) : Out :=
  match s.due? 4 c 1 with
  | some d => .next (s.convert c d (s.seqCodes (fld d.act.data 3 0)))
  | none => .next s

/-- ADC_RESULT (R185): the oldest conversion of converter `c` that has sampled delivers its result `v`. -/
def execAdcResult (c : Fin 4) (v : BitVec 16) (s : State) : Out :=
  match s.eng.adcRun.find? (fun r => r.1 == c.val) with
  | none => .next s
  | some r =>
    let (_, code, late, t) := r
    if !s.reached t then .next s
    else
      let w : Word := BitVec.ofNat 32 (late.toNat <<< 30 + code <<< 16 + v.toNat)
      let s := { s with eng := { s.eng with adcRun := s.eng.adcRun.erase r } }
      let s := s.setR (Reg.ANA_ADC_RES code) w
      let rt := s.getR (Reg.ANA_ADC_ROUTE code)
      if bitOf rt 31 then
        let x := (s.leng (fld rt 13 8)).axis
        .next (s.setAxis (fld rt 13 8) { x with adc := tabPut (fun _ => 0) x.adc (fld rt 2 0) (w ||| 0x80000000) })
      else .next s

end Sys2Proof.Machine
end

