-- ==== Sys2Proof/Machine/EngineIsa.lean ====
section
/-!
DEFINITION. Sys2Proof/Machine/EngineIsa.lean: the computing instructions of the engines (R131–R136): integer, floating
point, memory and control flow.
-/
namespace Sys2Proof.Machine

/-! ### Integer operations (R133–R135) -/

/-- ALU (R135): the function of FN; flags with S, always for CMP and TST; SEL writes none. -/
def execAlu (n : Fin 68) (s : State) : Out :=
  .next (s.engRun .alu n (fun x =>
    if fFN x.w = 0x16 then x.setRd (if condHolds (fMOD x.w) x.core.nzcv then x.ra else x.rb)
    else match aluFn (fFN x.w) x.ra x.rb x.core.nzcv with
      | some r => x.put (x.core.alu (fRD x.w) r (bitOf x.w 10 || aluAlwaysFlags (fFN x.w)))
      | none => x.exc 1))

/-- ADDI: rd = ra + sext(imm). -/
def execAddi (n : Fin 68) (s : State) : Out := .next (s.engRun .addi n (fun x => x.setRd (x.ra + immS x.w)))
/-- ANDI: rd = ra & zext(imm). -/
def execAndi (n : Fin 68) (s : State) : Out := .next (s.engRun .andi n (fun x => x.setRd (x.ra &&& immZ x.w)))
/-- ORI: rd = ra | zext(imm). -/
def execOri (n : Fin 68) (s : State) : Out := .next (s.engRun .ori n (fun x => x.setRd (x.ra ||| immZ x.w)))
/-- XORI: rd = ra ^ zext(imm). -/
def execXori (n : Fin 68) (s : State) : Out := .next (s.engRun .xori n (fun x => x.setRd (x.ra ^^^ immZ x.w)))

/-- SHI: the shift of imm[7:6] by imm[5:0]; no flags. -/
def execShi (n : Fin 68) (s : State) : Out :=
  .next (s.engRun .shi n (fun x => x.put (x.core.alu (fRD x.w) (shiftFn (fld x.w 7 6) x.ra (fld x.w 5 0)) false)))

/-- LDI: rd = sext(imm). -/
def execLdi (n : Fin 68) (s : State) : Out := .next (s.engRun .ldi n (fun x => x.setRd (immS x.w)))

/-- INSH: halfword k = RA of rd takes imm, the other bits stay. -/
def execInsh (n : Fin 68) (s : State) : Out :=
  .next (s.engRun .insh n (fun x =>
    let k := 16 * fRA x.w
    x.setRd ((x.rd &&& ~~~((0xFFFF : DWord) <<< k)) ||| (immZ x.w <<< k))))

/-- CMPI: the flags of ra − sext(imm). -/
def execCmpi (n : Fin 68) (s : State) : Out :=
  .next (s.engRun .cmpi n (fun x => x.put (x.core.alu 0 { subRes x.ra (immS x.w) false with val := none } true)))

/-- NOP. -/
def execNop (n : Fin 68) (s : State) : Out := .next (s.engRun .nop n (fun x => x.done x.c))

/-! ### Floating point (R130, R136) -/

/-- A floating-point result (R130): its exceptions set their sticky bits; an enabled one raises FP, and the destination
is not written. -/
def EngX.fp (x : EngX) (r : FpuRes) : State :=
  let k := { x.core with fpcsr := setFld x.core.fpcsr 4 0 (fld x.core.fpcsr 4 0 ||| r.exc) }
  if fld x.core.fpcsr 20 16 &&& r.exc ≠ 0 then ({ x with c := x.c.withCore k } : EngX).exc 4
  else
    let k := match r.val with
      | some v => k.setG (fRD x.w) (BitVec.ofNat 64 v)
      | none => k
    x.put (match r.flags with
      | some f => { k with flagN := f.n, flagZ := f.z, flagC := f.c, flagV := f.v }
      | none => k)

/-- FPU (R136). -/
def execFpu (n : Fin 68) (s : State) : Out :=
  .next (s.engRun .fpu n (fun x =>
    match fpuFn (fFN x.w) (fpEnv x.core.fpcsr) x.ra x.rb with
    | some r => x.fp r
    | none => x.exc 1))

/-- FMA (R136): the third operand is the register named in MOD. -/
def execFma (n : Fin 68) (s : State) : Out :=
  .next (s.engRun .fma n (fun x => x.fp (fmaFn (fFN x.w) (fpEnv x.core.fpcsr) x.ra x.rb (x.g (fMOD x.w)))))

/-! ### Loads and stores (R89, R131) -/

/-- The effective address of an I-format memory instruction. -/
def EngX.ea (x : EngX) : Nat := (x.ra + immS x.w).toNat

/-- The ECC outcome of a read of data or cam RAM (R89): a corrected error sets DRAM_CE; an uncorrectable one sets DRAM_UE
and raises MEMORY. -/
def EngX.eccRead (x : EngX) (ecc : Ecc) (f : EngX → State) : State :=
  match ecc with
  | .clean => f x
  | .corrected => f { x with s := x.s.raise x.e 0x1000 }
  | .uncorrectable => ({ x with s := x.s.raise x.e 0x2000 } : EngX).exc 3

/-- A load of `len` bytes (R131): MEMORY on a misaligned or reserved address. -/
def EngX.load (x : EngX) (len : Nat) (ecc : Ecc) (f : EngX → Nat → State) : State :=
  let a := x.ea
  if a % len ≠ 0 ∨ 0x18000 ≤ a then x.exc 3
  else x.eccRead ecc (fun x =>
    f x (leNat (if a < 0x10000 then ramBytes x.c.dram a len else camBytes x.s.cfg.active x.e (a - 0x10000) len)))

/-- LD: rd = mem64[ea]. -/
def execLd (n : Fin 68) (ecc : Ecc) (s : State) : Out :=
  .next (s.engRun .ld n (fun x => x.load 8 ecc (fun x v => x.setRd (BitVec.ofNat 64 v))))
/-- LDW: rd = zext(mem32[ea]). -/
def execLdw (n : Fin 68) (ecc : Ecc) (s : State) : Out :=
  .next (s.engRun .ldw n (fun x => x.load 4 ecc (fun x v => x.setRd (BitVec.ofNat 64 v))))
/-- LDWS: rd = sext(mem32[ea]). -/
def execLdws (n : Fin 68) (ecc : Ecc) (s : State) : Out :=
  .next (s.engRun .ldws n (fun x => x.load 4 ecc (fun x v => x.setRd (dw (sextInt 32 v)))))

/-- A store of `len` bytes (R97, R103, R131): the line is logged before its first write in the cycle. -/
def EngX.store (x : EngX) (len : Nat) : State :=
  let a := x.ea
  if a % len ≠ 0 ∨ 0x10000 ≤ a then x.exc 3
  else x.s.putLogged x.n x.e ((x.c.logLine (a / 32)).write a (leBytes len x.rd.toNat))

/-- ST: mem64[ea] = rd. -/
def execSt (n : Fin 68) (s : State) : Out := .next (s.engRun .st n (fun x => x.store 8))
/-- STW: mem32[ea] = rd[31:0]. -/
def execStw (n : Fin 68) (s : State) : Out := .next (s.engRun .stw n (fun x => x.store 4))

/-! ### Control flow (R133, R155) -/

/-- A branch to word address `t`: FETCH outside the program, or outside the far window in far code. -/
def EngX.goto (x : EngX) (t : Int) (k : EngCore) : State :=
  if t < 0 ∨ (if x.c.inFar then (2 ^ 24 : Int) else 8192) ≤ t then x.exc 2
  else x.done { x.c with pc := t.toNat, core := k }

/-- BCC: if COND holds, PC = PC + sext(OFF), from the branch's own address. -/
def execBcc (n : Fin 68) (s : State) : Out :=
  .next (s.engRun .bcc n (fun x =>
    if condHolds (fCOND x.w) x.core.nzcv then x.goto (x.at_ + sextInt 16 (fIMM x.w)) x.core else x.done x.c))

/-- An instruction that far code may not hold (R155). -/
def EngX.notFar (x : EngX) (f : State) : State := if x.c.inFar then x.exc 1 else f

/-- JMP: PC = TARGET. -/
def execJmp (n : Fin 68) (s : State) : Out :=
  .next (s.engRun .jmp n (fun x => x.notFar (x.goto (fTARGET x.w) x.core)))
/-- CALL: LR = PC + 1; PC = TARGET. -/
def execCall (n : Fin 68) (s : State) : Out :=
  .next (s.engRun .call n (fun x => x.notFar (x.goto (fTARGET x.w) { x.core with lr := BitVec.ofNat 64 (x.at_ + 1) })))
/-- JR: PC = ra. -/
def execJr (n : Fin 68) (s : State) : Out := .next (s.engRun .jr n (fun x => x.notFar (x.goto x.ra.toNat x.core)))
/-- RET: PC = LR; FETCH where LR[63] is set. In far code it is a JR, and ILLEGAL (log entry 22). -/
def execRet (n : Fin 68) (s : State) : Out := .next (s.engRun .ret n (fun x => x.notFar (x.goto x.core.lr.toNat x.core)))

/-- FRET (R155): from far code to program RAM at LR. -/
def execFret (n : Fin 68) (s : State) : Out :=
  .next (s.engRun .fret n (fun x =>
    if !x.c.inFar || x.core.lr.msb then x.exc 2
    else x.done { x.c with inFar := false, pc := x.core.lr.toNat % 8192 }))

/-- FCALL (R155): to the far routine at byte offset ra of the user NV read window. -/
def execFcall (n : Fin 68) (s : State) : Out :=
  .next (s.engRun .fcall n (fun x =>
    let a := x.ra.toNat
    if !x.s.getB (Reg.ENG_FAR_CTL x.n) 0 || a % 4 != 0 || decide (2 ^ 26 ≤ a) then x.exc 2
    else if x.c.inFar then x.exc 1
    else x.done { x.c with inFar := true, farBank := a / 2 ^ 23, pc := a / 4,
                           core := { x.core with lr := BitVec.ofNat 64 (x.at_ + 1) } }))

/-! ### Special registers (R127) -/

/-- The value of a special register that is no input. -/
def EngX.special (x : EngX) (i : Nat) : DWord :=
  let k := x.core
  match i with
  | 0 => BitVec.ofNat 64 k.trig.toNat
  | 1 => k.cyct
  | 2 => k.cycno
  | 4 => BitVec.ofNat 64 x.period
  | 6 => k.st
  | 7 => BitVec.ofNat 64 (8 * k.flagN.toNat + 4 * k.flagZ.toNat + 2 * k.flagC.toNat + k.flagV.toNat)
  | 8 => BitVec.ofNat 64 k.fpcsr.toNat
  | 9 => k.lr
  | 10 => x.c.exc
  | 11 => x.c.epc
  | 12 => BitVec.ofNat 64 x.retry.toNat
  | 13 => BitVec.ofNat 64 k.lost
  | _ => BitVec.ofNat 64 (256 * x.n + x.e)

/-- The value of a special register that is an input: NOW, TFLAGS, MBFULL. -/
def EngX.specialIn (x : EngX) (i : Nat) : DWord :=
  match i with
  | 3 => x.s.time
  | 5 => BitVec.ofNat 64 x.c.core.tflags.toNat
  | _ => BitVec.ofNat 64 (x.s.getF (Reg.ENG_MBOX_STAT x.n) 15 0)

/-- MFS: rd = special register RA. -/
def execMfs (n : Fin 68) (s : State) : Out :=
  .next (s.engRun .mfs n (fun x =>
    let i := fRA x.w
    if i = 3 ∨ i = 5 ∨ i = 14 then
      x.input { status := x.specialIn i } (fun c p => c.withCore (c.core.setG (fRD x.w) p.status))
    else x.setRd (x.special i)))

/-- MTS: special register RD (FLAGS, FPCSR, LR, EXC, EPC) = ra, in the bits that the register has. -/
def execMts (n : Fin 68) (s : State) : Out :=
  .next (s.engRun .mts n (fun x =>
    let v := x.ra
    let k := x.core
    match fRD x.w with
    | 7 => x.put { k with flagN := v.getLsbD 3, flagZ := v.getLsbD 2, flagC := v.getLsbD 1, flagV := v.getLsbD 0 }
    | 8 => x.put { k with fpcsr := loW v &&& 0x00FF001F }
    | 9 => x.put { k with lr := v &&& 0x8000000000FFFFFF }
    | 10 => x.done { x.c with exc := v &&& 0x1FF }
    | _ => x.done { x.c with epc := v &&& 0x8000000000FFFFFF }))

end Sys2Proof.Machine
end

