-- ==== Sys2Proof/Machine/EngineAct.lean ====
section
/-!
DEFINITION. Sys2Proof/Machine/EngineAct.lean: the engine instructions that act or wait (R140–R147, R153, R154, R156): posts,
cancels, waits, mailboxes, bay ports, requests, checkpoint hints and the end of a cycle, and the rows that complete what
an engine waits for.
-/
namespace Sys2Proof.Machine

/-! ### Posting and cancelling (R140, R141) -/

/-- A post with due time `due`: it stalls while the port's FIFO is full, and keeps its DUE (R51, R140). -/
def EngX.post (x : EngX) (due : DWord) : State :=
  let f := Effect.post due x.rb
  let send := x.asked f (fun s k =>
    s.fifoPush x.e (BitVec.ofNat 128 (due.toNat <<< 64 + x.rb.toNat)) (.engine x.e k))
  match x.release f with
  | .go _ _ => if x.s.fifoRoom x.e then send else x.s.putLogged x.n x.e (x.stalled (.post due))
  | _ => send

/-- POST (R140): the due time is ra, CYCT + ra, or NOW + ra with NOW an input, read at issue. -/
def execPost (n : Fin 68) (s : State) : Out :=
  .next (s.engRunW .post n
    (fun st => match st with
      | .post .. => true
      | _ => false)
    (fun x =>
      match (s.leng x.e).stall with
      | some (.post due) => x.post due
      | _ =>
        match fMOD x.w with
        | 0 => x.post x.ra
        | 1 => x.post (x.core.cyct + x.ra)
        | _ =>
          match x.replay? with
          | some i => { x with c := x.replayed }.post (i.status + x.ra)
          | none => { x with c := x.logIn { status := s.time } }.post (s.time + x.ra)))

/-- CANCEL (R141) on the engine's own port; ILLEGAL where a reserved bit of ra is set. -/
def execCancel (n : Fin 68) (s : State) : Out :=
  .next (s.engRun .cancel n (fun x =>
    let w := x.ra.toNat
    if 2 ^ 21 ≤ w then x.exc 1
    else x.asked (.cancel x.ra) (fun s k =>
      let r := s.cancel (nbits w 7 0) (nbits w 15 8) (nbits w 19 16) x.e (w.testBit 20) false
      r.1.engStatus x.e k r.2)))

/-! ### Waits (R143, R144) -/

/-- A status read live: it is logged, and ST and Z take it. -/
def EngX.statusIn (x : EngX) (s : State) (st : Nat) : State :=
  x.liveIn s { status := BitVec.ofNat 64 st } (fun c => c.withCore (c.core.status st))

/-- WAITT (R143): PAST, BEYOND, or a wait until T. -/
def execWaitt (n : Fin 68) (s : State) : Out :=
  .next (s.engRun .waitt n (fun x =>
    let t := if fMOD x.w = 0 then x.ra else x.core.cyct + x.ra
    match x.replay? with
    | some i => x.done (x.replayed.withCore (x.core.status i.status.toNat))
    | none =>
      if !before s.time t then x.statusIn s stPAST
      else if before (x.core.cyct + units x.period) t then x.statusIn s stBEYOND
      else x.stall (.waitt t)))

/-- An instruction that waits on physical engine `n` is taken up again by what it waits for. -/
def State.waiting (s : State) (n : Nat) (f : EngX → Stall → State) : State :=
  match s.logicalOf n with
  | none => s
  | some e =>
    let c := s.leng e
    if s.inCycle n && s.domOn (domEngine n) then
      match c.stall with
      | some st => f ⟨s, n, e, { c with stall := none, pc := c.pc + 1 }, 0, c.pc, true⟩ st
      | none => s
    else s

/-- WAITT_WAKE (R143): the first engine clock at or after T. -/
def execWaittWake (n : Fin 68) (s : State) : Out :=
  .next (s.waiting n (fun x st =>
    match st with
    | .waitt t => if s.reached t then x.statusIn s stOK else s
    | _ => s))

/-- WAITF takes the masked flags into `rd` with a status. -/
def EngX.flagsIn (x : EngX) (rd : Nat) (v : DWord) (st : Nat) : State :=
  x.liveIn x.s { status := BitVec.ofNat 64 st, value := some v } (fun c => c.withCore ((c.core.setG rd v).status st))

/-- WAITF (R144): the flags under the mask when one is set; an imm of 0 polls. -/
def execWaitf (n : Fin 68) (s : State) : Out :=
  .next (s.engRunW .waitf n
    (fun st => match st with
      | .waitf .. => true
      | _ => false)
    (fun x =>
      let m := loW x.ra
      let v : DWord := BitVec.ofNat 64 (x.c.core.tflags &&& m).toNat
      match x.replay? with
      | some i => x.done (x.replayed.withCore ((x.core.setG (fRD x.w) (i.value.getD 0)).status i.status.toNat))
      | none =>
        if v ≠ 0 then x.flagsIn (fRD x.w) v stOK
        else if fIMM x.w = 0 then x.flagsIn (fRD x.w) 0 stTIMEOUT
        else x.stall (.waitf (fRD x.w) m)))

/-- TFCLR (R144): the flags set in ra[31:0] clear. -/
def execTfclr (n : Fin 68) (s : State) : Out :=
  .next (s.engRun .tfclr n (fun x => x.put { x.core with tflags := x.core.tflags &&& ~~~(loW x.ra) }))

/-! ### Mailboxes (R145, R146) -/

/-- SEND (R145): ILLEGAL where a reserved bit of ra is set. -/
def execSend (n : Fin 68) (s : State) : Out :=
  .next (s.engRun .send n (fun x =>
    let w := x.ra.toNat
    if 2 ^ 10 ≤ w then x.exc 1
    else x.asked (.send (w / 16) (w % 16) x.rb) (fun s k =>
      let r := s.mailWrite (w / 16) (w % 16) x.rb (.engine x.e k)
      match r.2 with
      | some st => r.1.engStatus x.e k st
      | none => r.1)))

/-- The value of mailbox `m`. -/
def LEng.box (c : LEng) (m : Nat) : DWord := tabGet (fun _ => 0) c.mbox m

/-- A value that came with a status OK, in `rd`; another status leaves it. -/
def EngCore.received (k : EngCore) (rd : Nat) (i : InEntry) : EngCore :=
  let k := match i.value with
    | some v => k.setG rd v
    | none => k
  k.status (i.status.toNat % 256)

/-- A mailbox of physical engine `n` is FULL. -/
def State.boxFull (s : State) (n m : Nat) : Bool := s.getB (Reg.ENG_MBOX_STAT n) m

/-- RECV (R146): mailbox RA is consumed when FULL; an imm of 0 polls. -/
def execRecv (n : Fin 68) (s : State) : Out :=
  .next (s.engRunW .recv n
    (fun st => match st with
      | .recv .. => true
      | _ => false)
    (fun x =>
      let m := fRA x.w
      match x.replay? with
      | some i => x.done (x.replayed.withCore (x.core.received (fRD x.w) i))
      | none =>
        if s.boxFull n m then
          let i : InEntry := { status := 0, value := some (x.c.box m) }
          x.liveIn (s.setB (Reg.ENG_MBOX_STAT n) m false) i (fun c => c.withCore (c.core.received (fRD x.w) i))
        else if fIMM x.w = 0 then x.statusIn (s.raise x.e 0x100) stTIMEOUT
        else x.stall (.recv (fRD x.w) m)))

/-- PEEK (R146): the value without consuming it, or EMPTY. -/
def execPeek (n : Fin 68) (s : State) : Out :=
  .next (s.engRun .peek n (fun x =>
    let m := fRA x.w
    x.input (if s.boxFull n m then { status := 0, value := some (x.c.box m) } else { status := BitVec.ofNat 64 stEMPTY })
      (fun c i => c.withCore (c.core.received (fRD x.w) i))))

/-- The outcome of RECVM: as RECV's, with the mailbox's index in ST[11:8] on OK; the log's status holds both. -/
def EngCore.receivedAny (k : EngCore) (rd : Nat) (i : InEntry) : EngCore :=
  let k := k.received rd i
  if i.value.isSome then { k with st := (k.st &&& ~~~(0xF00 : DWord)) ||| (i.status &&& 0xF00) } else k

/-- RECVM (R146): the lowest-numbered full mailbox of the mask in ra[15:0]. -/
def execRecvm (n : Fin 68) (s : State) : Out :=
  .next (s.engRunW .recvm n
    (fun st => match st with
      | .recvm .. => true
      | _ => false)
    (fun x =>
      let mask := x.ra.toNat % 65536
      match x.replay? with
      | some i => x.done (x.replayed.withCore (x.core.receivedAny (fRD x.w) i))
      | none =>
        match (bitsSet 16 mask).find? (fun m => s.boxFull n m) with
        | some m =>
          let i : InEntry := { status := BitVec.ofNat 64 (256 * m), value := some (x.c.box m) }
          x.liveIn (s.setB (Reg.ENG_MBOX_STAT n) m false) i (fun c => c.withCore (c.core.receivedAny (fRD x.w) i))
        | none =>
          if fIMM x.w = 0 then x.statusIn (s.raise x.e 0x100) stTIMEOUT
          else x.stall (.recvm (fRD x.w) mask)))

/-- `n` engine clocks have passed since the stall began, by the fastest engine clock, 600 MHz (R90): 320/3 units each. -/
def LEng.waited (c : LEng) (now : DWord) (n : Nat) : Bool := decide (((320 * n : Nat) : Int) ≤ 3 * tdiff now c.stallAt)

/-- The instruction at the program counter of logical engine `e`. -/
def State.wordAt (s : State) (e : Nat) : Word :=
  match s.fetch e with
  | .word w => w
  | _ => 0

/-- WAIT_TIMEOUT (R113, R144): the bound of a WAITF, RECV or RECVM, imm engine clocks, runs out, with its condition still unmet. -/
def execWaitTimeout (n : Fin 68) (s : State) : Out :=
  .next (s.waiting n (fun x st =>
    if !x.c.waited s.time (fIMM (s.wordAt x.e)) then s
    else match st with
    | .waitf rd mask => if x.c.core.tflags &&& mask = 0 then x.flagsIn rd 0 stTIMEOUT else s
    | .recv _ m => if s.boxFull n m then s else x.statusIn (s.raise x.e 0x100) stTIMEOUT
    | .recvm _ mask =>
      if (bitsSet 16 mask).any (fun m => s.boxFull n m) then s else x.statusIn (s.raise x.e 0x100) stTIMEOUT
    | _ => s))

/-! ### Bay ports (R114, R147, R208) -/

/-- BPRD (R147): a read of bay port RA stalls for the handshake; NOPORT at once where it is not attached. -/
def execBprd (n : Fin 68) (s : State) : Out :=
  .next (s.engRun .bprd n (fun x =>
    let p := fRA x.w
    match x.replay? with
    | some i => x.done (x.replayed.withCore (x.core.received (fRD x.w) i))
    | none =>
      match s.baySector x.e p with
      | none => x.statusIn (s.raise x.e 0x400) stNOPORT
      | some sec => ({ x with s := s.wake (domSector sec) 1 } : EngX).stall (.bayRead (fRD x.w) p sec)))

/-- BPWR (R147): register RD goes to bay port RA, an effect whose status is that of ST. -/
def execBpwr (n : Fin 68) (s : State) : Out :=
  .next (s.engRun .bpwr n (fun x =>
    let p := fRA x.w
    let wait := fun (x : EngX) k =>
      match s.baySector x.e p with
      | none =>
        (x.s.raise x.e 0x400).putLogged x.n x.e ((x.c.takeStatus k (BitVec.ofNat 64 stNOPORT)).withCore (x.core.status stNOPORT))
      | some sec =>
        let c := { x.stalled (.bayWrite p sec k) with
                            efWait := if x.c.efWait.contains k then x.c.efWait else x.c.efWait ++ [k] }
        (x.s.putLogged x.n x.e c).wake (domSector sec) 1
    match x.release (.bayWrite p x.rd) with
    | .differ => (x.done { x.c with pc := x.at_ }).cycleFail x.n x.e
    | .done c k =>
      match c.efStat.find? (fun q => q.1 == k) with
      | some q => x.done (c.withCore (c.core.status q.2.toNat))
      | none => wait { x with c := c } k
    | .go c k => wait { x with c := c } k))

/-- The port interface of sector `sec` that bay port `p` of logical engine `e` is attached to (R208). -/
def State.bayPort (s : State) (e p sec : Nat) : Option Nat :=
  (List.range 8).find? (fun i =>
    let w := s.getR (Reg.SEC_PI sec i)
    bitOf w 31 && fld w 13 8 == e && fld w 1 0 == p)

/-- The transfer at the port interface of sector `sec` is over: the next one presents its own REQ (R208). -/
def State.portDone (s : State) (e p sec : Nat) : State :=
  match s.bayPort e p sec with
  | some i => s.setSector sec { s.sector sec with reqSeen := (s.sector sec).reqSeen.filter (fun k => k != i) }
  | none => s

/-- A bay-port transfer that ends with status `st` and, for a read that is OK, the value `v`. -/
def EngX.bayEnd (x : EngX) (s : State) (stall : Stall) (st : Nat) (v : DWord) : State :=
  match stall with
  | .bayRead rd p sec =>
    let s := s.portDone x.e p sec
    let i : InEntry := { status := BitVec.ofNat 64 st, value := if st = stOK then some v else none }
    x.liveIn s i (fun c => c.withCore (c.core.received rd i))
  | .bayWrite p sec k =>
    let s := s.portDone x.e p sec
    let c := { x.c.takeStatus k (BitVec.ofNat 64 st) with bayOut := none }
    s.putLogged x.n x.e (c.withCore (c.core.status st))
  | _ => s

/-- The bay port and the sector of a stalled bay-port transfer. -/
def Stall.bay : Stall → Option (Nat × Nat)
  | .bayRead _ p sec => some (p, sec)
  | .bayWrite p sec _ => some (p, sec)
  | _ => none

/-- The fabric can take a stalled transfer of logical engine `e`: the port is attached there, and the interface is live. -/
def State.bayLive (s : State) (e : Nat) (st : Stall) : Bool :=
  match st.bay with
  | some (p, sec) => (s.bayPort e p sec).any (s.ifaceLive sec)
  | none => false

/-- The bay-port write of physical engine `n` that was released before a mismatch, while nothing waits for it: its status is
recorded as an input all the same, and the re-executed BPWR takes it (R142). -/
def State.bayEarly (s : State) (n : Nat) (ok : BayOut → Bool) (st : Nat) : State :=
  match s.logicalOf n with
  | none => s
  | some e =>
    let c := s.leng e
    match c.bayOut with
    | some b =>
      if s.inCycle n && ok b then
        ((if st = stOK then s else s.raise e 0x400).portDone e b.port b.sec).putLogged n e { c.takeStatus b.k (BitVec.ofNat 64 st) with bayOut := none }
      else s
    | none => s

/-- Physical engine `n` is stalled on a bay-port transfer. -/
def State.bayStalled (s : State) (n : Nat) : Bool := (s.logicalOf n).any (fun e => ((s.leng e).stall.bind Stall.bay).isSome)

/-- BP_ACK (R114, R208, R209): the fabric acknowledges, with the value of a read. -/
def execBpAck (n : Fin 68) (v : DWord) (s : State) : Out :=
  .next (if s.bayStalled n then s.waiting n (fun x st => if s.bayLive x.e st then x.bayEnd s st stOK v else s)
    else s.bayEarly n (fun b => (s.logicalOf n).any (fun e => s.bayLive e (.bayWrite b.port b.sec b.k))) stOK)

/-- BP_CFG.TMO in force: below 16 taken as 16 (R123). -/
def State.bpTmo (s : State) (n : Nat) : Nat := max 16 (s.getF (Reg.ENG_BP_CFG n) 15 0)

/-- BP_TIMEOUT (R114): BP_CFG.TMO engine clocks have passed, the sector not waking. -/
def execBpTimeout (n : Fin 68) (s : State) : Out :=
  .next (if s.bayStalled n then s.waiting n (fun x st =>
      if x.c.waited s.time (s.bpTmo n) && st.bay.any (fun b => s.domOn (domSector b.2)) then
        x.bayEnd (s.raise x.e 0x400) st stTIMEOUT 0
      else s)
    else s.bayEarly n (fun b => decide (((320 * s.bpTmo n : Nat) : Int) ≤ 3 * tdiff s.time b.since) && s.domOn (domSector b.sec)) stTIMEOUT)

/-! ### Requests (R153) -/

/-- `len` bytes of a buffer in data RAM; what lies beyond the RAM is open. -/
def bufferBytes (m : List (Nat × Byte)) (a len : Nat) : List Byte :=
  (List.range len).map (fun i => if a + i < 0x10000 then tabGet (fun _ => 0) m (a + i) else Config.beyondRam (a + i))

/-- RQ (R153): the request of the 16-byte block at ra, with its acceptance status for rd. The block and a buffer are read from data
RAM (R89). -/
def EngX.request (x : EngX) (mode : Nat) (ecc : Ecc) : State :=
  let a := x.ra.toNat
  if a % 16 ≠ 0 ∨ 0x10000 ≤ a then x.exc 3
  else x.eccRead ecc (fun x =>
    let blk := ramBytes x.c.dram a 16
    let addr := leNat (blk.take 8)
    let len := leNat (sliceB blk 8 2)
    let data := if mode = 1 ∨ mode = 4 ∨ mode = 5 then bufferBytes x.c.dram (leNat (sliceB blk 10 2)) len
      else if mode = 2 then [] else sliceB blk 10 2
    x.asked (.request mode a blk data) (fun s k =>
      let r := s.submit mode addr len data (leNat (sliceB blk 12 1)) (.engine x.e a)
      r.1.engStatus x.e k r.2))

/-- RQ, user NV read. -/
def execRqNvRead (n : Fin 68) (ecc : Ecc) (s : State) : Out := .next (s.engRun .rqNvRead n (fun x => x.request 0 ecc))
/-- RQ, user NV program. -/
def execRqNvProgram (n : Fin 68) (ecc : Ecc) (s : State) : Out := .next (s.engRun .rqNvProgram n (fun x => x.request 1 ecc))
/-- RQ, user NV erase of one sector. -/
def execRqNvErase (n : Fin 68) (ecc : Ecc) (s : State) : Out := .next (s.engRun .rqNvErase n (fun x => x.request 2 ecc))
/-- RQ, parameter store read. -/
def execRqPrmRead (n : Fin 68) (ecc : Ecc) (s : State) : Out := .next (s.engRun .rqPrmRead n (fun x => x.request 3 ecc))
/-- RQ, parameter store write. -/
def execRqPrmWrite (n : Fin 68) (ecc : Ecc) (s : State) : Out := .next (s.engRun .rqPrmWrite n (fun x => x.request 4 ecc))
/-- RQ, trunk transmit. -/
def execRqTrunkTransmit (n : Fin 68) (ecc : Ecc) (s : State) : Out := .next (s.engRun .rqTrunk n (fun x => x.request 5 ecc))

/-! ### Checkpoint hints (R154) -/

/-- PRELOG: the lines from ra to ra + 64 × RB − 1 are logged; where the undo log would overflow, none is, and the cycle
is NORETRY. -/
def execPrelog (n : Fin 68) (s : State) : Out :=
  .next (s.engRun .prelog n (fun x =>
    let a := x.ra.toNat
    if 0x10000 ≤ a then x.exc 3
    else
      let lines := (List.range ((a + 64 * fRB x.w - 1) / 32 + 1 - a / 32)).map (fun i => a / 32 + i)
      let new := lines.filter (fun l => decide (l < 2048) && !x.c.undo.any (fun u => u.1 == l))
      if 256 < x.c.undo.length + new.length then (x.done x.c).markNoRetry x.n x.e true
      else s.putLogged x.n x.e (new.foldl LEng.logLine x.c)))

/-- NORETRY: the rest of the cycle is marked. -/
def execCkhNoretry (n : Fin 68) (s : State) : Out :=
  .next (s.engRun .ckhNoretry n (fun x => (x.done x.c).markNoRetry x.n x.e false))

/-- LOGFREE: rd = the smallest number of free entries among the three logs. -/
def execLogfree (n : Fin 68) (s : State) : Out :=
  .next (s.engRun .logfree n (fun x =>
    x.setRd (BitVec.ofNat 64 (256 - max x.c.undo.length (max x.c.inCount x.c.efLog.length)))))

/-! ### The end of a cycle (R92, R104, R156, R171) -/

/-- The LIM check at the end of a cycle (R171): the core, and whether the engine halts. -/
def EngCore.limAct (k : EngCore) : EngCore × Bool :=
  let v := k.limCheck (k.unit 4 5) (k.unitS 4 6)
  let st := (k.unit 4 8).toNat
  let act := (k.unit 4 7).toNat
  let acts := (List.range 3).map (fun i => if v.testBit i then min 2 (nbits act (2 * i + 1) (2 * i)) else 0)
  let k := k.setUnit 4 8 (BitVec.ofNat 64 (v + 8 * (nbits st 5 3 ||| v)))
  if acts.contains 2 then (k, true)
  else if acts.contains 1 then
    let r := k.trjQstop
    (if r.2 then r.1 else r.1.status stBADPARAM, false)
  else (k, false)

/-- The cycle ends (R92, R101, R171): LIM acts, MPUB is published, a retry that completes is counted, and the state
reached is the next cycle's start. -/
def EngX.endCycle (x : EngX) : State :=
  let r := x.core.limAct
  let c := { x.c with core := r.1, ckpt := r.1, published := r.1.unit 1 7, lostNow := x.c.lostNow - r.1.lost }
  let s := x.s.setLeng x.e c
  let s := if x.retry then (s.addF (Reg.ENG_RETRY x.n) 15 0 1).raise x.e 1 else s
  s.settle x.n x.e r.2

/-- The retry margin is exceeded (R104): on the first attempt 45 % of PERIOD after the boundary, in a retry 45 % of PERIOD
after its restart. -/
def EngX.overMargin (x : EngX) : Bool :=
  let from_ := if x.retry then x.c.retryAt.getD x.c.bound else x.c.bound
  decide ((45 * x.period : Nat) < 100 * tdiff x.s.time from_)

/-- CEND (R156): MARGIN is judged when it issues; it waits for every status still out, and then the cycle ends. -/
def execCend (n : Fin 68) (s : State) : Out :=
  .next (s.engRunW .cend n (fun st => st == .drain) (fun x =>
    let s1 := if !x.again && x.overMargin then s.raise x.e 8 else s
    let x := { x with s := s1 }
    if x.c.efWait = [] then x.endCycle
    else if x.again then s
    else x.stall .drain))

/-- Effect `k` of logical engine `e` waits in a mailbox write held for its target's domain to wake (R112). -/
def State.statusHeld (s : State) (e k : Nat) : Bool :=
  s.eng.logical.any (fun l => l.2.heldMail.any (fun h => h.from_ == .engine e k))

/-- DRAIN_TIMEOUT (R156): a status has not arrived after 65,535 engine clocks of the drain: a lockstep mismatch. -/
def execDrainTimeout (n : Fin 68) (s : State) : Out :=
  .next (s.waiting n (fun x st =>
    if st = .drain ∧ x.c.waited s.time 65535 = true ∧ x.c.efWait.any (fun k => !s.statusHeld x.e k) = true then s.mismatch x.n x.e 0 else s))

end Sys2Proof.Machine
end

