-- ==== Sys2Proof/Machine/EngineUnits.lean ====
section
/-!
DEFINITION. Sys2Proof/Machine/EngineUnits.lean: the motion-unit instructions of the engines (R148–R152, R157–R171): unit
registers, unit commands, cam look-ups, the control loop, the filter and the limit check.
-/
namespace Sys2Proof.Machine

/-! ### Unit registers (R148, R157) -/

/-- A UWR to a register of units 0–4: TRJ POS only in IDLE (R160), LIM STAT clears sticky bits (R171), a write of MSRC
makes the next master sample the first (R164). -/
def EngCore.writeUnit (k : EngCore) (u r : Nat) (v : DWord) : EngCore :=
  let v := v &&& unitMask u r
  match u, r with
  | 0, 8 =>
    if k.trjState = 0 then k.setUnit 0 8 v
    else k.setUnit 0 0x0B (k.unit 0 0x0B ||| 8)
  | 4, 8 => k.setUnit 4 8 (k.unit 4 8 &&& ~~~(v &&& 0x38))
  | 1, 0 => { k.setUnit 1 0 v with camPrev := none }
  | _, _ => k.setUnit u r v

/-- The bits that a register of units 5 and 6 has. -/
def axisMask (u r : Nat) : DWord :=
  match u, r with
  | 5, 0 => 0x3F0F
  | 5, 0x0E => 0xFFF
  | 6, 0 => 0x3FFF7FFF
  | 6, 8 => 1
  | 6, 0x10 => 0x0FFFFFFF
  | _, _ => 0xFFFFFFFFFFFFFFFF

/-- The fields of ENC_CFG and DS_CFG with reserved encodings, as in the register map: SSI_OUT, SSI_PLL, SSI_BITS; DS_OUT, DS_PLL, OSR. -/
def axisLegal (r : Nat) : List (Nat × Nat × Nat × Nat) :=
  match r with
  | 0 => [(29, 27, 0, 5), (26, 24, 2, 7), (13, 8, 8, 48)]
  | 0x10 => [(27, 25, 0, 5), (24, 22, 2, 7), (12, 4, 32, 256)]
  | _ => []

/-- What a write of `v` leaves in a register of units 5 and 6 that holds `old` (R6): a field given an encoding outside its range keeps
its value, and so do PER and DEAD, whose bits [1:0] are ignored. -/
def axisStore (u r : Nat) (old v : DWord) : DWord :=
  match u, r with
  | 5, 1 => if 64000 ≤ v.toNat ∧ v.toNat < 2 ^ 32 then v else old
  | 5, 3 => if v.toNat < 64004 then v else old
  | 6, _ => (axisLegal r).foldl (fun w f =>
      let o := nbits old.toNat f.1 f.2.1
      let n := nbits w.toNat f.1 f.2.1
      if legalField f.2.2.1 f.2.2.2 n then w else w + BitVec.ofNat 64 (o <<< f.2.1) - BitVec.ofNat 64 (n <<< f.2.1)) v
  | _, _ => v

/-- A PWM register write released at `now` (R173): it replaces one of the same register that has not applied, and waits
for an APPLY where LATCH is in force. -/
def AxisIo.writePwm (x : AxisIo) (r : Nat) (v : DWord) (now : DWord) : AxisIo :=
  let rel := if (pwmReg x.pwmA 0).testBit 3 then none else some now
  { x with pwmW := tabPut pwmReset x.pwmW r v, pwmPend := x.pwmPend.filter (fun w => w.reg != r) ++ [⟨r, v, rel⟩] }

/-- An APPLY released at `now` (R173). -/
def AxisIo.apply (x : AxisIo) (now : DWord) : AxisIo :=
  { x with pwmPend := x.pwmPend.map (fun w => if w.rel.isNone then { w with rel := some now } else w), applyAt := some now }

/-- A register write of unit 6 at `now` (R175–R179). -/
def AxisIo.writeAxis (x : AxisIo) (r : Nat) (v : DWord) (now : DWord) : AxisIo :=
  match r with
  | 0 => { x.setReg 0 v with ssiLast := none }
  | 5 => { x with count := v, changed := now }
  | 0x0A => x.setReg 0x0A 0
  | 0x10 =>
    let fresh := (List.range 4).filter (fun k => v.getLsbD k && !(x.reg 0x10).getLsbD k)
    let y := fresh.foldl (fun (y : AxisIo) k => { y with dsCount := tabPut (fun _ => 0) y.dsCount k 0 }.setBit 0x1A k false) x
    y.setReg 0x10 v
  | _ => x.setReg r v

/-- A register write of units 5 and 6 that has left the engine. -/
def State.axisWrite (s : State) (e u r : Nat) (v : DWord) : State :=
  let c := s.leng e
  let old := if u = 5 then tabGet pwmReset c.axis.pwmW r else c.axis.reg r
  let v := axisStore u r old (v &&& axisMask u r)
  s.setLeng e { c with axis := if u = 5 then c.axis.writePwm r v s.time else c.axis.writeAxis r v s.time }

/-- UWR (R148): units 5 and 6 are effects, the others internal. -/
def execUwr (n : Fin 68) (s : State) : Out :=
  .next (s.engRun .uwr n (fun x =>
    let u := fld x.w 10 8
    let r := fld x.w 7 0
    if u < 5 then x.put (x.core.writeUnit u r x.ra)
    else x.effect (.unitWrite u r x.ra) (fun s => s.axisWrite x.e u r x.ra)))

/-- A register of units 0–5 as URD reads it. -/
def EngX.unitValue (x : EngX) (u r : Nat) : DWord :=
  match u with
  | 5 =>
    let a := x.c.axis
    if r = 0x0F then
      BitVec.ofNat 64 (2 * a.fault.toNat + (a.pwmPend.any (fun w => w.rel.isSome)).toNat)
    else tabGet pwmReset a.pwmW r
  | 1 => if 0x20 ≤ r then descWord x.s.cfg.active x.e ((r - 0x20) / 8) ((r - 0x20) % 8) else x.core.unit 1 r
  | _ => x.core.unit u r

/-- A register of unit 6 as URD reads it (R176–R179, R185). -/
def AxisIo.value (a : AxisIo) (r : Nat) : DWord :=
  match r with
  | 4 => a.position
  | 5 => a.count
  | _ => if 0x20 ≤ r then BitVec.ofNat 64 (tabGet (fun _ => 0) a.adc (r - 0x20)).toNat else a.reg r

/-- What a URD of unit 6 leaves: NEW of an ADC slot clears (R185). -/
def AxisIo.afterRead (a : AxisIo) (r : Nat) : AxisIo :=
  if 0x20 ≤ r then
    { a with adc := tabPut (fun _ => 0) a.adc (r - 0x20) (tabGet (fun _ => 0) a.adc (r - 0x20) &&& 0x7FFFFFFF) }
  else a

/-- URD (R148): unit 6 is an input, the others internal. -/
def execUrd (n : Fin 68) (s : State) : Out :=
  .next (s.engRun .urd n (fun x =>
    let u := fld x.w 10 8
    let r := fld x.w 7 0
    if u ≠ 6 then x.setRd (x.unitValue u r)
    else match x.replay? with
      | some i => x.done (x.replayed.withCore (x.core.setG (fRD x.w) i.status))
      | none =>
        let v := x.c.axis.value r
        x.liveIn s { status := v } (fun c => { c.withCore (c.core.setG (fRD x.w) v) with axis := c.axis.afterRead r })))

/-! ### TRJ (R149, R159, R160) -/

/-- A unit command that changed the core, with its status: OK, or BADPARAM. -/
def EngX.unitDone (x : EngX) (r : EngCore × Bool) : State := x.put (r.1.status (if r.2 then stOK else stBADPARAM))

/-- TRJ GO: a move to TARGET, or BADPARAM. -/
def execTrjGo (n : Fin 68) (s : State) : Out := .next (s.engRun .trjGo n (fun x => x.unitDone x.core.trjGo))
/-- TRJ STOP. -/
def execTrjStop (n : Fin 68) (s : State) : Out := .next (s.engRun .trjStop n (fun x => x.unitDone (x.core.trjStop, true)))
/-- TRJ QSTOP: BADPARAM where AMAX and JMAX serve instead of the quick-stop limits. -/
def execQstop (n : Fin 68) (s : State) : Out := .next (s.engRun .qstop n (fun x => x.unitDone x.core.trjQstop))
/-- TRJ STEP: the profile advances by one PERIOD; rd = the new position. -/
def execTrjStep (n : Fin 68) (s : State) : Out :=
  .next (s.engRun .trjStep n (fun x =>
    let k := x.core.trjStep x.period
    x.put ((k.setG (fRD x.w) (k.unit 0 8)).status stOK)))

/-! ### CAM (R150, R162–R168) -/

/-- The position that a STEP returns with SLAVE_OFS at 0: table value + k × RISE. -/
def camOut (d : CamDesc) (v : CamVal) : DWord := v.value + dw (v.k * d.rise.toInt)

/-- ENGAGE (R166): absolute, or relative to the slave position rb; BADPARAM where a reserved bit of ra is set, UNIT where
the table is not loaded. A relative ENGAGE reads the table in cam RAM (R89). -/
def execEngage (n : Fin 68) (ecc : Ecc) (s : State) : Out :=
  .next (s.engRun .engage n (fun x =>
    let w := x.ra.toNat
    let t := w % 8
    if w - t ≠ 0 ∧ w - t ≠ 256 then x.put (x.core.status stBADPARAM)
    else
      let d := s.activeDesc x.e t
      if !d.valid then x.exc 5
      else
        let engaged := fun (x : EngX) (ofs : DWord) =>
          x.put (((x.core.setUnit 1 8 ofs).setUnit 1 9 (BitVec.ofNat 64 (128 + t))).status stOK)
        if w < 256 then engaged x 0
        else x.eccRead ecc (fun x => engaged x (x.rb - camOut d (s.camAt x.e d (x.core.unit 1 1))))))

/-- DISENGAGE: ENGAGED clears. -/
def execDisengage (n : Fin 68) (s : State) : Out :=
  .next (s.engRun .disengage n (fun x => x.put ((x.core.setUnit 1 9 (x.core.unit 1 9 &&& 7)).status stOK)))

/-- CAM STEP (R167): OUT, OUT_VEL and rd from the engaged table at MSAMP; BADPARAM on a disengaged unit and on MSRC's
reserved KIND (R164). -/
def execCamStep (n : Fin 68) (ecc : Ecc) (s : State) : Out :=
  .next (s.engRun .camStep n (fun x =>
    let k := x.core
    let eg := (k.unit 1 9).toNat
    if !eg.testBit 7 || nbits (k.unit 1 0).toNat 7 6 == 3 then x.put (k.status stBADPARAM)
    else
      let d := s.activeDesc x.e (eg % 8)
      if !d.valid then x.exc 5
      else x.eccRead ecc (fun x =>
        let v := s.camAt x.e d (k.unit 1 1)
        let out := camOut d v + k.unit 1 8
        let vel := dToS (dMul (fOfRat fD v.slopeNum v.slopeDen) (sToD (k.unitS 1 2)))
        let k := ((k.status stOK).setUnit 1 0xA out).setUnit 1 0xB (BitVec.ofNat 64 vel)
        x.put { (k.setG (fRD x.w) out).setZ (v.k != k.camK) with camK := v.k })))

/-- VMSET (R165). -/
def execVmset (n : Fin 68) (s : State) : Out := .next (s.engRun .vmset n (fun x => x.put (x.core.vmset.status stOK)))

/-- CAMI (R150, R163): rd = the table SEL[2:0] at master position ra; Z where the master wrapped. -/
def execCami (n : Fin 68) (ecc : Ecc) (s : State) : Out :=
  .next (s.engRun .cami n (fun x =>
    let d := s.activeDesc x.e (fld x.w 2 0)
    if !d.valid then x.exc 5
    else x.eccRead ecc (fun x =>
      let v := s.camAt x.e d x.ra
      x.put ((x.core.setG (fRD x.w) v.value).setZ (d.cyclic && v.k != 0)))))

/-! ### LOOP, BIQ, LIM (R151, R152, R169–R171) -/

/-- LOOP RESET. -/
def execLoopReset (n : Fin 68) (s : State) : Out := .next (s.engRun .loopReset n (fun x => x.put (x.core.loopReset.status stOK)))
/-- BIQ RESET. -/
def execBiqReset (n : Fin 68) (s : State) : Out := .next (s.engRun .biqReset n (fun x => x.put (x.core.biqReset.status stOK)))

/-- LOOPX (R151, R169): UNIT where the entry stage is not enabled; Z where any stage was clamped. -/
def execLoopx (n : Fin 68) (s : State) : Out :=
  .next (s.engRun .loopx n (fun x =>
    let st := fld x.w 1 0
    if !x.core.loopOn st then x.exc 5
    else
      let r := x.core.loopx st x.ra x.rb x.period
      x.put ((r.1.setG (fRD x.w) (BitVec.ofNat 64 r.2.1)).setZ r.2.2)))

/-- BIQX (R152, R170): UNIT where CFG.EN is 0. -/
def execBiqx (n : Fin 68) (s : State) : Out :=
  .next (s.engRun .biqx n (fun x =>
    if !(x.core.unit 3 0x20).getLsbD 0 then x.exc 5
    else
      let r := x.core.biqx (x.ra.toNat % 2 ^ 32)
      x.put (r.1.setG (fRD x.w) (BitVec.ofNat 64 r.2))))

/-- LIMX (R152, R171): rd = the violations; Z where there are none. -/
def execLimx (n : Fin 68) (s : State) : Out :=
  .next (s.engRun .limx n (fun x =>
    let r := x.core.limx x.ra x.rb
    x.put ((r.1.setG (fRD x.w) (BitVec.ofNat 64 r.2)).setZ (r.2 == 0))))

/-! ### PWM (R173) -/

/-- APPLY: an effect that lets the latched writes go. -/
def execApply (n : Fin 68) (s : State) : Out :=
  .next (s.engRun .apply n (fun x =>
    { x with c := x.c.withCore (x.core.status stOK) }.effect (.unitCmd 5 0) (fun s => s.setLeng x.e { s.leng x.e with axis := (s.leng x.e).axis.apply s.time })))

end Sys2Proof.Machine
end

