-- ==== Sys2Proof/Machine/EngineRows.lean ====
section
/-!
DEFINITION. Sys2Proof/Machine/EngineRows.lean: what comes to an engine from outside (04_axis_engines.md): triggers, strobes,
mismatches, the watchdog, the host's orders, migration.
-/
namespace Sys2Proof.Machine

/-! ### Triggers (R91–R96, R106–R108) -/

/-- A CYCLE trigger at physical engine `n`, with its DATA and instant. -/
def State.cycleAt (s : State) (n e : Nat) (data : Word) (t : DWord) : State :=
  let c := s.leng e
  if !s.getB (Reg.ENG_CTL n) 0 then s
  else if c.mig.any (fun g => g.failed) then s.loseCycle n e
  else if s.engState n = 2 then s.boundary n e data t
  else if s.inCycle n then
    if s.getB (Reg.ENG_CTL n) 3 then (s.loseCycle n e).raise e 0x10
    else if c.latched.isSome then s.loseCycle n e
    else ((s.setLeng e { c with latched := some (data, t) }).setB (Reg.ENG_STAT n) 6 true).raise e 0x10
  else if c.awaits then s.loseCycle n e
  else s

/-- CYCLE (R91): the delivered trigger of logical engine `e` takes effect, in a domain that is ON. -/
def execCycle (e : Fin 64) (s : State) : Out :=
  match s.due? 1 e 0, s.physOf e with
  | some d, some n =>
    if s.domOn (domEngine n) then .next ((s.taken d).cycleAt n e d.act.data d.instant) else .next s
  | _, _ => .next s

/-- SIGNAL (R48, R92, R144): the mask is ORed into the trigger flags. -/
def execSignal (e : Fin 64) (s : State) : Out :=
  match s.due? 1 e 1 with
  | some d =>
    let s := s.taken d
    .next (s.setLeng e ((s.leng e).signal d.act.data))
  | none => .next s

/-- The strobes of `t` that have come due, in the order of their delivery. -/
def State.strobesDue (s : State) (t : Nat) : List Delivered :=
  s.act.delivered.filter (fun d => d.act.kind == 2 && d.act.tgt == t && s.reached d.instant)

/-- A strobe that waits for its clock edge is replaced by a later one, and lost (R207). -/
def State.loseStrobe (s : State) (t : Nat) (d : Delivered) : State :=
  ((s.taken d).setB (Reg.SEC_STB_OVR (t / 8)) (t % 8) true).raise (64 + t / 8) 4

/-- STROBE (R48, R207): a strobe of `t` that has come due replaces the one that waits; the last is presented, its word and the pulse
STB[n], at the first edge of its clock at least 2.5 ns after DUE. It waits while the clock is gated, and during
the quiet interval of a Front that switches the sector (R283). -/
def execStrobe (t : Fin 384) (s : State) : Out :=
  match (s.strobesDue t).reverse with
  | [] => .next s
  | last :: lost =>
    let sec := t.val / 8
    let s := lost.foldl (fun s d => s.loseStrobe t d) s
    if s.strobeRuns t && !s.quietAt sec (last.instant + units unitsPerTick) && !s.quietFor sec && !s.boot.clear &&
        s.reached (last.instant + units unitsPerTick) then
      let s := (s.taken last).setR (Reg.SEC_STB_DATA sec (t.val % 8)) last.act.data
      let x := s.sector sec
      .next (s.setSector sec { x with stb := if x.stb.contains (t.val % 8) then x.stb else x.stb ++ [t.val % 8] })
    else .next s

/-! ### Faults (R101–R106, R118) -/

/-- LOCKSTEP_MISMATCH (R101): the shadow of physical engine `n` disagrees at compare bit `bit`. -/
def execLockstepMismatch (n : Fin 68) (bit : Fin 64) (s : State) : Out :=
  match s.logicalOf n with
  | some e => if s.inCycle n && s.domOn (domEngine n) then .next (s.mismatch n e bit) else .next s
  | none => .next s

/-- LIM of the watchdog in percent (R118, R123). -/
def State.wdtLim (s : State) (n : Nat) : Nat := max 50 (min 100 (s.getF (Reg.ENG_WDT n) 6 0))

/-- ENGINE_WATCHDOG (R118): LIM percent of PERIOD after the boundary, and no CEND. -/
def execEngineWatchdog (n : Fin 68) (s : State) : Out :=
  match s.logicalOf n with
  | some e =>
    if s.inCycle n && decide ((s.wdtLim n * s.period n : Nat) ≤ 100 * tdiff s.time (s.leng e).bound) then
      .next ((s.raise e 0x40).abandon n e)
    else .next s
  | none => .next s

/-! ### The host's orders (R96, R107–R110, R123) -/

/-- RUN_EN cleared (R96): a latched trigger is dropped. -/
def State.clearRun (s : State) (n : Nat) : State :=
  let s := (s.setB (Reg.ENG_CTL n) 0 false).setB (Reg.ENG_STAT n) 6 false
  match s.logicalOf n with
  | some e => s.setLeng e { s.leng e with latched := none }
  | none => s

/-- RUN_EN_CLEAR (R96): RUN_EN of physical engine `n` goes from 1 to 0. -/
def execRunEnClear (n : Fin 68) (s : State) : Out := .next (if s.getB (Reg.ENG_CTL n) 0 then s.clearRun n else s)

/-- A command ignored: CMD_ERR (R110, R123). -/
def State.engIgnored (s : State) (n : Nat) : State := s.setB (Reg.ENG_STAT n) 9 true

/-- MIGRATE to `m` on physical engine `n` (R110): the state, and whether it was taken. -/
def State.migrate (s : State) (n m : Nat) (c : Option CmdRef) : State × Bool :=
  match s.logicalOf n with
  | some e =>
    if m < 68 ∧ s.engState m = 6 ∧ (s.leng e).mig = none then (s.startMigration n m e { target := m, cmd := c }, true)
    else (s.engIgnored n, false)
  | none => (s.engIgnored n, false)

/-- HALT_CLR on physical engine `n` (R110): from HALT between cycles, from the checkpoint; the fault levels stay (R174). -/
def State.haltClr (s : State) (n : Nat) : State × Bool :=
  match s.logicalOf n with
  | some e => if s.engState n = 5 then ((s.setLeng e { (s.leng e).restored with failHalt := false }).setEngState n 2, true) else (s.engIgnored n, false)
  | none => (s.engIgnored n, false)

/-- REINSTATE on physical engine `n` (R109, R480): RETIRED, with a complete Drizzle pass since then. -/
def State.reinstate (s : State) (n : Nat) : State × Bool :=
  if s.engState n = 7 ∧ (s.logicalOf n).isNone = true ∧ s.tst.clean.contains (unitKey 0 n) = true then
    (((s.setEngState n 6).resolveLog 0 n).freeTarget n, true)
  else (s.engIgnored n, false)

/-- A write of ENG[n].CTL (R123): its RW fields, then RUN_EN's clearing and the orders of [18:16]. -/
def State.writeEngCtl (s : State) (n : Nat) (w : Word) : State :=
  let was := s.getB (Reg.ENG_CTL n) 0
  let s := s.store (Reg.ENG_CTL n) w
  let s := if was && !bitOf w 0 then s.clearRun n else s
  let s := if bitOf w 16 then (s.migrate n (s.getF (Reg.ENG_CTL n) 14 8) none).1 else s
  let s := if bitOf w 17 then (s.haltClr n).1 else s
  if bitOf w 18 then (s.reinstate n).1 else s

/-- An order of ENG[n].CTL by the register: a write with its bit set. -/
def State.engOrder (s : State) (n bit : Nat) (w : Word) : State :=
  if n < 68 ∧ bitOf w bit = true then s.writeEngCtl n w else s

/-- The physical engine that an order's command names by logical engine `e`. -/
def State.orderHolder (s : State) (e : Nat) : Option Nat := if e < 64 then s.physOf e else none

/-- MIGRATE (R110): by CTL, or by the command, whose final reply waits for the switch. -/
def execMigrate (v : ViaN) (s : State) : Out :=
  match v with
  | .reg n w => .next (s.engOrder n 16 w)
  | .cmd c =>
    match s.turn c 9 2 with
    | none => .next s
    | some x =>
      match s.orderHolder (beAt x.payload 0 1) with
      | none => .next (s.replyTo x csBADPARAM true [])
      | some n =>
        let m := beAt x.payload 1 1
        if 68 ≤ m then .next (s.replyTo x csBADPARAM true [])
        else
          let r := (s.pendingReply x).migrate n m (some c)
          .next (if r.2 then r.1 else r.1.finish c csBUSY [])

/-- HALT_CLR (R110). -/
def execHaltClr (v : ViaN) (s : State) : Out :=
  match v with
  | .reg n w => .next (s.engOrder n 17 w)
  | .cmd c =>
    match s.turn c 9 3 with
    | none => .next s
    | some x =>
      match s.orderHolder (beAt x.payload 0 1) with
      | none => .next (s.replyTo x csBADPARAM true [])
      | some n =>
        let r := s.haltClr n
        .next (r.1.replyTo x (if r.2 then csOK else csBUSY) true [])

/-- REINSTATE (R109). -/
def execReinstate (v : ViaN) (s : State) : Out :=
  match v with
  | .reg n w => .next (s.engOrder n 18 w)
  | .cmd c =>
    match s.turn c 9 4 with
    | none => .next s
    | some x =>
      let n := beAt x.payload 0 1
      if 68 ≤ n then .next (s.replyTo x csBADPARAM true [])
      else
        let r := s.reinstate n
        .next (r.1.replyTo x (if r.2 then csOK else csBUSY) true [])

/-- Every named logical engine's holder under `f`. -/
def State.overMask (s : State) (mask : Nat) (f : State → Nat → State) : State :=
  (bitsSet 64 mask).foldl (fun s e => match s.physOf e with
    | some n => f s n
    | none => s) s

/-- ENG_RUN (R96, R399): RUN_EN of the engines of the mask is set. -/
def execEngRun (c : CmdRef) (s : State) : Out :=
  match s.turn c 9 0 with
  | none => .next s
  | some x =>
    .next ((s.overMask (beNat x.payload) (fun s n => s.setB (Reg.ENG_CTL n) 0 true)).replyTo x csOK true [])

/-- ENG_HOLD (R96, R399): RUN_EN of the engines of the mask is cleared. -/
def execEngHold (c : CmdRef) (s : State) : Out :=
  match s.turn c 9 1 with
  | none => .next s
  | some x => .next ((s.overMask (beNat x.payload) State.clearRun).replyTo x csOK true [])

/-- ENG.STAT as it reads: STATE is 0 while the domain is OFF, 1 in RET (R123). -/
def State.engStatRead (s : State) (n : Nat) : Word :=
  let w := s.getR (Reg.ENG_STAT n)
  match s.domState (domEngine n) with
  | 1 => setFld w 3 0 1
  | 2 => setFld w 3 0 0
  | _ => w

/-- ENG_STAT (R399): MAP, STAT, CAUSE and LOST of the holder; LOST is not cleared. -/
def execEngStat (c : CmdRef) (s : State) : Out :=
  match s.turn c 9 5 with
  | none => .next s
  | some x =>
    match s.orderHolder (beAt x.payload 0 1) with
    | none => .next (s.replyTo x csBADPARAM true [])
    | some n =>
      .next (s.replyTo x csOK true ([s.getR (Reg.ENG_MAP n), s.engStatRead n, s.getR (Reg.ENG_CAUSE n),
        s.getR (Reg.ENG_LOST n)].flatMap (fun w => beBytes 4 w.toNat)))

/-! ### Memories, mailboxes and far code from outside (R89, R111, R116) -/

/-- DATA_RAM_HOST_WRITE (R89): word `k` of data RAM through the window of physical engine `n`; in a cycle it waits for the
cycle's end. -/
def execDataRamHostWrite (n : Fin 68) (k : Fin 16384) (w : Word) (s : State) : Out :=
  .next (s.hostRam n (4 * k) (leBytes 4 w.toNat))

/-- FLUSH (R116, R117): the far-code cache is invalidated, but not while a far routine executes. -/
def State.farFlush (s : State) (n : Nat) : State :=
  match s.logicalOf n with
  | none => s
  | some e => if (s.leng e).inFar then s else s.setLeng e { s.leng e with far := [] }

/-- FAR_FLUSH (R116, R117). -/
def execFarFlush (n : Fin 68) (s : State) : Out := .next (s.farFlush n)

/-- The value that a _HI write of `w` to mailbox `m` of physical engine `n` commits (R7, R111): the held _LO, or the low
half that the mailbox holds. -/
def State.mailboxHi (s : State) (n m : Nat) (w : Word) : State :=
  match s.logicalOf n with
  | none => s
  | some e =>
    let a := Reg.ENG_MBOX n m
    let lo := (s.pairHeld.find? (fun p => p.1 == a)).map Prod.snd |>.getD (loW ((s.leng e).mbox.find? (fun p => p.1 == m) |>.map Prod.snd |>.getD 0))
    ({ s with pairHeld := tabErase s.pairHeld a }.mailWrite e m (pairW lo w) (.host none)).1

/-- MBOX_WRITE (R111, R112): by the _HI register or by the command. -/
def execMboxWrite (v : MboxVia) (s : State) : Out :=
  match v with
  | .reg n m w => .next (s.mailboxHi n m w)
  | .cmd c =>
    match s.turn c 9 6 with
    | none => .next s
    | some x =>
      let e := beAt x.payload 0 1
      let m := beAt x.payload 1 1
      if 64 ≤ e ∨ 16 ≤ m then .next (s.replyTo x csBADPARAM true [])
      else
        let r := s.mailWrite e m (BitVec.ofNat 64 (beAt x.payload 2 8)) (.host (some c))
        .next (if r.2.isSome || (s.physOf e).isNone then r.1.replyTo x csOK true [] else r.1.awaitReply x)

/-! ### Migration (R107) -/

/-- MIGRATION_COPY_DONE (R107): the first copy into the target has completed; a failed source switches at once. -/
def execMigrationCopyDone (e : Fin 64) (s : State) : Out :=
  match (s.leng e).mig, s.physOf e with
  | some g, some n =>
    if g.waits || g.copied && g.passing.isEmpty || !s.domOn (domEngine g.target) || !s.domOn (domEngine n) then .next s
    else
      let d := g.dirty
      let again := decide (512 < d.length)
      let g1 := { g with copied := true, passing := if again then d else [], dirty := if again then [] else d }
      let s1 := s.setLeng e { s.leng e with mig := some g1 }
      .next (if g.failed then s1.afterFailure n e g1 else s1)
  | _, _ => .next s

end Sys2Proof.Machine
end

