-- ==== Sys2Proof/Machine/Pins.lean ====
section
/-!
DEFINITION. Sys2Proof/Machine/Pins.lean: what a user I/O pin shows (R60, R174, R215, R288, R298, R299, R303, R307).
-/
namespace Sys2Proof.Machine

/-- Frost state of pin `p` in the active plane (R299): 0 high-Z, 1 pull-up, 2 pull-down, 3 drive 0, 4 drive 1. -/
def State.frostCode (s : State) (p : Nat) : Nat :=
  let f := planeFrame s.cfg.active (frameAddr 5 63 0)
  (frameBit f (3 * p)).toNat + 2 * (frameBit f (3 * p + 1)).toNat + 4 * (frameBit f (3 * p + 2)).toNat

/-- Output enable and level of a Frost state. -/
def frostPad (c : Nat) : Bool × Bool := (c == 3 || c == 4, c == 4)

/-- Pull of a Frost state: some true up, some false down. -/
def frostPull (c : Nat) : Option Bool := if c = 1 then some true else if c = 2 then some false else none

/-- The probe channel that drives pin `p` (R215). -/
def State.probeOn (s : State) (p : Nat) : Option Nat :=
  (List.range 64).find? (fun c => s.getB (Reg.TST_PRB_PIN c) 31 && s.getF (Reg.TST_PRB_PIN c) 10 0 == p)

/-- Pin `p` is owned by a PWM output of an engine that has applied nothing since Thaw (R174). -/
def State.pwmWaits (s : State) (p : Nat) : Bool :=
  match s.pwmOwner p with
  | some (e, _) => !(s.leng e).axis.started
  | none => false

/-- Output enable and level of pin `p` as its configuration gives them after Thaw (R60, R174, R215). What the
fabric gave when its sector's clocks stopped stands until the sector is ON again (R429, R439). -/
def State.padLive (s : State) (p : Nat) : Bool × Bool :=
  match s.probeOn p with
  | some c =>
    (true, s.probeLevel c)
  | none =>
    let c := s.pin p
    if s.pwmWaits p then frostPad (s.frostCode p)
    else if c.output then ((s.cell p).drive, (s.cell p).out)
    else match c.axis.bind (fun a => s.axisClock a.1 a.2) with
      | some level => (true, level)
      | none =>
        if c.fabric && decide (c.sector < 48) then
          if s.domOn (domSector c.sector) then s.fabricPad p
          else tabGet (fun _ => (false, false)) (s.domX (domSector c.sector)).pads p
        else (false, false)

/-- Output enable and level of pad `p`: high-Z without supply, under RESET_N, under HIGHZ and before the profile is in force; what the
boundary-scan register gives it under EXTEST and CLAMP (R486); its Frost
state until Thaw; what it held at TF during a crossing hold; then what its configuration gives it. -/
def State.pad (s : State) (p : Nat) : Bool × Bool :=
  if !s.boot.supply || s.boot.resetN || s.tst.jtag == 4 then (false, false)
  else if s.tst.jtag = 0 ∨ s.tst.jtag = 3 then Config.boundaryPad p s.time
  else if !s.thawed then (if s.boot.frost then frostPad (s.frostCode p) else (false, false))
  else match (if s.front.holdOver then none else s.front.held.find? (fun h => h.pin == p)) with
    | some h => (h.drive, h.level)
    | none => s.padLive p

/-- The weak pull of pad `p` (R48, R288, R298, R299): none without supply, under RESET_N and before the profile is in force; that of
its Frost state until Thaw, and on while a PWM output that owns it has not started (R174); what it had at TF during a crossing
hold; then the configured pull. Some true: up. -/
def State.padPull (s : State) (p : Nat) : Option Bool :=
  if !s.boot.supply || s.boot.resetN then none
  else if !s.thawed then (if s.boot.frost then frostPull (s.frostCode p) else none)
  else match (if s.front.holdOver then none else s.front.held.find? (fun h => h.pin == p)) with
    | some h => h.pull
    | none =>
      if s.pwmWaits p then frostPull (s.frostCode p)
      else match (s.pin p).pull.toNat with
        | 1 => some true
        | 2 => some false
        | _ => none

end Sys2Proof.Machine
end

