-- ==== Sys2Proof/Machine/Front.lean ====
section
/-!
DEFINITION. Sys2Proof/Machine/Front.lean: the rows of the Front (10_front_switching.md): arming, verification, the vote, the commit, the
switch and its end.
-/
namespace Sys2Proof.Machine

/-- STATE of CFG_FRONT_STAT: 0 IDLE, 1 ARMED, 2 VOTED, 3 COMMITTED, 4 SWITCHING. -/
def State.frontState (s : State) : Nat := s.getF Reg.CFG_FRONT_STAT 2 0

/-! ### Arming (R273–R275, R278) -/

/-- The refusals of an arm, in their order (R274). -/
def State.armCheck (s : State) (f : Front) : Nat :=
  let sync := s.isMaster || (s.tbMode == 2 && s.getB Reg.CLK_TB_STAT 2)
  if !s.thawed || s.inServiceMode then 7
  else if s.cfg.staging.isSome || s.frontState != 0 then 2
  else if s.stgState ≠ (if f.dir = 0 then 2 else 4) ∨ s.slotState (s.getF Reg.CFG_STG_STAT 5 4) ≠ 2 then 1
  else if f.tf.toNat % 160 ≠ 0 ∨ tdiff f.tf f.d < (2 * unitsPerUs : Nat) ∨ (60000 * unitsPerMs : Nat) < tdiff f.tf s.time then 3
  else if tdiff f.d s.time < (1500 * unitsPerUs : Nat) then 4
  else if f.scope = 1 ∧ f.part.testBit s.station = false then 5
  else if s.degraded || (f.scope == 1 && !sync) then 6
  else 0

/-- A Drizzle slice of an engine on logical engine `e` is aborted (R471, R275). -/
def State.abortEngineTest (s : State) (e : Nat) : State :=
  match (s.dtype 0).slice with
  | none => s
  | some sl =>
    match sl.heldBy with
    | none => s
    | some m =>
      match (s.leng e).mig with
      | some g =>
        if g.drizzle && g.target == m then
          let s := s.setLeng e { s.leng e with mig := none }
          let s := (s.setHold (domEngine sl.unit) holdCopy false).setHold (domEngine m) holdCopy false
          ((s.setEngState m 6).noteAborted 0).setDtype 0 { s.dtype 0 with slice := none }
        else s
      | none =>
        if s.logicalOf m = some e then
          match s.abortEngineSlice with
          | some r => r.1
          | none => s
        else s

/-- The Drizzle slices on the units of the staged set are aborted (R275). -/
def State.abortStaged (s : State) : State :=
  let s := (bitsSet 64 s.stgEngines).foldl (fun s e => s.abortEngineTest e) s
  [1, 2].foldl (fun s k =>
    if (s.dtype k).slice.any (fun sl => s.stgSectors.testBit (sl.unit / 33)) then s.abortMem k else s) s

/-- A notice agrees with the armed Front in all five fields (R277). -/
def Front.agrees (f : Front) (n : FrontNotice) : Bool :=
  n.seq == f.seq && n.dir == f.dir && n.tf == f.tf && n.d == f.d && n.part == f.part

/-- The device votes when its verification has passed and it holds the notices, before the vote closes (R277, R279). -/
def State.tryVote (s : State) : State :=
  if s.frontState = 1 ∧ s.front.verified = true ∧ s.noticesHeld = true ∧
      before s.time (s.front.d - units unitsPerUs) = true then
    let s := s.setF Reg.CFG_FRONT_STAT 2 0 2
    if s.front.scope = 1 then s.driveDone else s
  else s

/-- The arm notice (R277, R370, R374): SEQ, DIR, TF, D and PARTICIPANTS in three payload words. -/
def State.sendNotice (s : State) : State :=
  let f := s.front
  let r := s.newMsg 6 0 0 [f.tf, f.d, BitVec.ofNat 64 (f.part <<< 32 + f.dir <<< 16 + f.seq)]
  r.1.flood none r.2

/-- A cabinet Front at its arm (R277, R278): DONE low, the notice, and the kept notices. -/
def State.armCabinet (s : State) : State :=
  let s := s.driveDone.sendNotice
  let kept := s.front.notices.filter (fun n => n.seq == s.front.seq)
  let s : State := { s with front := { s.front with notices := kept } }
  let s := (kept.filter (fun n => s.front.agrees n)).foldl (fun s n => s.setB Reg.CFG_FRONT_NOTICE n.station true) s
  if kept.any (fun n => !s.front.agrees n) then s.frontCancel 4 else s

/-- An arm with the fields `f` (R274, R275). Answers its status. -/
def State.arm (s : State) (f : Front) : State × Nat :=
  let c := s.armCheck f
  if c ≠ 0 then ((s.setF Reg.CFG_FRONT_STAT 7 4 c).raise 164 2, c)
  else
    let s : State := { s with front := { s.front with
      seq := f.seq, dir := f.dir, scope := f.scope, part := f.part, tf := f.tf, d := f.d, verified := false } }
    let s := (((s.setF Reg.CFG_FRONT_STAT 7 4 0).setF Reg.CFG_FRONT_STAT 31 16 f.seq).setF Reg.CFG_FRONT_STAT 2 0 1).raise 164 1
    let s := s.setR Reg.CFG_FRONT_NOTICE (BitVec.ofNat 32 (2 ^ s.station))
    let s := s.fifoPush 83 (encodeRec { due := f.tf, kind := 6, inner := 6, tgt := 0, op := f.dir, tag := 0xFF, station := 0,
                                        data := BitVec.ofNat 32 f.seq }) .config
    let s := (s.stgDomains.foldl (fun s d => s.holdAndWake d holdFront 7) s).abortStaged
    (if f.scope = 1 then s.armCabinet else s, 0)

/-- A host cancel (R280, R281): refused from D on. Answers whether it was too late. -/
def State.hostFrontCancel (s : State) : State × Bool :=
  let s := s.closeVote
  let st := s.frontState
  if st = 3 ∨ st = 4 ∨ ((st = 1 ∨ st = 2) ∧ atOrAfter s.time s.front.d = true) then (s, true) else (s.frontCancel 1, false)

/-- A write of CFG_FRONT_CTL (R273): CANCEL acts before ARM. -/
def State.writeFrontCtl (s : State) (w : Word) : State :=
  let s := s.store Reg.CFG_FRONT_CTL w
  let s := if bitOf w 1 then s.hostFrontCancel.1 else s
  if bitOf w 0 then
    (s.arm { seq := fld w 31 16, dir := fld w 4 4, scope := fld w 5 5, part := s.getF Reg.CFG_FRONT_PART 15 0,
             tf := s.getD Reg.CFG_FRONT_TIME, d := s.getD Reg.CFG_FRONT_DL }).1
  else s

/-- FRONT_ARM (R273): ARM of CFG_FRONT_CTL, or the command: TF, D, PARTICIPANTS, SEQ, DIR, SCOPE. -/
def execFrontArm (v : Via) (s : State) : Out :=
  match v with
  | .reg w => if bitOf w 0 then .next (s.writeFrontCtl w) else .next s
  | .cmd c =>
    match s.turn c 4 0 with
    | none => .next s
    | some x =>
      let p := x.payload
      if 1 < beAt p 20 1 ∨ 1 < beAt p 21 1 then .next (s.replyTo x csBADPARAM true [])
      else
        let r := s.arm { seq := beAt p 18 2, dir := beAt p 20 1, scope := beAt p 21 1, part := beAt p 16 2,
                         tf := BitVec.ofNat 64 (beAt p 0 8), d := BitVec.ofNat 64 (beAt p 8 8) }
        .next (r.1.replyTo x (if r.2 = 0 then csOK else csOf 3 r.2) true (beBytes 1 r.2))

/-- FRONT_CANCEL (R280, R281): CANCEL of CFG_FRONT_CTL, or the command. -/
def execFrontCancel (v : Via) (s : State) : Out :=
  match v with
  | .reg w => if bitOf w 1 then .next (s.writeFrontCtl w) else .next s
  | .cmd c =>
    match s.turn c 4 1 with
    | none => .next s
    | some x =>
      let r := s.hostFrontCancel
      .next (r.1.replyTo x (if r.2 then csTOOLATE else csOK) true [])

/-- FRONT_STAT (R399): CFG_FRONT_STAT, NOTICE and LAST. -/
def execFrontStat (c : CmdRef) (s : State) : Out :=
  match s.turn c 4 2 with
  | none => .next s
  | some x => .next (s.replyTo x csOK true (beBytes 4 (s.getR Reg.CFG_FRONT_STAT).toNat ++
      beBytes 4 (s.getR Reg.CFG_FRONT_NOTICE).toNat ++ beBytes 8 (s.getD Reg.CFG_FRONT_LAST).toNat))

/-! ### Verification and the vote (R276–R281) -/

/-- Frame `a` belongs to the staged set's planes: those of its sectors, of its engines, and its pin frames (R272, R276). -/
def State.stagedFrame (s : State) (a : Nat) : Bool :=
  match fClass a with
  | 0 | 1 | 4 => s.stgSectors.testBit (fSector a)
  | 2 => s.stgEngines.testBit (fEngine a)
  | 3 => s.cfg.stgPins.contains (fIndex a)
  | _ => false

/-- One frame that does not match, rewritten from the source slot as the readback rewrites it (R268, R269, R276). Answers whether
no rewrite has failed. -/
def State.verifyFrame (r : State × Bool) (m : BitVec 32 × Bool) : State × Bool :=
  if r.1.stagedFrame m.1.toNat then
    let x := r.1.rewriteFrame true m.1.toNat m.2
    (if x.2 then x.1.raise 168 2 else x.1, r.2 && x.2)
  else r

/-- VERIFY_DONE (R276): every frame of the staged planes has been compared, once the units are ON. `bad`: the frames that did not
match their CRC, in ascending order, and whether each one's source could be read; each is rewritten as R268 rewrites it, or its
rewrite fails under R269. -/
def execVerifyDone (bad : List (BitVec 32 × Bool)) (s : State) : Out :=
  let s := s.closeVote
  if s.frontState ≠ 1 ∨ s.front.verified = true ∨ s.stgDomains.all (fun d => s.domOn d) = false then .next s
  else
    let r := bad.foldl State.verifyFrame (s, true)
    if r.2 then .next ({ r.1.raise 168 1 with front := { r.1.front with verified := true } } : State).tryVote
    else .next (r.1.frontCancel 2)

/-- NOTICE (R277, R278, R280, R374): a notice is passed on, kept until D + 1 us, and held against an armed cabinet Front. -/
def execNotice (m : LaneMsg) (seq : BitVec 16) (dir : Bool) (tf d : DWord) (part : BitVec 16) (s : State) : Out :=
  let l := m.lane.val
  if !m.ok then .next (s.badCrc l)
  else if !s.treeLane l || m.src.val == s.station then .next s
  else
    let n : FrontNotice := ⟨m.src, seq.toNat, dir.toNat, tf, d, part.toNat⟩
    let s := s.closeVote.flood (some l) {
      typ := 6, src := m.src, seq := m.seq.toNat, payload := [tf, d, BitVec.ofNat 64 (n.part <<< 32 + n.dir <<< 16 + n.seq)] }
    let others := s.front.notices.filter (fun k => k.station != n.station)
    let s : State := if before s.time (d + units unitsPerUs) then { s with front := { s.front with notices := others ++ [n] } } else s
    if s.front.scope ≠ 1 ∨ (s.frontState ≠ 1 ∧ s.frontState ≠ 2) then .next s
    else if n.seq ≠ s.front.seq then .next (s.frontCancel 16)
    else if s.front.agrees n then .next (s.setB Reg.CFG_FRONT_NOTICE n.station true).tryVote
    else .next (s.frontCancel 4)

/-- NOTICE_EXPIRY (R278): the notice kept of station `st` is dropped at D + 1 us of it. -/
def execNoticeExpiry (st : Fin 16) (s : State) : Out :=
  .next { s with front := { s.front with
    notices := s.front.notices.filter (fun n => !(n.station == st.val && atOrAfter s.time (n.d + units unitsPerUs))) } }

/-- VOTE_CLOSE (R279): at D − 1 us a device that is not VOTED cancels. -/
def execVoteClose (s : State) : Out := .next s.closeVote

/-- FRONT_COMMIT (R279): at D a VOTED device samples DONE, and commits or cancels. `line`: no other device pulls DONE low. -/
def execFrontCommit (line : Bool) (s : State) : Out :=
  if s.frontState = 2 ∧ atOrAfter s.time s.front.d = true then
    if s.front.scope = 1 ∧ (line && s.getB Reg.DEV_START_STAT 0) = false then .next (s.frontCancel 8)
    else .next ((s.setF Reg.CFG_FRONT_STAT 2 0 3).raise 165 1)
  else .next s

/-- DONE_HOLD_END (R279): at D + 1 us a device that cancelled releases DONE. -/
def execDoneHoldEnd (s : State) : Out :=
  match s.front.doneUntil with
  | some d =>
    if atOrAfter s.time (d + units unitsPerUs) then .next ({ s with front := { s.front with doneUntil := none } } : State).driveDone
    else .next s
  | none => .next s

/-! ### The switch (R272, R282–R289) -/

/-- The frames that a Front exchanges but for the engines': of the switching sectors, and the staged pin frames (R272). -/
def State.switches (s : State) (a : Nat) : Bool :=
  match fClass a with
  | 0 | 1 | 4 => s.stgSectors.testBit (fSector a)
  | 3 => s.cfg.stgPins.contains (fIndex a)
  | _ => false

/-- The units whose sources change places: switching sectors, switching engines, staged pin frames (R243). -/
def State.switchUnits (s : State) : List Nat :=
  bitsSet 48 s.stgSectors ++ (bitsSet 64 s.stgEngines).map (fun e => 48 + e) ++ s.cfg.stgPins.map (fun i => 112 + i)

/-- The registers that show what a sector's interface frames name: RCLK, STB, PI, and the gate value (R203, R207, R208). -/
def State.loadInterface (s : State) (i : Nat) : State :=
  let f := s.interfaceFrames i
  let s := (List.range 16).foldl (fun s j => s.setR (Reg.SEC_RCLK i j) (decoded f 0 (fun f => Config.rclkOf f j) &&& 0x9F)) s
  let s := (List.range 8).foldl (fun s n => s.setR (Reg.SEC_STB i n) (decoded f 0 (fun f => Config.strobeOf f n) &&& 0x8F)) s
  let s := (List.range 8).foldl (fun s n => s.setR (Reg.SEC_PI i n) (decoded f 0 (fun f => Config.portOf f n) &&& 0x80003F03)) s
  s.setF (Reg.SEC_RCLK_GATE i) 15 0 (decoded f 0 Config.gateOf).toNat

/-- Bit `k` of the carry map of sector `i` in the active plane: flip-flop index, or 24,576 + k for role bits (R284). -/
def State.carried (s : State) (i k : Nat) : Bool :=
  frameBit (planeFrame s.cfg.active (frameAddr 4 i (k / 4096))) (k % 4096)

/-- What a sector carries and what it loses at the Front tick, under its new carry map (R237, R282, R285). -/
def State.switchSector (s : State) (i : Nat) : State :=
  let x := s.sector i
  let role := fun k => s.carried i (24576 + k)
  let s := s.setSector i { x with
    ffs := x.ffs.filter (fun f => s.carried i f), disc := [], stb := [], evp := [], reqSeen := [], sync := [],
    bramRd := x.bramRd.filter (fun p => role (p.1 / 2)), bramOut := x.bramOut.filter (fun p => role (p.1 / 2)),
    bramErr := x.bramErr.filter (fun k => role (k / 2)),
    mulP := x.mulP.filter (fun p => role (32 + p.1)), mulOvf := x.mulOvf.filter (fun k => role (32 + k)),
    mulIn := x.mulIn.filter (fun p => role (32 + p.1 / 3)) }
  let s := s.loadBuffers i role
  let busy := ((List.range 32).map (fun k => if role k then 0 else 2 ^ k)).sum
  (s.setR (Reg.SEC_MEM_INIT_BUSY i) (BitVec.ofNat 32 busy)).loadInterface i

/-- A switching engine (R119, R289): between cycles its planes swap now; else FRONT_PEND. -/
def State.switchEngineAt (s : State) (e : Nat) : State :=
  match s.physOf e with
  | none => s
  | some n => if s.inCycle n then (s.setB (Reg.ENG_STAT n) 7 true).raise 169 1 else s.swapPlanes n e

/-- The I/O configuration and the axis signal of a pin, without its owner (R288). -/
def pinIo (c : Config.PinCfg) : Config.PinCfg := { c with sector := 63 }

/-- The pins that the crossing hold holds (R288), with the level, the output enable and the pull that they have now. -/
def State.heldPins (s : State) (new : List (Nat × List Byte)) : List HeldPin :=
  let own := fun (c : Config.PinCfg) => decide (c.sector < 48) && s.stgSectors.testBit c.sector
  ((List.range 1152).filter (fun p =>
    let a := s.pin p
    let b := pinOf new p
    (own a || own b) && (a.fabric || b.fabric || pinIo a != pinIo b))).map
      (fun p => ⟨p, (s.pad p).2, (s.pad p).1, s.padPull p⟩)

/-- The PWM signal of a pin: logical engine and output (R180). -/
def pwmSignal (c : Config.PinCfg) : Option (Nat × Nat) := c.axis.filter (fun a => decide (a.2 < 6))

/-- The launch cell of pin `p` after the mux has changed (R60, R181): a PWM signal that comes to the pin brings its level and its
edges still to come; what one that leaves had queued goes with it, and the pin keeps its last level. -/
def State.movedCell (s : State) (old new : List (Nat × List Byte)) (p : Nat) : LaunchCell :=
  let c := s.cell p
  let c := if (pwmSignal (pinOf old p)).isSome then { c with queue := [] } else c
  match pwmSignal (pinOf new p) with
  | none => c
  | some (e, k) =>
    match (pinsOf old e k).head?.map s.cell with
    | some o => { queue := o.queue.foldl launchInsert c.queue, out := o.out, drive := o.drive }
    | none =>
      match tabGet (fun _ => 3) (s.leng e).axis.pwmOut k with
      | 0 => { c with out := false, drive := true }
      | 1 => { c with out := true, drive := true }
      | 2 => { c with drive := false }
      | _ => c

/-- The launch cells of the pins whose PWM signal changes at a Front, each from what the cells held before (R181). -/
def State.movePwms (s : State) (old new : List (Nat × List Byte)) : State :=
  ((List.range 1152).filter (fun p => pwmSignal (pinOf old p) != pwmSignal (pinOf new p))).foldl
    (fun t p => t.setCell p (s.movedCell old new p)) s

/-- A bay-port transfer that waits is presented to the port interface that its port is attached to now (R209); one whose port is
attached no more is acknowledged by nothing, and its timeout runs on. -/
def State.represent (s : State) (e : Nat) : State :=
  let c := s.leng e
  let at_ := fun (p old : Nat) => (s.baySector e p).getD old
  match c.stall with
  | some (.bayRead rd p sec) => s.setLeng e { c with stall := some (.bayRead rd p (at_ p sec)) }
  | some (.bayWrite p sec k) => s.setLeng e { c with stall := some (.bayWrite p (at_ p sec) k) }
  | _ => s

/-- Two tables with the entries of the keys `l` exchanged. -/
def exchange (a b : List (Nat × Nat)) (l : List Nat) : List (Nat × Nat) :=
  l.foldl (fun t k => tabPut (fun _ => 0) t k (tabGet (fun _ => 0) b k)) a

/-- The Front tick (R272, R282). -/
def State.takeFront (s : State) : State :=
  let f := s.front
  let sel := s.switches
  let active := planeTake s.cfg.active s.cfg.staged sel
  let staged := planeTake s.cfg.staged s.cfg.active sel
  let units_ := s.switchUnits
  let held := s.heldPins active
  let c := s.cfg
  let s : State := { s with
    cfg := { c with active := active, staged := staged,
                    actFrom := exchange c.actFrom c.stgFrom units_, stgFrom := exchange c.stgFrom c.actFrom units_,
                    rewrites := c.rewrites.map (fun r => if sel r.2.1 then (!r.1, r.2.1, r.2.2) else r) },
    front := { f with holdOver := false, quiet := true, held := held } }
  let s := (s.setF Reg.CFG_FRONT_STAT 2 0 4).setD Reg.CFG_FRONT_LAST f.tf
  let s := if f.dir = 0 then s.addF Reg.CFG_FRONT_COUNT 15 0 1 else s.addF Reg.CFG_FRONT_COUNT 31 16 1
  let s := s.raise 166 (2 ^ f.dir)
  let s := s.noteMarks.setF Reg.CFG_STG_STAT 5 4 (([0, 1, 2, 3].find? (fun k => s.cfg.stgFrom.any (fun p => p.2 == k + 1))).getD 0)
  let s := (bitsSet 48 s.stgSectors).foldl (fun s i => (s.switchSector i).noteDisc i) s
  let s := (s.movePwms c.active active)
  let s := (List.range 64).foldl State.represent s
  let s := (bitsSet 64 s.stgEngines).foldl (fun s e => s.switchEngineAt e) s
  (List.range 64).foldl (fun s c =>
    if s.getB (Reg.TST_PRB_PIN c) 31 && !(s.pin (s.getF (Reg.TST_PRB_PIN c) 10 0)).spare then s.setB (Reg.TST_PRB_PIN c) 31 false
    else s) s

/-- A kind-0x6 action of op `op` at its tick, on the Front that is COMMITTED (R48, R282), once what takes effect before TF has
(R84). -/
def State.frontStep (s : State) (op : Nat) : State :=
  match s.due? 6 0 op with
  | some d => if s.frontState = 3 ∧ s.actsBefore s.front.tf = false then (s.taken d).takeFront else s
  | none => s

/-- FRONT (R282). -/
def execFront (s : State) : Out := .next (s.frontStep 0)
/-- FRONT_BACK (R282, R291). -/
def execFrontBack (s : State) : Out := .next (s.frontStep 1)

/-- QUIET_END (R283): at TF + 2.5 ns clear is released and the regional clocks resume. -/
def execQuietEnd (s : State) : Out :=
  if s.front.quiet && atOrAfter s.time (s.front.tf + units unitsPerTick) then
    .next { s with front := { s.front with quiet := false } }
  else .next s

/-- CROSSING_HOLD_END (R288, R290): in the tick of TF + 8 ns the held pins take the new configuration. -/
def execCrossingHoldEnd (s : State) : Out :=
  if !s.front.holdOver && s.reached (s.front.tf + units 512) then
    .next ({ s with front := { s.front with holdOver := true, held := [] } } : State).frontComplete
  else .next s

end Sys2Proof.Machine
end

