-- ==== Sys2Proof/Machine/LinePower.lean ====
section
/-!
DEFINITION. Sys2Proof/Machine/LinePower.lean: the intake, supply warnings, auxiliary outputs and temperatures
(18_line_power_intake.md).
-/
namespace Sys2Proof.Machine

/-! ### Auxiliary outputs (R458–R462) -/

/-- Auxiliary output `k` beside its registers. -/
def State.auxOut (s : State) (k : Nat) : AuxOut := tabGet (fun _ => {}) s.ana.aux k

/-- The state with auxiliary output `k` holding `x`. -/
def State.setAux (s : State) (k : Nat) (x : AuxOut) : State :=
  { s with ana := { s.ana with aux := tabPut (fun _ => {}) s.ana.aux k x } }

/-- Bits of ANA.AUX[k].STAT. -/
def auxON : Nat := 0
def auxSHED : Nat := 1
def auxFUSE : Nat := 2
def auxTHERM : Nat := 3
def auxBUDGET : Nat := 4
def auxPEND : Nat := 5
def auxSTART : Nat := 6

/-- Output `k` is switched on: in regulation or in its soft-start. -/
def State.auxLive (s : State) (k : Nat) : Bool := s.getB (Reg.ANA_AUX_STAT k) auxON || (s.auxOut k).starting

/-- EN of output `k`. -/
def State.auxEn (s : State) (k : Nat) : Bool := s.getB (Reg.ANA_AUX_CTL k) 0

/-- The thermal critical state (R464). -/
def State.thermCrit (s : State) : Bool := s.getB Reg.ANA_IN_STAT 19

/-- Output `k` switches on: its soft-start begins (R458, R460). -/
def State.auxStart (s : State) (k : Nat) : State :=
  let s := (s.setB (Reg.ANA_AUX_STAT k) auxSHED false).setB (Reg.ANA_AUX_STAT k) auxPEND false
  let s : State := { s with ana := { s.ana with stagger := s.ana.stagger.erase k } }
  s.setAux k { starting := true, since := s.time }

/-- Output `k` switches off now. -/
def State.auxOff (s : State) (k : Nat) : State :=
  let s := (s.setB (Reg.ANA_AUX_STAT k) auxON false).setB (Reg.ANA_AUX_STAT k) auxPEND false
  s.setAux k { since := s.time }

/-- Output `k` is switched off by the device, with a flag and a cause bit of EV248 + k; EN clears. -/
def State.auxTrip (s : State) (k flag bit : Nat) : State :=
  (((s.auxOff k).setB (Reg.ANA_AUX_CTL k) 0 false).setB (Reg.ANA_AUX_STAT k) flag true).raise (248 + k) bit

/-- A write of ANA.AUX[k].CTL (R458–R460, R464): EN 1 clears the fault flags and starts the output, now or at the end of a
warning; it is refused in the thermal critical state. EN 0 switches it off. -/
def State.writeAuxCtl (s : State) (k : Nat) (w : Word) : State :=
  let s := s.store (Reg.ANA_AUX_CTL k) w
  if !bitOf w 0 then
    let s := (s.auxOff k).setB (Reg.ANA_AUX_STAT k) auxSHED false
    { s with ana := { s.ana with stagger := s.ana.stagger.erase k } }
  else if s.thermCrit then s.setB (Reg.ANA_AUX_CTL k) 0 false
  else
    let s := [auxFUSE, auxTHERM, auxBUDGET, auxSTART].foldl (fun s b => s.setB (Reg.ANA_AUX_STAT k) b false) s
    if s.auxLive k then s
    else if s.warned then (if s.getB (Reg.ANA_AUX_STAT k) auxSHED then s else s.setB (Reg.ANA_AUX_STAT k) auxPEND true)
    else s.auxStart k

/-- AUX_SET (R399, R458): a write of ANA.AUX[k].CTL, or the command: output, enable, shed policy. -/
def execAuxSet (v : ViaN) (s : State) : Out :=
  match v with
  | .reg k w => if k < 8 then .next (s.writeAuxCtl k w) else .next s
  | .cmd c =>
    match s.turn c 7 2 with
    | none => .next s
    | some x =>
      let k := beAt x.payload 0 1
      let en := beAt x.payload 1 1
      let shed := beAt x.payload 2 1
      if 7 < k ∨ 1 < en ∨ 2 < shed then .next (s.replyTo x csBADPARAM true [])
      else
        let refused := en == 1 && s.thermCrit
        let w := setFld (setFld (s.getR (Reg.ANA_AUX_CTL k)) 5 4 shed) 0 0 en
        .next ((s.writeAuxCtl k w).replyTo x (if refused then csBUSY else csOK) true [])

/-- AUX_SOFT_START_DONE (R460): the output is in regulation. -/
def execAuxSoftStartDone (k : Fin 8) (s : State) : Out :=
  if (s.auxOut k).starting then .next ((s.setAux k {}).setB (Reg.ANA_AUX_STAT k) auxON true) else .next s

/-- AUX_START_TIMEOUT (R460): no regulation within 5 ms. -/
def execAuxStartTimeout (k : Fin 8) (s : State) : Out :=
  if (s.auxOut k).starting ∧ atOrAfter s.time ((s.auxOut k).since + units (5 * unitsPerMs)) = true then
    .next (s.auxTrip k auxSTART 2)
  else .next s

/-- AUX_FUSE_TRIP (R460, R462): an overload or a short circuit after soft-start; in the instant of a shed both flags are
set, and the output does not return. -/
def execAuxFuseTrip (k : Fin 8) (s : State) : Out :=
  let shed := s.getB (Reg.ANA_AUX_STAT k) auxSHED && (s.auxOut k).since == s.time
  if s.getB (Reg.ANA_AUX_STAT k) auxON || shed then .next (s.auxTrip k auxFUSE 1) else .next s

/-- The output that the budget sheds first: the lowest PRIO, and the highest k among equals (R461). -/
def State.shedFirst (s : State) : List Nat → Option Nat
  | [] => none
  | k :: l =>
    match s.shedFirst l with
    | some j => if s.getF (Reg.ANA_AUX_CTL k) 9 8 < s.getF (Reg.ANA_AUX_CTL j) 9 8 then some k else some j
    | none => some k

/-- AUX_BUDGET_CHECK (R461): `sum`: power of the outputs and the key supply over 2 ms, in 10 mW. -/
def execAuxBudgetCheck (sum : Nat) (s : State) : Out :=
  match (if 600 < sum then s.shedFirst ((List.range 8).filter (fun k => s.auxLive k)) else none) with
  | some k => .next (s.auxTrip k auxBUDGET 4)
  | none => .next s

/-- AUX_STAGGER_ON (R459): the next output that switches on after a warning, 200 us after the one before. -/
def execAuxStaggerOn (s : State) : Out :=
  match s.ana.stagger with
  | [] => .next s
  | k :: l =>
    if s.warned || !atOrAfter s.time s.ana.staggerAt then .next s
    else
      let back := s.getB (Reg.ANA_AUX_STAT k) auxSHED
      let s : State := { s with ana := { s.ana with stagger := l, staggerAt := s.time + units (200 * unitsPerUs) } }
      if !s.auxEn k || s.thermCrit || s.auxLive k then .next s
      else .next (if back then (s.auxStart k).raise (248 + k) 32 else s.auxStart k)

/-! ### Warning (R453–R457) -/

/-- The shed policy of output `k` at EV200 (R458, R462). -/
def State.auxShed (s : State) (k : Nat) : State :=
  let shed := s.getF (Reg.ANA_AUX_CTL k) 5 4
  let tripped := s.getB (Reg.ANA_AUX_STAT k) auxFUSE && (s.auxOut k).since == s.time
  if shed = 1 ∧ s.auxLive k = true then
    (((s.auxOff k).setAux k { since := s.time, returns := true }).setB (Reg.ANA_AUX_STAT k) auxSHED true).raise (248 + k) 16
  else if shed = 1 ∧ tripped = true then (s.setB (Reg.ANA_AUX_STAT k) auxSHED true).raise (248 + k) 16
  else if shed = 2 ∧ s.auxLive k = true then ((s.auxOff k).setB (Reg.ANA_AUX_CTL k) 0 false).raise (248 + k) 16
  else s

/-- SUPPLY_WARNING (R453, R454): the input falls below the warning level. -/
def execSupplyWarning (s : State) : Out :=
  if s.warned then .next (s.setB Reg.ANA_IN_STAT 17 false)
  else
    let s := (s.setB Reg.ANA_IN_STAT 16 true).setB Reg.ANA_IN_STAT 17 false
    let s := (s.addF Reg.ANA_WARN_CNT 15 0 1).setF Reg.ANA_DIP_MIN 15 0 (s.getF Reg.ANA_IN_STAT 15 0)
    let s : State := { s with boot := { s.boot with warns := min 255 (s.boot.warns + 1) } }
    let s := (s.raise 200 1).nvWarn
    -- outputs that had not yet returned keep their claim to return
    let s := s.ana.stagger.foldl (fun s k =>
      if s.getB (Reg.ANA_AUX_STAT k) auxSHED then s else s.setB (Reg.ANA_AUX_STAT k) auxPEND true) s
    let s : State := { s with ana := { s.ana with stagger := [] } }
    .next ((List.range 8).foldl (fun s k => s.auxShed k) s)

/-- CLEAR_LEVEL_RISE (R454): the count of 500 us begins. -/
def execClearLevelRise (s : State) : Out :=
  if s.warned && !s.getB Reg.ANA_IN_STAT 17 then
    .next { s.setB Reg.ANA_IN_STAT 17 true with ana := { s.ana with clearAt := s.time } }
  else .next s

/-- CLEAR_LEVEL_FALL (R454): a fall below the clear level ends the count. -/
def execClearLevelFall (s : State) : Out := .next (s.setB Reg.ANA_IN_STAT 17 false)

/-- The final replies of STG_DATA that a warning has withheld (R389). -/
def State.releaseData (s : State) : State :=
  (s.cmd.inflight.filter (fun x => decide (x.cls = 3 ∧ x.op = 1 ∧ x.stage = .awaiting))).foldl
    (fun s x => s.replyTo x csOK true []) s

/-- WARNING_CLEAR (R454, R459): the input has held for 500 us. -/
def execWarningClear (s : State) : Out :=
  if !s.warned || !s.getB Reg.ANA_IN_STAT 17 ||
      (s.timeRuns && !atOrAfter s.time (s.ana.clearAt + units (500 * unitsPerUs))) then .next s
  else
    let s := ((s.setB Reg.ANA_IN_STAT 16 false).setB Reg.ANA_IN_STAT 17 false).raise 201 1
    let s := (s.nvClear.waitingWriteBack none).releaseData
    let back := (List.range 8).filter (fun k => s.auxEn k && !s.auxLive k &&
      (s.getB (Reg.ANA_AUX_STAT k) auxPEND || (s.auxOut k).returns))
    -- SHED_OFF stands until EV201; an output that comes back keeps it until its turn
    let s := (List.range 8).foldl (fun s k => if back.contains k then s else s.setB (Reg.ANA_AUX_STAT k) auxSHED false) s
    .next { s with ana := { s.ana with stagger := back, staggerAt := s.time } }

/-! ### The intake (R448–R452) -/

/-- PORT_POWER_LOSS (R451). -/
def execPortPowerLoss (p : Fin 2) (s : State) : Out :=
  let a := Reg.ANA_PORT_STAT p
  if s.getF a 6 4 = 0 then .next s
  else .next (((s.setR a 0).setR (Reg.ANA_PORT_VIN p) 0).raise 202 (2 ^ (2 * p.val + 1)))

/-- PORT_POWER_RETURN (R448, R451): the port is powered, with class 9. -/
def execPortPowerReturn (p : Fin 2) (s : State) : Out :=
  let a := Reg.ANA_PORT_STAT p
  if 3 ≤ s.getF a 6 4 then .next s
  else .next (((s.setF a 6 4 3).setF a 3 0 9).raise 202 (2 ^ (2 * p.val)))

/-- PORT_OVERVOLTAGE (R449): the port is disconnected. -/
def execPortOvervoltage (p : Fin 2) (s : State) : Out :=
  let a := Reg.ANA_PORT_STAT p
  if s.getF a 6 4 = 3 then .next (((s.setF a 6 4 4).setB a 8 false).raise 203 (2 ^ (2 + p.val))) else .next s

/-- OVERVOLTAGE_RECONNECT (R449). -/
def execOvervoltageReconnect (p : Fin 2) (s : State) : Out :=
  let a := Reg.ANA_PORT_STAT p
  if s.getF a 6 4 = 4 then .next (s.setF a 6 4 3) else .next s

/-- INTAKE_CURRENT_LIMIT (R450). -/
def execIntakeCurrentLimit (p : Fin 2) (s : State) : Out :=
  let a := Reg.ANA_PORT_STAT p
  if s.getF a 6 4 = 3 then .next ((s.setB a 8 true).raise 203 (2 ^ p.val)) else .next s

/-- One port's measurement. -/
def State.portMeasure (s : State) (p : Nat) (v i w : BitVec 16) : State :=
  let s := ((s.setR (Reg.ANA_PORT_VIN p) (v.setWidth 32)).setR (Reg.ANA_PORT_IIN p) (i.setWidth 32)).setR (Reg.ANA_PORT_PIN p) (w.setWidth 32)
  s.setB (Reg.ANA_PORT_STAT p) 8 (s.getF (Reg.ANA_PORT_STAT p) 6 4 == 3 && decide (1300 ≤ i.toNat))

/-- Values written to the [hi:lo] fields of registers `f 0`, `f 1`, … -/
def State.putEach (s : State) (f : Nat → Nat) (hi lo : Nat) : Nat → List (BitVec 16) → State
  | _, [] => s
  | j, v :: l => (s.setF (f j) hi lo v.toNat).putEach f hi lo (j + 1) l

/-- POWER_MEASURE (R452, R457): the sample taken every 10 us. -/
def execPowerMeasure (m : PowerSample) (s : State) : Out :=
  let s := (s.portMeasure 0 m.vin.1 m.iin.1 m.pin.1).portMeasure 1 m.vin.2 m.iin.2 m.pin.2
  let s := (s.putEach Reg.ANA_RAIL 15 0 0 (m.rail.take 4)).putEach Reg.ANA_AUX_STAT 31 16 0 (m.aux.take 8)
  let vin := max m.vin.1.toNat m.vin.2.toNat
  let s := s.setF Reg.ANA_IN_STAT 15 0 vin
  let s := if s.warned ∧ vin < s.getF Reg.ANA_DIP_MIN 15 0 then s.setF Reg.ANA_DIP_MIN 15 0 vin else s
  let high := decide (s.getF Reg.ANA_PIN_WARN 15 0 < m.pin.1.toNat + m.pin.2.toNat)
  let s := s.setB Reg.ANA_IN_STAT 18 high
  .next (if high then s.raise 206 1 else s)

/-! ### Temperatures (R463, R464) -/

/-- One sensor against a level in quarters of a degree: the state of those that have reached it and not fallen 5 °C below,
and whether it reaches it now. -/
def senseLevel (l : List Nat) (j : Nat) (t level : Int) : List Nat × Bool :=
  if level ≤ t then (if l.contains j then (l, false) else (l ++ [j], true))
  else if t ≤ level - 20 then (l.erase j, false)
  else (l, false)

/-- Sensor `j` reads `t` (R463, R464). -/
def State.sense (s : State) (j : Nat) (t : BitVec 16) : State :=
  let crit := s.getF Reg.ANA_THERM_CRIT 7 0
  let s := s.setF (Reg.ANA_TEMP j) 15 0 t.toNat
  let w := senseLevel s.ana.warm j t.toInt (4 * min crit (s.getF Reg.ANA_THERM_WARN 7 0) : Nat)
  let h := senseLevel s.ana.hot j t.toInt (4 * crit : Nat)
  let s : State := { s with ana := { s.ana with warm := w.1, hot := h.1 } }
  let s := if w.2 then s.raise 204 (2 ^ j) else s
  if h.2 then s.raise 205 (2 ^ j) else s

/-- The sensors of a list, from number `j` on. -/
def State.senseAll (s : State) : Nat → List (BitVec 16) → State
  | _, [] => s
  | j, t :: l => (s.sense j t).senseAll (j + 1) l

/-- THERMAL_READ (R463, R464): the eight sensors; the critical state begins, or ends once every sensor is 5 °C below its
level. -/
def execThermalRead (t : List (BitVec 16)) (s : State) : Out :=
  let was := s.thermCrit
  let s := s.senseAll 0 (t.take 8)
  let crit := !s.ana.hot.isEmpty
  let s := s.setB Reg.ANA_IN_STAT 19 crit
  if crit && !was then
    .next ((List.range 8).foldl (fun s k => if s.auxEn k || s.auxLive k then s.auxTrip k auxTHERM 8 else s) s)
  else .next s

end Sys2Proof.Machine
end

