-- ==== Sys2Proof/Machine/Tables.lean ====
section
/-!
DEFINITION. Sys2Proof/Machine/Tables.lean: the sixteen cycle tables (R66–R72).
-/
namespace Sys2Proof.Machine

/-- Table `t` beside its registers. -/
def State.tbl (s : State) (t : Nat) : CycTable := tabGet (fun _ => {}) s.act.tables t

/-- The state with table `t` holding `x`. -/
def State.setTbl (s : State) (t : Nat) (x : CycTable) : State :=
  { s with act := { s.act with tables := tabPut (fun _ => {}) s.act.tables t x } }

/-- Low 64 bits and OFFSET of entry `e` of a copy whose words stand at `base` (R66). -/
def State.tblEntry (s : State) (base t e : Nat) : Nat × Nat :=
  let w := fun i => (s.getR (base + t * 0x1000 + e * 0x10 + 4 * i)).toNat
  (w 0 + w 1 <<< 32, w 2 + (w 3 % 256) <<< 32)

/-- Where the admin and the operational words stand. -/
def admBase : Nat := 0x00210000
def opBase : Nat := 0x00220000

/-- The action that an entry posts in the period that begins at `start`. -/
def State.tblRecord (s : State) (base t e : Nat) (start : DWord) : QWord :=
  let x := s.tblEntry base t e
  BitVec.ofNat 128 ((start + units x.2).toNat <<< 64 + x.1)

/-- Period and count of a copy. -/
def State.admPeriod (s : State) (t : Nat) : Nat := (s.getD (Reg.ACT_CT_ADM_PERIOD t)).toNat
def State.admCount (s : State) (t : Nat) : Nat := s.getF (Reg.ACT_CT_ADM_COUNT t) 8 0
def State.opPeriod (s : State) (t : Nat) : Nat := (s.getD (Reg.ACT_CT_OP_PERIOD t)).toNat
def State.opCount (s : State) (t : Nat) : Nat := s.getF (Reg.ACT_CT_OP_COUNT t) 8 0

/-- Entries `e` to `e + n - 1` keep the rules of R67 after an entry with offset `last`. -/
def State.entriesValid (s : State) (t period : Nat) : Nat → Nat → Nat → Bool
  | 0, _, _ => true
  | n + 1, e, last =>
    let x := s.tblEntry admBase t e
    decide (last ≤ x.2 ∧ x.2 < period) && recStatus 81 (decodeRec (BitVec.ofNat 128 x.1)) == 0 &&
      State.entriesValid s t period n (e + 1) x.2

/-- The admin copy is valid (R67). -/
def State.admValid (s : State) (t : Nat) : Bool :=
  let p := s.admPeriod t
  let n := s.admCount t
  decide (64000 ≤ p ∧ p < 2 ^ 40 ∧ n ≤ 256) && s.entriesValid t p n 0 0

/-- The operational copy takes the admin copy: entries, period and count. -/
def State.copyAdm (s : State) (t : Nat) : State :=
  let s := { s with regs := tabCopy regReset s.regs (admBase + t * 0x1000) 0x1000 (opBase + t * 0x1000) }
  (s.setD (Reg.ACT_CT_OP_PERIOD t) (s.getD (Reg.ACT_CT_ADM_PERIOD t))).setR (Reg.ACT_CT_OP_COUNT t)
    (s.getR (Reg.ACT_CT_ADM_COUNT t))

/-- The first boundary `base + k · period` at or after `t` (R68, R70). -/
def boundaryAt (base t : DWord) (period : Nat) : DWord :=
  let d := tdiff t base
  if d ≤ 0 then base else base + units ((d.toNat + period - 1) / max period 1 * period)

/-- Table status bits. -/
def State.tblRuns (s : State) (t : Nat) : Bool := s.getB (Reg.ACT_CT_STAT t) 0
def State.tblCmdErr (s : State) (t : Nat) : State := s.setB (Reg.ACT_CT_STAT t) 4 true
def State.tblEntryErr (s : State) (t : Nat) : State := (s.setB (Reg.ACT_CT_STAT t) 3 true).raise 120 (2 ^ t)

/-- The entry belongs to table `t`. -/
def ofTable (t : Nat) (e : CalEntry) : Bool :=
  match e.owner with
  | .table u _ => u == t
  | _ => false

/-- The entry was posted from the admin copy of a pending swap of table `t`. -/
def ofAdmin (t : Nat) (e : CalEntry) : Bool := e.owner == .table t true

/-- A cursor at or after `b` goes back to `b`. -/
def CycTable.rewind (x : CycTable) (b : DWord) : CycTable :=
  if atOrAfter x.cursorBase b then { x with cursorBase := b, cursorIdx := 0 } else x

/-- START with time `T` at its request now (R68). -/
def State.ctStart (s : State) (t : Nat) (T : DWord) : State :=
  if s.tblRuns t then s.tblCmdErr t
  else if !s.admValid t then s.tblEntryErr t
  else
    let s := (s.copyAdm t).setD (Reg.ACT_CT_BASE t) T
    let s := (s.setR (Reg.ACT_CT_PERIODS t) 0).setF (Reg.ACT_CT_STAT t) 2 0 1
    s.setTbl t { s.tbl t with cursorBase := T, cursorIdx := 0, skipBefore := laterOf T s.time, swapAt := none, stopAt := none }

/-- Withdrawn at the request of a STOP or SWAP: the entries of table `t` due at or after `b` (R70, R72). -/
def State.withdrawFrom (s : State) (t : Nat) (b : DWord) : State := s.withdraw (fun e => ofTable t e && atOrAfter e.act.due b)

/-- STOP with time `T` (R68, R72). -/
def State.ctStop (s : State) (t : Nat) (T : DWord) : State :=
  if !s.tblRuns t then s.tblCmdErr t
  else
    let x := s.tbl t
    let s0 := boundaryAt (s.getD (Reg.ACT_CT_BASE t)) T (s.opPeriod t)
    match x.swapAt with
    | none =>
      ((s.withdrawFrom t s0).setTbl t { x.rewind s0 with stopAt := some s0 }).setB (Reg.ACT_CT_STAT t) 1 true
    | some b =>
      if before b s0 then
        let s1 := boundaryAt b T (s.admPeriod t)
        ((s.withdrawFrom t s1).setTbl t { x.rewind s1 with stopAt := some s1 }).setB (Reg.ACT_CT_STAT t) 1 true
      else
        let s := (s.withdraw (ofAdmin t)).withdrawFrom t s0
        (s.setTbl t { (x.rewind b).rewind s0 with swapAt := none, stopAt := some s0 }).setF (Reg.ACT_CT_STAT t) 2 1 1

/-- SWAP with time `T` requested now (R70–R72). -/
def State.ctSwap (s : State) (t : Nat) (T : DWord) : State :=
  let x := s.tbl t
  if !s.tblRuns t || x.stopAt.isSome then s.tblCmdErr t
  else if !s.admValid t then s.tblEntryErr t
  else
    let b := boundaryAt (s.getD (Reg.ACT_CT_BASE t)) (laterOf T (s.time + units (2 * unitsPerUs))) (s.opPeriod t)
    let x1 := match x.swapAt with
      | some b0 => x.rewind b0
      | none => x
    let s := (s.withdraw (ofAdmin t)).withdrawFrom t b
    (s.setTbl t { x1.rewind b with swapAt := some b }).setB (Reg.ACT_CT_STAT t) 2 true

/-- A write of CT[t].CTL: one command bit, whose time is CMD_TIME; more than one sets CMD_ERR. -/
def State.writeCtCtl (s : State) (t : Nat) (w : Word) : State :=
  let T := s.getD (Reg.ACT_CT_CMD_TIME t)
  match fld w 2 0 with
  | 0 => s
  | 1 => s.ctStart t T
  | 2 => s.ctStop t T
  | 4 => s.ctSwap t T
  | _ => s.tblCmdErr t

/-- An admin write of `t` at register `a` (R71): ignored with CMD_ERR while a swap is pending, held during the copy-back. -/
def State.writeAdm (s : State) (t a : Nat) (w : Word) : State :=
  let x := s.tbl t
  if x.swapAt.isSome then s.tblCmdErr t
  else if x.copyBack then s.setTbl t { x with held := x.held ++ [(a, w)] }
  else s.setR a w

/-- A cycle-table order of op `op` (0 START, 1 STOP, 2 SWAP), however it is given. Its commanded time is CMD_TIME, the DUE of the
action, late or not (R68), or the T of the command. -/
def State.ctOrder (s : State) (op : Nat) (v : CtVia) (f : State → Nat → DWord → State) : State :=
  match v with
  | .reg t => f s t (s.getD (Reg.ACT_CT_CMD_TIME t))
  | .action t =>
    match s.due? 5 t op with
    | some d => f (s.taken d) t d.act.due
    | none => s
  | .cmd c =>
    match s.turn c 2 2 with
    | none => s
    | some x =>
      let t := beAt x.payload 0 1
      if 2 < beAt x.payload 1 1 then s.replyTo x csBADPARAM true []
      else if beAt x.payload 1 1 ≠ op then s
      else if 16 ≤ t then s.replyTo x csBADPARAM true []
      else (f s t (BitVec.ofNat 64 (beAt x.payload 2 8))).replyTo x csOK true []

/-- CT_START (R68). -/
def execCtStart (v : CtVia) (s : State) : Out := .next (s.ctOrder 0 v State.ctStart)
/-- CT_STOP (R68, R72). -/
def execCtStop (v : CtVia) (s : State) : Out := .next (s.ctOrder 1 v State.ctStop)
/-- CT_SWAP (R70–R72). -/
def execCtSwap (v : CtVia) (s : State) : Out := .next (s.ctOrder 2 v State.ctSwap)

/-- The cursor on its next entry in a copy of `n` entries and period `p`. -/
def CycTable.norm (x : CycTable) (n p : Nat) : CycTable :=
  if x.cursorIdx < n then x else { x with cursorBase := x.cursorBase + units p, cursorIdx := 0 }

/-- Whether a cursor has reached the boundary of a pending swap, from which the admin copy is posted (R70). -/
def CycTable.inAdmin (x : CycTable) : Bool :=
  match x.swapAt with
  | some b => atOrAfter x.cursorBase b
  | none => false

/-- The cursor on the entry that a table posts next: past the boundary of a pending swap, one of the admin copy. -/
def State.tblCursor (s : State) (t : Nat) : CycTable :=
  let x := s.tbl t
  if x.inAdmin then x.norm (s.admCount t) (s.admPeriod t)
  else
    let x1 := x.norm (s.opCount t) (s.opPeriod t)
    match x.swapAt with
    | some b => if s.opCount t = 0 ∨ x1.inAdmin = true then { x with cursorBase := b, cursorIdx := 0 } else x1
    | none => x1

/-- The next entry that a table posts: its record, whether it is an admin entry, and the cursor after it. -/
def State.tblNext (s : State) (t : Nat) : Option (QWord × Bool × CycTable) :=
  let x := s.tblCursor t
  let adm := x.inAdmin
  if (if adm then s.admCount t else s.opCount t) = 0 then none
  else some (s.tblRecord (if adm then admBase else opBase) t x.cursorIdx x.cursorBase, adm,
    { x with cursorIdx := x.cursorIdx + 1 })

/-- ACT_CT_AHEAD in units: 1 to 128 us (R69). -/
def State.ahead (s : State) : Nat := unitsPerUs * max 1 (min 128 (s.getF Reg.ACT_CT_AHEAD 7 0))

/-- The entry that table `t` posts or skips now (R68, R69, R72): AHEAD before its DUE, of a running table, due before the boundary
of a STOP. -/
def State.tblDue (s : State) (t : Nat) : Option (QWord × Bool × CycTable) :=
  if !s.tblRuns t then none
  else
    match s.tblNext t with
    | none => none
    | some (w, adm, x) =>
      let a := decodeRec w
      let stopped := match x.stopAt with
        | some b => atOrAfter a.due b
        | none => false
      if stopped || !decide (tdiff a.due s.time ≤ (s.ahead : Nat)) then none else some (w, adm, x)

/-- A table has an entry to post: port 81 is not empty (R51). -/
def State.tablesWait (s : State) : Bool :=
  (List.range 16).any (fun t => (s.tblDue t).any (fun r => !before (decodeRec r.1).due r.2.2.skipBefore))

/-- The ports that have a record to insert, in ascending order. -/
def State.waitingPorts (s : State) : List Nat :=
  let l := s.act.fifos.map Prod.fst
  if s.tablesWait then l.filter (fun p => decide (p < 81)) ++ [81] ++ l.filter (fun p => decide (81 < p)) else l

/-- The port served next (R51): 83 first, then the ports that have a record, in round-robin order after the last one served; none
when four records have been inserted in this tick. -/
def State.nextPort (s : State) : Option Nat :=
  if 4 ≤ s.act.inserted then none
  else if s.fifo 83 ≠ [] then some 83
  else
    match s.waitingPorts.find? (fun p => decide (s.act.rrPort < p)) with
    | some p => some p
    | none => s.waitingPorts.head?

/-- Port `p` has been served (R51). -/
def State.portServed (s : State) (p : Nat) : State :=
  { s with act := { s.act with inserted := s.act.inserted + 1, rrPort := if p = 83 then s.act.rrPort else p } }

/-- CT_ENTRY_POST (R51, R69): the next entry of a running table is posted on port 81 when that port is served, or skipped where it
was due before the request of the START (R68). -/
def execCtEntryPost (t : Fin 16) (s : State) : Out :=
  match s.tblDue t with
  | none => .next s
  | some (w, adm, x) =>
    if before (decodeRec w).due x.skipBefore then .next (s.setTbl t x)
    else if s.nextPort ≠ some 81 then .next s
    else .next (((s.portServed 81).setTbl t x).takeRecord 81 ⟨w, .table t.val adm⟩).1

/-- Periods completed from BASE to instant `b`. -/
def State.periodsTo (s : State) (t : Nat) (b : DWord) : Nat :=
  (tdiff b (s.getD (Reg.ACT_CT_BASE t))).toNat / max (s.opPeriod t) 1

/-- CT_STOP_BOUNDARY (R68, R72): at the STOP's boundary the table stops running. -/
def execCtStopBoundary (t : Fin 16) (s : State) : Out :=
  let x := s.tbl t
  match x.stopAt, x.swapAt with
  | some b, none =>
    if s.reached b then
      .next (((s.addF (Reg.ACT_CT_PERIODS t) 31 0 (s.periodsTo t b)).setF (Reg.ACT_CT_STAT t) 2 0 0).setTbl t
        { x with stopAt := none })
    else .next s
  | _, _ => .next s

/-- CT_SWAP_BOUNDARY (R70): at B the admin copy becomes the operational copy, and EV119 is raised. Admin and operational
copy then read the same; admin writes are held until the copy-back completes (R71). -/
def execCtSwapBoundary (t : Fin 16) (s : State) : Out :=
  let x := s.tbl t
  match x.swapAt with
  | some b =>
    if s.reached b then
      let s1 := ((s.addF (Reg.ACT_CT_PERIODS t) 31 0 (s.periodsTo t b)).copyAdm t).setD (Reg.ACT_CT_BASE t) b
      let cal := s1.act.cal.map (fun e => if ofAdmin t e then { e with owner := .table t.val false } else e)
      let s2 : State := { s1 with act := { s1.act with cal := cal } }
      let x1 := if atOrAfter x.cursorBase b then x else { x with cursorBase := b, cursorIdx := 0 }
      .next (((s2.setB (Reg.ACT_CT_STAT t) 2 false).setTbl t { x1 with swapAt := none, copyBack := true }).raise 119 (2 ^ t.val))
    else .next s
  | none => .next s

/-- Writes applied in order. -/
def applyHeld : List (Nat × Word) → State → State
  | [], s => s
  | (a, w) :: l, s => applyHeld l (s.setR a w)

/-- CT_COPYBACK_DONE (R71): held admin writes are applied. -/
def execCtCopybackDone (t : Fin 16) (s : State) : Out :=
  let x := s.tbl t
  if x.copyBack then .next (applyHeld x.held (s.setTbl t { x with copyBack := false, held := [] })) else .next s

/-- CT_PERIOD_BOUNDARY (R68): DESIGN CHOICE (log entry 191): PERIODS counts every boundary from BASE on, those before the request of a
START with an earlier T included. BASE advances to the new period of a running table and PERIODS counts the one completed. At
the boundary of a pending stop or swap the rows of that boundary act. -/
def execCtPeriodBoundary (t : Fin 16) (s : State) : Out :=
  let x := s.tbl t
  let b := s.getD (Reg.ACT_CT_BASE t) + units (s.opPeriod t)
  if s.tblRuns t && s.reached b && x.stopAt != some b && x.swapAt != some b then
    .next ((s.setD (Reg.ACT_CT_BASE t) b).incR (Reg.ACT_CT_PERIODS t))
  else .next s

/-- The four words of a table entry sent big-endian (R46, R66), written to the admin copy. -/
def State.writeEntry (s : State) (t e : Nat) (v : Nat) : State :=
  (List.range 4).foldl (fun s i => s.writeAdm t (admBase + t * 0x1000 + e * 0x10 + 4 * i) (BitVec.ofNat 32 (v >>> (32 * i)))) s

/-- Entries of 16 bytes written from entry `e` on. -/
def writeEntries (t : Nat) : Nat → Nat → List Byte → State → State
  | 0, _, _, s => s
  | n + 1, e, l, s => writeEntries t n (e + 1) (l.drop 16) (s.writeEntry t e (beAt l 0 16))

/-- CT_WRITE (R66, R71): entries of a table's admin copy. -/
def execCtWrite (c : CmdRef) (s : State) : Out :=
  match s.turn c 2 3 with
  | none => .next s
  | some x =>
    let t := beAt x.payload 0 1
    let e := beAt x.payload 1 2
    let n := (x.payload.length - 3) / 16
    let bad := (List.range n).any (fun i => beAt x.payload (3 + 16 * i) 3 != 0)
    if 16 ≤ t ∨ 256 < e + n ∨ bad then .next (s.replyTo x csBADPARAM true [])
    else .next ((writeEntries t n e (x.payload.drop 3) s).replyTo x csOK true [])

end Sys2Proof.Machine
end

