-- ==== Sys2Proof/Machine/Sched.lean ====
section
/-!
DEFINITION. Sys2Proof/Machine/Sched.lean: the rows of the timed action scheduler (03_timed_actions.md): the tick, posting,
pre-wake, cancellation, launch and capture cells, capture rings and the counters of kind 0x7.
-/
namespace Sys2Proof.Machine

/-- SCHEDULER_TICK (R55): device time advances by 160 units and up to four eligible entries are dispatched; the calendar can
insert four records again (R51); the fabric groups take their mailbox writes (R211). Without device time (R296) no time passes. -/
def execSchedulerTick (s : State) : Out :=
  let s : State := { s with act := { s.act with inserted := 0 } }
  if s.timeRuns then .next ({ s with time := s.time + units unitsPerTick } : State).dispatchTick.remoteReports.serveMails else .next s.serveMails

/-- The status of record `i` of an ACT_POST: 0xFF where it was not offered (R401). -/
def Command.postStatus (x : Command) (i : Nat) : Nat :=
  match x.partial_.find? (fun p => p.1 == i) with
  | some p => p.2
  | none => 0xFF

/-- The final reply of an ACT_POST whose offering has ended, once every record offered has its status (R401): TAKEN and the
statuses. -/
def State.postsDone (s : State) (c : CmdRef) : State :=
  let waits := (s.fifo 80).any (fun r => match r.owner with
    | .host d _ => d == c
    | _ => false)
  match s.command c with
  | some x =>
    if waits || x.stage != .awaiting then s
    else s.replyTo x csOK true (beBytes 1 x.partial_.length ++
      (List.range (x.payload.length / 16)).flatMap (fun i => beBytes 1 (x.postStatus i)))
  | none => s

/-- What follows a post status: the reply of the ACT_POST whose record it was. -/
def State.postsDoneOf (s : State) (o : PostOwner) : State :=
  match o with
  | .host c _ => s.postsDone c
  | _ => s

/-- Records `k` to `k + n - 1` of an ACT_POST put into the FIFO of port 80. -/
def State.pushPosts (s : State) (x : Command) (k n : Nat) : State :=
  (List.range n).foldl (fun s i =>
    s.fifoPush 80 (BitVec.ofNat 128 (beAt x.payload (16 * (k + i)) 16)) (.host x.ref (k + i))) s

/-- ACT_POST `x` offers the records that the FIFO of port 80 can take (R401). The offering ends with the last record, or where one
has not been taken 100 us after it had its turn. -/
def State.offerPosts (s : State) (x : Command) : State :=
  let left := x.payload.length / 16 - x.offered
  let n := min left (fifoDepth 80 - (s.fifo 80).length)
  let t := if n = 0 then x.since.getD s.time else s.time
  let done := decide (left ≤ n) || (n == 0 && s.reached (t + units (100 * unitsPerUs)))
  let s := (s.pushPosts x x.offered n).setCommand
    { x with offered := x.offered + n, since := some t, stage := if done then .awaiting else x.stage }
  s.postsDone x.ref

/-- An ACT_POST that is offering its records goes on. -/
def State.offerOn (s : State) : State :=
  match s.cmd.inflight.find? (fun x => x.cls == 2 && x.op == 0 && x.stage == .started && x.since.isSome) with
  | some x => s.offerPosts x
  | none => s

/-- POST_ACCEPT (R51, R52): the record at the head of the FIFO served next is inserted or refused, and leaves the FIFO. -/
def execPostAccept (s : State) : Out :=
  match s.nextPort with
  | none => .next s
  | some p =>
    match s.fifo p with
    | [] => .next s
    | r :: l =>
      let s := (((s.setFifo p l).portServed p).takeRecord p r).1.postsDoneOf r.owner
      .next (if 64 ≤ p ∧ p < 80 then s.servePosts (p - 64) s.fab.posts.length else if p = 80 then s.offerOn else s)

/-- The first entry whose pre-wake request is due, with its domain. -/
def State.firstPrewake (s : State) : Option (Nat × Nat) :=
  (s.act.cal.filterMap (fun e => (s.prewakeDue e).map (fun d => (e.seq, d)))).head?

/-- PREWAKE_REQUEST (R81, R82): the wake request of the first pending entry whose wake time has come. -/
def execPrewakeRequest (s : State) : Out :=
  match s.firstPrewake with
  | some (k, d) => .next (s.sendPrewake k d)
  | none => .next s

/-- The host cancel that an ACT_CANCEL word asks for (R63, R65): ACT_CANCEL_CNT holds the number removed. -/
def State.hostCancel (s : State) (w : Word) : State × Nat :=
  let r := s.cancel (fld w 23 16) (fld w 31 24) (fld w 7 4) (fld w 14 8) (bitOf w 3) (bitOf w 15)
  (r.1.setF Reg.ACT_CANCEL_CNT 12 0 r.2, r.2)

/-- A write of ACT_CANCEL: its fields are stored, and GO performs the cancel. -/
def State.writeActCancel (s : State) (w : Word) : State :=
  let s := s.setR Reg.ACT_CANCEL (w &&& 0xFFFFFFF8)
  if bitOf w 0 then (s.hostCancel w).1 else s

/-- ACT_CANCEL (R63): by the register, or by the command, whose reply holds the count removed. -/
def execActCancel (v : Via) (s : State) : Out :=
  match v with
  | .reg w => .next (s.writeActCancel w)
  | .cmd c =>
    match s.turn c 2 1 with
    | none => .next s
    | some x =>
      let r := s.hostCancel (BitVec.ofNat 32 (beNat x.payload))
      .next (r.1.replyTo x csOK true (beBytes 2 r.2))

/-! ### Launch cells -/

/-- The leading edge that pin `p` places next, if it is of op `op`, its instant has come, and no trailing edge precedes
it (R48, R59). -/
def State.launchStep (s : State) (op p : Nat) : State :=
  match (s.cell p).next with
  | some e => if e.op = op && s.reached e.due && !s.afterFront e.due && (s.cell p).leadFirst e then
      (s.setCell p ((s.cell p).launch e)).noteHold p else s
  | none => s

/-- DRIVE_LOW (R48). -/
def execDriveLow (p : Fin 1152) (s : State) : Out := .next (s.launchStep 0 p)
/-- DRIVE_HIGH (R48). -/
def execDriveHigh (p : Fin 1152) (s : State) : Out := .next (s.launchStep 1 p)
/-- TOGGLE (R48). -/
def execToggle (p : Fin 1152) (s : State) : Out := .next (s.launchStep 2 p)
/-- RELEASE (R48). -/
def execRelease (p : Fin 1152) (s : State) : Out := .next (s.launchStep 3 p)
/-- PULSE_HIGH (R59). -/
def execPulseHigh (p : Fin 1152) (s : State) : Out := .next (s.launchStep 4 p)
/-- PULSE_LOW (R59). -/
def execPulseLow (p : Fin 1152) (s : State) : Out := .next (s.launchStep 5 p)

/-- PULSE_TRAILING_EDGE (R59): at its instant, and after any leading edge that falls before it, the trailing edge is
placed and the entry is freed. -/
def execPulseTrailingEdge (p : Fin 1152) (s : State) : Out :=
  let c := s.cell p
  match firstTrail c.queue with
  | none => .next s
  | some e =>
    match e.trail with
    | none => .next s
    | some t =>
      let ahead := match c.next with
        | some x => before x.due t
        | none => false
      if s.reached t && !s.afterFront t && !ahead then .next ((s.setCell p { c with queue := c.queue.erase e, out := e.op == 5 }).noteHold p) else .next s

/-! ### Capture cells -/

/-- The action of op `op` that waits at the capture cell of pin `p` takes effect (R74): it replaces the arming in
force. -/
def State.armStep (s : State) (op p : Nat) (arm : Delivered → Option Arming) : State :=
  match s.due? 3 p op with
  | some d => (s.taken d).setCap p { s.capCell p with arm := arm d }
  | none => s

/-- An arming of a count of edges (R48, R74). -/
def armEdges (rise fall : Bool) (d : Delivered) : Option Arming :=
  let n := fld d.act.data 7 0
  some { rise := rise, fall := fall, start := d.instant, left := if n = 0 then none else some n, close := none,
         ring := fld d.act.data 31 30, tag := d.act.tag, late := d.late }

/-- An arming of a window, whose length in ns counts from its actual opening (R62, R74). -/
def armWindow (rise fall : Bool) (d : Delivered) : Option Arming :=
  some { rise := rise, fall := fall, start := d.instant, left := some 1,
         close := some (d.instant + units (64 * fld d.act.data 29 0)),
         ring := fld d.act.data 31 30, tag := d.act.tag, late := d.late }

/-- DISARM (R74). -/
def execDisarm (p : Fin 1152) (s : State) : Out := .next (s.armStep 0 p (fun _ => none))
/-- ARM_RISE (R74). -/
def execArmRise (p : Fin 1152) (s : State) : Out := .next (s.armStep 1 p (armEdges true false))
/-- ARM_FALL (R74). -/
def execArmFall (p : Fin 1152) (s : State) : Out := .next (s.armStep 2 p (armEdges false true))
/-- ARM_BOTH (R74). -/
def execArmBoth (p : Fin 1152) (s : State) : Out := .next (s.armStep 3 p (armEdges true true))
/-- WIN_RISE (R74). -/
def execWinRise (p : Fin 1152) (s : State) : Out := .next (s.armStep 5 p (armWindow true false))
/-- WIN_FALL (R74). -/
def execWinFall (p : Fin 1152) (s : State) : Out := .next (s.armStep 6 p (armWindow false true))
/-- WIN_BOTH (R74). -/
def execWinBoth (p : Fin 1152) (s : State) : Out := .next (s.armStep 7 p (armWindow true true))

/-- The arming takes an edge at instant `t`: of a selected kind, from its start and before its window's close. -/
def Arming.takes (a : Arming) (rising : Bool) (t : DWord) : Bool :=
  (if rising then a.rise else a.fall) && atOrAfter t a.start &&
  (match a.close with
   | some c => before t c
   | none => true)

/-- The arming after one captured edge. -/
def Arming.after (a : Arming) : Option Arming :=
  match a.left with
  | none => some a
  | some n => if n ≤ 1 then none else some { a with left := some (n - 1) }

/-- CAPTURE_EDGE (R73–R76): a crossing at instant now + 4q units of the pin's pad. An armed cell records it as an EDGE
record, unless it follows a recorded edge by less than 2.5 ns, which sets OVF in the next record. DEDUCED (log entry 192): an edge that
the arming does not select is neither recorded nor lost. -/
def execCaptureEdge (p : Fin 1152) (ed : Edge) (q : Fin 40) (s : State) : Out :=
  let t := s.time + units (4 * q.val)
  let c := s.capCell p
  match c.arm with
  | none => .next s
  | some a =>
    if a.takes (ed == .rising) t then
      let soon := match c.lastEdge with
        | some l => decide (tdiff t l < (unitsPerTick : Nat))
        | none => false
      if soon then .next (s.setCap p { c with ovf := true })
      else
        let s1 := s.setCap p { arm := a.after, lastEdge := some t, ovf := false }
        .next (s1.ringWrite a.ring t 1 p (if ed = .rising then 1 else 2) c.ovf a.late a.tag)
    else .next s

/-- WINDOW_CLOSE (R74, R75): a window that saw no edge writes a MISS record at its close and disarms. -/
def execWindowClose (p : Fin 1152) (s : State) : Out :=
  let c := s.capCell p
  match c.arm with
  | none => .next s
  | some a =>
    match a.close with
    | none => .next s
    | some t =>
      if s.reached t then
        .next ((s.setCap p { c with arm := none, ovf := false }).ringWrite a.ring t 2 p 0 c.ovf a.late a.tag)
      else .next s

/-- Word `w` of the record that a ring's window shows; zeros on an empty ring (R77). -/
def State.ringWord (s : State) (r w : Nat) : Word :=
  match (s.ring r).recs with
  | [] => 0
  | x :: _ => BitVec.ofNat 32 (x.toNat >>> (32 * w))

/-- CAP_READ (R77): a read of word +0xC of ring `i` gives it and removes the record; the command removes up to `max`
records and returns them. -/
def execCapRead (v : ReadVia) (s : State) : Out :=
  match v with
  | .reg i => .next ({ s with readData := s.ringWord (i % 4) 3 }.ringPop (i % 4))
  | .cmd c =>
    match s.turn c 2 4 with
    | none => .next s
    | some x =>
      let r := beAt x.payload 0 1
      let n := beAt x.payload 1 1
      if 4 ≤ r ∨ n = 0 ∨ 64 < n then .next (s.replyTo x csBADPARAM true [])
      else
        let got := (s.ring r).recs.take n
        .next ((s.setRing r { s.ring r with recs := (s.ring r).recs.drop n }).replyTo x csOK true
          (got.flatMap (fun q => beBytes 16 q.toNat)))

/-! ### Counters (R48) -/

/-- The action of op `op` that waits at counter `n` takes effect. -/
def State.counterStep (s : State) (op n : Nat) (f : Word → Word → Word) : State :=
  match s.due? 7 n op with
  | some d =>
    let old := s.getR (Reg.ACT_CNT n)
    let new := f old d.act.data
    let s := (s.taken d).setR (Reg.ACT_CNT n) new
    if op = 0 ∨ (op = 2 ∧ old ≠ 0 ∧ new = 0) then s.raise 123 (2 ^ n) else s
  | none => s

/-- RAISE (R48): bit n of the cause register of EV123. -/
def execRaise (n : Fin 16) (s : State) : Out := .next (s.counterStep 0 n (fun c _ => c))
/-- ADD (R48), modulo 2^32. -/
def execAdd (n : Fin 16) (s : State) : Out := .next (s.counterStep 1 n (fun c d => c + d))
/-- COUNT_DOWN (R48): saturates at 0, and raises EV123 when it brings the counter from a non-zero value to 0. -/
def execCountDown (n : Fin 16) (s : State) : Out :=
  .next (s.counterStep 2 n (fun c d => if c.toNat ≤ d.toNat then 0 else c - d))
/-- LOAD (R48). -/
def execLoad (n : Fin 16) (s : State) : Out := .next (s.counterStep 3 n (fun _ d => d))

end Sys2Proof.Machine
end

