-- ==== Sys2Proof/Machine/SelfTest.lean ====
section
/-!
DEFINITION. Sys2Proof/Machine/SelfTest.lean: the rows of Drizzle, of the reinstatement of blocks and of the JTAG port
(19_self_test_and_fault_tolerance.md).
-/
namespace Sys2Proof.Machine

/-- Units of type `t`, and slices of each (R467). -/
def typeUnits (t : Nat) : Nat := match t with
  | 0 => 68
  | 1 | 2 => 1584
  | 3 => 4
  | 4 => 1152
  | 5 => 5
  | _ => 1
def typeSlices (t : Nat) : Nat := match t with
  | 0 => 24
  | 3 => 4
  | 5 => 8
  | 6 => 16
  | _ => 1

/-! ### Which unit can be tested now (R468–R472) -/

/-- The windows of R472: a slice's maximum plus 1 us. -/
def idleWindow (t : Nat) : Nat := unitsPerUs * (match t with
  | 3 => 6
  | 4 => 2
  | 5 => 3
  | _ => 51)

/-- The calendar holds no entry of the kinds `l` for target `u` with DUE in the window. -/
def State.calendarIdle (s : State) (l : List Nat) (u t : Nat) : Bool :=
  !(s.act.cal.any (fun e => l.contains e.act.kind && e.act.tgt == u && decide (tdiff e.act.due s.time < (idleWindow t : Nat)))) &&
    !(s.act.delivered.any (fun d => l.contains d.act.kind && d.act.tgt == u))

/-- Unit `u` of an idle-window type is in an idle window (R472). -/
def State.idleNow (s : State) (t u : Nat) : Bool :=
  match t with
  | 3 => s.domOn domAdc && s.calendarIdle [4] u 3 && !before s.time (tabGet (fun _ => 0) s.eng.adcBusy u) &&
      !s.eng.adcRun.any (fun r => r.1 == u)
  | 4 => s.calendarIdle [0, 3] u 4 && (s.cell u).queue.isEmpty && (s.capCell u).arm.isNone && (s.pwmOwner u).isNone &&
      (s.probeOn u).isNone
  | 5 => (s.arbiter u).busy.isNone && (s.arbiter u).reqs.isEmpty && (s.arbiter u).stream.isNone
  | _ => s.cfg.staging.isNone && s.boot.fwUp.isNone && s.cfg.rewrites.isEmpty && s.cmd.rx.isEmpty

/-- A Front is armed for the unit or its holder (R468). -/
def State.frontHolds (s : State) (t u : Nat) : Bool :=
  s.frontBusy &&
    (match t with
     | 0 => (s.logicalOf u).any (fun e => s.stgEngines.testBit e)
     | 1 | 2 => s.stgSectors.testBit (u / 33)
     | _ => false)

/-- SPARE engines. -/
def State.spares (s : State) : Nat := ((List.range 68).filter (fun m => s.engState m == 6)).length

/-- A slice of type `t` can start on unit `u` now. -/
def State.canTest (s : State) (t u : Nat) : Bool :=
  !s.frontHolds t u &&
    (match t with
     | 0 =>
       s.domOn (domEngine u) && !((List.range 64).any (fun e => (s.leng e).mig.isSome)) &&
         (match s.logicalOf u with
          | none => s.engState u == 6 || s.engState u == 7
          | some _ => decide (s.engState u ≤ 4) && decide (s.getF Reg.TST_CTL 9 8 < s.spares))
     | 1 | 2 =>
       let i := u / 33
       let r := spareReg t i
       let own := u % 33 == 32 || (s.getB r 31 && s.getF r 4 0 == u % 33) ||
         s.getB (if t = 1 then Reg.SEC_BRAM_RETIRED i else Reg.SEC_MUL_RETIRED i) (u % 33)
       s.domOn (domSector i) && (s.sector i).move.isNone &&
         (if u % 33 = 32 then !s.getB r 31 else own || (!s.getB r 31 && !s.getB r 30 && !s.getB r 29))
     | _ => s.idleNow t u)

/-- Drizzle may run a slice of type `t` (R468). -/
def State.drizzleOn (s : State) (t : Nat) : Bool :=
  s.thawed && s.getB Reg.TST_CTL 31 && s.getB (Reg.TST_TYPE_CTL t) 31 &&
    [0, 1, 2, 3, 4].all (fun r => s.getF (Reg.ARB_R_CTL r) 31 30 == 0)

/-- The units that the present pass has still to reach. -/
def State.unitsLeft (s : State) (t : Nat) : List Nat :=
  (List.range (typeUnits t)).filter (fun u => !(s.dtype t).done.contains u && !(s.dtype t).skipped.contains u)

/-! ### Passes (R475) -/

/-- The pass of type `t` is complete: units left are SKIPPED; a late pass is counted, and the next one begins. -/
def State.passEnd (s : State) (t : Nat) : State :=
  let d := s.dtype t
  let left := s.unitsLeft t
  let s := (s.addF (Reg.TST_TYPE_STAT t) 31 16 1).raise 219 (2 ^ t)
  let s := if left.isEmpty then s else s.raise 222 (2 ^ t)
  if d.late then
    ((s.addF (Reg.TST_TYPE_LATE t) 15 0 1).raise 220 (2 ^ t)).setDtype t { slice := d.slice, since := s.time }
  else s.setDtype t { d with skipped := d.skipped ++ left }

/-- Unit `u` is over for this pass; with the last unit the pass is complete. -/
def State.unitOver (s : State) (t u : Nat) : State :=
  let d := s.dtype t
  let s := s.setDtype t { d with slice := none, progress := tabErase d.progress u, done := d.done ++ [u] }
  if (s.unitsLeft t).isEmpty then s.passEnd t else s

/-- Unit `u` has completed its slices of this pass; a retired unit without a FAIL has a clean pass (R109, R482). -/
def State.unitDone (s : State) (t u : Nat) : State :=
  let d := s.dtype t
  let key := unitKey t u
  let clean := s.tst.clean.erase key
  let s : State := { s with tst := { s.tst with clean := if d.failed.contains u then clean else clean ++ [key] } }
  s.unitOver t u

/-- PASS_PERIOD_EXPIRY (R475): a pass that is complete makes room for the next; one that is not is finished as soon as
possible, its unreachable units SKIPPED. -/
def execPassPeriodExpiry (t : Fin 7) (s : State) : Out :=
  let d := s.dtype t
  let p := 1000 * unitsPerMs * max 1 (s.getF (Reg.TST_TYPE_CTL t) 15 0)
  if !s.thawed || !atOrAfter s.time (d.since + units p) then .next s
  else
    let left := s.unitsLeft t
    if left.isEmpty then .next (s.setDtype t { slice := d.slice, since := d.since + units p })
    else
      let s := s.setDtype t { d with late := true }
      if d.slice.isNone && left.all (fun u => !s.canTest t u) then .next (s.passEnd t) else .next s

/-! ### Slices (R469–R473, R476) -/

/-- A slice of type `t` starts on unit `u`. -/
def State.sliceOn (s : State) (t u : Nat) : State :=
  let d := s.dtype t
  let sl : Slice := { unit := u, k := tabGet (fun _ => 0) d.progress u, prev := if t = 0 then s.engState u else 0 }
  match t with
  | 0 =>
    (match s.logicalOf u, s.lowestSpare with
     | some e, some m =>
       (s.setDtype 0 { d with slice := some { sl with heldBy := some m } }).startMigration u m e { target := m, drizzle := true }
     | some _, none => s
     | none, _ => (s.setDtype 0 { d with slice := some sl }).setEngState u 9)
  | 1 | 2 =>
    let i := u / 33
    let k := u % 33
    let inPlace := k == 32 || (s.getB (spareReg t i) 31 && s.getF (spareReg t i) 4 0 == k) ||
      s.getB (if t = 1 then Reg.SEC_BRAM_RETIRED i else Reg.SEC_MUL_RETIRED i) k
    if inPlace then s.setDtype t { d with slice := some sl }
    else if t = 1 then
      (s.setDtype 1 { d with slice := some { sl with heldBy := some 32, running := false } }).bramStart i
        { role := k, toSpare := true, drizzle := true }
    else (s.setDtype 2 { d with slice := some { sl with heldBy := some 32 } }).mulMove i k true
  | _ => s.setDtype t { d with slice := some sl }

/-- The type's slice under way; one that was aborted and is restored is none. -/
def State.sliceLive (s : State) (t : Nat) : Bool :=
  match (s.dtype t).slice with
  | some sl => (match sl.restoreAt with
    | some r => before s.time r
    | none => true)
  | none => false

/-- ACTIVE of type `t` (R490): a slice runs that no request has aborted. -/
def State.sliceActive (s : State) (t : Nat) : Bool := (s.dtype t).slice.any (fun sl => sl.restoreAt.isNone)

/-- DRIZZLE_SLICE_START (R468): the next slice of type `t`, on the lowest unit that can be tested now. -/
def execDrizzleSliceStart (t : Fin 7) (s : State) : Out :=
  if !s.drizzleOn t || s.sliceLive t then .next s
  else
    let s := s.setDtype t { s.dtype t with slice := none }
    match (s.unitsLeft t).find? (fun u => s.canTest t u) with
    | some u => .next (s.sliceOn t u)
    | none => if (s.dtype t).late && !(s.unitsLeft t).isEmpty then .next (s.passEnd t) else .next s

/-- The service of the unit returns after its last slice (R469, R470). -/
def State.sliceReturn (s : State) (t : Nat) (sl : Slice) : State :=
  match t, sl.heldBy with
  | 0, some m =>
    (match s.logicalOf m with
     | some e => (s.unitDone 0 sl.unit).startMigration m sl.unit e { target := sl.unit, drizzle := true }
     | none => s.unitDone 0 sl.unit)
  | 0, none => (s.setEngState sl.unit sl.prev).unitDone 0 sl.unit
  | 1, some _ =>
    (s.unitDone 1 sl.unit).bramStart (sl.unit / 33) { role := sl.unit % 33, toSpare := false, drizzle := true }
  | 2, some _ => (s.mulReturn (sl.unit / 33)).unitDone 2 sl.unit
  | _, _ => s.unitDone t sl.unit

/-- The settings of a unit's squall window (R477). -/
def State.unitSquall (s : State) (t u : Nat) : Nat × Nat :=
  match t with
  | 0 => squallCfg (s.getR (Reg.ENG_SQUALL u))
  | 1 | 2 => squallCfg (s.getR (Reg.SEC_MEM_SQUALL (u / 33)))
  | _ => s.sqCfg

/-- The unit under test has a lasting fault (R476, R477): an engine or a block is retired, and what serves its work keeps
it; a unit of the other types is marked. -/
def State.sliceLasting (s : State) (t : Nat) (sl : Slice) (addr : Word) (bit : Nat) : State :=
  let u := sl.unit
  let s := (s.lastingFault t u addr 1 bit false).forgetClean t u
  let s := s.unitOver t u
  match t with
  | 0 => s.setEngState u 7
  | 1 | 2 =>
    let i := u / 33
    if u % 33 = 32 then s.setB (spareReg t i) 29 true
    else
      let s := s.setB (if t = 1 then Reg.SEC_BRAM_RETIRED i else Reg.SEC_MUL_RETIRED i) (u % 33) true
      if sl.heldBy.isSome then s.raise (64 + i) 64 else s
  | _ => { s with tst := { s.tst with lasting := s.tst.lasting.erase (unitKey t u) ++ [unitKey t u] } }

/-- SLICE_END (R476): the slice of type `t` ends PASS or FAIL, with the failing word and bit (127: none). -/
def execSliceEnd (t : Fin 7) (pass : Bool) (addr : Word) (bit : Fin 128) (s : State) : Out :=
  match (s.dtype t).slice with
  | none => .next s
  | some sl =>
    if sl.restoreAt.isSome || !sl.running || (t.val == 0 && s.engState sl.unit != 9) then .next s
    else if pass then
      let d := s.dtype t
      if typeSlices t ≤ sl.k + 1 then .next (s.sliceReturn t sl)
      else if t.val = 0 then .next (s.setDtype 0 { d with slice := some { sl with k := sl.k + 1, again := false }, progress := tabPut (fun _ => 0) d.progress sl.unit (sl.k + 1) })
      else .next (s.setDtype t { d with slice := none, progress := tabPut (fun _ => 0) d.progress sl.unit (sl.k + 1) })
    else
      let s := s.setR (Reg.TST_TYPE_FAIL_UNIT t) (BitVec.ofNat 32 (2 ^ 31 + bit.val * 65536 + sl.unit))
      let s := s.setF (Reg.TST_TYPE_FAIL_ADDR t) 19 0 addr.toNat
      let s := (s.addF (Reg.TST_TYPE_FAIL t) 15 0 1).raise 216 (2 ^ t.val)
      let d := s.dtype t
      let s := s.setDtype t { d with slice := some { sl with again := true }, failed := d.failed.erase sl.unit ++ [sl.unit] }
      let r := s.countFault t sl.unit (s.unitSquall t sl.unit)
      .next (if r.2 then r.1.sliceLasting t sl addr (if bit.val = 127 then 255 else bit.val) else r.1)

/-! ### Reinstatement, JTAG (R482, R486) -/

/-- A write of TST_REINSTATE (R482): ignored, with CMD_ERR, unless the block is retired, or the spare FAULTY, and has had a
clean pass since. -/
def State.writeReinstate (s : State) (w : Word) : State :=
  let t := fld w 29 28
  let i := fld w 21 16
  let k := fld w 5 0
  let err := s.setB Reg.TST_STAT 31 true
  if (t ≠ 1 ∧ t ≠ 2) ∨ 47 < i ∨ 32 < k then err
  else
    let u := 33 * i + k
    let r := if k = 32 then spareReg t i else if t = 1 then Reg.SEC_BRAM_RETIRED i else Reg.SEC_MUL_RETIRED i
    let b := if k = 32 then 29 else k
    if s.getB r b && s.tst.clean.contains (unitKey t u) then (s.setB r b false).resolveLog t u else err

/-- TST_REINSTATE (R482). -/
def execTstReinstate (w : Word) (s : State) : Out := .next (s.writeReinstate w)

/-- JTAG codes available always, and only unlocked (R486). -/
def jtagOpen : List Nat := [1, 2, 0xFF]
def jtagLocked : List Nat := [0, 3, 4, 0x20, 0x21]

/-- What the test data register of JTAG instruction `n` captures (R1, R486). -/
def jtagCapture (n : Nat) : Option Word := if n = 1 then some 0x19640A4D else if n = 0xFF then some 0 else none

/-- JTAG_INSTRUCTION (R486): a reserved code, and a locked one while the device is locked, behave as BYPASS. -/
def execJtagInstruction (i : Byte) (s : State) : Out :=
  let c := i.toNat
  let put := fun (s : State) n => { s with tst := { s.tst with jtag := n, jtagDr := jtagCapture n } }
  if jtagOpen.contains c then .next (put s c)
  else if jtagLocked.contains c then
    if s.getB Reg.TST_SCAN 0 then .next (put s c) else .next ((put s 0xFF).raise 223 4)
  else .next (put s 0xFF)

/-- TEST_LOGIC_RESET (R486): IDCODE is selected. -/
def execTestLogicReset (s : State) : Out := 
  .next { s with tst := { s.tst with jtag := 1, jtagDr := jtagCapture 1 } }

end Sys2Proof.Machine
end

