-- ==== Sys2Proof/Machine/Startup.lean ====
section
/-!
DEFINITION. Sys2Proof/Machine/Startup.lean: a start-up from the time base to Thaw (11_startup_and_reset.md), the load of BASE or
GOLDEN (R266, R267), the repair log at start-up (R481), and SERVICE (R244).
-/
namespace Sys2Proof.Machine

/-- PHASE of DEV_START_STAT. -/
def State.phase (s : State) : Nat := s.getF Reg.DEV_START_STAT 4 2

/-- MODE of every arbiter (R423), with EV236 where it changes; it takes effect at the next grant decision. -/
def State.arbModes (s : State) (m : Nat) : State :=
  [0, 1, 2, 3, 4].foldl (fun s r =>
    if s.getF (Reg.ARB_R_CTL r) 31 30 = m then s
    else ((s.setF (Reg.ARB_R_CTL r) 31 30 m).setArb r { s.arbiter r with mode := m }).raise 236 (2 ^ r)) s

/-! ### The load of a whole image (R256–R258, R266) -/

/-- A whole image under way. -/
structure WholeLoad where
  n      : Nat := 0
  last   : Option Nat := none
  plane  : List (Nat × List Byte) := []
  plain  : List Byte := []
  cipher : List Byte := []
  /-- Status and first bad address, once a check has failed. -/
  bad    : Option (Nat × Nat) := none

/-- The next frame of slot `k` (R257, R258). -/
def State.wholeFrame (s : State) (k : Nat) (h : Header) (g : WholeLoad) : WholeLoad :=
  let f := sliceB (s.slotBytes k) (4096 + 520 * g.n) 520
  if f.length < 520 then { g with bad := some (22, 0) }
  else
    let p := s.plainFrame h g.n f
    let a := beAt p 0 4
    let st := s.frameCheck h g.plane g.last p
    if st ≠ 0 then { g with bad := some (st, a) }
    else { g with n := g.n + 1, last := some a, plane := planePut g.plane a (sliceB p 4 512), plain := g.plain ++ p,
                  cipher := if h.enc then g.cipher ++ f else [] }

/-- The frames of slot `k`, up to the first that fails. -/
def State.wholeFrames (s : State) (k : Nat) (h : Header) : Nat → WholeLoad → WholeLoad
  | 0, g => g
  | n + 1, g => if g.bad.isSome then g else s.wholeFrames k h n (s.wholeFrame k h g)

/-- The load of slot `k`, 0 BASE or 1 GOLDEN, into the active planes: the planes, or the status and the address of its
failure. -/
def State.wholeLoad (s : State) (k : Nat) : Except (Nat × Nat) (List (Nat × List Byte)) :=
  if s.slotState k ≠ 2 then .error (14, 0)
  else
    let h : Header := (s.slotBytes k).take 4096
    let c := s.headerCheck h [k + 1] true
    if h.length < 4096 then .error (22, 0)
    else if c.1 ≠ 0 then .error c
    else
      let g := s.wholeFrames k h h.frames {}
      match g.bad with
      | some b => .error b
      | none =>
        if sha256 g.plain ≠ h.digest then .error (24, 0)
        else if h.enc && !gcmTagOk (vaultKey s.cfg.aes h.keyId) h.iv (List.take 0x40 h) g.cipher h.tag then .error (25, 0)
        else .ok g.plane

/-! ### The repair log at start-up (R481) -/

/-- A retired engine's logical engine on the lowest SPARE engine; false where there is none. -/
def State.applyEngine (s : State) (n : Nat) : State × Bool :=
  match s.logicalOf n with
  | none => (s.setEngState n 7, true)
  | some e =>
    match s.lowestSpare with
    | none => ((s.setB (Reg.ENG_STAT n) 5 true).raise e 0x4000, false)
    | some m => ((s.switchEngine n e { target := m, retire := true }).setEngState m 2, true)

/-- A retired block RAM or multiplier: its role on the spare; false where the spare is not free. -/
def State.applyBlock (s : State) (kind unit : Nat) : State × Bool :=
  let i := unit / 33
  let k := unit % 33
  let r := spareReg kind i
  if k = 32 then (s.setB r 29 true, true)
  else if s.getB r 31 || s.getB r 29 then (s.setB (Reg.SEC_MEM_STAT i) (if kind = 1 then 2 else 1) true, false)
  else
    let retired := if kind = 1 then Reg.SEC_BRAM_RETIRED i else Reg.SEC_MUL_RETIRED i
    ((((s.setB retired k true).setB r 31 true).setF r 4 0 k).raise (64 + i) 64, true)

/-- A record of the log that is not RESOLVED and names a unit of type 0, 1 or 2. -/
def RepairRec.acts (r : RepairRec) : Bool := !r.resolved && decide (r.typ ≤ 2)

/-- Start-up acts on the log (R481): a unit named by several records is retired once. -/
def State.applyLog (s : State) : State :=
  if !s.getB Reg.TST_CTL 4 then s
  else
    let step := fun (p : State × List RepairRec × List (Nat × Nat × Bool)) (r : RepairRec) =>
      if !r.acts then (p.1, p.2.1 ++ [r], p.2.2)
      else match p.2.2.find? (fun q => q.1 == r.typ && q.2.1 == r.unit) with
        | some q => (p.1, p.2.1 ++ [{ r with applied := r.applied || q.2.2 }], p.2.2)
        | none =>
          let u := if r.typ = 0 then p.1.applyEngine r.unit else p.1.applyBlock r.typ r.unit
          (if u.2 then u.1.raise 221 4 else u.1, p.2.1 ++ [{ r with applied := r.applied || u.2 }], (r.typ, r.unit, u.2) :: p.2.2)
    let r := s.tst.rlog.foldl step (s, [], [])
    { r.1 with tst := { r.1.tst with rlog := r.2.1 } }

/-! ### BASE_LOAD (R266, R267, R298, R301) -/

/-- The units of configuration that a whole image sources (R243). -/
def allUnits : List Nat := List.range 400 ++ [400]

/-- Frost comes into force (R298), and the output register of each pin is preset (R301). -/
def State.enterFrost (s : State) : State :=
  let s : State := { s with boot := { s.boot with frost := true } }
  let up := (List.range 1152).filter (fun p => s.frostCode p == 1 || s.frostCode p == 4)
  up.foldl (fun s p => s.setCell p { s.cell p with out := true }) s

/-- The planes of slot `k` become the active ones (R252, R266, R438): owners, sectors, data RAM and block RAM. -/
def State.takeWhole (s : State) (k : Nat) (plane : List (Nat × List Byte)) : State :=
  let own := planeFrame plane (pinFrame 288)
  let s : State := { s with cfg := { s.cfg with
    active := plane, staged := [], stgPins := [], stgFrom := [],
    actFrom := if Header.frames (s.slotBytes k) = 0 then [] else allUnits.map (fun u => (u, k + 1)) } }
  let s := s.noteMarks
  let s := (List.range 48).foldl (fun s i =>
    (((s.setF (Reg.CFG_OWN i) 3 0 (decoded own 0 (fun f => Config.ownerOf f i)).toNat).setB (Reg.SEC_STAT i) 0 true).loadBuffers i (fun _ => false)).noteDisc i) s
  (List.range 64).foldl (fun s e =>
    let s := s.setF (Reg.CFG_EOWN e) 3 0 (decoded own 0 (fun f => Config.ownerOf f (48 + e))).toNat
    s.setLeng e { s.leng e with dram := initRam plane e (fun _ => false) [] }) s

/-- An image has passed: planes, CFG_BOOT, the repair log, Frost. -/
def State.imageUp (s : State) (k : Nat) (plane : List (Nat × List Byte)) : State :=
  let s := (s.takeWhole k plane).setF Reg.CFG_BOOT 1 0 (k + 1)
  (s.applyLog.setF Reg.DEV_START_STAT 4 2 4).enterFrost

/-- The device enters SERVICE (R244, R423): global clear stays or returns, DONE is low. -/
def State.enterService (s : State) : State :=
  let s : State := { s with boot := { s.boot with running := false, clear := true, thawAt := none } }
  let s := (s.setF Reg.DEV_START_STAT 4 2 6).setB Reg.DEV_START_STAT 0 false
  (s.setB Reg.CFG_BOOT 2 true).arbModes 3

/-- BASE_LOAD (R266, R267): BASE, else GOLDEN, else SERVICE. -/
def execBaseLoad (s : State) : Out :=
  if !s.boot.running || s.phase != 2 then .next s
  else
    match s.wholeLoad 0 with
    | .ok p => .next (s.imageUp 0 p)
    | .error b =>
      let s := s.setF Reg.CFG_BOOT 31 27 b.1
      match s.wholeLoad 1 with
      | .ok p => .next ((s.imageUp 1 p).raise 175 1)
      | .error g => .next (((s.setF Reg.CFG_BOOT 26 22 g.1).enterService.setB Reg.DEV_FAULT_SRC 0 true).raise 175 2)

/-- TIME_WAIT_EXPIRY (R296): no time message has come; device time starts at 0 under the fallback. -/
def execTimeWaitExpiry (s : State) : Out :=
  if s.boot.running ∧ s.tbMode = 2 ∧ s.isMaster = false ∧ s.timeRuns = false ∧ (s.locked 0 || s.locked 1) = true then
    .next ((s.startTime 0).setB Reg.DEV_FAULT_SRC 2 true)
  else .next s

/-! ### DONE and Thaw (R297, R302, R303) -/

/-- The tick that begins now contains an instant `off` units past a multiple of 1 ms of device time. -/
def State.msPhase (s : State) (off : Nat) : Bool :=
  s.timeRuns && decide ((off + unitsPerMs - s.time.toNat % unitsPerMs) % unitsPerMs < unitsPerTick)

/-- The next multiple of 1 ms after now. -/
def State.nextMs (s : State) : DWord := units ((s.time.toNat / unitsPerMs + 1) * unitsPerMs)

/-- Ready (R297). -/
def State.ready (s : State) : Bool := s.phase == 4 && s.timeRuns && s.freeGasp.isSome

/-- DONE_RELEASE_POINT (R302): at k ms + 0.2 ms a ready device releases DONE. -/
def execDoneReleasePoint (s : State) : Out :=
  if s.boot.running && s.ready && s.msPhase 12800000 then .next (s.setB Reg.DEV_START_STAT 0 true) else .next s

/-- DONE_SAMPLE (R302): at k ms + 0.5 ms; `line`: no other device pulls DONE low. -/
def execDoneSample (line : Bool) (s : State) : Out :=
  if s.boot.running && s.phase == 4 && s.msPhase 32000000 && line && s.getB Reg.DEV_START_STAT 0 && s.boot.thawAt.isNone then
    .next { s.setB Reg.DEV_START_STAT 1 true with boot := { s.boot with thawAt := some s.nextMs } }
  else .next s

/-- A configured sector at Thaw (R203, R303). -/
def State.thawSector (s : State) (i : Nat) : State :=
  if s.getB (Reg.SEC_STAT i) 0 then (s.loadInterface i).setB (Reg.SEC_STAT i) 1 true else s

/-- THAW (R303). A key that is present is selected where AUTO_STAGE asks for it (R320). -/
def execThaw (s : State) : Out :=
  match s.boot.thawAt with
  | none => .next s
  | some t =>
    if !s.boot.running || !s.reached t then .next s
    else
      let s : State := { s with boot := { s.boot with running := false, clear := false, thawAt := none, warns := 0 } }
      let g := s.globalFrames
      let s := ((List.range 32).foldl (fun s k => s.store (Reg.CLK_GCLK k) (decoded g 0 (fun f => Config.gclkOf f k))) s).noteClamps
      let s := (List.range 48).foldl (fun s i => s.thawSector i) s
      let s := (((s.setF Reg.DEV_START_STAT 4 2 5).setD Reg.DEV_THAW_TIME t).arbModes 0)
      let s := (List.range 7).foldl (fun s d => s.setDtype d { s.dtype d with since := t }) s
      if s.getB Reg.KEY_CTL 6 && s.key.chip.isSome then
        (if s.key.discover then .next { s with key := { s.key with auto := true } } else .next (s.keySelect none none))
      else .next s

/-! ### SERVICE and the start-up record -/

/-- The Front under way ends (R244): an armed one is cancelled as by the host, a committed one does not take place. -/
def State.dropFront (s : State) : State :=
  if s.frontState = 3 then
    let s : State := { s with act := { s.act with
      cal := s.act.cal.filter (fun e => e.act.kind != 6), delivered := s.act.delivered.filter (fun d => d.act.kind != 6) } }
    ((s.setF Reg.CFG_FRONT_STAT 2 0 0).releaseHold holdFront (List.range 116)).dropDue
  else s.frontCancel 1

/-- Physical engine `n` leaves its cycle (R244): its checkpoint is restored, and a latched trigger is dropped. -/
def State.stopCycle (s : State) (n : Nat) : State :=
  match s.logicalOf n with
  | some e =>
    if s.inCycle n then
      let s := s.setLeng e { (s.leng e).restored with latched := none, haltAtEnd := false }
      (s.setB (Reg.ENG_STAT n) 6 false).settle n e false
    else s
  | none => s

/-- Cycle table `t` stands still (R244). -/
def State.stopTable (s : State) (t : Nat) : State :=
  (s.setTbl t { s.tbl t with swapAt := none, stopAt := none }).setF (Reg.ACT_CT_STAT t) 2 0 0

/-- No format runs (R244; log entry 181): no Front, no action, no edge still to come, no armed cell, no table and no cycle. What waits in the
posting ports is refused there, as NOT_RUNNING (R52). -/
def State.stopFormat (s : State) : State :=
  let s := s.dropFront
  let a := s.act
  let s : State := { s with act := { a with
    cal := [], delivered := [], launch := [],
    capture := (a.capture.map (fun c => (c.1, { c.2 with arm := none }))).filter (fun c => c.2 != {}) } }
  let s := (List.range 16).foldl State.stopTable s
  (List.range 68).foldl State.stopCycle s

/-- SERVICE_ENTER (R244, R301, R423): the format stops, every pin returns to Frost and global clear is held. -/
def execServiceEnter (c : CmdRef) (s : State) : Out :=
  match s.turn c 3 7 with
  | none => .next s
  | some x =>
    let s := (List.range 48).foldl (fun s i =>
      (s.setSector i { s.sector i with ffs := [], mulP := [], mulOvf := [], mulIn := [], stb := [], evp := [], reqSeen := [] }).setB
        (Reg.SEC_STAT i) 1 false) s.stopFormat
    let s := if s.boot.frost then s.enterFrost else s
    .next (s.enterService.replyTo x csOK true [])

/-- STARTUP_WRITE (R295): the start-up record, in the layout of DEV_STARTUP. Reserved bits and encodings are refused. -/
def execStartupWrite (c : CmdRef) (s : State) : Out :=
  match s.turn c 15 1 with
  | none => .next s
  | some x =>
    let w : Word := BitVec.ofNat 32 (beAt x.payload 0 4)
    if w &&& ~~~(0xFF000F1F : Word) ≠ 0 ∨ fld w 1 0 = 3 ∨ fld w 3 2 = 3 then .next (s.replyTo x csBADPARAM true [])
    else .next (((s.pendingReply x).setR Reg.DEV_STARTUP w).finish c csOK [])

end Sys2Proof.Machine
end

