-- ==== Sys2Proof/Machine/Trunk.lean ====
section
/-!
DEFINITION. Sys2Proof/Machine/Trunk.lean: the rows of the trunk ports (R353–R366): 802.1AS, gate lists, transmission, reception and
redundancy, service and wakes. Layouts of 802.1AS messages and of the redundancy tag are those of the standards.
-/
namespace Sys2Proof.Machine

/-! ### 802.1AS (R356, R357) -/

/-- The multicast address of 802.1AS (R355). -/
def ptpAddr : Nat := 0x0180C200000E
def ptpType : Nat := 0x88F7

/-- clockIdentity of the device: its MAC address as an EUI-64. -/
def State.clockId (s : State) : Nat :=
  let m := (s.getD Reg.NET_MAC).toNat
  (m / 2 ^ 24) * 2 ^ 40 + 0xFFFE * 2 ^ 24 + m % 2 ^ 24

/-- A timestamp of 802.1AS: device time in seconds and nanoseconds (R356). -/
def ptpTime (t : DWord) : List Byte :=
  let ns := t.toNat / 64
  beBytes 6 (ns / 1000000000) ++ beBytes 4 (ns % 1000000000)

/-- A peer-delay message of port `p`: type, flags, sequenceId, body. -/
def State.ptpFrame (s : State) (p typ flags seq ctl : Nat) (body : List Byte) : List Byte :=
  let log := s.getF Reg.NET_CTL 15 12
  beBytes 6 ptpAddr ++ beBytes 6 (s.getD Reg.NET_MAC).toNat ++ beBytes 2 ptpType ++
    beBytes 1 (0x10 + typ) ++ beBytes 1 0x12 ++ beBytes 2 (34 + body.length) ++ beBytes 1 (s.getF Reg.NET_CTL 6 0) ++ beBytes 1 0 ++
    beBytes 2 flags ++ List.replicate 12 0 ++ beBytes 8 s.clockId ++ beBytes 2 (p + 1) ++ beBytes 2 seq ++ beBytes 1 ctl ++
    beBytes 1 (if typ = 2 then (if 8 ≤ log then 240 + log else log) else 0x7F) ++ body

/-- A frame sent on port `p` beside its queues. -/
def State.portSend (s : State) (p : Nat) (f : List Byte) : State :=
  s.setNetPort p { s.netPort p with sent := (s.netPort p).sent ++ [wireFrame f] }

/-- Port `p` runs 802.1AS: its link is up and its domain ON. -/
def State.ptpRuns (s : State) (p : Nat) : Bool :=
  s.getB (Reg.NET_PORT_STAT p) 3 && s.getB (Reg.NET_PORT_CTL p) 1 && s.domOn (domTrunk p)

/-- asCapable of port `p` is gained or lost (R377); where it is lost before service, joining starts again. -/
def State.setCapable (s : State) (p : Nat) (on : Bool) : State :=
  let a := Reg.NET_PORT_STAT p
  if s.getB a 4 = on then s
  else
    let s := (s.setB a 4 on).raise (144 + p) (if on then 4 else 8)
    let s := if !on && s.getF a 2 0 == 3 then s.setF a 2 0 2 else s
    s.updateSource

/-- PEER_DELAY_EXCHANGE (R357, R364): a valid exchange, which found `delay` in ps. After JOIN_N of them in a row the port's own
recovery state is reset and the port enters service. -/
def execPeerDelayExchange (p : Fin 2) (delay : Word) (s : State) : Out :=
  if !s.ptpRuns p then .next s
  else
    let a := Reg.NET_PORT_STAT p
    let s := s.setR (Reg.NET_PORT_PDELAY p) delay
    let s := s.setNetPort p { s.netPort p with pdelayOut := false, pdelayLost := 0, joins := (s.netPort p).joins + 1 }
    let s := s.setCapable p true
    let s := if s.portState p = 2 then s.setF a 2 0 3 else s
    if s.portState p = 3 ∧ max 1 (s.getF Reg.NET_CTL 23 16) ≤ (s.netPort p).joins then
      let fresh := fun (x : RxStream) => { x with
        latPass := tabErase x.latPass p, latDup := tabErase x.latDup p, lastSeq := tabErase x.lastSeq p }
      let s : State := { s with net := { s.net with rxs := (s.net.rxs.map (fun i => (i.1, fresh i.2))).filter (fun i => i.2 != {}) } }
      .next (((s.setF a 2 0 4).setB Reg.NET_STAT p true).raise (144 + p) 16)
    else .next s

/-- Unanswered requests in a row after which asCapable is lost (802.1AS, allowedLostResponses). -/
def allowedLost : Nat := 9

/-- PDELAY_REQ_INTERVAL (R357): a peer-delay request leaves; one that was not answered breaks the run of JOIN_N. -/
def execPdelayReqInterval (p : Fin 2) (s : State) : Out :=
  if !s.ptpRuns p then .next s
  else
    let x := s.netPort p
    let lost := if x.pdelayOut then x.pdelayLost + 1 else x.pdelayLost
    let joins := if x.pdelayOut then 0 else x.joins
    let s := s.setNetPort p { x with pdelayOut := true, pdelayLost := lost, joins := joins, pdelaySeq := (x.pdelaySeq + 1) % 65536 }
    let s := s.portSend p (s.ptpFrame p 2 0 x.pdelaySeq 5 (List.replicate 20 0))
    .next (if allowedLost < lost then s.setCapable p false else s)

/-- The sync interval in units that logMessageInterval `b` of a Sync gives, 2^b s for a signed byte; 127 gives none, and the
interval stays `old`. PRESUMED (IEEE 802.1AS header). -/
def syncInterval (b old : Nat) : Nat :=
  if b = 127 then old
  else if b < 128 then 64000000000 * 2 ^ (min b 24)
  else 64000000000 / 2 ^ (256 - b)

/-- The offset of device time that a Sync or Follow_Up `m` gives for a Sync that arrived at `at_` on port `p` (R357): gPTP time less
the epoch, in units. -/
def State.ptpOffset (s : State) (p : Nat) (m : List Byte) (at_ : DWord) : Int :=
  let ns := beAt m 34 6 * 1000000000 + beAt m 40 4
  let corr := sextInt (beAt m 8 8) 64
  let delay := (s.getR (Reg.NET_PORT_PDELAY p)).toNat * 64 / 1000
  let goal : Int := ((ns : Int) - (s.getD Reg.NET_PTP_EPOCH).toNat) * 64 + corr / 1024 + delay
  tdiff (dw goal) at_

/-- The best master clock algorithm's vector of an Announce: the grandmaster's priorities, quality and identity, stepsRemoved and
the sender's port. -/
def announceOf (m : List Byte) : Nat × DWord :=
  (beAt m 47 14 * 2 ^ 96 + beAt m 61 2 * 2 ^ 80 + beAt m 20 10, BitVec.ofNat 64 (beAt m 53 8))

/-- An 802.1AS message `m` received on port `p` (R357). -/
def State.ptpMessage (s : State) (p : Nat) (m : List Byte) : State :=
  let x := s.netPort p
  let seq := beAt m 30 2
  let inst := s.tbMode == 1 && beAt m 4 1 == s.getF Reg.NET_CTL 6 0 && s.getB (Reg.NET_PORT_STAT p) 4
  let src := inst && s.net.srcPort == some p && s.timeRuns
  if !s.getB (Reg.NET_PORT_CTL p) 1 then s
  else match beAt m 0 1 % 16 with
    | 0 =>
      if !src then s
      else
      let s : State := { s with net := { s.net with syncIval := syncInterval (beAt m 33 1) s.net.syncIval } }
      if beAt m 6 1 / 2 % 2 = 1 then s.setNetPort p { x with syncAt := some (seq, s.time) }
      else s.servo (s.ptpOffset p m s.time)
    | 8 =>
      match x.syncAt with
      | some (n, t) =>
        if src && n == seq then (s.setNetPort p { x with syncAt := none }).servo (s.ptpOffset p m t) else s
      | none => s
    | 11 => if inst then (s.setNetPort p { x with announce := some (announceOf m) }).updateSource else s
    | 2 =>
      let who := sliceB m 20 10
      let s := s.portSend p (s.ptpFrame p 3 0x0200 seq 5 (ptpTime s.time ++ who))
      s.portSend p (s.ptpFrame p 10 0 seq 5 (ptpTime s.time ++ who))
    | _ => s

/-! ### Service (R363–R366) -/

/-- LINK_UP (R364): the PHY link comes up. -/
def execLinkUp (p : Fin 2) (s : State) : Out :=
  let a := Reg.NET_PORT_STAT p
  if s.getB (Reg.NET_PORT_CTL p) 0 && s.domOn (domTrunk p) && !s.getB a 3 then
    .next (((s.setB a 3 true).setF a 2 0 2).raise (144 + p) 1)
  else .next s

/-- LINK_DOWN (R363): the link fails. A port in RET stays there without its link. -/
def execLinkDown (p : Fin 2) (s : State) : Out :=
  if !s.getB (Reg.NET_PORT_STAT p) 3 then .next s
  else if s.portState p = 5 then .next (s.linkLost p)
  else .next (s.portLeaves p 1)

/-- A write of NET.PORT[p].CTL (R354, R378): EN 0 holds the port DOWN. -/
def State.writePortCtl (s : State) (p : Nat) (w : Word) : State :=
  let s := s.store (Reg.NET_PORT_CTL p) w
  if !bitOf w 0 && decide (2 ≤ s.portState p ∧ s.portState p ≤ 4) then s.portLeaves p 1 else s

/-- A frame discarded and counted (R355). -/
def State.dropRx (s : State) (p : Nat) : State := s.incR (Reg.NET_PORT_RX_DROP p)

/-- A wake frame for this station (R366). -/
def State.isWake (s : State) (f : List Byte) : Bool :=
  let m := frPayload f
  (frDA f == (s.getD Reg.NET_MAC).toNat || frDA f == 2 ^ 48 - 1) && frType f == 0x88B5 && beAt m 0 2 == 0x57 &&
    (beAt m 2 2).testBit s.station

/-- WAKE_FRAME (R366): a frame received in RET; a wake frame wakes the port, any other is discarded and counted. -/
def execWakeFrame (p : Fin 2) (f : List Byte) (s : State) : Out :=
  if s.domState (domTrunk p) ≠ 1 then .next s
  else if s.getB Reg.NET_CTL 8 && s.isWake f then .next ((s.wake (domTrunk p) 5).raise (144 + p) 64)
  else .next (s.dropRx p)

/-- LINE_ENERGY (R366): line energy for 1 ms wakes an OFF port. -/
def execLineEnergy (p : Fin 2) (s : State) : Out :=
  if s.domState (domTrunk p) = 2 then .next ((s.wake (domTrunk p) 4).raise (144 + p) 32) else .next s

/-! ### Gate lists (R358–R360) -/

/-- The `n` entries of a gate list whose first word is register `a`: gates and interval. -/
def State.gateEntries (s : State) (a : Nat) (n : Nat) : List (Word × Word) :=
  (List.range n).map (fun e => (s.getR (a + 8 * e), s.getR (a + 8 * e + 4)))

/-- Gates and effective interval, in ns, of the entries of a cycle of `r` ns: cut at the cycle's end, or held to it (R359). -/
def gateSpans : List (Word × Word) → Nat → List (Nat × Nat)
  | [], _ => []
  | e :: l, r =>
    if l.isEmpty || decide (r ≤ e.2.toNat) then [(fld e.1 7 0, r)]
    else (fld e.1 7 0, e.2.toNat) :: gateSpans l (r - e.2.toNat)

/-- The operational list, and the admin list, of port `p`. -/
def State.operSpans (s : State) (p : Nat) : List (Nat × Nat) :=
  gateSpans (s.gateEntries (Reg.NET_PORT_OPER p 0) (s.getF (Reg.NET_PORT_OPER_LEN p) 8 0)) (s.getR (Reg.NET_PORT_OPER_CYCLE p)).toNat
def State.admSpans (s : State) (p : Nat) : List (Nat × Nat) :=
  gateSpans (s.gateEntries (Reg.NET_PORT_ADM p 0) (s.getF (Reg.NET_PORT_ADM_LEN p) 8 0)) (s.getR (Reg.NET_PORT_ADM_CYCLE p)).toNat

/-- Time in ns for which gate `q` stays open from the first entry on, and whether it closes within the list. -/
def openRun (q : Nat) : List (Nat × Nat) → Nat × Bool
  | [] => (0, false)
  | e :: l => if e.1.testBit q then (e.2 + (openRun q l).1, (openRun q l).2) else (0, true)

/-- Units until gate `q` of port `p` closes by the operational list alone: 0 closed, none never. -/
def State.operLeft (s : State) (p q : Nat) : Option Nat :=
  let x := s.netPort p
  let l := s.operSpans p
  let here := (l.drop x.gateEntry).head?
  match here with
  | none => none
  | some e =>
    if !e.1.testBit q then some 0
    else
      let left := (tdiff x.gateEnd s.time).toNat
      let a := openRun q (l.drop (x.gateEntry + 1))
      let b := openRun q l
      if a.2 then some (left + 64 * a.1) else if b.2 then some (left + 64 * (a.1 + b.1)) else none

/-- Units until gate `q` of port `p` closes (R358), a pending list change included: 0 closed, none never. -/
def State.gateLeft (s : State) (p q : Nat) : Option Nat :=
  if !s.getB (Reg.NET_PORT_GCL_CTL p) 30 then none
  else
    let now := s.operLeft p q
    match (s.netPort p).changeAt with
    | none => now
    | some b =>
      let till := (tdiff b s.time).toNat
      if now.any (fun n => decide (n < till)) then now
      else
        let r := openRun q (s.admSpans p)
        if r.2 then some (till + 64 * r.1) else none

/-- Units that a frame of `n` bytes takes on the wire with its preamble and FCS, at 1 Gb/s. -/
def wireTime (n : Nat) : Nat := (max n 60 + 12) * 512

/-- The frame that queue `q` of port `p` may start now (R358). -/
def State.frameReady (s : State) (p q : Nat) : Option (List Byte) :=
  match tabGet (fun _ => []) (s.netPort p).queues q with
  | [] => none
  | f :: _ => if (s.gateLeft p q).all (fun n => decide (wireTime f.length ≤ n)) then some f else none

/-- FRAME_TRANSMIT (R358): the highest-numbered open queue with a frame that completes before its gate closes. -/
def execFrameTransmit (p : Fin 2) (s : State) : Out :=
  let x := s.netPort p
  if !s.inService p || x.txUntil.any (fun t => before s.time t) then .next s
  else
    match (List.range 8).reverse.findSome? (fun q => (s.frameReady p q).map (fun f => (q, f))) with
    | none => .next s
    | some (q, f) =>
      let rest := (tabGet (fun _ => []) x.queues q).tail
      .next ((s.setNetPort p { x with
        queues := tabPut (fun _ => []) x.queues q rest, sent := x.sent ++ [wireFrame f],
        txUntil := some (s.time + units (wireTime f.length)) }).touch (domTrunk p))

/-- The admin list of port `p` is valid (R359). -/
def State.gclValid (s : State) (p : Nat) : Bool :=
  let n := s.getF (Reg.NET_PORT_ADM_LEN p) 8 0
  let cyc := (s.getR (Reg.NET_PORT_ADM_CYCLE p)).toNat
  decide (1 ≤ n ∧ n ≤ 256 ∧ 1000 ≤ cyc ∧ cyc ≤ 1000000000) &&
    (s.gateEntries (Reg.NET_PORT_ADM p 0) n).all (fun e => decide (fld e.1 11 8 = 0 ∧ e.2 ≠ 0 ∧ e.2.toNat % 8 = 0))

/-- The first instant `base` + n × `cyc` units that is at or after `t`. -/
def firstAfter (base : DWord) (cyc : Nat) (t : DWord) : DWord :=
  if atOrAfter base t then base else base + units (((tdiff t base).toNat + cyc - 1) / cyc * cyc)

/-- A request for a gate list change now (R360). -/
def State.requestChange (s : State) (p : Nat) : State :=
  let a := Reg.NET_PORT_GCL_CTL p
  if !s.gclValid p then (s.setB a 28 true).raise 147 (2 ^ (2 + p))
  else
    let t := firstAfter (s.getD (Reg.NET_PORT_ADM_BASE p)) ((s.getR (Reg.NET_PORT_ADM_CYCLE p)).toNat * 64) (s.time + units (2 * unitsPerUs))
    let x := s.netPort p
    let b := if s.getF (Reg.NET_PORT_OPER_LEN p) 8 0 = 0 then t
             else firstAfter x.cycleBase ((s.getR (Reg.NET_PORT_OPER_CYCLE p)).toNat * 64) t
    (s.setNetPort p { x with changeAt := some b }).setB a 29 true

/-- A write of NET.PORT[p].GCL_CTL (R360). -/
def State.writeGclCtl (s : State) (p : Nat) (w : Word) : State :=
  let s := s.store (Reg.NET_PORT_GCL_CTL p) w
  if bitOf w 31 then s.requestChange p else s

/-- A write of a register of the admin list (R360): while PENDING it is ignored and sets ERR. -/
def State.writeGclAdm (s : State) (p a : Nat) (w : Word) : State :=
  if s.getB (Reg.NET_PORT_GCL_CTL p) 29 then (s.setB (Reg.NET_PORT_GCL_CTL p) 28 true).raise 147 (2 ^ (2 + p))
  else s.store a w

/-- GCL_CHANGE (R360): a write of GCL_CTL with CHANGE. -/
def execGclChange (p : Fin 2) (w : Word) (s : State) : Out :=
  if bitOf w 31 then .next (s.writeGclCtl p w) else .next s

/-- GCL_CHANGE_BOUNDARY (R360): at B the admin list becomes the operational list. -/
def execGclChangeBoundary (p : Fin 2) (s : State) : Out :=
  let x := s.netPort p
  match x.changeAt with
  | none => .next s
  | some b =>
    if !s.reached b then .next s
    else
      let s : State := { s with regs := tabCopy regReset s.regs (Reg.NET_PORT_ADM p 0) 0x800 (Reg.NET_PORT_OPER p 0) }
      let s := (s.setD (Reg.NET_PORT_OPER_BASE p) b).setR (Reg.NET_PORT_OPER_CYCLE p) (s.getR (Reg.NET_PORT_ADM_CYCLE p))
      let s := s.setR (Reg.NET_PORT_OPER_LEN p) (s.getR (Reg.NET_PORT_ADM_LEN p))
      let first := ((s.operSpans p).headD (0, 0)).2
      let s := s.setNetPort p { x with changeAt := none, cycleBase := b, gateEntry := 0, gateEnd := b + units (64 * first) }
      .next ((s.setB (Reg.NET_PORT_GCL_CTL p) 29 false).raise 147 (2 ^ p.val))

/-- GATE_INTERVAL_END (R359): the next entry's gates apply; after the last one, a new cycle. -/
def execGateIntervalEnd (p : Fin 2) (s : State) : Out :=
  let x := s.netPort p
  let l := s.operSpans p
  if l.isEmpty || !s.reached x.gateEnd then .next s
  else
    let wrap := decide (l.length ≤ x.gateEntry + 1)
    let e := if wrap then 0 else x.gateEntry + 1
    let d := ((l.drop e).headD (0, 0)).2
    .next (s.setNetPort p { x with
      gateEntry := e, gateEnd := x.gateEnd + units (64 * d), cycleBase := if wrap then x.gateEnd else x.cycleBase })

/-! ### Reception (R355, R356, R362, R364) -/

/-- The device accepts a frame by its addresses and VID (R355). -/
def State.acceptsFrame (s : State) (f : List Byte) : Bool :=
  let da := frDA f
  (da == (s.getD Reg.NET_MAC).toNat || da == 2 ^ 48 - 1 || da == ptpAddr || (s.rxStream f).isSome) &&
    (frVid f == 0 || (List.range 16).any (fun k => s.getB (Reg.NET_VID k) 31 && s.getF (Reg.NET_VID k) 11 0 == frVid f))

/-- Receive stream `i` beside its registers. -/
def State.rxs (s : State) (i : Nat) : RxStream := tabGet (fun _ => {}) s.net.rxs i

/-- The state with receive stream `i` holding `x`. -/
def State.setRxs (s : State) (i : Nat) (x : RxStream) : State :=
  { s with net := { s.net with rxs := tabPut (fun _ => {}) s.net.rxs i x } }

/-- Vector recovery of sequence number `n` of stream `i` on port `p` (R362). Answers whether the frame passes. -/
def State.recover (s : State) (i p n : Nat) : State × Bool :=
  let x := { s.rxs i with lastSeq := tabPut (fun _ => 65536) (s.rxs i).lastSeq p n }
  let ahead := (n + 65536 - x.high) % 65536
  let pass := fun (high : Nat) (seen : List Nat) =>
    let y := { x with fresh := false, high := high, seen := seen, lastPass := s.time,
                      latPass := tabPut (fun _ => 0) x.latPass p (tabGet (fun _ => 0) x.latPass p + 1) }
    (((s.setRxs i y).incR (Reg.NET_RXS_PASSED i)), true)
  if x.fresh then pass n [n]
  else if 0 < ahead ∧ ahead < 64 then pass n (n :: x.seen.filter (fun k => decide ((n + 65536 - k) % 65536 < 64)))
  else if ahead = 0 ∨ 65536 - 64 < ahead then
    if x.seen.contains n then
      let y := { x with latDup := tabPut (fun _ => 0) x.latDup p (tabGet (fun _ => 0) x.latDup p + 1) }
      ((s.setRxs i y).incR (Reg.NET_RXS_DUPLICATE i), false)
    else pass x.high (n :: x.seen)
  else (((s.setRxs i x).incR (Reg.NET_RXS_ROGUE i)).raise 148 2, false)

/-- Elimination of a frame (R362). Answers whether it passes. -/
def State.eliminate (s : State) (p : Nat) (f : List Byte) : State × Bool :=
  match s.rxStream f with
  | none => (s, true)
  | some i =>
    if frRtag f then s.recover i p (frSeq f) else ((s.incR (Reg.NET_RXS_TAGLESS i)).raise 148 8, false)

/-- A frame that has passed reaches its consumer: a command packet the interpreter (R380). -/
def State.consume (s : State) (p : Nat) (f : List Byte) : State :=
  let m := frPayload f
  if frType f = 0x88B5 ∧ s.getB Reg.CMD_CTL 10 = true ∧ beAt m 0 1 ≠ 0 then
    { s with cmd := { s.cmd with rx := s.cmd.rx ++ [⟨m, p, BitVec.ofNat 48 (frSA f), frVid f, s.time⟩] } }
  else s

/-- FRAME_RECEIVE (R353, R355, R356, R362, R364): a frame from destination address to payload; `good`: its FCS is right. -/
def execFrameReceive (p : Fin 2) (f : List Byte) (good : Bool) (s : State) : Out :=
  if !s.getB (Reg.NET_PORT_STAT p) 3 then .next s
  else if s.domState (domTrunk p) = 1 then .next (s.dropRx p)
  else if !s.domOn (domTrunk p) then .next s
  else
    let s := s.touch (domTrunk p)
    let ptp := frType f == ptpType && frDA f == ptpAddr
    if !good || decide (f.length < 60 ∨ 1518 < f.length) || !s.acceptsFrame f then .next (s.dropRx p)
    else if ptp then .next (s.ptpMessage p (frPayload f))
    else if !s.inService p then .next (s.dropRx p)
    else
      let r := s.eliminate p f
      .next (if r.2 then r.1.consume p f else r.1)

/-- NET_RESET_MS in units; 0 is taken as 1 (R362). -/
def State.resetTime (s : State) : Nat := unitsPerMs * max 1 (s.getF Reg.NET_RESET_MS 15 0)

/-- RECOVERY_RESET (R362): no frame of the stream has passed for NET_RESET_MS. -/
def execRecoveryReset (i : Fin 64) (s : State) : Out :=
  let x := s.rxs i
  if x.fresh ∨ tdiff s.time x.lastPass < (s.resetTime : Nat) then .next s
  else .next (((s.setRxs i { x with fresh := true, seen := [], high := 0 }).incR (Reg.NET_RXS_RESETS i)).raise 148 4)

/-- Frames passed and discarded of a stream differ by more than 16 (R362). -/
def RxStream.latent (x : RxStream) : Bool :=
  let n := (x.latPass.map (·.2)).sum
  let d := 2 * (x.latDup.map (·.2)).sum
  decide (16 < n - d + (d - n))

/-- LATENT_ERROR_TEST (R362): the end of a test period of 2 s. -/
def execLatentErrorTest (s : State) : Out :=
  if tdiff s.time s.net.latentAt < ((2000 * unitsPerMs : Nat) : Int) then .next s
  else
    let bad := s.inService 0 && s.inService 1 && s.net.rxs.any (fun p => p.2.latent)
    let rxs := (s.net.rxs.map (fun p => (p.1, { p.2 with latPass := [], latDup := [] }))).filter (fun p => p.2 != {})
    let s : State := { s with net := { s.net with rxs := rxs, latentAt := s.time } }
    .next (if bad then s.raise 148 1 else s)

end Sys2Proof.Machine
end

