-- ==== Sys2Proof/Machine/RegAccess.lean ====
section
/-!
DEFINITION. Sys2Proof/Machine/RegAccess.lean: a read and a write of any address of the management address space (R5–R7, R403,
R500, R501): the access codes, the 64-bit pairs, the windows, and the registers that do more than hold a value.
-/
namespace Sys2Proof.Machine

/-! ### The address map (R500, R501) -/

/-- The address lies in a block or window of the address map. -/
def inMap (a : Nat) : Bool :=
  decide (a < 0x00D00000) || decide (0x10000000 ≤ a ∧ a < 0x11100000) || decide (0x20000000 ≤ a ∧ a < 0x23000000) ||
    decide (0x30000000 ≤ a ∧ a < 0x30400000) || decide (0x40000000 ≤ a ∧ a < 0x44000000)

/-- Index of an array element of stride `st` whose first register is at `base`. -/
def idx (a base st : Nat) : Nat := (a - base) / st

/-! ### Writes -/

/-- A write to a window of physical engine `n` at offset `off` (R89, R123): data RAM alone takes it, in a cycle at its end. -/
def State.writeEngWindow (s : State) (n off : Nat) (w : Word) : State :=
  if off < 0x10000 ∨ 0x20000 ≤ off then s
  else s.hostRam n (off - 0x10000) (leBytes 4 w.toNat)

/-- A SUB or FAB register (R498): one that names no source is not written. -/
def State.writeRoute (s : State) (a : Nat) (w : Word) : State :=
  if sourceValid (fld w 8 0) then s.store a w else s.setB Reg.EVT_STAT 0 true

/-- A write of a 32-bit register with a hook. -/
def State.writeHook (s : State) (r : RegRow) (a : Nat) (w : Word) : State :=
  match r.hook with
  | .tbCtl => s.writeTbCtl w
  | .tbStepCtl => s.writeStepCtl w
  | .pllCtl => s.writePllCtl (idx a 0x101000 0x100) w
  | .pllOut =>
    let n := idx a 0x101000 0x100
    let m := idx (a % 0x100) 0x40 0x10
    if n < 2 then s.writeTbOut n m w else s.writeOut n m w
  | .pllBkp => s.writeBkp (idx a 0x101000 0x100) (idx (a % 0x100) 0x40 0x10) w
  | .pllSlew => s.writeSlew (idx a 0x101000 0x100) w
  | .pllFloor | .pllCeil => s.writeClamp (idx a 0x101000 0x100) a w
  | .gclk => s.writeGclk (idx a 0x102000 4) w
  | .actCancel => s.writeActCancel w
  | .ctCtl => s.writeCtCtl (idx a 0x202000 0x40) w
  | .ctAdm => s.writeAdm (if a < 0x210000 then idx a 0x202000 0x40 else idx a 0x210000 0x1000) a (w &&& BitVec.ofNat 32 r.rw)
  | .engCtl => s.writeEngCtl (idx a 0x10000000 0x40000) w
  | .farCtl => let s := s.store a w; if bitOf w 1 then s.farFlush (idx a 0x10000000 0x40000) else s
  | .prbPin => s.writePrbPin (idx a 0xA08000 8) w
  | .trcCmd => s.writeTrcCmd w
  | .memRepair => s.writeMemRepair (idx a 0x20000000 0x100000) w
  | .stgCtl => s.writeStgCtl w
  | .frontCtl => s.writeFrontCtl w
  | .resetCtl => s.writeResetCtl w
  | .keyCmd => s.writeKeyCmd w none
  | .nvcOpCtl => s.writeNvOpCtl w
  | .netPortCtl => s.writePortCtl (idx a 0x601000 0x1000) w
  | .gclCtl => s.writeGclCtl (idx a 0x601000 0x1000) w
  | .gclAdm => s.writeGclAdm (idx a 0x601000 0x1000) a w
  | .slCtl => s.writeSlCtl (idx a 0x60C000 0x20) w
  | .arbCtl => s.writeArbCtl (idx a 0x801000 0x200) w
  | .domReq => s.writeDomReq (idx a 0x901000 0x20) w
  | .auxCtl => s.writeAuxCtl (idx a 0xC00200 0x10) w
  | .tstReinstate => s.writeReinstate w
  | .evtRoute => s.writeRoute a w
  | _ => s.store a w

/-- Both halves of a 64-bit pair, whose _LO register is at `a`, take effect (R7). -/
def State.writePair (s : State) (r : RegRow) (a : Nat) (lo hi : Word) : State :=
  match r.hook with
  | .pllFcw => s.writeFcw (idx a 0x101000 0x100) (pairW lo hi)
  | .ctAdm => let t := idx a 0x202000 0x40; (s.writeAdm t a lo).writeAdm t (a + 4) (hi &&& BitVec.ofNat 32 r.rw)
  | .gclAdm => let p := idx a 0x601000 0x1000; (s.writeGclAdm p a lo).writeGclAdm p (a + 4) hi
  | _ => (s.store a lo).store (a + 4) hi

/-- A write to a register of the map (R5–R7). -/
def State.writeRow (s : State) (r : RegRow) (a : Nat) (w : Word) : State :=
  match r.pair, r.hook with
  | 1, _ => { s with pairHeld := tabInsert s.pairHeld a w }
  | 2, .mbox =>
    let n := idx a 0x10000000 0x40000
    s.mailboxHi n (idx (a % 0x40000) 0x100 8) w
  | 2, _ =>
    let lo := match s.pairHeld.find? (fun p => p.1 == a - 4) with
      | some p => p.2
      | none => s.getR (a - 4)
    { s with pairHeld := tabErase s.pairHeld (a - 4) }.writePair r (a - 4) lo w
  | _, _ => s.writeHook r a w

/-- A write of `w` to address `a` of the management address space (R5, R500, R501); an address that is reserved or in no range
ignores it. -/
def State.writeReg (s : State) (a : Nat) (w : Word) : State :=
  if 0x30000000 ≤ a ∧ a < 0x30400000 then s.prmWrite (a - 0x30000000) (leBytes 4 w.toNat)
  else if 0x40000000 ≤ a ∧ a < 0x44000000 then s.setB Reg.NVC_STAT 15 true
  else if 0x10000000 ≤ a ∧ a < 0x11100000 ∧ 0x8000 ≤ a % 0x40000 then s.writeEngWindow (idx a 0x10000000 0x40000) (a % 0x40000) w
  else match regRow a with
    | some (r, _) => s.writeRow r a w
    | none => s

/-! ### Reads -/

/-- DEV_FAULT_SRC (R309, R485): SERVICE and TIME_FALLBACK are held; every other source stands while its condition does. -/
def State.faultSrc (s : State) : Word :=
  let eng := (List.range 68).any (fun n => s.getB (Reg.ENG_STAT n) 5 ||
    (s.engState n == 5 && ((s.logicalOf n).any (fun e => (s.leng e).failHalt))))
  let mem := (List.range 48).any (fun i => s.getF (Reg.SEC_MEM_STAT i) 2 1 != 0)
  let nv := (List.range 8).any (fun b => s.getF (Reg.NVC_BANK_STAT b) 22 16 == 0) ||
    (tabRange s.regs (Reg.NVC_SST 0) 0x10000).any (fun p => fld p.2 31 30 == 3)
  let tb := (List.range 2).any (fun n => s.getB (Reg.TST_SQ_PLL n) 30)
  let sec := (List.range 48).any (fun i => s.getB (Reg.TST_SQ_SEC i) 31)
  let unit := s.tst.lasting.any (fun k => decide (3 * 4096 ≤ k ∧ k < 7 * 4096))
  BitVec.ofNat 32 ((s.getR Reg.DEV_FAULT_SRC).toNat % 8 - (s.getF Reg.DEV_FAULT_SRC 1 1) * 2 + 2 * s.degraded.toNat + 8 * eng.toNat +
    16 * mem.toNat + 32 * nv.toNat + 64 * tb.toNat + 128 * s.thermCrit.toNat + 256 * sec.toNat + 512 * unit.toNat)

/-- FAULT_N is asserted (R309). -/
def State.faultN (s : State) : Bool := s.faultSrc != 0

/-- EVT.PEND[w] (R498). -/
def State.pendWord (s : State) (w : Nat) : Word :=
  BitVec.ofNat 32 (((List.range 32).map (fun i => (s.evPending (32 * w + i)).toNat * 2 ^ i)).sum)

/-- CMD_STAT (R410). -/
def State.cmdStat (s : State) : Word :=
  let keys := (s.cfg.hk.map (fun p => 2 ^ p.1)).sum
  let open_ := ((List.range 4).map (fun k => (decide ((s.session k).state = 2)).toNat * 2 ^ k)).sum
  let lease := match s.cmd.lease with
    | some (k, _) => 128 + k
    | none => 0
  BitVec.ofNat 32 (keys % 256 * 2 ^ 16 + open_ * 2 ^ 12 + lease)

/-- LEASE_MS in units: 10 to 100 ms (R392). -/
def State.leaseTime (s : State) : Nat := unitsPerMs * max 10 (min 100 (s.getF Reg.CMD_CTL 23 16))

/-- Microseconds until the lease lapses; 0 with no lease. -/
def State.leaseLeft (s : State) : Nat :=
  match s.cmd.lease with
  | some (_, t) => ((s.leaseTime : Int) - tdiff s.time t).toNat / unitsPerUs
  | none => 0

/-- Commands outstanding of session `k` (R388). -/
def State.outstanding (s : State) (k : Nat) : Nat :=
  (s.cmd.inflight.filter (fun x => !x.mute && (match x.ref.session with
    | some j => j.val == k
    | none => false))).length

/-- CMD.SESS[k].STAT (R410). -/
def State.sessStat (s : State) (k : Nat) : Word :=
  let x := s.session k
  BitVec.ofNat 32 (s.outstanding k * 2 ^ 24 + x.v2.toNat * 2 ^ 19 + x.key * 2 ^ 16 + x.iface * 2 ^ 12 + x.state)

/-- Requester `q` is masked (R418): an engine that is not ON, or a fabric group none of whose sectors with a request is ON. -/
def State.qMasked (s : State) (q : Nat) : Bool :=
  if q < 64 then !((s.physOf q).any (fun n => s.domOn (domEngine n)))
  else
    let l := s.arb.flatMap (fun p => p.2.reqs.filter (fun x => x.q == q))
    !l.isEmpty && l.all (fun x => s.reqMasked x)

/-- ARB.REQ[q] (R425). -/
def State.arbReqWord (s : State) (q : Nat) : Word :=
  let lock := match s.lockOf q with
    | some r => 2 ^ 31 + r * 2 ^ 28
    | none => 0
  let back := (List.range 5).map (fun r => match (s.arbiter r).backoff.find? (fun b => b.1 == q) with
    | some b => if b.2.2 = 0 then 0 else b.2.1
    | none => 0)
  BitVec.ofNat 32 (lock + (s.qMasked q).toNat * 2 ^ 27 + back.foldl max 0)

/-- ARB.R[r].STAT (R425). -/
def State.arbStatWord (s : State) (r : Nat) : Word :=
  let x := s.arbiter r
  let lock := x.locks.find? (fun l => l.inForce)
  let owner := match lock, x.stream, x.modeOwner with
    | some l, _, _ => l.q
    | none, some true, _ => 81
    | none, _, some q => q
    | none, _, none => 0
  BitVec.ofNat 32 (lock.isSome.toNat * 2 ^ 31 + owner * 2 ^ 24 + (x.stream == some true).toNat * 2 ^ 23 +
    (match lock with
      | some l => l.left
      | none => 0) * 2 ^ 16 + x.last * 2 ^ 8 + (x.reqs.map (·.q)).eraseDups.length)

/-- A repair-log record, little-endian (R479). -/
def RepairRec.bytes (r : RepairRec) : List Byte :=
  let b := leBytes 8 r.time.toNat ++ leBytes 4 r.addr.toNat ++ leBytes 2 r.unit ++ leBytes 1 r.typ ++ leBytes 1 r.cause ++
    leBytes 1 r.bit ++ leBytes 1 (r.resolved.toNat + 2 * r.applied.toNat + 4 * r.noSpare.toNat) ++ leBytes 2 r.seq ++ List.replicate 8 0
  b ++ leBytes 4 (crc32 b).toNat

/-- TST.RLOG[w]: word `w` of the record that TST_RLOG_SEL selects (R480). -/
def State.rlogWord (s : State) (w : Nat) : Word :=
  match s.tst.rlog[s.getF Reg.TST_RLOG_SEL 10 0]? with
  | some r => BitVec.ofNat 32 (leNat (sliceB r.bytes (4 * w) 4))
  | none => 0

/-- The value that a register with a hook reads as. -/
def State.hookValue (s : State) (h : Hook) (a : Nat) : Word :=
  let w := s.getR a
  match h with
  | .devTime => if a % 8 = 0 then loW s.time else hiW s.time
  | .actStat => BitVec.ofNat 32 s.act.cal.length
  | .portStat => setFld w 28 16 (s.used (idx a 0x201000 8))
  | .capFill => BitVec.ofNat 32 (s.ring (idx a 0x203000 0x10)).recs.length
  | .capRec => s.ringWord (idx a 0x204000 0x10) (a % 0x10 / 4)
  | .engStat => s.engStatRead (idx a 0x10000000 0x40000)
  | .engSquall =>
    let n := idx a 0x10000000 0x40000
    setFld w 15 8 (min 255 (s.faultsNow 0 n (squallCfg w).1))
  | .mbox =>
    let n := idx a 0x10000000 0x40000
    let m := idx (a % 0x40000) 0x100 8
    match s.windowOf n with
    | some e =>
      let v := tabGet (fun _ => 0) (s.leng e).mbox m
      if a % 8 = 0 then loW v else hiW v
    | none => 0
  | .adcStat =>
    match s.eng.adcBusy.find? (fun p => p.1 == idx a 0xC01000 0x10) with
    | some p => BitVec.ofNat 32 (before s.time p.2).toNat
    | none => 0
  | .cfgVault =>
    BitVec.ofNat 32 (s.cfg.requireEnc.toNat * 2 ^ 31 + (s.cfg.pub.map (fun p => 2 ^ p.1)).sum % 16 * 256 + (s.cfg.aes.map (fun p => 2 ^ p.1)).sum % 256)
  | .cfgMinSvn => BitVec.ofNat 32 s.cfg.minSvn
  | .faultSrc => s.faultSrc
  | .gaspFree => BitVec.ofNat 32 (128 - s.boot.gasp.length)
  | .keyDirty => BitVec.ofNat 32 s.key.dirty.length
  | .eraseAge => BitVec.ofNat 32 s.eraseAge
  | .cmdStat => s.cmdStat
  | .cmdLeaseLeft => BitVec.ofNat 32 s.leaseLeft
  | .sessStat => s.sessStat (idx a 0x700100 0x10)
  | .sessSeq => BitVec.ofNat 32 (s.session (idx a 0x700100 0x10)).high
  | .sessMac =>
    let m := (s.session (idx a 0x700100 0x10)).mac.toNat
    BitVec.ofNat 32 (if a % 8 = 0 then m else m >>> 32)
  | .arbReq => s.arbReqWord (idx a 0x800200 4)
  | .arbStat => s.arbStatWord (idx a 0x801000 0x200)
  | .domStat => setFld w 31 24 (s.holdBits (idx a 0x901000 0x20))
  | .domLatency => BitVec.ofNat 32 ((s.wakeLatency (idx a 0x901000 0x20) + 99) / 100)
  | .tstStat => BitVec.ofNat 32 (fld w 31 31 * 2 ^ 31 + ((List.range 7).map (fun t => (s.sliceActive t).toNat * 2 ^ t)).sum)
  | .rlogCnt => BitVec.ofNat 32 ((s.tst.rlog.filter (fun r => !r.resolved)).length * 2 ^ 16 + s.tst.rlog.length)
  | .typeStat =>
    let x := s.dtype (idx a 0xA00100 0x20)
    BitVec.ofNat 32 (fld w 31 16 * 2 ^ 16 + (s.sliceActive (idx a 0xA00100 0x20)).toNat * 2 ^ 15 + x.done.length)
  | .sqSec => setFld w 7 0 (min 255 (s.faultsNow 9 (idx a 0xA00400 4) s.sqCfg.1))
  | .sqPll => setFld w 7 0 (min 255 (s.faultsNow 10 (idx a 0xA00500 4) s.sqCfg.1))
  | .secStat => setBitOf w 3 (s.onBackup (idx a 0x20000000 0x100000))
  | .rlogWord => s.rlogWord (idx a 0xA01000 4)
  | .evtPend => s.pendWord (idx a 0xB00300 4)
  | _ => w

/-- The value of a register of the map: what it holds, or what its hook makes of it. During a slew FCW_ACT follows it (R38), and
a lock sequence shows STATE 2 when the band search is over (R33); CLAMP shows while the control word runs against the clamp
(R41). -/
def State.regValue (s : State) (r : RegRow) (a : Nat) : Word :=
  let n := idx a 0x101000 0x100
  if 0x101000 ≤ a ∧ a < 0x101800 ∧ a % 0x100 = 4 then
    let w := s.getR a
    let w := if fld w 2 1 = 1 ∧ s.loopClosed n = true then setFld w 2 1 2 else w
    if s.clamps n then setBitOf w 4 true else w
  else if 0x101000 ≤ a ∧ a < 0x101800 ∧ a % 0x100 = 0x10 then BitVec.ofNat 32 (s.fcwAct n)
  else if 0x101000 ≤ a ∧ a < 0x101800 ∧ a % 0x100 = 0x14 then BitVec.ofNat 32 (s.fcwAct n >>> 32)
  else s.hookValue r.hook a

/-- The value of an engine window (R123): planes and data RAM of the logical engine that the physical engine holds. -/
def State.engWindow (s : State) (n off : Nat) : Word :=
  match s.windowOf n with
  | none => 0
  | some e =>
    let k := off % 0x8000 / 4
    let cam := fun (p : List (Nat × List Byte)) => BitVec.ofNat 32 (leNat (camBytes p e (off % 0x8000 / 4 * 4) 4))
    if off < 0x10000 then progWord s.cfg.active e k
    else if off < 0x20000 then BitVec.ofNat 32 (leNat (ramBytes (s.leng e).dram (off - 0x10000) 4))
    else if off < 0x28000 then progWord s.cfg.staged e k
    else if off < 0x30000 then cam s.cfg.active
    else if off < 0x38000 then cam s.cfg.staged
    else 0

/-- A read of a register of the map (R5, R7): RC bits clear, a read of _LO captures _HI, the read of word +0xC removes a capture
record. -/
def State.readRow (s : State) (r : RegRow) (a : Nat) : State × Word :=
  let v := s.regValue r a
  match r.pair with
  | 1 => ({ s with pairShadow := tabInsert s.pairShadow a (s.regValue { r with pair := 2 } (a + 4)) }, v)
  | 2 =>
    match s.pairShadow.find? (fun p => p.1 == a - 4) with
    | some p => ({ s with pairShadow := tabErase s.pairShadow (a - 4) }, p.2)
    | none => (s, v)
  | _ =>
    if r.hook = .capRec then (if a % 0x10 = 0xC then s.ringPop (idx a 0x204000 0x10) else s, v)
    else if r.rc = 0 then (s, v)
    else (s.setR a (s.getR a &&& ~~~(BitVec.ofNat 32 r.rc)), v)

/-- A read of address `a` of the management address space (R5, R500, R501); a reserved address, or one in no range, reads as 0.
`ecc` is what ECC finds in a code word of the user NV. Answers whether the read was served: a read of the user NV window may
have to wait (R341), and one of an engine's window wakes a domain that is not ON and waits (R433). -/
def State.readReg (s : State) (a : Nat) (ecc : Ecc) : State × Word × Bool :=
  if 0x30000000 ≤ a ∧ a < 0x30400000 then (s, BitVec.ofNat 32 (leNat (s.prmRead (a - 0x30000000) 4)), true)
  else if 0x40000000 ≤ a ∧ a < 0x44000000 then
    let r := s.nvWindow ((a - 0x40000000) / 4) ecc
    (r.1, r.1.readData, r.2)
  else if 0x10000000 ≤ a ∧ a < 0x11100000 ∧ 0x8000 ≤ a % 0x40000 then
    let n := idx a 0x10000000 0x40000
    if (s.windowOf n).isSome && !s.domOn (domEngine n) then (s.wake (domEngine n) 1, 0, false)
    else (s.touch (domEngine n), s.engWindow n (a % 0x40000), true)
  else if 0x00A10000 ≤ a ∧ a < 0x00A50000 then (s, s.trcWord ((a - 0x00A10000) / 16) ((a - 0x00A10000) % 16 / 4), true)
  else match regRow a with
    | some (r, _) =>
      let x := s.readRow r a
      (x.1, x.2, true)
    | none => (s, 0, true)

/-! ### Rows -/

/-- REGISTER_WRITE (R5–R7, R20, R53, R500): a write to any address takes effect by its access codes and the rules of its
register. -/
def execRegisterWrite (a : Word) (w : Word) (s : State) : Out := .next (s.writeReg a.toNat w)

/-- READ_CLEAR (R5): a read of a register with RC bits returns the value and clears it. -/
def execReadClear (a : Word) (s : State) : Out :=
  match regRow a.toNat with
  | some (r, _) =>
    if r.rc = 0 then .next s
    else
      let x := s.readRow r a.toNat
      .next { x.1 with readData := x.2 }
  | none => .next s

/-- EVT_ROUTE_WRITE (R496–R498): a write of EVT.FAB[k] or EVT.ENG[e].SUB[j]. -/
def execEvtRouteWrite (a : Word) (w : Word) (s : State) : Out :=
  match regRow a.toNat with
  | some (r, _) => if r.hook = .evtRoute then .next (s.writeRoute a.toNat w) else .next s
  | none => .next s

/-- CAUSE_CLEAR (R491): a write of 1s to the cause register of EVn clears those bits. A bit set in the same clock stays set: the
setting is a step of its own, which comes after the clear. -/
def execCauseClear (ev : Fin 320) (w : Word) (s : State) : Out :=
  match s.causeAddr ev with
  | some a => .next (s.setR a (s.getR a &&& ~~~w))
  | none => .next s

/-- SUBSCRIPTION_SIGNAL (R496): the first fired subscription delivers its SIGNAL; a domain that is not ON is woken, and it waits. -/
def execSubscriptionSignal (s : State) : Out :=
  match s.evt.signals with
  | [] => .next s
  | (e, j) :: l =>
    let take := fun (s : State) => ({ s with evt := { s.evt with signals := l } } : State)
    match s.physOf e with
    | none => .next (take s)
    | some n =>
      if s.domOn (domEngine n) then .next ((take s).setLeng e ((s.leng e).signal (BitVec.ofNat 32 (2 ^ j))))
      else .next (s.wake (domEngine n) 1)

end Sys2Proof.Machine
end

