-- ==== Sys2Proof/Machine/Cmd.lean ====
section
/-!
DEFINITION. Sys2Proof/Machine/Cmd.lean: a command packet from its arrival to its start (15_command_protocol.md): the opcode
table (R391, R399), the checks (R386–R388, R394), the lease (R392, R407), the order (R382, R393), the service port (R381) and
the life of a session (R385, R390).
-/
namespace Sys2Proof.Machine

/-! ### Opcodes (R391, R399) -/

/-- The kind of an opcode (R391). -/
inductive CmdKind where
  | neutral
  | run
  | hold
  | stop
deriving DecidableEq, Repr

/-- LEN is one of the values `a + b·n`, n from `lo` to `hi`. -/
def lenSteps (a b lo hi n : Nat) : Bool := decide (a + b * lo ≤ n) && decide (n ≤ a + b * hi) && (n - a) % b == 0

/-- The opcodes of classes 0x00 to 0x03 (R399): the kind, and the payload lengths that suit. -/
def opLow (cls op : Nat) : Option (CmdKind × (Nat → Bool)) :=
  match cls, op with
  | 0, 0 | 0, 2 | 0, 3 | 2, 6 => some (.neutral, fun n => n == 0)
  | 0, 1 => some (.neutral, fun n => n == 20)
  | 1, 0 => some (.neutral, fun n => n == 6)
  | 1, 1 => some (.run, lenSteps 4 4 1 256)
  | 1, 2 => some (.run, fun n => n == 12)
  | 2, 0 => some (.run, lenSteps 0 16 1 64)
  | 2, 1 => some (.hold, fun n => n == 4)
  | 2, 2 => some (.run, fun n => n == 10)
  | 2, 3 => some (.run, lenSteps 3 16 1 64)
  | 2, 4 => some (.neutral, fun n => n == 2)
  | 2, 5 => some (.run, fun n => n == 8)
  | 3, 0 => some (.run, fun n => n == 6)
  | 3, 1 => some (.run, lenSteps 4 1 1 1452)
  | 3, 2 | 3, 7 => some (.run, fun n => n == 0)
  | 3, 3 => some (.hold, fun n => n == 0)
  | 3, 4 => some (.run, fun n => n == 2)
  | 3, 5 => some (.run, fun n => n == 1)
  | 3, 6 => some (.neutral, fun n => n == 1)
  | _, _ => none

/-- The opcodes of classes 0x04 to 0x07 (R399). -/
def opMid (cls op : Nat) : Option (CmdKind × (Nat → Bool)) :=
  match cls, op with
  | 4, 0 => some (.run, fun n => n == 22)
  | 4, 1 => some (.hold, fun n => n == 0)
  | 4, 2 | 5, 5 | 6, 0 => some (.neutral, fun n => n == 0)
  | 5, 0 | 6, 3 | 6, 5 => some (.neutral, fun n => n == 6)
  | 5, 1 => some (.run, lenSteps 4 1 32 256)
  | 5, 2 | 6, 1 => some (.run, fun n => n == 4)
  | 5, 3 => some (.hold, fun n => n == 0)
  | 5, 4 | 6, 2 | 6, 4 => some (.run, fun n => n == 0)
  | 6, 6 => some (.run, lenSteps 4 1 4 1024)
  | 7, 0 => some (.run, fun n => n == 2)
  | 7, 1 => some (.neutral, fun n => n == 1)
  | 7, 2 => some (.run, fun n => n == 3)
  | _, _ => none

/-- The opcodes of classes 0x08 to 0x0F (R399). -/
def opHigh (cls op : Nat) : Option (CmdKind × (Nat → Bool)) :=
  match cls, op with
  | 8, 0 => some (.neutral, fun n => n == 40)
  | 8, 1 | 8, 4 => some (.neutral, fun n => n == 3)
  | 8, 2 => some (.neutral, fun n => n == 6)
  | 8, 3 => some (.run, fun n => n == 9)
  | 9, 0 => some (.run, fun n => n == 8)
  | 9, 1 => some (.hold, fun n => n == 8)
  | 9, 2 => some (.run, fun n => n == 2)
  | 9, 3 | 9, 4 => some (.run, fun n => n == 1)
  | 9, 5 => some (.neutral, fun n => n == 1)
  | 9, 6 => some (.run, fun n => n == 10)
  | 10, 0 | 10, 3 => some (.neutral, fun n => n == 0)
  | 10, 1 | 10, 2 => some (.run, fun n => n == 0)
  | 10, 4 => some (.hold, fun n => n == 24)
  | 10, 5 => some (.stop, fun n => n == 24)
  | 15, 0 => some (.run, fun n => n == 1)
  | 15, 1 | 15, 3 => some (.run, fun n => n == 4)
  | 15, 2 => some (.run, fun n => n == 34 || n == 66 || n == 7)
  | 15, 4 | 15, 6 => some (.run, fun n => n == 0)
  | 15, 5 => some (.run, lenSteps 4 1 1 1452)
  | _, _ => none

/-- The opcode table (R399). -/
def opRow (cls op : Nat) : Option (CmdKind × (Nat → Bool)) :=
  if cls < 4 then opLow cls op else if cls < 8 then opMid cls op else opHigh cls op

/-- LEN suits the opcode; VAULT_PROV's value has the length that its KIND gives (R402). -/
def lenSuits (cls op : Nat) (payload : List Byte) : Bool :=
  match opRow cls op with
  | some (_, f) =>
    f payload.length &&
      (!(cls == 15 && op == 2) || payload.length == (match beAt payload 0 1 with
        | 0 | 2 => 34
        | 1 => 66
        | 3 => 7
        | _ => payload.length))
  | none => false

/-- The kind of a command: CT_CTL is HOLD-class for STOP (R399). -/
def kindOf (cls op : Nat) (payload : List Byte) : CmdKind :=
  if cls = 2 ∧ op = 2 ∧ beAt payload 1 1 = 1 then .hold
  else match opRow cls op with
    | some (k, _) => k
    | none => .neutral

/-- The opcodes of protocol version 2 (R406). -/
def v2Allows (cls op : Nat) : Bool := (cls == 0 && decide (op < 4)) || ((cls == 1 || cls == 2) && decide (op < 2))

/-- CLASS, then OPCODE, then LEN (R394): the status; 0 where all pass. -/
def opCheck (v2 : Bool) (cls op : Nat) (payload : List Byte) : Nat :=
  if (if v2 then 2 < cls else 10 < cls ∧ cls ≠ 15) then csBADCLASS
  else if (opRow cls op).isNone || (v2 && !v2Allows cls op) then csBADOPCODE
  else if !lenSuits cls op payload then csBADLEN
  else 0

/-- What a session opened with no host key provisioned may send (R386). -/
def bareAllows (cls op : Nat) : Bool := cls == 0 || (cls == 10 && decide (op < 3)) || (cls == 15 && op == 2)

/-! ### The lease (R392) -/

/-- The session that holds the lease. -/
def State.holder (s : State) : Option Nat := s.cmd.lease.map Prod.fst

/-- The lease renewed now for session `k`. -/
def State.renewLease (s : State) (k : Nat) : State := { s with cmd := { s.cmd with lease := some (k, s.time) } }

/-- The lease ends, with `bits` of EV241; nothing with no lease. -/
def State.endLease (s : State) (bits : Nat) : State :=
  if s.cmd.lease.isSome then ({ s with cmd := { s.cmd with lease := none } } : State).raise 241 bits else s

/-- A version 2 session takes a lease that nobody holds with its REG_WRITE or ACT_POST (R407). -/
def State.v2Takes (s : State) (x : Command) : Bool := x.v2 && s.getB Reg.CMD_CTL 12 && s.holder.isNone

/-- Session `k` may start RUN-class commands (R391, R392, R407). -/
def State.mayRun (s : State) (k : Nat) (x : Command) : Bool := s.holder == some k || s.v2Takes x

/-- AUTH_DENIED (R392). -/
def State.authDenied (s : State) (x : Command) : State := (s.raise 241 0x20).replyTo x csAUTH true []

/-! ### Sessions (R385, R390) -/

/-- Session `k` closes: its outstanding commands run on without a reply, its lease ends, and an OPEN one raises EV240. -/
def State.closeSession (s : State) (k : Nat) (timeout : Bool) : State :=
  let was := (s.session k).state
  let s : State := { s with cmd := { s.cmd with inflight := s.cmd.inflight.map (fun x =>
    if x.ref.session.map Fin.val = some k then { x with mute := true } else x) } }
  let s := if s.holder = some k then s.endLease 2 else s
  let s := s.setSession k {}
  if was = 2 then s.raise 240 (2 ^ (4 + k) + timeout.toNat * 2 ^ (8 + k)) else s

/-- Time `t` has come, and no packet waits that arrived by then. -/
def State.quietUntil (s : State) (t : DWord) : Bool :=
  atOrAfter s.time t && s.cmd.rx.all (fun p => before t p.stamp)

/-- SESSION_TIMEOUT (R385): no packet with a valid tag for SESSION_TMO seconds. -/
def execSessionTimeout (k : Fin 4) (s : State) : Out :=
  let x := s.session k
  if x.state = 2 ∧ s.quietUntil (x.lastPkt + units (1000 * unitsPerMs * max 1 (s.getF Reg.CMD_CTL 31 24))) = true then
    .next (s.closeSession k true)
  else .next s

/-- OPENING_TIMEOUT (R385): no verified command within 1 s. -/
def execOpeningTimeout (k : Fin 4) (s : State) : Out :=
  let x := s.session k
  if x.state = 1 ∧ s.quietUntil (x.openedAt + units (1000 * unitsPerMs)) = true then .next (s.closeSession k true) else .next s

/-! ### Packets (R379, R406) -/

/-- The fields of a packet. -/
structure Packet where
  version : Nat
  typ     : Nat
  session : Nat
  seq     : Nat
  cls     : Nat
  op      : Nat
  payload : List Byte
  /-- Header and payload, which the tag covers. -/
  body    : List Byte
  tag     : List Byte
deriving DecidableEq, Repr

/-- Bytes of a header. -/
def headLen (v2 : Bool) : Nat := if v2 then 16 else 24

/-- LEN of a packet. -/
def lenField (v2 : Bool) (b : List Byte) : Nat := beAt b (if v2 then 10 else 12) 2

/-- A packet read in the layout of its version; bytes after the tag are padding (R380). None where it is too short. -/
def parsePacket (v2 : Bool) (b : List Byte) : Option Packet :=
  let h := headLen v2
  let n := lenField v2 b
  if b.length < h ∨ b.length < h + n + 16 then none
  else some {
    version := beAt b 0 1
    typ := beAt b 1 1
    session := beAt b 2 1
    seq := beAt b 4 (if v2 then 2 else 4)
    cls := beAt b (if v2 then 6 else 8) 1
    op := beAt b (if v2 then 7 else 9) 1
    payload := sliceB b h n
    body := b.take (h + n)
    tag := sliceB b (h + n) 16 }

/-- A packet discarded by R386. -/
def State.tagFail (s : State) : State := (s.incR Reg.CMD_TAG_FAIL).raise 244 1

/-! ### SEQ (R387) -/

/-- What R387 makes of a SEQ. -/
inductive SeqClass where
  | new
  | again
  | replay
deriving DecidableEq, Repr

/-- How far SEQ `n` lies above H; in version 2 modulo 2^16 (R406). -/
def seqAhead (v2 : Bool) (h n : Nat) : Nat := if v2 then (n + 65536 - h) % 65536 else n - h

/-- How far SEQ `n` lies below H, where it does not lie above. -/
def seqBelow (v2 : Bool) (h n : Nat) : Nat := if v2 then (h + 65536 - n) % 65536 else h - n

/-- SEQ `n` lies above H and in reach. -/
def seqAbove (v2 : Bool) (h n : Nat) : Bool :=
  decide (0 < seqAhead v2 h n) && decide (seqAhead v2 h n < if v2 then 2 ^ 15 else 2 ^ 31)

/-- R387 for SEQ `n` of a session. -/
def Session.seqClass (x : Session) (n : Nat) : SeqClass :=
  if n = 0 then .replay
  else if seqAbove x.v2 x.high n then .new
  else if (!x.v2 && decide (x.high < n)) || decide (63 < seqBelow x.v2 x.high n) then .replay
  else if x.seen.contains n then .again
  else .new

/-- The session after SEQ `n` is accepted: H, the record of H − 63 to H, and the replies kept (R387, R388). -/
def Session.accept (x : Session) (n : Nat) : Session :=
  let h := if seqAbove x.v2 x.high n then n else x.high
  let seen := (n :: x.seen).filter (fun k => decide (seqBelow x.v2 h k ≤ 63))
  { x with high := h, seen := seen, finals := x.finals.filter (fun p => seen.contains p.1) }

/-! ### COMMAND (R382) -/

/-- Packet `a` is taken up before `b`: the earlier stamp, then the lower session number. -/
def RxPacket.first (a b : RxPacket) : Bool :=
  before a.stamp b.stamp || (a.stamp == b.stamp && decide (beAt a.bytes 2 1 < beAt b.bytes 2 1))

/-- The packet taken up next. -/
def nextRx : List RxPacket → Option RxPacket
  | [] => none
  | p :: l =>
    match nextRx l with
    | some q => if q.first p then some q else some p
    | none => some p

/-- A sessionless packet (R383): IDENTIFY or SESSION_OPEN; after TEST_UNLOCK only IDENTIFY (R487). -/
def State.takeSessionless (s : State) (p : RxPacket) (k : Packet) : State :=
  if k.tag ≠ List.replicate 16 0 then s.tagFail
  else if k.cls ≠ 0 ∨ 1 < k.op ∨ (k.op = 1 ∧ s.tst.zeroised = true) then s
  else
    let x : Command :=
      { ref := ⟨none, k.seq⟩, v2 := k.version == 2, cls := k.cls, op := k.op, payload := k.payload,
        stamp := p.stamp, iface := p.iface, mac := p.mac, vid := p.vid, stage := .queued }
    let st := if k.version ≠ 2 ∧ k.version ≠ 3 then csBADVERSION else opCheck x.v2 k.cls k.op k.payload
    if st ≠ 0 then s.replyTo x st true []
    else { s with cmd := { s.cmd with inflight := s.cmd.inflight ++ [x] } }

/-- The arrival stamp of a HOLD-class or STOP-class command kept for R393; older ones are forgotten once no RUN-class command
can lie within 1 us of them. -/
def State.noteStop (s : State) (t : DWord) : State :=
  let live := s.cmd.stops.filter (fun u => decide (tdiff s.time u ≤ (1000 * unitsPerMs : Nat)) ||
    s.cmd.inflight.any (fun x => x.stage == .runWait) || !s.cmd.rx.isEmpty)
  { s with cmd := { s.cmd with stops := live ++ [t] } }

/-- A command that is new takes its place (R388, R391, R394): refused, queued, or waiting for its stamp plus 1 us. -/
def State.acceptNew (s : State) (k : Fin 4) (x : Command) (version : Nat) : State :=
  let e := s.session k
  let st := if version ≠ (if e.v2 then 2 else 3) then csBADVERSION else opCheck e.v2 x.cls x.op x.payload
  let full := st == 0 && (decide (64 ≤ s.outstanding k) || (s.command x.ref).isSome)
  if full then
    let b := s.replyPacket x csFLOW true []
    (s.raise 244 4).sendPacket ⟨b, x.iface, x.mac, x.vid, false⟩
  else
    let s := s.setSession k (e.accept x.ref.seq)
    if st ≠ 0 then s.sendReply x st true []
    else
      let kind := kindOf x.cls x.op x.payload
      if (e.bare && !bareAllows x.cls x.op) || (kind == .run && !s.mayRun k x) then
        (s.raise 241 0x20).sendReply x csAUTH true []
      else
        let s := if kind = .hold ∨ kind = .stop then s.noteStop x.stamp else s
        { s with cmd := { s.cmd with inflight := s.cmd.inflight ++ [{ x with stage := if kind = .run then .runWait else .queued }] } }

/-- A packet of session `n` (R385–R387). -/
def State.takeOf (s : State) (n : Fin 4) (p : RxPacket) : State :=
  let e := s.session n
  if e.state = 0 then s.tagFail
  else if e.iface ≠ p.iface ∨ e.mac ≠ p.mac then s
  else match parsePacket e.v2 p.bytes with
    | none => s.tagFail
    | some k =>
      if k.tag ≠ (hmacSha256 e.skey k.body).take 16 then s.tagFail
      else
        let s := s.setSession n { e with lastPkt := p.stamp, state := 2 }
        let s := if e.state = 1 then s.raise 240 (2 ^ n.val) else s
        let x : Command :=
          { ref := ⟨some n, k.seq⟩, v2 := e.v2, cls := k.cls, op := k.op, payload := k.payload,
            stamp := p.stamp, iface := e.iface, mac := e.mac, vid := e.vid, stage := .queued }
        match e.seqClass k.seq with
        | .new => s.acceptNew n x k.version
        | .again =>
          match e.finals.find? (fun f => f.1 == k.seq) with
          | some f => s.sendPacket ⟨f.2, e.iface, e.mac, e.vid, false⟩
          | none => s
        | .replay => (s.incR Reg.CMD_REPLAY).raise 244 8

/-- A packet taken up (R379, R383, R386): one that is no COMMAND is ignored. -/
def State.takePacket (s : State) (p : RxPacket) : State :=
  if beAt p.bytes 1 1 ≠ 1 then s
  else
    let n := beAt p.bytes 2 1
    if n = 255 then
      match parsePacket (beAt p.bytes 0 1 == 2) p.bytes with
      | some k => s.takeSessionless p k
      | none => s.tagFail
    else if h : n < 4 then s.takeOf ⟨n, h⟩ p
    else s.tagFail

/-- COMMAND (R382): the packet with the earliest stamp is taken up, once the command before it has started. -/
def execCommand (s : State) : Out :=
  match nextRx s.cmd.rx with
  | none => .next s
  | some p =>
    if s.cmd.inflight.any (fun x => x.stage == .queued) then .next s
    else .next (({ s with cmd := { s.cmd with rx := s.cmd.rx.erase p } } : State).useCrypto.takePacket p)

/-! ### RUN_COMMAND_START (R393) -/

/-- A HOLD-class or STOP-class command has an arrival stamp within 1 us of `a`, inclusive. -/
def State.crossed (s : State) (a : DWord) : Bool :=
  s.cmd.stops.any (fun t => decide (tdiff t a ≤ (unitsPerUs : Nat)) && decide (-(unitsPerUs : Nat) ≤ tdiff t a))

/-- RUN_COMMAND_START (R392–R394): the first RUN-class command in the order of the stamps, at its stamp plus 1 us, once every
packet that arrived by then has been taken up. -/
def execRunCommandStart (c : CmdRef) (s : State) : Out :=
  match s.cmd.inflight.find? (fun x => x.stage == .runWait) with
  | none => .next s
  | some x =>
    let t := x.stamp + units unitsPerUs
    if x.ref ≠ c ∨ s.quietUntil t = false then .next s
    else if s.crossed x.stamp then
      .next (((s.incR Reg.CMD_CONFLICT_CNT).raise 241 0x10).replyTo x csCONFLICT true [])
    else
      match x.ref.session with
      | none => .next s
      | some k =>
        if x.mute then .next (s.setCommand { x with stage := .started })
        else if !s.mayRun k x then .next (s.authDenied x)
        else
          let s := if s.holder.isNone then s.raise 241 1 else s
          .next ((s.renewLease k).setCommand { x with stage := .started })

/-! ### The service port (R381) -/

/-- The service port works: the device is supplied and not held in reset. -/
def State.svcUp (s : State) : Bool := s.boot.supply && !s.boot.resetN

/-- SVC_WRITE: the packet `b` that follows the first byte of a WRITE transaction, taken with the time as its stamp (R382). -/
def execSvcWrite (b : List Byte) (s : State) : Out :=
  if !s.svcUp || !s.getB Reg.CMD_CTL 11 then .next s
  else
    let v2 := beAt b 0 1 == 2
    if b.length < headLen v2 ∨ b.length ≠ headLen v2 + lenField v2 b + 16 then .next (s.raise 244 2)
    else .next { s with cmd := { s.cmd with rx := s.cmd.rx ++ [⟨b, 2, 0, 0, s.time⟩] } }

/-- SVC_READ: a 2-byte length and the oldest packet; 0 with none. -/
def execSvcRead (s : State) : Out :=
  if !s.svcUp then .next s
  else match s.cmd.svcQueue with
    | [] => .next { s with cmd := { s.cmd with svcOut := beBytes 2 0 } }
    | p :: l => .next { s with cmd := { s.cmd with svcOut := beBytes 2 p.bytes.length ++ p.bytes, svcQueue := l } }

/-- SVC_STATUS: [0] a reply or EVENT is queued, [1] a WRITE can be taken. -/
def execSvcStatus (s : State) : Out :=
  if !s.svcUp then .next s
  else
    .next { s with cmd := { s.cmd with
      svcOut := beBytes 1 ((!s.cmd.svcQueue.isEmpty).toNat + 2 * (s.getB Reg.CMD_CTL 11).toNat) } }

/-! ### EVENT_REPORT (R408) -/

/-- One entry of an EVENT packet. -/
def EvEntry.bytes (e : EvEntry) : List Byte := beBytes 2 e.ev ++ beBytes 2 0 ++ beBytes 4 e.bits.toNat ++ beBytes 8 e.time.toNat

/-- EVENT_REPORT (R408): up to 60 of the entries that session `k` has not been sent yet. -/
def execEventReport (k : Fin 4) (s : State) : Out :=
  let x := s.session k
  match x.reports.take 60 with
  | [] => .next s
  | e :: l =>
    if x.state ≠ 2 ∨ x.v2 = true then .next s
    else
      let b := packetBytes false 3 k.val (x.evSeq + 1) 8 0x80 0 true e.time ((e :: l).flatMap EvEntry.bytes) (some x.skey)
      .next ((s.setSession k { x with reports := x.reports.drop 60, evSeq := x.evSeq + 1 }).sendPacket ⟨b, x.iface, x.mac, x.vid, true⟩)

end Sys2Proof.Machine
end

