-- ==== Sys2Proof/Machine/CmdRows.lean ====
section
/-!
DEFINITION. Sys2Proof/Machine/CmdRows.lean: what the commands of 15_command_protocol.md do when their turn comes (R395–R405):
identity and sessions, registers, posts, events, the lease, HOLD and STOP, the vault, firmware and test access.
-/
namespace Sys2Proof.Machine

/-! ### Identity and sessions (R384–R386, R400) -/

/-- The identity block (R400). -/
def State.identity (s : State) : List Byte :=
  beBytes 2 0x0096 ++ beBytes 2 0x9640 ++ beBytes 1 1 ++ beBytes 1 0x0C ++ beBytes 1 s.station ++
    beBytes 1 (s.getF Reg.DEV_START_STAT 4 2) ++ beBytes 4 0x19640A4D ++ beBytes 4 (Config.fwVersion s.boot.fwSlot).toNat ++
    beBytes 6 (s.getD Reg.NET_MAC).toNat ++ beBytes 2 0 ++ beBytes 8 s.time.toNat ++ beBytes 4 (s.getR Reg.CFG_BOOT).toNat ++
    beBytes 4 s.cmdStat.toNat

/-- IDENTIFY (R400): a version 2 reply carries bytes 0 to 15. -/
def execIdentify (c : CmdRef) (s : State) : Out :=
  match s.turn c 0 0 with
  | none => .next s
  | some x => .next (s.replyTo x csOK true (if x.v2 then s.identity.take 16 else s.identity))

/-- The host key that a SESSION_OPEN uses, and whether the session is bare, or the status of its refusal (R384, R386). -/
def State.openKey (s : State) (x : Command) (i : Nat) : Except Nat (List Byte × Bool) :=
  if s.cfg.hk = [] then
    if x.iface ≠ 2 then .error csNOTSERVICE
    else if i ≠ 7 then .error csBADPARAM
    else .ok (List.replicate 32 0, true)
  else if 8 ≤ i ∨ vaultHas s.cfg.hk i = false then .error csBADPARAM
  else .ok (vaultKey s.cfg.hk i, false)

/-- The session that a SESSION_OPEN takes, or the status of its refusal (R385). -/
def State.openSlot (s : State) (n : Nat) : Except Nat Nat :=
  if n = 255 then
    match (List.range 4).find? (fun k => (s.session k).state == 0) with
    | some k => .ok k
    | none => .error csBUSY
  else if 4 ≤ n then .error csBADPARAM
  else if (s.session n).state = 0 then .ok n
  else .error csBUSY

/-- The reply that opens a session: a sessionless one carries the tag of the new session (R384). -/
def State.replyOpen (s : State) (x : Command) (key payload : List Byte) : State :=
  match x.ref.session with
  | some _ => s.replyTo x csOK true payload
  | none =>
    let b := packetBytes x.v2 2 255 x.ref.seq x.cls x.op csOK true x.stamp payload (some key)
    (s.dropCommand x.ref).sendPacket ⟨b, x.iface, x.mac, x.vid, false⟩

/-- SESSION_OPEN (R384, R385): the session becomes OPENING, with a fresh device nonce and K_s. -/
def execSessionOpen (c : CmdRef) (s : State) : Out :=
  match s.turn c 0 1 with
  | none => .next s
  | some x =>
    let i := beAt x.payload 0 1
    match s.openKey x i with
    | .error e => .next (s.replyTo x e true [])
    | .ok (hk, bare) =>
      match s.openSlot (beAt x.payload 1 1) with
      | .error e => .next (s.replyTo x e true [])
      | .ok k =>
        let f := s.freshBytes 16
        let nd := f.2
        let ks := hmacSha256 hk (beBytes 5 0x415A2D534B ++ sliceB x.payload 4 16 ++ nd ++ beBytes 1 k)
        let y : Session :=
          { state := 1, key := i, v2 := x.v2, iface := x.iface, mac := x.mac, vid := x.vid,
            skey := ks, bare := bare, openedAt := s.time, lastPkt := s.time }
        .next ((f.1.setSession k y).replyOpen x ks (beBytes 1 k ++ beBytes 3 0 ++ nd))

/-- SESSION_CLOSE (R385): the reply goes out, and the session closes. -/
def execSessionClose (c : CmdRef) (s : State) : Out :=
  match s.turn c 0 2 with
  | none => .next s
  | some x =>
    match x.ref.session with
    | some k => .next ((s.replyTo x csOK true []).closeSession k false)
    | none => .next s

/-- PING (R399): device time. -/
def execPing (c : CmdRef) (s : State) : Out :=
  match s.turn c 0 3 with
  | none => .next s
  | some x => .next (s.replyTo x csOK true (beBytes 8 s.time.toNat))

/-! ### Registers (R403) -/

/-- Every one of the `n` words from `a` on may be named (R398): in the address map, at a multiple of 4. -/
def addrOk (a n : Nat) : Bool := a % 4 == 0 && (List.range n).all (fun i => inMap (a + 4 * i))

/-- The `n` words from `a` on read in ascending order; none where a read has to wait (R341), with the state that waits. -/
def State.readWords (s0 : State) : Nat → Nat → List Ecc → State → List Byte → State × Option (List Byte)
  | 0, _, _, s, l => (s, some l)
  | n + 1, a, e, s, l =>
    let r := s.readReg a (e.headD .clean)
    if r.2.2 then readWords s0 n (a + 4) e.tail r.1 (l ++ beBytes 4 r.2.1.toNat)
    else ((s0.readReg a (e.headD .clean)).1, none)

/-- REG_READ, in its turn or waiting for a read of the user NV. -/
def State.regReadCmd (s : State) (c : CmdRef) : Option Command :=
  match s.turn c 1 0 with
  | some x => some x
  | none =>
    match s.command c with
    | some x => if x.cls = 1 ∧ x.op = 0 ∧ x.stage = .awaiting then some x else none
    | none => none

/-- REG_READ (R403): `ecc` is what ECC finds in each word that lies in the user NV. While one of them has to wait, nothing has
been read. -/
def execRegRead (c : CmdRef) (ecc : List Ecc) (s : State) : Out :=
  match s.regReadCmd c with
  | none => .next s
  | some x =>
    let a := beAt x.payload 0 4
    let n := beAt x.payload 4 2
    if n = 0 ∨ 256 < n then .next (s.replyTo x csBADPARAM true [])
    else if !addrOk a n then .next (s.replyTo x csBADADDR true [])
    else
      match s.readWords n a ecc s [] with
      | (t, some l) => .next (t.replyTo x csOK true l)
      | (t, none) => .next (t.awaitReply x)

/-- Words written in ascending order while the command is in flight: a reset among them ends it (R390). -/
def State.writeWords (c : CmdRef) : List Byte → Nat → Nat → State → State
  | _, 0, _, s => s
  | l, n + 1, a, s =>
    if (s.command c).isSome then writeWords c (l.drop 4) n (a + 4) (s.writeReg a (BitVec.ofNat 32 (beAt l 0 4))) else s

/-- REG_WRITE (R403). -/
def execRegWrite (c : CmdRef) (s : State) : Out :=
  match s.turn c 1 1 with
  | none => .next s
  | some x =>
    let a := beAt x.payload 0 4
    let n := (x.payload.length - 4) / 4
    if !addrOk a n then .next (s.replyTo x csBADADDR true [])
    else .next ((s.writeWords c (x.payload.drop 4) n a).finish c csOK [])

/-- REG_RMW (R399, R403): the bits of the mask take those of the value. A read of the user NV may have to wait. -/
def execRegRmw (c : CmdRef) (ecc : Ecc) (s : State) : Out :=
  match s.turn c 1 2 with
  | none => .next s
  | some x =>
    let a := beAt x.payload 0 4
    let m : Word := BitVec.ofNat 32 (beAt x.payload 4 4)
    let v : Word := BitVec.ofNat 32 (beAt x.payload 8 4)
    if !addrOk a 1 then .next (s.replyTo x csBADADDR true [])
    else
      let r := s.readReg a ecc
      if r.2.2 then
        .next ((r.1.writeReg a ((r.2.1 &&& ~~~m) ||| (v &&& m))).finish c csOK (beBytes 4 r.2.1.toNat))
      else .next r.1

/-! ### Posts and time (R401) -/

/-- ACT_POST (R401): its records are offered to port 80 in order; while one waits for room it keeps its turn. -/
def execActPost (c : CmdRef) (s : State) : Out :=
  match s.turn c 2 0 with
  | none => .next s
  | some x =>
    .next (s.offerPosts x)

/-- TIME_READ (R399): device time and CLK_TB_STAT. -/
def execTimeRead (c : CmdRef) (s : State) : Out :=
  match s.turn c 2 6 with
  | none => .next s
  | some x => .next (s.replyTo x csOK true (beBytes 8 s.time.toNat ++ beBytes 4 (s.getR Reg.CLK_TB_STAT).toNat))

/-- PWR_STAT (R399): STATE, and the last-wake record. -/
def execPwrStat (c : CmdRef) (s : State) : Out :=
  match s.turn c 7 1 with
  | none => .next s
  | some x =>
    let d := beAt x.payload 0 1
    if 134 < d then .next (s.replyTo x (csOf 7 5) true [])
    else .next (s.replyTo x csOK true (beBytes 1 (s.domState d) ++ beBytes 4 (s.getR (Reg.PWR_DOM_WAKE d)).toNat ++
      beBytes 8 (s.getD (Reg.PWR_DOM_WAKE_TIME d)).toNat))

/-! ### Events (R399, R408) -/

/-- EVT_SUBSCRIBE (R399, R408): the session's mask, bit n for EVn. -/
def execEvtSubscribe (c : CmdRef) (s : State) : Out :=
  match s.turn c 8 0 with
  | none => .next s
  | some x =>
    match x.ref.session with
    | some k =>
      if x.mute then .next (s.replyTo x csOK true [])
      else .next ((s.setSession k { s.session k with mask := beNat x.payload }).replyTo x csOK true [])
    | none => .next s

/-- The cause register of EVn as it reads; 0 for a reserved source. -/
def State.causeWord (s : State) (ev : Nat) : Word :=
  match s.causeAddr ev with
  | some a => s.getR a
  | none => 0

/-- EVT_READ (R399): the cause registers of `count` events from the first on. -/
def execEvtRead (c : CmdRef) (s : State) : Out :=
  match s.turn c 8 1 with
  | none => .next s
  | some x =>
    let e := beAt x.payload 0 2
    let n := beAt x.payload 2 1
    if n = 0 ∨ 64 < n ∨ 320 < e + n then .next (s.replyTo x csBADPARAM true [])
    else .next (s.replyTo x csOK true ((List.range n).flatMap (fun i => beBytes 4 (s.causeWord (e + i)).toNat)))

/-- EVT_ACK (R399, R491): the named cause bits are cleared. -/
def execEvtAck (c : CmdRef) (s : State) : Out :=
  match s.turn c 8 2 with
  | none => .next s
  | some x =>
    let e := beAt x.payload 0 2
    let m : Word := BitVec.ofNat 32 (beAt x.payload 2 4)
    if 320 ≤ e then .next (s.replyTo x csBADPARAM true [])
    else
      match s.causeAddr e with
      | some a => .next ((s.setR a (s.getR a &&& ~~~m)).replyTo x csOK true [])
      | none => .next (s.replyTo x csOK true [])

/-! ### The lease (R392) -/

/-- LEASE_ACQUIRE: granted when no session holds the lease. -/
def execLeaseAcquire (c : CmdRef) (s : State) : Out :=
  match s.turn c 10 0 with
  | none => .next s
  | some x =>
    match x.ref.session with
    | none => .next s
    | some k =>
      if s.holder.isSome then .next (s.replyTo x csLEASEHELD true [])
      else if x.mute then .next (s.replyTo x csOK true [])
      else .next (((s.renewLease k).raise 241 1).replyTo x csOK true (beBytes 1 (s.leaseTime / unitsPerMs)))

/-- LEASE_RENEW: the start of the command has renewed the lease; the reply holds the time left. -/
def execLeaseRenew (c : CmdRef) (s : State) : Out :=
  match s.turn c 10 1 with
  | none => .next s
  | some x => .next (s.replyTo x csOK true (beBytes 4 s.leaseLeft))

/-- LEASE_RELEASE: the lease of the session ends. -/
def execLeaseRelease (c : CmdRef) (s : State) : Out :=
  match s.turn c 10 2 with
  | none => .next s
  | some x =>
    let t := if s.holder.isSome ∧ s.holder = x.ref.session.map Fin.val then s.endLease 2 else s
    .next (t.replyTo x csOK true [])

/-- LEASE_STAT: CMD_STAT. -/
def execLeaseStat (c : CmdRef) (s : State) : Out :=
  match s.turn c 10 3 with
  | none => .next s
  | some x => .next (s.replyTo x csOK true (beBytes 4 s.cmdStat.toNat))

/-! ### HOLD and STOP (R395–R397) -/

/-- The payload of HOLD and STOP (R396), or the registers of the lapse HOLD (R395). -/
structure HoldSpec where
  flags   : Nat
  code    : Nat
  engines : Nat
  tables  : Nat
  cancel  : Word
deriving DecidableEq, Repr

/-- The payload of HOLD and STOP (R396). -/
def holdSpec (p : List Byte) : HoldSpec :=
  ⟨beAt p 0 4, beAt p 4 4, beAt p 8 8, beAt p 16 2, BitVec.ofNat 32 (beAt p 20 4)⟩

/-- FLAGS [0]: an armed Front is cancelled (R280, R281); the result byte: 0 none armed, 1 cancelled, 2 too late. -/
def State.holdFront (s : State) : State × Nat :=
  let armed := s.frontState == 1 || s.frontState == 2
  let r := s.hostFrontCancel
  (r.1, if r.2 then 2 else armed.toNat)

/-- The running tables of a mask stop at their next boundary (R68). -/
def State.holdTables (s : State) (mask : Nat) : State :=
  (bitsSet 16 mask).foldl (fun s t => if s.tblRuns t then s.ctStop t s.time else s) s

/-- FLAGS [0] to [3] in their order (R396): the state, the result of [0], the number that [1] removed. -/
def State.applyFlags (s : State) (h : HoldSpec) : State × Nat × Nat :=
  let r := if h.flags.testBit 0 then s.holdFront else (s, 0)
  let q := if h.flags.testBit 1 then r.1.hostCancel h.cancel else (r.1, 0)
  let s := if h.flags.testBit 2 then q.1.overMask h.engines State.clearRun else q.1
  let s := if h.flags.testBit 3 then s.holdTables h.tables else s
  (s, r.2, q.2)

/-- A HOLD applied (R395, R396): the flags, and CODE ORed into the cause register of EV242. -/
def State.applyHold (s : State) (h : HoldSpec) : State × Nat × Nat :=
  let r := s.applyFlags h
  (r.1.raise 242 h.code, r.2.1, r.2.2)

/-- The reply of HOLD and STOP (R396). -/
def holdReply (result count : Nat) : List Byte := beBytes 1 result ++ beBytes 1 0 ++ beBytes 2 count

/-- HOLD (R396). -/
def execHold (c : CmdRef) (s : State) : Out :=
  match s.turn c 10 4 with
  | none => .next s
  | some x =>
    let h := holdSpec x.payload
    if 16 ≤ h.flags then .next (s.replyTo x csBADPARAM true [])
    else
      let r := s.applyHold h
      .next (r.1.replyTo x csOK true (holdReply r.2.1 r.2.2))

/-- The engine that physical engine `n` holds goes into HALT (R397): at the end of its current cycle, or at once between
cycles. -/
def State.stopEngine (s : State) (n : Nat) : State :=
  match s.logicalOf n with
  | none => s
  | some e =>
    if s.inCycle n then s.setLeng e { s.leng e with haltAtEnd := true }
    else if s.engState n = 5 then s
    else s.enterHalt n e

/-- STOP (R397): as HOLD, then FLAGS [4], CODE ORed into the cause register of EV243, and the end of the lease. -/
def execStop (c : CmdRef) (s : State) : Out :=
  match s.turn c 10 5 with
  | none => .next s
  | some x =>
    let h := holdSpec x.payload
    if 32 ≤ h.flags then .next (s.replyTo x csBADPARAM true [])
    else
      let r := s.applyFlags h
      let t := if h.flags.testBit 4 then r.1.overMask h.engines State.stopEngine else r.1
      .next (((t.raise 243 h.code).endLease 8).replyTo x csOK true (holdReply r.2.1 r.2.2))

/-- LEASE_LAPSE (R392, R395): LEASE_MS after its last renewal the lease ends, and the lapse HOLD is performed where LAPSE_HOLD
is set. -/
def execLeaseLapse (s : State) : Out :=
  match s.cmd.lease with
  | none => .next s
  | some (_, t) =>
    if s.reached (t + units s.leaseTime) = false then .next s
    else
      let s : State := { s with cmd := { s.cmd with lease := none } }
      let w := s.getR Reg.CMD_LEASE_CFG
      let h : HoldSpec := ⟨fld w 3 0, (s.getR Reg.CMD_LAPSE_CODE).toNat, (s.getD Reg.CMD_LAPSE_ENG).toNat,
        s.getF Reg.CMD_LAPSE_TBL 15 0, s.getR Reg.CMD_LAPSE_CANCEL⟩
      .next ((if bitOf w 31 then (s.applyHold h).1 else s).raise 241 4)

/-! ### The vault (R254, R402) -/

/-- A vault key provisioned, or the status of the refusal (R402). -/
def State.provision (s : State) (kind i : Nat) (v : List Byte) : State × Nat :=
  let c := s.cfg
  match kind with
  | 0 => if vaultHas c.aes i then (s, csBUSY) else ({ s with cfg := { c with aes := tabInsert c.aes i v } }, 0)
  | 1 => if vaultHas c.pub i then (s, csBUSY) else ({ s with cfg := { c with pub := tabInsert c.pub i v } }, 0)
  | 2 => if vaultHas c.hk i then (s, csBUSY) else ({ s with cfg := { c with hk := tabInsert c.hk i v } }, 0)
  | _ =>
    let enc := beAt v 0 1
    let svn := beAt v 1 4
    if 1 < enc ∨ (c.requireEnc = true ∧ enc = 0) ∨ svn < c.minSvn then (s, csBADPARAM)
    else ({ s with cfg := { c with requireEnc := enc == 1, minSvn := svn } }, 0)

/-- VAULT_PROV (R402). -/
def execVaultProv (c : CmdRef) (s : State) : Out :=
  match s.turn c 15 2 with
  | none => .next s
  | some x =>
    let kind := beAt x.payload 0 1
    let i := beAt x.payload 1 1
    if 3 < kind ∨ (kind ≠ 3 ∧ (if kind = 1 then 4 else 8) ≤ i) then .next (s.replyTo x csBADPARAM true [])
    else if s.inServiceMode = false ∨ x.iface ≠ 2 then .next (s.replyTo x csNOTSERVICE true [])
    else
      let r := s.provision kind i (x.payload.drop 2)
      if r.2 ≠ 0 then .next (s.replyTo x r.2 true []) else .next ((r.1.pendingReply x).finish c csOK [])

/-! ### Firmware (R350, R399) -/

/-- The slot that did not start the running firmware. -/
def State.fwOther (s : State) : Nat := if s.boot.fwSlot = 0 then 1 else 0

/-- FW_BEGIN: an update into the inactive slot, which is bootable no longer. -/
def execFwBegin (c : CmdRef) (s : State) : Out :=
  match s.turn c 15 3 with
  | none => .next s
  | some x =>
    if s.boot.fwUp.isSome then .next (s.replyTo x csBUSY true [])
    else
      let k := s.fwOther
      let b := s.boot
      .next (({ s with boot := { b with
        fwUp := some { total := beAt x.payload 0 4, last := s.time },
        fwMem := tabErase b.fwMem k,
        fwBoot := b.fwBoot.filter (fun j => j != k) } } : State).replyTo x csOK true [])

/-- FW_DATA: the bytes at the next offset. -/
def execFwData (c : CmdRef) (s : State) : Out :=
  match s.turn c 15 5 with
  | none => .next s
  | some x =>
    match s.boot.fwUp with
    | none => .next (s.replyTo x csBADPARAM true [])
    | some u =>
      let d := u.data ++ x.payload.drop 4
      if beAt x.payload 0 4 ≠ u.data.length ∨ u.total < d.length then .next (s.replyTo x csBADPARAM true [])
      else
        .next (({ s with boot := { s.boot with
          fwUp := some { u with data := d, last := s.time },
          fwMem := tabInsert s.boot.fwMem s.fwOther d } } : State).replyTo x csOK true [])

/-- FW_DATA_GAP: 100 ms without the expected data end the update. -/
def execFwDataGap (s : State) : Out :=
  match s.boot.fwUp with
  | some u =>
    if u.data.length < u.total ∧ (100 * unitsPerMs : Nat) ≤ tdiff s.time u.last then
      .next { s with boot := { s.boot with fwUp := none } }
    else .next s
  | none => .next s

/-- FW_END (R350): the update is verified, `ok` whether its content passes, and its slot marked bootable. -/
def execFwEnd (c : CmdRef) (ok : Bool) (s : State) : Out :=
  match s.turn c 15 6 with
  | none => .next s
  | some x =>
    match s.boot.fwUp with
    | none => .next (s.replyTo x csBADPARAM true [])
    | some u =>
      let t : State := { s with boot := { s.boot with fwUp := none } }
      let t := t.pendingReply x
      if ok ∧ u.data.length = u.total then
        .next (({ t with boot := { t.boot with fwBoot := s.fwOther :: t.boot.fwBoot } } : State).finish c csOK (beBytes 1 0))
      else .next (t.finish c csOK (beBytes 1 Config.fwFailed.toNat))

/-! ### Test access (R487) -/

/-- TEST_UNLOCK (R487): the reply, then the loaded keys are zeroised, every session closes, and the arbiters go into TEST. -/
def execTestUnlock (c : CmdRef) (s : State) : Out :=
  match s.turn c 15 4 with
  | none => .next s
  | some x =>
    if s.inServiceMode = false then .next (s.replyTo x csNOTSERVICE true [])
    else
      let s := s.replyTo x csOK true []
      let s : State := { s with tst := { s.tst with zeroised := true } }
      let s := (List.range 4).foldl (fun s k => if (s.session k).state = 0 then s else s.closeSession k false) s
      .next (((s.setF Reg.TST_SCAN 1 0 3).arbModes 2).raise 223 3)

end Sys2Proof.Machine
end

