-- ==== Sys2Proof/Machine/Dispatch.lean ====
section
/-!
DEFINITION. Sys2Proof/Machine/Dispatch.lean: what each command does, one direct call of its meaning per constructor.
-/
namespace Sys2Proof.Machine

def exec (i : Instr) (s : State) : Host.Outcome State Fault Refusal :=
  match i with
  | .schedulerTick => Sys2Proof.Machine.execSchedulerTick s
  | .postAccept => Sys2Proof.Machine.execPostAccept s
  | .prewakeRequest => Sys2Proof.Machine.execPrewakeRequest s
  | .actCancel v => Sys2Proof.Machine.execActCancel v s
  | .driveLow p => Sys2Proof.Machine.execDriveLow p s
  | .driveHigh p => Sys2Proof.Machine.execDriveHigh p s
  | .toggle p => Sys2Proof.Machine.execToggle p s
  | .release p => Sys2Proof.Machine.execRelease p s
  | .pulseHigh p => Sys2Proof.Machine.execPulseHigh p s
  | .pulseLow p => Sys2Proof.Machine.execPulseLow p s
  | .pulseTrailingEdge p => Sys2Proof.Machine.execPulseTrailingEdge p s
  | .cycle e => Sys2Proof.Machine.execCycle e s
  | .signal e => Sys2Proof.Machine.execSignal e s
  | .strobe t => Sys2Proof.Machine.execStrobe t s
  | .disarm p => Sys2Proof.Machine.execDisarm p s
  | .armRise p => Sys2Proof.Machine.execArmRise p s
  | .armFall p => Sys2Proof.Machine.execArmFall p s
  | .armBoth p => Sys2Proof.Machine.execArmBoth p s
  | .winRise p => Sys2Proof.Machine.execWinRise p s
  | .winFall p => Sys2Proof.Machine.execWinFall p s
  | .winBoth p => Sys2Proof.Machine.execWinBoth p s
  | .captureEdge p ed q => Sys2Proof.Machine.execCaptureEdge p ed q s
  | .windowClose p => Sys2Proof.Machine.execWindowClose p s
  | .capRead v => Sys2Proof.Machine.execCapRead v s
  | .convert c => Sys2Proof.Machine.execConvert c s
  | .sequence c => Sys2Proof.Machine.execSequence c s
  | .adcResult c v => Sys2Proof.Machine.execAdcResult c v s
  | .ctStart v => Sys2Proof.Machine.execCtStart v s
  | .ctStop v => Sys2Proof.Machine.execCtStop v s
  | .ctSwap v => Sys2Proof.Machine.execCtSwap v s
  | .ctEntryPost t => Sys2Proof.Machine.execCtEntryPost t s
  | .ctStopBoundary t => Sys2Proof.Machine.execCtStopBoundary t s
  | .ctSwapBoundary t => Sys2Proof.Machine.execCtSwapBoundary t s
  | .ctCopybackDone t => Sys2Proof.Machine.execCtCopybackDone t s
  | .ctWrite c => Sys2Proof.Machine.execCtWrite c s
  | .raise n => Sys2Proof.Machine.execRaise n s
  | .add n => Sys2Proof.Machine.execAdd n s
  | .countDown n => Sys2Proof.Machine.execCountDown n s
  | .load n => Sys2Proof.Machine.execLoad n s
  | .action m dst w => Sys2Proof.Machine.execAction m dst w s
  | .front => Sys2Proof.Machine.execFront s
  | .frontBack => Sys2Proof.Machine.execFrontBack s
  | .holdover => Sys2Proof.Machine.execHoldover s
  | .clkTbCtlWrite w => Sys2Proof.Machine.execClkTbCtlWrite w s
  | .timeStep v => Sys2Proof.Machine.execTimeStep v s
  | .timeStepApply => Sys2Proof.Machine.execTimeStepApply s
  | .resFail r => Sys2Proof.Machine.execResFail r s
  | .lossOfLock n why => Sys2Proof.Machine.execLossOfLock n why s
  | .lockComplete n => Sys2Proof.Machine.execLockComplete n s
  | .timeWaitExpiry => Sys2Proof.Machine.execTimeWaitExpiry s
  | .adpllEnable n w => Sys2Proof.Machine.execAdpllEnable n w s
  | .relock n => Sys2Proof.Machine.execRelock n s
  | .fcwWrite n v => Sys2Proof.Machine.execFcwWrite n v s
  | .slewDone n => Sys2Proof.Machine.execSlewDone n s
  | .outputCtlWrite n m w => Sys2Proof.Machine.execOutputCtlWrite n m w s
  | .gclkSrcWrite k w => Sys2Proof.Machine.execGclkSrcWrite k w s
  | .runEnClear n => Sys2Proof.Machine.execRunEnClear n s
  | .lockstepMismatch n bit => Sys2Proof.Machine.execLockstepMismatch n bit s
  | .migrationCopyDone e => Sys2Proof.Machine.execMigrationCopyDone e s
  | .migrate v => Sys2Proof.Machine.execMigrate v s
  | .haltClr v => Sys2Proof.Machine.execHaltClr v s
  | .reinstate v => Sys2Proof.Machine.execReinstate v s
  | .engineWatchdog n => Sys2Proof.Machine.execEngineWatchdog n s
  | .dataRamHostWrite n k w => Sys2Proof.Machine.execDataRamHostWrite n k w s
  | .mboxWrite v => Sys2Proof.Machine.execMboxWrite v s
  | .farFlush n => Sys2Proof.Machine.execFarFlush n s
  | .farLineFill n ecc ecc2 => Sys2Proof.Machine.execFarLineFill n ecc ecc2 s
  | .effectStatusReturn n => Sys2Proof.Machine.execEffectStatusReturn n s
  | .drainTimeout n => Sys2Proof.Machine.execDrainTimeout n s
  | .waitTimeout n => Sys2Proof.Machine.execWaitTimeout n s
  | .waittWake n => Sys2Proof.Machine.execWaittWake n s
  | .bpAck n v => Sys2Proof.Machine.execBpAck n v s
  | .bpTimeout n => Sys2Proof.Machine.execBpTimeout n s
  | .alu n => Sys2Proof.Machine.execAlu n s
  | .addi n => Sys2Proof.Machine.execAddi n s
  | .andi n => Sys2Proof.Machine.execAndi n s
  | .ori n => Sys2Proof.Machine.execOri n s
  | .xori n => Sys2Proof.Machine.execXori n s
  | .shi n => Sys2Proof.Machine.execShi n s
  | .ldi n => Sys2Proof.Machine.execLdi n s
  | .insh n => Sys2Proof.Machine.execInsh n s
  | .cmpi n => Sys2Proof.Machine.execCmpi n s
  | .nop n => Sys2Proof.Machine.execNop n s
  | .fpu n => Sys2Proof.Machine.execFpu n s
  | .fma n => Sys2Proof.Machine.execFma n s
  | .ld n ecc => Sys2Proof.Machine.execLd n ecc s
  | .ldw n ecc => Sys2Proof.Machine.execLdw n ecc s
  | .ldws n ecc => Sys2Proof.Machine.execLdws n ecc s
  | .st n => Sys2Proof.Machine.execSt n s
  | .stw n => Sys2Proof.Machine.execStw n s
  | .bcc n => Sys2Proof.Machine.execBcc n s
  | .jmp n => Sys2Proof.Machine.execJmp n s
  | .call n => Sys2Proof.Machine.execCall n s
  | .jr n => Sys2Proof.Machine.execJr n s
  | .ret n => Sys2Proof.Machine.execRet n s
  | .fret n => Sys2Proof.Machine.execFret n s
  | .fcall n => Sys2Proof.Machine.execFcall n s
  | .post n => Sys2Proof.Machine.execPost n s
  | .cancel n => Sys2Proof.Machine.execCancel n s
  | .waitt n => Sys2Proof.Machine.execWaitt n s
  | .waitf n => Sys2Proof.Machine.execWaitf n s
  | .tfclr n => Sys2Proof.Machine.execTfclr n s
  | .send n => Sys2Proof.Machine.execSend n s
  | .recv n => Sys2Proof.Machine.execRecv n s
  | .peek n => Sys2Proof.Machine.execPeek n s
  | .recvm n => Sys2Proof.Machine.execRecvm n s
  | .bprd n => Sys2Proof.Machine.execBprd n s
  | .bpwr n => Sys2Proof.Machine.execBpwr n s
  | .uwr n => Sys2Proof.Machine.execUwr n s
  | .urd n => Sys2Proof.Machine.execUrd n s
  | .trjGo n => Sys2Proof.Machine.execTrjGo n s
  | .trjStop n => Sys2Proof.Machine.execTrjStop n s
  | .qstop n => Sys2Proof.Machine.execQstop n s
  | .trjStep n => Sys2Proof.Machine.execTrjStep n s
  | .engage n ecc => Sys2Proof.Machine.execEngage n ecc s
  | .disengage n => Sys2Proof.Machine.execDisengage n s
  | .camStep n ecc => Sys2Proof.Machine.execCamStep n ecc s
  | .vmset n => Sys2Proof.Machine.execVmset n s
  | .loopReset n => Sys2Proof.Machine.execLoopReset n s
  | .biqReset n => Sys2Proof.Machine.execBiqReset n s
  | .apply n => Sys2Proof.Machine.execApply n s
  | .pwmWriteApply e => Sys2Proof.Machine.execPwmWriteApply e s
  | .cami n ecc => Sys2Proof.Machine.execCami n ecc s
  | .loopx n => Sys2Proof.Machine.execLoopx n s
  | .biqx n => Sys2Proof.Machine.execBiqx n s
  | .limx n => Sys2Proof.Machine.execLimx n s
  | .mfs n => Sys2Proof.Machine.execMfs n s
  | .mts n => Sys2Proof.Machine.execMts n s
  | .cend n => Sys2Proof.Machine.execCend n s
  | .prelog n => Sys2Proof.Machine.execPrelog n s
  | .ckhNoretry n => Sys2Proof.Machine.execCkhNoretry n s
  | .logfree n => Sys2Proof.Machine.execLogfree n s
  | .rqNvRead n ecc => Sys2Proof.Machine.execRqNvRead n ecc s
  | .rqNvProgram n ecc => Sys2Proof.Machine.execRqNvProgram n ecc s
  | .rqNvErase n ecc => Sys2Proof.Machine.execRqNvErase n ecc s
  | .rqPrmRead n ecc => Sys2Proof.Machine.execRqPrmRead n ecc s
  | .rqPrmWrite n ecc => Sys2Proof.Machine.execRqPrmWrite n ecc s
  | .rqTrunkTransmit n ecc => Sys2Proof.Machine.execRqTrunkTransmit n ecc s
  | .quadratureCount e ha hb => Sys2Proof.Machine.execQuadratureCount e ha hb s
  | .indexEdge e high => Sys2Proof.Machine.execIndexEdge e high s
  | .ssiFrameEnd e bits low => Sys2Proof.Machine.execSsiFrameEnd e bits low s
  | .dsSample e k bits => Sys2Proof.Machine.execDsSample e k bits s
  | .dsClklost e => Sys2Proof.Machine.execDsClklost e s
  | .contention idx seg drv => Sys2Proof.Machine.execContention idx seg drv s
  | .scrubRewriteDone src => Sys2Proof.Machine.execScrubRewriteDone src s
  | .fabricCancel idx w => Sys2Proof.Machine.execFabricCancel idx w s
  | .fabricMboxWrite idx e m v => Sys2Proof.Machine.execFabricMboxWrite idx e m v s
  | .fabricRequest idx op addr len data lock => Sys2Proof.Machine.execFabricRequest idx op addr len data lock s
  | .eventPortPulse idx u w => Sys2Proof.Machine.execEventPortPulse idx u w s
  | .prbPinWrite c w => Sys2Proof.Machine.execPrbPinWrite c w s
  | .trcArm v => Sys2Proof.Machine.execTrcArm v s
  | .trcStop v => Sys2Proof.Machine.execTrcStop v s
  | .trcForce v => Sys2Proof.Machine.execTrcForce v s
  | .traceTrigger => Sys2Proof.Machine.execTraceTrigger s
  | .traceDone => Sys2Proof.Machine.execTraceDone s
  | .trcRead c => Sys2Proof.Machine.execTrcRead c s
  | .bramEccError idx k p word bit ue => Sys2Proof.Machine.execBramEccError idx k p word bit ue s
  | .memSweepRead idx k ecc bit => Sys2Proof.Machine.execMemSweepRead idx k ecc bit s
  | .residueMismatch idx k => Sys2Proof.Machine.execResidueMismatch idx k s
  | .memMove idx w => Sys2Proof.Machine.execMemMove idx w s
  | .memReturn idx w => Sys2Proof.Machine.execMemReturn idx w s
  | .bramCopyDone idx errs => Sys2Proof.Machine.execBramCopyDone idx errs s
  | .bramInitDone idx k => Sys2Proof.Machine.execBramInitDone idx k s
  | .stagingGo v => Sys2Proof.Machine.execStagingGo v s
  | .imageHeader => Sys2Proof.Machine.execImageHeader s
  | .frame wr => Sys2Proof.Machine.execFrame wr s
  | .stgBegin c => Sys2Proof.Machine.execStgBegin c s
  | .stgData c => Sys2Proof.Machine.execStgData c s
  | .stgEnd c => Sys2Proof.Machine.execStgEnd c s
  | .stgAbort v => Sys2Proof.Machine.execStgAbort v s
  | .hostStreamGap => Sys2Proof.Machine.execHostStreamGap s
  | .slotErase c => Sys2Proof.Machine.execSlotErase c s
  | .slotEraseDone k => Sys2Proof.Machine.execSlotEraseDone k s
  | .slotStat c => Sys2Proof.Machine.execSlotStat c s
  | .serviceEnter c => Sys2Proof.Machine.execServiceEnter c s
  | .scrubRead ce bad => Sys2Proof.Machine.execScrubRead ce bad s
  | .bcast m first last words => Sys2Proof.Machine.execBcast m first last words s
  | .frontArm v => Sys2Proof.Machine.execFrontArm v s
  | .frontCancel v => Sys2Proof.Machine.execFrontCancel v s
  | .frontStat c => Sys2Proof.Machine.execFrontStat c s
  | .verifyDone bad => Sys2Proof.Machine.execVerifyDone bad s
  | .notice m seq dir tf d part => Sys2Proof.Machine.execNotice m seq dir tf d part s
  | .noticeExpiry st => Sys2Proof.Machine.execNoticeExpiry st s
  | .voteClose => Sys2Proof.Machine.execVoteClose s
  | .frontCommit line => Sys2Proof.Machine.execFrontCommit line s
  | .doneHoldEnd => Sys2Proof.Machine.execDoneHoldEnd s
  | .quietEnd => Sys2Proof.Machine.execQuietEnd s
  | .crossingHoldEnd => Sys2Proof.Machine.execCrossingHoldEnd s
  | .powerUp vin => Sys2Proof.Machine.execPowerUp vin s
  | .baseLoad => Sys2Proof.Machine.execBaseLoad s
  | .resetNAssert => Sys2Proof.Machine.execResetNAssert s
  | .resetNRelease => Sys2Proof.Machine.execResetNRelease s
  | .coldReset v => Sys2Proof.Machine.execColdReset v s
  | .warmReset v => Sys2Proof.Machine.execWarmReset v s
  | .managementWatchdog => Sys2Proof.Machine.execManagementWatchdog s
  | .doneReleasePoint => Sys2Proof.Machine.execDoneReleasePoint s
  | .doneSample line => Sys2Proof.Machine.execDoneSample line s
  | .thaw => Sys2Proof.Machine.execThaw s
  | .supplyBelowReset => Sys2Proof.Machine.execSupplyBelowReset s
  | .gaspSectorErase => Sys2Proof.Machine.execGaspSectorErase s
  | .startupWrite c => Sys2Proof.Machine.execStartupWrite c s
  | .keyInsertion k => Sys2Proof.Machine.execKeyInsertion k s
  | .keyRemoval => Sys2Proof.Machine.execKeyRemoval s
  | .keyDiscovery => Sys2Proof.Machine.execKeyDiscovery s
  | .keyVoltageRetry => Sys2Proof.Machine.execKeyVoltageRetry s
  | .keyOvercurrent => Sys2Proof.Machine.execKeyOvercurrent s
  | .keySelect v => Sys2Proof.Machine.execKeySelect v s
  | .keyRescan v => Sys2Proof.Machine.execKeyRescan v s
  | .keyStat c => Sys2Proof.Machine.execKeyStat c s
  | .keyRead c => Sys2Proof.Machine.execKeyRead c s
  | .settingsLoad fail => Sys2Proof.Machine.execSettingsLoad fail s
  | .keyWb v fail => Sys2Proof.Machine.execKeyWb v fail s
  | .wbPeriodExpiry fail => Sys2Proof.Machine.execWbPeriodExpiry fail s
  | .prmWindowWrite k w => Sys2Proof.Machine.execPrmWindowWrite k w s
  | .prmRead c => Sys2Proof.Machine.execPrmRead c s
  | .prmWrite c => Sys2Proof.Machine.execPrmWrite c s
  | .nvProgram v => Sys2Proof.Machine.execNvProgram v s
  | .nvErase v => Sys2Proof.Machine.execNvErase v s
  | .nvSuspend v => Sys2Proof.Machine.execNvSuspend v s
  | .nvResume v => Sys2Proof.Machine.execNvResume v s
  | .nvRead c => Sys2Proof.Machine.execNvRead c s
  | .nvStat c => Sys2Proof.Machine.execNvStat c s
  | .nvWindowRead k ecc => Sys2Proof.Machine.execNvWindowRead k ecc s
  | .nvWindowWrite k w => Sys2Proof.Machine.execNvWindowWrite k w s
  | .nvProgramStep pass => Sys2Proof.Machine.execNvProgramStep pass s
  | .nvErasePulse pass => Sys2Proof.Machine.execNvErasePulse pass s
  | .nvResumeIdle => Sys2Proof.Machine.execNvResumeIdle s
  | .frameReceive p f good => Sys2Proof.Machine.execFrameReceive p f good s
  | .peerDelayExchange p delay => Sys2Proof.Machine.execPeerDelayExchange p delay s
  | .linkUp p => Sys2Proof.Machine.execLinkUp p s
  | .linkDown p => Sys2Proof.Machine.execLinkDown p s
  | .gclChange p w => Sys2Proof.Machine.execGclChange p w s
  | .gclChangeBoundary p => Sys2Proof.Machine.execGclChangeBoundary p s
  | .gateIntervalEnd p => Sys2Proof.Machine.execGateIntervalEnd p s
  | .frameTransmit p => Sys2Proof.Machine.execFrameTransmit p s
  | .recoveryReset idx => Sys2Proof.Machine.execRecoveryReset idx s
  | .latentErrorTest => Sys2Proof.Machine.execLatentErrorTest s
  | .wakeFrame p f => Sys2Proof.Machine.execWakeFrame p f s
  | .lineEnergy p => Sys2Proof.Machine.execLineEnergy p s
  | .hello m master hops stations chosen => Sys2Proof.Machine.execHello m master hops stations chosen s
  | .time m t step => Sys2Proof.Machine.execTime m t step s
  | .delayReq m => Sys2Proof.Machine.execDelayReq m s
  | .delayResp m t2 t3 => Sys2Proof.Machine.execDelayResp m t2 t3 s
  | .delayMeasureTimer l => Sys2Proof.Machine.execDelayMeasureTimer l s
  | .timeSendTimer => Sys2Proof.Machine.execTimeSendTimer s
  | .laneDown l => Sys2Proof.Machine.execLaneDown l s
  | .command => Sys2Proof.Machine.execCommand s
  | .runCommandStart c => Sys2Proof.Machine.execRunCommandStart c s
  | .svcWrite b => Sys2Proof.Machine.execSvcWrite b s
  | .svcRead => Sys2Proof.Machine.execSvcRead s
  | .svcStatus => Sys2Proof.Machine.execSvcStatus s
  | .sessionTimeout k => Sys2Proof.Machine.execSessionTimeout k s
  | .openingTimeout k => Sys2Proof.Machine.execOpeningTimeout k s
  | .leaseLapse => Sys2Proof.Machine.execLeaseLapse s
  | .eventReport k => Sys2Proof.Machine.execEventReport k s
  | .identify c => Sys2Proof.Machine.execIdentify c s
  | .sessionOpen c => Sys2Proof.Machine.execSessionOpen c s
  | .sessionClose c => Sys2Proof.Machine.execSessionClose c s
  | .ping c => Sys2Proof.Machine.execPing c s
  | .regRead c ecc => Sys2Proof.Machine.execRegRead c ecc s
  | .regWrite c => Sys2Proof.Machine.execRegWrite c s
  | .regRmw c ecc => Sys2Proof.Machine.execRegRmw c ecc s
  | .actPost c => Sys2Proof.Machine.execActPost c s
  | .timeRead c => Sys2Proof.Machine.execTimeRead c s
  | .pwrStat c => Sys2Proof.Machine.execPwrStat c s
  | .auxSet v => Sys2Proof.Machine.execAuxSet v s
  | .evtSubscribe c => Sys2Proof.Machine.execEvtSubscribe c s
  | .evtRead c => Sys2Proof.Machine.execEvtRead c s
  | .evtAck c => Sys2Proof.Machine.execEvtAck c s
  | .engRun c => Sys2Proof.Machine.execEngRun c s
  | .engHold c => Sys2Proof.Machine.execEngHold c s
  | .engStat c => Sys2Proof.Machine.execEngStat c s
  | .leaseAcquire c => Sys2Proof.Machine.execLeaseAcquire c s
  | .leaseRenew c => Sys2Proof.Machine.execLeaseRenew c s
  | .leaseRelease c => Sys2Proof.Machine.execLeaseRelease c s
  | .leaseStat c => Sys2Proof.Machine.execLeaseStat c s
  | .hold c => Sys2Proof.Machine.execHold c s
  | .stop c => Sys2Proof.Machine.execStop c s
  | .vaultProv c => Sys2Proof.Machine.execVaultProv c s
  | .fwBegin c => Sys2Proof.Machine.execFwBegin c s
  | .fwData c => Sys2Proof.Machine.execFwData c s
  | .fwDataGap => Sys2Proof.Machine.execFwDataGap s
  | .fwEnd c ok => Sys2Proof.Machine.execFwEnd c ok s
  | .testUnlock c => Sys2Proof.Machine.execTestUnlock c s
  | .grantDecision r => Sys2Proof.Machine.execGrantDecision r s
  | .backoffExpiry r q => Sys2Proof.Machine.execBackoffExpiry r q s
  | .beatComplete r ecc => Sys2Proof.Machine.execBeatComplete r ecc s
  | .lockGapExpiry r => Sys2Proof.Machine.execLockGapExpiry r s
  | .arbModeWrite r w => Sys2Proof.Machine.execArbModeWrite r w s
  | .domReqOn v => Sys2Proof.Machine.execDomReqOn v s
  | .domReqRet v => Sys2Proof.Machine.execDomReqRet v s
  | .domReqOff v => Sys2Proof.Machine.execDomReqOff v s
  | .domainReset v => Sys2Proof.Machine.execDomainReset v s
  | .idleTimeout d => Sys2Proof.Machine.execIdleTimeout d s
  | .wakeRequest d src => Sys2Proof.Machine.execWakeRequest d src s
  | .entryDone d => Sys2Proof.Machine.execEntryDone d s
  | .wakeDone d r => Sys2Proof.Machine.execWakeDone d r s
  | .coldRestoreDone d => Sys2Proof.Machine.execColdRestoreDone d s
  | .supplyWarning => Sys2Proof.Machine.execSupplyWarning s
  | .clearLevelRise => Sys2Proof.Machine.execClearLevelRise s
  | .warningClear => Sys2Proof.Machine.execWarningClear s
  | .portPowerLoss p => Sys2Proof.Machine.execPortPowerLoss p s
  | .portPowerReturn p => Sys2Proof.Machine.execPortPowerReturn p s
  | .portOvervoltage p => Sys2Proof.Machine.execPortOvervoltage p s
  | .overvoltageReconnect p => Sys2Proof.Machine.execOvervoltageReconnect p s
  | .intakeCurrentLimit p => Sys2Proof.Machine.execIntakeCurrentLimit p s
  | .powerMeasure m => Sys2Proof.Machine.execPowerMeasure m s
  | .auxSoftStartDone k => Sys2Proof.Machine.execAuxSoftStartDone k s
  | .auxStartTimeout k => Sys2Proof.Machine.execAuxStartTimeout k s
  | .auxFuseTrip k => Sys2Proof.Machine.execAuxFuseTrip k s
  | .auxBudgetCheck sum => Sys2Proof.Machine.execAuxBudgetCheck sum s
  | .auxStaggerOn => Sys2Proof.Machine.execAuxStaggerOn s
  | .thermalRead t => Sys2Proof.Machine.execThermalRead t s
  | .drizzleSliceStart t => Sys2Proof.Machine.execDrizzleSliceStart t s
  | .sliceEnd t pass addr bit => Sys2Proof.Machine.execSliceEnd t pass addr bit s
  | .passPeriodExpiry t => Sys2Proof.Machine.execPassPeriodExpiry t s
  | .tstReinstate w => Sys2Proof.Machine.execTstReinstate w s
  | .jtagInstruction idx => Sys2Proof.Machine.execJtagInstruction idx s
  | .testLogicReset => Sys2Proof.Machine.execTestLogicReset s
  | .causeClear ev w => Sys2Proof.Machine.execCauseClear ev w s
  | .subscriptionSignal => Sys2Proof.Machine.execSubscriptionSignal s
  | .evtRouteWrite a w => Sys2Proof.Machine.execEvtRouteWrite a w s
  | .readClear a => Sys2Proof.Machine.execReadClear a s
  | .registerWrite a w => Sys2Proof.Machine.execRegisterWrite a w s
  | .fabricPost idx w => Sys2Proof.Machine.execFabricPost idx w s
  | .samplingEdge t v q => Sys2Proof.Machine.execSamplingEdge t v q s
  | .eraseSegmentEnd => Sys2Proof.Machine.execEraseSegmentEnd s
  | .pdelayReqInterval p => Sys2Proof.Machine.execPdelayReqInterval p s
  | .laneUp l => Sys2Proof.Machine.execLaneUp l s
  | .clearLevelFall => Sys2Proof.Machine.execClearLevelFall s
  | .ctPeriodBoundary t => Sys2Proof.Machine.execCtPeriodBoundary t s
  | .pwmEdge e k => Sys2Proof.Machine.execPwmEdge e k s
  | .longWait r => Sys2Proof.Machine.execLongWait r s

end Sys2Proof.Machine
end

