-- ==== Sys2Proof/Safety.lean ====
section
/-!
DEFINITION. Sys2Proof/Safety.lean: the terms in which the statements about the device are said: what stays whatever is
commanded, the canonical form of the register table, and an engine that is about to execute an instruction.
-/
namespace Sys2Proof.Machine

/-! ### What stays -/

/-- The queue of waiting commands, and what the vault and the eFuses hold (R254, R402). -/
structure Firm where
  pending : List Instr
  aes     : List (Nat × List Byte)
  pub     : List (Nat × List Byte)
  hk      : List (Nat × List Byte)
  enc     : Bool
  svn     : Nat

/-- That part of a state. -/
def State.firm (s : State) : Firm := ⟨s.pending, s.cfg.aes, s.cfg.pub, s.cfg.hk, s.cfg.requireEnc, s.cfg.minSvn⟩

/-- Every key of a store is in a later one with the value it had. -/
def keysKept (old new : List (Nat × List Byte)) : Prop := ∀ p ∈ old, p ∈ new

/-- Nothing that the vault of `s` held is lost or changed in `t`: keys stay, REQUIRE_ENC stays set and MIN_SVN does not
fall. -/
def vaultKept (s t : State) : Prop :=
  keysKept s.cfg.aes t.cfg.aes ∧ keysKept s.cfg.pub t.cfg.pub ∧ keysKept s.cfg.hk t.cfg.hk ∧
  (s.cfg.requireEnc = true → t.cfg.requireEnc = true) ∧ s.cfg.minSvn ≤ t.cfg.minSvn

/-- The stores of the vault are in their canonical form: no two entries of one key. -/
def State.vaultWf (s : State) : Bool := tabRising 0 s.cfg.aes && tabRising 0 s.cfg.pub && tabRising 0 s.cfg.hk

/-! ### The register table -/

/-- The register table is in its canonical form (Machine/Tab.lean). -/
def State.regsWf (s : State) : Bool := tabWf regReset s.regs

/-! ### Engines -/

/-- What the instruction `w` works on when physical engine `n`, which holds logical engine `e`, issues it: its program
counter already past the word. -/
def State.issue (s : State) (n e : Nat) (w : Word) : EngX :=
  ⟨s, n, e, { (s.leng e).usedFar with
                issued := (s.leng e).issued + 1, stall := none, pc := (s.leng e).pc + 1 }, w, (s.leng e).pc, false⟩

/-- Physical engine `n`, which holds logical engine `e`, runs a cycle and the word `w` that it fetches is an instruction of
`row`, with no register of it waiting for a status (R124). -/
structure Issues (s : State) (n e : Nat) (w : Word) (row : EngRow) : Prop where
  holds   : s.logicalOf n = some e
  running : s.inCycle n = true
  powered : s.domOn (domEngine n) = true
  flows   : (s.leng e).stall = none
  fetched : s.fetch e = .word w
  decoded : insRow w = some row
  ready   : (regsNamed row w).any (fun i => (s.leng e).efPend.any (fun p => p.1 == i)) = false

/-- What a stalled instruction works on when it is taken up again. -/
def State.resume (s : State) (n e : Nat) : EngX :=
  ⟨s, n, e, { s.leng e with stall := none, pc := (s.leng e).pc + 1 }, 0, (s.leng e).pc, true⟩

/-- Physical engine `n`, which holds logical engine `e`, runs a cycle and is stalled in `st`. -/
structure Stalls (s : State) (n e : Nat) (st : Stall) : Prop where
  holds   : s.logicalOf n = some e
  running : s.inCycle n = true
  powered : s.domOn (domEngine n) = true
  stalled : (s.leng e).stall = some st

end Sys2Proof.Machine
end

