-- ==== Sys2Proof/Certificates/Slice0/Obligations.lean ====
section
/-!
DEFINITION. Sys2Proof/Certificates/Slice0/Obligations.lean: the statements about the device. A statement about a command gives the
whole next state, so that it says what stays as it was as well as what changes; its hypotheses are on the state and the operands
alone. Values that the spec leaves open are free values (Config) or operands of the command, whatever they are.
-/
open Sys2Proof Sys2Proof.Machine

/-- A step takes the command at the front of the queue and answers what it does to the device with the queue's rest; an empty
queue leaves the device as it is (log entry 2). -/
def Obligations.StepServesTheFrontCommand : Prop :=
  (∀ (c : Instr) (l : List Instr) (s : State), s.pending = c :: l → step s = exec c { s with pending := l }) ∧
  (∀ s : State, s.pending = [] → step s = .next s)

/-- Every command, in every state, is answered by a next state, and leaves the queue as it found it; a step removes exactly the
front command, so that commands are served first in, first out. -/
def Obligations.EveryCommandCompletes : Prop :=
  (∀ (c : Instr) (s : State), ∃ t, exec c s = .next t ∧ t.pending = s.pending) ∧
  (∀ s : State, ∃ t, step s = .next t ∧ t.pending = s.pending.tail)

/-- What the vault holds only grows (R254, R402): whatever step is taken, every key that it held is there with its value,
REQUIRE_ENC stays set and MIN_SVN does not fall; its stores keep their canonical form, their keys strictly rising. -/
def Obligations.VaultOnlyGains : Prop :=
  ∀ s t : State, step s = .next t → vaultKept s t ∧ (s.vaultWf = true → t.vaultWf = true)

/-- The register table keeps its canonical form: the keys rise and no entry equals its register's reset value. -/
def Obligations.RegistersStayCanonical : Prop :=
  ∀ s t : State, s.regsWf = true → step s = .next t → t.regsWf = true

/-- The device right after reset (R86, R239, R254 and the register tables): the queue is empty, every register has its reset
value, the tables are canonical, logical engine n is held by engine n and the lee engines hold none. -/
def Obligations.ResetState : Prop :=
  State.reset.pending = [] ∧ State.reset.regsWf = true ∧ State.reset.vaultWf = true ∧ State.reset.time = 0 ∧ State.reset.timeRuns = false ∧
  (∀ a, State.reset.getR a = regReset a) ∧ (∀ n : Fin 64, State.reset.logicalOf n = some n.val ∧ State.reset.engState n = 2) ∧
  (∀ n : Fin 68, 64 ≤ n.val → State.reset.logicalOf n = none ∧ State.reset.engState n = 6) ∧
  (∀ n : Fin 68, State.reset.getR (Reg.ENG_CTL n) = 4) ∧ (∀ i : Fin 48, State.reset.getR (Reg.SEC_MEM_SWEEP i) = 0x80000064) ∧
  State.reset.lead = 64 * 64 ∧ State.reset.ahead = 8 * unitsPerUs ∧
  (∀ n : Fin 68, State.reset.period n = 2000000)

/-- What a register operation writes is read back, and every other register keeps its value; the operations keep the table
canonical; an event ORs its bits into its cause register. -/
def Obligations.RegisterReadBack : Prop :=
  (∀ (s : State) (a : Nat) (w : Word), s.regsWf = true → (s.setR a w).getR a = w ∧ (s.setR a w).regsWf = true) ∧
  (∀ (s : State) (a b : Nat) (w : Word), b ≠ a → (s.setR a w).getR b = s.getR b) ∧
  (∀ (s : State) (a : Nat) (d : DWord), s.regsWf = true → (s.setD a d).getD a = d ∧ (s.setD a d).regsWf = true) ∧
  (∀ (s : State) (a hi lo v : Nat), s.regsWf = true → (s.setF a hi lo v).getR a = setFld (s.getR a) hi lo v) ∧
  (∀ (s : State) (lo len a : Nat), (lo ≤ a → a < lo + len → (s.resetRegs lo len).getR a = regReset a) ∧
    (a < lo ∨ lo + len ≤ a → (s.resetRegs lo len).getR a = s.getR a)) ∧
  (∀ (s : State) (a : Nat), s.regsWf = true → s.getR a ≠ 0xFFFFFFFF → ((s.incR a).getR a).toNat = (s.getR a).toNat + 1) ∧
  (∀ (s : State) (a : Nat), s.regsWf = true → s.getR a = 0xFFFFFFFF → (s.incR a).getR a = 0xFFFFFFFF)

/-- OVR_POL (R94): with OVR_POL 1 every CYCLE trigger that arrives while a cycle runs is discarded, increments LOST and sets
TRIG_OVR. -/
def Obligations.OverrunPolicyDiscards : Prop :=
  ∀ (e : Fin 64) (s u : State) (d : Delivered) (n : Nat), s.due? 1 e 0 = some d → s.physOf e = some n → s.domOn (domEngine n) = true →
    s.getB (Reg.ENG_CTL n) 0 = true → (s.leng e).mig = none → s.inCycle n = true → s.getB (Reg.ENG_CTL n) 3 = true →
    u = (s.taken d).incR (Reg.ENG_LOST n) →
    exec (.cycle e) s = .next ((u.setLeng e
      { u.leng e with lostNow := min ((u.leng e).lostNow + 1) (2 ^ 32 - 1) }).raise e 0x10)

/-- RUN_EN 0 (R96): a CYCLE trigger is neither run nor latched nor counted, SIGNAL triggers are still ORed into the flags, and
the moment RUN_EN is cleared drops a latched trigger: it starts no cycle, PEND_TRIG clears, and LOST does not count it. -/
def Obligations.RunEnableOff : Prop :=
  (∀ (e : Fin 64) (s : State) (d : Delivered) (n : Nat), s.due? 1 e 0 = some d → s.physOf e = some n → s.domOn (domEngine n) = true →
    s.getB (Reg.ENG_CTL n) 0 = false → exec (.cycle e) s = .next (s.taken d)) ∧
  (∀ (e : Fin 64) (s : State) (d : Delivered), s.due? 1 e 1 = some d → exec (.signal e) s =
    .next ((s.taken d).setLeng e ({ (s.taken d).leng e with
      core := { ((s.taken d).leng e).core with tflags := ((s.taken d).leng e).core.tflags ||| d.act.data },
      signals := ((s.taken d).leng e).signals ||| d.act.data } : LEng))) ∧
  (∀ (n : Fin 68) (s u : State) (e : Nat), s.getB (Reg.ENG_CTL n) 0 = true → s.logicalOf n = some e →
    u = (s.setB (Reg.ENG_CTL n) 0 false).setB (Reg.ENG_STAT n) 6 false →
    exec (.runEnClear n) s = .next (u.setLeng e { u.leng e with latched := none }) ∧
    (s.regsWf = true → u.getB (Reg.ENG_CTL n) 0 = false ∧ u.getB (Reg.ENG_STAT n) 6 = false ∧ u.getR (Reg.ENG_LOST n) = s.getR (Reg.ENG_LOST n)))

/-- The MEM_REPAIR commands that are ignored, with CMD_ERR and nothing else (R240): a MOVE while the spare is USED or FAULTY, a
RETURN of a role that the spare does not serve or to a retired home block, any command while COPYING is set, and CMD 3. -/
def Obligations.MemRepairRefusals : Prop :=
  ∀ (i : Fin 48) (w : Word) (s u : State) (spare retired : Nat), u = s.setB (Reg.SEC_MEM_STAT i) 0 true →
    spare = (if bitOf w 8 then Reg.SEC_SPARE_MUL i else Reg.SEC_SPARE_BRAM i) →
    retired = (if bitOf w 8 then Reg.SEC_MUL_RETIRED i else Reg.SEC_BRAM_RETIRED i) →
    (fld w 31 30 = 1 → (s.getB spare 31 = true ∨ s.getB spare 29 = true ∨ s.getB spare 30 = true) → exec (.memMove i w) s = .next u) ∧
    (fld w 31 30 = 2 → (s.getB spare 31 = false ∨ s.getF spare 4 0 ≠ fld w 4 0 ∨ s.getB retired (fld w 4 0) = true ∨ s.getB spare 30 = true) →
      exec (.memReturn i w) s = .next u) ∧
    (fld w 31 30 = 3 → exec (.registerWrite (BitVec.ofNat 32 (Reg.SEC_MEM_REPAIR i)) w) s = .next u)

/-- A tick advances device time by 160 units and dispatches, and lets the calendar insert four records again (R51, R55); the
fabric groups take their mailbox writes (R211). Without device time no time passes and nothing is dispatched (R296). A pass of
the dispatch ends with no more slots than it had, the entries that it leaves keep their order, and it leaves every entry that is
not its own: the Fronts' pass all others, the others' pass the Fronts' (R55, R56). A record enters the calendar before the first
entry due after it and behind those due at the same time: of two entries with one due time the one accepted first stays first
(R55). -/
def Obligations.TicksAndTheCalendar : Prop :=
  ((∀ s : State, s.timeRuns = true →
    exec .schedulerTick s = .next
      ({ s with time := s.time + 160, act := { s.act with inserted := 0 } } : State).dispatchTick.remoteReports.serveMails) ∧
  (∀ s : State, s.timeRuns = false →
    exec .schedulerTick s = .next ({ s with act := { s.act with inserted := 0 } } : State).serveMails)) ∧
  (∀ (front : Bool) (l : List CalEntry) (n : Nat) (s : State),
    (dispatch front l n s).2.1.Sublist l ∧ (dispatch front l n s).2.2 ≤ n ∧
    ((dispatch front l n s).2.1.filter (fun e => (e.act.kind == 6) != front)) = l.filter (fun e => (e.act.kind == 6) != front)) ∧
  (∀ (l : List CalEntry) (e : CalEntry),
    ∃ a b, l = a ++ b ∧ calInsert l e = a ++ e :: b ∧
      (∀ x ∈ a, before e.act.due x.act.due = false) ∧ (∀ x, b.head? = some x → before e.act.due x.act.due = true))

/-- A record at the head of the FIFO served next leaves it, and is checked and inserted or refused (R51, R52): before Thaw the
status is 9, a reserved kind is 3, a record that passes these checks and lies more than 2^62 units ahead is 8, and one beyond
the port's quota 2. A pre-wake request wakes its domain and holds it for the entry (R81, R82); a cancel removes exactly the
entries that match, counts them, and leaves the Front entries where they are (R63, R65). -/
def Obligations.PostsPrewakesAndCancels : Prop :=
  ((∀ (s : State) (p : Nat) (r : PortRec) (l : List PortRec), s.nextPort = some p → s.fifo p = r :: l →
    ∃ t u st, exec .postAccept s = .next t ∧
      st = ((s.setFifo p l).portServed p).postStatus p (decodeRec r.word) ∧
      u = (((if st = 0 then ((s.setFifo p l).portServed p).accept p (decodeRec r.word) r.owner
             else ((s.setFifo p l).portServed p).noteRefused p (decodeRec r.word) st).returnStatus r.owner st).postsDoneOf r.owner) ∧
      (64 ≤ p → p < 80 → t = u.servePosts (p - 64) u.fab.posts.length) ∧ (p = 80 → t = u.offerOn) ∧
      (¬ (64 ≤ p ∧ p ≤ 80) → t = u)) ∧
  (∀ s : State, (s.nextPort = none ∨ ∃ p, s.nextPort = some p ∧ s.fifo p = []) → exec .postAccept s = .next s) ∧
  (∀ (s : State) (p : Nat), (s.portServed p).act.inserted = s.act.inserted + 1 ∧
    (s.portServed p).act.rrPort = (if p = 83 then s.act.rrPort else p)) ∧
  (∀ (s : State) (p : Nat) (a : ActRec), s.thawed = false → s.postStatus p a = 9) ∧
  (∀ (s : State) (p : Nat) (a : ActRec), s.thawed = true → 9 ≤ a.kind → s.postStatus p a = 3) ∧
  (∀ (s : State) (p : Nat) (a : ActRec), s.thawed = true → recStatus p a = 0 → 2 ^ 62 < tdiff a.due s.time → s.postStatus p a = 8) ∧
  (∀ (s : State) (p : Nat) (a : ActRec), s.thawed = true → recStatus p a = 0 → tdiff a.due s.time ≤ 2 ^ 62 →
    s.quota p ≤ s.used p → s.postStatus p a = 2)) ∧
  ((∀ (s : State) (k d : Nat), s.firstPrewake = some (k, d) → exec .prewakeRequest s = .next (s.sendPrewake k d)) ∧
  (∀ (s : State) (w : Word), bitOf w 0 = false →
    exec (.actCancel (.reg w)) s = .next (s.setR Reg.ACT_CANCEL (w &&& 0xFFFFFFF8))) ∧
  (∀ (s : State) (w : Word), bitOf w 0 = true →
    exec (.actCancel (.reg w)) s = .next ((s.setR Reg.ACT_CANCEL (w &&& 0xFFFFFFF8)).hostCancel w).1) ∧
  (∀ (s : State) (c : CmdRef) (x : Command), s.turn c 2 1 = some x → exec (.actCancel (.cmd c)) s =
    .next ((s.hostCancel (BitVec.ofNat 32 (beNat x.payload))).1.replyTo x csOK true
      (beBytes 2 (s.hostCancel (BitVec.ofNat 32 (beNat x.payload))).2))) ∧
  (∀ (s : State) (w : Word), (s.hostCancel w).1.act.cal = s.act.cal.filter (fun e =>
      !cancelMatch (fld w 23 16) (fld w 31 24) (fld w 7 4) (fld w 14 8) (bitOf w 3) (bitOf w 15) e) ∧
    (s.hostCancel w).2 + (s.hostCancel w).1.act.cal.length = s.act.cal.length) ∧
  (∀ (tag mask kind port : Nat) (ka pa : Bool) (e : CalEntry), e.act.kind = 6 → cancelMatch tag mask kind port ka pa e = false))

/-- A launch cell at the instant of its next leading edge (R48, R59): the edge is placed, a level leaves the queue and a pulse
stays in it with the instant of its leading edge until its trailing edge; no other cell changes. Only an edge in or after the
tick of a committed Front waits for that Front (R84). The trailing edge of a pulse at its instant: the level goes back and the
entry is freed (R59). -/
def Obligations.LaunchCells : Prop :=
  (∀ (p : Fin 1152) (s : State) (e : LaunchEntry), (s.cell p).next = some e → s.reached e.due = true →
    s.afterFront e.due = false → (s.cell p).leadFirst e = true →
    (e.op = 0 → exec (.driveLow p) s =
      .next ((s.setCell p { queue := (s.cell p).queue.erase e, out := false, drive := true }).noteHold p)) ∧
    (e.op = 1 → exec (.driveHigh p) s =
      .next ((s.setCell p { queue := (s.cell p).queue.erase e, out := true, drive := true }).noteHold p)) ∧
    (e.op = 2 → exec (.toggle p) s =
      .next ((s.setCell p { queue := (s.cell p).queue.erase e, out := !(s.cell p).out, drive := true }).noteHold p)) ∧
    (e.op = 3 → exec (.release p) s =
      .next ((s.setCell p { queue := (s.cell p).queue.erase e, out := (s.cell p).out, drive := false }).noteHold p)) ∧
    (e.op = 4 → exec (.pulseHigh p) s =
      .next ((s.setCell p { queue := (s.cell p).queue.replace e { e with lead := some e.due }, out := true, drive := true }).noteHold p)) ∧
    (e.op = 5 → exec (.pulseLow p) s =
      .next ((s.setCell p { queue := (s.cell p).queue.replace e { e with lead := some e.due }, out := false, drive := true }).noteHold p))) ∧
  (∀ (p : Fin 1152) (s : State) (e : LaunchEntry) (t : DWord), firstTrail (s.cell p).queue = some e → e.trail = some t →
    s.reached t = true → s.afterFront t = false → (∀ x, (s.cell p).next = some x → before x.due t = false) →
    exec (.pulseTrailingEdge p) s =
      .next ((s.setCell p { queue := (s.cell p).queue.erase e, out := e.op == 5, drive := (s.cell p).drive }).noteHold p))

/-- A capture cell takes the action that waits for it at its instant (R48, R74): a count of edges, a window whose length counts
from its opening, or DISARM; the arming in force is replaced and the action leaves the delivered ones. An armed cell records the
edge it selects and counts it; one less than 2.5 ns after a recorded edge only marks the next record; a window without an edge
writes a MISS record at its close; CAP_READ removes the oldest records (R73–R77). The counters of kind 0x7 (R48): RAISE raises
EV123; ADD wraps; COUNT_DOWN stops at 0 and raises EV123 when it brings a counter from a non-zero value to 0; LOAD replaces. -/
def Obligations.CaptureCellsAndCounters : Prop :=
  (∀ (p : Fin 1152) (s : State) (d : Delivered),
    (s.due? 3 p 0 = some d → exec (.disarm p) s = .next ((s.taken d).setCap p { s.capCell p with arm := none })) ∧
    (s.due? 3 p 1 = some d → exec (.armRise p) s = .next ((s.taken d).setCap p { s.capCell p with arm := (some
      ⟨true, false, laterOf d.act.due d.at_, if fld d.act.data 7 0 = 0 then none else some (fld d.act.data 7 0), none,
       fld d.act.data 31 30, d.act.tag, d.late⟩) })) ∧
    (s.due? 3 p 2 = some d → exec (.armFall p) s = .next ((s.taken d).setCap p { s.capCell p with arm := (some
      ⟨false, true, laterOf d.act.due d.at_, if fld d.act.data 7 0 = 0 then none else some (fld d.act.data 7 0), none,
       fld d.act.data 31 30, d.act.tag, d.late⟩) })) ∧
    (s.due? 3 p 3 = some d → exec (.armBoth p) s = .next ((s.taken d).setCap p { s.capCell p with arm := (some
      ⟨true, true, laterOf d.act.due d.at_, if fld d.act.data 7 0 = 0 then none else some (fld d.act.data 7 0), none,
       fld d.act.data 31 30, d.act.tag, d.late⟩) })) ∧
    (s.due? 3 p 5 = some d → exec (.winRise p) s = .next ((s.taken d).setCap p { s.capCell p with arm := (some
      ⟨true, false, laterOf d.act.due d.at_, some 1, some (laterOf d.act.due d.at_ + units (64 * fld d.act.data 29 0)),
       fld d.act.data 31 30, d.act.tag, d.late⟩) })) ∧
    (s.due? 3 p 6 = some d → exec (.winFall p) s = .next ((s.taken d).setCap p { s.capCell p with arm := (some
      ⟨false, true, laterOf d.act.due d.at_, some 1, some (laterOf d.act.due d.at_ + units (64 * fld d.act.data 29 0)),
       fld d.act.data 31 30, d.act.tag, d.late⟩) })) ∧
    (s.due? 3 p 7 = some d → exec (.winBoth p) s = .next ((s.taken d).setCap p { s.capCell p with arm := (some
      ⟨true, true, laterOf d.act.due d.at_, some 1, some (laterOf d.act.due d.at_ + units (64 * fld d.act.data 29 0)),
       fld d.act.data 31 30, d.act.tag, d.late⟩) }))) ∧
  ((∀ (p : Fin 1152) (ed : Edge) (q : Fin 40) (s : State) (a : Arming), (s.capCell p).arm = some a →
    a.takes (ed == .rising) (s.time + units (4 * q.val)) = true →
    (∀ l, (s.capCell p).lastEdge = some l → 160 ≤ tdiff (s.time + units (4 * q.val)) l) →
    exec (.captureEdge p ed q) s = .next ((s.setCap p
      { arm := a.after, lastEdge := some (s.time + units (4 * q.val)), ovf := false }).ringWrite
        a.ring (s.time + units (4 * q.val)) 1 p (if ed = .rising then 1 else 2) (s.capCell p).ovf a.late a.tag)) ∧
  (∀ (p : Fin 1152) (ed : Edge) (q : Fin 40) (s : State) (a : Arming) (l : DWord), (s.capCell p).arm = some a →
    a.takes (ed == .rising) (s.time + units (4 * q.val)) = true → (s.capCell p).lastEdge = some l →
    tdiff (s.time + units (4 * q.val)) l < 160 →
    exec (.captureEdge p ed q) s = .next (s.setCap p { s.capCell p with ovf := true })) ∧
  (∀ (p : Fin 1152) (s : State) (a : Arming) (t : DWord), (s.capCell p).arm = some a → a.close = some t → s.reached t = true →
    exec (.windowClose p) s = .next ((s.setCap p { s.capCell p with arm := none, ovf := false }).ringWrite
      a.ring t 2 p 0 (s.capCell p).ovf a.late a.tag)) ∧
  (∀ (r : Nat) (s : State), exec (.capRead (.reg r)) s =
    .next (({ s with readData := s.ringWord (r % 4) 3 } : State).setRing (r % 4)
      { s.ring (r % 4) with recs := (s.ring (r % 4)).recs.tail })) ∧
  (∀ (c : CmdRef) (s : State) (x : Command), s.turn c 2 4 = some x → beAt x.payload 0 1 < 4 → 1 ≤ beAt x.payload 1 1 →
    beAt x.payload 1 1 ≤ 64 →
    exec (.capRead (.cmd c)) s = .next ((s.setRing (beAt x.payload 0 1) { s.ring (beAt x.payload 0 1) with
        recs := (s.ring (beAt x.payload 0 1)).recs.drop (beAt x.payload 1 1) }).replyTo x csOK true
      (((s.ring (beAt x.payload 0 1)).recs.take (beAt x.payload 1 1)).flatMap (fun q => beBytes 16 q.toNat))))) ∧
  (∀ (n : Fin 16) (s : State) (d : Delivered),
    (s.due? 7 n 0 = some d → exec (.raise n) s =
      .next (((s.taken d).setR (Reg.ACT_CNT n) (s.getR (Reg.ACT_CNT n))).raise 123 (2 ^ n.val))) ∧
    (s.due? 7 n 1 = some d → exec (.add n) s =
      .next ((s.taken d).setR (Reg.ACT_CNT n) (s.getR (Reg.ACT_CNT n) + d.act.data))) ∧
    (s.due? 7 n 2 = some d → (s.getR (Reg.ACT_CNT n)).toNat ≤ d.act.data.toNat → s.getR (Reg.ACT_CNT n) ≠ 0 →
      exec (.countDown n) s = .next (((s.taken d).setR (Reg.ACT_CNT n) 0).raise 123 (2 ^ n.val))) ∧
    (s.due? 7 n 2 = some d → d.act.data.toNat < (s.getR (Reg.ACT_CNT n)).toNat →
      exec (.countDown n) s = .next ((s.taken d).setR (Reg.ACT_CNT n) (s.getR (Reg.ACT_CNT n) - d.act.data))) ∧
    (s.due? 7 n 3 = some d → exec (.load n) s = .next ((s.taken d).setR (Reg.ACT_CNT n) d.act.data)))

/-- START (R68), by register, by command or by action, with T its commanded time (for an action its DUE, however late it came):
a table that does not run and has a valid admin copy takes the copy, BASE, and runs; a running one sets CMD_ERR, and an invalid
copy ENTRY_ERR with EV120, and neither changes anything else. STOP and SWAP (R68, R70–R72): a STOP ends a running table at the
first boundary at or after its time and withdraws what is due from it; a SWAP takes the first boundary at or after the later of
its time and 2 us from the request. The boundary of a stop ends the run; the boundary of a swap makes the admin copy operational
and raises EV119; between boundaries BASE advances by the period and PERIODS counts it (R68, R70). An entry is posted on port
81, when that port is served, once it is within AHEAD of its DUE, and skipped where it was due before the START's request (R68,
R69); held admin writes are applied when the copy-back completes (R71); CT_WRITE writes whole entries of the admin copy (R66).
-/
def Obligations.CycleTables : Prop :=
  ((∀ (s : State) (t : Nat) (T : DWord), s.tblRuns t = true → s.ctStart t T = s.setB (Reg.ACT_CT_STAT t) 4 true) ∧
  (∀ (s : State) (t : Nat) (T : DWord), s.tblRuns t = false → s.admValid t = false →
    s.ctStart t T = (s.setB (Reg.ACT_CT_STAT t) 3 true).raise 120 (2 ^ t)) ∧
  (∀ (s : State) (t : Fin 16), s.tblRuns t = false → s.admValid t = true →
    exec (.ctStart (.reg t)) s = .next
      (((((s.copyAdm t).setD (Reg.ACT_CT_BASE t) (s.getD (Reg.ACT_CT_CMD_TIME t))).setR (Reg.ACT_CT_PERIODS t) 0).setF
        (Reg.ACT_CT_STAT t) 2 0 1).setTbl t
          { s.tbl t with
            cursorBase := s.getD (Reg.ACT_CT_CMD_TIME t), cursorIdx := 0,
            skipBefore := laterOf (s.getD (Reg.ACT_CT_CMD_TIME t)) s.time, swapAt := none, stopAt := none })) ∧
  (∀ (s : State) (t : Fin 16) (d : Delivered), s.due? 5 t 0 = some d →
    exec (.ctStart (.action t)) s = .next ((s.taken d).ctStart t d.act.due)) ∧
  (∀ (s : State) (c : CmdRef) (x : Command), s.turn c 2 2 = some x → beAt x.payload 1 1 = 0 → beAt x.payload 0 1 < 16 →
    exec (.ctStart (.cmd c)) s = .next ((s.ctStart (beAt x.payload 0 1) (BitVec.ofNat 64 (beAt x.payload 2 8))).replyTo x csOK true []))) ∧
  ((∀ (s : State) (t : Fin 16) (b : DWord), s.tblRuns t = true → (s.tbl t).swapAt = none →
    b = boundaryAt (s.getD (Reg.ACT_CT_BASE t)) (s.getD (Reg.ACT_CT_CMD_TIME t)) (s.opPeriod t) →
    exec (.ctStop (.reg t)) s = .next
      (((s.withdrawFrom t b).setTbl t { (s.tbl t).rewind b with stopAt := some b }).setB (Reg.ACT_CT_STAT t) 1 true)) ∧
  (∀ (s : State) (t : Fin 16) (b : DWord), s.tblRuns t = true → (s.tbl t).stopAt = none → (s.tbl t).swapAt = none →
    s.admValid t = true →
    b = boundaryAt (s.getD (Reg.ACT_CT_BASE t)) (laterOf (s.getD (Reg.ACT_CT_CMD_TIME t)) (s.time + 128000)) (s.opPeriod t) →
    exec (.ctSwap (.reg t)) s = .next
      ((((s.withdraw (ofAdmin t)).withdrawFrom t b).setTbl t { (s.tbl t).rewind b with swapAt := some b }).setB
        (Reg.ACT_CT_STAT t) 2 true)) ∧
  (∀ (s : State) (t : Nat) (T : DWord), s.tblRuns t = false →
    s.ctStop t T = s.setB (Reg.ACT_CT_STAT t) 4 true ∧ s.ctSwap t T = s.setB (Reg.ACT_CT_STAT t) 4 true) ∧
  (∀ (base t : DWord) (p : Nat), tdiff t base ≤ 0 → boundaryAt base t p = base)) ∧
  ((∀ (t : Fin 16) (s : State) (b : DWord), (s.tbl t).stopAt = some b → (s.tbl t).swapAt = none → s.reached b = true →
    exec (.ctStopBoundary t) s = .next (((s.addF (Reg.ACT_CT_PERIODS t) 31 0 (s.periodsTo t b)).setF (Reg.ACT_CT_STAT t) 2 0 0).setTbl t
      { s.tbl t with stopAt := none })) ∧
  (∀ (t : Fin 16) (s s1 s2 : State) (b : DWord), (s.tbl t).swapAt = some b → s.reached b = true →
    s1 = ((s.addF (Reg.ACT_CT_PERIODS t) 31 0 (s.periodsTo t b)).copyAdm t).setD (Reg.ACT_CT_BASE t) b →
    s2 = { s1 with act := { s1.act with cal := s1.act.cal.map (fun e => if ofAdmin t e then { e with owner := .table t.val false } else e) } } →
    exec (.ctSwapBoundary t) s = .next (((s2.setB (Reg.ACT_CT_STAT t) 2 false).setTbl t
      { (if atOrAfter (s.tbl t).cursorBase b then s.tbl t else { s.tbl t with cursorBase := b, cursorIdx := 0 } : CycTable) with
        swapAt := none, copyBack := true }).raise 119 (2 ^ t.val))) ∧
  (∀ (t : Fin 16) (s : State), s.tblRuns t = true → s.reached (s.getD (Reg.ACT_CT_BASE t) + units (s.opPeriod t)) = true →
    (s.tbl t).stopAt ≠ some (s.getD (Reg.ACT_CT_BASE t) + units (s.opPeriod t)) →
    (s.tbl t).swapAt ≠ some (s.getD (Reg.ACT_CT_BASE t) + units (s.opPeriod t)) →
    exec (.ctPeriodBoundary t) s = .next ((s.setD (Reg.ACT_CT_BASE t) (s.getD (Reg.ACT_CT_BASE t) + units (s.opPeriod t))).incR
      (Reg.ACT_CT_PERIODS t)))) ∧
  ((∀ (t : Fin 16) (s : State) (w : QWord) (adm : Bool) (x : CycTable), s.tblRuns t = true → s.tblNext t = some (w, adm, x) →
    (∀ b, x.stopAt = some b → atOrAfter (decodeRec w).due b = false) → tdiff (decodeRec w).due s.time ≤ (s.ahead : Nat) →
    (before (decodeRec w).due x.skipBefore = true → exec (.ctEntryPost t) s = .next (s.setTbl t x)) ∧
    (before (decodeRec w).due x.skipBefore = false → s.nextPort = some 81 →
      exec (.ctEntryPost t) s = .next (((s.portServed 81).setTbl t x).takeRecord 81 ⟨w, .table t.val adm⟩).1) ∧
    (before (decodeRec w).due x.skipBefore = false → s.nextPort ≠ some 81 → exec (.ctEntryPost t) s = .next s)) ∧
  (∀ (t : Fin 16) (s : State), (s.tbl t).copyBack = true →
    exec (.ctCopybackDone t) s = .next ((s.tbl t).held.foldl (fun s p => s.setR p.1 p.2) (s.setTbl t { s.tbl t with copyBack := false, held := [] }))) ∧
  (∀ (c : CmdRef) (s : State) (x : Command), s.turn c 2 3 = some x → beAt x.payload 0 1 < 16 →
    beAt x.payload 1 2 + (x.payload.length - 3) / 16 ≤ 256 →
    (∀ i, i < (x.payload.length - 3) / 16 → beAt x.payload (3 + 16 * i) 3 = 0) →
    exec (.ctWrite c) s = .next ((writeEntries (beAt x.payload 0 1) ((x.payload.length - 3) / 16) (beAt x.payload 1 2)
      (x.payload.drop 3) s).replyTo x csOK true [])) ∧
  (∀ (s : State) (t a : Nat) (w : Word),
    ((s.tbl t).swapAt = none → (s.tbl t).copyBack = false → s.writeAdm t a w = s.setR a w) ∧
    ((s.tbl t).swapAt = none → (s.tbl t).copyBack = true → s.writeAdm t a w = s.setTbl t { s.tbl t with held := (s.tbl t).held ++ [(a, w)] }) ∧
    ((s.tbl t).swapAt.isSome = true → s.writeAdm t a w = s.setB (Reg.ACT_CT_STAT t) 4 true)))

/-- A loss of lock raises EV128 + n with its cause and starts a new lock sequence (R42), a failed resonator does so for every
ADPLL that it references, none of which is then a sibling backup for another (R29, R43). The end of a lock sequence, not before
the time that it takes at the least (R32, R34, R43): STATE is locked, the control word latched at its start is the one applied,
gated outputs and those that RETURN run from their own DCO again, and EV136 + n is raised; an FCW written meanwhile is then
taken. The band found is a free value. The end of a slew (R38), which notes the clamp (R41). -/
def Obligations.LocksAndLosses : Prop :=
  ((∀ (n : Fin 8) (why : Fin 2) (s : State), s.locked n = true → exec (.lossOfLock n why) s = .next (s.loseLock n why)) ∧
  (∀ (r : Fin 2) (s : State), s.getB Reg.CLK_RES_STAT r = false → exec (.resFail r) s =
    .next (((s.setB Reg.CLK_RES_STAT r true).refLocked r).foldl (fun s n => s.loseLock n 2)
      (((s.setB Reg.CLK_RES_STAT r true).refLocked r).foldl
        (fun s n => (s.anchorDelays n s.time).setB (Reg.CLK_ADPLL_STAT n) 0 false) (s.setB Reg.CLK_RES_STAT r true)))) ∧
  (∀ (s : State) (r n : Nat), n ∈ s.refLocked r ↔ n < 8 ∧ s.locked n = true ∧ s.refOf n = r) ∧
  (∀ (s u : State) (n why : Nat), 2 ≤ n →
    u = ((((s.anchorDelays n s.time).raise (128 + n) (2 ^ why)).setB (Reg.CLK_ADPLL_STAT n) 0 false).addF (Reg.CLK_ADPLL_STAT n) 31 16 1).countLol n →
    s.loseLock n why = ((u.leaveDco n (fun m => u.backupOf n m)).setB (Reg.CLK_ADPLL_STAT n) 3 false).startLock n)) ∧
  ((∀ (n : Fin 8) (s : State) (v : DWord), 2 ≤ n.val → (s.pll n).latched = some v → s.refAlive n = true → s.lockReady n = true →
    ∃ s1 s2 s3, exec (.lockComplete n) s = .next (if (s.pll n).laterFcw then s3.retune n (s.getD (Reg.CLK_ADPLL_FCW n)) v else s3) ∧
      (∃ s4, s4 = ((((List.range 6).filter (fun m =>
        s2.outSrc n m == .gated || (s2.outSrc n m != .own && s2.getB (Reg.CLK_ADPLL_OUT_BKP n m) 8))).foldl
          (fun s m => s.setOutSrc n m .own) s2)).raise (136 + n) 1 ∧ s3 = (s4.anchorDelays n s4.time).noteClamp n) ∧
      s1 = ((((s.fresh.1.setF (Reg.CLK_ADPLL_STAT n) 13 8 s.fresh.2.toNat).setF (Reg.CLK_ADPLL_STAT n) 2 1 3).setB (Reg.CLK_ADPLL_STAT n) 0 true).setD
        (Reg.CLK_ADPLL_LOCK_FCW n) v) ∧
      s2 = (s1.setD (Reg.CLK_ADPLL_FCW_ACT n) v).setPll n { s1.pll n with latched := none, laterFcw := false }) ∧
  (∀ (n : Fin 8) (s : State), ((s.pll n).latched = none ∨ s.refAlive n = false ∨ s.lockReady n = false) →
    exec (.lockComplete n) s = .next s) ∧
  (∀ (n : Nat) (s : State), s.timeRuns = true → atOrAfter s.time ((s.pll n).since +
    units (13280 * 64 + s.getF (Reg.CLK_ADPLL_LOCK_CFG n) 23 16 * 64000)) = false → s.lockReady n = false) ∧
  (∀ (n : Fin 8) (s : State), s.getB (Reg.CLK_ADPLL_STAT n) 3 = true → s.fcwAct n = s.fcw (Reg.CLK_ADPLL_FCW n) →
    exec (.slewDone n) s = .next
      (((s.setD (Reg.CLK_ADPLL_FCW_ACT n) (s.getD (Reg.CLK_ADPLL_FCW n))).setB (Reg.CLK_ADPLL_STAT n) 3 false).noteClamp n)) ∧
  (∀ (n : Nat) (s : State), s.noteClamp n = if s.clamps n then s.setB (Reg.CLK_ADPLL_STAT n) 4 true else s))

/-- A new FCW (R30, R34, R38, R39, R41): refused outside 80 to 160 in units of 2^32 (CFG_ERR of STAT bit 5); kept for later
during a lock sequence; within 0.2 % of the lock value of a locked ADPLL slewed from the word applied now, beyond it a new lock
sequence where CTL.11 allows, else CFG_ERR; above a ceiling or below the floor CEIL_ERR; the time-base pair ignores it (R20).
ADPLL[n].CTL (R20, R32): EN rising starts the lock sequence, EN falling gates every output and stops the DCO, RELOCK starts the
sequence again; the time-base pair ignores the write. -/
def Obligations.FcwAndAdpllControl : Prop :=
  ((∀ (n : Fin 8) (v : DWord) (s : State), n.val < 2 → exec (.fcwWrite n v) s = .next s) ∧
  (∀ (n : Fin 8) (v : DWord) (s : State), 2 ≤ n.val → (v.toNat % 2 ^ 40 < 80 * 2 ^ 32 ∨ 160 * 2 ^ 32 < v.toNat % 2 ^ 40) →
    exec (.fcwWrite n v) s = .next (s.setB (Reg.CLK_ADPLL_STAT n) 5 true)) ∧
  (∀ (n : Fin 8) (v : DWord) (s : State), 2 ≤ n.val → 80 * 2 ^ 32 ≤ v.toNat % 2 ^ 40 → v.toNat % 2 ^ 40 ≤ 160 * 2 ^ 32 →
    (s.pll n).latched.isSome = true →
    exec (.fcwWrite n v) s = .next ((s.setD (Reg.CLK_ADPLL_FCW n) (BitVec.ofNat 64 (v.toNat % 2 ^ 40))).setPll n
      { s.pll n with laterFcw := true })) ∧
  (∀ (n : Fin 8) (v : DWord) (s : State), 2 ≤ n.val → 80 * 2 ^ 32 ≤ v.toNat % 2 ^ 40 → v.toNat % 2 ^ 40 ≤ 160 * 2 ^ 32 →
    (s.pll n).latched = none → s.locked n = false → s.aboveCeil n (v.toNat % 2 ^ 40) = false → s.belowFloor n (v.toNat % 2 ^ 40) = false →
    exec (.fcwWrite n v) s = .next (s.setD (Reg.CLK_ADPLL_FCW n) (BitVec.ofNat 64 (v.toNat % 2 ^ 40)))) ∧
  (∀ (n : Fin 8) (v w : DWord) (s : State) (l : Nat), 2 ≤ n.val → w = BitVec.ofNat 64 (v.toNat % 2 ^ 40) → 80 * 2 ^ 32 ≤ w.toNat →
    w.toNat ≤ 160 * 2 ^ 32 → (s.pll n).latched = none → s.locked n = true → l = s.fcw (Reg.CLK_ADPLL_LOCK_FCW n) →
    ((w.toNat - l + (l - w.toNat)) * 1000000 ≤ 2000 * l → s.aboveCeil n w.toNat = false → s.belowFloor n w.toNat = false → ∃ u,
      u = (s.noteClamp n).anchorDelays n s.time ∧
      exec (.fcwWrite n v) s = .next ((((u.setPll n { u.pll n with slewFrom := BitVec.ofNat 64 (s.fcwAct n), slewAt := u.time }).setD
        (Reg.CLK_ADPLL_FCW n) w).setD (Reg.CLK_ADPLL_FCW_ACT n) (BitVec.ofNat 64 (s.fcwAct n))).setB (Reg.CLK_ADPLL_STAT n) 3
          (decide (s.fcwAct n ≠ w.toNat)))) ∧
    (2000 * l < (w.toNat - l + (l - w.toNat)) * 1000000 → s.getB (Reg.CLK_ADPLL_CTL n) 11 = true → s.aboveCeil n w.toNat = false →
      s.belowFloor n w.toNat = false → exec (.fcwWrite n v) s = .next ((s.setD (Reg.CLK_ADPLL_FCW n) w).startLock n)) ∧
    (2000 * l < (w.toNat - l + (l - w.toNat)) * 1000000 → s.getB (Reg.CLK_ADPLL_CTL n) 11 = false →
      exec (.fcwWrite n v) s = .next ((s.setD (Reg.CLK_ADPLL_FCW n) (s.getD (Reg.CLK_ADPLL_FCW n))).setB (Reg.CLK_ADPLL_STAT n) 5 true)) ∧
    ((w.toNat - l + (l - w.toNat)) * 1000000 ≤ 2000 * l → (s.aboveCeil n w.toNat = true ∨ s.belowFloor n w.toNat = true) →
      exec (.fcwWrite n v) s = .next ((s.setD (Reg.CLK_ADPLL_FCW n) (s.getD (Reg.CLK_ADPLL_FCW n))).setB (Reg.CLK_ADPLL_STAT n) 6 true)))) ∧
  ((∀ (n : Fin 8) (w : Word) (s : State), n.val < 2 → exec (.adpllEnable n w) s = .next s ∧ exec (.relock n) s = .next s) ∧
  (∀ (n : Fin 8) (w : Word) (s : State), 2 ≤ n.val → s.getB (Reg.CLK_ADPLL_CTL n) 0 = false →
    (s.store (Reg.CLK_ADPLL_CTL n) w).getB (Reg.CLK_ADPLL_CTL n) 0 = true →
    exec (.adpllEnable n w) s = .next ((s.store (Reg.CLK_ADPLL_CTL n) w).startLock n)) ∧
  (∀ (n : Fin 8) (s : State), 2 ≤ n.val →
    (s.store (Reg.CLK_ADPLL_CTL n) (s.getR (Reg.CLK_ADPLL_CTL n) ||| 0x1000)).getB (Reg.CLK_ADPLL_CTL n) 0 = true →
    exec (.relock n) s = .next ((s.store (Reg.CLK_ADPLL_CTL n) (s.getR (Reg.CLK_ADPLL_CTL n) ||| 0x1000)).startLock n)) ∧
  (∀ (n : Fin 8) (s : State), 2 ≤ n.val → s.getB (Reg.CLK_ADPLL_CTL n) 0 = false →
    (s.store (Reg.CLK_ADPLL_CTL n) (s.getR (Reg.CLK_ADPLL_CTL n) ||| 0x1000)).getB (Reg.CLK_ADPLL_CTL n) 0 = false →
    exec (.relock n) s = .next (s.store (Reg.CLK_ADPLL_CTL n) (s.getR (Reg.CLK_ADPLL_CTL n) ||| 0x1000))) ∧
  (∀ (n : Fin 8) (w : Word) (s : State), 2 ≤ n.val →
    (s.store (Reg.CLK_ADPLL_CTL n) w).getB (Reg.CLK_ADPLL_CTL n) 0 = s.getB (Reg.CLK_ADPLL_CTL n) 0 →
    exec (.adpllEnable n w) s = .next (if s.getB (Reg.CLK_ADPLL_CTL n) 0 && bitOf w 12 then (s.store (Reg.CLK_ADPLL_CTL n) w).startLock n
      else s.store (Reg.CLK_ADPLL_CTL n) w)) ∧
  (∀ (n : Fin 8) (w : Word) (s : State), 2 ≤ n.val → s.getB (Reg.CLK_ADPLL_CTL n) 0 = true →
    (s.store (Reg.CLK_ADPLL_CTL n) w).getB (Reg.CLK_ADPLL_CTL n) 0 = false → ∃ u,
    u = (List.range 6).foldl (fun s m => s.setOutSrc n m .gated)
      ((s.store (Reg.CLK_ADPLL_CTL n) w).anchorDelays n (s.store (Reg.CLK_ADPLL_CTL n) w).time) ∧
    exec (.adpllEnable n w) s = .next ((((u.setPll n { u.pll n with latched := none, laterFcw := false }).setF (Reg.CLK_ADPLL_STAT n) 2 1 0).setB
      (Reg.CLK_ADPLL_STAT n) 0 false).setB (Reg.CLK_ADPLL_STAT n) 3 false)))

/-- Clock outputs and trees (R20, R35–R37, R44): OUT[5] of the time-base pair takes DIV and EN in both members and nothing else
of the pair is written; a new DIV of an enabled user output is refused with CFG_ERR; a disabled one takes a legal DIV and a
legal PHASE, runs and wakes its ADPLL; a tree takes the source written. -/
def Obligations.ClockOutputs : Prop :=
  (∀ (n : Fin 8) (m : Fin 6) (w : Word) (s : State), n.val < 2 → ¬ (n.val = 0 ∧ m.val = 5) → exec (.outputCtlWrite n m w) s = .next s) ∧
  (∀ (w : Word) (s : State), 10 ≤ fld w 11 0 → fld w 11 0 ≤ 1536 → exec (.outputCtlWrite 0 5 w) s =
    .next ((((s.setB (Reg.CLK_ADPLL_OUT_CTL 0 5) 31 (bitOf w 31)).setF (Reg.CLK_ADPLL_OUT_CTL 0 5) 11 0 (fld w 11 0)).setB
      (Reg.CLK_ADPLL_OUT_CTL 1 5) 31 (bitOf w 31)).setF (Reg.CLK_ADPLL_OUT_CTL 1 5) 11 0 (fld w 11 0)).noteClamps) ∧
  (∀ (w : Word) (s : State), (fld w 11 0 < 10 ∨ 1536 < fld w 11 0) → exec (.outputCtlWrite 0 5 w) s =
    .next (((s.setB (Reg.CLK_ADPLL_STAT 0) 7 true).setB (Reg.CLK_ADPLL_OUT_CTL 0 5) 31 (bitOf w 31)).setB
      (Reg.CLK_ADPLL_OUT_CTL 1 5) 31 (bitOf w 31)).noteClamps) ∧
  (∀ (n : Fin 8) (m : Fin 6) (w : Word) (s : State), 2 ≤ n.val → bitOf (s.getR (Reg.CLK_ADPLL_OUT_CTL n m)) 31 = true → bitOf w 31 = true →
    fld w 11 0 ≠ fld (s.getR (Reg.CLK_ADPLL_OUT_CTL n m)) 11 0 → ∃ v : Word,
    v = setBitOf (setBitOf (setFld (setFld (setFld (s.getR (Reg.CLK_ADPLL_OUT_CTL n m)) 11 0 (fld (s.getR (Reg.CLK_ADPLL_OUT_CTL n m)) 11 0))
      28 18 (fld (s.getR (Reg.CLK_ADPLL_OUT_CTL n m)) 28 18)) 17 12 (fld w 17 12)) 30 (bitOf w 30)) 31 true ∧
    exec (.outputCtlWrite n m w) s = .next (((if fld w 17 12 = fld (s.getR (Reg.CLK_ADPLL_OUT_CTL n m)) 17 12 then
        s.setB (Reg.CLK_ADPLL_STAT n) 7 true
      else (s.setB (Reg.CLK_ADPLL_STAT n) 7 true).anchorDelay n m (s.setB (Reg.CLK_ADPLL_STAT n) 7 true).time).setR
        (Reg.CLK_ADPLL_OUT_CTL n m) v).noteClamp n)) ∧
  (∀ (n : Fin 8) (m : Fin 6) (w old v : Word) (s : State), 2 ≤ n.val → old = s.getR (Reg.CLK_ADPLL_OUT_CTL n m) → bitOf old 31 = false →
    bitOf w 31 = true → (fld w 11 0 = fld old 11 0 ∨ s.divOk n (divOf w) = true) →
    fld w 28 18 < divOf (setFld old 11 0 (fld w 11 0)) →
    v = setBitOf (setBitOf (setFld (setFld (setFld old 11 0 (fld w 11 0)) 28 18 (fld w 28 18)) 17 12 (fld w 17 12)) 30 (bitOf w 30)) 31 true →
    ∃ u, u = (s.setR (Reg.CLK_ADPLL_OUT_CTL n m) v).setPll n { s.pll n with fdly := (s.pll n).fdly.filter (fun p => p.1 != m.val) } ∧
    exec (.outputCtlWrite n m w) s = .next (((u.setOutSrc n m (if u.locked n then .own else .gated)).wake (domPll n) 10).noteClamp n)) ∧
  (∀ (k : Fin 32) (w : Word) (s : State), exec (.gclkSrcWrite k w) s = .next (s.store (Reg.CLK_GCLK k) w).noteClamps)

/-- A step of device time (R26–R28): GO or the command asks for it, and the next tick adds the offset, counts it in COUNT,
raises EV124 and sends the new time downstream; while a Front is armed or the pair is DEGRADED it is refused, and time goes on
unchanged. A write of CLK_TB_CTL that leaves MODE 0 and changes neither MODE nor SL_MASTER is only stored (R22); holdover begins
with its bit set, the sync bit of CLK_TB_STAT cleared and EV125 (R25). -/
def Obligations.StepsOfDeviceTime : Prop :=
  ((∀ (w : Word) (s : State), bitOf w 0 = true → ∃ u, u = s.store Reg.CLK_TB_STEP_CTL w ∧
    exec (.timeStep (.reg w)) s = .next (u.askStep (u.getD Reg.CLK_TB_STEP) none)) ∧
  (∀ (c : CmdRef) (x : Command) (s : State), s.turn c 2 5 = some x → exec (.timeStep (.cmd c)) s =
    .next ((s.askStep (BitVec.ofNat 64 (beNat x.payload)) (some c)).awaitReply x)) ∧
  (∀ (s : State) (d : DWord) (c : Option CmdRef), (∀ e x, s.clk.step ≠ some (e, some x)) →
    s.askStep d c = { s with clk := { s.clk with step := some (d, c) } }) ∧
  (∀ (s u : State) (d e : DWord) (x : CmdRef) (c : Option CmdRef), s.clk.step = some (e, some x) → u = s.finish x csBUSY [] →
    s.askStep d c = { u with clk := { u.clk with step := some (d, c) } }) ∧
  (∀ (s : State) (d : DWord), s.clk.step = some (d, none) → s.timeRuns = true → s.frontArmed = false → s.degraded = false →
    ∃ u, u = ({ s with clk := { s.clk with step := none } } : State) ∧
    exec .timeStepApply s = .next (((({ u.anchored (s.time + d) with time := s.time + d } : State).addF Reg.CLK_TB_STEP_CTL 31 16 1).raise 124 1).sendTime 1)) ∧
  (∀ (s : State) (d : DWord), s.clk.step = some (d, none) → s.timeRuns = true → (s.frontArmed = true ∨ s.degraded = true) →
    exec .timeStepApply s = .next (({ s with clk := { s.clk with step := none } } : State).setB Reg.CLK_TB_STEP_CTL 1 true))) ∧
  ((∀ (w : Word) (s : State), exec (.clkTbCtlWrite w) s = .next (s.writeTbCtl w)) ∧
  (∀ (w : Word) (s : State), (s.store Reg.CLK_TB_CTL w).isMaster = bitOf (s.getR Reg.CLK_TB_CTL) 4 →
    (s.store Reg.CLK_TB_CTL w).tbMode = fld (s.getR Reg.CLK_TB_CTL) 1 0 → (s.store Reg.CLK_TB_CTL w).tbMode = 0 →
    exec (.clkTbCtlWrite w) s = .next (s.store Reg.CLK_TB_CTL w)) ∧
  (∀ s : State, s.getB Reg.CLK_TB_STAT 3 = false →
    s.enterHoldover = ((s.setB Reg.CLK_TB_STAT 3 true).setB Reg.CLK_TB_STAT 2 false).raise 125 1))

/-- A decision grants nothing while the resource cannot take a beat, gives the beat to the owner of the lock in force, and one
beat only: arbiter `r` is then busy with it (R411, R414, R419). The end of a beat (R411, R413): a frame is answered with its
status; a parameter read gives its last block; what is withheld from completion keeps the resource busy. An expired backoff lets
its requester try again, a lock without a beat for its gap ends with EV233, a write of another MODE is refused with its bit of
ARB_ERR, and waits beyond WAIT_WARN raise EV235 once each (R416, R421, R423, R424). -/
def Obligations.Arbiters : Prop :=
  ((∀ (r : Fin 5) (s : State) (l : ArbLock) (x : ArbReq), s.underTest 5 r = false → s.canGrant r = true →
    (s.arbiter r).locks.find? (fun l => l.inForce) = some l → s.headOf r l.q = some x → x.sector = l.sector →
    exec (.grantDecision r) s = .next ((((s.setArb r { s.arbiter r with count := (s.arbiter r).count + 1 }).grant r x)).setArb r
      { ((s.setArb r { s.arbiter r with count := (s.arbiter r).count + 1 }).grant r x).arbiter r with
        cycle := max (((s.setArb r { s.arbiter r with count := (s.arbiter r).count + 1 }).grant r x).arbiter r).cycle (s.arbNow r + 1) })) ∧
  (∀ (r : Fin 5) (s : State), (s.underTest 5 r = false ∨ (s.arbiter r).reqs = []) → s.canGrant r = false →
    exec (.grantDecision r) s = .next s) ∧
  (∀ (r : Fin 5) (s : State), s.underTest 5 r = true → (s.arbiter r).reqs ≠ [] → exec (.grantDecision r) s = .next (s.abortIdle 5 r)) ∧
  (∀ (r : Nat) (s : State) (x : ArbReq), r ≠ 0 → ((s.grant r x).arbiter r).busy = some x ∧ ((s.grant r x).arbiter r).reqs = (s.arbiter r).reqs.erase x)) ∧
  ((∀ (r : Fin 5) (ecc : List Ecc) (s : State), (s.arbiter r).busy = none → exec (.beatComplete r ecc) s = .next s) ∧
  (∀ (r : Fin 5) (ecc : List Ecc) (s : State) (q : ArbReq), (s.arbiter r).busy = some q → q.op = 3 → q.beats ≤ 1 →
    exec (.beatComplete r ecc) s = .next (s.endRequest 3 q 0 0x8000 (q.got ++ s.prmRead q.block.1 (q.block.2 - q.block.1)))) ∧
  (∀ (r : Fin 5) (ecc : List Ecc) (s : State) (q : ArbReq), (s.arbiter r).busy = some q → q.op = 3 → 2 ≤ q.beats →
    exec (.beatComplete r ecc) s = .next (s.nextBeat 3 q (q.got ++ s.prmRead q.block.1 (q.block.2 - q.block.1)))) ∧
  (∀ (r : Fin 5) (ecc : List Ecc) (s : State) (q : ArbReq), (s.arbiter r).busy = some q → q.op = 4 → q.beats ≤ 1 → ∃ u,
    u = s.prmWrite q.block.1 (sliceB q.data (q.block.1 - q.addr) (q.block.2 - q.block.1)) ∧
    exec (.beatComplete r ecc) s = .next (u.endRequest 3 q 0 0x8000 []))) ∧
  ((∀ (r : Fin 5) (q : Fin 83) (s : State), exec (.backoffExpiry r q) s = .next (s.setArb r { s.arbiter r with
    backoff := (s.arbiter r).backoff.map (fun b => if b.1 = q.val ∧ b.2.2 ≤ s.arbNow r then (b.1, b.2.1, 0) else b) })) ∧
  (∀ (r : Fin 5) (s : State) (l : ArbLock), (s.arbiter r).locks.find? (fun l => l.inForce) = some l → (s.arbiter r).mode = 0 →
    (s.arbiter r).busy = none → (s.arbiter r).reqs.any (fun x => x.q == l.q && x.sector == l.sector) = false →
    l.last + s.lockGap r ≤ s.arbNow r →
    exec (.lockGapExpiry r) s = .next ((s.setArb r { s.arbiter r with locks := (s.arbiter r).locks.erase l }).raise 233 (2 ^ r.val))) ∧
  (∀ (r : Fin 5) (w : Word) (s : State), fld w 31 30 ≠ s.getF (Reg.ARB_R_CTL r) 31 30 → exec (.arbModeWrite r w) s =
    .next ((s.setB Reg.ARB_ERR 23 true).store (Reg.ARB_R_CTL r) (setFld w 31 30 (s.getF (Reg.ARB_R_CTL r) 31 30)))) ∧
  (∀ (r : Fin 5) (s : State), s.getF (Reg.ARB_R_WAIT_WARN r) 23 0 ≠ 0 →
    (∃ x ∈ (s.arbiter r).reqs, x.warned = false ∧ s.getF (Reg.ARB_R_WAIT_WARN r) 23 0 < s.arbNow r - x.first) →
    exec (.longWait r) s = .next ((s.setArb r { s.arbiter r with reqs := (s.arbiter r).reqs.map (fun x =>
      if x.warned = false ∧ s.getF (Reg.ARB_R_WAIT_WARN r) 23 0 < s.arbNow r - x.first then { x with warned := true } else x) }).raise 235 (2 ^ r.val))) ∧
  (∀ (r : Fin 5) (w : Word) (s : State), fld w 31 30 = s.getF (Reg.ARB_R_CTL r) 31 30 → exec (.arbModeWrite r w) s =
    .next (s.store (Reg.ARB_R_CTL r) (setFld w 31 30 (fld w 31 30)))))

/-- The immediate instructions (R133): ADDI adds the sign-extended immediate, ANDI, ORI and XORI take the zero-extended one, LDI
loads it, INSH replaces one halfword of rd, CMPI writes only the flags of a subtraction, SHI shifts without flags. Each writes
nothing but what is named here and moves past its word. MFS and MTS (R127): NOW, TFLAGS and MBFULL are inputs, which are logged;
the others are read as they stand; MTS writes the bits that FLAGS, FPCSR, LR, EXC and EPC have. -/
def Obligations.EngineImmediatesAndSpecialRegisters : Prop :=
  (∀ (n : Fin 68) (e : Nat) (s : State) (w : Word) (x : EngX), x = s.issue n e w →
    (Issues s n e w .addi → exec (.addi n) s =
      .next (s.setLeng e { x.c with core := x.core.setG (fRD w) (x.g (fRA w) + immS w) })) ∧
    (Issues s n e w .andi → exec (.andi n) s =
      .next (s.setLeng e { x.c with core := x.core.setG (fRD w) (x.g (fRA w) &&& BitVec.ofNat 64 (fIMM w)) })) ∧
    (Issues s n e w .ori → exec (.ori n) s =
      .next (s.setLeng e { x.c with core := x.core.setG (fRD w) (x.g (fRA w) ||| BitVec.ofNat 64 (fIMM w)) })) ∧
    (Issues s n e w .xori → exec (.xori n) s =
      .next (s.setLeng e { x.c with core := x.core.setG (fRD w) (x.g (fRA w) ^^^ BitVec.ofNat 64 (fIMM w)) })) ∧
    (Issues s n e w .ldi → exec (.ldi n) s = .next (s.setLeng e { x.c with core := x.core.setG (fRD w) (immS w) })) ∧
    (Issues s n e w .insh → exec (.insh n) s = .next (s.setLeng e { x.c with core := (x.core.setG (fRD w)
      ((x.g (fRD w) &&& ~~~((0xFFFF : DWord) <<< (16 * fRA w))) ||| (BitVec.ofNat 64 (fIMM w) <<< (16 * fRA w)))) })) ∧
    (Issues s n e w .cmpi → exec (.cmpi n) s = .next (s.setLeng e { x.c with core := { x.core with
      flagN := (x.g (fRA w) - immS w).msb, flagZ := decide (x.g (fRA w) - immS w = 0),
      flagC := decide ((immS w).toNat ≤ (x.g (fRA w)).toNat),
      flagV := decide ((x.g (fRA w)).toInt - (immS w).toInt ≠ (x.g (fRA w) - immS w).toInt) } })) ∧
    (Issues s n e w .shi → fld w 7 6 = 0 → exec (.shi n) s =
      .next (s.setLeng e { x.c with core := x.core.setG (fRD w) (x.g (fRA w) <<< fld w 5 0) })) ∧
    (Issues s n e w .shi → fld w 7 6 = 2 → exec (.shi n) s =
      .next (s.setLeng e { x.c with core := x.core.setG (fRD w) ((x.g (fRA w)).sshiftRight (fld w 5 0)) })) ∧
    (Issues s n e w .nop → exec (.nop n) s = .next (s.setLeng e x.c)) ∧
    x.c.pc = (s.leng e).pc + 1) ∧
  (∀ (n : Fin 68) (e : Nat) (s : State) (w : Word) (x : EngX), x = s.issue n e w →
    (Issues s n e w .mfs → fRA w = 3 → x.retry = false → exec (.mfs n) s = .next (s.putLogged n e
      { x.logIn { status := s.time } with core := (x.logIn { status := s.time }).core.setG (fRD w) s.time })) ∧
    (Issues s n e w .mfs → fRA w = 5 → x.retry = false → ∀ v, v = BitVec.ofNat 64 x.core.tflags.toNat → exec (.mfs n) s = .next (s.putLogged n e
      { x.logIn { status := v } with core := (x.logIn { status := v }).core.setG (fRD w) v })) ∧
    (Issues s n e w .mfs → fRA w = 14 → x.retry = false → ∀ v, v = BitVec.ofNat 64 (s.getF (Reg.ENG_MBOX_STAT n) 15 0) → exec (.mfs n) s =
      .next (s.putLogged n e { x.logIn { status := v } with core := (x.logIn { status := v }).core.setG (fRD w) v })) ∧
    (∀ v : DWord, Issues s n e w .mfs →
      ((fRA w = 0 ∧ v = BitVec.ofNat 64 x.core.trig.toNat) ∨ (fRA w = 1 ∧ v = x.core.cyct) ∨ (fRA w = 2 ∧ v = x.core.cycno) ∨
       (fRA w = 4 ∧ v = BitVec.ofNat 64 x.period) ∨ (fRA w = 6 ∧ v = x.core.st) ∨
       (fRA w = 7 ∧ v = BitVec.ofNat 64 (8 * x.core.flagN.toNat + 4 * x.core.flagZ.toNat + 2 * x.core.flagC.toNat + x.core.flagV.toNat)) ∨
       (fRA w = 8 ∧ v = BitVec.ofNat 64 x.core.fpcsr.toNat) ∨ (fRA w = 9 ∧ v = x.core.lr) ∨ (fRA w = 10 ∧ v = x.c.exc) ∨
       (fRA w = 11 ∧ v = x.c.epc) ∨ (fRA w = 12 ∧ v = BitVec.ofNat 64 x.retry.toNat) ∨ (fRA w = 13 ∧ v = BitVec.ofNat 64 x.core.lost) ∨
       (fRA w = 15 ∧ v = BitVec.ofNat 64 (256 * n.val + e))) →
      exec (.mfs n) s = .next (s.setLeng e { x.c with core := x.core.setG (fRD w) v })) ∧
    (Issues s n e w .mts → fRD w = 7 → exec (.mts n) s = .next (s.setLeng e { x.c with core := { x.core with
      flagN := x.ra.getLsbD 3, flagZ := x.ra.getLsbD 2, flagC := x.ra.getLsbD 1, flagV := x.ra.getLsbD 0 } })) ∧
    (Issues s n e w .mts → fRD w = 8 → exec (.mts n) s =
      .next (s.setLeng e { x.c with core := { x.core with fpcsr := loW x.ra &&& 0x00FF001F } })) ∧
    (Issues s n e w .mts → fRD w = 9 → exec (.mts n) s =
      .next (s.setLeng e { x.c with core := { x.core with lr := x.ra &&& 0x8000000000FFFFFF } })) ∧
    (Issues s n e w .mts → fRD w = 10 → exec (.mts n) s = .next (s.setLeng e { x.c with exc := x.ra &&& 0x1FF })) ∧
    (Issues s n e w .mts → fRD w = 11 → exec (.mts n) s = .next (s.setLeng e { x.c with epc := x.ra &&& 0x8000000000FFFFFF })))

/-- ALU (R135): with S set the result's flags are written, without it they stay; SEL takes ra where its condition holds, else
rb; a function number that the table does not list is ILLEGAL. C of a subtraction is 1 when no borrow occurred, C of a shift the
last bit shifted out, V signed overflow. -/
def Obligations.AluFunctionsAndFlags : Prop :=
  (∀ (n : Fin 68) (e : Nat) (s : State) (w : Word) (x : EngX), x = s.issue n e w → Issues s n e w .alu →
    (∀ r v, fFN w ≠ 0x16 → aluFn (fFN w) x.ra x.rb x.core.nzcv = some r → r.val = some v → bitOf w 10 = false →
      exec (.alu n) s = .next (s.setLeng e { x.c with core := x.core.setG (fRD w) v })) ∧
    (∀ r v, fFN w ≠ 0x16 → aluFn (fFN w) x.ra x.rb x.core.nzcv = some r → r.val = some v → bitOf w 10 = true →
      exec (.alu n) s = .next (s.setLeng e { x.c with core := { x.core.setG (fRD w) v with
        flagN := r.n.getD x.core.flagN, flagZ := r.z.getD x.core.flagZ,
        flagC := r.c.getD x.core.flagC, flagV := r.v.getD x.core.flagV } })) ∧
    (fFN w = 0x16 → exec (.alu n) s = .next (s.setLeng e { x.c with core := (
      x.core.setG (fRD w) (if condHolds (fMOD w) x.core.nzcv then x.ra else x.rb)) })) ∧
    (∀ r, fFN w ≠ 0x16 → aluFn (fFN w) x.ra x.rb x.core.nzcv = some r → r.val = none →
      exec (.alu n) s = .next (s.setLeng e { x.c with core := { x.core with
        flagN := r.n.getD x.core.flagN, flagZ := r.z.getD x.core.flagZ,
        flagC := r.c.getD x.core.flagC, flagV := r.v.getD x.core.flagV } }))) ∧
  (∀ (n : Fin 68) (e : Nat) (s : State) (w : Word) (c : LEng), s.logicalOf n = some e → s.inCycle n = true →
    s.domOn (domEngine n) = true → (s.leng e).stall = none → s.fetch e = .word w → insRow w = none →
    c = { (s.leng e).usedFar with issued := (s.leng e).issued + 1, stall := none } →
    exec (.alu n) s = .next ((s.setLeng e c).takeExc n e 1 (s.leng e).pc)) ∧
  (∀ (a b : DWord) (f : Nzcv),
    aluFn 0x00 a b f = some ⟨some (a + b), some (a + b).msb, some (decide (a + b = 0)),
      some (decide (2 ^ 64 ≤ a.toNat + b.toNat)), some (decide (a.toInt + b.toInt ≠ (a + b).toInt))⟩ ∧
    aluFn 0x01 a b f = some ⟨some (a - b), some (a - b).msb, some (decide (a - b = 0)),
      some (decide (b.toNat ≤ a.toNat)), some (decide (a.toInt - b.toInt ≠ (a - b).toInt))⟩ ∧
    aluFn 0x04 a b f = some ⟨some (a &&& b), some (a &&& b).msb, some (decide (a &&& b = 0)), some false, some false⟩ ∧
    aluFn 0x07 a b f = some ⟨some (a &&& ~~~b), some (a &&& ~~~b).msb, some (decide (a &&& ~~~b = 0)), some false, some false⟩ ∧
    (aluFn 0x0C a b f).bind AluRes.val = none ∧ (aluFn 0x0D a b f).bind AluRes.val = none ∧
    (b.toNat % 64 = 0 → ∃ r, aluFn 0x08 a b f = some r ∧ r.val = some a ∧ r.c = some false ∧ r.v = none) ∧
    (b = 0 → ∃ r, aluFn 0x1C a b f = some r ∧ r.val = some 0 ∧ r.v = some true) ∧
    (b = 0 → ∃ r, aluFn 0x1E a b f = some r ∧ r.val = some a ∧ r.v = some true) ∧
    aluFn 0x18 a b f = some ⟨some (a * b), some (a * b).msb, some (decide (a * b = 0)), none, none⟩)

/-- Floating point (R130, R136): the exceptions of a result set their sticky bits; where none of them is enabled the result is
written, and where one is, FP is raised and the destination stays. -/
def Obligations.FloatingPointResults : Prop :=
  ∀ (n : Fin 68) (e : Nat) (s : State) (w : Word) (x : EngX) (k : EngCore) (r : FpuRes), x = s.issue n e w →
    k = { x.core with fpcsr := setFld x.core.fpcsr 4 0 (fld x.core.fpcsr 4 0 ||| r.exc) } →
    (∀ v, r.val = some v → r.flags = none → Issues s n e w .fpu → fpuFn (fFN w) (fpEnv x.core.fpcsr) x.ra x.rb = some r → fld x.core.fpcsr 20 16 &&& r.exc = 0 →
      exec (.fpu n) s = .next (s.setLeng e { x.c with core := k.setG (fRD w) (BitVec.ofNat 64 v) })) ∧
    (Issues s n e w .fpu → fpuFn (fFN w) (fpEnv x.core.fpcsr) x.ra x.rb = some r → fld x.core.fpcsr 20 16 &&& r.exc ≠ 0 →
      exec (.fpu n) s = .next (({ x with c := { x.c with core := k } } : EngX).exc 4)) ∧
    (∀ f, r.val = none → r.flags = some f → Issues s n e w .fpu →
      fpuFn (fFN w) (fpEnv x.core.fpcsr) x.ra x.rb = some r → fld x.core.fpcsr 20 16 &&& r.exc = 0 →
      exec (.fpu n) s = .next (s.setLeng e { x.c with core := { k with flagN := f.n, flagZ := f.z, flagC := f.c, flagV := f.v } })) ∧
    (∀ v, r.val = some v → r.flags = none → Issues s n e w .fma → fmaFn (fFN w) (fpEnv x.core.fpcsr) x.ra x.rb (x.g (fMOD w)) = r → fld x.core.fpcsr 20 16 &&& r.exc = 0 →
      exec (.fma n) s = .next (s.setLeng e { x.c with core := k.setG (fRD w) (BitVec.ofNat 64 v) })) ∧
    (Issues s n e w .fma → fmaFn (fFN w) (fpEnv x.core.fpcsr) x.ra x.rb (x.g (fMOD w)) = r → fld x.core.fpcsr 20 16 &&& r.exc ≠ 0 →
      exec (.fma n) s = .next (({ x with c := { x.c with core := k } } : EngX).exc 4))

/-- Loads and stores (R89, R97, R131): the address is ra plus the immediate; a load takes the little-endian bytes there, LDW
zero-extends and LDWS sign-extends; a store logs the line before its first write and writes the low bytes of rd; a misaligned or
reserved address is MEMORY, and so is an uncorrectable error. -/
def Obligations.EngineLoadsAndStores : Prop :=
  ∀ (n : Fin 68) (e : Nat) (s : State) (w : Word) (x : EngX) (a : Nat), x = s.issue n e w → a = (x.ra + immS w).toNat →
    (Issues s n e w .ld → a % 8 = 0 → a < 0x10000 → exec (.ld n .clean) s =
      .next (s.setLeng e { x.c with core := x.core.setG (fRD w) (BitVec.ofNat 64 (leNat (ramBytes x.c.dram a 8))) })) ∧
    (Issues s n e w .ldw → a % 4 = 0 → a < 0x10000 → exec (.ldw n .clean) s =
      .next (s.setLeng e { x.c with core := x.core.setG (fRD w) (BitVec.ofNat 64 (leNat (ramBytes x.c.dram a 4))) })) ∧
    (Issues s n e w .ldws → a % 4 = 0 → a < 0x10000 → exec (.ldws n .clean) s =
      .next (s.setLeng e { x.c with core := x.core.setG (fRD w) (BitVec.ofInt 64 (sextInt 32 (leNat (ramBytes x.c.dram a 4)))) })) ∧
    (Issues s n e w .ld → (a % 8 ≠ 0 ∨ 0x18000 ≤ a) → ∀ ecc, exec (.ld n ecc) s = .next (x.exc 3)) ∧
    (Issues s n e w .ld → a % 8 = 0 → a < 0x18000 → exec (.ld n .uncorrectable) s =
      .next (({ x with s := s.raise e 0x2000 } : EngX).exc 3)) ∧
    (Issues s n e w .st → a % 8 = 0 → a < 0x10000 → exec (.st n) s =
      .next (s.putLogged n e ((x.c.logLine (a / 32)).write a (leBytes 8 x.rd.toNat)))) ∧
    (Issues s n e w .stw → a % 4 = 0 → a < 0x10000 → exec (.stw n) s =
      .next (s.putLogged n e ((x.c.logLine (a / 32)).write a (leBytes 4 x.rd.toNat)))) ∧
    (Issues s n e w .st → (a % 8 ≠ 0 ∨ 0x10000 ≤ a) → exec (.st n) s = .next (x.exc 3))

/-- Control flow (R133, R155): a branch whose condition holds goes to its own address plus the offset, one that does not goes
on; CALL leaves the next address in LR; FCALL enters a far routine with far code on, FRET leaves it; far code holds no JMP,
CALL, JR and RET. -/
def Obligations.EngineControlFlow : Prop :=
  ∀ (n : Fin 68) (e : Nat) (s : State) (w : Word) (x : EngX), x = s.issue n e w →
    (Issues s n e w .bcc → condHolds (fCOND w) x.core.nzcv = false → exec (.bcc n) s = .next (s.setLeng e x.c)) ∧
    (Issues s n e w .bcc → condHolds (fCOND w) x.core.nzcv = true → x.c.inFar = false →
      0 ≤ ((s.leng e).pc : Int) + sextInt 16 (fIMM w) → ((s.leng e).pc : Int) + sextInt 16 (fIMM w) < 8192 →
      exec (.bcc n) s = .next (s.setLeng e { x.c with pc := (((s.leng e).pc : Int) + sextInt 16 (fIMM w)).toNat })) ∧
    (Issues s n e w .bcc → condHolds (fCOND w) x.core.nzcv = true →
      ((s.leng e).pc : Int) + sextInt 16 (fIMM w) < 0 → exec (.bcc n) s = .next (x.exc 2)) ∧
    (Issues s n e w .jmp → x.c.inFar = false → exec (.jmp n) s = .next (s.setLeng e { x.c with pc := fTARGET w })) ∧
    (Issues s n e w .call → x.c.inFar = false → exec (.call n) s =
      .next (s.setLeng e { x.c with pc := fTARGET w, core := { x.core with lr := BitVec.ofNat 64 ((s.leng e).pc + 1) } })) ∧
    (Issues s n e w .jr → x.c.inFar = false → x.ra.toNat < 8192 → exec (.jr n) s = .next (s.setLeng e { x.c with pc := x.ra.toNat })) ∧
    (Issues s n e w .ret → x.c.inFar = false → x.core.lr.toNat < 8192 → exec (.ret n) s =
      .next (s.setLeng e { x.c with pc := x.core.lr.toNat })) ∧
    (Issues s n e w .ret → x.c.inFar = false → x.core.lr.msb = true → exec (.ret n) s = .next (x.exc 2)) ∧
    (x.c.inFar = true → (Issues s n e w .jmp → exec (.jmp n) s = .next (x.exc 1)) ∧
      (Issues s n e w .call → exec (.call n) s = .next (x.exc 1)) ∧ (Issues s n e w .jr → exec (.jr n) s = .next (x.exc 1))) ∧
    (Issues s n e w .fret → x.c.inFar = true → x.core.lr.msb = false → exec (.fret n) s =
      .next (s.setLeng e { x.c with inFar := false, pc := x.core.lr.toNat % 8192 })) ∧
    (Issues s n e w .fcall → s.getB (Reg.ENG_FAR_CTL n) 0 = true → x.ra.toNat % 4 = 0 → x.ra.toNat < 2 ^ 26 → x.c.inFar = false →
      exec (.fcall n) s = .next (s.setLeng e {
        x.c with inFar := true, farBank := x.ra.toNat / 2 ^ 23, pc := x.ra.toNat / 4, core := { x.core with lr := BitVec.ofNat 64 ((s.leng e).pc + 1) } }))

/-- Posting, cancelling and sending (R140, R141, R145): the effect leaves with its number, and rd waits for its status; a post
stalls while the FIFO of the engine's port is full and keeps the DUE that it had when it issued, for which NOW is a logged
input; a mailbox write held for its target's domain has no status yet (R112); reserved bits of an operand are ILLEGAL. -/
def Obligations.EnginePostsAndSends : Prop :=
  ∀ (n : Fin 68) (e : Nat) (s u : State) (w : Word) (x : EngX) (c : LEng) (k : Nat), x = s.issue n e w →
    u = s.putLogged n e { c with efPend := c.efPend ++ [(fRD w, k)], efWait := c.efWait ++ [k] } →
    (Issues s n e w .post → fMOD w = 0 → x.release (.post x.ra x.rb) = .go c k → s.fifoRoom e = true → exec (.post n) s =
      .next (u.fifoPush e (BitVec.ofNat 128 (x.ra.toNat <<< 64 + x.rb.toNat)) (.engine e k))) ∧
    (Issues s n e w .post → fMOD w = 0 → x.release (.post x.ra x.rb) = .go c k → s.fifoRoom e = false → exec (.post n) s =
      .next (s.putLogged n e { x.c with pc := (s.leng e).pc, stall := some (.post x.ra), stallAt := s.time })) ∧
    (Issues s n e w .post → 2 ≤ fMOD w → x.retry = false → ∀ y : EngX, y = { x with c := x.logIn { status := s.time } } →
      y.release (.post (s.time + x.ra) x.rb) = .go c k → s.fifoRoom e = true → exec (.post n) s =
      .next (u.fifoPush e (BitVec.ofNat 128 ((s.time + x.ra).toNat <<< 64 + x.rb.toNat)) (.engine e k))) ∧
    (Issues s n e w .post → fMOD w = 1 → x.release (.post (x.core.cyct + x.ra) x.rb) = .go c k → s.fifoRoom e = true → exec (.post n) s =
      .next (u.fifoPush e (BitVec.ofNat 128 ((x.core.cyct + x.ra).toNat <<< 64 + x.rb.toNat)) (.engine e k))) ∧
    (Issues s n e w .cancel → x.ra.toNat < 2 ^ 21 → x.release (.cancel x.ra) = .go c k → exec (.cancel n) s =
      .next ((u.cancel (nbits x.ra.toNat 7 0) (nbits x.ra.toNat 15 8) (nbits x.ra.toNat 19 16) e (x.ra.toNat.testBit 20) false).1.engStatus e k
        (u.cancel (nbits x.ra.toNat 7 0) (nbits x.ra.toNat 15 8) (nbits x.ra.toNat 19 16) e (x.ra.toNat.testBit 20) false).2)) ∧
    (Issues s n e w .cancel → 2 ^ 21 ≤ x.ra.toNat → exec (.cancel n) s = .next (x.exc 1)) ∧
    (Issues s n e w .send → x.ra.toNat < 2 ^ 10 → x.release (.send (x.ra.toNat / 16) (x.ra.toNat % 16) x.rb) = .go c k →
      (∀ st, (u.mailWrite (x.ra.toNat / 16) (x.ra.toNat % 16) x.rb (.engine e k)).2 = some st → exec (.send n) s =
        .next ((u.mailWrite (x.ra.toNat / 16) (x.ra.toNat % 16) x.rb (.engine e k)).1.engStatus e k st)) ∧
      ((u.mailWrite (x.ra.toNat / 16) (x.ra.toNat % 16) x.rb (.engine e k)).2 = none → exec (.send n) s =
        .next (u.mailWrite (x.ra.toNat / 16) (x.ra.toNat % 16) x.rb (.engine e k)).1)) ∧
    (Issues s n e w .send → 2 ^ 10 ≤ x.ra.toNat → exec (.send n) s = .next (x.exc 1))

/-- Waiting and receiving (R143, R144, R146): WAITT ends at once with PAST or BEYOND, else stalls until its instant; WAITF and
RECV take what is there, poll with an immediate of 0, else stall; RECV and RECVM empty the mailbox and PEEK does not; TFCLR
clears flags; a wait that is met or that runs out ends with its status. Every one is an input that is logged. What a stalled
instruction waits for ends it (R113, R114, R143, R144, R147): the instant of a WAITT, the bound of a wait whose condition is
unmet, the fabric's acknowledge or the bound of a bay-port transfer, and a status still out that a drain does not get. A bound
of k engine clocks is k times 320/3 units from the stall (the model's choice, log entry 194: the fastest engine clock, 600 MHz).
-/
def Obligations.EngineWaitsAndStalls : Prop :=
  (∀ (n : Fin 68) (e : Nat) (s : State) (w : Word) (x : EngX), x = s.issue n e w → x.retry = false →
    (Issues s n e w .waitt → fMOD w = 0 → before s.time x.ra = false → exec (.waitt n) s = .next (x.statusIn s stPAST)) ∧
    (Issues s n e w .waitt → fMOD w = 0 → before s.time x.ra = true → before (x.core.cyct + units x.period) x.ra = false → exec (.waitt n) s =
      .next (s.setLeng e { x.c with pc := (s.leng e).pc, stall := some (.waitt x.ra), stallAt := s.time })) ∧
    (∀ t, Issues s n e w .waitt → t = (if fMOD w = 0 then x.ra else x.core.cyct + x.ra) → before s.time t = true →
      before (x.core.cyct + units x.period) t = true → exec (.waitt n) s = .next (x.statusIn s stBEYOND)) ∧
    (Issues s n e w .waitf → x.core.tflags &&& loW x.ra ≠ 0 → exec (.waitf n) s =
      .next (x.flagsIn (fRD w) (BitVec.ofNat 64 (x.core.tflags &&& loW x.ra).toNat) stOK)) ∧
    (Issues s n e w .waitf → x.core.tflags &&& loW x.ra = 0 → fIMM w ≠ 0 → exec (.waitf n) s =
      .next (s.setLeng e { x.c with pc := (s.leng e).pc, stall := some (.waitf (fRD w) (loW x.ra)), stallAt := s.time })) ∧
    (Issues s n e w .waitf → x.core.tflags &&& loW x.ra = 0 → fIMM w = 0 → exec (.waitf n) s = .next (x.flagsIn (fRD w) 0 stTIMEOUT)) ∧
    (Issues s n e w .tfclr → exec (.tfclr n) s =
      .next (s.setLeng e { x.c with core := { x.core with tflags := x.core.tflags &&& ~~~(loW x.ra) } })) ∧
    (Issues s n e w .recv → s.boxFull n (fRA w) = true → exec (.recv n) s =
      .next (x.liveIn (s.setB (Reg.ENG_MBOX_STAT n) (fRA w) false) { status := 0, value := some (x.c.box (fRA w)) }
        (fun c => c.withCore ((c.core.setG (fRD w) (x.c.box (fRA w))).status 0)))) ∧
    (Issues s n e w .recv → s.boxFull n (fRA w) = false → fIMM w ≠ 0 → exec (.recv n) s =
      .next (s.setLeng e { x.c with pc := (s.leng e).pc, stall := some (.recv (fRD w) (fRA w)), stallAt := s.time })) ∧
    (Issues s n e w .recv → s.boxFull n (fRA w) = false → fIMM w = 0 → exec (.recv n) s = .next (x.statusIn (s.raise e 0x100) stTIMEOUT)) ∧
    (Issues s n e w .peek → s.boxFull n (fRA w) = true → exec (.peek n) s =
      .next (x.liveIn s { status := 0, value := some (x.c.box (fRA w)) }
        (fun c => c.withCore ((c.core.setG (fRD w) (x.c.box (fRA w))).status 0)))) ∧
    (∀ m, Issues s n e w .recvm → (bitsSet 16 (x.ra.toNat % 65536)).find? (fun m => s.boxFull n m) = some m → exec (.recvm n) s =
      .next (x.liveIn (s.setB (Reg.ENG_MBOX_STAT n) m false) { status := BitVec.ofNat 64 (256 * m), value := some (x.c.box m) }
        (fun c => c.withCore (c.core.receivedAny (fRD w) { status := BitVec.ofNat 64 (256 * m), value := some (x.c.box m) }))))) ∧
  (∀ (n : Fin 68) (e : Nat) (s : State) (x : EngX), x = s.resume n e →
    (∀ t, Stalls s n e (.waitt t) → s.reached t = true → exec (.waittWake n) s = .next (x.statusIn s stOK)) ∧
    (∀ rd m, Stalls s n e (.waitf rd m) → (s.leng e).waited s.time (fIMM (s.wordAt e)) = true → (s.leng e).core.tflags &&& m = 0 →
      exec (.waitTimeout n) s = .next (x.flagsIn rd 0 stTIMEOUT)) ∧
    (∀ rd m, Stalls s n e (.recv rd m) → (s.leng e).waited s.time (fIMM (s.wordAt e)) = true → s.boxFull n m = false →
      exec (.waitTimeout n) s = .next (x.statusIn (s.raise e 0x100) stTIMEOUT)) ∧
    (∀ rd m, Stalls s n e (.recvm rd m) → (s.leng e).waited s.time (fIMM (s.wordAt e)) = true → (∀ i < 16, m.testBit i = true → s.boxFull n i = false) →
      exec (.waitTimeout n) s = .next (x.statusIn (s.raise e 0x100) stTIMEOUT)) ∧
    (∀ rd p sec v, Stalls s n e (.bayRead rd p sec) → s.bayLive e (.bayRead rd p sec) = true → exec (.bpAck n v) s =
      .next (x.liveIn (s.portDone e p sec) { status := 0, value := some v } (fun c => c.withCore ((c.core.setG rd v).status 0)))) ∧
    (∀ p sec k v, Stalls s n e (.bayWrite p sec k) → s.bayLive e (.bayWrite p sec k) = true → exec (.bpAck n v) s =
      .next ((s.portDone e p sec).putLogged n e { x.c.takeStatus k 0 with bayOut := none, core := (x.c.takeStatus k 0).core.status 0 })) ∧
    (∀ rd p sec, Stalls s n e (.bayRead rd p sec) → (s.leng e).waited s.time (s.bpTmo n) = true → s.domOn sec = true →
      exec (.bpTimeout n) s = .next (x.liveIn ((s.raise e 0x400).portDone e p sec) { status := BitVec.ofNat 64 stTIMEOUT, value := none }
        (fun c => c.withCore (c.core.status stTIMEOUT)))) ∧
    (∀ k, Stalls s n e .drain → (s.leng e).waited s.time 65535 = true → k ∈ (s.leng e).efWait → s.statusHeld e k = false →
      exec (.drainTimeout n) s = .next (s.mismatch n e 0)) ∧
    (∀ (c : LEng) (k : Nat), c.waited s.time k = decide (((320 * k : Nat) : Int) ≤ 3 * tdiff s.time c.stallAt)))

/-- Bay ports and requests (R147, R153): a transfer of an attached port wakes the sector and stalls, one of a port that is not
attached ends with NOPORT; RQ hands the block at ra to its arbiter and rd waits for the acceptance, and a block that is not
aligned, or that cannot be read, is MEMORY (R89). -/
def Obligations.EngineBayPortsAndRequests : Prop :=
  ∀ (n : Fin 68) (e : Nat) (s u : State) (w : Word) (x : EngX) (c : LEng) (k a : Nat) (blk : List Byte), x = s.issue n e w →
    u = s.putLogged n e { c with efPend := c.efPend ++ [(fRD w, k)], efWait := c.efWait ++ [k] } → a = x.ra.toNat →
    blk = ramBytes x.c.dram a 16 →
    (∀ sec, Issues s n e w .bprd → x.retry = false → s.baySector e (fRA w) = some sec → exec (.bprd n) s =
      .next ((s.wake sec 1).setLeng e
        { x.c with pc := (s.leng e).pc, stall := some (.bayRead (fRD w) (fRA w) sec), stallAt := (s.wake sec 1).time })) ∧
    (Issues s n e w .bprd → x.retry = false → s.baySector e (fRA w) = none → exec (.bprd n) s = .next (x.statusIn (s.raise e 0x400) stNOPORT)) ∧
    (Issues s n e w .bpwr → x.release (.bayWrite (fRA w) x.rd) = .go c k → s.baySector e (fRA w) = none → exec (.bpwr n) s =
      .next ((s.raise e 0x400).putLogged n e ((c.takeStatus k (BitVec.ofNat 64 stNOPORT)).withCore (c.core.status stNOPORT)))) ∧
    (∀ sec, Issues s n e w .bpwr → x.release (.bayWrite (fRA w) x.rd) = .go c k → s.baySector e (fRA w) = some sec →
      c.efWait.contains k = false → exec (.bpwr n) s =
      .next ((s.putLogged n e { c with
        pc := (s.leng e).pc, stall := some (.bayWrite (fRA w) sec k), stallAt := s.time, efWait := c.efWait ++ [k] }).wake sec 1)) ∧
    (Issues s n e w .rqNvRead → (a % 16 ≠ 0 ∨ 0x10000 ≤ a) → ∀ ecc, exec (.rqNvRead n ecc) s = .next (x.exc 3)) ∧
    (Issues s n e w .rqNvRead → a % 16 = 0 → a < 0x10000 → exec (.rqNvRead n .uncorrectable) s =
      .next (({ x with s := s.raise e 0x2000 } : EngX).exc 3)) ∧
    (a % 16 = 0 → a < 0x10000 → ∀ mode data,
      data = (if mode = 1 ∨ mode = 4 ∨ mode = 5 then bufferBytes x.c.dram (leNat (sliceB blk 10 2)) (leNat (sliceB blk 8 2))
              else if mode = 2 then [] else sliceB blk 10 2) →
      x.release (.request mode a blk data) = .go c k → ∀ r,
      r = u.submit mode (leNat (blk.take 8)) (leNat (sliceB blk 8 2)) data (leNat (sliceB blk 12 1)) (.engine e a) →
      (mode = 0 → Issues s n e w .rqNvRead → exec (.rqNvRead n .clean) s = .next (r.1.engStatus e k r.2)) ∧
      (mode = 1 → Issues s n e w .rqNvProgram → exec (.rqNvProgram n .clean) s = .next (r.1.engStatus e k r.2)) ∧
      (mode = 2 → Issues s n e w .rqNvErase → exec (.rqNvErase n .clean) s = .next (r.1.engStatus e k r.2)) ∧
      (mode = 3 → Issues s n e w .rqPrmRead → exec (.rqPrmRead n .clean) s = .next (r.1.engStatus e k r.2)) ∧
      (mode = 4 → Issues s n e w .rqPrmWrite → exec (.rqPrmWrite n .clean) s = .next (r.1.engStatus e k r.2)) ∧
      (mode = 5 → Issues s n e w .rqTrunk → exec (.rqTrunkTransmit n .clean) s = .next (r.1.engStatus e k r.2)))

/-- The motion units (R148–R152, R157–R171): unit registers, the profile, the cam and the loop, filter and limit stages, each
with what it writes and its status; a stage or a table that is not enabled or loaded is UNIT. LOOP, BIQ and LIM (R151, R152,
R169–R171), PWM APPLY (R173), the axis registers (R148), the log and the checkpoint hints (R154). -/
def Obligations.EngineMotionAndLog : Prop :=
  (∀ (n : Fin 68) (e : Nat) (s : State) (w : Word) (x : EngX), x = s.issue n e w →
    (Issues s n e w .uwr → fld w 10 8 < 5 → exec (.uwr n) s =
      .next (s.setLeng e { x.c with core := x.core.writeUnit (fld w 10 8) (fld w 7 0) x.ra })) ∧
    (Issues s n e w .urd → fld w 10 8 ≠ 6 → exec (.urd n) s =
      .next (s.setLeng e { x.c with core := x.core.setG (fRD w) (x.unitValue (fld w 10 8) (fld w 7 0)) })) ∧
    (Issues s n e w .trjGo → exec (.trjGo n) s =
      .next (s.setLeng e { x.c with core := x.core.trjGo.1.status (if x.core.trjGo.2 then stOK else stBADPARAM) })) ∧
    (Issues s n e w .trjStop → exec (.trjStop n) s = .next (s.setLeng e { x.c with core := x.core.trjStop.status stOK })) ∧
    (Issues s n e w .qstop → exec (.qstop n) s =
      .next (s.setLeng e { x.c with core := x.core.trjQstop.1.status (if x.core.trjQstop.2 then stOK else stBADPARAM) })) ∧
    (Issues s n e w .trjStep → exec (.trjStep n) s =
      .next (s.setLeng e { x.c with core := ((x.core.trjStep x.period).setG (fRD w) ((x.core.trjStep x.period).unit 0 8)).status stOK })) ∧
    (∀ ecc, Issues s n e w .engage → x.ra.toNat < 8 → (s.activeDesc e x.ra.toNat).valid = true → exec (.engage n ecc) s =
      .next (s.setLeng e { x.c with core := ((x.core.setUnit 1 8 0).setUnit 1 9 (BitVec.ofNat 64 (128 + x.ra.toNat))).status stOK })) ∧
    (∀ ecc, Issues s n e w .engage → x.ra.toNat < 8 → (s.activeDesc e x.ra.toNat).valid = false → exec (.engage n ecc) s = .next (x.exc 5)) ∧
    (∀ t d, Issues s n e w .engage → x.ra.toNat = 256 + t → t < 8 → d = s.activeDesc e t → d.valid = true → exec (.engage n .clean) s =
      .next (s.setLeng e { x.c with core := ((x.core.setUnit 1 8 (x.rb - ((s.camAt e d (x.core.unit 1 1)).value +
        dw ((s.camAt e d (x.core.unit 1 1)).k * d.rise.toInt)))).setUnit 1 9 (BitVec.ofNat 64 (128 + t))).status stOK })) ∧
    (Issues s n e w .disengage → exec (.disengage n) s =
      .next (s.setLeng e { x.c with core := (x.core.setUnit 1 9 (x.core.unit 1 9 &&& 7)).status stOK })) ∧
    (∀ ecc, Issues s n e w .camStep → (x.core.unit 1 9).toNat.testBit 7 = false → exec (.camStep n ecc) s =
      .next (s.setLeng e { x.c with core := x.core.status stBADPARAM })) ∧
    (∀ d v out, Issues s n e w .camStep → (x.core.unit 1 9).toNat.testBit 7 = true → nbits (x.core.unit 1 0).toNat 7 6 ≠ 3 →
      d = s.activeDesc e ((x.core.unit 1 9).toNat % 8) → d.valid = true → v = s.camAt e d (x.core.unit 1 1) →
      out = v.value + dw (v.k * d.rise.toInt) + x.core.unit 1 8 → ∃ vel : Nat, exec (.camStep n .clean) s =
      .next (s.setLeng e { x.c with core := { (((((x.core.status stOK).setUnit 1 0xA out).setUnit 1 0xB (BitVec.ofNat 64 vel)).setG (fRD w) out).setZ
        (v.k != x.core.camK)) with camK := v.k } })) ∧
    (Issues s n e w .vmset → exec (.vmset n) s = .next (s.setLeng e { x.c with core := x.core.vmset.status stOK })) ∧
    (∀ d, Issues s n e w .cami → d = s.activeDesc e (fld w 2 0) → d.valid = true → exec (.cami n .clean) s =
      .next (s.setLeng e { x.c with core := (x.core.setG (fRD w) (s.camAt e d x.ra).value).setZ (d.cyclic && (s.camAt e d x.ra).k != 0) }))) ∧
  (∀ (n : Fin 68) (e : Nat) (s : State) (w : Word) (x : EngX), x = s.issue n e w →
    (Issues s n e w .loopReset → exec (.loopReset n) s = .next (s.setLeng e { x.c with core := x.core.loopReset.status stOK })) ∧
    (Issues s n e w .biqReset → exec (.biqReset n) s = .next (s.setLeng e { x.c with core := x.core.biqReset.status stOK })) ∧
    (∀ r, Issues s n e w .loopx → x.core.loopOn (fld w 1 0) = true → r = x.core.loopx (fld w 1 0) x.ra x.rb x.period → exec (.loopx n) s =
      .next (s.setLeng e { x.c with core := (r.1.setG (fRD w) (BitVec.ofNat 64 r.2.1)).setZ r.2.2 })) ∧
    (Issues s n e w .loopx → x.core.loopOn (fld w 1 0) = false → exec (.loopx n) s = .next (x.exc 5)) ∧
    (∀ r, Issues s n e w .biqx → (x.core.unit 3 0x20).getLsbD 0 = true → r = x.core.biqx (x.ra.toNat % 2 ^ 32) → exec (.biqx n) s =
      .next (s.setLeng e { x.c with core := r.1.setG (fRD w) (BitVec.ofNat 64 r.2) })) ∧
    (∀ r, Issues s n e w .limx → r = x.core.limx x.ra x.rb → exec (.limx n) s =
      .next (s.setLeng e { x.c with core := (r.1.setG (fRD w) (BitVec.ofNat 64 r.2)).setZ (r.2 == 0) })) ∧
    (∀ c k u y, Issues s n e w .apply → y = ({ x with c := { x.c with core := x.core.status stOK } } : EngX) →
      y.release (.unitCmd 5 0) = .go c k → u = s.putLogged n e c → exec (.apply n) s =
      .next (u.setLeng e { u.leng e with axis := (u.leng e).axis.apply u.time })) ∧
    (∀ c k u, Issues s n e w .uwr → 5 ≤ fld w 10 8 → x.release (.unitWrite (fld w 10 8) (fld w 7 0) x.ra) = .go c k → u = s.putLogged n e c →
      exec (.uwr n) s = .next (u.axisWrite e (fld w 10 8) (fld w 7 0) x.ra)) ∧
    (Issues s n e w .prelog → 0x10000 ≤ x.ra.toNat → exec (.prelog n) s = .next (x.exc 3)) ∧
    (∀ new, Issues s n e w .prelog → x.ra.toNat < 0x10000 →
      new = (((List.range ((x.ra.toNat + 64 * fRB w - 1) / 32 + 1 - x.ra.toNat / 32)).map (fun i => x.ra.toNat / 32 + i)).filter
        (fun l => decide (l < 2048) && !x.c.undo.any (fun u => u.1 == l))) → x.c.undo.length + new.length ≤ 256 →
      exec (.prelog n) s = .next (s.putLogged n e (new.foldl LEng.logLine x.c))) ∧
    (Issues s n e w .ckhNoretry → exec (.ckhNoretry n) s = .next ((s.setLeng e x.c).markNoRetry n e false)) ∧
    (Issues s n e w .logfree → exec (.logfree n) s = .next (s.setLeng e { x.c with core := (x.core.setG (fRD w)
      (BitVec.ofNat 64 (256 - max x.c.undo.length (max x.c.inCount x.c.efLog.length)))) })) ∧
    (Issues s n e w .cend → x.c.efWait = [] → x.overMargin = false → exec (.cend n) s = .next x.endCycle) ∧
    (Issues s n e w .cend → x.c.efWait ≠ [] → x.overMargin = false → exec (.cend n) s =
      .next (s.setLeng e { x.c with pc := (s.leng e).pc, stall := some .drain, stallAt := s.time })))

/-- Triggers at an engine (R48, R91–R94, R144, R207): CYCLE starts the cycle of a waiting engine and is latched with OVERRUN by
a running one; SIGNAL sets trigger flags; STROBE presents its word and its pulse at the sector's port, once its clock's edge
comes and no Front's quiet interval holds it back, and one that a later strobe replaces before that is lost with STB_OVR. The
engine commands (R96, R399): ENG_RUN and ENG_HOLD set and clear RUN_EN of every engine of the mask, ENG_STAT returns four
registers of the holder and changes none; a mailbox is written by the command as by its register (R111), and while the write is
held for a wake the reply waits (R112). -/
def Obligations.EngineTriggersAndCommands : Prop :=
  ((∀ (e : Fin 64) (s : State) (d : Delivered) (n : Nat), s.due? 1 e 0 = some d → s.physOf e = some n → s.domOn (domEngine n) = true →
    exec (.cycle e) s = .next ((s.taken d).cycleAt n e d.act.data (laterOf d.act.due d.at_))) ∧
  (∀ (e : Fin 64) (s : State), s.due? 1 e 0 = none → exec (.cycle e) s = .next s) ∧
  (∀ (s : State) (n e : Nat) (data : Word) (t : DWord), s.getB (Reg.ENG_CTL n) 0 = true → (s.leng e).mig = none → s.engState n = 2 →
    s.cycleAt n e data t = s.boundary n e data t) ∧
  (∀ (s : State) (n e : Nat) (data : Word) (t : DWord), s.getB (Reg.ENG_CTL n) 0 = true → (s.leng e).mig = none → s.engState n = 3 →
    s.getB (Reg.ENG_CTL n) 3 = false → (s.leng e).latched = none →
    s.cycleAt n e data t = ((s.setLeng e { s.leng e with latched := some (data, t) }).setB (Reg.ENG_STAT n) 6 true).raise e 0x10) ∧
  (∀ (s : State) (n e : Nat) (data : Word) (t : DWord), s.getB (Reg.ENG_CTL n) 0 = false → s.cycleAt n e data t = s) ∧
  (∀ (e : Fin 64) (s : State) (d : Delivered), s.due? 1 e 1 = some d → exec (.signal e) s =
    .next ((s.taken d).setLeng e { (s.taken d).leng e with
      core := { ((s.taken d).leng e).core with tflags := ((s.taken d).leng e).core.tflags ||| d.act.data }
      signals := ((s.taken d).leng e).signals ||| d.act.data })) ∧
  (∀ (t : Fin 384) (s v : State) (d : Delivered) (l : List Delivered), (s.strobesDue t).reverse = d :: l →
    v = l.foldl (fun s d => s.loseStrobe t d) s →
    (v.strobeRuns t = true → v.quietAt (t.val / 8) (d.instant + 160) = false → v.quietFor (t.val / 8) = false →
      v.boot.clear = false → v.reached (d.instant + 160) = true → ∃ u,
      u = (v.taken d).setR (Reg.SEC_STB_DATA (t.val / 8) (t.val % 8)) d.act.data ∧
      exec (.strobe t) s = .next (u.setSector (t.val / 8) { u.sector (t.val / 8) with
        stb := if (u.sector (t.val / 8)).stb.contains (t.val % 8) then (u.sector (t.val / 8)).stb
               else (u.sector (t.val / 8)).stb ++ [t.val % 8] })) ∧
    ((v.strobeRuns t = false ∨ v.quietAt (t.val / 8) (d.instant + 160) = true ∨ v.quietFor (t.val / 8) = true ∨
      v.boot.clear = true ∨ v.reached (d.instant + 160) = false) → exec (.strobe t) s = .next v)) ∧
  (∀ (t : Fin 384) (s : State), s.strobesDue t = [] → exec (.strobe t) s = .next s) ∧
  (∀ (s : State) (t : Nat) (d : Delivered), s.loseStrobe t d =
    ((s.taken d).setB (Reg.SEC_STB_OVR (t / 8)) (t % 8) true).raise (64 + t / 8) 4)) ∧
  ((∀ (c : CmdRef) (s : State) (x : Command), s.turn c 9 0 = some x → exec (.engRun c) s =
    .next ((s.overMask (beNat x.payload) (fun s n => s.setB (Reg.ENG_CTL n) 0 true)).replyTo x csOK true [])) ∧
  (∀ (c : CmdRef) (s : State) (x : Command), s.turn c 9 1 = some x → exec (.engHold c) s =
    .next ((s.overMask (beNat x.payload) (fun s n => s.clearRun n)).replyTo x csOK true [])) ∧
  (∀ (c : CmdRef) (s : State) (x : Command) (n : Nat), s.turn c 9 5 = some x → beAt x.payload 0 1 < 64 → s.physOf (beAt x.payload 0 1) = some n →
    exec (.engStat c) s = .next (s.replyTo x csOK true (beBytes 4 (s.getR (Reg.ENG_MAP n)).toNat ++ (beBytes 4 (s.engStatRead n).toNat ++
      (beBytes 4 (s.getR (Reg.ENG_CAUSE n)).toNat ++ beBytes 4 (s.getR (Reg.ENG_LOST n)).toNat))))) ∧
  (∀ (c : CmdRef) (s : State) (x : Command), s.turn c 9 6 = some x → beAt x.payload 0 1 < 64 → beAt x.payload 1 1 < 16 →
    ∃ r, r = s.mailWrite (beAt x.payload 0 1) (beAt x.payload 1 1) (BitVec.ofNat 64 (beAt x.payload 2 8)) (.host (some c)) ∧
    ((r.2.isSome = true ∨ s.physOf (beAt x.payload 0 1) = none) →
      exec (.mboxWrite (.cmd c)) s = .next (r.1.replyTo x csOK true [])) ∧
    (r.2 = none → (s.physOf (beAt x.payload 0 1)).isSome = true → exec (.mboxWrite (.cmd c)) s = .next (r.1.awaitReply x))) ∧
  (∀ (c : CmdRef) (s : State) (x : Command), s.turn c 9 6 = some x → (64 ≤ beAt x.payload 0 1 ∨ 16 ≤ beAt x.payload 1 1) →
    exec (.mboxWrite (.cmd c)) s = .next (s.replyTo x csBADPARAM true [])))

/-- An engine's faults and what the host orders (R96, R101, R107–R110, R118, R123): a mismatch or a missed watchdog in a cycle
acts on it; RUN_EN cleared drops a latched trigger; the orders of CTL need the state that they are for, and else set CMD_ERR. -/
def Obligations.EngineFaultsAndOrders : Prop :=
  (∀ (n : Fin 68) (bit : Fin 64) (s : State) (e : Nat), s.logicalOf n = some e → s.inCycle n = true → s.domOn (domEngine n) = true →
    exec (.lockstepMismatch n bit) s = .next (s.mismatch n e bit)) ∧
  (∀ (n : Fin 68) (s : State) (e : Nat), s.logicalOf n = some e → s.inCycle n = true →
    ((s.wdtLim n * s.period n : Nat) : Int) ≤ 100 * tdiff s.time (s.leng e).bound →
    exec (.engineWatchdog n) s = .next ((s.raise e 0x40).abandon n e)) ∧
  (∀ (n : Fin 68) (s : State), s.getB (Reg.ENG_CTL n) 0 = true → s.logicalOf n = none →
    (((s.setB (Reg.ENG_CTL n) 0 false).setB (Reg.ENG_STAT n) 6 false).logicalOf n = none) →
    exec (.runEnClear n) s = .next ((s.setB (Reg.ENG_CTL n) 0 false).setB (Reg.ENG_STAT n) 6 false)) ∧
  (∀ (n : Fin 68) (s : State), s.getB (Reg.ENG_CTL n) 0 = false → exec (.runEnClear n) s = .next s) ∧
  (∀ (s : State) (n m e : Nat) (c : Option CmdRef), s.logicalOf n = some e → m < 68 → s.engState m = 6 → (s.leng e).mig = none →
    s.migrate n m c = (s.startMigration n m e { target := m, cmd := c }, true)) ∧
  (∀ (s : State) (n m e : Nat) (c : Option CmdRef), s.logicalOf n = some e → s.engState m ≠ 6 →
    s.migrate n m c = (s.setB (Reg.ENG_STAT n) 9 true, false)) ∧
  (∀ (s : State) (n e : Nat), s.logicalOf n = some e → s.engState n = 5 →
    s.haltClr n = ((s.setLeng e { (s.leng e).restored with failHalt := false }).setEngState n 2, true)) ∧
  (∀ (s : State) (n e : Nat), s.logicalOf n = some e → s.engState n ≠ 5 → s.haltClr n = (s.setB (Reg.ENG_STAT n) 9 true, false)) ∧
  (∀ (s : State) (n : Nat), s.engState n = 7 → s.logicalOf n = none → s.tst.clean.contains (unitKey 0 n) = true →
    s.reinstate n = (((s.setEngState n 6).resolveLog 0 n).freeTarget n, true)) ∧
  (∀ (c : CmdRef) (s : State) (x : Command) (n : Nat), s.turn c 9 2 = some x → s.orderHolder (beAt x.payload 0 1) = some n →
    beAt x.payload 1 1 < 68 → ((s.pendingReply x).migrate n (beAt x.payload 1 1) (some c)).2 = true →
    exec (.migrate (.cmd c)) s = .next ((s.pendingReply x).migrate n (beAt x.payload 1 1) (some c)).1) ∧
  (∀ (c : CmdRef) (s : State) (x : Command) (n : Nat), s.turn c 9 3 = some x → s.orderHolder (beAt x.payload 0 1) = some n →
    (s.haltClr n).2 = true → exec (.haltClr (.cmd c)) s = .next ((s.haltClr n).1.replyTo x csOK true [])) ∧
  (∀ (c : CmdRef) (s : State) (x : Command), s.turn c 9 4 = some x → beAt x.payload 0 1 < 68 → (s.reinstate (beAt x.payload 0 1)).2 = true →
    exec (.reinstate (.cmd c)) s = .next ((s.reinstate (beAt x.payload 0 1)).1.replyTo x csOK true []))

/-- What reaches an engine's memories from outside (R89, R99, R107, R116, R117, R142): a host write waits for the end of a
cycle; FLUSH empties the far-code cache outside far code; a status that comes back for a waiting effect is logged and taken,
another is dropped; the first copy of a migration hands its writes on. -/
def Obligations.EngineMemoriesFromOutside : Prop :=
  (∀ (n : Fin 68) (k : Fin 16384) (w : Word) (s : State) (e : Nat), s.logicalOf n = some e → s.inCycle n = true →
    exec (.dataRamHostWrite n k w) s = .next (s.setLeng e { s.leng e with hostW := (s.leng e).hostW ++ [(4 * k.val, leBytes 4 w.toNat)] })) ∧
  (∀ (n : Fin 68) (k : Fin 16384) (w : Word) (s : State) (e : Nat), s.logicalOf n = some e → s.inCycle n = false →
    s.domOn (domEngine n) = true →
    exec (.dataRamHostWrite n k w) s = .next ((s.setLeng e ((s.leng e).write (4 * k.val) (leBytes 4 w.toNat))).touch (domEngine n))) ∧
  (∀ (n : Fin 68) (k : Fin 16384) (w : Word) (s : State) (e : Nat), s.logicalOf n = some e → s.inCycle n = false →
    s.domOn (domEngine n) = false → exec (.dataRamHostWrite n k w) s =
      .next ((s.setLeng e { s.leng e with hostW := (s.leng e).hostW ++ [(4 * k.val, leBytes 4 w.toNat)] }).wake (domEngine n) 1)) ∧
  (∀ (n : Fin 68) (s : State) (e : Nat), s.logicalOf n = some e → (s.leng e).inFar = false →
    exec (.farFlush n) s = .next (s.setLeng e { s.leng e with far := [] })) ∧
  (∀ (n : Fin 68) (s : State) (e k : Nat) (v : DWord) (l : List (Nat × DWord)), s.logicalOf n = some e → (s.leng e).ret = (k, v) :: l →
    k ∈ (s.leng e).efWait → exec (.effectStatusReturn n) s = .next (s.putLogged n e (({ s.leng e with ret := l } : LEng).takeStatus k v))) ∧
  (∀ (n : Fin 68) (s : State) (e k : Nat) (v : DWord) (l : List (Nat × DWord)), s.logicalOf n = some e → (s.leng e).ret = (k, v) :: l →
    k ∉ (s.leng e).efWait → exec (.effectStatusReturn n) s = .next (s.setLeng e { s.leng e with ret := l })) ∧
  (∀ (e : Fin 64) (s : State) (g : Migration) (n : Nat), (s.leng e).mig = some g → s.physOf e = some n → g.waits = false → g.copied = false →
    g.failed = false → s.domOn (domEngine g.target) = true → s.domOn (domEngine n) = true → g.dirty.length ≤ 512 →
    exec (.migrationCopyDone e) s = .next (s.setLeng e { s.leng e with mig := some { g with copied := true, passing := [] } })) ∧
  (∀ (e : Fin 64) (s : State) (g : Migration) (n : Nat), (s.leng e).mig = some g → s.physOf e = some n → g.waits = false → g.copied = false →
    g.failed = false → s.domOn (domEngine g.target) = true → s.domOn (domEngine n) = true → 512 < g.dirty.length →
    exec (.migrationCopyDone e) s = .next (s.setLeng e { s.leng e with mig := some { g with copied := true, passing := g.dirty, dirty := [] } }))

/-- Acceptance of an encoder level and the quadrature count (R175): a level stable for FILT + 1 ticks is accepted, else the one
before stays; one accepted change counts by one in the direction of the sequence, turned round by DIR, two at once are an
illegal transition, which counts in STAT, saturating; in another MODE nothing happens. The index input and the SSI frame (R177,
R178): an index edge records the count and the time, with Z_GATE only while A and B are high, and where HOME is armed it first
sets the count; a frame's value, from Gray code where GRAY is set, is the count at the first frame and advances it by the
wrapped difference after that; a low line ends the frame with its value, a high one with an error and no value. Delta-sigma
inputs (R179): a sample of an enabled input with a running clock, paced by OSR clocks, is the decimator's output scaled to the
range −1 to 1, with its time, and is valid from the fourth on; a lost modulator clock makes the samples invalid and sets
CLKLOST. -/
def Obligations.AxisInputs : Prop :=
  ((∀ (x : AxisIo) (h : BitVec 16) (old : Bool), x.fieldOf 0 5 2 < 16 →
    ((∀ i, i ≤ x.fieldOf 0 5 2 → h.getLsbD i = true) → x.accepted h old = true) ∧
    ((∀ i, i ≤ x.fieldOf 0 5 2 → h.getLsbD i = false) → x.accepted h old = false) ∧
    ((∃ i, i ≤ x.fieldOf 0 5 2 ∧ h.getLsbD i = true) → (∃ i, i ≤ x.fieldOf 0 5 2 ∧ h.getLsbD i = false) → x.accepted h old = old)) ∧
  (∀ (e : Fin 64) (ha hb : BitVec 16) (s : State) (x : AxisIo) (a b dir : Bool), x = (s.leng e).axis → x.encMode = 1 →
    a = x.accepted ha x.a → b = x.accepted hb x.b → dir = (x.reg 0).getLsbD 7 →
    (a = x.a → b = x.b → exec (.quadratureCount e ha hb) s = .next s) ∧
    (a ≠ x.a → b = x.b → exec (.quadratureCount e ha hb) s =
      .next (s.setAxis e { x with a := a, count := if (a != x.b) != dir then x.count + 1 else x.count - 1, changed := s.time })) ∧
    (a = x.a → b ≠ x.b → exec (.quadratureCount e ha hb) s =
      .next (s.setAxis e { x with b := b, count := if (b == x.a) != dir then x.count + 1 else x.count - 1, changed := s.time })) ∧
    (a ≠ x.a → b ≠ x.b → exec (.quadratureCount e ha hb) s =
      .next (s.setAxis e (({ x with a := a, b := b } : AxisIo).setReg 0xA (BitVec.ofNat 64 ((x.reg 0xA).toNat % 65536 +
        65536 * satAdd 16 (nbits (x.reg 0xA).toNat 31 16) 1)))))) ∧
  (∀ (e : Fin 64) (ha hb : BitVec 16) (s : State), (s.leng e).axis.encMode ≠ 1 → exec (.quadratureCount e ha hb) s = .next s)) ∧
  ((∀ (e : Fin 64) (high : Bool) (s : State) (x : AxisIo), x = (s.leng e).axis → ((x.reg 0).getLsbD 6 = false ∨ high = true) →
    ((x.reg 8).getLsbD 0 = false → exec (.indexEdge e high) s =
      .next (s.setAxis e (((x.setReg 6 x.count).setReg 7 s.time).setBit 0xA 0 true))) ∧
    ((x.reg 8).getLsbD 0 = true → exec (.indexEdge e high) s = .next (s.setAxis e
      (((((({ x with count := x.reg 9, changed := s.time } : AxisIo).setReg 8 0).setReg 6 (x.reg 9)).setReg 7 s.time)).setBit 0xA 0 true)))) ∧
  (∀ (e : Fin 64) (s : State), ((s.leng e).axis.reg 0).getLsbD 6 = true → exec (.indexEdge e false) s = .next s) ∧
  (∀ (e : Fin 64) (bits v : Nat) (s : State) (x : AxisIo) (t0 t1 : DWord), x = (s.leng e).axis → x.ssiRun = some t0 →
    s.ssiEnd x = some t1 → s.reached t1 = true →
    v = (if (x.reg 0).getLsbD 14 then grayDecode x.ssiBits (bits % 2 ^ x.ssiBits) else bits % 2 ^ x.ssiBits) →
    (x.ssiLast = none → exec (.ssiFrameEnd e bits true) s = .next (s.setAxis e
      (({ x with ssiRun := none, count := BitVec.ofNat 64 v, ssiLast := some v, ssiAt := t0 } : AxisIo).setBit 0xA 1 true))) ∧
    (∀ u, x.ssiLast = some u → exec (.ssiFrameEnd e bits true) s = .next (s.setAxis e
      (({ x with ssiRun := none, count := x.count + dw (sextInt x.ssiBits (v + 2 ^ x.ssiBits - u)), ssiLast := some v, ssiAt := t0 }
        : AxisIo).setBit 0xA 1 true))) ∧
    exec (.ssiFrameEnd e bits false) s = .next (s.setAxis e ((({ x with ssiRun := none } : AxisIo).setBit 0xA 2 true).setBit 0xA 1 false))) ∧
  (∀ (e : Fin 64) (bits : Nat) (low : Bool) (s : State), ((s.leng e).axis.ssiRun = none ∨ s.ssiEnd (s.leng e).axis = none ∨
      ∃ t, s.ssiEnd (s.leng e).axis = some t ∧ s.reached t = false) → exec (.ssiFrameEnd e bits low) s = .next s)) ∧
  ((∀ (e : Fin 64) (k : Fin 4) (bits : List Bool) (s : State) (x y : AxisIo) (n : Nat), x = (s.leng e).axis →
    (x.reg 0x10).getLsbD k.val = true → s.dsClock x = true → s.dsPaced x k = true → n = tabGet (fun _ => 0) x.dsCount k →
    y = (({ x with
      dsNew := tabInsert x.dsNew k (BitVec.ofNat 64 (fOfRat fS (2 * (sinc3 x.osr bits : Nat) - (x.osr ^ 3 : Nat)) (x.osr ^ 3)), s.time),
      dsCount := tabPut (fun _ => 0) x.dsCount k (min (n + 1) 4) } : AxisIo).setBit 0x1A 4 false) →
    (n < 3 → exec (.dsSample e k bits) s = .next (s.setAxis e y)) ∧
    (3 ≤ n → exec (.dsSample e k bits) s = .next (s.setAxis e (y.setBit 0x1A k true)))) ∧
  (∀ (e : Fin 64) (k : Fin 4) (bits : List Bool) (s : State), (((s.leng e).axis.reg 0x10).getLsbD k.val = false ∨
      s.dsClock (s.leng e).axis = false ∨ s.dsPaced (s.leng e).axis k = false) → exec (.dsSample e k bits) s = .next s) ∧
  (∀ (e : Fin 64) (s : State), (((s.leng e).axis.reg 0x10).getLsbD 13 = true ∨ s.dsClock (s.leng e).axis = false) →
    exec (.dsClklost e) s = .next (s.setAxis e { ((s.leng e).axis.setReg 0x1A 0x10) with dsCount := [] })) ∧
  (∀ (e : Fin 64) (s : State), ((s.leng e).axis.reg 0x10).getLsbD 13 = false → s.dsClock (s.leng e).axis = true →
    exec (.dsClklost e) s = .next s))

/-- PWM (R172–R174): what has been released applies at its period start, once that has come: the registers in force, the start
of a new carrier, and the end of the fault levels outside HALT; an edge of an output is put into the launch cells of its pins 64
ns ahead. Analog conversions (R182–R185): CONVERT samples the channel or pair of DATA, SEQUENCE the entries of a list; a free
converter is busy for 200 ns an entry and samples each entry that names a channel in its slot; an action that comes in that time
is discarded whole and counted; a result goes to its register, and along its route to an axis with NEW set. -/
def Obligations.AxisOutputs : Prop :=
  ((∀ (e : Fin 64) (s : State) (x : AxisIo) (t : DWord), x = (s.leng e).axis → x.nextApply = some t → s.reached t = true →
    exec (.pwmWriteApply e) s = .next (s.setAxis e { x with
      pwmA := x.regsAt t, pwmPrev := x.pwmA, pwmFrom := some t,
      pwmPend := x.pwmPend.filter (fun w => !w.rel.any (fun r => atOrAfter t (x.applyInstant r))),
      applyAt := if x.applyAt.any (fun r => atOrAfter t (x.applyInstant r)) then none else x.applyAt,
      started := true, fault := x.fault && s.halted e,
      carrierFrom := if newCarrier (x.regsAt t) x.pwmA then some (pwmStart (x.regsAt t) t) else x.carrierFrom })) ∧
  (∀ (e : Fin 64) (s : State), ((s.leng e).axis.nextApply = none ∨ ∃ t, (s.leng e).axis.nextApply = some t ∧ s.reached t = false) →
    exec (.pwmWriteApply e) s = .next s) ∧
  (∀ (x : AxisIo) (rel : DWord), x.applyInstant rel = pwmStart x.pwmA (rel + 12800)) ∧
  (∀ (e : Fin 64) (k : Fin 6) (s u : State) (t : DWord) (v : Nat), s.nextEdge e k = some (t, v) →
    u = (pinsOf s.cfg.active e k).foldl (fun s p => s.setCell p
      { s.cell p with queue := launchInsert (s.cell p).queue ⟨if v = 2 then 3 else v, t, 0, none⟩ }) s →
    exec (.pwmEdge e k) s = .next (u.setAxis e { (u.leng e).axis with pwmOut := tabPut (fun _ => 3) (u.leng e).axis.pwmOut k v })) ∧
  (∀ (e : Fin 64) (k : Fin 6) (s : State), s.nextEdge e k = none → exec (.pwmEdge e k) s = .next s)) ∧
  ((∀ (c : Fin 4) (s : State) (d : Delivered), s.due? 4 c 0 = some d →
    exec (.convert c) s = .next (s.convert c d [fld d.act.data 5 0])) ∧
  (∀ (c : Fin 4) (s : State) (d : Delivered), s.due? 4 c 1 = some d →
    exec (.sequence c) s = .next (s.convert c d (s.seqCodes (fld d.act.data 3 0)))) ∧
  (∀ (c : Nat) (s u : State) (d : Delivered) (codes : List Nat) (b : DWord), u = s.taken d → u.adcUntil c = some b →
    before d.instant b = true → s.convert c d codes = u.incR (Reg.ANA_ADC_COLL c)) ∧
  (∀ (c : Nat) (s u : State) (d : Delivered) (codes : List Nat), u = (s.taken d).touch domAdc →
    (∀ b, (s.taken d).adcUntil c = some b → before d.instant b = false) →
    s.convert c d codes = { u with eng := { u.eng with
      adcBusy := tabInsert u.eng.adcBusy c (d.instant + units (12800 * codes.length))
      adcRun := u.eng.adcRun ++ (((List.range codes.length).zip codes).filter (fun p => decide (p.2 < 48))).map
        (fun p => (c, p.2, d.late, d.instant + units (12800 * p.1))) } }) ∧
  (∀ (c : Fin 4) (s : State), s.due? 4 c 0 = none → exec (.convert c) s = .next s) ∧
  (∀ (c : Fin 4) (s : State), s.due? 4 c 1 = none → exec (.sequence c) s = .next s) ∧
  (∀ (s : State) (l : Nat), s.seqCodes l = (List.range (max 1 (min 16 (s.getF (Reg.ANA_SEQ_LEN l) 4 0)))).map (fun e =>
    s.getF (Reg.ANA_SEQ_CODE l (e / 4)) (8 * (e % 4) + 5) (8 * (e % 4)))) ∧
  (∀ (c : Fin 4) (v : BitVec 16) (s u : State) (code : Nat) (late : Bool) (t : DWord),
    s.eng.adcRun.find? (fun r => r.1 == c.val) = some (c.val, code, late, t) → s.reached t = true →
    u = ({ s with eng := { s.eng with adcRun := s.eng.adcRun.erase (c.val, code, late, t) } } : State).setR (Reg.ANA_ADC_RES code)
      (BitVec.ofNat 32 (late.toNat <<< 30 + code <<< 16 + v.toNat)) →
    (bitOf (u.getR (Reg.ANA_ADC_ROUTE code)) 31 = false → exec (.adcResult c v) s = .next u) ∧
    (∀ e m, bitOf (u.getR (Reg.ANA_ADC_ROUTE code)) 31 = true → e = fld (u.getR (Reg.ANA_ADC_ROUTE code)) 13 8 →
      m = fld (u.getR (Reg.ANA_ADC_ROUTE code)) 2 0 → exec (.adcResult c v) s = .next (u.setAxis e { (u.leng e).axis with
        adc := tabPut (fun _ => 0) (u.leng e).axis.adc m ((BitVec.ofNat 32 (late.toNat <<< 30 + code <<< 16 + v.toNat)) ||| 0x80000000) }))) ∧
  (∀ (c : Fin 4) (v : BitVec 16) (s : State), (s.eng.adcRun.find? (fun r => r.1 == c.val) = none ∨
      ∃ r, s.eng.adcRun.find? (fun r => r.1 == c.val) = some r ∧ s.reached r.2.2.2 = false) → exec (.adcResult c v) s = .next s))

/-- What the fabric asks of its ports, from a sector where the regional clock of the interface runs, and nothing from another
(R203, R210–R212, R361): a record or a cancel is presented to the group's port and served in the group's turn, sectors in
round-robin: a record while the FIFO has room, a cancel once the sector's own records have left it, its count given back; a
mailbox write waits for the tick's service, one each 4 ns for a group, and its status goes back; a request is submitted or its
refusal given back; an event word is ORed into its cause. Contention (R200, R201): every detection counts, makes the
last-detection record with the drivers and the segment, raises its cause and counts in the squall window; the first also
disconnects the segment and asks for the scrub of the frame that holds its select, ahead of the others; a segment that does not
exist, or one in a sector that does not run, is never found. -/
def Obligations.FabricPorts : Prop :=
  ((∀ (i : Fin 48) (w : QWord) (s : State), s.ifaceLive i 8 = true →
    exec (.fabricPost i w) s = .next (s.presentPost i false w) ∧ exec (.fabricCancel i w) s = .next (s.presentPost i true w)) ∧
  (∀ (i : Fin 48) (w : QWord) (s : State), s.ifaceLive i 8 = false →
    exec (.fabricPost i w) s = .next s ∧ exec (.fabricCancel i w) s = .next s) ∧
  (∀ (s u : State) (i : Nat) (w : QWord) (c : Bool), s.fab.posts = [] →
    u = { s with fab := { s.fab with posts := [(i, c, w)] } } →
    s.presentPost i c w = if u.postReady i then u.takePost i else u) ∧
  (∀ (s u : State) (i : Nat) (w : QWord) (l : List (Nat × Bool × QWord)), s.fab.posts = (i, false, w) :: l →
    u = { s with fab := { s.fab with posts := l, postRr := tabPut (fun _ => 2) s.fab.postRr (i / 3) (i % 3) } } →
    s.postReady i = s.fifoRoom (64 + i / 3) ∧ s.takePost i = u.fifoPush (64 + i / 3) w (.fabric i)) ∧
  (∀ (s u v : State) (i n : Nat) (w : QWord) (l : List (Nat × Bool × QWord)), s.fab.posts = (i, true, w) :: l →
    u = { s with fab := { s.fab with posts := l, postRr := tabPut (fun _ => 2) s.fab.postRr (i / 3) (i % 3) } } →
    (v, n) = (if w.toNat / 2 ^ 21 ≠ 0 then (u, 0)
      else u.cancel (nbits w.toNat 7 0) (nbits w.toNat 15 8) (nbits w.toNat 19 16) (64 + i / 3) (w.toNat.testBit 20) false) →
    (s.postReady i = true ↔ ∀ r ∈ s.fifo (64 + i / 3), r.owner ≠ .fabric i) ∧
    s.takePost i = { v with act := { v.act with fabStatus := v.act.fabStatus ++ [(i, n)] } }) ∧
  (∀ (g last : Nat) (ready : Nat → Bool), nextSector g last ready =
    if ready (3 * g + (last + 1) % 3) then some (3 * g + (last + 1) % 3)
    else if ready (3 * g + (last + 2) % 3) then some (3 * g + (last + 2) % 3)
    else if ready (3 * g + (last + 3) % 3) then some (3 * g + (last + 3) % 3) else none) ∧
  (∀ (i : Fin 48) (e : Fin 64) (m : Fin 16) (v : DWord) (s : State),
    (s.ifaceLive i 9 = true → exec (.fabricMboxWrite i e m v) s =
      .next { s with fab := { s.fab with mails := s.fab.mails ++ [(i.val, e.val, m.val, v)] } }) ∧
    (s.ifaceLive i 9 = false → exec (.fabricMboxWrite i e m v) s = .next s)) ∧
  (∀ (s : State) (g : Nat) (t : DWord), s.fab.mailAt.find? (fun p => p.1 == g) = some (g, t) → before s.time (t + 256) = true →
    s.serveMail g = s) ∧
  (∀ (s u : State) (i e m : Nat) (v : DWord) (l : List (Nat × Nat × Nat × DWord)), s.fab.mails = (i, e, m, v) :: l →
    u = { s with fab := { s.fab with mails := l, mailRr := tabPut (fun _ => 2) s.fab.mailRr (i / 3) (i % 3),
                                     mailAt := tabInsert s.fab.mailAt (i / 3) s.time } } →
    (∀ r st, u.mailWrite e m v (.fabric i) = (r, some st) → s.takeMail i = { r with fab := { r.fab with mailSt := r.fab.mailSt ++ [(i, st)] } }) ∧
    (∀ r, u.mailWrite e m v (.fabric i) = (r, none) → s.takeMail i = r)) ∧
  (∀ (i : Fin 48) (op : Fin 6) (addr : Word) (len : Nat) (data : List Byte) (lock : BitVec 7) (s t : State) (r : Nat), s.ifaceLive i 11 = true →
    s.submit op addr.toNat len data lock.toNat (.fabric i) = (t, r) → exec (.fabricRequest i op addr len data lock) s =
    .next (if r = 0 then t else { t with fab := { t.fab with answers := t.fab.answers ++ [(i.val, r, [])] } })) ∧
  (∀ (i : Fin 48) (op : Fin 6) (addr : Word) (len : Nat) (data : List Byte) (lock : BitVec 7) (s : State), s.ifaceLive i 11 = false →
    exec (.fabricRequest i op addr len data lock) s = .next s) ∧
  (∀ (i : Fin 48) (u : Fin 64) (w : Word) (s : State),
    (s.ifaceLive i 10 = true → exec (.eventPortPulse i u w) s = .next (s.raise (256 + u) w.toNat)) ∧
    (s.ifaceLive i 10 = false → exec (.eventPortPulse i u w) s = .next s))) ∧
  ((∀ (i : Fin 48) (seg : Fin 2048) (drv : Byte) (s u : State), segmentExists i seg = true → s.sectorLive i = true →
    u = (((s.addF (Reg.SEC_CONT_CNT i) 15 0 1).setR (Reg.SEC_CONT_INFO i) (BitVec.ofNat 32 (2 ^ 31 + drv.toNat <<< 12 + seg.val))).setD
      (Reg.SEC_CONT_TIME i) s.time).raise (64 + i) 1 →
    ((u.sector i).disc.contains seg.val = true → exec (.contention i seg drv) s = .next (u.sectorFault i (selectAddr i seg) 6)) ∧
    ((u.sector i).disc.contains seg.val = false → exec (.contention i seg drv) s =
      .next ((u.disconnect i seg).sectorFault i (selectAddr i seg) 6))) ∧
  (∀ (s v : State) (i seg : Nat), v = s.setSector i { s.sector i with disc := (s.sector i).disc ++ [seg] } →
    s.disconnect i seg =
      (({ v with cfg := { v.cfg with rewrites := (false, selectAddr i seg, true) :: v.cfg.rewrites } } : State).useCrypto.noteDisc i)) ∧
  (∀ (i : Fin 48) (seg : Fin 2048) (drv : Byte) (s : State), (segmentExists i seg = false ∨ s.sectorLive i = false) →
    exec (.contention i seg drv) s = .next s) ∧
  (∀ (i seg : Nat), segmentExists i seg = segExists 3 (seg % 4) (bayX i (seg / 4)) (bayY i (seg / 4)) 0))

/-- The continuous readback (R268, R269): a disabled scrubber, or one whose interval has not passed, reads nothing; the words
that a read corrects are counted and raise its event, a frame found bad waits to be rewritten, as does one with a segment that
waits for a failed scrub; a frame whose source fails is left as it is and counted, one whose source is good is rewritten from
it, in the active plane or in the staged one. -/
def Obligations.Readback : Prop :=
  (∀ (ce : Fin 65) (bad : Bool) (s : State), (s.getB Reg.CFG_SCRUB_CTL 31 = false ∨ s.scrubDue = false ∨ s.scrubNext 200 s.cfg.scrubAt = none) →
    exec (.scrubRead ce bad) s = .next s) ∧
  (∀ (s : State), s.scrubDue = decide (((640 * max 1 (s.getF Reg.CFG_SCRUB_CTL 15 0) : Nat) : Int) ≤ tdiff s.time s.cfg.scrubTime)) ∧
  (∀ (ce : Fin 65) (bad : Bool) (s u v : State) (n a : Nat) (st : Bool), s.getB Reg.CFG_SCRUB_CTL 31 = true → s.scrubDue = true →
    s.scrubNext 200 s.cfg.scrubAt = some (n, st, a) →
    u = { s with cfg := { s.cfg with scrubAt := n + 1, scrubStaged := st, scrubTime := s.time } } →
    v = (if ce.val = 0 then u else (u.addF Reg.CFG_SCRUB_CE 31 0 ce).raise 162 2) →
    ((bad = true ∨ v.stillDisc st a = true) → exec (.scrubRead ce bad) s = .next (v.askRewrite st a)) ∧
    (bad = false → v.stillDisc st a = false → exec (.scrubRead ce bad) s = .next v)) ∧
  (∀ (src : Bool) (s : State), s.cfg.rewrites = [] → exec (.scrubRewriteDone src) s = .next s) ∧
  (∀ (src : Bool) (s u : State) (st b : Bool) (a : Nat) (l : List (Bool × Nat × Bool)), s.cfg.rewrites = (st, a, b) :: l →
    u = ({ s with cfg := { s.cfg with rewrites := l } } : State).setR Reg.CFG_SCRUB_LAST (BitVec.ofNat 32 a) →
    ((src = false ∨ u.sourceFrame st a = none) → exec (.scrubRewriteDone src) s =
      .next (if fClass a = 0 then ((u.incR Reg.CFG_SCRUB_SRC_ERR).raise 162 4).noteDisc (fSector a) else (u.incR Reg.CFG_SCRUB_SRC_ERR).raise 162 4)) ∧
    (∀ f v, src = true → u.sourceFrame st a = some f →
      v = { u with cfg := { u.cfg with active := if st then u.cfg.active else planePut u.cfg.active a f,
                                       staged := if st then planePut u.cfg.staged a f else u.cfg.staged } } →
      exec (.scrubRewriteDone src) s = .next (((v.incR Reg.CFG_SCRUB_FIX).raise 162 1).sectorRewritten st a))) ∧
  (∀ (s u v : State) (st : Bool) (a : Nat), u = s.raise (64 + fSector a) 2 →
    v = (if st then u else u.setSector (fSector a) { u.sector (fSector a) with
      disc := (u.sector (fSector a)).disc.filter (fun seg => selectAddr (fSector a) seg != a) }) →
    s.sectorRewritten st a = if fClass a = 0 ∨ fClass a = 1 ∨ fClass a = 4 then (v.noteDisc (fSector a)).sectorFault (fSector a) a 7 else s)

/-- The clock of the fabric (R189, R192, R203–R205, R213, R223–R226, R230, R237): an edge of a global tree is sampled by the
trace that names it, and then taken at once by every sector that runs, from the levels just before it, and by no other; a
flip-flop or macrocell register whose regional clock is gated off or from another tree takes nothing but its asynchronous
controls; SR goes before CE and CLR before PRE; a disabled block RAM port and a multiplier without CE or RST keep their
registers. No register of the register map changes by the edge alone. Probes (R213–R215): a pin that is not spare or that
carries another channel is refused with PIN_ERR, another is stored; a channel shows the bit of its probe index, and 0 where it
is not enabled, its index is reserved or its sector is not ON; the indices name registers, the output registers of block RAMs,
read 0 while OUTREG is 0, and P of the multipliers. The trace buffer (R216–R218): ARM takes the settings and empties the buffer
from IDLE and DONE and is ignored in ARMED and TRIGGERED and for a reserved source; STOP ends any state but IDLE, FORCE needs
one too, and what is ignored sets CMD_ERR; the edges of the tree that the trace names are sampled with their time to 1 ns, in
mode 1 only where a value has changed; an armed buffer tests the trigger at each; the trigger fixes the position and the samples
still to come, and the last of them ends it, with its user event where that is enabled; a read returns words of the window, and
the orders of the command are those of the register. -/
def Obligations.ProbesAndTrace : Prop :=
  ((∀ (t : Fin 32) (v : DWord) (q : Fin 160) (s : State), exec (.samplingEdge t v q) s = .next
    ((if fld s.fab.trace.ctl 22 18 = t.val then s.trcSample (s.probeValues t v) (s.time + BitVec.ofNat 64 q.val) else s).treeEdge t)) ∧
  (∀ (s : State) (t i : Nat), tabWf (fun _ => ({} : Sector)) s.fab.sectors = true → i < 48 →
    (s.sectorLive i = true → (s.treeEdge t).sector i = s.sectorEdge t i) ∧ (s.sectorLive i = false → (s.treeEdge t).sector i = s.sector i)) ∧
  (∀ (s : State) (t : Nat), (s.treeEdge t).regs = s.regs ∧ (s.treeEdge t).eng = s.eng ∧ (s.treeEdge t).cfg = s.cfg ∧ (s.treeEdge t).act = s.act) ∧
  (∀ (s : State) (t i f : Nat), f < 24576 → ((s.sectorEdge t i).ffs.contains f = s.registerNext t i f)) ∧
  (∀ (s : State) (t i b f : Nat), f < 32 → s.registerNext t i (48 * b + f) =
    s.ffNext s.level i b (f / 2) (f % 2 == 1) (s.clocks t i (s.quarterOf i b (f / 8)).clk.toNat)) ∧
  (∀ (s : State) (t i b m : Nat), m < 16 → s.registerNext t i (48 * b + 32 + m) =
    s.cellNext s.level i b m (s.clocks t i (s.cellOf i b m).clk.toNat)) ∧
  (∀ (s : State) (t i j : Nat), s.clocks t i j = true ↔ s.sectorLive i = true ∧ s.getB (Reg.SEC_RCLK_GATE i) j = true ∧
    s.getB (Reg.SEC_RCLK i j) 7 = true ∧ s.getF (Reg.SEC_RCLK i j) 4 0 = t) ∧
  (∀ (a v q d e ce : Bool), slotFf a v q d true ce true = v ∧ slotFf true v q d e ce true = v ∧ slotFf a v q d true true false = d ∧
    slotFf a v q d true false false = q ∧ slotFf a v q d false ce false = q ∧ slotFf false v q d false ce true = q) ∧
  (∀ (p o r e ce pre : Bool) (m : BitVec 2), m ≠ 0 → cellReg m p o r e ce true pre = false ∧ cellReg m p o r e ce false true = true ∧
    cellReg m p o r false ce false false = r ∧ cellReg m p o r e false false false = r) ∧
  (∀ (p o r : Bool), cellReg 1 p o r true true false false = xor o p ∧ cellReg 2 p o r true true false false = xor r (xor o p)) ∧
  (∀ (s : State) (i k p : Nat) (x : Sector), s.bramIn i k p 0 1 = 0 → s.bramEdge i k p x =
    { x with bramOut := tabPut (fun _ => 0) x.bramOut (2 * k + p) (tabGet (fun _ => 0) x.bramRd (2 * k + p)) }) ∧
  (∀ (s : State) (i k : Nat) (x : Sector), s.mulEdge i k x =
    if s.mulInputs i k 1 1 = 1 then
      { x with mulP := tabPut (fun _ => 0) x.mulP k 0, mulOvf := x.mulOvf.filter (fun r => r != k),
               mulIn := x.mulIn.filter (fun r => r.1 / 3 != k) }
    else if s.mulInputs i k 0 1 = 0 then x
    else { x with mulP := (s.mulEdge i k x).mulP, mulOvf := (s.mulEdge i k x).mulOvf, mulIn := (s.mulEdge i k x).mulIn })) ∧
  ((∀ (c : Fin 64) (w : Word) (s : State), (1152 ≤ fld w 10 0 ∨ (s.pin (fld w 10 0)).spare = false ∨
      ∃ d, d < 64 ∧ d ≠ c.val ∧ s.getB (Reg.TST_PRB_PIN d) 31 = true ∧ s.getF (Reg.TST_PRB_PIN d) 10 0 = fld w 10 0) →
    exec (.prbPinWrite c w) s = .next (s.setB Reg.PRB_STAT 0 true)) ∧
  (∀ (c : Fin 64) (w : Word) (s : State), fld w 10 0 < 1152 →
    (∀ d, d < 64 → d ≠ c.val → s.getB (Reg.TST_PRB_PIN d) 31 = true → s.getF (Reg.TST_PRB_PIN d) 10 0 ≠ fld w 10 0) →
    exec (.prbPinWrite c w) s = .next (if (s.pin (fld w 10 0)).spare then s.store (Reg.TST_PRB_PIN c) w else s.setB Reg.PRB_STAT 0 true)) ∧
  (∀ (s : State) (c : Nat), s.probeLevel c = (s.probeLive c && s.probeBit (s.getF (Reg.TST_PRB_SEL c) 20 15) (s.getF (Reg.TST_PRB_SEL c) 14 0))) ∧
  (∀ (s : State) (c : Nat), s.probeLive c = true ↔ s.getB (Reg.TST_PRB_SEL c) 31 = true ∧ s.getF (Reg.TST_PRB_SEL c) 20 15 < 48 ∧
    s.getF (Reg.TST_PRB_SEL c) 14 0 < 28928 ∧ s.domOn (domSector (s.getF (Reg.TST_PRB_SEL c) 20 15)) = true) ∧
  (∀ (s : State) (i b f : Nat), b < 512 → f < 32 →
    s.probeBit i (48 * b + f) = s.ffNext s.level i b (f / 2) (f % 2 == 1) false) ∧
  (∀ (s : State) (i b f : Nat), b < 512 → f < 16 → s.probeBit i (48 * b + 32 + f) = s.cellNext s.level i b f false) ∧
  (∀ (s : State) (i k b : Nat), k < 32 → b < 72 → s.probeBit i (24576 + 72 * k + b) =
    ((s.bramOf i k).a.outReg && (tabGet (fun _ => 0) (s.sector i).bramOut (2 * k)).testBit b)) ∧
  (∀ (s : State) (i k b : Nat), k < 32 → b < 64 → s.probeBit i (26880 + 64 * k + b) =
    (tabGet (fun _ => (0 : DWord)) (s.sector i).mulP k).toNat.testBit b)) ∧
  ((∀ (w : Word) (s : State), (bitOf w 0 = true → exec (.trcArm (.reg w)) s = .next (s.writeTrcCmd w)) ∧
    (bitOf w 1 = true → exec (.trcStop (.reg w)) s = .next (s.writeTrcCmd w)) ∧
    (bitOf w 2 = true → exec (.trcForce (.reg w)) s = .next (s.writeTrcCmd w)) ∧
    (bitOf w 0 = false → exec (.trcArm (.reg w)) s = .next s) ∧
    (bitOf w 1 = false → exec (.trcStop (.reg w)) s = .next s) ∧
    (bitOf w 2 = false → exec (.trcForce (.reg w)) s = .next s)) ∧
  (∀ (c : CmdRef) (s u t : State) (x : Command) (b : Nat), s.turn c 8 3 = some x → beAt x.payload 8 1 < 8 → (beAt x.payload 8 1).testBit b = true →
    u = (s.store Reg.TRC_CTL (BitVec.ofNat 32 (beAt x.payload 0 4))).store Reg.TRC_POST (BitVec.ofNat 32 (beAt x.payload 4 4)) →
    t = (u.setB Reg.PRB_STAT 1 false).writeTrcCmd (BitVec.ofNat 32 (beAt x.payload 8 1)) →
    s.trcCommand c b = (t.setB Reg.PRB_STAT 1 (t.getB Reg.PRB_STAT 1 || u.getB Reg.PRB_STAT 1)).replyTo x
      (if t.getB Reg.PRB_STAT 1 then csBUSY else csOK) true []) ∧
  (∀ (c : CmdRef) (s : State), exec (.trcArm (.cmd c)) s = .next (s.trcCommand c 0) ∧ exec (.trcStop (.cmd c)) s = .next (s.trcCommand c 1) ∧
    exec (.trcForce (.cmd c)) s = .next (s.trcCommand c 2)) ∧
  (∀ (w : Word) (s : State), bitOf w 0 = true → bitOf w 1 = false → bitOf w 2 = false → s.writeTrcCmd w = s.trcArm) ∧
  (∀ (w : Word) (s : State), bitOf w 0 = false → bitOf w 1 = true → bitOf w 2 = false → s.writeTrcCmd w = s.trcStop) ∧
  (∀ (w : Word) (s : State), bitOf w 0 = false → bitOf w 1 = false → bitOf w 2 = true → s.writeTrcCmd w = s.trcForce) ∧
  (∀ s : State, (s.trcState = 1 ∨ s.trcState = 2 ∨ 4 ≤ s.getF Reg.TRC_CTL 16 14) → s.trcArm = s.setB Reg.PRB_STAT 1 true) ∧
  (∀ s u : State, s.trcState ≠ 1 → s.trcState ≠ 2 → s.getF Reg.TRC_CTL 16 14 < 4 →
    u = s.setTrace { ctl := s.getR Reg.TRC_CTL, post := min 16384 (s.getF Reg.TRC_POST 14 0), mask := s.getD Reg.TRC_MASK,
                     val := s.getD Reg.TRC_VAL, time := s.getD Reg.TRC_TIME } →
    s.trcArm = (({ u with evt := { u.evt with
      trigEv := if s.getF Reg.TRC_CTL 16 14 = 3 then some (256 + s.getF Reg.TRC_CTL 13 8) else none, trigSeen := false } } : State).setR
        Reg.TRC_STAT 1).setR Reg.TRC_OLDEST 0) ∧
  (∀ s : State, s.trcStop = if s.trcState = 0 then s.setB Reg.PRB_STAT 1 true else s.setF Reg.TRC_STAT 1 0 3) ∧
  (∀ s : State, s.trcForce = if s.trcState = 0 then s.setB Reg.PRB_STAT 1 true else s.setTrace { s.fab.trace with forced := true }) ∧
  (∀ (s : State) (v t : DWord), s.trcState = 1 → s.fab.trace.hit = false → ∃ u,
    u = (if bitOf s.fab.trace.ctl 17 = false ∨ s.fab.trace.lastV ≠ some v ∨ s.trcHit v t = true then s.trcStore v t else s) ∧
    s.trcSample v t = u.setTrace { u.fab.trace with hit := s.trcHit v t }) ∧
  (∀ (s u : State) (v t : DWord), s.trcState = 2 → s.fab.trace.left ≠ 0 → (bitOf s.fab.trace.ctl 17 = false ∨ s.fab.trace.lastV ≠ some v) →
    u = s.trcStore v t → s.trcSample v t = u.setTrace { u.fab.trace with left := s.fab.trace.left - 1 }) ∧
  (∀ (s : State) (v t : DWord), (s.trcState = 0 ∨ s.trcState = 3 ∨ (s.trcState = 1 ∧ s.fab.trace.hit = true) ∨
    (s.trcState = 2 ∧ (s.fab.trace.left = 0 ∨ (bitOf s.fab.trace.ctl 17 = true ∧ s.fab.trace.lastV = some v)))) → s.trcSample v t = s) ∧
  (∀ s : State, s.trcState = 1 → s.fab.trace.hit = true → exec .traceTrigger s =
    .next (((s.setF Reg.TRC_STAT 1 0 2).setF Reg.TRC_TRIG 13 0 ((s.fab.trace.next + 16383) % 16384)).setTrace
      { s.fab.trace with hit := false, left := s.fab.trace.post })) ∧
  (∀ s : State, (s.trcState ≠ 1 ∨ s.fab.trace.hit = false) → exec .traceTrigger s = .next s) ∧
  (∀ s : State, s.trcState = 2 → s.fab.trace.left = 0 → exec .traceDone s =
    .next (if bitOf s.fab.trace.ctl 23 then (s.setF Reg.TRC_STAT 1 0 3).raise (256 + fld s.fab.trace.ctl 29 24) 0x80000000
           else s.setF Reg.TRC_STAT 1 0 3)) ∧
  (∀ s : State, (s.trcState ≠ 2 ∨ s.fab.trace.left ≠ 0) → exec .traceDone s = .next s) ∧
  (∀ (c : CmdRef) (s : State) (x : Command), s.turn c 8 4 = some x → beAt x.payload 0 2 < 16384 → 1 ≤ beAt x.payload 2 1 → beAt x.payload 2 1 ≤ 90 →
    exec (.trcRead c) s = .next (s.replyTo x csOK true ((List.range (beAt x.payload 2 1)).flatMap (fun i => (List.range 4).flatMap (fun k =>
      beBytes 4 (s.trcWord (beAt x.payload 0 2 + i) k).toNat))))) ∧
  (∀ (c : CmdRef) (s : State) (x : Command), s.turn c 8 4 = some x →
    (16384 ≤ beAt x.payload 0 2 ∨ beAt x.payload 2 1 = 0 ∨ 90 < beAt x.payload 2 1) →
    exec (.trcRead c) s = .next (s.replyTo x csBADPARAM true [])) ∧
  (∀ (s : State) (i k : Nat), (s.trcState = 1 ∨ s.trcState = 2) → s.trcWord i k = 0))

/-- Errors of block RAMs and multipliers (R227–R229, R232, R239): one found in a block whose ECC is on and whose domain is ON is
counted, makes the last-error record and raises its cause before it is held against the squall window; an uncorrectable one
leaves the port a word that is open, with ERR; a sweep read waits for its interval and steps through the block; a role that no
block serves has no error. The spares of block RAMs and multipliers (R234–R237, R240): MOVE starts a copy, or puts the
multiplier role on the spare at once; RETURN brings the role home; each needs a spare that is not busy, used or absent as it
says, and else sets CMD_ERR; another CMD is no order. At the end of a copy the errors that it found are handled, and the role is
on the spare or back home. The end of an initialisation may complete the Front. -/
def Obligations.MemoriesAndSpares : Prop :=
  ((∀ (i : Fin 48) (k : Fin 33) (p : Fin 2) (word : Fin 512) (bit : Fin 72) (s : State), s.domOn (domSector i) = true →
    exec (.bramEccError i k p word bit false) s = .next (if s.eccOn i k then s.bramError i k word bit false else s) ∧
    exec (.bramEccError i k p word bit true) s = .next (if s.eccOn i k then (s.bramBad i k p word).bramError i k word bit true else s)) ∧
  (∀ (i : Fin 48) (k : Fin 33) (p : Fin 2) (word : Fin 512) (bit : Fin 72) (ue : Bool) (s : State),
    (s.domOn (domSector i) = false ∨ s.eccOn i k = false) → exec (.bramEccError i k p word bit ue) s = .next s) ∧
  (∀ (s : State) (i k word bit role : Nat), s.memRole 1 i k = some role →
    s.bramError i k word bit false = (((s.addF (Reg.SEC_MEM_CE_CNT i) 15 0 1).memInfo i false false (k == 32) role bit word).raise
      (64 + i) 16).memFault 1 i k (BitVec.ofNat 32 word) 3 bit ∧
    s.bramError i k word bit true = (((s.addF (Reg.SEC_MEM_UE_CNT i) 15 0 1).memInfo i true false (k == 32) role 127 word).raise
      (64 + i) 32).memFault 1 i k (BitVec.ofNat 32 word) 4 255) ∧
  (∀ (s : State) (i k word bit : Nat) (ue : Bool), s.memRole 1 i k = none → s.bramError i k word bit ue = s) ∧
  (∀ (s : State) (i : Nat) (ue mul spare : Bool) (role bit word : Nat), s.memInfo i ue mul spare role bit word =
    (s.setR (Reg.SEC_MEM_ERR_INFO i) (BitVec.ofNat 32 (2 ^ 31 + ue.toNat <<< 30 + mul.toNat <<< 29 + spare.toNat <<< 28 +
      role <<< 23 + bit <<< 16 + word))).setD (Reg.SEC_MEM_ERR_TIME i) s.time) ∧
  (∀ (s t : State) (kind i k : Nat) (addr : Word) (cause bit : Nat) (l : Bool),
    s.countFault kind (memUnit i k) (squallCfg (s.getR (Reg.SEC_MEM_SQUALL i))) = (t, l) → s.memFault kind i k addr cause bit =
      if l then (if kind = 1 then t.bramLasting i k addr cause bit else t.mulLasting i k addr cause bit) else t) ∧
  (∀ (i : Fin 48) (k : Fin 33) (bit : Fin 72) (s u : State), s.getB (Reg.SEC_MEM_SWEEP i) 31 = true → s.domOn (domSector i) = true →
    s.sweepDue i k = true → u = s.setSector i { s.sector i with
      sweep := tabPut (fun _ => 0) (s.sector i).sweep k ((tabGet (fun _ => 0) (s.sector i).sweep k + 1) % 512),
      sweepAt := tabInsert (s.sector i).sweepAt k s.time } →
    exec (.memSweepRead i k .clean bit) s = .next (if s.eccOn i k then u else s) ∧
    exec (.memSweepRead i k .corrected bit) s = .next (if s.eccOn i k then
      u.bramError i k (tabGet (fun _ => 0) (s.sector i).sweep k) bit false else s) ∧
    exec (.memSweepRead i k .uncorrectable bit) s = .next (if s.eccOn i k then
      u.bramError i k (tabGet (fun _ => 0) (s.sector i).sweep k) bit true else s)) ∧
  (∀ (i : Fin 48) (k : Fin 33) (e : Ecc) (bit : Fin 72) (s : State), (s.getB (Reg.SEC_MEM_SWEEP i) 31 = false ∨ s.domOn (domSector i) = false ∨
    s.eccOn i k = false ∨ s.sweepDue i k = false) → exec (.memSweepRead i k e bit) s = .next s) ∧
  (∀ (i : Fin 48) (k : Fin 33) (s : State) (role : Nat), s.domOn (domSector i) = true → s.memRole 2 i k = some role →
    exec (.residueMismatch i k) s = .next (((s.addF (Reg.SEC_MUL_ERR_CNT i) 15 0 1).memInfo i false true (k.val == 32) role 0 0).memFault 2 i k
      0xFFFFFFFF 5 255)) ∧
  (∀ (i : Fin 48) (k : Fin 33) (s : State), (s.domOn (domSector i) = false ∨ s.memRole 2 i k = none) →
    exec (.residueMismatch i k) s = .next s)) ∧
  ((∀ (i : Fin 48) (w : Word) (s : State), fld w 31 30 = 1 → bitOf w 8 = false → s.getB (Reg.SEC_SPARE_BRAM i) 31 = false →
    s.getB (Reg.SEC_SPARE_BRAM i) 30 = false → s.getB (Reg.SEC_SPARE_BRAM i) 29 = false → (∀ sl, s.memSlice 1 i = some sl → sl.heldBy = none) →
    exec (.memMove i w) s = .next ((s.setSector i { s.sector i with move := some { role := fld w 4 0, toSpare := true } }).setB
      (Reg.SEC_SPARE_BRAM i) 30 true)) ∧
  (∀ (i : Fin 48) (w : Word) (s : State), fld w 31 30 = 1 → bitOf w 8 = true → s.getB (Reg.SEC_SPARE_MUL i) 31 = false →
    s.getB (Reg.SEC_SPARE_MUL i) 30 = false → s.getB (Reg.SEC_SPARE_MUL i) 29 = false → (∀ sl, s.memSlice 2 i = some sl → sl.heldBy = none) →
    exec (.memMove i w) s = .next ((s.setR (Reg.SEC_SPARE_MUL i) (BitVec.ofNat 32 (2 ^ 31 + fld w 4 0))).raise (64 + i) 64)) ∧
  (∀ (i : Fin 48) (w : Word) (s : State) (k : Nat), k = (if bitOf w 8 then 2 else 1) → fld w 31 30 = 1 →
    (s.getB (spareReg k i) 31 = true ∨ s.getB (spareReg k i) 30 = true ∨ s.getB (spareReg k i) 29 = true ∨
      ∃ sl, s.memSlice k i = some sl ∧ sl.heldBy.isSome = true) →
    exec (.memMove i w) s = .next (s.setB (Reg.SEC_MEM_STAT i) 0 true)) ∧
  (∀ (i : Fin 48) (w : Word) (s : State), fld w 31 30 = 2 → bitOf w 8 = false → s.getB (Reg.SEC_SPARE_BRAM i) 31 = true →
    s.getB (Reg.SEC_SPARE_BRAM i) 30 = false → (∀ sl, s.memSlice 1 i = some sl → sl.heldBy = none) →
    s.getF (Reg.SEC_SPARE_BRAM i) 4 0 = fld w 4 0 → s.getB (Reg.SEC_BRAM_RETIRED i) (fld w 4 0) = false →
    exec (.memReturn i w) s = .next ((s.setSector i { s.sector i with move := some { role := fld w 4 0, toSpare := false } }).setB
      (Reg.SEC_SPARE_BRAM i) 30 true)) ∧
  (∀ (i : Fin 48) (w : Word) (s : State), fld w 31 30 = 2 → bitOf w 8 = true → s.getB (Reg.SEC_SPARE_MUL i) 31 = true →
    s.getB (Reg.SEC_SPARE_MUL i) 30 = false → (∀ sl, s.memSlice 2 i = some sl → sl.heldBy = none) →
    s.getF (Reg.SEC_SPARE_MUL i) 4 0 = fld w 4 0 → s.getB (Reg.SEC_MUL_RETIRED i) (fld w 4 0) = false →
    exec (.memReturn i w) s = .next ((s.setB (Reg.SEC_SPARE_MUL i) 31 false).setF (Reg.SEC_SPARE_MUL i) 4 0 0)) ∧
  (∀ (i : Fin 48) (w : Word) (s : State) (k : Nat), k = (if bitOf w 8 then 2 else 1) → fld w 31 30 = 2 →
    (s.getB (spareReg k i) 31 = false ∨ s.getB (spareReg k i) 30 = true ∨ s.getF (spareReg k i) 4 0 ≠ fld w 4 0 ∨
      s.getB (if k = 1 then Reg.SEC_BRAM_RETIRED i else Reg.SEC_MUL_RETIRED i) (fld w 4 0) = true ∨
      ∃ sl, s.memSlice k i = some sl ∧ sl.heldBy.isSome = true) →
    exec (.memReturn i w) s = .next (s.setB (Reg.SEC_MEM_STAT i) 0 true)) ∧
  (∀ (i : Fin 48) (w : Word) (s : State), (fld w 31 30 ≠ 1 → exec (.memMove i w) s = .next s) ∧
    (fld w 31 30 ≠ 2 → exec (.memReturn i w) s = .next s)) ∧
  (∀ (i : Fin 48) (s : State) (m : BramMove), (s.sector i).move = some m → exec (.bramCopyDone i []) s = .next (s.bramDone i m)) ∧
  (∀ (i : Fin 48) (e : List (Fin 512 × Fin 72 × Bool)) (s t : State) (m m' : BramMove), (s.sector i).move = some m →
    t = (if s.eccOn i m.from_ then e.foldl (fun s e => s.bramError i m.from_ e.1 e.2.1 e.2.2) s else s) → (t.sector i).move = some m' →
    exec (.bramCopyDone i e) s = .next (t.bramDone i m')) ∧
  (∀ (i : Fin 48) (e : List (Fin 512 × Fin 72 × Bool)) (s : State), (s.sector i).move = none → exec (.bramCopyDone i e) s = .next s) ∧
  (∀ (s : State) (i : Nat) (m : BramMove), m.toSpare = true → m.fault = false → m.drizzle = false →
    s.bramDone i m = ((((s.setSector i { s.sector i with move := none }).setB (Reg.SEC_SPARE_BRAM i) 30 false).setB
      (Reg.SEC_SPARE_BRAM i) 31 true).setF (Reg.SEC_SPARE_BRAM i) 4 0 m.role).raise (64 + i) 64) ∧
  (∀ (s : State) (i : Nat) (m : BramMove), m.toSpare = true → m.fault = true → m.drizzle = false →
    s.bramDone i m = (((((s.setSector i { s.sector i with move := none }).setB (Reg.SEC_SPARE_BRAM i) 30 false).setB
      (Reg.SEC_SPARE_BRAM i) 31 true).setF (Reg.SEC_SPARE_BRAM i) 4 0 m.role).setB (Reg.SEC_BRAM_RETIRED i) m.role true).raise (64 + i) 64) ∧
  (∀ (s u : State) (i : Nat) (m : BramMove), m.toSpare = false → m.drizzle = false →
    u = (((s.setSector i { s.sector i with move := none }).setB (Reg.SEC_SPARE_BRAM i) 30 false).setB (Reg.SEC_SPARE_BRAM i) 31 false).setF
      (Reg.SEC_SPARE_BRAM i) 4 0 0 → (u.sector i).nextMove = none → s.bramDone i m = u) ∧
  (∀ (i : Fin 48) (k : Fin 32) (s : State), s.getB (Reg.SEC_MEM_INIT_BUSY i) k = true →
    exec (.bramInitDone i k) s = .next (s.setB (Reg.SEC_MEM_INIT_BUSY i) k false).frontComplete) ∧
  (∀ (i : Fin 48) (k : Fin 32) (s : State), s.getB (Reg.SEC_MEM_INIT_BUSY i) k = false → exec (.bramInitDone i k) s = .next s))

/-- Stagings as they are commanded (R256, R260–R263, R404): ABORT of CFG_STG_CTL acts before GO; a request that finds a staging
or a Front under way is refused BUSY, one with a reserved source BAD_PARAM, one from a slot that holds no image or is under
erase SLOT_BUSY; else it begins, with the crypto block and its stream taken. The host's stream is taken in order, its end waits
for the load, an abort and a gap of 100 ms end it with a status. Slots (R244, R245, R270, R399): an erase is refused SLOT_BUSY
while the slot is a source, is loading, holds start-up images outside SERVICE, or is in use by a staging or another erase; else
it waits, and its end leaves the slot empty with its registers at reset, with EV161 where that changes its state; SLOT_STAT
returns the eight registers of a slot. A slot above 3 is no slot. -/
def Obligations.StagingsAndSlots : Prop :=
  ((∀ (w : Word) (s : State), (bitOf w 0 = true → exec (.stagingGo (.reg w)) s = .next (s.writeStgCtl w)) ∧
    (bitOf w 0 = false → exec (.stagingGo (.reg w)) s = .next s) ∧
    (bitOf w 1 = true → exec (.stgAbort (.reg w)) s = .next (s.writeStgCtl w)) ∧
    (bitOf w 1 = false → exec (.stgAbort (.reg w)) s = .next s)) ∧
  (∀ (w : Word) (s u : State), u = s.store Reg.CFG_STG_CTL w →
    (bitOf w 1 = false → bitOf w 0 = true → s.writeStgCtl w = u.stagingGo) ∧
    (bitOf w 1 = true → bitOf w 0 = false → s.writeStgCtl w = u.endLoad 27 0) ∧
    (bitOf w 1 = true → bitOf w 0 = true → s.writeStgCtl w = (u.endLoad 27 0).stagingGo)) ∧
  (∀ s : State, (s.cfg.staging.isSome = true ∨ s.frontBusy = true) → s.stagingGo = (s.setF Reg.CFG_STG_STAT 12 8 13).raise 160 32) ∧
  (∀ s : State, s.cfg.staging = none → s.frontBusy = false → (2 ≤ s.getF Reg.CFG_STG_CTL 31 30 ∨ s.getF Reg.CFG_STG_CTL 29 28 = 1) →
    s.stagingGo = (s.setF Reg.CFG_STG_STAT 12 8 4).raise 160 32) ∧
  (∀ s : State, s.cfg.staging = none → s.frontBusy = false → s.getF Reg.CFG_STG_CTL 31 30 = 0 → s.getF Reg.CFG_STG_CTL 29 28 ≠ 1 →
    s.stagingGo = (s.stgRequest (.slot (s.getF Reg.CFG_STG_CTL 27 26)) 0 { src := .slot 0, dest := none }).1) ∧
  (∀ (s : State) (a : Nat), s.cfg.staging = none → s.frontBusy = false → s.getF Reg.CFG_STG_CTL 31 30 = 1 → s.getF Reg.CFG_STG_CTL 29 28 ≠ 1 →
    a = (s.getD Reg.CFG_STG_KEY).toNat → s.stagingGo = (s.stgRequest (.key a) (s.getF Reg.CFG_STG_CTL 29 28)
      { src := .key a, dest := none, storeOnly := s.getB Reg.CFG_STG_CTL 5, forward := s.getB Reg.CFG_STG_CTL 4, len := s.keyImageLen a }).1) ∧
  (∀ (s : State) (k : Nat) (g : Staging), s.cfg.staging = none → s.frontBusy = false → 2 ≤ k → s.slotState k = 2 →
    (∀ e ∈ s.cfg.erasing, e.1 ≠ k) → g.storeOnly = false →
    s.stgRequest (.slot k) 0 g = (((({ s.useCrypto with cfg := { s.cfg with staging := some { g with src := .slot k, dest := none } } } : State).setB
      Reg.CFG_STG_STAT 3 true).setF Reg.CFG_STG_STAT 31 13 0).streamTake 2, 0)) ∧
  (∀ (s : State) (k : Nat) (g : Staging), s.cfg.staging = none → s.frontBusy = false →
    (k < 2 → s.stgRequest (.slot k) 0 g = ((s.setF Reg.CFG_STG_STAT 12 8 4).raise 160 32, 4)) ∧
    (2 ≤ k → (s.slotState k ≠ 2 ∨ ∃ e ∈ s.cfg.erasing, e.1 = k) →
      s.stgRequest (.slot k) 0 g = ((s.setF Reg.CFG_STG_STAT 12 8 14).raise 160 32, 14))) ∧
  (∀ (c : CmdRef) (s t : State) (x : Command) (st : Nat), s.turn c 3 4 = some x →
    ((beAt x.payload 1 1 ≠ 0 ∨ 3 < beAt x.payload 0 1) → exec (.stagingGo (.cmd c)) s = .next (s.replyTo x csBADPARAM true [])) ∧
    (beAt x.payload 1 1 = 0 → beAt x.payload 0 1 ≤ 3 →
      s.stgRequest (.slot (beAt x.payload 0 1)) 0 { src := .slot 0, dest := none, cmd := some c } = (t, st) →
      exec (.stagingGo (.cmd c)) s = .next (if st = 0 then t.pendingReply x else t.replyTo x (csOf 2 st) true (beBytes 1 st)))) ∧
  (∀ (c : CmdRef) (s t : State) (x : Command) (st : Nat), s.turn c 3 0 = some x → beAt x.payload 0 1 ≠ 1 → beAt x.payload 0 1 ≤ 5 →
    beAt x.payload 1 1 ≤ 1 →
    s.stgRequest .host (beAt x.payload 0 1) { src := .host, dest := none, storeOnly := beAt x.payload 1 1 == 1 } = (t, st) →
    (st = 0 → exec (.stgBegin c) s =
      .next (({ t with cfg := { t.cfg with host := some { total := beAt x.payload 2 4, last := t.time } } } : State).replyTo x csOK true [])) ∧
    (st ≠ 0 → exec (.stgBegin c) s = .next (t.replyTo x (csOf 2 st) true []))) ∧
  (∀ (c : CmdRef) (s : State) (x : Command), s.turn c 3 0 = some x → (beAt x.payload 0 1 = 1 ∨ 5 < beAt x.payload 0 1 ∨ 1 < beAt x.payload 1 1) →
    exec (.stgBegin c) s = .next (s.replyTo x csBADPARAM true [])) ∧
  (∀ (c : CmdRef) (s u : State) (x : Command) (g : Staging) (h : HostStream), s.turn c 3 1 = some x → s.cfg.staging = some g → s.cfg.host = some h →
    g.src = .host → h.closed = false → h.result = none → beAt x.payload 0 4 = h.next →
    u = { s with cfg := { s.cfg with
      staging := some { g with stream := g.stream ++ x.payload.drop 4, ended := decide (h.total ≤ h.next + (x.payload.drop 4).length) },
      host := some { h with next := h.next + (x.payload.drop 4).length, last := s.time } } } →
    (u.warned = false → exec (.stgData c) s = .next (u.replyTo x csOK true [])) ∧
    (u.warned = true → exec (.stgData c) s = .next (u.awaitReply x))) ∧
  (∀ (c : CmdRef) (s : State) (x : Command), s.turn c 3 1 = some x → (s.cfg.staging = none ∨ s.cfg.host = none ∨
      ∃ g h, s.cfg.staging = some g ∧ s.cfg.host = some h ∧ (g.src ≠ .host ∨ h.closed = true ∨ h.result.isSome ∨ beAt x.payload 0 4 ≠ h.next)) →
    exec (.stgData c) s = .next (s.replyTo x csBADPARAM true [])) ∧
  (∀ (c : CmdRef) (s : State) (x : Command) (h : HostStream), s.turn c 3 2 = some x → s.cfg.host = some h →
    (∀ st n a, h.result = some (st, n, a) → exec (.stgEnd c) s =
      .next (s.replyTo x (csOf (if st = 0 then 0 else 2) st) true (beBytes 1 st ++ beBytes 4 n ++ beBytes 4 a))) ∧
    (h.result = none → exec (.stgEnd c) s = .next (({ s with cfg := { s.cfg with
      host := some { h with closed := true }, staging := s.cfg.staging.map (fun g => { g with cmd := some c }) } } : State).pendingReply x))) ∧
  (∀ (c : CmdRef) (s : State) (x : Command), s.turn c 3 2 = some x → s.cfg.host = none → exec (.stgEnd c) s =
    .next (s.replyTo x (csOf (if s.getF Reg.CFG_STG_STAT 12 8 = 0 then 0 else 2) (s.getF Reg.CFG_STG_STAT 12 8)) true
      (beBytes 1 (s.getF Reg.CFG_STG_STAT 12 8) ++ beBytes 4 (s.getF Reg.CFG_STG_STAT 31 13) ++ beBytes 4 (s.getR Reg.CFG_STG_ERR_ADDR).toNat))) ∧
  (∀ (c : CmdRef) (s : State) (x : Command), s.turn c 3 3 = some x →
    exec (.stgAbort (.cmd c)) s = .next ((s.endLoad 27 0).replyTo x csOK true [])) ∧
  (∀ (s : State) (g : Staging) (h : HostStream), s.cfg.staging = some g → s.cfg.host = some h →
    (g.src = .host → h.next < h.total → (6400000000 : Int) ≤ tdiff s.time h.last → exec .hostStreamGap s = .next (s.endLoad 22 0)) ∧
    ((g.src ≠ .host ∨ h.total ≤ h.next ∨ tdiff s.time h.last < 6400000000) → exec .hostStreamGap s = .next s)) ∧
  (∀ s : State, s.cfg.staging = none → exec .hostStreamGap s = .next s ∧ s.endLoad 27 0 = s)) ∧
  ((∀ (c : CmdRef) (s : State) (x : Command), s.turn c 3 5 = some x →
    (3 < beAt x.payload 0 1 → exec (.slotErase c) s = .next (s.replyTo x csBADPARAM true [])) ∧
    (beAt x.payload 0 1 ≤ 3 → s.eraseRefused (beAt x.payload 0 1) = true → exec (.slotErase c) s = .next (s.replyTo x (csOf 2 14) true [])) ∧
    (beAt x.payload 0 1 ≤ 3 → s.eraseRefused (beAt x.payload 0 1) = false → exec (.slotErase c) s =
      .next (({ s with cfg := { s.cfg with erasing := s.cfg.erasing ++ [(beAt x.payload 0 1, some c)] } } : State).pendingReply x))) ∧
  (∀ (s : State) (k : Nat), s.eraseRefused k = true ↔ s.actSrc k = true ∨ s.stgSrc k = true ∨ s.slotState k = 1 ∨
    (k < 2 ∧ s.inServiceMode = false) ∨ (∃ e ∈ s.cfg.erasing, e.1 = k) ∨ ∃ g, s.cfg.staging = some g ∧ (g.dest = some k ∨ g.src = .slot k)) ∧
  (∀ (k : Fin 4) (s u : State) (e : Nat × Option CmdRef), s.cfg.erasing.find? (fun e => e.1 == k.val) = some e →
    u = { s with cfg := { s.cfg with erasing := s.cfg.erasing.erase e, slots := tabErase s.cfg.slots k } } →
    (s.slotState k = 0 → exec (.slotEraseDone k) s = .next ((u.resetRegs (Reg.CFG_SLOT_STAT k) 0x20).finishOpt e.2 csOK [])) ∧
    (s.slotState k ≠ 0 → exec (.slotEraseDone k) s = .next (((((u.setF (Reg.CFG_SLOT_STAT k) 2 0 0).raise 161 (2 ^ k.val)).resetRegs
      (Reg.CFG_SLOT_STAT k) 0x20)).finishOpt e.2 csOK []))) ∧
  (∀ (k : Fin 4) (s : State), s.cfg.erasing.find? (fun e => e.1 == k.val) = none → exec (.slotEraseDone k) s = .next s) ∧
  (∀ (c : CmdRef) (s : State) (x : Command), s.turn c 3 6 = some x →
    (beAt x.payload 0 1 ≤ 3 → exec (.slotStat c) s = .next (s.replyTo x csOK true
      ((List.range 8).flatMap (fun i => beBytes 4 (s.getR (Reg.CFG_SLOT_STAT (beAt x.payload 0 1) + 4 * i)).toNat)))) ∧
    (3 < beAt x.payload 0 1 → exec (.slotStat c) s = .next (s.replyTo x csBADPARAM true []))))

/-- The image under way (R256–R259, R264, R370, R375): a header of fewer than 4,096 bytes ends the load with SOURCE_ERROR and
one that fails a check with that check's status; one that passes makes its slot WRITING, and the staged set LOADING unless it is
only stored; a frame that fails its check, or whose write does not verify, ends the load, the staged planes then zero up to it;
one that passes goes to the slot and the plane, and after the last one the end is checked. Nothing goes on while slot writes are
suspended. A broadcast chunk with a bad CRC is discarded and counted, one from a lane outside the tree or of this station
ignored, another forwarded and fed to the staging; a gap in its numbers is noted first. -/
def Obligations.ImagesUnderWay : Prop :=
  (∀ (s : State) (g : Staging), s.cfg.staging = some g → g.header = [] → s.warned = false → exec .imageHeader s = .next (s.headerStep g)) ∧
  (∀ s : State, (s.cfg.staging = none ∨ s.warned = true ∨ ∃ g, s.cfg.staging = some g ∧ g.header ≠ []) → exec .imageHeader s = .next s) ∧
  (∀ (s : State) (g : Staging), (s.nextBytes g 4096 = none → s.headerStep g = s) ∧
    (∀ h, s.nextBytes g 4096 = some h → h.length < 4096 → s.headerStep g = s.endLoad 22 0)) ∧
  (∀ (s : State) (g : Staging) (h : List Byte), s.nextBytes g 4096 = some h → 4096 ≤ h.length →
    (g.second = true → (Header.stations h).testBit s.station = true → (s.noteTaken g h).station = s.station →
      s.headerStep g = (s.noteTaken g h).endLoad 13 0) ∧
    (g.second = false → (s.headerCheck h g.kinds false).1 ≠ 12 → (s.headerCheck h g.kinds false).1 ≠ 0 →
      s.headerStep g = (s.noteTaken g h).endLoad (s.headerCheck h g.kinds false).1 (s.headerCheck h g.kinds false).2)) ∧
  (∀ (s t : State) (g : Staging) (k j : Nat) (h : List Byte), s.nextBytes g 4096 = some h → 4096 ≤ h.length → g.second = false →
    (s.headerCheck h g.kinds false).1 = 0 → g.src = .slot k → g.dest = some j → g.n < Header.frames h →
    t = (if g.storeOnly then s.slotBegin j h else (s.slotBegin j h).setBegin g h) →
    s.headerStep g = { t with cfg := { t.cfg with staging := some { g with header := h, off := g.off + 4096 } } }) ∧
  (∀ (wr : Bool) (s : State) (g : Staging), s.cfg.staging = some g → g.header ≠ [] → s.warned = false →
    (g.storeOnly = true ∨ ∀ d ∈ s.stgDomains, s.domOn d = true) → exec (.frame wr) s = .next (s.frameStep g wr)) ∧
  (∀ (wr : Bool) (s : State), (s.cfg.staging = none ∨ s.warned = true ∨ ∃ g, s.cfg.staging = some g ∧ (g.header = [] ∨
    (g.storeOnly = false ∧ ∃ d ∈ s.stgDomains, s.domOn d = false))) → exec (.frame wr) s = .next s) ∧
  (∀ (wr : Bool) (s : State) (g : Staging), g.hdr.frames ≤ g.n → s.frameStep g wr = s.loadTail g) ∧
  (∀ (wr : Bool) (s : State) (g : Staging), g.n < g.hdr.frames → (s.nextBytes g 520 = none → s.frameStep g wr = s) ∧
    (∀ f, s.nextBytes g 520 = some f → f.length < 520 → s.frameStep g wr = s.endLoad 22 0)) ∧
  (∀ (wr : Bool) (s : State) (g : Staging) (f p : List Byte) (st : Nat), g.n < g.hdr.frames → s.nextBytes g 520 = some f → 520 ≤ f.length →
    p = s.plainFrame g.header g.n f → st = s.frameCheck g.header g.pins g.last p →
    (st ≠ 0 → s.frameStep g wr = s.endLoad st (beAt p 0 4)) ∧
    (st = 0 → g.dest.isSome = true → s.frameStep g false = (if g.storeOnly then s else
      { s with cfg := { s.cfg with staged := s.zeroFill g (beAt p 0 4) } }).endLoad 26 (beAt p 0 4)) ∧
    (∀ g', st = 0 → (wr = true ∨ g.dest = none) → (s.putFrame g f p).cfg.staging = some g' →
      s.frameStep g wr = (s.putFrame g f p).loadTail g')) ∧
  (∀ (m : LaneMsg) (first last : Bool) (ws : List DWord) (s : State), m.ok = false → exec (.bcast m first last ws) s =
    .next ((s.incR (Reg.NET_SL_CRC_ERR m.lane.val)).raise (150 + m.lane.val) 4)) ∧
  (∀ (m : LaneMsg) (first last : Bool) (ws : List DWord) (s : State), m.ok = true → (s.treeLane m.lane.val = false ∨ m.src.val = s.station) →
    exec (.bcast m first last ws) s = .next s) ∧
  (∀ (m : LaneMsg) (first last : Bool) (ws : List DWord) (s u v x y : State), m.ok = true → s.treeLane m.lane.val = true → m.src.val ≠ s.station →
    u = s.flood (some m.lane.val) { typ := 7, src := m.src.val, seq := m.seq.toNat, spec := first.toNat + 2 * last.toNat, payload := ws } →
    v = (if tabGet (fun _ => 0) u.net.bcastSeq m.src.val ≠ 0 ∧ tabGet (fun _ => 0) u.net.bcastSeq m.src.val - 1 ≠ m.seq.toNat
      then u.bcastGap m.src.val else u) →
    x = { v with net := { v.net with bcastSeq := tabInsert v.net.bcastSeq m.src.val ((m.seq.toNat + 1) % 65536 + 1) } } →
    y = (if first then x.bcastFirst m.src.val m.lane.val else x).bcastFeed m.src.val (ws.flatMap (fun w => beBytes 8 w.toNat)) last →
    exec (.bcast m first last ws) s =
      .next (if last then { y with cfg := { y.cfg with taken := y.cfg.taken.filter (fun t => t != m.src.val) } } else y))

/-- Arming and cancelling a Front (R273–R275, R280, R281, R399): CANCEL of CFG_FRONT_CTL acts before ARM; an arm that a check
refuses leaves its code and raises EV164; an accepted one is ARMED with its record posted on port 83, the domains of the staged
set held ON and a slice of those units given up; a cancel from D on, or of a Front that is committed or under way, is too late;
a cancelled Front loses its records wherever they wait, leaves its causes and counts; a device that is not VOTED when the vote
has closed has cancelled for the causes of that moment. Verifying, voting and committing (R268, R276–R281): once the units are
ON the frames that do not match are rewritten from their sources, and a rewrite that fails cancels; a verified device that holds
the notices before the vote closes is VOTED, with DONE driven for a cabinet Front; at D − 1 us one that is not cancels; at D a
VOTED one commits, or cancels where its Front is of the cabinet and DONE is low; at D + 1 us DONE is released. -/
def Obligations.FrontArmAndVote : Prop :=
  ((∀ (s : State) (f : Front), s.armCheck f ≠ 0 → s.arm f = ((s.setF Reg.CFG_FRONT_STAT 7 4 (s.armCheck f)).raise 164 2, s.armCheck f)) ∧
  (∀ (s u : State) (f : Front), s.armCheck f = 0 → u = { s with front := { s.front with
        seq := f.seq, dir := f.dir, scope := f.scope, part := f.part, tf := f.tf, d := f.d, verified := false } } →
    (s.arm f).2 = 0 ∧ ∃ v w : State, v = ((((((u.setF Reg.CFG_FRONT_STAT 7 4 0).setF Reg.CFG_FRONT_STAT 31 16 f.seq).setF Reg.CFG_FRONT_STAT 2 0 1).raise
        164 1).setR Reg.CFG_FRONT_NOTICE (BitVec.ofNat 32 (2 ^ State.station ((((u.setF Reg.CFG_FRONT_STAT 7 4 0).setF Reg.CFG_FRONT_STAT 31 16
        f.seq).setF Reg.CFG_FRONT_STAT 2 0 1).raise 164 1)))).fifoPush 83 (encodeRec
        { due := f.tf, kind := 6, inner := 6, tgt := 0, op := f.dir, tag := 0xFF, station := 0, data := BitVec.ofNat 32 f.seq }) .config) ∧
      w = (v.stgDomains.foldl (fun s d => s.holdAndWake d holdFront 7) v).abortStaged ∧
      (s.arm f).1 = if f.scope = 1 then w.armCabinet else w) ∧
  (∀ (w : Word) (s u v : State), u = s.store Reg.CFG_FRONT_CTL w → v = (if bitOf w 1 then u.hostFrontCancel.1 else u) →
    (bitOf w 0 = false → s.writeFrontCtl w = v) ∧
    (bitOf w 0 = true → s.writeFrontCtl w = (v.arm
      { seq := fld w 31 16, dir := fld w 4 4, scope := fld w 5 5, part := v.getF Reg.CFG_FRONT_PART 15 0,
        tf := v.getD Reg.CFG_FRONT_TIME, d := v.getD Reg.CFG_FRONT_DL }).1)) ∧
  (∀ (w : Word) (s : State), (bitOf w 0 = true → exec (.frontArm (.reg w)) s = .next (s.writeFrontCtl w)) ∧
    (bitOf w 0 = false → exec (.frontArm (.reg w)) s = .next s) ∧ (bitOf w 1 = true → exec (.frontCancel (.reg w)) s = .next (s.writeFrontCtl w)) ∧
    (bitOf w 1 = false → exec (.frontCancel (.reg w)) s = .next s)) ∧
  (∀ (c : CmdRef) (s t : State) (x : Command) (st : Nat), s.turn c 4 0 = some x → beAt x.payload 20 1 ≤ 1 → beAt x.payload 21 1 ≤ 1 →
    s.arm
      { seq := beAt x.payload 18 2, dir := beAt x.payload 20 1, scope := beAt x.payload 21 1, part := beAt x.payload 16 2,
        tf := BitVec.ofNat 64 (beAt x.payload 0 8), d := BitVec.ofNat 64 (beAt x.payload 8 8) } = (t, st) →
    exec (.frontArm (.cmd c)) s = .next (t.replyTo x (if st = 0 then csOK else csOf 3 st) true (beBytes 1 st))) ∧
  (∀ (c : CmdRef) (s : State) (x : Command), s.turn c 4 0 = some x → (1 < beAt x.payload 20 1 ∨ 1 < beAt x.payload 21 1) →
    exec (.frontArm (.cmd c)) s = .next (s.replyTo x csBADPARAM true [])) ∧
  (∀ (c : CmdRef) (s : State) (x : Command), s.turn c 4 1 = some x → exec (.frontCancel (.cmd c)) s =
    .next (s.hostFrontCancel.1.replyTo x (if s.hostFrontCancel.2 then csTOOLATE else csOK) true [])) ∧
  (∀ (s u : State), u = s.closeVote →
    ((u.frontState = 3 ∨ u.frontState = 4 ∨ ((u.frontState = 1 ∨ u.frontState = 2) ∧ atOrAfter u.time u.front.d = true)) →
      s.hostFrontCancel = (u, true)) ∧
    (u.frontState ≠ 3 → u.frontState ≠ 4 → ((u.frontState = 1 ∨ u.frontState = 2) → atOrAfter u.time u.front.d = false) →
      s.hostFrontCancel = (u.frontCancel 1, false))) ∧
  (∀ s : State, s.closeVote = if s.frontState = 1 ∧ atOrAfter s.time (s.front.d - 64000) = true
    then s.frontCancel ((if s.front.verified then 0 else 2) + (if s.noticesHeld then 0 else 4)) else s) ∧
  (∀ (s : State) (n : Nat), s.frontState ≠ 1 → s.frontState ≠ 2 → s.frontCancel n = s) ∧
  (∀ (s u v w x : State) (n c : Nat), (s.frontState = 1 ∨ s.frontState = 2) → c = (if s.voteClosed then s.voteCauses else n) →
    u = { s with act := { s.act with cal := s.act.cal.filter (fun e => !(e.act.kind == 6)),
                                     delivered := s.act.delivered.filter (fun d => !(d.act.kind == 6)) } } →
    v = u.setFifo 83 ((u.fifo 83).filter (fun r => !((decodeRec r.word).kind == 6))) →
    w = (((((v.setF Reg.CFG_FRONT_STAT 2 0 0).setF Reg.CFG_FRONT_STAT 12 8 (c % 32)).addF Reg.CFG_FRONT_CANCELS 15 0 1).raise 163
      c).releaseHold holdFront (List.range 116)).dropDue →
    x = (if w.front.scope == 1 && (s.frontState == 1 || before w.time (w.front.d - units unitsPerUs)) then
      { w with front := { w.front with doneUntil := some w.front.d } } else w) →
    s.frontCancel n = if x.front.scope = 1 then x.driveDone else x) ∧
  (∀ (c : CmdRef) (s : State) (x : Command), s.turn c 4 2 = some x → exec (.frontStat c) s =
    .next (s.replyTo x csOK true (beBytes 4 (s.getR Reg.CFG_FRONT_STAT).toNat ++ beBytes 4 (s.getR Reg.CFG_FRONT_NOTICE).toNat ++
      beBytes 8 (s.getD Reg.CFG_FRONT_LAST).toNat)))) ∧
  ((∀ (bad : List (BitVec 32 × Bool)) (s u : State), u = s.closeVote →
    ((u.frontState ≠ 1 ∨ u.front.verified = true ∨ u.stgDomains.all (fun d => u.domOn d) = false) → exec (.verifyDone bad) s = .next u) ∧
    (u.frontState = 1 → u.front.verified = false → u.stgDomains.all (fun d => u.domOn d) = true →
      ∀ v ok, bad.foldl State.verifyFrame (u, true) = (v, ok) → exec (.verifyDone bad) s =
        .next (if ok then ({ v.raise 168 1 with front := { v.front with verified := true } } : State).tryVote else v.frontCancel 2))) ∧
  (∀ (s t : State) (ok r : Bool) (a : BitVec 32) (src : Bool), s.stagedFrame a.toNat = true → s.rewriteFrame true a.toNat src = (t, r) →
    State.verifyFrame (s, ok) (a, src) = (if r then t.raise 168 2 else t, ok && r)) ∧
  (∀ s : State, s.frontState = 1 → s.front.verified = true → s.noticesHeld = true → before s.time (s.front.d - 64000) = true →
    (s.front.scope ≠ 1 → s.tryVote = s.setF Reg.CFG_FRONT_STAT 2 0 2) ∧
    (s.front.scope = 1 → s.tryVote = (s.setF Reg.CFG_FRONT_STAT 2 0 2).driveDone)) ∧
  (∀ s : State, (s.frontState ≠ 1 ∨ s.front.verified = false ∨ s.noticesHeld = false ∨ before s.time (s.front.d - 64000) = false) →
    s.tryVote = s) ∧
  (∀ s : State, exec .voteClose s = .next s.closeVote) ∧
  (∀ (line : Bool) (s : State), s.frontState = 2 → atOrAfter s.time s.front.d = true →
    ((s.front.scope ≠ 1 ∨ (line = true ∧ s.getB Reg.DEV_START_STAT 0 = true)) →
      exec (.frontCommit line) s = .next ((s.setF Reg.CFG_FRONT_STAT 2 0 3).raise 165 1)) ∧
    (s.front.scope = 1 → (line = false ∨ s.getB Reg.DEV_START_STAT 0 = false) → exec (.frontCommit line) s = .next (s.frontCancel 8))) ∧
  (∀ (line : Bool) (s : State), (s.frontState ≠ 2 ∨ atOrAfter s.time s.front.d = false) → exec (.frontCommit line) s = .next s) ∧
  (∀ (s : State) (d : DWord), s.front.doneUntil = some d →
    (atOrAfter s.time (d + 64000) = true → exec .doneHoldEnd s = .next ({ s with front := { s.front with doneUntil := none } } : State).driveDone) ∧
    (atOrAfter s.time (d + 64000) = false → exec .doneHoldEnd s = .next s)) ∧
  (∀ s : State, s.front.doneUntil = none → exec .doneHoldEnd s = .next s))

/-- The notices and the switch (R84, R277, R278, R280, R282–R284, R288, R290): a notice with a bad CRC is counted; another is
passed on and kept until its D + 1 us; against an armed cabinet Front one of another SEQ cancels it, one that agrees in every
field counts and may complete the vote, one that does not cancels it; a kept notice is dropped when it is over; a Front action
acts on a COMMITTED Front, once what takes effect before TF has; the quiet tick and the crossing hold end at their instants. -/
def Obligations.FrontNoticesAndSwitch : Prop :=
  (∀ (m : LaneMsg) (seq part : BitVec 16) (dir : Bool) (tf d : DWord) (s : State), m.ok = false → exec (.notice m seq dir tf d part) s =
    .next ((s.incR (Reg.NET_SL_CRC_ERR m.lane.val)).raise (150 + m.lane.val) 4)) ∧
  (∀ (m : LaneMsg) (seq part : BitVec 16) (dir : Bool) (tf d : DWord) (s : State), m.ok = true →
    (s.treeLane m.lane.val = false ∨ m.src.val = s.station) → exec (.notice m seq dir tf d part) s = .next s) ∧
  (∀ (m : LaneMsg) (seq part : BitVec 16) (dir : Bool) (tf d : DWord) (s u v : State) (n : FrontNotice), m.ok = true → s.treeLane m.lane.val = true →
    m.src.val ≠ s.station → n = ⟨m.src, seq.toNat, dir.toNat, tf, d, part.toNat⟩ →
    u = s.closeVote.flood (some m.lane.val)
      { typ := 6, src := m.src, seq := m.seq.toNat, payload := [tf, d, BitVec.ofNat 64 (part.toNat <<< 32 + dir.toNat <<< 16 + seq.toNat)] } →
    v = (if before u.time (d + units unitsPerUs) then
      { u with front := { u.front with notices := u.front.notices.filter (fun k => k.station != m.src.val) ++ [n] } } else u) →
    ((v.front.scope ≠ 1 ∨ (v.frontState ≠ 1 ∧ v.frontState ≠ 2)) → exec (.notice m seq dir tf d part) s = .next v) ∧
    (v.front.scope = 1 → (v.frontState = 1 ∨ v.frontState = 2) →
      (seq.toNat ≠ v.front.seq → exec (.notice m seq dir tf d part) s = .next (v.frontCancel 16)) ∧
      (seq.toNat = v.front.seq → v.front.agrees n = true →
        exec (.notice m seq dir tf d part) s = .next (v.setB Reg.CFG_FRONT_NOTICE m.src.val true).tryVote) ∧
      (seq.toNat = v.front.seq → v.front.agrees n = false → exec (.notice m seq dir tf d part) s = .next (v.frontCancel 4)))) ∧
  (∀ (f : Front) (n : FrontNotice), f.agrees n = true ↔ n.seq = f.seq ∧ n.dir = f.dir ∧ n.tf = f.tf ∧ n.d = f.d ∧ n.part = f.part) ∧
  (∀ (st : Fin 16) (s : State), exec (.noticeExpiry st) s = .next { s with front := { s.front with
    notices := s.front.notices.filter (fun n => !(n.station == st.val && atOrAfter s.time (n.d + units unitsPerUs))) } }) ∧
  (∀ (s : State) (d : Delivered), s.frontState = 3 → s.actsBefore s.front.tf = false →
    (s.due? 6 0 0 = some d → exec .front s = .next (s.taken d).takeFront) ∧ (s.due? 6 0 1 = some d → exec .frontBack s = .next (s.taken d).takeFront)) ∧
  (∀ s : State, (s.frontState ≠ 3 ∨ s.actsBefore s.front.tf = true) → exec .front s = .next s ∧ exec .frontBack s = .next s) ∧
  (∀ s : State, (s.due? 6 0 0 = none → exec .front s = .next s) ∧ (s.due? 6 0 1 = none → exec .frontBack s = .next s)) ∧
  (∀ s : State, s.front.quiet = true → atOrAfter s.time (s.front.tf + 160) = true →
    exec .quietEnd s = .next { s with front := { s.front with quiet := false } }) ∧
  (∀ s : State, (s.front.quiet = false ∨ atOrAfter s.time (s.front.tf + 160) = false) → exec .quietEnd s = .next s) ∧
  (∀ s : State, s.front.holdOver = false → s.reached (s.front.tf + 512) = true →
    exec .crossingHoldEnd s = .next ({ s with front := { s.front with holdOver := true, held := [] } } : State).frontComplete) ∧
  (∀ s : State, (s.front.holdOver = true ∨ s.reached (s.front.tf + 512) = false) → exec .crossingHoldEnd s = .next s)

/-- The sync links (R25, R28, R79, R296, R368–R373): a trained lane comes up and greets its neighbour, a failing one leaves the
tree; a message with a bad CRC is counted and not used; a HELLO of this station isolates its lane; TIME of the upstream lane
starts, steps or disciplines device time; a delay exchange measures half the round trip; an action for this station is posted
while FIFO 82 has room, one for another goes on along the tree; LOSS_N sync intervals without a sync message begin holdover, in
MODE GPTP with its own event, and only once. -/
def Obligations.SyncLinks : Prop :=
  (∀ (l : Fin 8) (s : State), s.getB (Reg.NET_SL_CTL l) 0 = true → s.domOn (domLane l) = true → (s.lane l).up = false → s.laneState l ≠ 6 →
    exec (.laneUp l) s = .next ((((s.setLane l { up := true }).raise (150 + l) 1).setF (Reg.NET_SL_STAT l) 3 0 5).sendHello l)) ∧
  (∀ (l : Fin 8) (s : State), (s.lane l).up = true → exec (.laneUp l) s = .next s ∧
    exec (.laneDown l) s = .next ((s.raise (150 + l) 2).loseLane l 1)) ∧
  (∀ (l : Fin 8) (s : State), (s.lane l).up = false → exec (.laneDown l) s = .next s) ∧
  (∀ (m : LaneMsg) (s : State) (master : Option (Fin 16)) (hops : Fin 8) (st : BitVec 16) (chosen step : Bool) (t t3 : DWord) (dst : Fin 16) (w : QWord),
    s.carries m.lane.val = true → m.ok = false → ∀ u, u = (s.incR (Reg.NET_SL_CRC_ERR m.lane.val)).raise (150 + m.lane.val) 4 →
    exec (.hello m master hops st chosen) s = .next u ∧ exec (.time m t step) s = .next u ∧ exec (.delayReq m) s = .next u ∧
    exec (.delayResp m t t3) s = .next u ∧ exec (.action m dst w) s = .next u) ∧
  (∀ (m : LaneMsg) (s : State) (master : Option (Fin 16)) (hops : Fin 8) (st : BitVec 16) (chosen : Bool), s.carries m.lane.val = true → m.ok = true →
    m.src.val = s.station → exec (.hello m master hops st chosen) s = .next ((s.raise (150 + m.lane.val) 8).loseLane m.lane.val 6)) ∧
  (∀ (m : LaneMsg) (s : State) (master : Option (Fin 16)) (hops : Fin 8) (st : BitVec 16) (chosen : Bool), s.carries m.lane.val = true → m.ok = true →
    m.src.val ≠ s.station → exec (.hello m master hops st chosen) s =
    .next (((s.setLane m.lane.val ({ s.lane m.lane.val with
      master := master.map (·.val), hops := hops, reach := st.toNat ||| 2 ^ m.src.val, chosen := chosen } : Lane)).setF
        (Reg.NET_SL_STAT m.lane.val) 7 3 (m.src.val * 2 + 1)).updateTree true)) ∧
  (∀ (m : LaneMsg) (s : State) (t : DWord) (step : Bool), s.carries m.lane.val = true → m.ok = true → s.laneState m.lane.val = 3 →
    s.otherMaster m.lane.val = false → s.tbMode = 2 → ∀ now, now = t + units (s.laneDelay m.lane.val) →
    (s.timeRuns = false → exec (.time m t step) s = .next ((s.startTime now).servo 0)) ∧
    (s.timeRuns = true → exec (.time m t true) s = .next (((s.stepTo now).frontCancel 32).servo 0)) ∧
    (s.timeRuns = true → exec (.time m t false) s = .next (s.servo (tdiff now s.time)))) ∧
  (∀ (m : LaneMsg) (s : State) (n : Nat), s.carries m.lane.val = true → m.ok = true → n = tabGet (fun _ => 0) s.net.slSeq 3 → exec (.delayReq m) s =
    .next { s with net := { s.net with
      slSeq := tabPut (fun _ => 0) s.net.slSeq 3 ((n + 1) % 65536),
      slSent := s.net.slSent ++ [(m.lane.val, { typ := 3, src := s.station, dst := 0, seq := n, spec := 0, payload := [s.time, s.time] })] } }) ∧
  (∀ (m : LaneMsg) (t2 t3 t1 : DWord) (s : State), s.carries m.lane.val = true → m.ok = true → (s.lane m.lane.val).reqAt = some t1 →
    exec (.delayResp m t2 t3) s = .next ((s.setLane m.lane.val { s.lane m.lane.val with reqAt := none }).setR (Reg.NET_SL_DELAY m.lane.val)
      (BitVec.ofNat 32 ((tdiff s.time t1 - tdiff t3 t2).toNat * 1000 / 128 / 5 * 5)))) ∧
  (∀ (l : Fin 8) (s : State), (s.treeLane l = true → s.carries l = true → exec (.delayMeasureTimer l) s = .next (s.askDelay l)) ∧
    ((s.treeLane l = false ∨ s.carries l = false) → exec (.delayMeasureTimer l) s = .next s)) ∧
  (∀ s : State, s.timeRuns = true → (s.isMaster = true ∨ (s.tbMode = 2 ∧ s.getB Reg.CLK_TB_STAT 2 = true)) →
    exec .timeSendTimer s = .next (s.sendTime 0)) ∧
  (∀ s : State, (s.timeRuns = false ∨ (s.isMaster = false ∧ (s.tbMode ≠ 2 ∨ s.getB Reg.CLK_TB_STAT 2 = false))) →
    exec .timeSendTimer s = .next s) ∧
  (∀ (m : LaneMsg) (dst : Fin 16) (w : QWord) (s : State), s.carries m.lane.val = true → m.ok = true → s.treeLane m.lane.val = true →
    dst.val = s.station → s.fifoRoom 82 = true → exec (.action m dst w) s = .next (s.postInner (decodeRec w) m.src)) ∧
  (∀ (m : LaneMsg) (dst : Fin 16) (w : QWord) (s : State) (k : Nat), s.carries m.lane.val = true → m.ok = true → s.treeLane m.lane.val = true →
    dst.val ≠ s.station → s.routeLane dst = some k → k ≠ m.lane.val → s.treeLane k = true → exec (.action m dst w) s =
    .next (s.sendMsg k
      { typ := 5, src := m.src, dst := dst, seq := m.seq.toNat, payload := [BitVec.ofNat 64 (w.toNat >>> 64), BitVec.ofNat 64 w.toNat] })) ∧
  (∀ (m : LaneMsg) (dst : Fin 16) (w : QWord) (s : State), s.carries m.lane.val = true → m.ok = true → (s.treeLane m.lane.val = false ∨
    (dst.val = s.station ∧ s.fifoRoom 82 = false) ∨ (dst.val ≠ s.station ∧ ∀ k, s.routeLane dst = some k → k = m.lane.val ∨ s.treeLane k = false)) →
    exec (.action m dst w) s = .next s) ∧
  (∀ (m : LaneMsg) (s : State) (master : Option (Fin 16)) (hops : Fin 8) (st : BitVec 16) (chosen step : Bool) (t t3 : DWord) (dst : Fin 16) (w : QWord),
    s.carries m.lane.val = false → exec (.hello m master hops st chosen) s = .next s ∧ exec (.time m t step) s = .next s ∧
    exec (.delayReq m) s = .next s ∧ exec (.delayResp m t t3) s = .next s ∧ exec (.action m dst w) s = .next s) ∧
  (∀ s : State, s.syncLost = decide (((s.lossN * s.syncIval : Nat) : Int) ≤ tdiff s.time s.net.lastSync)) ∧
  (∀ s : State, s.syncLost = true → s.getB Reg.CLK_TB_STAT 3 = false →
    (s.tbMode = 2 → s.isMaster = false → exec .holdover s = .next s.enterHoldover) ∧
    (s.tbMode = 1 → exec .holdover s = .next (s.enterHoldover.raise 146 4)) ∧
    ((s.tbMode = 2 ∧ s.isMaster = true ∨ s.tbMode ≠ 1 ∧ s.tbMode ≠ 2) → exec .holdover s = .next s)) ∧
  (∀ s : State, (s.syncLost = false ∨ s.getB Reg.CLK_TB_STAT 3 = true) → exec .holdover s = .next s) ∧
  (∀ s : State, s.getB Reg.CLK_TB_STAT 3 = false →
    s.enterHoldover = ((s.setB Reg.CLK_TB_STAT 3 true).setB Reg.CLK_TB_STAT 2 false).raise 125 1)

/-- Resets and the supply (R294, R305–R307, R310–R312): a reset that follows a source is the device as the reset leaves it,
started again; a cold one starts device time from zero, a warm one keeps it; both empty the active plane and the calendar and
keep the slots, the vault and the repair log; RESET replies first; the supply's fall writes the last-gasp record to the lowest
pre-erased slot; RESET_N holds the device until its release; from Thaw a full sector of that area is erased, the older first. -/
def Obligations.ResetsAndSupply : Prop :=
  (∀ (vin : BitVec 16) (s : State), s.boot.supply = true ∨ vin.toNat ≤ 3300 → exec (.powerUp vin) s = .next s) ∧
  (∀ (vin : BitVec 16) (s u : State), s.boot.supply = false → 3300 < vin.toNat → u = (s.afterReset false).setF Reg.ANA_IN_STAT 15 0 vin.toNat →
    (u.boot.resetN = false → exec (.powerUp vin) s = .next ((({ u with boot := { u.boot with supply := true, gaspNew := false } } : State).setB
      Reg.DEV_RESET_STAT 8 s.boot.gaspNew).beginStart (if s.boot.gaspNew then 1 else 0) false)) ∧
    (u.boot.resetN = true → exec (.powerUp vin) s = .next (({ u with boot := { u.boot with supply := true, gaspNew := false } } : State).setB
      Reg.DEV_RESET_STAT 8 s.boot.gaspNew))) ∧
  (∀ (s : State) (k : Nat), s.boot.supply = true → s.freeGasp = some k → exec .supplyBelowReset s = .next (({ s with boot := { s.boot with
    supply := false, gasp := tabInsert s.boot.gasp k s.gaspRecord, gaspNew := true } } : State).afterReset false)) ∧
  (∀ s : State, s.boot.supply = true → s.freeGasp = none →
    exec .supplyBelowReset s = .next (({ s with boot := { s.boot with supply := false } } : State).afterReset false)) ∧
  (∀ s : State, s.boot.supply = false → exec .supplyBelowReset s = .next s) ∧
  (∀ s : State, exec .resetNAssert s = .next (({ s with boot := { s.boot with resetN := true } } : State).afterReset false)) ∧
  (∀ s : State, s.boot.resetN = true → s.boot.supply = true →
    exec .resetNRelease s = .next (({ s with boot := { s.boot with resetN := false } } : State).beginStart 2 false)) ∧
  (∀ s : State, s.boot.resetN = true → s.boot.supply = false →
    exec .resetNRelease s = .next { s with boot := { s.boot with resetN := false } }) ∧
  (∀ s : State, s.boot.resetN = false → exec .resetNRelease s = .next s) ∧
  (∀ (w : Word) (s : State), (s.boot.supply = false ∨ s.boot.resetN = true) → exec (.coldReset (.reg w)) s = .next s ∧
    exec (.warmReset (.reg w)) s = .next s ∧ exec .managementWatchdog s = .next s) ∧
  (∀ (c : CmdRef) (s u : State) (x : Command), s.turn c 15 0 = some x → u = (s.replyTo x csOK true []).flushPorts →
    u.boot.supply = true → u.boot.resetN = false → ∀ t,
    (beAt x.payload 0 1 = 1 → t = (u.afterReset false).beginStart 4 false →
      exec (.coldReset (.cmd c)) s = .next { t with cmd := { t.cmd with svcQueue := u.cmd.svcQueue } }) ∧
    (beAt x.payload 0 1 = 2 → t = (u.afterReset true).beginStart 4 true →
      exec (.warmReset (.cmd c)) s = .next { t with cmd := { t.cmd with svcQueue := u.cmd.svcQueue } })) ∧
  (∀ (c : CmdRef) (s : State) (x : Command), s.turn c 15 0 = some x → beAt x.payload 0 1 ≠ 1 → beAt x.payload 0 1 ≠ 2 →
    exec (.coldReset (.cmd c)) s = .next (s.replyTo x csBADPARAM true []) ∧ exec (.warmReset (.cmd c)) s = .next (s.replyTo x csBADPARAM true [])) ∧
  (∀ (w : Word) (s : State), fld w 31 16 = 0x5A3C → fld w 1 0 = 1 → s.boot.supply = true → s.boot.resetN = false →
    exec (.coldReset (.reg w)) s = .next ((s.afterReset false).beginStart 5 false)) ∧
  (∀ (w : Word) (s : State), fld w 31 16 = 0x5A3C → fld w 1 0 = 2 → s.boot.supply = true → s.boot.resetN = false →
    exec (.warmReset (.reg w)) s = .next ((s.afterReset true).beginStart 5 true)) ∧
  (∀ (w : Word) (s : State), fld w 1 0 ≠ 1 → exec (.coldReset (.reg w)) s = .next s) ∧
  (∀ (w : Word) (s : State), fld w 1 0 ≠ 2 → exec (.warmReset (.reg w)) s = .next s) ∧
  (∀ (w : Word) (s : State), fld w 31 16 ≠ 0x5A3C → exec (.coldReset (.reg w)) s = .next s ∧ exec (.warmReset (.reg w)) s = .next s) ∧
  (∀ s : State, s.boot.supply = true → s.boot.resetN = false → exec .managementWatchdog s = .next ((s.afterReset true).beginStart 3 true)) ∧
  (∀ (s : State) (warm : Bool), (s.afterReset warm).time = (if warm then s.time else 0) ∧ (s.afterReset warm).cfg.active = [] ∧
    (s.afterReset warm).cfg.slots = s.cfg.slots ∧ (s.afterReset warm).cfg.aes = s.cfg.aes ∧
    (s.afterReset warm).cfg.pub = s.cfg.pub ∧ (s.afterReset warm).cfg.hk = s.cfg.hk ∧
    (s.afterReset warm).cfg.requireEnc = s.cfg.requireEnc ∧ (s.afterReset warm).cfg.minSvn = s.cfg.minSvn ∧ (s.afterReset warm).act.cal = [] ∧
    (s.afterReset warm).pending = s.pending ∧ (s.afterReset warm).tst.rlog = s.tst.rlog) ∧
  (∀ (s : State) (n : Nat), s.thawed = true → n = ((newestGasp s.boot.gasp).map (fun p => p.1 / 64)).getD 0 →
    (64 ≤ (s.boot.gasp.filter (fun p => p.1 / 64 == 1 - n)).length →
      exec .gaspSectorErase s = .next { s with boot := { s.boot with gasp := s.boot.gasp.filter (fun p => p.1 / 64 != 1 - n) } }) ∧
    ((s.boot.gasp.filter (fun p => p.1 / 64 == 1 - n)).length < 64 → 64 ≤ (s.boot.gasp.filter (fun p => p.1 / 64 == n)).length →
      exec .gaspSectorErase s = .next { s with boot := { s.boot with gasp := s.boot.gasp.filter (fun p => p.1 / 64 != n) } }) ∧
    ((s.boot.gasp.filter (fun p => p.1 / 64 == 1 - n)).length < 64 → (s.boot.gasp.filter (fun p => p.1 / 64 == n)).length < 64 →
      exec .gaspSectorErase s = .next s)) ∧
  (∀ s : State, s.thawed = false → (s.boot.running = false ∨ s.freeGasp ≠ none) → exec .gaspSectorErase s = .next s) ∧
  (∀ s : State, s.thawed = false → s.boot.running = true → s.freeGasp = none → exec .gaspSectorErase s = .next { s with boot := { s.boot with
    gasp := s.boot.gasp.filter (fun p => p.1 / 64 != 1 - ((newestGasp s.boot.gasp).map (fun p => p.1 / 64)).getD 0) } })

/-- The start-up up to Thaw (R244, R266, R267, R295–R297, R302, R303): BASE comes into force, else GOLDEN with EV175, else
SERVICE; TIME_WAIT starts device time at 0; a ready device releases DONE at its point, the line's sample names the next
millisecond as Thaw, and Thaw ends the global clear; SERVICE is entered by command, which stops the format, returns the pins to
Frost and clears the fabric; the start-up record refuses reserved bits and encodings. -/
def Obligations.StartupToThaw : Prop :=
  (∀ (s : State) (p : List (Nat × List Byte)), s.boot.running = true → s.phase = 2 → s.wholeLoad 0 = .ok p →
    exec .baseLoad s = .next (s.imageUp 0 p)) ∧
  (∀ (s u : State) (b : Nat × Nat) (p : List (Nat × List Byte)), s.boot.running = true → s.phase = 2 → s.wholeLoad 0 = .error b →
    u = s.setF Reg.CFG_BOOT 31 27 b.1 → u.wholeLoad 1 = .ok p → exec .baseLoad s = .next ((u.imageUp 1 p).raise 175 1)) ∧
  (∀ (s u : State) (b g : Nat × Nat), s.boot.running = true → s.phase = 2 → s.wholeLoad 0 = .error b →
    u = s.setF Reg.CFG_BOOT 31 27 b.1 → u.wholeLoad 1 = .error g →
    exec .baseLoad s = .next (((u.setF Reg.CFG_BOOT 26 22 g.1).enterService.setB Reg.DEV_FAULT_SRC 0 true).raise 175 2)) ∧
  (∀ (s : State) (k : Nat), s.slotState k ≠ 2 → s.wholeLoad k = .error (14, 0)) ∧
  (∀ s : State, (s.boot.running = false ∨ s.phase ≠ 2) → exec .baseLoad s = .next s) ∧
  (∀ s : State, s.boot.running = true → s.tbMode = 2 → s.isMaster = false → s.timeRuns = false →
    (s.locked 0 = true ∨ s.locked 1 = true) →
    exec .timeWaitExpiry s = .next ((s.startTime 0).setB Reg.DEV_FAULT_SRC 2 true)) ∧
  (∀ s : State, (s.boot.running = false ∨ s.tbMode ≠ 2 ∨ s.isMaster = true ∨ s.timeRuns = true ∨ (s.locked 0 = false ∧ s.locked 1 = false)) →
    exec .timeWaitExpiry s = .next s) ∧
  (∀ s : State, s.boot.running = true → s.ready = true → s.msPhase 12800000 = true →
    exec .doneReleasePoint s = .next (s.setB Reg.DEV_START_STAT 0 true)) ∧
  (∀ s : State, (s.boot.running = false ∨ s.ready = false ∨ s.msPhase 12800000 = false) → exec .doneReleasePoint s = .next s) ∧
  (∀ s : State, s.ready = true ↔ s.phase = 4 ∧ s.timeRuns = true ∧ s.freeGasp.isSome = true) ∧
  (∀ s u : State, s.boot.running = true → s.phase = 4 → s.msPhase 32000000 = true → s.getB Reg.DEV_START_STAT 0 = true → s.boot.thawAt = none →
    u = s.setB Reg.DEV_START_STAT 1 true →
    exec (.doneSample true) s = .next { u with boot := { s.boot with thawAt := some (units ((s.time.toNat / unitsPerMs + 1) * unitsPerMs)) } } ∧
    exec (.doneSample false) s = .next s) ∧
  (∀ (line : Bool) (s : State), (s.boot.running = false ∨ s.phase ≠ 4 ∨ s.msPhase 32000000 = false ∨ s.getB Reg.DEV_START_STAT 0 = false ∨
    s.boot.thawAt.isSome = true) → exec (.doneSample line) s = .next s) ∧
  (∀ s : State, (s.boot.thawAt = none ∨ s.boot.running = false ∨ ∃ t, s.boot.thawAt = some t ∧ s.reached t = false) → exec .thaw s = .next s) ∧
  (∀ (s u v w : State) (t : DWord), s.boot.thawAt = some t → s.boot.running = true → s.reached t = true →
    u = { s with boot := { s.boot with running := false, clear := false, thawAt := none, warns := 0 } } →
    v = ((((List.range 48).foldl (fun s i => s.thawSector i) (((List.range 32).foldl (fun s k => s.store (Reg.CLK_GCLK k)
      (decoded u.globalFrames 0 (fun f => Config.gclkOf f k))) u).noteClamps)).setF Reg.DEV_START_STAT 4 2 5).setD Reg.DEV_THAW_TIME t).arbModes 0 →
    w = (List.range 7).foldl (fun s d => s.setDtype d { s.dtype d with since := t }) v →
    exec .thaw s = .next (if w.getB Reg.KEY_CTL 6 && w.key.chip.isSome then
      (if w.key.discover then { w with key := { w.key with auto := true } } else w.keySelect none none) else w)) ∧
  (∀ (c : CmdRef) (s : State) (x : Command), s.turn c 3 7 = some x → exec (.serviceEnter c) s =
    .next ((let u := (List.range 48).foldl (fun s i => (s.setSector i { s.sector i with
        ffs := [], mulP := [], mulOvf := [], mulIn := [], stb := [], evp := [], reqSeen := [] }).setB (Reg.SEC_STAT i) 1 false) s.stopFormat
      (if u.boot.frost then u.enterFrost else u).enterService).replyTo x csOK true [])) ∧
  (∀ (c : CmdRef) (s : State) (x : Command) (w : Word), s.turn c 15 1 = some x → w = BitVec.ofNat 32 (beAt x.payload 0 4) →
    w &&& ~~~(0xFF000F1F : Word) = 0 → fld w 1 0 ≠ 3 → fld w 3 2 ≠ 3 →
    exec (.startupWrite c) s = .next (((s.pendingReply x).setR Reg.DEV_STARTUP w).finish c csOK [])) ∧
  (∀ (c : CmdRef) (s : State) (x : Command) (w : Word), s.turn c 15 1 = some x → w = BitVec.ofNat 32 (beAt x.payload 0 4) →
    (w &&& ~~~(0xFF000F1F : Word) ≠ 0 ∨ fld w 1 0 = 3 ∨ fld w 3 2 = 3) → exec (.startupWrite c) s = .next (s.replyTo x csBADPARAM true []))

/-- Requests to power domains (R430–R433, R435, R436, R440, R445): a request in a transition is kept or latched, one for RET or
OFF of a held domain is refused with PWR_HELD, one for RET of an ON domain begins its entry (an engine in a cycle keeps it until
the cycle's end), one for OFF of a domain that holds a staged plane is carried out as RET, one for RET of an OFF domain wakes it
first; an earlier kept request is superseded. A wake has no effect on an ON domain but its idle time, starts the wake of one in
RET or OFF, and is latched during an entry; an idle domain enters RET or OFF at its idle time. -/
def Obligations.PowerRequests : Prop :=
  (∀ (d : Nat) (w : Word) (s : State), d < 135 →
    (fld w 1 0 = 0 → exec (.domReqOn (.reg d w)) s = .next ((s.domReq d 0).1.setF (Reg.PWR_DOM_STAT d) 22 20 (s.domReq d 0).2)) ∧
    (fld w 1 0 = 1 → exec (.domReqRet (.reg d w)) s = .next ((s.domReq d 1).1.setF (Reg.PWR_DOM_STAT d) 22 20 (s.domReq d 1).2)) ∧
    (fld w 1 0 = 2 → exec (.domReqOff (.reg d w)) s = .next ((s.domReq d 2).1.setF (Reg.PWR_DOM_STAT d) 22 20 (s.domReq d 2).2)) ∧
    (fld w 1 0 = 3 → exec (.domainReset (.reg d w)) s = .next ((s.domReq d 3).1.setF (Reg.PWR_DOM_STAT d) 22 20 (s.domReq d 3).2))) ∧
  (∀ (c : CmdRef) (s t : State) (x : Command) (r : Nat), s.turn c 7 0 = some x → beAt x.payload 1 1 = 2 → beAt x.payload 0 1 ≤ 134 →
    s.domReq (beAt x.payload 0 1) 2 = (t, r) →
    exec (.domReqOff (.cmd c)) s = .next (t.replyTo x (if r = 0 then csOK else csOf 7 r) true (beBytes 1 r))) ∧
  (∀ (c : CmdRef) (s : State) (x : Command), s.turn c 7 0 = some x → beAt x.payload 1 1 = 0 → 134 < beAt x.payload 0 1 →
    exec (.domReqOn (.cmd c)) s = .next (s.replyTo x (csOf 7 5) true (beBytes 1 5))) ∧
  (∀ (d : Nat) (s : State), 5 ≤ s.domState d → s.domReq d 0 = (s.keepReq d (some 0), 1)) ∧
  (∀ (d : Nat) (s : State), s.domState d = 3 ∨ s.domState d = 4 → s.domReq d 0 = (s.wake d 3, 1)) ∧
  (∀ (d st : Nat) (s : State), 3 ≤ s.domState d → (st = 1 ∨ st = 2) →
    ((s.domX d).latched.isSome = true → s.domReq d st = (s.supersede d, 1)) ∧
    ((s.domX d).latched.isSome = false → s.domReq d st = (s.keepReq d (some st), 1))) ∧
  (∀ (d st : Nat) (s u : State), s.domState d < 3 → (s.kept d).isSome = true → (st = 1 ∨ st = 2) → u = (s.supersede d).keepReq d none →
    s.domReq d st = u.reqDown d st) ∧
  (∀ (d : Nat) (s : State), s.domState d = 1 ∨ s.domState d = 2 → s.kept d = none → s.held d = false →
    (s.domState d = 1 → s.domReq d 1 = (s, 0)) ∧
    (s.domState d = 1 → s.demoted d = false → s.domReq d 2 = (s.enter d 4, 0)) ∧
    (s.domState d = 2 → ∃ u, u = s.wake d 3 ∧ s.domReq d 1 = (u.setDomX d { u.domX d with thenRet := true }, 0))) ∧
  (∀ (d : Nat) (s : State), s.domState d = 0 → s.kept d = none → s.domReq d 0 = (s.touch d, 0)) ∧
  (∀ (d : Nat) (s : State), s.domState d = 1 → s.kept d = none → s.domReq d 0 = (s.startWake d 3 s.time false false, 0)) ∧
  (∀ (d : Nat) (s : State), s.domState d = 0 → s.kept d = none → s.held d = true → d < 122 →
    s.domReq d 1 = (s.raise 211 1, 2) ∧ s.domReq d 2 = (s.raise 211 1, 2)) ∧
  (∀ (d : Nat) (s : State), s.domState d = 0 → s.kept d = none → s.held d = false → s.pllInUse d = true →
    s.domReq d 1 = (s.raise 211 2, pwrINUSE) ∧ s.domReq d 2 = (s.raise 211 2, pwrINUSE)) ∧
  (∀ (d : Nat) (s : State), s.domState d = 0 → s.kept d = none → s.held d = false → s.pllInUse d = false → s.domInCycle d = false →
    s.domReq d 1 = (s.enter d 3, 0)) ∧
  (∀ (d : Nat) (s : State), s.domState d = 0 → s.kept d = none → s.held d = false → s.pllInUse d = false → s.domInCycle d = true →
    s.domReq d 1 = (s.keepReq d (some 1), 0)) ∧
  (∀ (d : Nat) (s : State), s.domState d = 0 → s.kept d = none → s.held d = false → s.pllInUse d = false → s.domInCycle d = false →
    (s.demoted d = false → s.domReq d 2 = (s.enter d 4, 0)) ∧
    (s.demoted d = true → (s.raise 211 4).domState d = 0 → (s.raise 211 4).domInCycle d = false →
      s.domReq d 2 = ((s.raise 211 4).enter d 3, pwrDEMOTED))) ∧
  (∀ (d : Nat) (s : State), s.domState d = 0 → s.kept d = none → d ≠ domNv → s.domReq d 3 = (s.startReset d, 0)) ∧
  (∀ (d : Fin 135) (s : State), s.domState d = 0 → s.idleTime d ≠ 0 → (s.idleTime d : Int) ≤ tdiff s.time (s.domX d).active → s.held d = false →
    s.domInCycle d = false → s.pllInUse d = false → exec (.idleTimeout d) s =
      .next (s.enter d (if s.getF (Reg.PWR_DOM_CTL d) 25 24 = 2 ∧ s.demoted d = false then 4 else 3))) ∧
  (∀ (d : Fin 135) (s : State), (s.domState d ≠ 0 ∨ s.idleTime d = 0 ∨ tdiff s.time (s.domX d).active < (s.idleTime d : Int) ∨ s.held d = true ∨
    s.domInCycle d = true ∨ s.pllInUse d = true) → exec (.idleTimeout d) s = .next s) ∧
  (∀ (d : Fin 135) (src : Fin 16) (s : State), (src.val = 0 ∨ 11 < src.val) → exec (.wakeRequest d src) s = .next s) ∧
  (∀ (d : Fin 135) (src : Fin 16) (s : State), 5 ≤ s.domState d → exec (.wakeRequest d src) s = .next s) ∧
  (∀ (d : Fin 135) (s : State), (d.val < 48 ∨ 116 ≤ d.val) → exec (.wakeRequest d 8) s = .next (s.wake d 8)) ∧
  (∀ (d : Fin 135) (s : State) (n : Nat), d.val = 48 + n → n < 68 → s.logicalOf n = none → exec (.wakeRequest d 8) s = .next (s.wake d 8 true)) ∧
  (∀ (d : Fin 135) (src : Fin 16) (s : State), 1 ≤ src.val → src.val ≤ 11 → src.val ≠ 8 → s.domState d = 0 →
    exec (.wakeRequest d src) s = .next (s.touch d)) ∧
  (∀ (d : Fin 135) (src : Fin 16) (s : State), 1 ≤ src.val → src.val ≤ 11 → src.val ≠ 8 → (s.domState d = 1 ∨ s.domState d = 2) →
    exec (.wakeRequest d src) s = .next (s.startWake d src s.time false false)) ∧
  (∀ (d : Fin 135) (src : Fin 16) (s : State), 1 ≤ src.val → src.val ≤ 11 → src.val ≠ 8 → (s.domState d = 3 ∨ s.domState d = 4) →
    (s.domX d).latched = none → s.kept d = none →
    exec (.wakeRequest d src) s = .next ((s.setDomX d { s.domX d with latched := some (src.val, s.time), copyWake := false }).setB
      (Reg.PWR_DOM_STAT d) 17 true))

/-- The end of a transition (R430, R435, R437, R438, R443): a sector's entry to RET counts, stores its canaries, its save area
and the CRCs of the keep store and leaves the domain in RET; one to OFF leaves none of them; a latched wake is carried out at
once; a wake whose checks pass ends ON, one that fails a check, or whose canaries or save area the keep store finds wrong, takes
the cold path; the end of the cold path raises EV209. -/
def Obligations.PowerTransitionsEnd : Prop :=
  (∀ (d : Fin 135) (s : State), s.domState d ≠ 3 → s.domState d ≠ 4 → exec (.entryDone d) s = .next s) ∧
  (∀ (d : Fin 135) (s u : State), s.domState d = 3 → d.val < 48 → (s.domX d).latched = none →
    u = (s.setDomX d ({ s.domX d with
      entries := (s.domX d).entries + 1,
      canaries := (List.range (domBanks d)).map (fun k => canary d k ((s.domX d).entries + 1)),
      checks := (List.range (domBanks d)).map (fun k => canary d k ((s.domX d).entries + 1)),
      save := s.saveArea d, saveCrc := crc32 (s.saveArea d),
      bankCrc := (List.range (domBanks d)).map (fun k => crc32 (s.bankBytes d k)),
      blockCrc := crc32 (s.blockBytes d) } : Domain)).setF (Reg.PWR_DOM_STAT d) 2 0 1 →
    exec (.entryDone d) s = .next ((u.endMaskedLocks d).actKept d)) ∧
  (∀ (d : Fin 135) (s u : State) (src : Nat) (t : DWord), s.domState d = 4 → d.val < 48 → (s.domX d).latched = some (src, t) →
    u = (s.setDomX d { s.domX d with canaries := [], checks := [], save := [], saveCrc := 0, bankCrc := [], blockCrc := 0 }).setF (Reg.PWR_DOM_STAT d) 2 0 2 →
    exec (.entryDone d) s = .next ((((u.endMaskedLocks d).setB (Reg.PWR_DOM_STAT d) 17 false).startWake d src t true
      (s.domX d).copyWake).raise 212 1)) ∧
  (∀ (d : Fin 135) (r : Retention) (s : State), s.domState d ≠ 5 → exec (.wakeDone d r) s = .next s) ∧
  (∀ (d : Fin 135) (s : State), s.domState d = 5 → (s.domX d).copyWake = false → d.val < 48 →
    ((s.domX d).badBank = none → exec (.wakeDone d .ok) s = .next ((s.domUp d).afterTrans d)) ∧
    (∀ k, (s.domX d).badBank = some k → exec (.wakeDone d .ok) s = .next (s.retentionLost d k)) ∧
    exec (.wakeDone d .inBlock) s = .next (s.retentionLost d 254) ∧
    exec (.wakeDone d .saveArea) s = .next (s.retentionLost d 255) ∧
    exec (.wakeDone d (.keepStore true)) s = .next ((s.raise 213 1).wakeEnds d) ∧
    exec (.wakeDone d (.keepStore false)) s = .next ((s.raise 213 2).retentionLost d 255)) ∧
  (∀ (d : Fin 135) (k : Fin 33) (s : State), s.domState d = 5 → (s.domX d).copyWake = false → k.val < domBanks d →
    exec (.wakeDone d (.bank k)) s = .next (s.retentionLost d k)) ∧
  (∀ (d : Fin 135) (k : Fin 33) (s : State), s.domState d = 5 → (s.domX d).copyWake = false → domBanks d ≤ k.val →
    exec (.wakeDone d (.bank k)) s = .next s) ∧
  (∀ (d : Fin 135) (s : State), s.domState d = 5 → (s.domX d).copyWake = false → 48 ≤ d.val → exec (.wakeDone d .inBlock) s = .next s) ∧
  (∀ (d : Fin 135) (r : Retention) (s : State), s.domState d = 5 → (s.domX d).copyWake = true →
    exec (.wakeDone d r) s = .next ((s.domUp d).afterTrans d)) ∧
  (∀ (d : Fin 135) (s : State), s.domState d ≠ 6 → exec (.coldRestoreDone d) s = .next s) ∧
  (∀ (d : Fin 135) (s : State), s.domState d = 6 → d.val < 48 →
    exec (.coldRestoreDone d) s = .next ((((s.coldSector d).raise 209 1).domUp d).afterTrans d))

/-- The intake and its warnings (R448–R457): a warning raises EV200, counts and sheds outputs once; the clear level starts the
count that ends it; a port loses power, returns, is disconnected on overvoltage and reconnected, each with its event; a sample
of 10 us shows its values, the lowest input of a warning and the peak warning. -/
def Obligations.IntakeAndWarnings : Prop :=
  (∀ s : State, s.warned = true → exec .supplyWarning s = .next (s.setB Reg.ANA_IN_STAT 17 false)) ∧
  (∀ s u v w z : State, s.warned = false → u = (s.setB Reg.ANA_IN_STAT 16 true).setB Reg.ANA_IN_STAT 17 false →
    v = (u.addF Reg.ANA_WARN_CNT 15 0 1).setF Reg.ANA_DIP_MIN 15 0 (u.getF Reg.ANA_IN_STAT 15 0) →
    w = (({ v with boot := { v.boot with warns := min 255 (v.boot.warns + 1) } } : State).raise 200 1).nvWarn →
    z = w.ana.stagger.foldl (fun s k => if s.getB (Reg.ANA_AUX_STAT k) 1 then s else s.setB (Reg.ANA_AUX_STAT k) 5 true) w →
    exec .supplyWarning s = .next ((List.range 8).foldl (fun s k => s.auxShed k) { z with ana := { z.ana with stagger := [] } })) ∧
  (∀ s : State, s.warned = true → s.getB Reg.ANA_IN_STAT 17 = false → exec .clearLevelRise s =
    .next { s.setB Reg.ANA_IN_STAT 17 true with ana := { s.ana with clearAt := s.time } }) ∧
  (∀ s : State, (s.warned = false ∨ s.getB Reg.ANA_IN_STAT 17 = true) → exec .clearLevelRise s = .next s) ∧
  (∀ s : State, (s.warned = false ∨ s.getB Reg.ANA_IN_STAT 17 = false ∨
    (s.timeRuns = true ∧ atOrAfter s.time (s.ana.clearAt + units (500 * unitsPerUs)) = false)) → exec .warningClear s = .next s) ∧
  (∀ s : State, exec .clearLevelFall s = .next (s.setB Reg.ANA_IN_STAT 17 false)) ∧
  (∀ (s u v : State) (l : List Nat), s.warned = true → s.getB Reg.ANA_IN_STAT 17 = true →
    (s.timeRuns = false ∨ atOrAfter s.time (s.ana.clearAt + units (500 * unitsPerUs)) = true) →
    u = ((((s.setB Reg.ANA_IN_STAT 16 false).setB Reg.ANA_IN_STAT 17 false).raise 201 1).nvClear.waitingWriteBack none).releaseData →
    l = (List.range 8).filter (fun k => u.auxEn k && !u.auxLive k && (u.getB (Reg.ANA_AUX_STAT k) 5 || (u.auxOut k).returns)) →
    v = (List.range 8).foldl (fun s k => if l.contains k then s else s.setB (Reg.ANA_AUX_STAT k) 1 false) u →
    exec .warningClear s = .next { v with ana := { v.ana with stagger := l, staggerAt := v.time } }) ∧
  (∀ (p : Fin 2) (s : State), s.getF (Reg.ANA_PORT_STAT p) 6 4 ≠ 0 → exec (.portPowerLoss p) s =
    .next (((s.setR (Reg.ANA_PORT_STAT p) 0).setR (Reg.ANA_PORT_VIN p) 0).raise 202 (2 ^ (2 * p.val + 1)))) ∧
  (∀ (p : Fin 2) (s : State), s.getF (Reg.ANA_PORT_STAT p) 6 4 = 0 → exec (.portPowerLoss p) s = .next s) ∧
  (∀ (p : Fin 2) (s : State), (s.getF (Reg.ANA_PORT_STAT p) 6 4 < 3 → exec (.portPowerReturn p) s =
    .next (((s.setF (Reg.ANA_PORT_STAT p) 6 4 3).setF (Reg.ANA_PORT_STAT p) 3 0 9).raise 202 (2 ^ (2 * p.val)))) ∧
    (3 ≤ s.getF (Reg.ANA_PORT_STAT p) 6 4 → exec (.portPowerReturn p) s = .next s)) ∧
  (∀ (p : Fin 2) (s : State), s.getF (Reg.ANA_PORT_STAT p) 6 4 ≠ 3 → exec (.portOvervoltage p) s = .next s ∧
    exec (.intakeCurrentLimit p) s = .next s) ∧
  (∀ (p : Fin 2) (s : State), s.getF (Reg.ANA_PORT_STAT p) 6 4 ≠ 4 → exec (.overvoltageReconnect p) s = .next s) ∧
  (∀ (p : Fin 2) (s : State), s.getF (Reg.ANA_PORT_STAT p) 6 4 = 3 →
    exec (.portOvervoltage p) s = .next (((s.setF (Reg.ANA_PORT_STAT p) 6 4 4).setB (Reg.ANA_PORT_STAT p) 8 false).raise 203 (2 ^ (2 + p.val))) ∧
    exec (.intakeCurrentLimit p) s = .next ((s.setB (Reg.ANA_PORT_STAT p) 8 true).raise 203 (2 ^ p.val))) ∧
  (∀ (p : Fin 2) (s : State), s.getF (Reg.ANA_PORT_STAT p) 6 4 = 4 →
    exec (.overvoltageReconnect p) s = .next (s.setF (Reg.ANA_PORT_STAT p) 6 4 3)) ∧
  (∀ (m : PowerSample) (s u v w : State),
    u = (((s.portMeasure 0 m.vin.1 m.iin.1 m.pin.1).portMeasure 1 m.vin.2 m.iin.2 m.pin.2).putEach Reg.ANA_RAIL 15 0 0 (m.rail.take 4)).putEach
      Reg.ANA_AUX_STAT 31 16 0 (m.aux.take 8) →
    v = u.setF Reg.ANA_IN_STAT 15 0 (max m.vin.1.toNat m.vin.2.toNat) →
    w = (if v.warned = true ∧ max m.vin.1.toNat m.vin.2.toNat < v.getF Reg.ANA_DIP_MIN 15 0
      then v.setF Reg.ANA_DIP_MIN 15 0 (max m.vin.1.toNat m.vin.2.toNat) else v) →
    (m.pin.1.toNat + m.pin.2.toNat ≤ w.getF Reg.ANA_PIN_WARN 15 0 → exec (.powerMeasure m) s = .next (w.setB Reg.ANA_IN_STAT 18 false)) ∧
    (w.getF Reg.ANA_PIN_WARN 15 0 < m.pin.1.toNat + m.pin.2.toNat →
      exec (.powerMeasure m) s = .next ((w.setB Reg.ANA_IN_STAT 18 true).raise 206 1)))

/-- Auxiliary outputs and temperatures (R399, R458–R464): EN 1 starts an output's soft-start, EN 0 switches it off and the
critical state refuses it; the end of the soft-start puts it in regulation, its time-out, an overload and the power budget trip
it with their flags; after a warning outputs return one by one; a temperature that enters the critical state trips every output.
-/
def Obligations.AuxiliaryOutputs : Prop :=
  (∀ (k : Nat) (w : Word) (s : State), (k < 8 → exec (.auxSet (.reg k w)) s = .next (s.writeAuxCtl k w)) ∧
    (8 ≤ k → exec (.auxSet (.reg k w)) s = .next s)) ∧
  (∀ (c : CmdRef) (s : State) (x : Command), s.turn c 7 2 = some x → (7 < beAt x.payload 0 1 ∨ 1 < beAt x.payload 1 1 ∨ 2 < beAt x.payload 2 1) →
    exec (.auxSet (.cmd c)) s = .next (s.replyTo x csBADPARAM true [])) ∧
  (∀ (c : CmdRef) (s : State) (x : Command), s.turn c 7 2 = some x → beAt x.payload 0 1 ≤ 7 → beAt x.payload 1 1 ≤ 1 → beAt x.payload 2 1 ≤ 2 →
    exec (.auxSet (.cmd c)) s = .next ((s.writeAuxCtl (beAt x.payload 0 1)
      (setFld (setFld (s.getR (Reg.ANA_AUX_CTL (beAt x.payload 0 1))) 5 4 (beAt x.payload 2 1)) 0 0 (beAt x.payload 1 1))).replyTo x (if beAt x.payload 1 1 = 1 ∧ s.thermCrit = true then csBUSY else csOK) true [])) ∧
  (∀ (k : Nat) (w : Word) (s u : State), bitOf w 0 = true → u = s.store (Reg.ANA_AUX_CTL k) w → u.thermCrit = true →
    s.writeAuxCtl k w = u.setB (Reg.ANA_AUX_CTL k) 0 false) ∧
  (∀ (k : Nat) (w : Word) (s u v : State), bitOf w 0 = true → u = s.store (Reg.ANA_AUX_CTL k) w → u.thermCrit = false →
    v = (((u.setB (Reg.ANA_AUX_STAT k) 2 false).setB (Reg.ANA_AUX_STAT k) 3 false).setB (Reg.ANA_AUX_STAT k) 4 false).setB
      (Reg.ANA_AUX_STAT k) 6 false →
    (v.auxLive k = true → s.writeAuxCtl k w = v) ∧
    (v.auxLive k = false → v.warned = false → s.writeAuxCtl k w = v.auxStart k) ∧
    (v.auxLive k = false → v.warned = true → s.writeAuxCtl k w =
      if v.getB (Reg.ANA_AUX_STAT k) 1 then v else v.setB (Reg.ANA_AUX_STAT k) 5 true)) ∧
  (∀ (k : Nat) (w : Word) (s u : State), bitOf w 0 = false → u = ((s.store (Reg.ANA_AUX_CTL k) w).auxOff k).setB (Reg.ANA_AUX_STAT k) 1 false →
    s.writeAuxCtl k w = { u with ana := { u.ana with stagger := u.ana.stagger.erase k } }) ∧
  (∀ (k : Nat) (s : State), s.auxStart k = (let u := (s.setB (Reg.ANA_AUX_STAT k) 1 false).setB (Reg.ANA_AUX_STAT k) 5 false
    { u with ana := { u.ana with
      stagger := u.ana.stagger.erase k, aux := tabPut (fun _ => {}) u.ana.aux k { starting := true, since := u.time } } })) ∧
  (∀ (k : Fin 8) (s : State), (s.auxOut k).starting = true →
    exec (.auxSoftStartDone k) s = .next ((s.setAux k {}).setB (Reg.ANA_AUX_STAT k) 0 true)) ∧
  (∀ (k : Fin 8) (s : State), (s.auxOut k).starting = true → atOrAfter s.time ((s.auxOut k).since + units (5 * unitsPerMs)) = true →
    exec (.auxStartTimeout k) s = .next ((((s.auxOff k).setB (Reg.ANA_AUX_CTL k) 0 false).setB (Reg.ANA_AUX_STAT k) 6 true).raise (248 + k) 2)) ∧
  (∀ (k : Fin 8) (s : State), atOrAfter s.time ((s.auxOut k).since + units (5 * unitsPerMs)) = false → exec (.auxStartTimeout k) s = .next s) ∧
  (∀ (k : Fin 8) (s : State), (s.auxOut k).starting = false → exec (.auxSoftStartDone k) s = .next s ∧ exec (.auxStartTimeout k) s = .next s) ∧
  (∀ (k : Fin 8) (s : State), s.getB (Reg.ANA_AUX_STAT k) 0 = false → (s.getB (Reg.ANA_AUX_STAT k) 1 = false ∨ (s.auxOut k).since ≠ s.time) →
    exec (.auxFuseTrip k) s = .next s) ∧
  (∀ (k : Fin 8) (s : State), (s.getB (Reg.ANA_AUX_STAT k) 0 = true ∨ (s.getB (Reg.ANA_AUX_STAT k) 1 = true ∧ (s.auxOut k).since = s.time)) →
    exec (.auxFuseTrip k) s = .next ((((s.auxOff k).setB (Reg.ANA_AUX_CTL k) 0 false).setB (Reg.ANA_AUX_STAT k) 2 true).raise (248 + k) 1)) ∧
  (∀ (n : Nat) (s : State), n ≤ 600 → exec (.auxBudgetCheck n) s = .next s) ∧
  (∀ (n k : Nat) (s : State), 600 < n → s.shedFirst ((List.range 8).filter (fun k => s.auxLive k)) = some k →
    exec (.auxBudgetCheck n) s = .next ((((s.auxOff k).setB (Reg.ANA_AUX_CTL k) 0 false).setB (Reg.ANA_AUX_STAT k) 4 true).raise (248 + k) 4)) ∧
  (∀ (n : Nat) (s : State), s.shedFirst ((List.range 8).filter (fun k => s.auxLive k)) = none → exec (.auxBudgetCheck n) s = .next s) ∧
  (∀ (k : Nat) (l : List Nat) (s u : State), s.ana.stagger = k :: l → s.warned = false → atOrAfter s.time s.ana.staggerAt = true →
    u = { s with ana := { s.ana with stagger := l, staggerAt := s.time + units (200 * unitsPerUs) } } →
    (u.auxEn k = false ∨ u.thermCrit = true ∨ u.auxLive k = true) → exec .auxStaggerOn s = .next u) ∧
  (∀ s : State, s.ana.stagger = [] ∨ s.warned = true ∨ atOrAfter s.time s.ana.staggerAt = false → exec .auxStaggerOn s = .next s) ∧
  (∀ (k : Nat) (l : List Nat) (s u : State), s.ana.stagger = k :: l → s.warned = false → atOrAfter s.time s.ana.staggerAt = true →
    u = { s with ana := { s.ana with stagger := l, staggerAt := s.time + units (200 * unitsPerUs) } } →
    u.auxEn k = true → u.thermCrit = false → u.auxLive k = false →
    (s.getB (Reg.ANA_AUX_STAT k) 1 = true → exec .auxStaggerOn s = .next ((u.auxStart k).raise (248 + k) 32)) ∧
    (s.getB (Reg.ANA_AUX_STAT k) 1 = false → exec .auxStaggerOn s = .next (u.auxStart k))) ∧
  (∀ (t : List (BitVec 16)) (s u : State), u = s.senseAll 0 (t.take 8) →
    (u.ana.hot = [] → exec (.thermalRead t) s = .next (u.setB Reg.ANA_IN_STAT 19 false)) ∧
    (u.ana.hot ≠ [] → s.thermCrit = true → exec (.thermalRead t) s = .next (u.setB Reg.ANA_IN_STAT 19 true)) ∧
    (u.ana.hot ≠ [] → s.thermCrit = false → exec (.thermalRead t) s = .next ((List.range 8).foldl (fun s k =>
      if s.auxEn k || s.auxLive k then s.auxTrip k 3 8 else s) (u.setB Reg.ANA_IN_STAT 19 true))))

/-- The recipe key's port (R313–R321, R324, R329, R399): an insertion begins discovery, which ends READY, waits for the second
voltage, or ends in ERROR; a removal clears the port and loses the dirty blocks; an overcurrent switches the supply off; SELECT,
RESCAN and the reads answer by the key's state. -/
def Obligations.RecipeKeyPort : Prop :=
  (∀ (k : KeyChip) (s u : State), s.key.chip = none → u = ({ s with key := { s.key with chip := some k } } : State).raise 192 1 →
    exec (.keyInsertion k) s = .next (u.keyDiscover (s.thawed && s.getB Reg.KEY_CTL 6))) ∧
  (∀ (k j : KeyChip) (s : State), s.key.chip = some j → exec (.keyInsertion k) s = .next s) ∧
  (∀ s : State, s.key.chip = none → exec .keyRemoval s = .next s ∧ exec .keyDiscovery s = .next s ∧ exec .keyOvercurrent s = .next s) ∧
  (∀ (s u v : State) (k : KeyChip), s.key.chip = some k → u = { s.dropDue with key := { s.dropDue.key with
      chip := none, retry := false, discover := false, auto := false, goldOk := false, due := none, bound := [], dirty := [], journal := none,
      wbDue := false, wbCmd := none, rescan := none } } →
    v = (((u.addF Reg.KEY_WB_LOST 15 0 s.key.dirty.length).raise 193 1).raise 197 2).keyGone.cutStaging →
    exec .keyRemoval s = .next ((v.finishOpt s.key.wbCmd (csOf 6 1) (beBytes 2 0)).finishOpt s.key.rescan (csOf 6 1)
      (beBytes 4 (v.getR Reg.KEY_STAT).toNat))) ∧
  (∀ (s : State) (k : KeyChip), s.key.chip = some k →
    (s.key.discover = false ∨ s.key.retry = true ∨ s.getB Reg.KEY_STAT 10 = true ∨ s.domOn domKey = false) → exec .keyDiscovery s = .next s) ∧
  (∀ (s u : State) (k : KeyChip) (good : Bool), s.key.chip = some k → s.key.discover = true → s.key.retry = false → s.getB Reg.KEY_STAT 10 = false →
    s.domOn domKey = true → u = (if s.getB Reg.KEY_STAT 4 then s else s.keyPower) → good = (if u.getB Reg.KEY_STAT 5 then k.sfdp33 else k.sfdp18) →
    (good = false → u.getF Reg.KEY_CTL 5 4 = 2 → u.getB Reg.KEY_STAT 5 = false →
      exec .keyDiscovery s = .next { u.setB Reg.KEY_STAT 4 false with key := { u.key with retry := true } }) ∧
    (good = false → u.getF Reg.KEY_CTL 5 4 ≠ 2 ∨ u.getB Reg.KEY_STAT 5 = true → exec .keyDiscovery s = .next (u.keyError 1)) ∧
    (good = true → 2 ^ 29 < k.size → exec .keyDiscovery s = .next (u.keyError 2)) ∧
    (good = true → k.size ≤ 2 ^ 29 → exec .keyDiscovery s = .next (((u.setR Reg.KEY_SIZE (BitVec.ofNat 32 k.size)).setF Reg.KEY_STAT 7 6
      (if k.octal then 2 else 1)).keyDirectory k))) ∧
  (∀ s : State, s.key.retry = true → exec .keyVoltageRetry s =
    .next { (s.setB Reg.KEY_STAT 5 true).setB Reg.KEY_STAT 4 true with key := { s.key with retry := false } }) ∧
  (∀ s : State, s.key.retry = false → exec .keyVoltageRetry s = .next s) ∧
  (∀ (s u v : State) (k : KeyChip), s.key.chip = some k → s.getB Reg.KEY_STAT 4 = true →
    u = (((s.setB Reg.KEY_STAT 4 false).setB Reg.KEY_STAT 10 true).setF Reg.KEY_STAT 7 6 0).setF Reg.KEY_STAT 2 0 4 →
    v = (({ u with key := { u.key with
      discover := false, retry := false, auto := false, rescan := none } } : State).raise 195 8).cutStaging →
    exec .keyOvercurrent s = .next (v.finishOpt s.key.rescan (csOf 6 2) (beBytes 4 (v.getR Reg.KEY_STAT).toNat))) ∧
  (∀ s : State, s.getB Reg.KEY_STAT 4 = false → exec .keyOvercurrent s = .next s) ∧
  (∀ (c : CmdRef) (s : State) (x : Command), s.turn c 6 1 = some x →
    exec (.keySelect (.cmd c)) s = .next ((s.pendingReply x).keySelect (some (beAt x.payload 0 4)) (some c))) ∧
  (∀ (w : Word) (s : State), bitOf w 0 = true → bitOf w 1 = false → bitOf w 2 = false → s.keyBusy = false →
    exec (.keySelect (.reg w)) s = .next (s.keySelect (some (s.getR Reg.KEY_FMT_ID).toNat) none)) ∧
  (∀ (w : Word) (s : State), bitOf w 0 = true → bitOf w 1 = false → bitOf w 2 = false → s.keyBusy = true →
    exec (.keySelect (.reg w)) s = .next ((s.setB Reg.KEY_STAT 14 true).keySelect (some (s.getR Reg.KEY_FMT_ID).toNat) none)) ∧
  (∀ (s : State) (f : Nat), s.key.chip = none → s.keySelect (some f) none = (s.setF Reg.KEY_FMT_STAT 31 24 1).raise 195 16) ∧
  (∀ (s : State) (f : Nat) (k : KeyChip), s.key.chip = some k → s.keyState ≠ 3 →
    s.keySelect (some f) none = (s.setF Reg.KEY_FMT_STAT 31 24 2).raise 195 16) ∧
  (∀ (w : Word) (s : State) (k : KeyChip), bitOf w 0 = false → bitOf w 1 = false → bitOf w 2 = true → s.keyBusy = false → s.key.discover = false →
    s.key.chip = some k → s.getB Reg.KEY_STAT 10 = false → exec (.keyRescan (.reg w)) s = .next (s.keyDiscover false)) ∧
  (∀ (c : CmdRef) (s u : State) (x : Command) (k : KeyChip), s.turn c 6 4 = some x → s.key.chip = some k → s.getB Reg.KEY_STAT 10 = false →
    s.keyBusy = false → s.key.discover = false → u = (s.pendingReply x).keyDiscover false →
    exec (.keyRescan (.cmd c)) s = .next { u with key := { u.key with rescan := some c } }) ∧
  (∀ (w : Word) (s : State), bitOf w 0 = false → bitOf w 1 = false → bitOf w 2 = true →
    (s.keyBusy = true ∨ s.key.discover = true → exec (.keyRescan (.reg w)) s = .next (s.setB Reg.KEY_STAT 14 true)) ∧
    (s.keyBusy = false → s.key.discover = false → s.key.chip = none ∨ s.getB Reg.KEY_STAT 10 = true → exec (.keyRescan (.reg w)) s = .next s)) ∧
  (∀ (c : CmdRef) (s : State) (x : Command) (k : KeyChip), s.turn c 6 4 = some x → s.key.chip = some k →
    (s.getB Reg.KEY_STAT 10 = true →
      exec (.keyRescan (.cmd c)) s = .next (s.replyTo x (csOf 6 2) true (beBytes 4 (s.getR Reg.KEY_STAT).toNat))) ∧
    (s.getB Reg.KEY_STAT 10 = false → s.keyBusy = true ∨ s.key.discover = true →
      exec (.keyRescan (.cmd c)) s = .next (s.replyTo x (csOf 6 ksBUSY) true (beBytes 4 (s.getR Reg.KEY_STAT).toNat)))) ∧
  (∀ (c : CmdRef) (s : State) (x : Command), s.turn c 6 4 = some x → s.key.chip = none →
    exec (.keyRescan (.cmd c)) s = .next (s.replyTo x (csOf 6 1) true (beBytes 4 (s.getR Reg.KEY_STAT).toNat))) ∧
  (∀ (c : CmdRef) (s : State) (x : Command), s.turn c 6 0 = some x → exec (.keyStat c) s =
    .next (s.replyTo x csOK true (beBytes 4 (s.getR Reg.KEY_STAT).toNat ++ beBytes 4 (s.getR Reg.KEY_FMT_STAT).toNat ++
      beBytes 8 (s.getD Reg.KEY_ID).toNat))) ∧
  (∀ (c : CmdRef) (s : State) (x : Command), s.turn c 6 3 = some x → s.key.chip = none → exec (.keyRead c) s =
    .next (s.replyTo x (csOf 6 1) true [])) ∧
  (∀ (c : CmdRef) (s : State) (x : Command) (k : KeyChip), s.turn c 6 3 = some x → s.key.chip = some k →
    (beAt x.payload 4 2 = 0 ∨ 1024 < beAt x.payload 4 2 → exec (.keyRead c) s = .next (s.replyTo x csBADPARAM true [])) ∧
    (1 ≤ beAt x.payload 4 2 → beAt x.payload 4 2 ≤ 1024 →
      (s.keyState ≠ 3 → exec (.keyRead c) s = .next (s.replyTo x (csOf 6 2) true [])) ∧
      (s.keyState = 3 → k.size < beAt x.payload 0 4 + beAt x.payload 4 2 → exec (.keyRead c) s = .next (s.replyTo x csBADADDR true [])))) ∧
  (∀ (c : CmdRef) (s t : State) (x : Command) (k : KeyChip), s.turn c 6 3 = some x → s.key.chip = some k → 1 ≤ beAt x.payload 4 2 →
    beAt x.payload 4 2 ≤ 1024 → s.keyState = 3 → beAt x.payload 0 4 + beAt x.payload 4 2 ≤ k.size →
    s.submit 6 (beAt x.payload 0 4) (beAt x.payload 4 2) [] 0 (.host x.ref) = (t, 0) → exec (.keyRead c) s = .next (t.awaitReply x))

/-- Settings, the write-back and the parameter store (R322–R329, R399): a load that is due waits while the port is in use; an
unsigned area that must be signed loads nothing; a write-back is refused without a key and runs once the port is free; a window
write reaches the store and makes bound blocks dirty; reads and writes go through the arbiter. -/
def Obligations.SettingsAndWriteBack : Prop :=
  (∀ (f : Option Nat) (s : State), s.key.due = none → exec (.settingsLoad f) s = .next s) ∧
  (∀ (f : Option Nat) (s : State) (e : Nat) (k : KeyChip), s.key.due = some (e, false) → s.key.chip = some k → s.key.sel = none →
    s.keyStaging = false → s.warned = false → s.keyLive = true → s.key.dirty = [] →
    exec (.settingsLoad f) s = .next (({ s with key := { s.key with due := none } } : State).loadSettings k e)) ∧
  (∀ (f : Option Nat) (s u : State) (e : Nat) (k j : KeyChip), s.key.due = some (e, false) → s.key.chip = some k → s.key.sel = none →
    s.keyStaging = false → s.warned = false → s.keyLive = true → s.key.dirty ≠ [] →
    u = { (s.writeBack f).1 with key := { (s.writeBack f).1.key with due := none } } → u.key.chip = some j →
    exec (.settingsLoad f) s = .next (u.loadSettings j e)) ∧
  (∀ (f : Option Nat) (s : State), (s.key.chip = none ∨ s.key.sel.isSome = true ∨ s.keyStaging = true ∨ s.warned = true ∨ s.keyLive = false) →
    exec (.settingsLoad f) s = .next s) ∧
  (∀ (s : State) (e : Nat) (k : KeyChip), k.be (e + 0x28) 4 ≠ 0 → s.settingsSigned k e = false → s.loadSettings k e = s.raise 196 8) ∧
  (∀ (f : Option Nat) (c : CmdRef) (s : State) (x : Command), s.turn c 6 2 = some x → s.key.chip = none →
    exec (.keyWb (.cmd c) f) s = .next (s.replyTo x (csOf 6 1) true (beBytes 2 0))) ∧
  (∀ (f : Option Nat) (c : CmdRef) (s : State) (x : Command) (k : KeyChip), s.turn c 6 2 = some x → s.key.chip = some k →
    (s.keyBusy = true ∨ s.key.wbCmd.isSome = true) → exec (.keyWb (.cmd c) f) s = .next (s.replyTo x (csOf 6 ksBUSY) true (beBytes 2 0))) ∧
  (∀ (f : Option Nat) (w : Word) (s : State), bitOf w 0 = false → bitOf w 1 = true → bitOf w 2 = false → s.keyBusy = true →
    exec (.keyWb (.reg w) f) s = .next (s.setB Reg.KEY_STAT 14 true)) ∧
  (∀ (f : Option Nat) (c : CmdRef) (s : State) (x : Command) (k : KeyChip), s.turn c 6 2 = some x → s.key.chip = some k → s.keyBusy = false →
    s.key.wbCmd = none → exec (.keyWb (.cmd c) f) s = .next ((s.pendingReply x).askWriteBack (some c) f)) ∧
  (∀ (f : Option Nat) (w : Word) (s t : State) (n : Nat), bitOf w 0 = false → bitOf w 1 = true → bitOf w 2 = false → s.keyBusy = false →
    s.keyStaging = false → s.warned = false → s.writeBack f = (t, n) →
    exec (.keyWb (.reg w) f) s = .next { t with key := { t.key with wbDue := false, wbCmd := none } }) ∧
  (∀ (f : Option Nat) (s t : State) (n : Nat), s.key.wbDue = false → s.getB Reg.KEY_CTL 2 = true → s.key.dirty ≠ [] → s.keyBusy = false →
    atOrAfter s.time (s.key.wbAt + units (unitsPerMs * max 1 (s.getF Reg.KEY_WB_PERIOD 15 0))) = true → s.keyStaging = false → s.warned = false →
    s.writeBack f = (t, n) → exec (.wbPeriodExpiry f) s = .next { t with key := { t.key with wbDue := false, wbCmd := none } }) ∧
  (∀ (f : Option Nat) (s : State), s.key.wbDue = false → (s.key.dirty = [] ∨ s.getB Reg.KEY_CTL 2 = false ∨ s.keyBusy = true ∨
    atOrAfter s.time (s.key.wbAt + units (unitsPerMs * max 1 (s.getF Reg.KEY_WB_PERIOD 15 0))) = false) →
    exec (.wbPeriodExpiry f) s = .next s) ∧
  (∀ (f : Option Nat) (s : State), s.key.wbDue = true →
    (s.keyStaging = true ∨ s.warned = true → exec (.wbPeriodExpiry f) s = .next s) ∧
    (s.keyStaging = false → s.warned = false → exec (.wbPeriodExpiry f) s = .next (s.askWriteBack s.key.wbCmd f))) ∧
  (∀ (k : Fin 1048576) (w : Word) (s : State), exec (.prmWindowWrite k w) s = .next { s with key := { s.key with
    prm := prmPut s.key.prm (4 * k.val) (leBytes 4 w.toNat),
    dirty := ((blocksOf (4 * k.val) 4).filter (fun b => s.key.bound.contains b)).foldl addBlock s.key.dirty } }) ∧
  (∀ (c : CmdRef) (s t : State) (x : Command), s.turn c 6 5 = some x → 4 ≤ beAt x.payload 4 2 → beAt x.payload 4 2 ≤ 1024 →
    s.submit 3 (beAt x.payload 0 4) (beAt x.payload 4 2) [] 0 (.host x.ref) = (t, 0) → exec (.prmRead c) s = .next (t.awaitReply x)) ∧
  (∀ (c : CmdRef) (s : State) (x : Command), s.turn c 6 5 = some x → beAt x.payload 4 2 < 4 ∨ 1024 < beAt x.payload 4 2 →
    exec (.prmRead c) s = .next (s.replyTo x csBADPARAM true [])) ∧
  (∀ (c : CmdRef) (s t : State) (x : Command), s.turn c 6 6 = some x →
    s.submit 4 (beAt x.payload 0 4) (x.payload.drop 4).length (x.payload.drop 4) 0 (.host x.ref) = (t, 0) →
    exec (.prmWrite c) s = .next (t.awaitReply x)) ∧
  (∀ (c : CmdRef) (s t : State) (x : Command) (r : Nat), s.turn c 6 6 = some x → r ≠ 0 → r < 0x40 →
    s.submit 4 (beAt x.payload 0 4) (x.payload.drop 4).length (x.payload.drop 4) 0 (.host x.ref) = (t, r) →
    exec (.prmWrite c) s = .next (t.replyTo x (csOf 5 r) true []))

/-- Requests to the user NV array (R333, R335, R344, R345, R399): a program, erase or read goes to its arbiter and answers with
a refusal's status; a window write is ignored with CMD_ERR; SUSPEND without an erase sets CMD_ERR, in a pulse it waits for the
segment's end; RESUME clears the command's hold; a window read answers once the bank may be read. -/
def Obligations.NvRequests : Prop :=
  (∀ (c : CmdRef) (s t : State) (x : Command), s.turn c 5 1 = some x →
    s.submit 1 (beAt x.payload 0 4) (x.payload.drop 4).length (x.payload.drop 4) 0 (.host x.ref) = (t, 0) →
    exec (.nvProgram (.cmd c)) s = .next (t.pendingReply x)) ∧
  (∀ (c : CmdRef) (s t : State) (x : Command) (r : Nat), s.turn c 5 1 = some x → r ≠ 0 → 0x40 ≤ r →
    s.submit 1 (beAt x.payload 0 4) (x.payload.drop 4).length (x.payload.drop 4) 0 (.host x.ref) = (t, r) →
    exec (.nvProgram (.cmd c)) s = .next (t.replyTo x (csOf 4 r) true [])) ∧
  (∀ (w : Word) (s : State), bitOf w 8 = false → bitOf w 9 = false → s.getB Reg.NVC_STAT 3 = true →
    (fld w 1 0 = 1 → exec (.nvProgram (.reg w)) s = .next (s.setB Reg.NVC_STAT 15 true)) ∧
    (fld w 1 0 = 2 → exec (.nvErase (.reg w)) s = .next (s.setB Reg.NVC_STAT 15 true))) ∧
  (∀ (w : Word) (s t : State), bitOf w 8 = false → bitOf w 9 = false → fld w 1 0 = 2 → s.getB Reg.NVC_STAT 3 = false →
    s.submit 2 (s.getF Reg.NVC_OP_ADDR 25 0) 0 [] 0 .register = (t, 0) →
    exec (.nvErase (.reg w)) s = .next ((t.setR Reg.NVC_OP_RES 0).setB Reg.NVC_STAT 3 true)) ∧
  (∀ (w : Word) (s t : State) (r : Nat), bitOf w 8 = false → bitOf w 9 = false → fld w 1 0 = 2 → s.getB Reg.NVC_STAT 3 = false → r ≠ 0 →
    s.submit 2 (s.getF Reg.NVC_OP_ADDR 25 0) 0 [] 0 .register = (t, r) →
    exec (.nvErase (.reg w)) s = .next (t.setR Reg.NVC_OP_RES (BitVec.ofNat 32 (0x8000 + r)))) ∧
  (∀ (c : CmdRef) (s t : State) (x : Command), s.turn c 5 2 = some x →
    s.submit 2 (beAt x.payload 0 4) 0 [] 0 (.host x.ref) = (t, 0) → exec (.nvErase (.cmd c)) s = .next (t.pendingReply x)) ∧
  (∀ (c : CmdRef) (s t : State) (x : Command), s.turn c 5 0 = some x →
    s.submit 0 (beAt x.payload 0 4) (beAt x.payload 4 2) [] 0 (.host x.ref) = (t, 0) → exec (.nvRead c) s = .next (t.awaitReply x)) ∧
  (∀ (c : CmdRef) (s : State) (x : Command), s.turn c 5 5 = some x → exec (.nvStat c) s =
    .next (s.replyTo x csOK true (beBytes 4 (s.getR Reg.NVC_STAT).toNat ++ beBytes 4 (s.getR Reg.NVC_SUSP_CNT).toNat ++ beBytes 4 s.eraseAge))) ∧
  (∀ (k : Fin 16777216) (w : Word) (s : State), exec (.nvWindowWrite k w) s = .next (s.setB Reg.NVC_STAT 15 true)) ∧
  (∀ (w : Word) (s : State), bitOf w 8 = true → bitOf w 9 = false → fld w 1 0 = 0 → s.nv.erase = none →
    exec (.nvSuspend (.reg w)) s = .next (s.setB Reg.NVC_STAT 15 true)) ∧
  (∀ (c : CmdRef) (s : State) (x : Command), s.turn c 5 3 = some x → s.nv.erase = none →
    exec (.nvSuspend (.cmd c)) s = .next ((s.setB Reg.NVC_STAT 15 true).replyTo x csBUSY true [])) ∧
  (∀ (c : CmdRef) (s : State) (x : Command) (e : NvErase), s.turn c 5 3 = some x → s.nv.erase = some e → e.stopped = false → e.seg ≠ 8 →
    exec (.nvSuspend (.cmd c)) s =
      .next (({ s with nv := { s.nv with erase := some { e with cmdAsk := true } } } : State).replyTo x csOK true [])) ∧
  (∀ (w : Word) (s u : State), bitOf w 8 = false → bitOf w 9 = true → fld w 1 0 = 0 →
    u = ({ s with nv := { s.nv with erase := s.nv.erase.map (fun e => { e with cmdAsk := false }) } } : State).nvRelease 10 2 →
    (u.getB Reg.NVC_CTL 1 = true → exec (.nvResume (.reg w)) s = .next u) ∧
    (u.getB Reg.NVC_CTL 1 = false → u.getB Reg.ANA_IN_STAT 16 = false → exec (.nvResume (.reg w)) s = .next (u.nvRelease 11 2))) ∧
  (∀ (k : Fin 16777216) (x : Ecc) (s : State), s.domOn domNv = false → exec (.nvWindowRead k x) s = .next (s.wake domNv 1)) ∧
  (∀ (k : Fin 16777216) (x : Ecc) (s u : State), s.nvServe (k.val / 2 ^ 21) = (u, false) → exec (.nvWindowRead k x) s = .next u) ∧
  (∀ (k : Fin 16777216) (x : Ecc) (s u : State), s.nvServe (k.val / 2 ^ 21) = (u, true) →
    exec (.nvWindowRead k x) s = .next { (u.nvReadWord (k.val / 8) x).1 with readData := BitVec.ofNat 32 (leNat (s.nvBytes (4 * k.val) 4)) }) ∧
  (∀ (s : State) (b : Nat), s.domOn domNv = true → s.nv.prog = none → s.nv.erase = none → s.nvServe b = (s.touch domNv, true)) ∧
  (∀ (s : State) (b : Nat) (p : NvProg), s.domOn domNv = true → s.nv.prog = some p → p.addr / 2 ^ 23 = b → p.waits = false → p.readOk = false →
    s.nvServe b = ({ s.touch domNv with nv := { (s.touch domNv).nv with prog := some { p with readAsk := true } } }, false))

/-- Pulses of the user NV array and far fetches (R116, R337, R338, R341, R344–R346): a program step that verifies stores its
word, one that fails goes on up to its limit; a segment's end counts and takes the suspensions asked for; an erase's last
segment is verified, and a pass clears the sector; a read suspension ends after its idle time; a far line that is good reaches
the engine's cache, a bad one raises FETCH. -/
def Obligations.NvPulsesAndFarLines : Prop :=
  (∀ (s : State) (p : NvProg) (q : ArbReq), s.nv.prog = some p → (s.arbiter 0).busy = some q → p.waits = false → s.getB Reg.NVC_STAT 11 = false →
    exec (.nvProgramStep true) s = .next (({ s with nv := { s.nv with
      cells := nvPut s.nv.cells p.addr p.data, marks := tabPut (fun _ => 0) s.nv.marks (p.addr / 32) 3 } } : State).nvWordDone q 0)) ∧
  (∀ (s u : State) (p : NvProg) (q : ArbReq), s.nv.prog = some p → (s.arbiter 0).busy = some q → p.waits = false → s.getB Reg.NVC_STAT 11 = false →
    p.step + 1 < max 1 (min 16 (s.getF Reg.NVC_CTL 12 8)) →
    u = { s with nv := { s.nv with prog := some { p with step := p.step + 1, readOk := p.readAsk, readAsk := false } } } →
    (s.nv.warnAsk = false → exec (.nvProgramStep false) s = .next u) ∧ (s.nv.warnAsk = true → exec (.nvProgramStep false) s = .next u.nvWarnStop)) ∧
  (∀ (b : Bool) (s : State) (p : NvProg) (q : ArbReq), s.nv.prog = some p → (s.arbiter 0).busy = some q →
    (p.waits = true ∨ s.getB Reg.NVC_STAT 11 = true) → exec (.nvProgramStep b) s = .next s) ∧
  (∀ (s : State) (p : NvProg) (q : ArbReq), s.nv.prog = some p → (s.arbiter 0).busy = some q → p.waits = false → s.getB Reg.NVC_STAT 11 = false →
    max 1 (min 16 (s.getF Reg.NVC_CTL 12 8)) ≤ p.step + 1 →
    exec (.nvProgramStep false) s = .next (((s.raise 177 1).nvFault (p.addr / 32 / 128) 10).nvWordDone q 0x44)) ∧
  (∀ (b : Bool) (s : State), s.nv.prog = none → exec (.nvProgramStep b) s = .next s) ∧
  (∀ (s : State) (e : NvErase), s.nv.erase = some e → e.stopped = false → e.seg < 8 → exec .eraseSegmentEnd s =
    .next ({ s with nv := { s.nv with erase := some { e with seg := e.seg + 1 } } } : State).nvAsked.nvBegin.nvShow) ∧
  (∀ (b : Bool) (s : State), s.nv.erase = none →
    exec .eraseSegmentEnd s = .next s ∧ exec (.nvErasePulse b) s = .next s ∧ exec .nvResumeIdle s = .next s) ∧
  (∀ (s : State) (e : NvErase), s.nv.erase = some e → e.stopped = false → e.seg = 8 →
    exec (.nvErasePulse true) s = .next (s.nvErased { e with pulses := e.pulses + 1, seg := 0 } true
      (s.getB (Reg.NVC_SST e.sector) 28 && decide (0 < s.getF (Reg.NVC_BANK_STAT (e.sector / 2048)) 22 16)))) ∧
  (∀ (s u : State) (e : NvErase), s.nv.erase = some e → e.stopped = false → e.seg = 8 → e.pulses < 11 →
    u = { s with nv := { s.nv with erase := some { e with pulses := e.pulses + 1, seg := 0 } } } →
    (e.warnAsk = false → exec (.nvErasePulse false) s = .next u) ∧ (e.warnAsk = true → exec (.nvErasePulse false) s = .next u.nvWarnStop)) ∧
  (∀ (s : State) (e : NvErase), s.nv.erase = some e → e.stopped = false → e.seg = 8 → 11 ≤ e.pulses →
    exec (.nvErasePulse false) s = .next (s.nvErased { e with pulses := e.pulses + 1, seg := 0 }
      (decide (0 < s.getF (Reg.NVC_BANK_STAT (e.sector / 2048)) 22 16)) (decide (0 < s.getF (Reg.NVC_BANK_STAT (e.sector / 2048)) 22 16)))) ∧
  (∀ (b : Bool) (s : State) (e : NvErase), s.nv.erase = some e → (e.stopped = true ∨ e.seg ≠ 8) → exec (.nvErasePulse b) s = .next s) ∧
  (∀ (s : State) (e : NvErase), s.nv.erase = some e → e.stopped = true → s.getB Reg.NVC_STAT 9 = true →
    atOrAfter s.time (e.lastRead + units (unitsPerUs * max 1 (s.getF Reg.NVC_CTL 23 16))) = true →
    exec .nvResumeIdle s = .next (s.nvRelease 9 1)) ∧
  (∀ (n : Fin 68) (x y : Ecc) (s : State), s.logicalOf n = none → exec (.farLineFill n x y) s = .next s) ∧
  (∀ (n : Fin 68) (x y : Ecc) (s u : State) (e line : Nat), s.logicalOf n = some e → (s.leng e).stall = some (.farFill line) →
    s.nvServe (line / 2 ^ 17) = (u, false) → exec (.farLineFill n x y) s = .next u) ∧
  (∀ (n : Fin 68) (x y : Ecc) (s u t : State) (e line st : Nat) (i : Nat) (b : Bool), s.logicalOf n = some e →
    (s.leng e).stall = some (.farFill line) → s.nvServe (line / 2 ^ 17) = (u, true) → s.inCycle n = true →
    u.nvReadWords (2 * line) 2 0 [x, y] = (t, st, i, b) →
    (st ≠ 0 → exec (.farLineFill n x y) s =
      .next (((t.setLeng e { t.leng e with stall := none }).raise e 0x800).takeExc n e 2 (t.leng e).pc)) ∧
    (st = 0 → exec (.farLineFill n x y) s =
      .next ((t.setLeng e ({ t.leng e with
        stall := none, far := ⟨line, (List.range 16).map (fun i =>
          BitVec.ofNat 32 (leNat (sliceB (s.nvBytes (64 * line) 64) (4 * i) 4)))⟩ ::
            (t.leng e).far.filter (fun l => some l.line != (let set := (t.leng e).far.filter (fun l => l.line % 16 == line % 16);
              if 4 ≤ set.length then set.getLast?.map (fun l => l.line) else none)) } : LEng)).incR (Reg.ENG_FAR_MISS n))))

/-- The trunk ports' service and 802.1AS (R357, R362–R366): a link comes up and is lost with its events, a loss takes the port
out of service; a valid peer-delay exchange counts towards JOIN_N and the last of them puts the port in service; a request
leaves each interval; a wake frame or line energy wakes a sleeping port, another frame is dropped. -/
def Obligations.TrunkService : Prop :=
  (∀ (p : Fin 2) (s : State), s.getB (Reg.NET_PORT_CTL p) 0 = true → s.domOn (domTrunk p) = true → s.getB (Reg.NET_PORT_STAT p) 3 = false →
    exec (.linkUp p) s = .next (((s.setB (Reg.NET_PORT_STAT p) 3 true).setF (Reg.NET_PORT_STAT p) 2 0 2).raise (144 + p) 1)) ∧
  (∀ (p : Fin 2) (s : State), s.getB (Reg.NET_PORT_CTL p) 0 = false ∨ s.domOn (domTrunk p) = false → exec (.linkUp p) s = .next s) ∧
  (∀ (p : Fin 2) (s : State), s.getB (Reg.NET_PORT_STAT p) 3 = false → exec (.linkDown p) s = .next s) ∧
  (∀ (p : Fin 2) (s : State), s.getB (Reg.NET_PORT_STAT p) 3 = true → s.portState p ≠ 5 →
    exec (.linkUp p) s = .next s ∧ exec (.linkDown p) s = .next (s.portLeaves p 1)) ∧
  (∀ (p : Fin 2) (s : State), s.getB (Reg.NET_PORT_STAT p) 3 = true → s.portState p = 5 → exec (.linkDown p) s = .next (s.linkLost p)) ∧
  (∀ (p : Fin 2) (d : Word) (s : State), s.ptpRuns p = false → exec (.peerDelayExchange p d) s = .next s ∧ exec (.pdelayReqInterval p) s = .next s) ∧
  (∀ (p : Fin 2) (d : Word) (s u v w : State), s.ptpRuns p = true → u = s.setR (Reg.NET_PORT_PDELAY p) d →
    v = (u.setNetPort p ({ u.netPort p with
      pdelayOut := false, pdelayLost := 0, joins := (u.netPort p).joins + 1 } : NetPort)).setCapable p true →
    w = (if v.portState p = 2 then v.setF (Reg.NET_PORT_STAT p) 2 0 3 else v) →
    (w.portState p ≠ 3 ∨ (w.netPort p).joins < max 1 (w.getF Reg.NET_CTL 23 16) → exec (.peerDelayExchange p d) s = .next w) ∧
    (w.portState p = 3 → max 1 (w.getF Reg.NET_CTL 23 16) ≤ (w.netPort p).joins → exec (.peerDelayExchange p d) s =
      .next (((({ w with net := { w.net with
        rxs := (w.net.rxs.map (fun i => (i.1, ({ i.2 with
          latPass := tabErase i.2.latPass p, latDup := tabErase i.2.latDup p, lastSeq := tabErase i.2.lastSeq p } : RxStream)))).filter
            (fun i => i.2 != {}) } } : State).setF (Reg.NET_PORT_STAT p) 2 0 4).setB Reg.NET_STAT p true).raise (144 + p) 16))) ∧
  (∀ (p : Fin 2) (s u : State), s.ptpRuns p = true → (s.netPort p).pdelayOut = false → (s.netPort p).pdelayLost = 0 →
    u = s.setNetPort p ({ s.netPort p with
      pdelayOut := true, pdelayLost := 0, pdelaySeq := ((s.netPort p).pdelaySeq + 1) % 65536 } : NetPort) →
    exec (.pdelayReqInterval p) s =
      .next (u.portSend p (u.ptpFrame p 2 0 (s.netPort p).pdelaySeq 5 (List.replicate 20 0)))) ∧
  (∀ (p : Fin 2) (s u v : State), s.ptpRuns p = true → (s.netPort p).pdelayOut = true →
    u = s.setNetPort p ({ s.netPort p with
      pdelayOut := true, pdelayLost := (s.netPort p).pdelayLost + 1, joins := 0, pdelaySeq := ((s.netPort p).pdelaySeq + 1) % 65536 } : NetPort) →
    v = u.portSend p (u.ptpFrame p 2 0 (s.netPort p).pdelaySeq 5 (List.replicate 20 0)) →
    exec (.pdelayReqInterval p) s = .next (if allowedLost < (s.netPort p).pdelayLost + 1 then v.setCapable p false else v)) ∧
  (∀ (p : Fin 2) (f : List Byte) (s : State), s.domState (domTrunk p) = 1 → s.getB Reg.NET_CTL 8 = true → s.isWake f = true →
    exec (.wakeFrame p f) s = .next ((s.wake (domTrunk p) 5).raise (144 + p) 64)) ∧
  (∀ (p : Fin 2) (f : List Byte) (s : State), s.domState (domTrunk p) = 1 → s.isWake f = false ∨ s.getB Reg.NET_CTL 8 = false →
    exec (.wakeFrame p f) s = .next (s.incR (Reg.NET_PORT_RX_DROP p))) ∧
  (∀ (p : Fin 2) (f : List Byte) (s : State), s.domState (domTrunk p) = 0 → exec (.wakeFrame p f) s = .next s ∧ exec (.lineEnergy p) s = .next s) ∧
  (∀ (p : Fin 2) (s : State), s.domState (domTrunk p) = 2 →
    exec (.lineEnergy p) s = .next ((s.wake (domTrunk p) 4).raise (144 + p) 32))

/-- Frames and gates of the trunk ports (R355, R358–R360, R362): the frame of the highest open queue leaves and occupies the
line; a change of the gate list is refused when invalid and takes effect at its boundary; a gate interval gives way to the next;
a received frame that is bad or not for this device is dropped and counted; a stream that falls silent starts its recovery
again; the latent test clears its counts every 2 s. -/
def Obligations.TrunkFramesAndGates : Prop :=
  (∀ (p : Fin 2) (s : State) (q : Nat) (f : List Byte), s.inService p = true → (s.netPort p).txUntil = none →
    (List.range 8).reverse.findSome? (fun q => (s.frameReady p q).map (fun f => (q, f))) = some (q, f) →
    exec (.frameTransmit p) s = .next ((s.setNetPort p ({ s.netPort p with
      queues := tabPut (fun _ => []) (s.netPort p).queues q (tabGet (fun _ => []) (s.netPort p).queues q).tail,
      sent := (s.netPort p).sent ++ [wireFrame f], txUntil := some (s.time + units (wireTime f.length)) } : NetPort)).touch (domTrunk p))) ∧
  (∀ (p : Fin 2) (s : State), (List.range 8).reverse.findSome? (fun q => (s.frameReady p q).map (fun f => (q, f))) = none →
    exec (.frameTransmit p) s = .next s) ∧
  (∀ (p : Fin 2) (s : State), s.inService p = false → exec (.frameTransmit p) s = .next s) ∧
  (∀ (p : Fin 2) (w : Word) (s : State), bitOf w 31 = false → exec (.gclChange p w) s = .next s) ∧
  (∀ (p : Fin 2) (s : State) (t : DWord), (s.netPort p).txUntil = some t → before s.time t = true → exec (.frameTransmit p) s = .next s) ∧
  (∀ (p : Fin 2) (w : Word) (s u : State), bitOf w 31 = true → u = s.store (Reg.NET_PORT_GCL_CTL p) w → u.gclValid p = false →
    exec (.gclChange p w) s = .next ((u.setB (Reg.NET_PORT_GCL_CTL p) 28 true).raise 147 (2 ^ (2 + p.val)))) ∧
  (∀ (p : Fin 2) (w : Word) (s u : State), bitOf w 31 = true → u = s.store (Reg.NET_PORT_GCL_CTL p) w → u.gclValid p = true →
    exec (.gclChange p w) s = .next ((u.setNetPort p { u.netPort p with
      changeAt := some (if u.getF (Reg.NET_PORT_OPER_LEN p) 8 0 = 0
        then firstAfter (u.getD (Reg.NET_PORT_ADM_BASE p)) ((u.getR (Reg.NET_PORT_ADM_CYCLE p)).toNat * 64) (u.time + units (2 * unitsPerUs))
        else firstAfter (u.netPort p).cycleBase ((u.getR (Reg.NET_PORT_OPER_CYCLE p)).toNat * 64)
          (firstAfter (u.getD (Reg.NET_PORT_ADM_BASE p)) ((u.getR (Reg.NET_PORT_ADM_CYCLE p)).toNat * 64) (u.time + units (2 * unitsPerUs))))
        }).setB (Reg.NET_PORT_GCL_CTL p) 29 true)) ∧
  (∀ (p : Fin 2) (s : State), (s.netPort p).changeAt = none → exec (.gclChangeBoundary p) s = .next s) ∧
  (∀ (p : Fin 2) (s : State) (b : DWord), (s.netPort p).changeAt = some b → s.reached b = false → exec (.gclChangeBoundary p) s = .next s) ∧
  (∀ (p : Fin 2) (s r u v : State) (b : DWord), (s.netPort p).changeAt = some b → s.reached b = true →
    r = { s with regs := tabCopy regReset s.regs (Reg.NET_PORT_ADM p 0) 0x800 (Reg.NET_PORT_OPER p 0) } →
    u = (r.setD (Reg.NET_PORT_OPER_BASE p) b).setR (Reg.NET_PORT_OPER_CYCLE p) (r.getR (Reg.NET_PORT_ADM_CYCLE p)) →
    v = u.setR (Reg.NET_PORT_OPER_LEN p) (u.getR (Reg.NET_PORT_ADM_LEN p)) →
    exec (.gclChangeBoundary p) s = .next (((v.setNetPort p ({ s.netPort p with
      changeAt := none, cycleBase := b, gateEntry := 0, gateEnd := b + units (64 * ((v.operSpans p).headD (0, 0)).2) } : NetPort)).setB
        (Reg.NET_PORT_GCL_CTL p) 29 false).raise 147 (2 ^ p.val))) ∧
  (∀ (p : Fin 2) (s : State), (s.operSpans p).length > (s.netPort p).gateEntry + 1 → s.reached (s.netPort p).gateEnd = true →
    exec (.gateIntervalEnd p) s = .next (s.setNetPort p ({ s.netPort p with
      gateEntry := (s.netPort p).gateEntry + 1,
      gateEnd := (s.netPort p).gateEnd + units (64 * (((s.operSpans p).drop ((s.netPort p).gateEntry + 1)).headD (0, 0)).2) } : NetPort))) ∧
  (∀ (p : Fin 2) (s : State), s.operSpans p ≠ [] → (s.operSpans p).length ≤ (s.netPort p).gateEntry + 1 → s.reached (s.netPort p).gateEnd = true →
    exec (.gateIntervalEnd p) s = .next (s.setNetPort p ({ s.netPort p with
      gateEntry := 0, cycleBase := (s.netPort p).gateEnd,
      gateEnd := (s.netPort p).gateEnd + units (64 * ((s.operSpans p).headD (0, 0)).2) } : NetPort))) ∧
  (∀ (p : Fin 2) (s : State), s.operSpans p = [] ∨ s.reached (s.netPort p).gateEnd = false → exec (.gateIntervalEnd p) s = .next s) ∧
  (∀ (p : Fin 2) (f : List Byte) (good : Bool) (s : State), s.getB (Reg.NET_PORT_STAT p) 3 = false → exec (.frameReceive p f good) s = .next s) ∧
  (∀ (p : Fin 2) (f : List Byte) (s : State), s.getB (Reg.NET_PORT_STAT p) 3 = true → s.domState (domTrunk p) = 0 → s.domOn (domTrunk p) = true →
    exec (.frameReceive p f false) s = .next ((s.touch (domTrunk p)).incR (Reg.NET_PORT_RX_DROP p))) ∧
  (∀ (p : Fin 2) (f : List Byte) (g : Bool) (s : State), s.getB (Reg.NET_PORT_STAT p) 3 = true → s.domState (domTrunk p) = 1 →
    exec (.frameReceive p f g) s = .next (s.incR (Reg.NET_PORT_RX_DROP p))) ∧
  (∀ (p : Fin 2) (f : List Byte) (s u : State), s.getB (Reg.NET_PORT_STAT p) 3 = true → s.domState (domTrunk p) = 0 → s.domOn (domTrunk p) = true →
    u = s.touch (domTrunk p) → f.length < 60 ∨ 1518 < f.length ∨ u.acceptsFrame f = false →
    exec (.frameReceive p f true) s = .next (u.incR (Reg.NET_PORT_RX_DROP p))) ∧
  (∀ (p : Fin 2) (f : List Byte) (s u : State), s.getB (Reg.NET_PORT_STAT p) 3 = true → s.domState (domTrunk p) = 0 → s.domOn (domTrunk p) = true →
    60 ≤ f.length → f.length ≤ 1518 → u = s.touch (domTrunk p) → u.acceptsFrame f = true → (frType f == 0x88F7 && frDA f == ptpAddr) = true →
    exec (.frameReceive p f true) s = .next (u.ptpMessage p (frPayload f))) ∧
  (∀ (p : Fin 2) (f : List Byte) (s u : State), s.getB (Reg.NET_PORT_STAT p) 3 = true → s.domState (domTrunk p) = 0 → s.domOn (domTrunk p) = true →
    60 ≤ f.length → f.length ≤ 1518 → u = s.touch (domTrunk p) → u.acceptsFrame f = true → frType f ≠ 0x88F7 → u.inService p = false →
    exec (.frameReceive p f true) s = .next (u.incR (Reg.NET_PORT_RX_DROP p))) ∧
  (∀ (p : Fin 2) (f : List Byte) (s u : State) (i : Nat), s.getB (Reg.NET_PORT_STAT p) 3 = true → s.domState (domTrunk p) = 0 →
    s.domOn (domTrunk p) = true → 60 ≤ f.length → f.length ≤ 1518 → u = s.touch (domTrunk p) → u.acceptsFrame f = true → frType f ≠ 0x88F7 →
    u.inService p = true → u.rxStream f = some i →
    (frRtag f = false → exec (.frameReceive p f true) s = .next ((u.incR (Reg.NET_RXS_TAGLESS i)).raise 148 8)) ∧
    (frRtag f = true → exec (.frameReceive p f true) s = .next (if (u.recover i p (frSeq f)).2 then (u.recover i p (frSeq f)).1.consume p f
      else (u.recover i p (frSeq f)).1))) ∧
  (∀ (p : Fin 2) (f : List Byte) (s u : State), s.getB (Reg.NET_PORT_STAT p) 3 = true → s.domState (domTrunk p) = 0 → s.domOn (domTrunk p) = true →
    60 ≤ f.length → f.length ≤ 1518 → u = s.touch (domTrunk p) → u.acceptsFrame f = true → frType f ≠ 0x88F7 → u.inService p = true →
    u.rxStream f = none → exec (.frameReceive p f true) s = .next (u.consume p f)) ∧
  (∀ (i : Fin 64) (s : State), (s.rxs i).fresh = false → (s.resetTime : Int) ≤ tdiff s.time (s.rxs i).lastPass →
    exec (.recoveryReset i) s = .next (((s.setRxs i { s.rxs i with fresh := true, seen := [], high := 0 }).incR (Reg.NET_RXS_RESETS i)).raise 148 4)) ∧
  (∀ (i : Fin 64) (s : State), (s.rxs i).fresh = true ∨ tdiff s.time (s.rxs i).lastPass < (s.resetTime : Int) →
    exec (.recoveryReset i) s = .next s) ∧
  (∀ s : State, tdiff s.time s.net.latentAt < ((2000 * unitsPerMs : Nat) : Int) → exec .latentErrorTest s = .next s) ∧
  (∀ s u : State, ((2000 * unitsPerMs : Nat) : Int) ≤ tdiff s.time s.net.latentAt → u = { s with net := { s.net with
      rxs := (s.net.rxs.map (fun p => (p.1, ({ p.2 with latPass := [], latDup := [] } : RxStream)))).filter (fun p => p.2 != {}),
      latentAt := s.time } } →
    (s.inService 0 = false ∨ s.inService 1 = false ∨ s.net.rxs.any (fun p => p.2.latent) = false → exec .latentErrorTest s = .next u) ∧
    (s.inService 0 = true → s.inService 1 = true → s.net.rxs.any (fun p => p.2.latent) = true →
      exec .latentErrorTest s = .next (u.raise 148 1)))

/-- Drizzle, reinstatement and the JTAG port (R468, R475–R477, R482, R486): a slice starts on the lowest unit that can be
tested; a passing slice gives way to the next of its unit; a failing one records its word and bit, counts and raises EV216; a
pass that is complete at its period makes room for the next; a block is reinstated after a clean pass; a locked or reserved JTAG
code selects BYPASS. -/
def Obligations.SelfTestAndJtag : Prop :=
  (∀ (t : Fin 7) (s : State), s.drizzleOn t = false ∨ s.sliceLive t = true → exec (.drizzleSliceStart t) s = .next s) ∧
  (∀ (t : Fin 7) (s u : State), s.drizzleOn t = true → s.sliceLive t = false → u = s.setDtype t { s.dtype t with slice := none } →
    (u.unitsLeft t).find? (fun n => u.canTest t n) = none → exec (.drizzleSliceStart t) s =
      .next (if (u.dtype t).late && !(u.unitsLeft t).isEmpty then u.passEnd t else u)) ∧
  (∀ (t : Fin 7) (s u : State) (n : Nat), s.drizzleOn t = true → s.sliceLive t = false → u = s.setDtype t { s.dtype t with slice := none } →
    (u.unitsLeft t).find? (fun n => u.canTest t n) = some n → exec (.drizzleSliceStart t) s = .next (u.sliceOn t n)) ∧
  (∀ (t : Fin 7) (b : Bool) (a : Word) (bit : Fin 128) (s : State), (s.dtype t).slice = none → exec (.sliceEnd t b a bit) s = .next s) ∧
  (∀ (t : Fin 7) (a : Word) (bit : Fin 128) (s : State) (sl : Slice), (s.dtype t).slice = some sl → sl.restoreAt = none → sl.running = true →
    sl.k + 1 < typeSlices t →
    (t.val ≠ 0 → exec (.sliceEnd t true a bit) s = .next (s.setDtype t { s.dtype t with
      slice := none, progress := tabPut (fun _ => 0) (s.dtype t).progress sl.unit (sl.k + 1) })) ∧
    (t.val = 0 → s.engState sl.unit = 9 → exec (.sliceEnd t true a bit) s = .next (s.setDtype 0 { s.dtype 0 with
      slice := some { sl with k := sl.k + 1, again := false }, progress := tabPut (fun _ => 0) (s.dtype 0).progress sl.unit (sl.k + 1) }))) ∧
  (∀ (t : Fin 7) (b : Bool) (a : Word) (bit : Fin 128) (s : State) (sl : Slice), (s.dtype t).slice = some sl →
    (sl.restoreAt ≠ none ∨ sl.running = false ∨ (t.val = 0 ∧ s.engState sl.unit ≠ 9)) → exec (.sliceEnd t b a bit) s = .next s) ∧
  (∀ (t : Fin 7) (a : Word) (bit : Fin 128) (s : State) (sl : Slice), (s.dtype t).slice = some sl → sl.restoreAt = none → sl.running = true →
    (t.val = 0 → s.engState sl.unit = 9) → typeSlices t ≤ sl.k + 1 → exec (.sliceEnd t true a bit) s = .next (s.sliceReturn t sl)) ∧
  (∀ (t : Fin 7) (a : Word) (bit : Fin 128) (s u v : State) (sl : Slice), (s.dtype t).slice = some sl → sl.restoreAt = none → sl.running = true →
    (t.val = 0 → s.engState sl.unit = 9) → u = ((((s.setR (Reg.TST_TYPE_FAIL_UNIT t) (BitVec.ofNat 32 (2 ^ 31 + bit.val * 65536 + sl.unit))).setF (Reg.TST_TYPE_FAIL_ADDR t) 19 0
      a.toNat).addF (Reg.TST_TYPE_FAIL t) 15 0 1).raise 216 (2 ^ t.val)) →
    v = u.setDtype t ({ u.dtype t with
      slice := some { sl with again := true }, failed := (u.dtype t).failed.erase sl.unit ++ [sl.unit] } : DrizzleType) →
    ((v.countFault t sl.unit (v.unitSquall t sl.unit)).2 = false →
      exec (.sliceEnd t false a bit) s = .next (v.countFault t sl.unit (v.unitSquall t sl.unit)).1) ∧
    ((v.countFault t sl.unit (v.unitSquall t sl.unit)).2 = true →
      exec (.sliceEnd t false a bit) s = .next ((v.countFault t sl.unit (v.unitSquall t sl.unit)).1.sliceLasting t sl a
        (if bit.val = 127 then 255 else bit.val)))) ∧
  (∀ (t : Fin 7) (s : State), s.thawed = false ∨
    atOrAfter s.time ((s.dtype t).since + units (1000 * unitsPerMs * max 1 (s.getF (Reg.TST_TYPE_CTL t) 15 0))) = false → exec (.passPeriodExpiry t) s = .next s) ∧
  (∀ (t : Fin 7) (s : State) (p : Nat), s.thawed = true → p = 1000 * unitsPerMs * max 1 (s.getF (Reg.TST_TYPE_CTL t) 15 0) →
    atOrAfter s.time ((s.dtype t).since + units p) = true → s.unitsLeft t = [] →
    exec (.passPeriodExpiry t) s = .next (s.setDtype t { slice := (s.dtype t).slice, since := (s.dtype t).since + units p })) ∧
  (∀ (t : Fin 7) (s u : State) (p : Nat), s.thawed = true → p = 1000 * unitsPerMs * max 1 (s.getF (Reg.TST_TYPE_CTL t) 15 0) →
    atOrAfter s.time ((s.dtype t).since + units p) = true → s.unitsLeft t ≠ [] → u = s.setDtype t { s.dtype t with late := true } →
    exec (.passPeriodExpiry t) s = .next
      (if (s.dtype t).slice.isNone && (s.unitsLeft t).all (fun n => !u.canTest t n) then u.passEnd t else u)) ∧
  (∀ (w : Word) (s : State), fld w 29 28 = 1 → fld w 21 16 ≤ 47 → fld w 5 0 ≤ 31 →
    (s.getB (Reg.SEC_BRAM_RETIRED (fld w 21 16)) (fld w 5 0) = true → s.tst.clean.contains (unitKey 1 (33 * fld w 21 16 + fld w 5 0)) = true →
      exec (.tstReinstate w) s = .next ((s.setB (Reg.SEC_BRAM_RETIRED (fld w 21 16)) (fld w 5 0) false).resolveLog 1 (33 * fld w 21 16 + fld w 5 0))) ∧
    (s.getB (Reg.SEC_BRAM_RETIRED (fld w 21 16)) (fld w 5 0) = false ∨ s.tst.clean.contains (unitKey 1 (33 * fld w 21 16 + fld w 5 0)) = false →
      exec (.tstReinstate w) s = .next (s.setB Reg.TST_STAT 31 true))) ∧
  (∀ (w : Word) (s : State), fld w 29 28 = 2 → fld w 21 16 ≤ 47 → fld w 5 0 ≤ 31 →
    (s.getB (Reg.SEC_MUL_RETIRED (fld w 21 16)) (fld w 5 0) = true → s.tst.clean.contains (unitKey 2 (33 * fld w 21 16 + fld w 5 0)) = true →
      exec (.tstReinstate w) s = .next ((s.setB (Reg.SEC_MUL_RETIRED (fld w 21 16)) (fld w 5 0) false).resolveLog 2 (33 * fld w 21 16 + fld w 5 0))) ∧
    (s.getB (Reg.SEC_MUL_RETIRED (fld w 21 16)) (fld w 5 0) = false ∨ s.tst.clean.contains (unitKey 2 (33 * fld w 21 16 + fld w 5 0)) = false →
      exec (.tstReinstate w) s = .next (s.setB Reg.TST_STAT 31 true))) ∧
  (∀ (w : Word) (s : State) (t i : Nat), t = 1 ∨ t = 2 → fld w 29 28 = t → i = fld w 21 16 → i ≤ 47 → fld w 5 0 = 32 →
    (s.getB (spareReg t i) 29 = true → s.tst.clean.contains (unitKey t (33 * i + 32)) = true →
      exec (.tstReinstate w) s = .next ((s.setB (spareReg t i) 29 false).resolveLog t (33 * i + 32))) ∧
    (s.getB (spareReg t i) 29 = false ∨ s.tst.clean.contains (unitKey t (33 * i + 32)) = false →
      exec (.tstReinstate w) s = .next (s.setB Reg.TST_STAT 31 true))) ∧
  (∀ (w : Word) (s : State), (fld w 29 28 ≠ 1 ∧ fld w 29 28 ≠ 2) ∨ 47 < fld w 21 16 ∨ 32 < fld w 5 0 → exec (.tstReinstate w) s = .next (s.setB Reg.TST_STAT 31 true)) ∧
  (∀ (i : Byte) (s : State), i = 1 ∨ i = 2 ∨ i = 0xFF → exec (.jtagInstruction i) s =
    .next { s with tst := { s.tst with jtag := i.toNat, jtagDr := jtagCapture i.toNat } }) ∧
  jtagCapture 1 = some 0x19640A4D ∧ jtagCapture 0xFF = some 0 ∧
  (∀ (i : Byte) (s : State), i = 0 ∨ i = 3 ∨ i = 4 ∨ i = 0x20 ∨ i = 0x21 →
    (s.getB Reg.TST_SCAN 0 = true → exec (.jtagInstruction i) s = .next { s with tst := { s.tst with jtag := i.toNat, jtagDr := none } }) ∧
    (s.getB Reg.TST_SCAN 0 = false →
      exec (.jtagInstruction i) s = .next (({ s with tst := { s.tst with jtag := 0xFF, jtagDr := some 0 } } : State).raise 223 4))) ∧
  (∀ (i : Byte) (s : State), (5 ≤ i.toNat ∧ i.toNat ≤ 0x1F) ∨ (0x22 ≤ i.toNat ∧ i.toNat ≤ 0xFE) →
    exec (.jtagInstruction i) s = .next { s with tst := { s.tst with jtag := 0xFF, jtagDr := some 0 } }) ∧
  (∀ s : State, exec .testLogicReset s = .next { s with tst := { s.tst with jtag := 1, jtagDr := some 0x19640A4D } })

/-- Packets and sessions (R379, R381–R388, R391–R394, R400, R408): a packet whose tag fails is discarded and counted; a service
write of a wrong length raises EV244 and a right one waits its turn; a RUN-class command starts at its stamp plus 1 us, or
answers CONFLICT beside a HOLD; a session times out, opens with a fresh nonce and closes; events are reported up to 60 at a
time. -/
def Obligations.PacketsAndSessions : Prop :=
  (∀ s : State, s.cmd.rx = [] → exec .command s = .next s) ∧
  (∀ (s : State) (p : RxPacket), nextRx s.cmd.rx = some p → (∀ x ∈ s.cmd.inflight, x.stage ≠ .queued) →
    exec .command s = .next (({ s with cmd := { s.cmd with rx := s.cmd.rx.erase p } } : State).useCrypto.takePacket p)) ∧
  (∀ s : State, s.cmd.inflight.any (fun x => x.stage == .queued) = true → exec .command s = .next s) ∧
  (∀ (s : State) (n : Fin 4) (p : RxPacket), (s.session n).state = 0 → beAt p.bytes 1 1 = 1 → beAt p.bytes 2 1 = n.val →
    s.takePacket p = (s.incR Reg.CMD_TAG_FAIL).raise 244 1) ∧
  (∀ (s : State) (n : Fin 4) (p : RxPacket) (k : Packet), (s.session n).state ≠ 0 → (s.session n).iface = p.iface → (s.session n).mac = p.mac →
    parsePacket (s.session n).v2 p.bytes = some k → k.tag ≠ (hmacSha256 (s.session n).skey k.body).take 16 →
    s.takeOf n p = (s.incR Reg.CMD_TAG_FAIL).raise 244 1) ∧
  (∀ (c : CmdRef) (s : State), (∀ x ∈ s.cmd.inflight, x.stage ≠ .runWait) → exec (.runCommandStart c) s = .next s) ∧
  (∀ (c : CmdRef) (s : State) (x : Command), s.cmd.inflight.find? (fun x => x.stage == .runWait) = some x →
    (x.ref ≠ c ∨ s.quietUntil (x.stamp + units unitsPerUs) = false) → exec (.runCommandStart c) s = .next s) ∧
  (∀ (c : CmdRef) (s : State) (x : Command), s.cmd.inflight.find? (fun x => x.stage == .runWait) = some x → x.ref = c →
    s.quietUntil (x.stamp + units unitsPerUs) = true → s.crossed x.stamp = true →
    exec (.runCommandStart c) s = .next (((s.incR Reg.CMD_CONFLICT_CNT).raise 241 0x10).replyTo x csCONFLICT true [])) ∧
  (∀ (c : CmdRef) (s : State) (x : Command) (k : Fin 4), s.cmd.inflight.find? (fun x => x.stage == .runWait) = some x → x.ref = c →
    s.quietUntil (x.stamp + units unitsPerUs) = true → s.crossed x.stamp = false → x.ref.session = some k →
    (x.mute = true → exec (.runCommandStart c) s = .next (s.setCommand { x with stage := .started })) ∧
    (x.mute = false → s.holder = none → s.v2Takes x = true → exec (.runCommandStart c) s =
      .next (({ (s.raise 241 1) with cmd := { (s.raise 241 1).cmd with lease := some (k.val, (s.raise 241 1).time) } } : State).setCommand
        { x with stage := .started })) ∧
    (x.mute = false → s.holder = some k.val → exec (.runCommandStart c) s =
      .next (({ s with cmd := { s.cmd with lease := some (k.val, s.time) } } : State).setCommand { x with stage := .started })) ∧
    (x.mute = false → s.holder ≠ some k.val → s.v2Takes x = false → exec (.runCommandStart c) s = .next ((s.raise 241 0x20).replyTo x csAUTH true []))) ∧
  (∀ (b : List Byte) (s : State), s.svcUp = false → exec (.svcWrite b) s = .next s ∧ exec .svcRead s = .next s ∧ exec .svcStatus s = .next s) ∧
  (∀ (b : List Byte) (s : State) (v2 : Bool), s.svcUp = true → s.getB Reg.CMD_CTL 11 = true → v2 = (beAt b 0 1 == 2) →
    (headLen v2 ≤ b.length → b.length = headLen v2 + lenField v2 b + 16 →
      exec (.svcWrite b) s = .next { s with cmd := { s.cmd with rx := s.cmd.rx ++ [⟨b, 2, 0, 0, s.time⟩] } }) ∧
    (b.length < headLen v2 ∨ b.length ≠ headLen v2 + lenField v2 b + 16 → exec (.svcWrite b) s = .next (s.raise 244 2))) ∧
  (∀ b : List Byte, headLen false = 24 ∧ lenField false b = beAt b 12 2) ∧
  (∀ (b : List Byte) (s : State), s.getB Reg.CMD_CTL 11 = false → exec (.svcWrite b) s = .next s) ∧
  (∀ (s : State) (p : OutPacket) (l : List OutPacket), s.svcUp = true → s.cmd.svcQueue = p :: l →
    exec .svcRead s = .next { s with cmd := { s.cmd with svcOut := beBytes 2 p.bytes.length ++ p.bytes, svcQueue := l } }) ∧
  (∀ s : State, s.svcUp = true → s.cmd.svcQueue = [] →
    exec .svcRead s = .next { s with cmd := { s.cmd with svcOut := beBytes 2 0 } } ∧
    exec .svcStatus s = .next { s with cmd := { s.cmd with svcOut := beBytes 1 (2 * (s.getB Reg.CMD_CTL 11).toNat) } }) ∧
  (∀ (k : Fin 4) (s : State), (s.session k).state = 2 →
    s.quietUntil ((s.session k).lastPkt + units (1000 * unitsPerMs * max 1 (s.getF Reg.CMD_CTL 31 24))) = true →
    exec (.sessionTimeout k) s = .next (s.closeSession k true)) ∧
  (∀ (k : Fin 4) (s : State), (s.session k).state = 1 → s.quietUntil ((s.session k).openedAt + units (1000 * unitsPerMs)) = true →
    exec (.openingTimeout k) s = .next (s.closeSession k true)) ∧
  (∀ (k : Fin 4) (s : State), (s.session k).state ≠ 2 ∨
    s.quietUntil ((s.session k).lastPkt + units (1000 * unitsPerMs * max 1 (s.getF Reg.CMD_CTL 31 24))) = false →
    exec (.sessionTimeout k) s = .next s) ∧
  (∀ (k : Fin 4) (s : State), (s.session k).state ≠ 1 ∨ s.quietUntil ((s.session k).openedAt + units (1000 * unitsPerMs)) = false →
    exec (.openingTimeout k) s = .next s) ∧
  (∀ (k : Fin 4) (s : State), (s.session k).state ≠ 2 ∨ (s.session k).v2 = true → exec (.eventReport k) s = .next s) ∧
  (∀ (k : Fin 4) (s : State), (s.session k).reports = [] → exec (.eventReport k) s = .next s) ∧
  (∀ (k : Fin 4) (s : State) (e : EvEntry) (l : List EvEntry) (x : Session), s.session k = x → x.reports.take 60 = e :: l → x.state = 2 → x.v2 = false →
    exec (.eventReport k) s = .next ((s.setSession k { x with reports := x.reports.drop 60, evSeq := x.evSeq + 1 }).sendPacket
      ⟨packetBytes false 3 k.val (x.evSeq + 1) 8 0x80 0 true e.time ((e :: l).flatMap EvEntry.bytes) (some x.skey), x.iface, x.mac, x.vid, true⟩)) ∧
  (∀ (c : CmdRef) (s : State) (x : Command), s.turn c 0 0 = some x →
    exec (.identify c) s = .next (s.replyTo x csOK true (if x.v2 then s.identity.take 16 else s.identity))) ∧
  (∀ (c : CmdRef) (s : State) (x : Command), s.turn c 0 3 = some x → exec (.ping c) s = .next (s.replyTo x csOK true (beBytes 8 s.time.toNat))) ∧
  (∀ (c : CmdRef) (s : State) (x : Command) (k : Fin 4), s.turn c 0 2 = some x → x.ref.session = some k →
    exec (.sessionClose c) s = .next ((s.replyTo x csOK true []).closeSession k false)) ∧
  (∀ (c : CmdRef) (s u : State) (x : Command) (hk nd ks : List Byte) (bare : Bool) (k : Nat), s.turn c 0 1 = some x →
    s.openKey x (beAt x.payload 0 1) = .ok (hk, bare) → s.openSlot (beAt x.payload 1 1) = .ok k → s.freshBytes 16 = (u, nd) →
    ks = hmacSha256 hk (beBytes 5 0x415A2D534B ++ sliceB x.payload 4 16 ++ nd ++ beBytes 1 k) →
    exec (.sessionOpen c) s = .next ((u.setSession k ({
      state := 1, key := beAt x.payload 0 1, v2 := x.v2, iface := x.iface, mac := x.mac, vid := x.vid, skey := ks, bare := bare,
      openedAt := s.time, lastPkt := s.time } : Session)).replyOpen x ks (beBytes 1 k ++ beBytes 3 0 ++ nd))) ∧
  (∀ (c : CmdRef) (s : State) (x : Command) (e : Nat), s.turn c 0 1 = some x → s.openKey x (beAt x.payload 0 1) = .error e →
    exec (.sessionOpen c) s = .next (s.replyTo x e true [])) ∧
  (∀ (c : CmdRef) (s : State) (x : Command) (hk : List Byte) (bare : Bool) (e : Nat), s.turn c 0 1 = some x →
    s.openKey x (beAt x.payload 0 1) = .ok (hk, bare) → s.openSlot (beAt x.payload 1 1) = .error e →
    exec (.sessionOpen c) s = .next (s.replyTo x e true []))

/-- Registers over commands and at their addresses (R5, R7, R20, R53, R341, R399, R401, R403, R491, R496–R498, R500): a read
returns the words in ascending order, or waits; a write acts word by word and a masked write keeps the bits outside its mask; an
address outside the map answers BAD_ADDR; clearing a cause leaves its other bits; a reserved address ignores a write; a fired
subscription signals its engine. -/
def Obligations.RegistersAndAddresses : Prop :=
  (∀ (c : CmdRef) (l : List Ecc) (s t : State) (x : Command) (d : List Byte), s.turn c 1 0 = some x → 1 ≤ beAt x.payload 4 2 → beAt x.payload 4 2 ≤ 256 →
    addrOk (beAt x.payload 0 4) (beAt x.payload 4 2) = true → s.readWords (beAt x.payload 4 2) (beAt x.payload 0 4) l s [] = (t, some d) →
    exec (.regRead c l) s = .next (t.replyTo x csOK true d)) ∧
  (∀ (c : CmdRef) (l : List Ecc) (s t : State) (x : Command), s.turn c 1 0 = some x → 1 ≤ beAt x.payload 4 2 → beAt x.payload 4 2 ≤ 256 →
    addrOk (beAt x.payload 0 4) (beAt x.payload 4 2) = true → s.readWords (beAt x.payload 4 2) (beAt x.payload 0 4) l s [] = (t, none) →
    exec (.regRead c l) s = .next (t.awaitReply x)) ∧
  (∀ (c : CmdRef) (l : List Ecc) (s : State) (x : Command), s.turn c 1 0 = some x → beAt x.payload 4 2 = 0 ∨ 256 < beAt x.payload 4 2 →
    exec (.regRead c l) s = .next (s.replyTo x csBADPARAM true [])) ∧
  (∀ (c : CmdRef) (l : List Ecc) (s : State) (x : Command), s.turn c 1 0 = some x → 1 ≤ beAt x.payload 4 2 → beAt x.payload 4 2 ≤ 256 →
    addrOk (beAt x.payload 0 4) (beAt x.payload 4 2) = false → exec (.regRead c l) s = .next (s.replyTo x csBADADDR true [])) ∧
  (∀ (c : CmdRef) (s : State) (x : Command) (n : Nat), s.turn c 1 1 = some x → n = (x.payload.length - 4) / 4 →
    (addrOk (beAt x.payload 0 4) n = true →
      exec (.regWrite c) s = .next ((s.writeWords c (x.payload.drop 4) n (beAt x.payload 0 4)).finish c csOK [])) ∧
    (addrOk (beAt x.payload 0 4) n = false → exec (.regWrite c) s = .next (s.replyTo x csBADADDR true []))) ∧
  (∀ (c : CmdRef) (x : Ecc) (s t : State) (y : Command) (v : Word), s.turn c 1 2 = some y → addrOk (beAt y.payload 0 4) 1 = true →
    s.readReg (beAt y.payload 0 4) x = (t, v, true) → exec (.regRmw c x) s = .next ((t.writeReg (beAt y.payload 0 4)
      ((v &&& ~~~(BitVec.ofNat 32 (beAt y.payload 4 4))) ||| (BitVec.ofNat 32 (beAt y.payload 8 4) &&& BitVec.ofNat 32 (beAt y.payload 4 4)))).finish
        c csOK (beBytes 4 v.toNat))) ∧
  (∀ (c : CmdRef) (x : Ecc) (s t : State) (y : Command) (v : Word), s.turn c 1 2 = some y →
    (addrOk (beAt y.payload 0 4) 1 = false → exec (.regRmw c x) s = .next (s.replyTo y csBADADDR true [])) ∧
    (addrOk (beAt y.payload 0 4) 1 = true → s.readReg (beAt y.payload 0 4) x = (t, v, false) → exec (.regRmw c x) s = .next t)) ∧
  (∀ (c : CmdRef) (s : State) (x : Command) (n : Nat), s.turn c 2 0 = some x → n = x.payload.length / 16 - x.offered →
    n ≤ fifoDepth 80 - (s.fifo 80).length → exec (.actPost c) s = .next (((s.pushPosts x x.offered n).setCommand { x with
      offered := x.offered + n, since := some (if n = 0 then x.since.getD s.time else s.time), stage := .awaiting }).postsDone x.ref)) ∧
  (∀ (c : CmdRef) (s : State) (x : Command) (k : Nat), s.turn c 2 0 = some x → k = fifoDepth 80 - (s.fifo 80).length →
    k < x.payload.length / 16 - x.offered →
    (0 < k → exec (.actPost c) s = .next (((s.pushPosts x x.offered k).setCommand { x with
      offered := x.offered + k, since := some s.time }).postsDone x.ref)) ∧
    (k = 0 → exec (.actPost c) s = .next ((s.setCommand { x with
      since := some (x.since.getD s.time),
      stage := if s.reached (x.since.getD s.time + units (100 * unitsPerUs)) then .awaiting else x.stage }).postsDone x.ref))) ∧
  (∀ (a w : Word) (s : State), exec (.registerWrite a w) s = .next (s.writeReg a.toNat w)) ∧
  (∀ (a w : Word) (s : State), a.toNat < 0x10000000 → regRow a.toNat = none → exec (.registerWrite a w) s = .next s) ∧
  (∀ (a w : Word) (s : State) (r : RegRow) (i : List Nat), a.toNat < 0x10000000 → regRow a.toNat = some (r, i) → r.pair = 0 → r.hook = .none →
    exec (.registerWrite a w) s = .next (s.setR a.toNat (rowStore r (s.getR a.toNat) w))) ∧
  (∀ (a : Word) (s : State), regRow a.toNat = none → exec (.readClear a) s = .next s) ∧
  (∀ (a : Word) (s : State) (r : RegRow) (i : List Nat), regRow a.toNat = some (r, i) → r.rc = 0 → exec (.readClear a) s = .next s) ∧
  (∀ (a w : Word) (s : State), regRow a.toNat = none → exec (.evtRouteWrite a w) s = .next s) ∧
  (∀ (a w : Word) (s : State) (r : RegRow) (i : List Nat), regRow a.toNat = some (r, i) → r.hook ≠ .evtRoute →
    exec (.evtRouteWrite a w) s = .next s) ∧
  (∀ (a : Word) (s : State) (r : RegRow) (i : List Nat), regRow a.toNat = some (r, i) → r.pair = 0 → r.hook ≠ .capRec → r.rc ≠ 0 →
    exec (.readClear a) s = .next { s.setR a.toNat (s.getR a.toNat &&& ~~~(BitVec.ofNat 32 r.rc)) with readData := s.regValue r a.toNat }) ∧
  (∀ (a w : Word) (s : State) (r : RegRow) (i : List Nat), regRow a.toNat = some (r, i) → r.hook = .evtRoute →
    (sourceValid (fld w 8 0) = true → exec (.evtRouteWrite a w) s = .next (s.setR a.toNat (rowStore r (s.getR a.toNat) w))) ∧
    (sourceValid (fld w 8 0) = false → exec (.evtRouteWrite a w) s = .next (s.setB Reg.EVT_STAT 0 true))) ∧
  (∀ (ev : Fin 320) (w : Word) (s : State) (a : Nat), s.causeAddr ev = some a →
    exec (.causeClear ev w) s = .next (s.setR a (s.getR a &&& ~~~w))) ∧
  (∀ (ev : Fin 320) (w : Word) (s : State), s.causeAddr ev = none → exec (.causeClear ev w) s = .next s) ∧
  (∀ s : State, s.evt.signals = [] → exec .subscriptionSignal s = .next s) ∧
  (∀ (s : State) (e j n : Nat) (l : List (Nat × Nat)), s.evt.signals = (e, j) :: l → s.physOf e = some n →
    (s.domOn (domEngine n) = true → exec .subscriptionSignal s = .next (({ s with evt := { s.evt with signals := l } } : State).setLeng e
      ({ s.leng e with
        core := { (s.leng e).core with tflags := (s.leng e).core.tflags ||| BitVec.ofNat 32 (2 ^ j) },
        signals := (s.leng e).signals ||| BitVec.ofNat 32 (2 ^ j) } : LEng))) ∧
    (s.domOn (domEngine n) = false → exec .subscriptionSignal s = .next (s.wake (domEngine n) 1)))

/-- Status, events and the lease (R392, R395, R399, R408, R491): TIME_READ, PWR_STAT, EVT_READ and LEASE_STAT answer from the
registers and change none; a subscription sets the session's mask, an acknowledgement clears the named bits; the lease is
granted when nobody holds it, refused otherwise, released by its holder, and lapses at LEASE_MS with its HOLD. -/
def Obligations.EventsAndLease : Prop :=
  (∀ (c : CmdRef) (s : State) (x : Command), s.turn c 2 6 = some x →
    exec (.timeRead c) s = .next (s.replyTo x csOK true (beBytes 8 s.time.toNat ++ beBytes 4 (s.getR Reg.CLK_TB_STAT).toNat))) ∧
  (∀ (c : CmdRef) (s : State) (x : Command) (d : Nat), s.turn c 7 1 = some x → d = beAt x.payload 0 1 →
    (d ≤ 134 → exec (.pwrStat c) s = .next (s.replyTo x csOK true (beBytes 1 (s.domState d) ++ beBytes 4 (s.getR (Reg.PWR_DOM_WAKE d)).toNat ++
      beBytes 8 (s.getD (Reg.PWR_DOM_WAKE_TIME d)).toNat))) ∧
    (134 < d → exec (.pwrStat c) s = .next (s.replyTo x (csOf 7 5) true []))) ∧
  (∀ (c : CmdRef) (s : State) (x : Command) (k : Fin 4), s.turn c 8 0 = some x → x.ref.session = some k → x.mute = false →
    exec (.evtSubscribe c) s = .next ((s.setSession k { s.session k with mask := beNat x.payload }).replyTo x csOK true [])) ∧
  (∀ (c : CmdRef) (s : State) (x : Command) (k : Fin 4), s.turn c 8 0 = some x → x.ref.session = some k → x.mute = true →
    exec (.evtSubscribe c) s = .next (s.replyTo x csOK true [])) ∧
  (∀ (c : CmdRef) (s : State) (x : Command) (e n : Nat), s.turn c 8 1 = some x → e = beAt x.payload 0 2 → n = beAt x.payload 2 1 →
    (1 ≤ n → n ≤ 64 → e + n ≤ 320 → exec (.evtRead c) s = .next (s.replyTo x csOK true
      ((List.range n).flatMap (fun i => beBytes 4 (s.causeWord (e + i)).toNat)))) ∧
    (n = 0 ∨ 64 < n ∨ 320 < e + n → exec (.evtRead c) s = .next (s.replyTo x csBADPARAM true []))) ∧
  (∀ (c : CmdRef) (s : State) (x : Command) (a : Nat), s.turn c 8 2 = some x → beAt x.payload 0 2 < 320 →
    s.causeAddr (beAt x.payload 0 2) = some a →
    exec (.evtAck c) s = .next ((s.setR a (s.getR a &&& ~~~(BitVec.ofNat 32 (beAt x.payload 2 4)))).replyTo x csOK true [])) ∧
  (∀ (c : CmdRef) (s : State) (x : Command), s.turn c 8 2 = some x →
    (320 ≤ beAt x.payload 0 2 → exec (.evtAck c) s = .next (s.replyTo x csBADPARAM true [])) ∧
    (beAt x.payload 0 2 < 320 → s.causeAddr (beAt x.payload 0 2) = none → exec (.evtAck c) s = .next (s.replyTo x csOK true []))) ∧
  (∀ (c : CmdRef) (s : State) (x : Command) (k : Fin 4), s.turn c 10 0 = some x → x.ref.session = some k →
    (s.holder = none → x.mute = false → exec (.leaseAcquire c) s = .next ((({ s with cmd := { s.cmd with
      lease := some (k.val, s.time) } } : State).raise 241 1).replyTo x csOK true (beBytes 1 (s.leaseTime / unitsPerMs)))) ∧
    (s.holder = none → x.mute = true → exec (.leaseAcquire c) s = .next (s.replyTo x csOK true [])) ∧
    (s.holder.isSome = true → exec (.leaseAcquire c) s = .next (s.replyTo x csLEASEHELD true []))) ∧
  (∀ (c : CmdRef) (s : State) (x : Command), s.turn c 10 1 = some x →
    exec (.leaseRenew c) s = .next (s.replyTo x csOK true (beBytes 4 s.leaseLeft))) ∧
  (∀ (c : CmdRef) (s : State) (x : Command) (k : Fin 4), s.turn c 10 2 = some x → x.ref.session = some k →
    (s.holder = some k.val → exec (.leaseRelease c) s =
      .next ((({ s with cmd := { s.cmd with lease := none } } : State).raise 241 2).replyTo x csOK true [])) ∧
    (s.holder ≠ some k.val → exec (.leaseRelease c) s = .next (s.replyTo x csOK true []))) ∧
  (∀ (c : CmdRef) (s : State) (x : Command), s.turn c 10 3 = some x →
    exec (.leaseStat c) s = .next (s.replyTo x csOK true (beBytes 4 s.cmdStat.toNat))) ∧
  (∀ s : State, s.cmd.lease = none → exec .leaseLapse s = .next s) ∧
  (∀ (s : State) (k : Nat) (t : DWord), s.cmd.lease = some (k, t) → s.reached (t + units s.leaseTime) = false → exec .leaseLapse s = .next s) ∧
  (∀ (s u : State) (k : Nat) (t : DWord), s.cmd.lease = some (k, t) → s.reached (t + units s.leaseTime) = true →
    u = { s with cmd := { s.cmd with lease := none } } →
    (bitOf (s.getR Reg.CMD_LEASE_CFG) 31 = false → exec .leaseLapse s = .next (u.raise 241 4)) ∧
    (bitOf (s.getR Reg.CMD_LEASE_CFG) 31 = true → exec .leaseLapse s = .next ((u.applyHold ⟨fld (s.getR Reg.CMD_LEASE_CFG) 3 0,
      (s.getR Reg.CMD_LAPSE_CODE).toNat, (s.getD Reg.CMD_LAPSE_ENG).toNat, s.getF Reg.CMD_LAPSE_TBL 15 0, s.getR Reg.CMD_LAPSE_CANCEL⟩).1.raise 241 4)))

/-- HOLD, STOP, the vault, firmware and test access (R254, R350, R396, R397, R402, R487): HOLD and STOP act on their flags and
raise EV242 and EV243; a vault key is provisioned once, in SERVICE over the service port; a firmware update takes its bytes in
order, into the slot that did not start, and is bootable once verified; TEST_UNLOCK zeroises the keys. -/
def Obligations.HoldAndMaintenance : Prop :=
  (∀ (c : CmdRef) (s : State) (x : Command), s.turn c 10 4 = some x →
    ((holdSpec x.payload).flags < 16 → exec (.hold c) s = .next ((s.applyHold (holdSpec x.payload)).1.replyTo x csOK true
      (holdReply (s.applyHold (holdSpec x.payload)).2.1 (s.applyHold (holdSpec x.payload)).2.2))) ∧
    (16 ≤ (holdSpec x.payload).flags → exec (.hold c) s = .next (s.replyTo x csBADPARAM true []))) ∧
  (∀ (s : State) (h : HoldSpec), h.flags = 0 → s.applyHold h = (s.raise 242 h.code, 0, 0)) ∧
  (∀ (s : State) (h : HoldSpec), h.flags = 4 → s.applyHold h = ((s.overMask h.engines State.clearRun).raise 242 h.code, 0, 0)) ∧
  (∀ (c : CmdRef) (s u : State) (x : Command) (h : HoldSpec) (a b : Nat), s.turn c 10 5 = some x → h = holdSpec x.payload →
    s.applyFlags h = (u, a, b) →
    (h.flags < 16 → exec (.stop c) s = .next (((u.raise 243 h.code).endLease 8).replyTo x csOK true (holdReply a b))) ∧
    (32 ≤ h.flags → exec (.stop c) s = .next (s.replyTo x csBADPARAM true [])) ∧
    (16 ≤ h.flags → h.flags < 32 →
      exec (.stop c) s = .next ((((u.overMask h.engines State.stopEngine).raise 243 h.code).endLease 8).replyTo x csOK true (holdReply a b)))) ∧
  (∀ (c : CmdRef) (s : State) (x : Command), s.turn c 15 2 = some x → beAt x.payload 0 1 = 0 → beAt x.payload 1 1 < 8 →
    (s.inServiceMode = false → exec (.vaultProv c) s = .next (s.replyTo x csNOTSERVICE true [])) ∧
    (s.inServiceMode = true → x.iface = 2 → vaultHas s.cfg.aes (beAt x.payload 1 1) = true →
      exec (.vaultProv c) s = .next (s.replyTo x csBUSY true [])) ∧
    (s.inServiceMode = true → x.iface = 2 → vaultHas s.cfg.aes (beAt x.payload 1 1) = false →
      exec (.vaultProv c) s = .next ((({ s with cfg := { s.cfg with
        aes := tabInsert s.cfg.aes (beAt x.payload 1 1) (x.payload.drop 2) } } : State).pendingReply x).finish c csOK []))) ∧
  (∀ (c : CmdRef) (s : State) (x : Command) (kind i : Nat), s.turn c 15 2 = some x → kind = beAt x.payload 0 1 → i = beAt x.payload 1 1 →
    (3 < kind ∨ (kind ≠ 3 ∧ (if kind = 1 then 4 else 8) ≤ i) → exec (.vaultProv c) s = .next (s.replyTo x csBADPARAM true [])) ∧
    (kind ≤ 3 → (kind = 3 ∨ i < (if kind = 1 then 4 else 8)) →
      (s.inServiceMode = false ∨ x.iface ≠ 2 → exec (.vaultProv c) s = .next (s.replyTo x csNOTSERVICE true [])) ∧
      (s.inServiceMode = true → x.iface = 2 → exec (.vaultProv c) s = .next
        (if (s.provision kind i (x.payload.drop 2)).2 ≠ 0 then s.replyTo x (s.provision kind i (x.payload.drop 2)).2 true []
         else ((s.provision kind i (x.payload.drop 2)).1.pendingReply x).finish c csOK [])))) ∧
  (∀ (c : CmdRef) (s : State) (x : Command) (k : Nat), s.turn c 15 3 = some x → k = (if s.boot.fwSlot = 0 then 1 else 0) →
    (s.boot.fwUp = none → exec (.fwBegin c) s = .next (({ s with boot := { s.boot with
      fwUp := some { total := beAt x.payload 0 4, last := s.time }, fwMem := tabErase s.boot.fwMem k,
      fwBoot := s.boot.fwBoot.filter (fun j => j != k) } } : State).replyTo x csOK true [])) ∧
    (s.boot.fwUp.isSome = true → exec (.fwBegin c) s = .next (s.replyTo x csBUSY true []))) ∧
  (∀ (c : CmdRef) (s : State) (x : Command) (u : FwUpdate) (k : Nat), s.turn c 15 5 = some x → s.boot.fwUp = some u → k = (if s.boot.fwSlot = 0 then 1 else 0) →
    (beAt x.payload 0 4 ≠ u.data.length ∨ u.total < (u.data ++ x.payload.drop 4).length →
      exec (.fwData c) s = .next (s.replyTo x csBADPARAM true [])) ∧
    (beAt x.payload 0 4 = u.data.length → (u.data ++ x.payload.drop 4).length ≤ u.total → exec (.fwData c) s =
      .next (({ s with boot := { s.boot with
        fwUp := some { u with data := u.data ++ x.payload.drop 4, last := s.time },
        fwMem := tabInsert s.boot.fwMem k (u.data ++ x.payload.drop 4) } } : State).replyTo x csOK true []))) ∧
  (∀ (s : State) (u : FwUpdate), s.boot.fwUp = some u → u.data.length < u.total → (6400000000 : Int) ≤ tdiff s.time u.last →
    exec .fwDataGap s = .next { s with boot := { s.boot with fwUp := none } }) ∧
  (∀ s : State, s.boot.fwUp = none → exec .fwDataGap s = .next s) ∧
  (∀ (s : State) (u : FwUpdate), s.boot.fwUp = some u → u.total ≤ u.data.length ∨ tdiff s.time u.last < (6400000000 : Int) →
    exec .fwDataGap s = .next s) ∧
  (∀ (c : CmdRef) (s : State) (x : Command) (ok : Bool), s.boot.fwUp = none →
    (s.turn c 15 5 = some x → exec (.fwData c) s = .next (s.replyTo x csBADPARAM true [])) ∧
    (s.turn c 15 6 = some x → exec (.fwEnd c ok) s = .next (s.replyTo x csBADPARAM true []))) ∧
  (∀ (c : CmdRef) (s t : State) (x : Command) (u : FwUpdate) (k : Nat), s.turn c 15 6 = some x → s.boot.fwUp = some u →
    k = (if s.boot.fwSlot = 0 then 1 else 0) → t = ({ s with boot := { s.boot with fwUp := none } } : State).pendingReply x →
    (u.data.length ≠ u.total → exec (.fwEnd c true) s = .next (t.finish c csOK (beBytes 1 Config.fwFailed.toNat))) ∧
    (u.data.length = u.total → exec (.fwEnd c true) s = .next (({ t with boot := { t.boot with fwBoot := k :: t.boot.fwBoot } } : State).finish c csOK
      (beBytes 1 0))) ∧
    exec (.fwEnd c false) s = .next (t.finish c csOK (beBytes 1 Config.fwFailed.toNat))) ∧
  (∀ (c : CmdRef) (s : State) (x : Command), s.turn c 15 4 = some x → s.inServiceMode = false →
    exec (.testUnlock c) s = .next (s.replyTo x csNOTSERVICE true [])) ∧
  (∀ (c : CmdRef) (s u : State) (x : Command), s.turn c 15 4 = some x → s.inServiceMode = true → u = s.replyTo x csOK true [] →
    exec (.testUnlock c) s = .next (((((List.range 4).foldl (fun s k => if (s.session k).state = 0 then s else s.closeSession k false)
      ({ u with tst := { u.tst with zeroised := true } } : State)).setF Reg.TST_SCAN 1 0 3).arbModes 2).raise 223 3))

/-- The forms of orders that come both by register and by command or action, where their family's statement names the one only:
cycle tables (R68, R399), the engines' CTL and mailboxes (R110, R111), the trace (R217), staging from a slot (R260), NV_RESUME
(R346), power requests (R433) and resets (R305). A command whose turn has not come has no effect (R382, R393): every command
form does nothing while State.turn gives no command of its class and opcode at the head of its kind, REG_READ also while it does
not wait for a read of the user NV. -/
def Obligations.OrdersInEveryForm : Prop :=
  ((∀ (s : State) (t : Fin 16) (d : Delivered),
    (s.due? 5 t 1 = some d → exec (.ctStop (.action t)) s = .next ((s.taken d).ctStop t d.act.due)) ∧
    (s.due? 5 t 2 = some d → exec (.ctSwap (.action t)) s = .next ((s.taken d).ctSwap t d.act.due))) ∧
  (∀ (s : State) (c : CmdRef) (x : Command), s.turn c 2 2 = some x →
    (beAt x.payload 1 1 = 1 → beAt x.payload 0 1 < 16 →
      exec (.ctStop (.cmd c)) s = .next ((s.ctStop (beAt x.payload 0 1) (BitVec.ofNat 64 (beAt x.payload 2 8))).replyTo x csOK true [])) ∧
    (beAt x.payload 1 1 = 2 → beAt x.payload 0 1 < 16 →
      exec (.ctSwap (.cmd c)) s = .next ((s.ctSwap (beAt x.payload 0 1) (BitVec.ofNat 64 (beAt x.payload 2 8))).replyTo x csOK true [])) ∧
    (2 < beAt x.payload 1 1 → exec (.ctStart (.cmd c)) s = .next (s.replyTo x csBADPARAM true [])) ∧
    (beAt x.payload 1 1 = 0 → 16 ≤ beAt x.payload 0 1 → exec (.ctStart (.cmd c)) s = .next (s.replyTo x csBADPARAM true [])) ∧
    (beAt x.payload 1 1 = 1 → 16 ≤ beAt x.payload 0 1 → exec (.ctStop (.cmd c)) s = .next (s.replyTo x csBADPARAM true [])) ∧
    (beAt x.payload 1 1 = 2 → 16 ≤ beAt x.payload 0 1 → exec (.ctSwap (.cmd c)) s = .next (s.replyTo x csBADPARAM true []))) ∧
  (∀ (n : Fin 68) (w : Word) (s : State),
    (bitOf w 16 = true → exec (.migrate (.reg n w)) s = .next (s.writeEngCtl n w)) ∧
    (bitOf w 17 = true → exec (.haltClr (.reg n w)) s = .next (s.writeEngCtl n w)) ∧
    (bitOf w 18 = true → exec (.reinstate (.reg n w)) s = .next (s.writeEngCtl n w))) ∧
  (∀ (n : Fin 68) (m : Fin 16) (w lo : Word) (s : State) (e : Nat), s.logicalOf n = some e →
    s.pairHeld.find? (fun p => p.1 == Reg.ENG_MBOX n m) = some (Reg.ENG_MBOX n m, lo) →
    exec (.mboxWrite (.reg n m w)) s =
      .next (({ s with pairHeld := tabErase s.pairHeld (Reg.ENG_MBOX n m) } : State).mailWrite e m (pairW lo w) (.host none)).1) ∧
  (∀ (c : CmdRef) (s u t : State) (x : Command) (w : Word), s.turn c 8 3 = some x → w = BitVec.ofNat 32 (beAt x.payload 8 1) →
    (w = 0 ∨ 8 ≤ w.toNat → exec (.trcArm (.cmd c)) s = .next (s.replyTo x csBADPARAM true [])) ∧ (w.toNat < 8 →
    u = (s.store Reg.TRC_CTL (BitVec.ofNat 32 (beAt x.payload 0 4))).store Reg.TRC_POST (BitVec.ofNat 32 (beAt x.payload 4 4)) →
    t = (u.setB Reg.PRB_STAT 1 false).writeTrcCmd w →
    (t.getB Reg.PRB_STAT 1 = true → bitOf w 0 = true → exec (.trcArm (.cmd c)) s =
      .next ((t.setB Reg.PRB_STAT 1 true).replyTo x csBUSY true [])) ∧ (t.getB Reg.PRB_STAT 1 = false →
    (bitOf w 0 = true → exec (.trcArm (.cmd c)) s = .next ((t.setB Reg.PRB_STAT 1 (u.getB Reg.PRB_STAT 1)).replyTo x csOK true [])) ∧
    (bitOf w 1 = true → exec (.trcStop (.cmd c)) s = .next ((t.setB Reg.PRB_STAT 1 (u.getB Reg.PRB_STAT 1)).replyTo x csOK true [])) ∧
    (bitOf w 2 = true → exec (.trcForce (.cmd c)) s = .next ((t.setB Reg.PRB_STAT 1 (u.getB Reg.PRB_STAT 1)).replyTo x csOK true []))))) ∧
  (∀ (c : CmdRef) (s t : State) (x : Command), s.turn c 3 4 = some x → beAt x.payload 1 1 = 0 → beAt x.payload 0 1 ≤ 3 →
    s.stgRequest (.slot (beAt x.payload 0 1)) 0 { src := .slot 0, dest := none, cmd := some c } = (t, 0) →
    exec (.stagingGo (.cmd c)) s = .next (t.pendingReply x)) ∧
  (∀ (c : CmdRef) (s : State) (x : Command), s.turn c 3 4 = some x → beAt x.payload 1 1 ≠ 0 ∨ 3 < beAt x.payload 0 1 →
    exec (.stagingGo (.cmd c)) s = .next (s.replyTo x csBADPARAM true [])) ∧
  (∀ (c : CmdRef) (s : State) (x : Command), s.turn c 5 4 = some x → exec (.nvResume (.cmd c)) s = .next (s.nvCmdResume.replyTo x csOK true [])) ∧
  (∀ (c : CmdRef) (s t : State) (x : Command) (st r : Nat), s.turn c 7 0 = some x → beAt x.payload 1 1 = st → beAt x.payload 0 1 ≤ 134 →
    s.domReq (beAt x.payload 0 1) st = (t, r) →
    (st = 0 → exec (.domReqOn (.cmd c)) s = .next (t.replyTo x (if r = 0 then csOK else csOf 7 r) true (beBytes 1 r))) ∧
    (st = 1 → exec (.domReqRet (.cmd c)) s = .next (t.replyTo x (if r = 0 then csOK else csOf 7 r) true (beBytes 1 r))) ∧
    (st = 3 → exec (.domainReset (.cmd c)) s = .next (t.replyTo x (if r = 0 then csOK else csOf 7 r) true (beBytes 1 r)))) ∧
  (∀ (c : CmdRef) (s : State) (x : Command), s.turn c 7 0 = some x → 3 < beAt x.payload 1 1 →
    exec (.domReqOn (.cmd c)) s = .next (s.replyTo x csBADPARAM true [])) ∧
  (∀ (c : CmdRef) (s : State) (x : Command), s.turn c 7 0 = some x → beAt x.payload 1 1 = 0 → 134 < beAt x.payload 0 1 →
    exec (.domReqOn (.cmd c)) s = .next (s.replyTo x (csOf 7 pwrBADDOMAIN) true (beBytes 1 pwrBADDOMAIN))) ∧
  (∀ (c : CmdRef) (s : State) (x : Command), s.turn c 15 0 = some x → beAt x.payload 0 1 ≠ 1 → beAt x.payload 0 1 ≠ 2 →
    exec (.coldReset (.cmd c)) s = .next (s.replyTo x csBADPARAM true [])) ∧
  (∀ (c : CmdRef) (s u t : State) (x : Command), s.turn c 15 0 = some x → u = (s.replyTo x csOK true []).flushPorts →
    (beAt x.payload 0 1 = 1 → t = u.resetNow false 4 →
      exec (.coldReset (.cmd c)) s = .next { t with cmd := { t.cmd with svcQueue := u.cmd.svcQueue } }) ∧
    (beAt x.payload 0 1 = 2 → t = u.resetNow true 4 →
      exec (.warmReset (.cmd c)) s = .next { t with cmd := { t.cmd with svcQueue := u.cmd.svcQueue } }))) ∧
  (∀ (c : CmdRef) (s : State),
    (s.turn c 2 1 = none → exec (.actCancel (.cmd c)) s = .next s) ∧
    (s.turn c 2 4 = none → exec (.capRead (.cmd c)) s = .next s) ∧
    (s.turn c 2 2 = none → exec (.ctStart (.cmd c)) s = .next s ∧ exec (.ctStop (.cmd c)) s = .next s ∧ exec (.ctSwap (.cmd c)) s = .next s) ∧
    (s.turn c 2 3 = none → exec (.ctWrite c) s = .next s) ∧
    (s.turn c 2 5 = none → exec (.timeStep (.cmd c)) s = .next s) ∧
    (s.turn c 9 2 = none → exec (.migrate (.cmd c)) s = .next s) ∧
    (s.turn c 9 3 = none → exec (.haltClr (.cmd c)) s = .next s) ∧
    (s.turn c 9 4 = none → exec (.reinstate (.cmd c)) s = .next s) ∧
    (s.turn c 9 6 = none → exec (.mboxWrite (.cmd c)) s = .next s) ∧
    (s.turn c 8 3 = none → exec (.trcArm (.cmd c)) s = .next s ∧ exec (.trcStop (.cmd c)) s = .next s ∧ exec (.trcForce (.cmd c)) s = .next s) ∧
    (s.turn c 8 4 = none → exec (.trcRead c) s = .next s) ∧
    (s.turn c 3 4 = none → exec (.stagingGo (.cmd c)) s = .next s) ∧
    (s.turn c 3 0 = none → exec (.stgBegin c) s = .next s) ∧
    (s.turn c 3 1 = none → exec (.stgData c) s = .next s) ∧
    (s.turn c 3 2 = none → exec (.stgEnd c) s = .next s) ∧
    (s.turn c 3 3 = none → exec (.stgAbort (.cmd c)) s = .next s) ∧
    (s.turn c 3 5 = none → exec (.slotErase c) s = .next s) ∧
    (s.turn c 3 6 = none → exec (.slotStat c) s = .next s) ∧
    (s.turn c 3 7 = none → exec (.serviceEnter c) s = .next s) ∧
    (s.turn c 4 0 = none → exec (.frontArm (.cmd c)) s = .next s) ∧
    (s.turn c 4 1 = none → exec (.frontCancel (.cmd c)) s = .next s) ∧
    (s.turn c 4 2 = none → exec (.frontStat c) s = .next s) ∧
    (s.turn c 15 0 = none → exec (.coldReset (.cmd c)) s = .next s ∧ exec (.warmReset (.cmd c)) s = .next s) ∧
    (s.turn c 15 1 = none → exec (.startupWrite c) s = .next s) ∧
    (s.turn c 6 1 = none → exec (.keySelect (.cmd c)) s = .next s) ∧
    (s.turn c 6 4 = none → exec (.keyRescan (.cmd c)) s = .next s) ∧
    (s.turn c 6 0 = none → exec (.keyStat c) s = .next s) ∧
    (s.turn c 6 3 = none → exec (.keyRead c) s = .next s) ∧
    (s.turn c 6 2 = none → (∀ (fail : Option Nat), exec (.keyWb (.cmd c) fail) s = .next s)) ∧
    (s.turn c 6 5 = none → exec (.prmRead c) s = .next s) ∧
    (s.turn c 6 6 = none → exec (.prmWrite c) s = .next s) ∧
    (s.turn c 5 1 = none → exec (.nvProgram (.cmd c)) s = .next s) ∧
    (s.turn c 5 2 = none → exec (.nvErase (.cmd c)) s = .next s) ∧
    (s.turn c 5 3 = none → exec (.nvSuspend (.cmd c)) s = .next s) ∧
    (s.turn c 5 4 = none → exec (.nvResume (.cmd c)) s = .next s) ∧
    (s.turn c 5 0 = none → exec (.nvRead c) s = .next s) ∧
    (s.turn c 5 5 = none → exec (.nvStat c) s = .next s) ∧
    (s.turn c 0 0 = none → exec (.identify c) s = .next s) ∧
    (s.turn c 0 1 = none → exec (.sessionOpen c) s = .next s) ∧
    (s.turn c 0 2 = none → exec (.sessionClose c) s = .next s) ∧
    (s.turn c 0 3 = none → exec (.ping c) s = .next s) ∧
    (s.turn c 1 1 = none → exec (.regWrite c) s = .next s) ∧
    (s.turn c 1 2 = none → (∀ (ecc : Ecc), exec (.regRmw c ecc) s = .next s)) ∧
    (s.turn c 2 0 = none → exec (.actPost c) s = .next s) ∧
    (s.turn c 2 6 = none → exec (.timeRead c) s = .next s) ∧
    (s.turn c 7 1 = none → exec (.pwrStat c) s = .next s) ∧
    (s.turn c 7 2 = none → exec (.auxSet (.cmd c)) s = .next s) ∧
    (s.turn c 8 0 = none → exec (.evtSubscribe c) s = .next s) ∧
    (s.turn c 8 1 = none → exec (.evtRead c) s = .next s) ∧
    (s.turn c 8 2 = none → exec (.evtAck c) s = .next s) ∧
    (s.turn c 9 0 = none → exec (.engRun c) s = .next s) ∧
    (s.turn c 9 1 = none → exec (.engHold c) s = .next s) ∧
    (s.turn c 9 5 = none → exec (.engStat c) s = .next s) ∧
    (s.turn c 10 0 = none → exec (.leaseAcquire c) s = .next s) ∧
    (s.turn c 10 1 = none → exec (.leaseRenew c) s = .next s) ∧
    (s.turn c 10 2 = none → exec (.leaseRelease c) s = .next s) ∧
    (s.turn c 10 3 = none → exec (.leaseStat c) s = .next s) ∧
    (s.turn c 10 4 = none → exec (.hold c) s = .next s) ∧
    (s.turn c 10 5 = none → exec (.stop c) s = .next s) ∧
    (s.turn c 15 2 = none → exec (.vaultProv c) s = .next s) ∧
    (s.turn c 15 3 = none → exec (.fwBegin c) s = .next s) ∧
    (s.turn c 15 5 = none → exec (.fwData c) s = .next s) ∧
    (s.turn c 15 6 = none → (∀ (ok : Bool), exec (.fwEnd c ok) s = .next s)) ∧
    (s.turn c 15 4 = none → exec (.testUnlock c) s = .next s) ∧
    (s.turn c 7 0 = none → exec (.domReqOn (.cmd c)) s = .next s ∧ exec (.domReqRet (.cmd c)) s = .next s ∧
      exec (.domReqOff (.cmd c)) s = .next s ∧ exec (.domainReset (.cmd c)) s = .next s) ∧
    (∀ l : List Ecc, s.regReadCmd c = none → exec (.regRead c l) s = .next s))
end

