-- ==== Sys2Proof/Laws/Tab.lean ====
section
/-!
SUPPORT. Sys2Proof/Laws/Tab.lean: what a sparse table reads after each of its operations, and that each keeps the canonical
form.
-/
namespace Sys2Proof.Machine

variable {α : Type}

/-! ### Reads after writes -/

@[simp] theorem tabGet_nil (d : Nat → α) (k : Nat) : tabGet d [] k = d k := rfl

/-- A listed key reads as the value inserted, whatever the list. -/
@[simp] theorem tabGet_tabInsert_same (d : Nat → α) (t : List (Nat × α)) (k : Nat) (v : α) :
    tabGet d (tabInsert t k v) k = v := by
  induction t with
  | nil => simp [tabInsert, tabGet]
  | cons p t ih =>
    obtain ⟨j, w⟩ := p
    unfold tabInsert
    split
    · simp [tabGet]
    · split
      · simp [tabGet]
      · rename_i h
        simp [tabGet, h, ih]

/-- An insertion leaves every other key. -/
theorem tabGet_tabInsert_ne (d : Nat → α) (t : List (Nat × α)) {k j : Nat} (v : α) (h : j ≠ k) :
    tabGet d (tabInsert t k v) j = tabGet d t j := by
  induction t with
  | nil => simp [tabInsert, tabGet, Ne.symm h]
  | cons p t ih =>
    obtain ⟨i, w⟩ := p
    unfold tabInsert
    split
    · rw [tabGet, if_neg (Ne.symm h)]
    · split
      · rename_i hi
        simp [tabGet, hi, Ne.symm h]
      · simp [tabGet, ih]

/-- A removal leaves every other key. -/
theorem tabGet_tabErase_ne (d : Nat → α) (t : List (Nat × α)) {k j : Nat} (h : j ≠ k) :
    tabGet d (tabErase t k) j = tabGet d t j := by
  induction t with
  | nil => rfl
  | cons p t ih =>
    obtain ⟨i, w⟩ := p
    unfold tabErase
    split
    · rename_i hi
      simp [tabGet, hi, Ne.symm h]
    · simp [tabGet, ih]

/-- A write leaves every other key. -/
theorem tabGet_tabPut_ne [DecidableEq α] (d : Nat → α) (t : List (Nat × α)) {k j : Nat} (v : α) (h : j ≠ k) :
    tabGet d (tabPut d t k v) j = tabGet d t j := by
  unfold tabPut
  split
  · exact tabGet_tabErase_ne d t h
  · exact tabGet_tabInsert_ne d t v h

/-- A value other than the default is read back, whatever the list. -/
theorem tabGet_tabPut_same_of_ne [DecidableEq α] (d : Nat → α) (t : List (Nat × α)) (k : Nat) (v : α) (h : v ≠ d k) :
    tabGet d (tabPut d t k v) k = v := by
  simp [tabPut, h]

/-- Below the first key nothing is listed. -/
theorem tabGet_of_rising (d : Nat → α) (t : List (Nat × α)) {lo k : Nat} (h : tabRising lo t = true) (hk : k < lo) :
    tabGet d t k = d k := by
  induction t generalizing lo with
  | nil => rfl
  | cons p t ih =>
    obtain ⟨j, w⟩ := p
    simp only [tabRising, Bool.and_eq_true, decide_eq_true_eq] at h
    rw [tabGet, if_neg (by omega)]
    exact ih h.2 (by omega)

/-- In rising order a removed key reads as its default. -/
theorem tabGet_tabErase_same (d : Nat → α) (t : List (Nat × α)) {lo : Nat} (k : Nat) (h : tabRising lo t = true) :
    tabGet d (tabErase t k) k = d k := by
  induction t generalizing lo with
  | nil => rfl
  | cons p t ih =>
    obtain ⟨j, w⟩ := p
    simp only [tabRising, Bool.and_eq_true, decide_eq_true_eq] at h
    unfold tabErase
    split
    · rename_i hj
      subst hj
      exact tabGet_of_rising d t h.2 (by omega)
    · rename_i hj
      rw [tabGet, if_neg hj]
      exact ih h.2

/-- In the canonical form every written value is read back. -/
theorem tabGet_tabPut_same [DecidableEq α] (d : Nat → α) (t : List (Nat × α)) (k : Nat) (v : α) (h : tabWf d t = true) :
    tabGet d (tabPut d t k v) k = v := by
  unfold tabPut
  split
  · rename_i hv
    rw [hv]
    exact tabGet_tabErase_same d t k (Bool.and_eq_true _ _ ▸ h).1
  · exact tabGet_tabInsert_same d t k v

/-! ### The canonical form -/

theorem tabRising_mono {lo hi : Nat} (t : List (Nat × α)) (h : tabRising hi t = true) (hl : lo ≤ hi) : tabRising lo t = true := by
  cases t with
  | nil => rfl
  | cons p t =>
    simp only [tabRising, Bool.and_eq_true, decide_eq_true_eq] at h ⊢
    exact ⟨by omega, h.2⟩

theorem tabRising_insert {lo : Nat} (t : List (Nat × α)) (k : Nat) (v : α) (h : tabRising lo t = true) (hk : lo ≤ k) :
    tabRising lo (tabInsert t k v) = true := by
  induction t generalizing lo with
  | nil => simp [tabInsert, tabRising, hk]
  | cons p t ih =>
    obtain ⟨j, w⟩ := p
    simp only [tabRising, Bool.and_eq_true, decide_eq_true_eq] at h
    unfold tabInsert
    split
    · simp only [tabRising, Bool.and_eq_true, decide_eq_true_eq]
      exact ⟨hk, by omega, h.2⟩
    · split
      · rename_i hj
        subst hj
        simp only [tabRising, Bool.and_eq_true, decide_eq_true_eq]
        exact ⟨hk, h.2⟩
      · simp only [tabRising, Bool.and_eq_true, decide_eq_true_eq]
        exact ⟨h.1, ih h.2 (by omega)⟩

theorem tabRising_erase {lo : Nat} (t : List (Nat × α)) (k : Nat) (h : tabRising lo t = true) : tabRising lo (tabErase t k) = true := by
  induction t generalizing lo with
  | nil => rfl
  | cons p t ih =>
    obtain ⟨j, w⟩ := p
    simp only [tabRising, Bool.and_eq_true, decide_eq_true_eq] at h
    unfold tabErase
    split
    · exact tabRising_mono t h.2 (by omega)
    · simp only [tabRising, Bool.and_eq_true, decide_eq_true_eq]
      exact ⟨h.1, ih h.2⟩

theorem tabRising_filter {lo : Nat} (t : List (Nat × α)) (f : Nat × α → Bool) (h : tabRising lo t = true) :
    tabRising lo (t.filter f) = true := by
  induction t generalizing lo with
  | nil => rfl
  | cons p t ih =>
    obtain ⟨j, w⟩ := p
    simp only [tabRising, Bool.and_eq_true, decide_eq_true_eq] at h
    rw [List.filter_cons]
    split
    · simp only [tabRising, Bool.and_eq_true, decide_eq_true_eq]
      exact ⟨h.1, ih h.2⟩
    · exact ih (tabRising_mono t h.2 (by omega))

theorem mem_tabInsert {t : List (Nat × α)} {k : Nat} {v : α} {p : Nat × α} (h : p ∈ tabInsert t k v) : p = (k, v) ∨ p ∈ t := by
  induction t with
  | nil => simpa [tabInsert] using h
  | cons q t ih =>
    obtain ⟨j, w⟩ := q
    unfold tabInsert at h
    split at h
    · simpa using h
    · split at h
      · simp only [List.mem_cons] at h ⊢
        tauto
      · simp only [List.mem_cons] at h ⊢
        rcases h with h | h
        · tauto
        · rcases ih h with h | h <;> tauto

theorem mem_tabErase {t : List (Nat × α)} {k : Nat} {p : Nat × α} (h : p ∈ tabErase t k) : p ∈ t := by
  induction t with
  | nil => exact h
  | cons q t ih =>
    obtain ⟨j, w⟩ := q
    unfold tabErase at h
    split at h
    · exact List.mem_cons_of_mem _ h
    · simp only [List.mem_cons] at h ⊢
      rcases h with h | h
      · exact .inl h
      · exact .inr (ih h)

/-- The empty table is canonical. -/
@[simp] theorem tabWf_nil [DecidableEq α] (d : Nat → α) : tabWf d [] = true := rfl

/-- A write keeps the canonical form. -/
theorem tabWf_tabPut [DecidableEq α] (d : Nat → α) (t : List (Nat × α)) (k : Nat) (v : α) (h : tabWf d t = true) :
    tabWf d (tabPut d t k v) = true := by
  simp only [tabWf, Bool.and_eq_true, List.all_eq_true, decide_eq_true_eq] at h ⊢
  unfold tabPut
  split
  · exact ⟨tabRising_erase t k h.1, fun p hp => h.2 p (mem_tabErase hp)⟩
  · rename_i hv
    refine ⟨tabRising_insert t k v h.1 (Nat.zero_le _), fun p hp => ?_⟩
    rcases mem_tabInsert hp with rfl | hp
    · exact hv
    · exact h.2 p hp

/-- Bringing a range back to its defaults keeps the canonical form. -/
theorem tabWf_tabClear [DecidableEq α] (d : Nat → α) (t : List (Nat × α)) (lo len : Nat) (h : tabWf d t = true) :
    tabWf d (tabClear t lo len) = true := by
  simp only [tabWf, Bool.and_eq_true, List.all_eq_true, decide_eq_true_eq] at h ⊢
  exact ⟨tabRising_filter t _ h.1, fun p hp => h.2 p (List.mem_of_mem_filter hp)⟩

/-- A copy of a range keeps the canonical form. -/
theorem tabWf_tabCopy [DecidableEq α] (d : Nat → α) (t : List (Nat × α)) (src len dst : Nat) (h : tabWf d t = true) :
    tabWf d (tabCopy d t src len dst) = true := by
  unfold tabCopy
  generalize tabRange t src len = l
  have h := tabWf_tabClear d t dst len h
  generalize tabClear t dst len = u at h
  induction l generalizing u with
  | nil => exact h
  | cons p l ih => exact ih _ (tabWf_tabPut d u _ _ h)

/-- Within the range brought back to its defaults, every key reads as its default. -/
theorem tabGet_tabClear_in (d : Nat → α) (t : List (Nat × α)) {lo len k : Nat} (h : lo ≤ k ∧ k < lo + len) :
    tabGet d (tabClear t lo len) k = d k := by
  induction t with
  | nil => rfl
  | cons p t ih =>
    obtain ⟨j, w⟩ := p
    unfold tabClear at ih ⊢
    rw [List.filter_cons]
    split
    · rename_i hj
      simp only [decide_eq_true_eq] at hj
      rw [tabGet, if_neg (by omega)]
      exact ih
    · exact ih

/-- Outside the range nothing changes. -/
theorem tabGet_tabClear_out (d : Nat → α) (t : List (Nat × α)) {lo len k : Nat} (h : k < lo ∨ lo + len ≤ k) :
    tabGet d (tabClear t lo len) k = tabGet d t k := by
  induction t with
  | nil => rfl
  | cons p t ih =>
    obtain ⟨j, w⟩ := p
    unfold tabClear at ih ⊢
    rw [List.filter_cons]
    split
    · simp only [tabGet]
      split
      · rfl
      · exact ih
    · rename_i hj
      simp only [decide_eq_true_eq] at hj
      rw [tabGet, if_neg (by omega)]
      exact ih

end Sys2Proof.Machine
end

