-- ==== Sys2Proof/Laws/Canon1.lean ====
section
/-!
SUPPORT. Sys2Proof/Laws/Canon1.lean: the operations of Machine/Ops, Faults, Fabric, Power, LinkBase, Mailbox, SchedBase, FrontBase, NetBase, ArbBase keep the canonical form of the register table (State.regsWf), one lemma per
operation.
-/
set_option linter.all false
namespace Sys2Proof.Machine
@[simp] theorem wf_fold (s : State) : tabWf regReset s.regs = s.regsWf := rfl
@[simp] theorem wf_ite (p : Prop) [Decidable p] (a b : State) (ha : a.regsWf = true) (hb : b.regsWf = true) : (if p then a else b).regsWf = true := by split <;> assumption
@[simp] theorem wf_ite1 {β : Type} (p : Prop) [Decidable p] (a b : State × β) (ha : a.1.regsWf = true) (hb : b.1.regsWf = true) : (if p then a else b).1.regsWf = true := by split <;> assumption
@[simp] theorem foldl_wf {α : Type} (f : State → α → State) (l : List α) (s : State) (hs : s.regsWf = true) (h : ∀ s a, s.regsWf = true → (f s a).regsWf = true) :
    (l.foldl f s).regsWf = true := by
  induction l generalizing s with
  | nil => exact hs
  | cons a l ih => exact ih _ (h _ _ hs)
@[simp] theorem foldl_wf1 {α β : Type} (f : State × β → α → State × β) (l : List α) (s : State × β) (hs : s.1.regsWf = true) (h : ∀ s a, s.1.regsWf = true → (f s a).1.regsWf = true) :
    (l.foldl f s).1.regsWf = true := by
  induction l generalizing s with
  | nil => exact hs
  | cons a l ih => exact ih _ (h _ _ hs)
theorem tabWf_filter (l : List (Nat × Word)) (f : Nat × Word → Bool) (h : tabWf regReset l = true) : tabWf regReset (l.filter f) = true := by
  simp only [tabWf, Bool.and_eq_true, List.all_eq_true] at h ⊢
  exact ⟨tabRising_filter l f h.1, fun p hp => h.2 p (List.mem_of_mem_filter hp)⟩
@[simp] theorem wf_copy (s : State) (a n d : Nat) (hw : s.regsWf = true) : tabWf regReset (tabCopy regReset s.regs a n d) = true := tabWf_tabCopy _ _ _ _ _ hw
theorem wf_same {s t : State} (h : t.regs = s.regs) (hs : s.regsWf = true) : t.regsWf = true := by
  unfold State.regsWf at hs ⊢; rw [h]; exact hs
@[simp] theorem wf_mk regs pairHeld pairShadow time timeRuns readData freeCtr clk act eng cmd arb fab cfg net dom evt tst key front boot nv ana pending : State.regsWf (State.mk regs pairHeld pairShadow time timeRuns readData freeCtr clk act eng cmd arb fab cfg net dom evt tst key front boot nv ana pending) = tabWf regReset regs := rfl
@[simp] theorem State.setR_wf (s : State) (a : Nat) (w : Word) (hw : s.regsWf = true) : (s.setR a w).regsWf = true := tabWf_tabPut _ _ _ _ hw
@[simp] theorem State.setF_wf (s : State) (a hi lo v : Nat) (hw : s.regsWf = true) : (State.setF s a hi lo v).regsWf = true := by simp [State.setF, hw]
@[simp] theorem State.setB_wf (s : State) (a i : Nat) (b : Bool) (hw : s.regsWf = true) : (State.setB s a i b).regsWf = true := by simp [State.setB, hw]
@[simp] theorem State.setD_wf (s : State) (a : Nat) (d : DWord) (hw : s.regsWf = true) : (State.setD s a d).regsWf = true := by simp [State.setD, hw]
@[simp] theorem State.addF_wf (s : State) (a hi lo n : Nat) (hw : s.regsWf = true) : (State.addF s a hi lo n).regsWf = true := by simp [State.addF, hw]
@[simp] theorem State.incR_wf (s : State) (a : Nat) (hw : s.regsWf = true) : (State.incR s a).regsWf = true := by simp [State.incR, hw]
@[simp] theorem State.resetRegs_wf (s : State) (lo len : Nat) (hw : s.regsWf = true) : (s.resetRegs lo len).regsWf = true := tabWf_tabClear _ _ _ _ hw
@[simp] theorem State.store_wf (s : State) (a : Nat) (w : Word) (hw : s.regsWf = true) : (State.store s a w).regsWf = true := by
  unfold State.store
  (repeat' split) <;> (try simp +contextual (maxDischargeDepth := 40) [hw]) <;> (repeat' split) <;> (try simp +contextual (maxDischargeDepth := 40) [hw])
@[simp] theorem State.fresh_wf (s : State) (hw : s.regsWf = true) : (State.fresh s).1.regsWf = true := by simp [State.fresh, hw]
@[simp] theorem State.raise_wf (s : State) (ev : Nat) (bits : Nat) (hw : s.regsWf = true) : (State.raise s ev bits).regsWf = true := by
  unfold State.raise
  (repeat' split) <;> (try simp +contextual (maxDischargeDepth := 40) [hw]) <;> (repeat' split) <;> (try simp +contextual (maxDischargeDepth := 40) [hw])
@[simp] theorem State.setDomX_wf (s : State) (d : Nat) (x : Domain) (hw : s.regsWf = true) : (State.setDomX s d x).regsWf = true := by simp [State.setDomX, hw]
@[simp] theorem State.touch_wf (s : State) (d : Nat) (hw : s.regsWf = true) : (State.touch s d).regsWf = true := by simp [State.touch, hw]
@[simp] theorem State.setLeng_wf (s : State) (e : Nat) (c : LEng) (hw : s.regsWf = true) : (State.setLeng s e c).regsWf = true := by simp [State.setLeng, hw]
@[simp] theorem State.countFault_wf (s : State) (typ unit : Nat) (cfg : Nat × Nat) (hw : s.regsWf = true) : (State.countFault s typ unit cfg).1.regsWf = true := by simp [State.countFault, hw]
@[simp] theorem State.repairLog_wf (s : State) (typ unit : Nat) (addr : Word) (cause bit : Nat) (noSpare : Bool) (hw : s.regsWf = true) : (State.repairLog s typ unit addr cause bit noSpare).regsWf = true := by
  unfold State.repairLog
  (repeat' split) <;> (try simp +contextual (maxDischargeDepth := 40) [hw]) <;> (repeat' split) <;> (try simp +contextual (maxDischargeDepth := 40) [hw])
@[simp] theorem State.lastingFault_wf (s : State) (typ unit : Nat) (addr : Word) (cause bit : Nat) (noSpare : Bool) (hw : s.regsWf = true) : (State.lastingFault s typ unit addr cause bit noSpare).regsWf = true := by simp [State.lastingFault, hw]
@[simp] theorem State.resolveLog_wf (s : State) (typ unit : Nat) (hw : s.regsWf = true) : (State.resolveLog s typ unit).regsWf = true := by simp [State.resolveLog, hw]
@[simp] theorem State.setDtype_wf (s : State) (t : Nat) (d : DrizzleType) (hw : s.regsWf = true) : (State.setDtype s t d).regsWf = true := by simp [State.setDtype, hw]
@[simp] theorem State.noteAborted_wf (s : State) (t : Nat) (hw : s.regsWf = true) : (State.noteAborted s t).regsWf = true := by simp [State.noteAborted, hw]
@[simp] theorem State.abortIdle_wf (s : State) (t unit : Nat) (hw : s.regsWf = true) : (State.abortIdle s t unit).regsWf = true := by
  unfold State.abortIdle
  (repeat' split) <;> (try simp +contextual (maxDischargeDepth := 40) [hw]) <;> (repeat' split) <;> (try simp +contextual (maxDischargeDepth := 40) [hw])
@[simp] theorem State.useCrypto_wf (s : State) (hw : s.regsWf = true) : (State.useCrypto s).regsWf = true := by
  unfold State.useCrypto
  (repeat' split) <;> (try simp +contextual (maxDischargeDepth := 40) [hw]) <;> (repeat' split) <;> (try simp +contextual (maxDischargeDepth := 40) [hw])
@[simp] theorem State.setSector_wf (s : State) (i : Nat) (x : Sector) (hw : s.regsWf = true) : (State.setSector s i x).regsWf = true := by simp [State.setSector, hw]
@[simp] theorem State.setHold_wf (s : State) (d hold : Nat) (on : Bool) (hw : s.regsWf = true) : (State.setHold s d hold on).regsWf = true := by simp [State.setHold, hw]
@[simp] theorem State.recordWake_wf (s : State) (d src : Nat) (t : DWord) (cold replay reset : Bool) (hw : s.regsWf = true) : (State.recordWake s d src t cold replay reset).regsWf = true := by simp (maxDischargeDepth := 40) [State.recordWake, hw]
@[simp] theorem State.beginTrans_wf (s : State) (d st lat : Nat) (hw : s.regsWf = true) : (State.beginTrans s d st lat).regsWf = true := by simp [State.beginTrans, hw]
@[simp] theorem State.startWake_wf (s : State) (d src : Nat) (t : DWord) (replay copy : Bool) (hw : s.regsWf = true) : (State.startWake s d src t replay copy).regsWf = true := by simp (maxDischargeDepth := 40) [State.startWake, hw]
@[simp] theorem State.supersede_wf (s : State) (d : Nat) (hw : s.regsWf = true) : (State.supersede s d).regsWf = true := by simp (maxDischargeDepth := 40) [State.supersede, hw]
@[simp] theorem State.keepReq_wf (s : State) (d : Nat) (r : Option Nat) (hw : s.regsWf = true) : (State.keepReq s d r).regsWf = true := by
  unfold State.keepReq
  (repeat' split) <;> (try simp +contextual (maxDischargeDepth := 40) [hw]) <;> (repeat' split) <;> (try simp +contextual (maxDischargeDepth := 40) [hw])
@[simp] theorem State.wakeAt_wf (s : State) (d src : Nat) (t : DWord) (copy : Bool) (hw : s.regsWf = true) : (State.wakeAt s d src t copy).regsWf = true := by
  unfold State.wakeAt
  (repeat' split) <;> (try simp +contextual (maxDischargeDepth := 40) [hw]) <;> (repeat' split) <;> (try simp +contextual (maxDischargeDepth := 40) [hw])
@[simp] theorem State.wake_wf (s : State) (d src : Nat) (copy : Bool) (hw : s.regsWf = true) : (State.wake s d src copy).regsWf = true := by simp [State.wake, hw]
@[simp] theorem State.holdAndWake_wf (s : State) (d hold src : Nat) (copy : Bool) (hw : s.regsWf = true) : (State.holdAndWake s d hold src copy).regsWf = true := by
  unfold State.holdAndWake
  (repeat' split) <;> (try simp +contextual (maxDischargeDepth := 40) [hw]) <;> (repeat' split) <;> (try simp +contextual (maxDischargeDepth := 40) [hw])
@[simp] theorem State.stopSector_wf (s : State) (d : Nat) (hw : s.regsWf = true) : (State.stopSector s d).regsWf = true := by
  unfold State.stopSector
  (repeat' split) <;> (try simp +contextual (maxDischargeDepth := 40) [hw]) <;> (repeat' split) <;> (try simp +contextual (maxDischargeDepth := 40) [hw])
@[simp] theorem State.startEntry_wf (s : State) (d st : Nat) (hw : s.regsWf = true) : (State.startEntry s d st).regsWf = true := by simp [State.startEntry, hw]
@[simp] theorem State.refreshPrewake_wf (s : State) (d : Nat) (hw : s.regsWf = true) : (State.refreshPrewake s d).regsWf = true := by simp (maxDischargeDepth := 40) [State.refreshPrewake, hw]
@[simp] theorem State.setLane_wf (s : State) (l : Nat) (x : Lane) (hw : s.regsWf = true) : (State.setLane s l x).regsWf = true := by simp [State.setLane, hw]
@[simp] theorem State.newMsg_wf (s : State) (typ dst spec : Nat) (payload : List DWord) (hw : s.regsWf = true) : (State.newMsg s typ dst spec payload).1.regsWf = true := by simp [State.newMsg, hw]
@[simp] theorem State.sendMsg_wf (s : State) (l : Nat) (m : LinkMsg) (hw : s.regsWf = true) : (State.sendMsg s l m).regsWf = true := by simp [State.sendMsg, hw]
@[simp] theorem State.flood_wf (s : State) (from_ : Option Nat) (m : LinkMsg) (hw : s.regsWf = true) : (State.flood s from_ m).regsWf = true := by simp +contextual (maxDischargeDepth := 40) [State.flood, hw]
@[simp] theorem State.sendHello_wf (s : State) (l : Nat) (hw : s.regsWf = true) : (State.sendHello s l).regsWf = true := by simp [State.sendHello, hw]
@[simp] theorem State.askDelay_wf (s : State) (l : Nat) (hw : s.regsWf = true) : (State.askDelay s l).regsWf = true := by simp (maxDischargeDepth := 40) [State.askDelay, hw]
@[simp] theorem State.placeLane_wf (c : Option Nat) (s : State) (l : Nat) (hw : s.regsWf = true) : (State.placeLane c s l).regsWf = true := by simp (maxDischargeDepth := 40) [State.placeLane, hw]
@[simp] theorem State.updateTree_wf (s : State) (heard : Bool) (hw : s.regsWf = true) : (State.updateTree s heard).regsWf = true := by simp +contextual (maxDischargeDepth := 40) [State.updateTree, hw]
@[simp] theorem State.mailCommit_wf (s : State) (n e m : Nat) (v : DWord) (hw : s.regsWf = true) : (State.mailCommit s n e m v).1.regsWf = true := by simp (maxDischargeDepth := 40) [State.mailCommit, hw]
@[simp] theorem State.mailWrite_wf (s : State) (e m : Nat) (v : DWord) (f : MailFrom) (hw : s.regsWf = true) : (State.mailWrite s e m v f).1.regsWf = true := by
  unfold State.mailWrite
  (repeat' split) <;> (try simp +contextual (maxDischargeDepth := 40) [hw]) <;> (repeat' split) <;> (try simp +contextual (maxDischargeDepth := 40) [hw])
@[simp] theorem State.setFifo_wf (s : State) (p : Nat) (l : List PortRec) (hw : s.regsWf = true) : (State.setFifo s p l).regsWf = true := by simp [State.setFifo, hw]
@[simp] theorem State.fifoPush_wf (s : State) (p : Nat) (w : QWord) (o : PostOwner) (hw : s.regsWf = true) : (State.fifoPush s p w o).regsWf = true := by simp [State.fifoPush, hw]
@[simp] theorem State.noteRefused_wf (s : State) (p : Nat) (a : ActRec) (st : Nat) (hw : s.regsWf = true) : (State.noteRefused s p a st).regsWf = true := by simp (maxDischargeDepth := 40) [State.noteRefused, hw]
@[simp] theorem State.returnStatus_wf (s : State) (o : PostOwner) (st : Nat) (hw : s.regsWf = true) : (State.returnStatus s o st).regsWf = true := by
  unfold State.returnStatus
  (repeat' split) <;> (try simp +contextual (maxDischargeDepth := 40) [hw]) <;> (repeat' split) <;> (try simp +contextual (maxDischargeDepth := 40) [hw])
theorem wf_act (t : State) (a : Act) (hw : t.regsWf = true) : State.regsWf { t with act := a } = true := wf_same (by cases t; rfl) hw
theorem prewake_wf (s : State) (d : Nat) (hw : s.regsWf = true) : ((s.wake d 2).setHold d holdPrewake true).regsWf = true :=
  State.setHold_wf _ _ _ _ (State.wake_wf _ _ _ _ hw)
@[simp] theorem State.sendPrewake_wf (s : State) (k d : Nat) (hw : s.regsWf = true) : (s.sendPrewake k d).regsWf = true :=
  wf_act ((s.wake d 2).setHold d holdPrewake true) _ (prewake_wf s d hw)
@[simp] theorem State.accept_wf (s : State) (p : Nat) (a : ActRec) (o : PostOwner) (hw : s.regsWf = true) : (State.accept s p a o).regsWf = true := by
  unfold State.accept
  (repeat' split) <;> (try simp +contextual (maxDischargeDepth := 40) [hw]) <;> (repeat' split) <;> (try simp +contextual (maxDischargeDepth := 40) [hw])
@[simp] theorem State.takeRecord_wf (s : State) (p : Nat) (r : PortRec) (hw : s.regsWf = true) : (State.takeRecord s p r).1.regsWf = true := by simp (maxDischargeDepth := 40) [State.takeRecord, hw]
@[simp] theorem State.withdraw_wf (s : State) (out : CalEntry → Bool) (hw : s.regsWf = true) : (State.withdraw s out).regsWf = true := by simp +contextual (maxDischargeDepth := 40) [State.withdraw, hw]
@[simp] theorem State.cancel_wf (s : State) (tag mask kind port : Nat) (kindAny portAny : Bool) (hw : s.regsWf = true) : (State.cancel s tag mask kind port kindAny portAny).1.regsWf = true := by simp [State.cancel, hw]
@[simp] theorem State.setCell_wf (s : State) (p : Nat) (c : LaunchCell) (hw : s.regsWf = true) : (State.setCell s p c).regsWf = true := by simp [State.setCell, hw]
@[simp] theorem State.noteHeld_wf (s : State) (a : ActRec) (hw : s.regsWf = true) : (State.noteHeld s a).regsWf = true := by
  unfold State.noteHeld
  (repeat' split) <;> (try simp +contextual (maxDischargeDepth := 40) [hw]) <;> (repeat' split) <;> (try simp +contextual (maxDischargeDepth := 40) [hw])
@[simp] theorem State.countLate_wf (s : State) (e : CalEntry) (dropped : Bool) (hw : s.regsWf = true) : (State.countLate s e dropped).regsWf = true := by simp (maxDischargeDepth := 40) [State.countLate, hw]
@[simp] theorem State.postInner_wf (s : State) (a : ActRec) (src : Nat) (hw : s.regsWf = true) : (State.postInner s a src).regsWf = true := by simp (maxDischargeDepth := 40) [State.postInner, hw]
@[simp] theorem State.sendRemote_wf (s : State) (a : ActRec) (hw : s.regsWf = true) : (State.sendRemote s a).regsWf = true := by
  unfold State.sendRemote
  (repeat' split) <;> (try simp +contextual (maxDischargeDepth := 40) [hw]) <;> (repeat' split) <;> (try simp +contextual (maxDischargeDepth := 40) [hw])
@[simp] theorem State.deliver_wf (s : State) (e : CalEntry) (late : Bool) (hw : s.regsWf = true) : (State.deliver s e late).regsWf = true := by
  unfold State.deliver
  (repeat' split) <;> (try simp +contextual (maxDischargeDepth := 40) [hw]) <;> (repeat' split) <;> (try simp +contextual (maxDischargeDepth := 40) [hw])
@[simp] theorem dispatch_wf (front : Bool) (z0 : List CalEntry) (z1 : Nat) (z2 : State) (hw : z2.regsWf = true) : (dispatch front z0 z1 z2).1.regsWf = true := by
  induction z0 generalizing z1 z2 with
  | nil => simpa [dispatch] using hw
  | cons e l ih => unfold dispatch; dsimp only; (repeat' split) <;> first | exact hw | (apply ih; simp [hw])
@[simp] theorem State.dispatchTick_wf (s : State) (hw : s.regsWf = true) : (State.dispatchTick s).regsWf = true := by simp +contextual (maxDischargeDepth := 40) [State.dispatchTick, hw]
@[simp] theorem State.remoteReports_wf (s : State) (hw : s.regsWf = true) : (State.remoteReports s).regsWf = true := by
  unfold State.remoteReports
  (repeat' split) <;> (try simp +contextual (maxDischargeDepth := 40) [hw]) <;> (repeat' split) <;> (try simp +contextual (maxDischargeDepth := 40) [hw])
@[simp] theorem State.taken_wf (s : State) (d : Delivered) (hw : s.regsWf = true) : (State.taken s d).regsWf = true := by simp [State.taken, hw]
@[simp] theorem State.setRing_wf (s : State) (r : Nat) (x : CapRing) (hw : s.regsWf = true) : (State.setRing s r x).regsWf = true := by simp [State.setRing, hw]
@[simp] theorem State.ringWrite_wf (s : State) (r : Nat) (time : DWord) (typ pin edge : Nat) (ovf late : Bool) (tag : Nat) (hw : s.regsWf = true) : (State.ringWrite s r time typ pin edge ovf late tag).regsWf = true := by
  unfold State.ringWrite
  (repeat' split) <;> (try simp +contextual (maxDischargeDepth := 40) [hw]) <;> (repeat' split) <;> (try simp +contextual (maxDischargeDepth := 40) [hw])
@[simp] theorem State.ringPop_wf (s : State) (r : Nat) (hw : s.regsWf = true) : (State.ringPop s r).regsWf = true := by simp [State.ringPop, hw]
@[simp] theorem State.setCap_wf (s : State) (p : Nat) (c : CaptureCell) (hw : s.regsWf = true) : (State.setCap s p c).regsWf = true := by simp [State.setCap, hw]
@[simp] theorem State.cycleEnded_wf (s : State) (n : Nat) (hw : s.regsWf = true) : (State.cycleEnded s n).regsWf = true := by
  unfold State.cycleEnded
  (repeat' split) <;> (try simp +contextual (maxDischargeDepth := 40) [hw]) <;> (repeat' split) <;> (try simp +contextual (maxDischargeDepth := 40) [hw])
@[simp] theorem State.noteHold_wf (s : State) (p : Nat) (hw : s.regsWf = true) : (State.noteHold s p).regsWf = true := by simp (maxDischargeDepth := 40) [State.noteHold, hw]
@[simp] theorem State.releaseHold_wf (s : State) (hold : Nat) (l : List Nat) (hw : s.regsWf = true) : (State.releaseHold s hold l).regsWf = true := by simp +contextual (maxDischargeDepth := 40) [State.releaseHold, hw]
@[simp] theorem State.frontComplete_wf (s : State) (hw : s.regsWf = true) : (State.frontComplete s).regsWf = true := by simp (maxDischargeDepth := 40) [State.frontComplete, hw]
@[simp] theorem State.driveDone_wf (s : State) (hw : s.regsWf = true) : (State.driveDone s).regsWf = true := by simp [State.driveDone, hw]
@[simp] theorem State.dropDue_wf (s : State) (hw : s.regsWf = true) : (State.dropDue s).regsWf = true := by
  unfold State.dropDue
  (repeat' split) <;> (try simp +contextual (maxDischargeDepth := 40) [hw]) <;> (repeat' split) <;> (try simp +contextual (maxDischargeDepth := 40) [hw])
@[simp] theorem State.frontCancel_wf (s : State) (causes : Nat) (hw : s.regsWf = true) : (State.frontCancel s causes).regsWf = true := by simp (maxDischargeDepth := 40) [State.frontCancel, hw]
@[simp] theorem State.closeVote_wf (s : State) (hw : s.regsWf = true) : (State.closeVote s).regsWf = true := by
  unfold State.closeVote
  (repeat' split) <;> (try simp +contextual (maxDischargeDepth := 40) [hw]) <;> (repeat' split) <;> (try simp +contextual (maxDischargeDepth := 40) [hw])
@[simp] theorem State.setNetPort_wf (s : State) (p : Nat) (x : NetPort) (hw : s.regsWf = true) : (State.setNetPort s p x).regsWf = true := by simp [State.setNetPort, hw]
@[simp] theorem State.enqueue_wf (s : State) (p q : Nat) (f : List Byte) (hw : s.regsWf = true) : (State.enqueue s p q f).1.regsWf = true := by simp (maxDischargeDepth := 40) [State.enqueue, hw]
@[simp] theorem enqueueAll_wf (q : Nat → Nat) (f : List Byte) (z0 : List Nat) (z1 : State) (hw : z1.regsWf = true) : (enqueueAll q f z0 z1).1.regsWf = true := by
  induction z0 generalizing z1 with
  | nil => simp [enqueueAll, hw]
  | cons p l ih => exact ih _ (by simp [hw])
@[simp] theorem State.transmit_wf (s : State) (named : List Nat) (both : Bool) (q : Nat → Nat) (f : List Byte) (hw : s.regsWf = true) : (State.transmit s named both q f).1.regsWf = true := by
  unfold State.transmit
  (repeat' split) <;> (try simp +contextual (maxDischargeDepth := 40) [hw]) <;> (repeat' split) <;> (try simp +contextual (maxDischargeDepth := 40) [hw])
@[simp] theorem State.setArb_wf (s : State) (r : Nat) (a : Arbiter) (hw : s.regsWf = true) : (State.setArb s r a).regsWf = true := by simp [State.setArb, hw]

end Sys2Proof.Machine
end

