-- ==== Sys2Proof/Laws/Canon2.lean ====
section
/-!
SUPPORT. Sys2Proof/Laws/Canon2.lean: the operations of Machine/ArbBase, CmdBase, Clock, AxisBase, EngineOps, EngineRun keep the canonical form of the register table (State.regsWf), one lemma per
operation.
-/
set_option linter.all false
namespace Sys2Proof.Machine
@[simp] theorem State.arbStep_wf (s : State) (d : DWord) (hw : s.regsWf = true) : (State.arbStep s d).regsWf = true := by
  unfold State.arbStep
  (repeat' split) <;> (try simp +contextual (maxDischargeDepth := 40) [hw]) <;> (repeat' split) <;> (try simp +contextual (maxDischargeDepth := 40) [hw])
@[simp] theorem State.submit_wf (s : State) (op addr len : Nat) (data : List Byte) (lock : Nat) (o : ArbOwner) (hw : s.regsWf = true) : (State.submit s op addr len data lock o).1.regsWf = true := by simp (maxDischargeDepth := 40) [State.submit, hw]
@[simp] theorem State.setCommand_wf (s : State) (x : Command) (hw : s.regsWf = true) : (State.setCommand s x).regsWf = true := by simp [State.setCommand, hw]
@[simp] theorem State.setSession_wf (s : State) (k : Nat) (x : Session) (hw : s.regsWf = true) : (State.setSession s k x).regsWf = true := by simp [State.setSession, hw]
@[simp] theorem State.sendPacket_wf (s : State) (p : OutPacket) (hw : s.regsWf = true) : (State.sendPacket s p).regsWf = true := by simp [State.sendPacket, hw]
@[simp] theorem State.sendReply_wf (s : State) (x : Command) (status : Nat) (final : Bool) (payload : List Byte) (hw : s.regsWf = true) : (State.sendReply s x status final payload).regsWf = true := by
  unfold State.sendReply
  (repeat' split) <;> (try simp +contextual (maxDischargeDepth := 40) [hw]) <;> (repeat' split) <;> (try simp +contextual (maxDischargeDepth := 40) [hw])
@[simp] theorem State.dropCommand_wf (s : State) (c : CmdRef) (hw : s.regsWf = true) : (State.dropCommand s c).regsWf = true := by simp [State.dropCommand, hw]
@[simp] theorem State.replyTo_wf (s : State) (x : Command) (status : Nat) (final : Bool) (payload : List Byte) (hw : s.regsWf = true) : (State.replyTo s x status final payload).regsWf = true := by simp (maxDischargeDepth := 40) [State.replyTo, hw]
@[simp] theorem State.finish_wf (s : State) (c : CmdRef) (status : Nat) (payload : List Byte) (hw : s.regsWf = true) : (State.finish s c status payload).regsWf = true := by
  unfold State.finish
  (repeat' split) <;> (try simp +contextual (maxDischargeDepth := 40) [hw]) <;> (repeat' split) <;> (try simp +contextual (maxDischargeDepth := 40) [hw])
@[simp] theorem State.finishOpt_wf (s : State) (c : Option CmdRef) (status : Nat) (payload : List Byte) (hw : s.regsWf = true) : (State.finishOpt s c status payload).regsWf = true := by
  unfold State.finishOpt
  (repeat' split) <;> (try simp +contextual (maxDischargeDepth := 40) [hw]) <;> (repeat' split) <;> (try simp +contextual (maxDischargeDepth := 40) [hw])
@[simp] theorem State.pendingReply_wf (s : State) (x : Command) (hw : s.regsWf = true) : (State.pendingReply s x).regsWf = true := by simp [State.pendingReply, hw]
@[simp] theorem State.awaitReply_wf (s : State) (x : Command) (hw : s.regsWf = true) : (State.awaitReply s x).regsWf = true := by simp [State.awaitReply, hw]
@[simp] theorem State.setPll_wf (s : State) (n : Nat) (x : Adpll) (hw : s.regsWf = true) : (State.setPll s n x).regsWf = true := by simp [State.setPll, hw]
@[simp] theorem State.setOutSrc_wf (s : State) (n m : Nat) (x : OutSrc) (hw : s.regsWf = true) : (State.setOutSrc s n m x).regsWf = true := by simp [State.setOutSrc, hw]
@[simp] theorem State.noteClamp_wf (s : State) (n : Nat) (hw : s.regsWf = true) : (State.noteClamp s n).regsWf = true := by simp [State.noteClamp, hw]
@[simp] theorem State.noteClamps_wf (s : State) (hw : s.regsWf = true) : (State.noteClamps s).regsWf = true := by
  unfold State.noteClamps
  (repeat' split) <;> (try simp +contextual (maxDischargeDepth := 40) [hw]) <;> (repeat' split) <;> (try simp +contextual (maxDischargeDepth := 40) [hw])
@[simp] theorem State.anchorDelay_wf (s : State) (n m : Nat) (t : DWord) (hw : s.regsWf = true) : (State.anchorDelay s n m t).regsWf = true := by
  unfold State.anchorDelay
  (repeat' split) <;> (try simp +contextual (maxDischargeDepth := 40) [hw]) <;> (repeat' split) <;> (try simp +contextual (maxDischargeDepth := 40) [hw])
@[simp] theorem State.anchorDelays_wf (s : State) (n : Nat) (t : DWord) (hw : s.regsWf = true) : (State.anchorDelays s n t).regsWf = true := by
  unfold State.anchorDelays
  (repeat' split) <;> (try simp +contextual (maxDischargeDepth := 40) [hw]) <;> (repeat' split) <;> (try simp +contextual (maxDischargeDepth := 40) [hw])
@[simp] theorem State.anchorSlew_wf (s : State) (t : DWord) (n : Nat) (hw : s.regsWf = true) : (State.anchorSlew s t n).regsWf = true := by
  unfold State.anchorSlew
  (repeat' split) <;> (try simp +contextual (maxDischargeDepth := 40) [hw]) <;> (repeat' split) <;> (try simp +contextual (maxDischargeDepth := 40) [hw])
@[simp] theorem State.writeSlew_wf (s : State) (n : Nat) (w : Word) (hw : s.regsWf = true) : (State.writeSlew s n w).regsWf = true := by
  unfold State.writeSlew
  (repeat' split) <;> (try simp +contextual (maxDischargeDepth := 40) [hw]) <;> (repeat' split) <;> (try simp +contextual (maxDischargeDepth := 40) [hw])
@[simp] theorem State.writeClamp_wf (s : State) (n a : Nat) (w : Word) (hw : s.regsWf = true) : (State.writeClamp s n a w).regsWf = true := by
  unfold State.writeClamp
  (repeat' split) <;> (try simp +contextual (maxDischargeDepth := 40) [hw]) <;> (repeat' split) <;> (try simp +contextual (maxDischargeDepth := 40) [hw])
@[simp] theorem State.noteRing_wf (s old : State) (hw : s.regsWf = true) : (State.noteRing s old).regsWf = true := by simp +contextual (maxDischargeDepth := 40) [State.noteRing, hw]
@[simp] theorem State.leaveDco_wf (s : State) (n : Nat) (f : Nat → OutSrc) (hw : s.regsWf = true) : (State.leaveDco s n f).regsWf = true := by simp +contextual (maxDischargeDepth := 40) [State.leaveDco, hw]
@[simp] theorem State.startLock_wf (s : State) (n : Nat) (hw : s.regsWf = true) : (State.startLock s n).regsWf = true := by simp (maxDischargeDepth := 40) [State.startLock, hw]
@[simp] theorem State.retune_wf (s : State) (n : Nat) (v keep : DWord) (hw : s.regsWf = true) : (State.retune s n v keep).regsWf = true := by simp (maxDischargeDepth := 40) [State.retune, hw]
@[simp] theorem State.writeFcw_wf (s : State) (n : Nat) (v : DWord) (hw : s.regsWf = true) : (State.writeFcw s n v).regsWf = true := by simp (maxDischargeDepth := 40) [State.writeFcw, hw]
@[simp] theorem State.ageLock_wf (s : State) (d : DWord) (n : Nat) (hw : s.regsWf = true) : (State.ageLock s d n).regsWf = true := by
  unfold State.ageLock
  (repeat' split) <;> (try simp +contextual (maxDischargeDepth := 40) [hw]) <;> (repeat' split) <;> (try simp +contextual (maxDischargeDepth := 40) [hw])
@[simp] theorem State.anchored_wf (s : State) (t : DWord) (hw : s.regsWf = true) : (State.anchored s t).regsWf = true := by
  unfold State.anchored
  (repeat' split) <;> (try simp +contextual (maxDischargeDepth := 40) [hw]) <;> (repeat' split) <;> (try simp +contextual (maxDischargeDepth := 40) [hw])
@[simp] theorem State.startTime_wf (s : State) (t : DWord) (hw : s.regsWf = true) : (State.startTime s t).regsWf = true := by simp [State.startTime, hw]
@[simp] theorem State.pairLoss_wf (s : State) (n : Nat) (hw : s.regsWf = true) : (State.pairLoss s n).regsWf = true := by simp (maxDischargeDepth := 40) [State.pairLoss, hw]
@[simp] theorem State.pairLock_wf (s : State) (n : Nat) (hw : s.regsWf = true) : (State.pairLock s n).regsWf = true := by simp (maxDischargeDepth := 40) [State.pairLock, hw]
@[simp] theorem State.countLol_wf (s : State) (n : Nat) (hw : s.regsWf = true) : (State.countLol s n).regsWf = true := by simp (maxDischargeDepth := 40) [State.countLol, hw]
@[simp] theorem State.loseLock_wf (s : State) (n why : Nat) (hw : s.regsWf = true) : (State.loseLock s n why).regsWf = true := by simp (maxDischargeDepth := 40) [State.loseLock, hw]
@[simp] theorem State.pllOff_wf (s : State) (n : Nat) (hw : s.regsWf = true) : (State.pllOff s n).regsWf = true := by
  unfold State.pllOff
  (repeat' split) <;> (try simp +contextual (maxDischargeDepth := 40) [hw]) <;> (repeat' split) <;> (try simp +contextual (maxDischargeDepth := 40) [hw])
@[simp] theorem State.writePllCtl_wf (s : State) (n : Nat) (w : Word) (hw : s.regsWf = true) : (State.writePllCtl s n w).regsWf = true := by simp (maxDischargeDepth := 40) [State.writePllCtl, hw]
@[simp] theorem State.writeTbOut_wf (s : State) (n m : Nat) (w : Word) (hw : s.regsWf = true) : (State.writeTbOut s n m w).regsWf = true := by simp (maxDischargeDepth := 40) [State.writeTbOut, hw]
@[simp] theorem State.writeOut_wf (s : State) (n m : Nat) (w : Word) (hw : s.regsWf = true) : (State.writeOut s n m w).regsWf = true := by simp (maxDischargeDepth := 40) [State.writeOut, hw]
@[simp] theorem State.writeBkp_wf (s : State) (n m : Nat) (w : Word) (hw : s.regsWf = true) : (State.writeBkp s n m w).regsWf = true := by simp (maxDischargeDepth := 40) [State.writeBkp, hw]
@[simp] theorem State.writeGclk_wf (s : State) (k : Nat) (w : Word) (hw : s.regsWf = true) : (State.writeGclk s k w).regsWf = true := by simp (maxDischargeDepth := 40) [State.writeGclk, hw]
@[simp] theorem State.updateSource_wf (s : State) (hw : s.regsWf = true) : (State.updateSource s).regsWf = true := by simp (maxDischargeDepth := 40) [State.updateSource, hw]
@[simp] theorem State.enterHoldover_wf (s : State) (hw : s.regsWf = true) : (State.enterHoldover s).regsWf = true := by simp (maxDischargeDepth := 40) [State.enterHoldover, hw]
@[simp] theorem State.servo_wf (s : State) (off : Int) (hw : s.regsWf = true) : (State.servo s off).regsWf = true := by simp (maxDischargeDepth := 40) [State.servo, hw]
@[simp] theorem State.sendTime_wf (s : State) (spec : Nat) (hw : s.regsWf = true) : (State.sendTime s spec).regsWf = true := by simp +contextual (maxDischargeDepth := 40) [State.sendTime, hw]
@[simp] theorem State.stepTo_wf (s : State) (t : DWord) (hw : s.regsWf = true) : (State.stepTo s t).regsWf = true := by simp (maxDischargeDepth := 40) [State.stepTo, hw]
@[simp] theorem State.writeTbCtl_wf (s : State) (w : Word) (hw : s.regsWf = true) : (State.writeTbCtl s w).regsWf = true := by simp (maxDischargeDepth := 40) [State.writeTbCtl, hw]
@[simp] theorem State.askStep_wf (s : State) (d : DWord) (c : Option CmdRef) (hw : s.regsWf = true) : (State.askStep s d c).regsWf = true := by
  unfold State.askStep
  (repeat' split) <;> (try simp +contextual (maxDischargeDepth := 40) [hw]) <;> (repeat' split) <;> (try simp +contextual (maxDischargeDepth := 40) [hw])
@[simp] theorem State.writeStepCtl_wf (s : State) (w : Word) (hw : s.regsWf = true) : (State.writeStepCtl s w).regsWf = true := by simp (maxDischargeDepth := 40) [State.writeStepCtl, hw]
@[simp] theorem State.forceLevel_wf (s : State) (e k v : Nat) (hw : s.regsWf = true) : (State.forceLevel s e k v).regsWf = true := by simp +contextual (maxDischargeDepth := 40) [State.forceLevel, hw]
@[simp] theorem State.faultLevels_wf (s : State) (e : Nat) (hw : s.regsWf = true) : (State.faultLevels s e).regsWf = true := by simp +contextual (maxDischargeDepth := 40) [State.faultLevels, hw]
@[simp] theorem State.setEngState_wf (s : State) (n v : Nat) (hw : s.regsWf = true) : (State.setEngState s n v).regsWf = true := by simp [State.setEngState, hw]
@[simp] theorem State.loseCycle_wf (s : State) (n e : Nat) (hw : s.regsWf = true) : (State.loseCycle s n e).regsWf = true := by simp [State.loseCycle, hw]
@[simp] theorem State.markNoRetry_wf (s : State) (n e : Nat) (full : Bool) (hw : s.regsWf = true) : (State.markNoRetry s n e full).regsWf = true := by simp (maxDischargeDepth := 40) [State.markNoRetry, hw]
@[simp] theorem State.putLogged_wf (s : State) (n e : Nat) (b : LEng) (hw : s.regsWf = true) : (State.putLogged s n e b).regsWf = true := by simp (maxDischargeDepth := 40) [State.putLogged, hw]
@[simp] theorem State.swapPlanes_wf (s : State) (n e : Nat) (hw : s.regsWf = true) : (State.swapPlanes s n e).regsWf = true := by
  unfold State.swapPlanes
  apply State.frontComplete_wf
  simp (maxDischargeDepth := 40) +contextual [hw]
@[simp] theorem State.startCycle_wf (s : State) (n e : Nat) (data : Word) (t : DWord) (hw : s.regsWf = true) : (State.startCycle s n e data t).regsWf = true := by simp (maxDischargeDepth := 40) [State.startCycle, hw]
@[simp] theorem State.enterHalt_wf (s : State) (n e : Nat) (hw : s.regsWf = true) : (State.enterHalt s n e).regsWf = true := by simp (maxDischargeDepth := 40) [State.enterHalt, hw]
@[simp] theorem State.noteFailHalt_wf (s : State) (e : Nat) (hw : s.regsWf = true) : (State.noteFailHalt s e).regsWf = true := by simp [State.noteFailHalt, hw]
@[simp] theorem State.moveRegs_wf (s : State) (n m : Nat) (hw : s.regsWf = true) : (State.moveRegs s n m).regsWf = true := by simp (maxDischargeDepth := 40) [State.moveRegs, hw]
@[simp] theorem State.takeTarget_wf (s : State) (m : Nat) (hw : s.regsWf = true) : (State.takeTarget s m).regsWf = true := by simp [State.takeTarget, hw]
@[simp] theorem State.startMigration_wf (s : State) (n m e : Nat) (g : Migration) (hw : s.regsWf = true) : (State.startMigration s n m e g).regsWf = true := by simp (maxDischargeDepth := 40) [State.startMigration, hw]
@[simp] theorem State.freeTarget_wf (s : State) (m : Nat) (hw : s.regsWf = true) : (State.freeTarget s m).regsWf = true := by
  unfold State.freeTarget
  (repeat' split) <;> (try simp +contextual (maxDischargeDepth := 40) [hw]) <;> (repeat' split) <;> (try simp +contextual (maxDischargeDepth := 40) [hw])
@[simp] theorem State.switchEngine_wf (s : State) (n e : Nat) (g : Migration) (hw : s.regsWf = true) : (State.switchEngine s n e g).regsWf = true := by simp (maxDischargeDepth := 40) [State.switchEngine, hw]
@[simp] theorem State.boundary_wf (s : State) (n e : Nat) (data : Word) (t : DWord) (hw : s.regsWf = true) : (State.boundary s n e data t).regsWf = true := by
  unfold State.boundary
  (repeat' split) <;> (try simp +contextual (maxDischargeDepth := 40) [hw]) <;> (repeat' split) <;> (try simp +contextual (maxDischargeDepth := 40) [hw])
@[simp] theorem State.forgetClean_wf (s : State) (typ unit : Nat) (hw : s.regsWf = true) : (State.forgetClean s typ unit).regsWf = true := by simp [State.forgetClean, hw]
@[simp] theorem State.dropEngineSlice_wf (s : State) (hw : s.regsWf = true) : (State.dropEngineSlice s).regsWf = true := by
  unfold State.dropEngineSlice
  (repeat' split) <;> (try simp +contextual (maxDischargeDepth := 40) [hw]) <;> (repeat' split) <;> (try simp +contextual (maxDischargeDepth := 40) [hw])
theorem State.abortEngineSlice_wf (s : State) (hw : s.regsWf = true) : ∀ t, (State.abortEngineSlice s) = some t → t.1.regsWf = true := by
  unfold State.abortEngineSlice
  (repeat' split) <;> (try simp +contextual (maxDischargeDepth := 40) [hw]) <;> (repeat' split) <;> (try simp +contextual (maxDischargeDepth := 40) [hw])
@[simp] theorem State.needHolder_wf (s : State) (n e : Nat) (halt failed : Bool) (hw : s.regsWf = true) : ∀ t, (State.needHolder s n e halt failed) = some t → t.regsWf = true := by
  intro t h
  unfold State.needHolder at h
  dsimp only at h
  split at h
  · injection h with h
    subst h
    split <;> simp (maxDischargeDepth := 40) [hw]
  · split at h
    · injection h with h
      subst h
      simp (maxDischargeDepth := 40) [hw]
    · injection h with h
      subst h
      simp (maxDischargeDepth := 40) [hw]
    · match ha : (State.forgetClean s 0 n).abortEngineSlice with
      | none => simp [ha] at h
      | some (u, m, b) =>
        have hu := State.abortEngineSlice_wf _ (State.forgetClean_wf _ _ _ hw) _ ha
        cases b <;> simp only [ha, Option.some.injEq] at h <;> subst h <;> simp (maxDischargeDepth := 40) [hu]
@[simp] theorem State.retireLasting_wf (s : State) (n e : Nat) (hw : s.regsWf = true) : (State.retireLasting s n e).regsWf = true := by
  unfold State.retireLasting
  split
  · rename_i t h
    exact State.needHolder_wf _ _ _ _ _ hw _ h
  · simp [hw]
@[simp] theorem State.hostRam_wf (s : State) (n a : Nat) (b : List Byte) (hw : s.regsWf = true) : (State.hostRam s n a b).regsWf = true := by
  unfold State.hostRam
  (repeat' split) <;> simp [hw]
@[simp] theorem State.settle_wf (s : State) (n e : Nat) (halt : Bool) (hw : s.regsWf = true) : (State.settle s n e halt).regsWf = true := by
  unfold State.settle
  dsimp only
  have hm : ∀ (s : State) (o : Option (Word × DWord)) (g : Word → DWord → State), s.regsWf = true → (∀ d t, (g d t).regsWf = true) →
      (match o with | some (d, t) => g d t | none => s).regsWf = true := by
    intro s o g hs hg
    cases o with
    | none => exact hs
    | some p => exact hg _ _
  split <;> (try split) <;> simp +contextual (maxDischargeDepth := 40) [hw, hm]
@[simp] theorem State.abandon_wf (s : State) (n e : Nat) (hw : s.regsWf = true) : (State.abandon s n e).regsWf = true := by simp (maxDischargeDepth := 40) [State.abandon, hw]
@[simp] theorem State.afterFailure_wf (s : State) (n e : Nat) (g : Migration) (hw : s.regsWf = true) : (State.afterFailure s n e g).regsWf = true := by simp (maxDischargeDepth := 40) [State.afterFailure, hw]
@[simp] theorem State.cycleFail_wf (s : State) (n e : Nat) (hw : s.regsWf = true) : (State.cycleFail s n e).regsWf = true := by
  unfold State.cycleFail
  dsimp only
  split
  · simp (maxDischargeDepth := 40) [hw]
  · rename_i t h
    have h := State.needHolder_wf _ _ _ _ _ (by simp (maxDischargeDepth := 40) [hw]) _ h
    (repeat' split) <;> simp_all
@[simp] theorem State.countMismatch_wf (s : State) (n e pc bit : Nat) (hw : s.regsWf = true) : (State.countMismatch s n e pc bit).1.regsWf = true := by
  unfold State.countMismatch
  (repeat' split) <;> (try simp +contextual (maxDischargeDepth := 40) [hw]) <;> (repeat' split) <;> (try simp +contextual (maxDischargeDepth := 40) [hw])
@[simp] theorem State.mismatch_wf (s : State) (n e bit : Nat) (hw : s.regsWf = true) : (State.mismatch s n e bit).regsWf = true := by simp (maxDischargeDepth := 40) [State.mismatch, hw]
@[simp] theorem State.takeExc_wf (s : State) (n e code at_ : Nat) (hw : s.regsWf = true) : (State.takeExc s n e code at_).regsWf = true := by simp (maxDischargeDepth := 40) [State.takeExc, hw]
theorem ite_wf {p : Prop} [Decidable p] {a b : State} (ha : a.regsWf = true) (hb : b.regsWf = true) :
    (if p then a else b).regsWf = true := by split <;> assumption
theorem State.engRunW_wf (s : State) (row : EngRow) (n : Nat) (resume : Stall → Bool) (f : EngX → State)
    (h : ∀ x, x.s = s → (f x).regsWf = true) (hw : s.regsWf = true) : (s.engRunW row n resume f).regsWf = true := by
  unfold State.engRunW
  split
  · exact hw
  · dsimp only
    refine ite_wf ?_ hw
    split
    · exact State.takeExc_wf _ _ _ _ _ (State.setLeng_wf _ _ _ hw)
    · exact State.setLeng_wf _ _ _ hw
    · split
      · exact State.takeExc_wf _ _ _ _ _ (State.setLeng_wf _ _ _ hw)
      · exact ite_wf (ite_wf hw (h _ rfl)) hw
theorem State.engRun_wf (s : State) (row : EngRow) (n : Nat) (f : EngX → State)
    (h : ∀ x, x.s = s → (f x).regsWf = true) (hw : s.regsWf = true) : (s.engRun row n f).regsWf = true := State.engRunW_wf s row n _ f h hw
@[simp] theorem EngX.done_wf (x : EngX) (c : LEng) (hw : x.s.regsWf = true) : (EngX.done x c).regsWf = true := by simp [EngX.done, hw]
@[simp] theorem EngX.exc_wf (x : EngX) (code : Nat) (hw : x.s.regsWf = true) : (EngX.exc x code).regsWf = true := by simp [EngX.exc, hw]
@[simp] theorem EngX.stall_wf (x : EngX) (st : Stall) (hw : x.s.regsWf = true) : (EngX.stall x st).regsWf = true := by simp [EngX.stall, hw]
@[simp] theorem EngX.put_wf (x : EngX) (k : EngCore) (hw : x.s.regsWf = true) : (EngX.put x k).regsWf = true := by simp [EngX.put, hw]
@[simp] theorem EngX.setRd_wf (x : EngX) (v : DWord) (hw : x.s.regsWf = true) : (EngX.setRd x v).regsWf = true := by simp [EngX.setRd, hw]
@[simp] theorem EngX.liveIn_wf (x : EngX) (s : State) (i : InEntry) (use_ : LEng → LEng) (hw : s.regsWf = true) : (x.liveIn s i use_).regsWf = true := by
  simp [EngX.liveIn, hw]

end Sys2Proof.Machine
end

