-- ==== Sys2Proof/Laws/Canon3.lean ====
section
/-!
SUPPORT. Sys2Proof/Laws/Canon3.lean: the operations of Machine/EngineRun, CfgBase, KeyBase, Images, Key, ArbOps, Links, FabClock, FabPorts, Fab keep the canonical form of the register table (State.regsWf), one lemma per
operation.
-/
set_option linter.all false
namespace Sys2Proof.Machine
@[simp] theorem EngX.input_wf (x : EngX) (live : InEntry) (use_ : LEng → InEntry → LEng) (hw : x.s.regsWf = true) : (EngX.input x live use_).regsWf = true := by
  unfold EngX.input
  (repeat' split) <;> (try simp +contextual (maxDischargeDepth := 40) [hw]) <;> (repeat' split) <;> (try simp +contextual (maxDischargeDepth := 40) [hw])
@[simp] theorem EngX.effect_wf (x : EngX) (f : Effect) (act : State → State) (hw : x.s.regsWf = true)
    (h : ∀ s, s.regsWf = true → (act s).regsWf = true) : (x.effect f act).regsWf = true := by
  unfold EngX.effect
  split <;> simp (maxDischargeDepth := 40) [h, hw]
@[simp] theorem EngX.asked_wf (x : EngX) (f : Effect) (act : State → Nat → State) (hw : x.s.regsWf = true)
    (h : ∀ s k, s.regsWf = true → (act s k).regsWf = true) : (x.asked f act).regsWf = true := by
  unfold EngX.asked
  (repeat' split) <;> simp (maxDischargeDepth := 40) [h, hw]
@[simp] theorem State.engStatus_wf (s : State) (e k v : Nat) (hw : s.regsWf = true) : (State.engStatus s e k v).regsWf = true := by simp [State.engStatus, hw]
@[simp] theorem State.noteMarks_wf (s : State) (hw : s.regsWf = true) : (State.noteMarks s).regsWf = true := by simp (maxDischargeDepth := 40) [State.noteMarks, hw]
@[simp] theorem State.setSlotState_wf (s : State) (k v : Nat) (hw : s.regsWf = true) : (State.setSlotState s k v).regsWf = true := by
  unfold State.setSlotState
  split <;> simp [hw]
@[simp] theorem State.streamTake_wf (s : State) (r : Nat) (hw : s.regsWf = true) : (State.streamTake s r).regsWf = true := by simp [State.streamTake, hw]
@[simp] theorem State.streamEnd_wf (s : State) (hw : s.regsWf = true) : (State.streamEnd s).regsWf = true := by simp [State.streamEnd, hw]
@[simp] theorem State.stgRefuse_wf (s : State) (st : Nat) (hw : s.regsWf = true) : (State.stgRefuse s st).1.regsWf = true := by simp [State.stgRefuse, hw]
@[simp] theorem State.stgRequest_wf (s : State) (src : StgSrc) (dest : Nat) (g : Staging) (hw : s.regsWf = true) : (State.stgRequest s src dest g).1.regsWf = true := by
  unfold State.stgRequest
  (repeat' split) <;> (try simp +contextual (maxDischargeDepth := 40) [hw]) <;> (repeat' split) <;> (try simp +contextual (maxDischargeDepth := 40) [hw])
@[simp] theorem State.selectDone_wf (s : State) (st : Nat) (c : Option CmdRef) (hw : s.regsWf = true) : (State.selectDone s st c).regsWf = true := by simp (maxDischargeDepth := 40) [State.selectDone, hw]
@[simp] theorem State.stageEntry_wf (s : State) (k : KeyChip) (x : KeySel) (hw : s.regsWf = true) : (State.stageEntry s k x).1.regsWf = true := by
  unfold State.stageEntry
  (repeat' split) <;> (try simp +contextual (maxDischargeDepth := 40) [hw]) <;> (repeat' split) <;> (try simp +contextual (maxDischargeDepth := 40) [hw])
@[simp] theorem State.keySelect_wf (s : State) (fmt : Option Nat) (c : Option CmdRef) (hw : s.regsWf = true) : (State.keySelect s fmt c).regsWf = true := by
  unfold State.keySelect
  (repeat' split) <;> (try simp +contextual (maxDischargeDepth := 40) [hw]) <;> (repeat' split) <;> (try simp +contextual (maxDischargeDepth := 40) [hw])
@[simp] theorem State.selectionEnded_wf (s : State) (st : Nat) (hw : s.regsWf = true) : (State.selectionEnded s st).regsWf = true := by
  unfold State.selectionEnded
  (repeat' split) <;> (try simp +contextual (maxDischargeDepth := 40) [hw]) <;> (repeat' split) <;> (try simp +contextual (maxDischargeDepth := 40) [hw])
@[simp] theorem State.prmWrite_wf (s : State) (a : Nat) (data : List Byte) (hw : s.regsWf = true) : (State.prmWrite s a data).regsWf = true := by simp [State.prmWrite, hw]
@[simp] theorem State.writeBack_wf (s : State) (fail : Option Nat) (hw : s.regsWf = true) : (State.writeBack s fail).1.regsWf = true := by
  unfold State.writeBack
  (repeat' split) <;> (try simp +contextual (maxDischargeDepth := 40) [hw]) <;> (repeat' split) <;> (try simp +contextual (maxDischargeDepth := 40) [hw])
@[simp] theorem State.sendChunks_wf (s : State) (a len upto : Nat) (final : Bool) (z0 : Nat) (z1 : Nat) (hw : s.regsWf = true) : (State.sendChunks s a len upto final z0 z1).1.regsWf = true := by
  induction z0 generalizing s z1 with
  | zero => simpa [State.sendChunks] using hw
  | succ n ih => unfold State.sendChunks; dsimp only; split <;> first | exact hw | (apply ih; simp (maxDischargeDepth := 40) [hw])
@[simp] theorem State.sendImage_wf (s : State) (a len off : Nat) (final : Bool) (hw : s.regsWf = true) : (State.sendImage s a len off final).regsWf = true := by simp [State.sendImage, hw]
@[simp] theorem State.sendImages_wf (s : State) (z0 : List (Nat × Nat)) (hw : s.regsWf = true) : (State.sendImages s z0).regsWf = true := by
  induction z0 generalizing s with
  | nil => simpa [State.sendImages] using hw
  | cons x l ih => unfold State.sendImages; apply ih; simp (maxDischargeDepth := 40) [hw]
@[simp] theorem State.forwardTo_wf (s : State) (g : Staging) (off : Nat) (hw : s.regsWf = true) : (State.forwardTo s g off).regsWf = true := by
  unfold State.forwardTo
  (repeat' split) <;> (try simp +contextual (maxDischargeDepth := 40) [hw]) <;> (repeat' split) <;> (try simp +contextual (maxDischargeDepth := 40) [hw])
@[simp] theorem State.ownFurther_wf (s : State) (x : Nat × Nat) (hw : s.regsWf = true) : (State.ownFurther s x).regsWf = true := by
  unfold State.ownFurther
  (repeat' split) <;> (try simp +contextual (maxDischargeDepth := 40) [hw]) <;> (repeat' split) <;> (try simp +contextual (maxDischargeDepth := 40) [hw])
@[simp] theorem State.forwardRest_wf (s : State) (g : Staging) (hw : s.regsWf = true) : (State.forwardRest s g).regsWf = true := by
  unfold State.forwardRest
  (repeat' split) <;> (try simp +contextual (maxDischargeDepth := 40) [hw]) <;> (repeat' split) <;> (try simp +contextual (maxDischargeDepth := 40) [hw])
theorem wf_cfg (s : State) (v : Cfgs) (hw : s.regsWf = true) : State.regsWf { s with cfg := v } = true := wf_same (by cases s; rfl) hw
@[simp] theorem State.endLoad_wf (s : State) (st addr : Nat) (hw : s.regsWf = true) : (State.endLoad s st addr).regsWf = true := by
  unfold State.endLoad
  split
  · exact hw
  · extract_lets started s1 s2 s3 s4 s5 _ s6 s7 s8
    have h1 : s1.regsWf = true := by
      unfold s1
      split <;> simp (maxDischargeDepth := 40) [hw]
    clear_value s1
    have h2 : s2.regsWf = true := by unfold s2; split <;> [exact State.setF_wf _ _ _ _ _ h1; exact h1]
    clear_value s2
    have h3 : s3.regsWf = true := by unfold s3; simp (maxDischargeDepth := 40) [h2]
    clear_value s3
    have h4 : s4.regsWf = true := by unfold s4; simp (maxDischargeDepth := 40) [h3]
    clear_value s4
    have h5 : s5.regsWf = true := by unfold s5; simp (maxDischargeDepth := 40) [h4]
    clear_value s5
    have h6 : s6.regsWf = true := wf_cfg _ _ h5
    clear_value s6
    have h7 : s7.regsWf = true := by unfold s7; split <;> [exact h6; exact State.forwardRest_wf _ _ h6]
    clear_value s7
    have h8 : s8.regsWf = true := by unfold s8; split <;> [exact State.finish_wf _ _ _ _ h7; exact h7]
    clear_value s8
    split <;> [exact State.selectionEnded_wf _ _ h8; exact h8]
@[simp] theorem State.slotBegin_wf (s : State) (k : Nat) (h : Header) (hw : s.regsWf = true) : (State.slotBegin s k h).regsWf = true := by simp (maxDischargeDepth := 40) [State.slotBegin, hw]
@[simp] theorem State.setBegin_wf (s : State) (g : Staging) (h : Header) (hw : s.regsWf = true) : (State.setBegin s g h).regsWf = true := by simp +contextual (maxDischargeDepth := 40) [State.setBegin, hw]
@[simp] theorem State.loadTail_wf (s : State) (g : Staging) (hw : s.regsWf = true) : (State.loadTail s g).regsWf = true := by
  unfold State.loadTail
  (repeat' split) <;> (try simp +contextual (maxDischargeDepth := 40) [hw]) <;> (repeat' split) <;> (try simp +contextual (maxDischargeDepth := 40) [hw])
@[simp] theorem State.noteTaken_wf (s : State) (g : Staging) (h : Header) (hw : s.regsWf = true) : (State.noteTaken s g h).regsWf = true := by
  unfold State.noteTaken
  (repeat' split) <;> (try simp +contextual (maxDischargeDepth := 40) [hw]) <;> (repeat' split) <;> (try simp +contextual (maxDischargeDepth := 40) [hw])
@[simp] theorem State.headerStep_wf (s : State) (g : Staging) (hw : s.regsWf = true) : (State.headerStep s g).regsWf = true := by
  unfold State.headerStep
  split
  · exact hw
  · split
    · exact State.endLoad_wf _ _ _ hw
    · extract_lets c s0 g' s1 s2 _ s3 s4
      have h0 : s0.regsWf = true := State.noteTaken_wf _ _ _ hw
      clear_value s0
      split
      · exact State.endLoad_wf _ _ _ h0
      · split
        · split
          · exact wf_cfg _ _ (State.raise_wf _ _ _ (State.sendImage_wf _ _ _ _ _ h0))
          · exact State.endLoad_wf _ _ _ h0
        · split
          · exact State.endLoad_wf _ _ _ h0
          · have h1 : s1.regsWf = true := by unfold s1; split <;> [exact State.slotBegin_wf _ _ _ h0; exact h0]
            clear_value s1
            have h2 : s2.regsWf = true := by unfold s2; split <;> [exact h1; exact State.setBegin_wf _ _ _ h1]
            clear_value s2
            have h3 : s3.regsWf = true := wf_cfg _ _ h2
            clear_value s3
            have h4 : s4.regsWf = true := State.forwardTo_wf _ _ _ h3
            clear_value s4
            split <;> [exact State.loadTail_wf _ _ h4; exact h4]
@[simp] theorem State.putFrame_wf (s : State) (g : Staging) (raw plain : List Byte) (hw : s.regsWf = true) : (State.putFrame s g raw plain).regsWf = true := by
  unfold State.putFrame
  (repeat' split) <;> (try simp +contextual (maxDischargeDepth := 40) [hw]) <;> (repeat' split) <;> (try simp +contextual (maxDischargeDepth := 40) [hw])
@[simp] theorem State.frameStep_wf (s : State) (g : Staging) (wr : Bool) (hw : s.regsWf = true) : (State.frameStep s g wr).regsWf = true := by
  unfold State.frameStep
  (repeat' split) <;> (try simp +contextual (maxDischargeDepth := 40) [hw]) <;> (repeat' split) <;> (try simp +contextual (maxDischargeDepth := 40) [hw])
@[simp] theorem State.drain_wf (z0 : Nat) (z1 : State) (hw : z1.regsWf = true) : (State.drain z0 z1).regsWf = true := by
  induction z0 generalizing z1 with
  | zero => simpa [State.drain] using hw
  | succ n ih => unfold State.drain; (repeat' split) <;> first | exact hw | (apply ih; simp (maxDischargeDepth := 40) [hw]) | simp (maxDischargeDepth := 40) [hw, ih]
@[simp] theorem State.stagingGo_wf (s : State) (hw : s.regsWf = true) : (State.stagingGo s).regsWf = true := by simp (maxDischargeDepth := 40) [State.stagingGo, hw]
@[simp] theorem State.writeStgCtl_wf (s : State) (w : Word) (hw : s.regsWf = true) : (State.writeStgCtl s w).regsWf = true := by simp (maxDischargeDepth := 40) [State.writeStgCtl, hw]
@[simp] theorem State.clearSlot_wf (s : State) (k : Nat) (hw : s.regsWf = true) : (State.clearSlot s k).regsWf = true := by simp [State.clearSlot, hw]
@[simp] theorem State.badCrc_wf (s : State) (l : Nat) (hw : s.regsWf = true) : (State.badCrc s l).regsWf = true := by simp [State.badCrc, hw]
@[simp] theorem State.bcastGap_wf (s : State) (src : Nat) (hw : s.regsWf = true) : (State.bcastGap s src).regsWf = true := by
  unfold State.bcastGap
  (repeat' split) <;> (try simp +contextual (maxDischargeDepth := 40) [hw]) <;> (repeat' split) <;> (try simp +contextual (maxDischargeDepth := 40) [hw])
@[simp] theorem State.bcastFirst_wf (s : State) (src l : Nat) (hw : s.regsWf = true) : (State.bcastFirst s src l).regsWf = true := by
  unfold State.bcastFirst
  (repeat' split) <;> (try simp +contextual (maxDischargeDepth := 40) [hw]) <;> (repeat' split) <;> (try simp +contextual (maxDischargeDepth := 40) [hw])
@[simp] theorem State.bcastFeed_wf (s : State) (src : Nat) (b : List Byte) (last : Bool) (hw : s.regsWf = true) : (State.bcastFeed s src b last).regsWf = true := by
  unfold State.bcastFeed
  (repeat' split) <;> (try simp +contextual (maxDischargeDepth := 40) [hw]) <;> (repeat' split) <;> (try simp +contextual (maxDischargeDepth := 40) [hw])
@[simp] theorem State.keyPower_wf (s : State) (hw : s.regsWf = true) : (State.keyPower s).regsWf = true := by simp [State.keyPower, hw]
@[simp] theorem State.keyDiscover_wf (s : State) (auto : Bool) (hw : s.regsWf = true) : (State.keyDiscover s auto).regsWf = true := by simp (maxDischargeDepth := 40) [State.keyDiscover, hw]
@[simp] theorem State.keyGone_wf (s : State) (hw : s.regsWf = true) : (State.keyGone s).regsWf = true := by simp (maxDischargeDepth := 40) [State.keyGone, hw]
@[simp] theorem State.cutStaging_wf (s : State) (hw : s.regsWf = true) : (State.cutStaging s).regsWf = true := by simp [State.cutStaging, hw]
@[simp] theorem State.keyError_wf (s : State) (bit : Nat) (hw : s.regsWf = true) : (State.keyError s bit).regsWf = true := by simp (maxDischargeDepth := 40) [State.keyError, hw]
@[simp] theorem State.keyDirectory_wf (s : State) (k : KeyChip) (hw : s.regsWf = true) : (State.keyDirectory s k).regsWf = true := by simp (maxDischargeDepth := 40) [State.keyDirectory, hw]
@[simp] theorem State.askWriteBack_wf (s : State) (c : Option CmdRef) (fail : Option Nat) (hw : s.regsWf = true) : (State.askWriteBack s c fail).regsWf = true := by simp (maxDischargeDepth := 40) [State.askWriteBack, hw]
@[simp] theorem State.waitingWriteBack_wf (s : State) (fail : Option Nat) (hw : s.regsWf = true) : (State.waitingWriteBack s fail).regsWf = true := by simp [State.waitingWriteBack, hw]
@[simp] theorem State.writeKeyCmd_wf (s : State) (w : Word) (fail : Option Nat) (hw : s.regsWf = true) : (State.writeKeyCmd s w fail).regsWf = true := by simp (maxDischargeDepth := 40) [State.writeKeyCmd, hw]
@[simp] theorem State.hostRequest_wf (s : State) (x : Command) (op addr len : Nat) (data : List Byte) (hw : s.regsWf = true) : (State.hostRequest s x op addr len data).regsWf = true := by simp (maxDischargeDepth := 40) [State.hostRequest, hw]
theorem wf_key (s : State) (v : Key) (hw : s.regsWf = true) : State.regsWf { s with key := v } = true := wf_same (by cases s; rfl) hw
@[simp] theorem State.bindSettings_wf (s : State) (k : KeyChip) (e : Nat) (m : List (Nat × Byte)) (bound : List Nat) (hw : s.regsWf = true) :
    (State.bindSettings s k e m bound).regsWf = true := by
  unfold State.bindSettings
  extract_lets p en _ s1 s2 s3
  have h1 : s1.regsWf = true := wf_key s _ hw
  clear_value s1
  have h3 : s3.regsWf = true := State.setR_wf _ _ _ (State.setB_wf _ _ _ _ (State.setB_wf _ _ _ _ h1))
  clear_value s3
  split
  · exact h3
  · exact State.raise_wf _ _ _ h3
@[simp] theorem State.loadSettings_wf (s : State) (k : KeyChip) (e : Nat) (hw : s.regsWf = true) : (State.loadSettings s k e).regsWf = true := by simp (maxDischargeDepth := 40) [State.loadSettings, hw]
@[simp] theorem State.ramDeliver_wf (s : State) (e a : Nat) (b : List Byte) (hw : s.regsWf = true) : (State.ramDeliver s e a b).regsWf = true := by
  unfold State.ramDeliver
  (repeat' split) <;> (try simp +contextual (maxDischargeDepth := 40) [hw]) <;> (repeat' split) <;> (try simp +contextual (maxDischargeDepth := 40) [hw])
@[simp] theorem State.complete_wf (s : State) (q : ArbReq) (st word : Nat) (data : List Byte) (hw : s.regsWf = true) : (State.complete s q st word data).regsWf = true := by
  unfold State.complete
  (repeat' split) <;> (try simp +contextual (maxDischargeDepth := 40) [hw]) <;> (repeat' split) <;> (try simp +contextual (maxDischargeDepth := 40) [hw])
@[simp] theorem State.beatOver_wf (s : State) (r : Nat) (q : ArbReq) (more : Bool) (hw : s.regsWf = true) : (State.beatOver s r q more).regsWf = true := by simp (maxDischargeDepth := 40) [State.beatOver, hw]
@[simp] theorem State.endRequest_wf (s : State) (r : Nat) (q : ArbReq) (st word : Nat) (data : List Byte) (hw : s.regsWf = true) : (State.endRequest s r q st word data).regsWf = true := by simp [State.endRequest, hw]
@[simp] theorem State.nextBeat_wf (s : State) (r : Nat) (q : ArbReq) (got : List Byte) (hw : s.regsWf = true) : (State.nextBeat s r q got).regsWf = true := by simp [State.nextBeat, hw]
@[simp] theorem State.loseLane_wf (s : State) (l st : Nat) (hw : s.regsWf = true) : (State.loseLane s l st).regsWf = true := by
  unfold State.loseLane
  (repeat' split) <;> (try simp +contextual (maxDischargeDepth := 40) [hw]) <;> (repeat' split) <;> (try simp +contextual (maxDischargeDepth := 40) [hw])
@[simp] theorem State.writeSlCtl_wf (s : State) (l : Nat) (w : Word) (hw : s.regsWf = true) : (State.writeSlCtl s l w).regsWf = true := by simp (maxDischargeDepth := 40) [State.writeSlCtl, hw]
@[simp] theorem State.followStep_wf (s : State) (t : DWord) (hw : s.regsWf = true) : (State.followStep s t).regsWf = true := by simp (maxDischargeDepth := 40) [State.followStep, hw]
@[simp] theorem State.treeEdge_wf (s : State) (t : Nat) (hw : s.regsWf = true) : (State.treeEdge s t).regsWf = true := by
  unfold State.treeEdge
  (repeat' split) <;> (try simp +contextual (maxDischargeDepth := 40) [hw]) <;> (repeat' split) <;> (try simp +contextual (maxDischargeDepth := 40) [hw])
@[simp] theorem State.fabricCancel_wf (s : State) (i : Nat) (w : QWord) (hw : s.regsWf = true) : (State.fabricCancel s i w).regsWf = true := by
  unfold State.fabricCancel
  (repeat' split) <;> (try simp +contextual (maxDischargeDepth := 40) [hw]) <;> (repeat' split) <;> (try simp +contextual (maxDischargeDepth := 40) [hw])
@[simp] theorem State.takePost_wf (s : State) (i : Nat) (hw : s.regsWf = true) : (State.takePost s i).regsWf = true := by
  unfold State.takePost
  (repeat' split) <;> (try simp +contextual (maxDischargeDepth := 40) [hw]) <;> (repeat' split) <;> (try simp +contextual (maxDischargeDepth := 40) [hw])
@[simp] theorem State.servePosts_wf (s : State) (g fuel : Nat) (hw : s.regsWf = true) : (State.servePosts s g fuel).regsWf = true := by
  induction fuel generalizing s with
  | zero => exact hw
  | succ n ih =>
    unfold State.servePosts
    split
    · exact hw
    · exact ih _ (State.takePost_wf _ _ hw)
@[simp] theorem State.presentPost_wf (s : State) (i : Nat) (cancel : Bool) (w : QWord) (hw : s.regsWf = true) : (State.presentPost s i cancel w).regsWf = true := by
  unfold State.presentPost
  (repeat' split) <;> (try simp +contextual (maxDischargeDepth := 40) [hw]) <;> (repeat' split) <;> (try simp +contextual (maxDischargeDepth := 40) [hw])
@[simp] theorem State.takeMail_wf (s : State) (i : Nat) (hw : s.regsWf = true) : (State.takeMail s i).regsWf = true := by
  unfold State.takeMail
  (repeat' split) <;> (try simp +contextual (maxDischargeDepth := 40) [hw]) <;> (repeat' split) <;> (try simp +contextual (maxDischargeDepth := 40) [hw])
@[simp] theorem State.serveMail_wf (s : State) (g : Nat) (hw : s.regsWf = true) : (State.serveMail s g).regsWf = true := by
  unfold State.serveMail
  (repeat' split) <;> (try simp +contextual (maxDischargeDepth := 40) [hw]) <;> (repeat' split) <;> (try simp +contextual (maxDischargeDepth := 40) [hw])
@[simp] theorem State.serveMails_wf (s : State) (hw : s.regsWf = true) : (State.serveMails s).regsWf = true := by
  unfold State.serveMails
  (repeat' split) <;> (try simp +contextual (maxDischargeDepth := 40) [hw]) <;> (repeat' split) <;> (try simp +contextual (maxDischargeDepth := 40) [hw])
@[simp] theorem State.sectorFault_wf (s : State) (i addr cause : Nat) (hw : s.regsWf = true) : (State.sectorFault s i addr cause).regsWf = true := by simp (maxDischargeDepth := 40) [State.sectorFault, hw]
@[simp] theorem State.noteDisc_wf (s : State) (i : Nat) (hw : s.regsWf = true) : (State.noteDisc s i).regsWf = true := by simp [State.noteDisc, hw]
@[simp] theorem State.disconnect_wf (s : State) (i seg : Nat) (hw : s.regsWf = true) : (State.disconnect s i seg).regsWf = true := by
  unfold State.disconnect
  (repeat' split) <;> (try simp +contextual (maxDischargeDepth := 40) [hw]) <;> (repeat' split) <;> (try simp +contextual (maxDischargeDepth := 40) [hw])

end Sys2Proof.Machine
end

