-- ==== Sys2Proof/Laws/Canon4.lean ====
section
/-!
SUPPORT. Sys2Proof/Laws/Canon4.lean: the operations of Machine/Fab, Mem, PowerRows, Reset, NvOps keep the canonical form of the register table (State.regsWf), one lemma per
operation.
-/
set_option linter.all false
namespace Sys2Proof.Machine
@[simp] theorem State.askRewrite_wf (s : State) (st : Bool) (a : Nat) (hw : s.regsWf = true) : (State.askRewrite s st a).regsWf = true := by simp [State.askRewrite, hw]
@[simp] theorem State.sectorRewritten_wf (s : State) (st : Bool) (a : Nat) (hw : s.regsWf = true) : (State.sectorRewritten s st a).regsWf = true := by simp (maxDischargeDepth := 40) [State.sectorRewritten, hw]
@[simp] theorem State.rewriteFrame_wf (s : State) (st : Bool) (a : Nat) (src : Bool) (hw : s.regsWf = true) : (State.rewriteFrame s st a src).1.regsWf = true := by
  unfold State.rewriteFrame
  (repeat' split) <;> (try simp +contextual (maxDischargeDepth := 40) [hw]) <;> (repeat' split) <;> (try simp +contextual (maxDischargeDepth := 40) [hw])
@[simp] theorem State.writePrbPin_wf (s : State) (c : Nat) (w : Word) (hw : s.regsWf = true) : (State.writePrbPin s c w).regsWf = true := by simp [State.writePrbPin, hw]
@[simp] theorem State.setTrace_wf (s : State) (x : Trace) (hw : s.regsWf = true) : (State.setTrace s x).regsWf = true := by simp [State.setTrace, hw]
@[simp] theorem State.trcArm_wf (s : State) (hw : s.regsWf = true) : (State.trcArm s).regsWf = true := by simp (maxDischargeDepth := 40) [State.trcArm, hw]
@[simp] theorem State.trcStop_wf (s : State) (hw : s.regsWf = true) : (State.trcStop s).regsWf = true := by simp [State.trcStop, hw]
@[simp] theorem State.trcForce_wf (s : State) (hw : s.regsWf = true) : (State.trcForce s).regsWf = true := by simp [State.trcForce, hw]
@[simp] theorem State.writeTrcCmd_wf (s : State) (w : Word) (hw : s.regsWf = true) : (State.writeTrcCmd s w).regsWf = true := by simp (maxDischargeDepth := 40) [State.writeTrcCmd, hw]
@[simp] theorem State.trcCommand_wf (s : State) (c : CmdRef) (bit : Nat) (hw : s.regsWf = true) : (State.trcCommand s c bit).regsWf = true := by
  unfold State.trcCommand
  (repeat' split) <;> (try simp +contextual (maxDischargeDepth := 40) [hw]) <;> (repeat' split) <;> (try simp +contextual (maxDischargeDepth := 40) [hw])
@[simp] theorem State.trcOrder_wf (s : State) (v : Via) (bit : Nat) (hw : s.regsWf = true) : (State.trcOrder s v bit).regsWf = true := by
  unfold State.trcOrder
  (repeat' split) <;> (try simp +contextual (maxDischargeDepth := 40) [hw]) <;> (repeat' split) <;> (try simp +contextual (maxDischargeDepth := 40) [hw])
@[simp] theorem State.trcStore_wf (s : State) (v t : DWord) (hw : s.regsWf = true) : (State.trcStore s v t).regsWf = true := by
  unfold State.trcStore
  (repeat' split) <;> (try simp +contextual (maxDischargeDepth := 40) [hw]) <;> (repeat' split) <;> (try simp +contextual (maxDischargeDepth := 40) [hw])
@[simp] theorem State.trcSample_wf (s : State) (v at_ : DWord) (hw : s.regsWf = true) : (State.trcSample s v at_).regsWf = true := by
  unfold State.trcSample
  (repeat' split) <;> (try simp +contextual (maxDischargeDepth := 40) [hw]) <;> (repeat' split) <;> (try simp +contextual (maxDischargeDepth := 40) [hw])
@[simp] theorem State.dropSlice_wf (s : State) (kind : Nat) (hw : s.regsWf = true) : (State.dropSlice s kind).regsWf = true := by simp [State.dropSlice, hw]
@[simp] theorem State.bramStart_wf (s : State) (i : Nat) (m : BramMove) (hw : s.regsWf = true) : (State.bramStart s i m).regsWf = true := by simp (maxDischargeDepth := 40) [State.bramStart, hw]
@[simp] theorem State.mulMove_wf (s : State) (i role : Nat) (drizzle : Bool) (hw : s.regsWf = true) : (State.mulMove s i role drizzle).regsWf = true := by simp (maxDischargeDepth := 40) [State.mulMove, hw]
@[simp] theorem State.mulReturn_wf (s : State) (i : Nat) (hw : s.regsWf = true) : (State.mulReturn s i).regsWf = true := by simp [State.mulReturn, hw]
@[simp] theorem State.abortMem_wf (s : State) (kind : Nat) (hw : s.regsWf = true) : (State.abortMem s kind).regsWf = true := by
  unfold State.abortMem
  (repeat' split) <;> (try simp +contextual (maxDischargeDepth := 40) [hw]) <;> (repeat' split) <;> (try simp +contextual (maxDischargeDepth := 40) [hw])
@[simp] theorem State.bramDone_wf (s : State) (i : Nat) (m : BramMove) (hw : s.regsWf = true) : (State.bramDone s i m).regsWf = true := by
  unfold State.bramDone
  (repeat' split) <;> (try simp +contextual (maxDischargeDepth := 40) [hw]) <;> (repeat' split) <;> (try simp +contextual (maxDischargeDepth := 40) [hw])
@[simp] theorem State.bramLasting_wf (s : State) (i k : Nat) (addr : Word) (cause bit : Nat) (hw : s.regsWf = true) : (State.bramLasting s i k addr cause bit).regsWf = true := by
  unfold State.bramLasting
  (repeat' split) <;> (try simp +contextual (maxDischargeDepth := 40) [hw]) <;> (repeat' split) <;> (try simp +contextual (maxDischargeDepth := 40) [hw])
@[simp] theorem State.mulLasting_wf (s : State) (i k : Nat) (addr : Word) (cause bit : Nat) (hw : s.regsWf = true) : (State.mulLasting s i k addr cause bit).regsWf = true := by simp (maxDischargeDepth := 40) [State.mulLasting, hw]
@[simp] theorem State.memFault_wf (s : State) (kind i k : Nat) (addr : Word) (cause bit : Nat) (hw : s.regsWf = true) : (State.memFault s kind i k addr cause bit).regsWf = true := by simp (maxDischargeDepth := 40) [State.memFault, hw]
@[simp] theorem State.memInfo_wf (s : State) (i : Nat) (ue mul spare : Bool) (role bit word : Nat) (hw : s.regsWf = true) : (State.memInfo s i ue mul spare role bit word).regsWf = true := by simp [State.memInfo, hw]
@[simp] theorem State.bramError_wf (s : State) (i k word bit : Nat) (ue : Bool) (hw : s.regsWf = true) : (State.bramError s i k word bit ue).regsWf = true := by
  unfold State.bramError
  (repeat' split) <;> (try simp +contextual (maxDischargeDepth := 40) [hw]) <;> (repeat' split) <;> (try simp +contextual (maxDischargeDepth := 40) [hw])
@[simp] theorem State.bramBad_wf (s : State) (i k p word : Nat) (hw : s.regsWf = true) : (State.bramBad s i k p word).regsWf = true := by
  unfold State.bramBad
  (repeat' split) <;> (try simp +contextual (maxDischargeDepth := 40) [hw]) <;> (repeat' split) <;> (try simp +contextual (maxDischargeDepth := 40) [hw])
@[simp] theorem State.writeMemRepair_wf (s : State) (i : Nat) (w : Word) (hw : s.regsWf = true) : (State.writeMemRepair s i w).regsWf = true := by
  unfold State.writeMemRepair
  (repeat' split) <;> (try simp +contextual (maxDischargeDepth := 40) [hw]) <;> (repeat' split) <;> (try simp +contextual (maxDischargeDepth := 40) [hw])
@[simp] theorem State.linkLost_wf (s : State) (p : Nat) (hw : s.regsWf = true) : (State.linkLost s p).regsWf = true := by simp (maxDischargeDepth := 40) [State.linkLost, hw]
@[simp] theorem State.portLeaves_wf (s : State) (p st : Nat) (hw : s.regsWf = true) : (State.portLeaves s p st).regsWf = true := by simp (maxDischargeDepth := 40) [State.portLeaves, hw]
@[simp] theorem State.endMaskedLocks_wf (s : State) (d : Nat) (hw : s.regsWf = true) : (State.endMaskedLocks s d).regsWf = true := by simp (maxDischargeDepth := 40) [State.endMaskedLocks, hw]
@[simp] theorem State.enter_wf (s : State) (d st : Nat) (hw : s.regsWf = true) : (State.enter s d st).regsWf = true := by simp (maxDischargeDepth := 40) [State.enter, hw]
@[simp] theorem State.loadBuffers_wf (s : State) (i : Nat) (keep : Nat → Bool) (hw : s.regsWf = true) : (State.loadBuffers s i keep).regsWf = true := by simp [State.loadBuffers, hw]
@[simp] theorem State.coldStaged_wf (s : State) (mine : Nat → Bool) (hw : s.regsWf = true) : (State.coldStaged s mine).regsWf = true := by
  unfold State.coldStaged
  (repeat' split) <;> (try simp +contextual (maxDischargeDepth := 40) [hw]) <;> (repeat' split) <;> (try simp +contextual (maxDischargeDepth := 40) [hw])
@[simp] theorem State.coldSector_wf (s : State) (i : Nat) (hw : s.regsWf = true) : (State.coldSector s i).regsWf = true := by simp (maxDischargeDepth := 40) [State.coldSector, hw]
@[simp] theorem State.coldEngine_wf (s : State) (n e : Nat) (hw : s.regsWf = true) : (State.coldEngine s n e).regsWf = true := by simp (maxDischargeDepth := 40) [State.coldEngine, hw]
@[simp] theorem State.coldKey_wf (s : State) (hw : s.regsWf = true) : (State.coldKey s).regsWf = true := by
  unfold State.coldKey
  (repeat' split) <;> (try simp +contextual (maxDischargeDepth := 40) [hw]) <;> (repeat' split) <;> (try simp +contextual (maxDischargeDepth := 40) [hw])
@[simp] theorem State.coldContent_wf (s : State) (d : Nat) (hw : s.regsWf = true) : (State.coldContent s d).regsWf = true := by
  unfold State.coldContent
  (repeat' split) <;> (try simp +contextual (maxDischargeDepth := 40) [hw]) <;> (repeat' split) <;> (try simp +contextual (maxDischargeDepth := 40) [hw])
@[simp] theorem State.applyHeld_wf (s : State) (n e : Nat) (hw : s.regsWf = true) : (State.applyHeld s n e).regsWf = true := by
  unfold State.applyHeld
  dsimp only
  refine foldl_wf _ _ _ ?_ ?_
  · split <;> simp (maxDischargeDepth := 40) [hw]
  · intro s a hw
    (repeat' split) <;> simp (maxDischargeDepth := 40) [hw]
@[simp] theorem State.refuseHeld_wf (s : State) (d : Nat) (hw : s.regsWf = true) : (State.refuseHeld s d).1.regsWf = true := by simp (maxDischargeDepth := 40) [State.refuseHeld, hw]
@[simp] theorem State.unitStops_wf (s : State) (d : Nat) (hw : s.regsWf = true) : (State.unitStops s d).regsWf = true := by
  unfold State.unitStops
  (repeat' split) <;> (try simp +contextual (maxDischargeDepth := 40) [hw]) <;> (repeat' split) <;> (try simp +contextual (maxDischargeDepth := 40) [hw])
@[simp] theorem State.startReset_wf (s : State) (d : Nat) (hw : s.regsWf = true) : (State.startReset s d).regsWf = true := by simp (maxDischargeDepth := 40) [State.startReset, hw]
@[simp] theorem State.reqDown_wf (s : State) (d st : Nat) (hw : s.regsWf = true) : (State.reqDown s d st).1.regsWf = true := by simp (maxDischargeDepth := 40) [State.reqDown, hw]
@[simp] theorem State.domReq_wf (s : State) (d st : Nat) (hw : s.regsWf = true) : (State.domReq s d st).1.regsWf = true := by
  unfold State.domReq
  extract_lets s1
  have h1 : s1.regsWf = true := by
    unfold s1
    split
    · exact State.keepReq_wf _ _ _ (State.supersede_wf _ _ hw)
    · exact hw
  clear_value s1
  split
  · split
    · exact State.refuseHeld_wf _ _ hw
    · split
      · (try dsimp only); exact State.wake_wf _ _ _ _ hw
      · split
        · (try dsimp only); exact State.supersede_wf _ _ hw
        · (try dsimp only); exact State.keepReq_wf _ _ _ hw
  · split
    · (try dsimp only); exact State.wake_wf _ _ _ _ h1
    · split
      · exact State.refuseHeld_wf _ _ h1
      · (try dsimp only); exact State.startReset_wf _ _ h1
    · exact State.reqDown_wf _ _ _ h1
@[simp] theorem State.writeDomReq_wf (s : State) (d : Nat) (w : Word) (hw : s.regsWf = true) : (State.writeDomReq s d w).regsWf = true := by simp [State.writeDomReq, hw]
@[simp] theorem State.powerReq_wf (s : State) (v : ViaN) (st : Nat) (hw : s.regsWf = true) : (State.powerReq s v st).regsWf = true := by
  unfold State.powerReq
  (repeat' split) <;> (try simp +contextual (maxDischargeDepth := 40) [hw]) <;> (repeat' split) <;> (try simp +contextual (maxDischargeDepth := 40) [hw])
@[simp] theorem State.actKept_wf (s : State) (d : Nat) (hw : s.regsWf = true) : (State.actKept s d).regsWf = true := by
  unfold State.actKept
  (repeat' split) <;> (try simp +contextual (maxDischargeDepth := 40) [hw]) <;> (repeat' split) <;> (try simp +contextual (maxDischargeDepth := 40) [hw])
@[simp] theorem State.domUp_wf (s : State) (d : Nat) (hw : s.regsWf = true) : (State.domUp s d).regsWf = true := by
  unfold State.domUp
  (repeat' split) <;> (try simp +contextual (maxDischargeDepth := 40) [hw]) <;> (repeat' split) <;> (try simp +contextual (maxDischargeDepth := 40) [hw])
@[simp] theorem State.afterTrans_wf (s : State) (d : Nat) (hw : s.regsWf = true) : (State.afterTrans s d).regsWf = true := by simp (maxDischargeDepth := 40) [State.afterTrans, hw]
@[simp] theorem State.retentionLost_wf (s : State) (d bank : Nat) (hw : s.regsWf = true) : (State.retentionLost s d bank).regsWf = true := by
  unfold State.retentionLost
  extract_lets s1 s2 s3 s4 n r s5
  have h1 : s1.regsWf = true := State.setF_wf _ _ _ _ _ (State.setB_wf _ _ _ _ hw)
  clear_value s1
  have h2 : s2.regsWf = true := by unfold s2; split <;> [exact State.setB_wf _ _ _ _ h1; exact h1]
  clear_value s2
  have h3 : s3.regsWf = true := State.setB_wf _ _ _ _ (State.setR_wf _ _ _ h2)
  clear_value s3
  have h4 : s4.regsWf = true := State.beginTrans_wf _ _ _ _ (State.raise_wf _ _ _ h3)
  clear_value s4
  split
  · exact State.sectorFault_wf _ _ _ _ h4
  · split
    · have hr : r.1.regsWf = true := State.countFault_wf _ _ _ _ h4
      clear_value r
      have h5 : s5.regsWf = true := State.lastingFault_wf _ _ _ _ _ _ _ hr
      clear_value s5
      split
      · split <;> [exact State.setLeng_wf _ _ _ h5; exact h5]
      · exact hr
    · exact h4
@[simp] theorem State.wakeEnds_wf (s : State) (d : Nat) (hw : s.regsWf = true) : (State.wakeEnds s d).regsWf = true := by simp (maxDischargeDepth := 40) [State.wakeEnds, hw]
@[simp] theorem State.freshBytes_wf (s : State) (n : Nat) (hw : s.regsWf = true) : (State.freshBytes s n).1.regsWf = true := by simp +contextual (maxDischargeDepth := 40) [State.freshBytes, hw]
@[simp] theorem State.abandonNv_wf (s : State) (hw : s.regsWf = true) : (State.abandonNv s).regsWf = true := by
  unfold State.abandonNv
  (repeat' split) <;> (try simp +contextual (maxDischargeDepth := 40) [hw]) <;> (repeat' split) <;> (try simp +contextual (maxDischargeDepth := 40) [hw])
@[simp] theorem State.flushPorts_wf (s : State) (hw : s.regsWf = true) : (State.flushPorts s).regsWf = true := by simp [State.flushPorts, hw]
@[simp] theorem State.afterReset_wf (s : State) (warm : Bool) (hw : s.regsWf = true) : (State.afterReset s warm).regsWf = true := by
  unfold State.afterReset
  have h0 : s.abandonNv.regsWf = true := by simp [hw]
  generalize s.abandonNv = u at h0
  dsimp only
  have h1 : ∀ v : State, v.regs = u.regs.filter (fun p => keptAlways p.1 || (warm && keptWarm p.1)) → v.regsWf = true := by
    intro v hv
    unfold State.regsWf
    rw [hv]
    exact tabWf_filter _ _ h0
  split
  · exact State.setF_wf _ _ _ _ _ (State.setB_wf _ _ _ _ (h1 _ rfl))
  · exact State.resetRegs_wf _ _ _ (State.setF_wf _ _ _ _ _ (State.setB_wf _ _ _ _ (h1 _ rfl)))
@[simp] theorem State.showGasp_wf (s : State) (hw : s.regsWf = true) : (State.showGasp s).regsWf = true := by
  unfold State.showGasp
  (repeat' split) <;> (try simp +contextual (maxDischargeDepth := 40) [hw]) <;> (repeat' split) <;> (try simp +contextual (maxDischargeDepth := 40) [hw])
@[simp] theorem State.repairSlots_wf (s : State) (hw : s.regsWf = true) : (State.repairSlots s).regsWf = true := by simp (maxDischargeDepth := 40) [State.repairSlots, hw]
@[simp] theorem State.showLost_wf (s : State) (r kind off : Nat) (hw : s.regsWf = true) : (State.showLost s r kind off).regsWf = true := by simp [State.showLost, hw]
@[simp] theorem State.showAbandoned_wf (s : State) (hw : s.regsWf = true) : (State.showAbandoned s).regsWf = true := by
  unfold State.showAbandoned
  (repeat' split) <;> (try simp +contextual (maxDischargeDepth := 40) [hw]) <;> (repeat' split) <;> (try simp +contextual (maxDischargeDepth := 40) [hw])
@[simp] theorem State.loadStartup_wf (s : State) (hw : s.regsWf = true) : (State.loadStartup s).regsWf = true := by simp [State.loadStartup, hw]
theorem wf_boot (s : State) (b : Boot) (k : Key) (hw : s.regsWf = true) : State.regsWf { s with boot := b, key := k } = true :=
  wf_same (by cases s; rfl) hw
theorem wf_ana (s : State) (v : Ana) (hw : s.regsWf = true) : State.regsWf { s with ana := v } = true := wf_same (by cases s; rfl) hw
@[simp] theorem State.beginStart_wf (s : State) (source : Nat) (warm : Bool) (hw : s.regsWf = true) : (State.beginStart s source warm).regsWf = true := by
  unfold State.beginStart
  extract_lets s1 s2 b k s3 s4 s5 u a s6 s7 s8 s9
  have h1 : s1.regsWf = true := by unfold s1; split <;> simp (maxDischargeDepth := 40) [hw]
  clear_value s1
  have h2 : s2.regsWf = true := State.setF_wf _ _ _ _ _ h1
  clear_value s2
  have h3 : s3.regsWf = true := wf_boot _ _ _ h2
  clear_value s3
  have h4 : s4.regsWf = true := by unfold s4; simp (maxDischargeDepth := 40) [h3]
  clear_value s4
  have h5 : s5.regsWf = true := State.setB_wf _ _ _ _ h4
  clear_value s5
  have h6 : s6.regsWf = true := by unfold s6; split <;> [exact wf_ana u _ (State.setB_wf _ _ _ _ h5); exact h5]
  clear_value s6
  have h7 : s7.regsWf = true := foldl_wf _ _ _ h6 (fun s a h => State.setF_wf _ _ _ _ _ h)
  clear_value s7
  have h8 : s8.regsWf = true := foldl_wf _ _ _ h7 (fun s a h => State.setF_wf _ _ _ _ _ h)
  clear_value s8
  have h9 : s9.regsWf = true := by unfold s9; split <;> simp (maxDischargeDepth := 40) [h8]
  clear_value s9
  exact State.updateTree_wf _ _ h9
@[simp] theorem State.resetNow_wf (s : State) (warm : Bool) (source : Nat) (hw : s.regsWf = true) : (State.resetNow s warm source).regsWf = true := by simp (maxDischargeDepth := 40) [State.resetNow, hw]
@[simp] theorem State.writeResetCtl_wf (s : State) (w : Word) (hw : s.regsWf = true) : (State.writeResetCtl s w).regsWf = true := by
  unfold State.writeResetCtl
  (repeat' split) <;> (try simp +contextual (maxDischargeDepth := 40) [hw]) <;> (repeat' split) <;> (try simp +contextual (maxDischargeDepth := 40) [hw])
@[simp] theorem State.resetRow_wf (s : State) (v : Via) (kind : Nat) (hw : s.regsWf = true) : (State.resetRow s v kind).regsWf = true := by
  unfold State.resetRow
  (repeat' split) <;> (try simp +contextual (maxDischargeDepth := 40) [hw]) <;> (repeat' split) <;> (try simp +contextual (maxDischargeDepth := 40) [hw])
@[simp] theorem State.nvShow_wf (s : State) (hw : s.regsWf = true) : (State.nvShow s).regsWf = true := by simp [State.nvShow, hw]
@[simp] theorem State.nvFault_wf (s : State) (k cause : Nat) (hw : s.regsWf = true) : (State.nvFault s k cause).regsWf = true := by simp (maxDischargeDepth := 40) [State.nvFault, hw]
@[simp] theorem State.nvFlag_wf (s : State) (w flag : Nat) (hw : s.regsWf = true) : (State.nvFlag s w flag).regsWf = true := by simp [State.nvFlag, hw]
@[simp] theorem State.nvReadWord_wf (s : State) (w : Nat) (ecc : Ecc) (hw : s.regsWf = true) : (State.nvReadWord s w ecc).1.regsWf = true := by
  unfold State.nvReadWord
  (repeat' split) <;> (try simp +contextual (maxDischargeDepth := 40) [hw]) <;> (repeat' split) <;> (try simp +contextual (maxDischargeDepth := 40) [hw])
@[simp] theorem State.nvReadWords_wf (s : State) (first : Nat) (z0 : Nat) (z1 : Nat) (z2 : List Ecc) (hw : s.regsWf = true) : (State.nvReadWords s first z0 z1 z2).1.regsWf = true := by
  induction z0 generalizing s z1 z2 with
  | zero => simpa [State.nvReadWords] using hw
  | succ n ih => unfold State.nvReadWords; dsimp only; (repeat' split) <;> first | (apply ih; simp (maxDischargeDepth := 40) [hw]) | simp (maxDischargeDepth := 40) [hw]
@[simp] theorem State.nvSuspend_wf (s : State) (hold bit : Nat) (hw : s.regsWf = true) : (State.nvSuspend s hold bit).regsWf = true := by
  unfold State.nvSuspend
  (repeat' split) <;> (try simp +contextual (maxDischargeDepth := 40) [hw]) <;> (repeat' split) <;> (try simp +contextual (maxDischargeDepth := 40) [hw])
@[simp] theorem State.nvAsked_wf (s : State) (hw : s.regsWf = true) : (State.nvAsked s).regsWf = true := by simp (maxDischargeDepth := 40) [State.nvAsked, hw]
@[simp] theorem State.nvBegin_wf (s : State) (hw : s.regsWf = true) : (State.nvBegin s).regsWf = true := by
  unfold State.nvBegin
  (repeat' split) <;> (try simp +contextual (maxDischargeDepth := 40) [hw]) <;> (repeat' split) <;> (try simp +contextual (maxDischargeDepth := 40) [hw])
@[simp] theorem State.nvResume_wf (s : State) (hw : s.regsWf = true) : (State.nvResume s).regsWf = true := by
  unfold State.nvResume
  (repeat' split) <;> (try simp +contextual (maxDischargeDepth := 40) [hw]) <;> (repeat' split) <;> (try simp +contextual (maxDischargeDepth := 40) [hw])

end Sys2Proof.Machine
end

