-- ==== Sys2Proof/Laws/Canon5.lean ====
section
/-!
SUPPORT. Sys2Proof/Laws/Canon5.lean: the operations of Machine/NvOps, Nv, Arbiters, AxisRows, EngineAct, EngineUnits, EngineRows, Front, LinePower, Tables keep the canonical form of the register table (State.regsWf), one lemma per
operation.
-/
set_option linter.all false
namespace Sys2Proof.Machine
@[simp] theorem State.nvRelease_wf (s : State) (hold bit : Nat) (hw : s.regsWf = true) : (State.nvRelease s hold bit).regsWf = true := by simp (maxDischargeDepth := 40) [State.nvRelease, hw]
@[simp] theorem State.nvServe_wf (s : State) (b : Nat) (hw : s.regsWf = true) : (State.nvServe s b).1.regsWf = true := by
  unfold State.nvServe
  (repeat' split) <;> (try simp +contextual (maxDischargeDepth := 40) [hw]) <;> (repeat' split) <;> (try simp +contextual (maxDischargeDepth := 40) [hw])
@[simp] theorem State.nvWarn_wf (s : State) (hw : s.regsWf = true) : (State.nvWarn s).regsWf = true := by simp (maxDischargeDepth := 40) [State.nvWarn, hw]
@[simp] theorem State.nvWarnStop_wf (s : State) (hw : s.regsWf = true) : (State.nvWarnStop s).regsWf = true := by
  unfold State.nvWarnStop
  (repeat' split) <;> (try simp +contextual (maxDischargeDepth := 40) [hw]) <;> (repeat' split) <;> (try simp +contextual (maxDischargeDepth := 40) [hw])
@[simp] theorem State.nvClear_wf (s : State) (hw : s.regsWf = true) : (State.nvClear s).regsWf = true := by simp [State.nvClear, hw]
@[simp] theorem State.nvProgram_wf (s : State) (q : ArbReq) (hw : s.regsWf = true) : (State.nvProgram s q).regsWf = true := by simp [State.nvProgram, hw]
@[simp] theorem State.nvWordDone_wf (s : State) (q : ArbReq) (st : Nat) (hw : s.regsWf = true) : (State.nvWordDone s q st).regsWf = true := by simp (maxDischargeDepth := 40) [State.nvWordDone, hw]
@[simp] theorem State.nvErase_wf (s : State) (q : ArbReq) (hw : s.regsWf = true) : (State.nvErase s q).regsWf = true := by simp (maxDischargeDepth := 40) [State.nvErase, hw]
@[simp] theorem State.nvRemap_wf (s : State) (k : Nat) (hw : s.regsWf = true) : (State.nvRemap s k).regsWf = true := by simp (maxDischargeDepth := 40) [State.nvRemap, hw]
@[simp] theorem State.nvErased_wf (s : State) (e : NvErase) (ok remap : Bool) (hw : s.regsWf = true) : (State.nvErased s e ok remap).regsWf = true := by simp (maxDischargeDepth := 40) [State.nvErased, hw]
@[simp] theorem State.nvCmdSuspend_wf (s : State) (hw : s.regsWf = true) : (State.nvCmdSuspend s).1.regsWf = true := by
  unfold State.nvCmdSuspend
  (repeat' split) <;> (try simp +contextual (maxDischargeDepth := 40) [hw]) <;> (repeat' split) <;> (try simp +contextual (maxDischargeDepth := 40) [hw])
@[simp] theorem State.nvCmdResume_wf (s : State) (hw : s.regsWf = true) : (State.nvCmdResume s).regsWf = true := by simp (maxDischargeDepth := 40) [State.nvCmdResume, hw]
@[simp] theorem State.nvRegRequest_wf (s : State) (op nwords : Nat) (hw : s.regsWf = true) : (State.nvRegRequest s op nwords).regsWf = true := by simp (maxDischargeDepth := 40) [State.nvRegRequest, hw]
@[simp] theorem State.writeNvOpCtl_wf (s : State) (w : Word) (hw : s.regsWf = true) : (State.writeNvOpCtl s w).regsWf = true := by
  unfold State.writeNvOpCtl
  (repeat' split) <;> (try simp +contextual (maxDischargeDepth := 40) [hw]) <;> (repeat' split) <;> (try simp +contextual (maxDischargeDepth := 40) [hw])
@[simp] theorem State.nvHostRequest_wf (s : State) (x : Command) (op addr : Nat) (data : List Byte) (hw : s.regsWf = true) : (State.nvHostRequest s x op addr data).regsWf = true := by simp (maxDischargeDepth := 40) [State.nvHostRequest, hw]
@[simp] theorem State.nvWindow_wf (s : State) (k : Nat) (ecc : Ecc) (hw : s.regsWf = true) : (State.nvWindow s k ecc).1.regsWf = true := by simp (maxDischargeDepth := 40) [State.nvWindow, hw]
@[simp] theorem State.grant_wf (s : State) (r : Nat) (x : ArbReq) (hw : s.regsWf = true) : (State.grant s r x).regsWf = true := by simp (maxDischargeDepth := 40) [State.grant, hw]
@[simp] theorem State.decide__wf (s : State) (r : Nat) (hw : s.regsWf = true) : (State.decide_ s r).regsWf = true := by
  unfold State.decide_
  (repeat' split) <;> (try simp +contextual (maxDischargeDepth := 40) [hw]) <;> (repeat' split) <;> (try simp +contextual (maxDischargeDepth := 40) [hw])
@[simp] theorem State.readBeat_wf (s : State) (r : Nat) (q : ArbReq) (d : List Byte) (hw : s.regsWf = true) : (State.readBeat s r q d).regsWf = true := by simp [State.readBeat, hw]
@[simp] theorem State.nvReadBeat_wf (s : State) (q : ArbReq) (eccs : List Ecc) (hw : s.regsWf = true) : (State.nvReadBeat s q eccs).regsWf = true := by simp (maxDischargeDepth := 40) [State.nvReadBeat, hw]
@[simp] theorem State.frameBeat_wf (s : State) (q : ArbReq) (hw : s.regsWf = true) : (State.frameBeat s q).regsWf = true := by simp [State.frameBeat, hw]
@[simp] theorem State.writeArbCtl_wf (s : State) (r : Nat) (w : Word) (hw : s.regsWf = true) : (State.writeArbCtl s r w).regsWf = true := by simp (maxDischargeDepth := 40) [State.writeArbCtl, hw]
@[simp] theorem State.setAxis_wf (s : State) (e : Nat) (x : AxisIo) (hw : s.regsWf = true) : (State.setAxis s e x).regsWf = true := by simp [State.setAxis, hw]
@[simp] theorem State.convert_wf (s : State) (c : Nat) (d : Delivered) (codes : List Nat) (hw : s.regsWf = true) : (State.convert s c d codes).regsWf = true := by simp (maxDischargeDepth := 40) [State.convert, hw]
@[simp] theorem EngX.fp_wf (x : EngX) (r : FpuRes) (hw : x.s.regsWf = true) : (EngX.fp x r).regsWf = true := by simp [EngX.fp, hw]
@[simp] theorem EngX.eccRead_wf (x : EngX) (ecc : Ecc) (f : EngX → State) (hw : x.s.regsWf = true)
    (h : ∀ x, x.s.regsWf = true → (f x).regsWf = true) : (x.eccRead ecc f).regsWf = true := by
  unfold EngX.eccRead
  split <;> simp (maxDischargeDepth := 40) [h, hw]
@[simp] theorem EngX.load_wf (x : EngX) (len : Nat) (ecc : Ecc) (f : EngX → Nat → State) (hw : x.s.regsWf = true)
    (h : ∀ x v, x.s.regsWf = true → (f x v).regsWf = true) : (x.load len ecc f).regsWf = true := by
  unfold EngX.load
  dsimp only
  split
  · simp [hw]
  · exact EngX.eccRead_wf _ _ _ hw (fun x hx => h x _ hx)
@[simp] theorem EngX.store_wf (x : EngX) (len : Nat) (hw : x.s.regsWf = true) : (EngX.store x len).regsWf = true := by simp [EngX.store, hw]
@[simp] theorem EngX.goto_wf (x : EngX) (t : Int) (k : EngCore) (hw : x.s.regsWf = true) : (EngX.goto x t k).regsWf = true := by simp [EngX.goto, hw]
@[simp] theorem EngX.notFar_wf (x : EngX) (f : State) (hw : x.s.regsWf = true) (h : f.regsWf = true) : (x.notFar f).regsWf = true := by
  unfold EngX.notFar
  split <;> simp [h, hw]
@[simp] theorem EngX.post_wf (x : EngX) (due : DWord) (hw : x.s.regsWf = true) : (EngX.post x due).regsWf = true := by
  unfold EngX.post
  (repeat' split) <;> (try simp +contextual (maxDischargeDepth := 40) [hw]) <;> (repeat' split) <;> (try simp +contextual (maxDischargeDepth := 40) [hw])
@[simp] theorem EngX.statusIn_wf (x : EngX) (s : State) (st : Nat) (hw : s.regsWf = true) : (x.statusIn s st).regsWf = true := by
  simp [EngX.statusIn, hw]
theorem State.waiting_wf (s : State) (n : Nat) (f : EngX → Stall → State)
    (h : ∀ x st, x.s = s → (f x st).regsWf = true) (hw : s.regsWf = true) : (s.waiting n f).regsWf = true := by
  unfold State.waiting
  split
  · exact hw
  · dsimp only
    split
    · split
      · exact h _ _ rfl
      · exact hw
    · exact hw
@[simp] theorem State.portDone_wf (s : State) (e p sec : Nat) (hw : s.regsWf = true) : (State.portDone s e p sec).regsWf = true := by
  unfold State.portDone
  (repeat' split) <;> (try simp +contextual (maxDischargeDepth := 40) [hw]) <;> (repeat' split) <;> (try simp +contextual (maxDischargeDepth := 40) [hw])
@[simp] theorem State.bayEarly_wf (s : State) (n : Nat) (ok : BayOut → Bool) (st : Nat) (hw : s.regsWf = true) : (State.bayEarly s n ok st).regsWf = true := by
  unfold State.bayEarly
  (repeat' split) <;> (try simp +contextual (maxDischargeDepth := 40) [hw]) <;> (repeat' split) <;> (try simp +contextual (maxDischargeDepth := 40) [hw])
@[simp] theorem EngX.flagsIn_wf (x : EngX) (rd : Nat) (v : DWord) (st : Nat) (hw : x.s.regsWf = true) : (EngX.flagsIn x rd v st).regsWf = true := by simp [EngX.flagsIn, hw]
@[simp] theorem EngX.bayEnd_wf (x : EngX) (s : State) (w : Stall) (st : Nat) (v : DWord) (hw : s.regsWf = true) : (x.bayEnd s w st v).regsWf = true := by
  unfold EngX.bayEnd
  (repeat' split) <;> simp (maxDischargeDepth := 40) [hw]
@[simp] theorem EngX.request_wf (x : EngX) (mode : Nat) (ecc : Ecc) (hw : x.s.regsWf = true) : (EngX.request x mode ecc).regsWf = true := by
  unfold EngX.request
  (repeat' split) <;> (try simp +contextual (maxDischargeDepth := 40) [hw]) <;> (repeat' split) <;> (try simp +contextual (maxDischargeDepth := 40) [hw])
@[simp] theorem EngX.endCycle_wf (x : EngX) (hw : x.s.regsWf = true) : (EngX.endCycle x).regsWf = true := by simp (maxDischargeDepth := 40) [EngX.endCycle, hw]
@[simp] theorem State.axisWrite_wf (s : State) (e u r : Nat) (v : DWord) (hw : s.regsWf = true) : (State.axisWrite s e u r v).regsWf = true := by simp [State.axisWrite, hw]
@[simp] theorem EngX.unitDone_wf (x : EngX) (r : EngCore × Bool) (hw : x.s.regsWf = true) : (EngX.unitDone x r).regsWf = true := by simp [EngX.unitDone, hw]
@[simp] theorem State.cycleAt_wf (s : State) (n e : Nat) (data : Word) (t : DWord) (hw : s.regsWf = true) : (State.cycleAt s n e data t).regsWf = true := by simp (maxDischargeDepth := 40) [State.cycleAt, hw]
@[simp] theorem State.loseStrobe_wf (s : State) (t : Nat) (d : Delivered) (hw : s.regsWf = true) : (State.loseStrobe s t d).regsWf = true := by
  unfold State.loseStrobe
  (repeat' split) <;> (try simp +contextual (maxDischargeDepth := 40) [hw]) <;> (repeat' split) <;> (try simp +contextual (maxDischargeDepth := 40) [hw])
@[simp] theorem State.clearRun_wf (s : State) (n : Nat) (hw : s.regsWf = true) : (State.clearRun s n).regsWf = true := by
  unfold State.clearRun
  extract_lets s1
  have h1 : s1.regsWf = true := State.setB_wf _ _ _ _ (State.setB_wf _ _ _ _ hw)
  clear_value s1
  split <;> [exact State.setLeng_wf _ _ _ h1; exact h1]
@[simp] theorem State.engIgnored_wf (s : State) (n : Nat) (hw : s.regsWf = true) : (State.engIgnored s n).regsWf = true := by simp [State.engIgnored, hw]
@[simp] theorem State.migrate_wf (s : State) (n m : Nat) (c : Option CmdRef) (hw : s.regsWf = true) : (State.migrate s n m c).1.regsWf = true := by
  unfold State.migrate
  (repeat' split) <;> (try simp +contextual (maxDischargeDepth := 40) [hw]) <;> (repeat' split) <;> (try simp +contextual (maxDischargeDepth := 40) [hw])
@[simp] theorem State.haltClr_wf (s : State) (n : Nat) (hw : s.regsWf = true) : (State.haltClr s n).1.regsWf = true := by
  unfold State.haltClr
  (repeat' split) <;> (try simp +contextual (maxDischargeDepth := 40) [hw]) <;> (repeat' split) <;> (try simp +contextual (maxDischargeDepth := 40) [hw])
@[simp] theorem State.reinstate_wf (s : State) (n : Nat) (hw : s.regsWf = true) : (State.reinstate s n).1.regsWf = true := by simp (maxDischargeDepth := 40) [State.reinstate, hw]
@[simp] theorem State.writeEngCtl_wf (s : State) (n : Nat) (w : Word) (hw : s.regsWf = true) : (State.writeEngCtl s n w).regsWf = true := by simp (maxDischargeDepth := 40) [State.writeEngCtl, hw]
@[simp] theorem State.engOrder_wf (s : State) (n bit : Nat) (w : Word) (hw : s.regsWf = true) : (State.engOrder s n bit w).regsWf = true := by simp [State.engOrder, hw]
@[simp] theorem State.overMask_wf (s : State) (mask : Nat) (f : State → Nat → State) (hw : s.regsWf = true)
    (h : ∀ s n, s.regsWf = true → (f s n).regsWf = true) : (s.overMask mask f).regsWf = true := by
  unfold State.overMask
  refine foldl_wf _ _ _ hw ?_
  intro s a hw
  split <;> simp [h, hw]
@[simp] theorem State.farFlush_wf (s : State) (n : Nat) (hw : s.regsWf = true) : (State.farFlush s n).regsWf = true := by
  unfold State.farFlush
  (repeat' split) <;> (try simp +contextual (maxDischargeDepth := 40) [hw]) <;> (repeat' split) <;> (try simp +contextual (maxDischargeDepth := 40) [hw])
@[simp] theorem State.mailboxHi_wf (s : State) (n m : Nat) (w : Word) (hw : s.regsWf = true) : (State.mailboxHi s n m w).regsWf = true := by
  unfold State.mailboxHi
  (repeat' split) <;> (try simp +contextual (maxDischargeDepth := 40) [hw]) <;> (repeat' split) <;> (try simp +contextual (maxDischargeDepth := 40) [hw])
@[simp] theorem State.abortEngineTest_wf (s : State) (e : Nat) (hw : s.regsWf = true) : (State.abortEngineTest s e).regsWf = true := by
  unfold State.abortEngineTest
  split
  · exact hw
  · split
    · exact hw
    · split
      · dsimp only
        refine ite_wf ?_ hw
        simp (maxDischargeDepth := 40) [hw]
      · refine ite_wf ?_ hw
        split
        · rename_i r h
          exact State.abortEngineSlice_wf _ hw _ h
        · exact hw
@[simp] theorem State.abortStaged_wf (s : State) (hw : s.regsWf = true) : (State.abortStaged s).regsWf = true := by simp +contextual (maxDischargeDepth := 40) [State.abortStaged, hw]
@[simp] theorem State.tryVote_wf (s : State) (hw : s.regsWf = true) : (State.tryVote s).regsWf = true := by simp (maxDischargeDepth := 40) [State.tryVote, hw]
@[simp] theorem State.sendNotice_wf (s : State) (hw : s.regsWf = true) : (State.sendNotice s).regsWf = true := by simp [State.sendNotice, hw]
@[simp] theorem State.armCabinet_wf (s : State) (hw : s.regsWf = true) : (State.armCabinet s).regsWf = true := by simp +contextual (maxDischargeDepth := 40) [State.armCabinet, hw]
@[simp] theorem State.arm_wf (s : State) (f : Front) (hw : s.regsWf = true) : (State.arm s f).1.regsWf = true := by simp +contextual (maxDischargeDepth := 40) [State.arm, hw]
@[simp] theorem State.hostFrontCancel_wf (s : State) (hw : s.regsWf = true) : (State.hostFrontCancel s).1.regsWf = true := by
  have h : s.closeVote.regsWf = true := State.closeVote_wf s hw
  unfold State.hostFrontCancel
  dsimp only
  split <;> simp [h]
@[simp] theorem State.writeFrontCtl_wf (s : State) (w : Word) (hw : s.regsWf = true) : (State.writeFrontCtl s w).regsWf = true := by simp (maxDischargeDepth := 40) [State.writeFrontCtl, hw]
@[simp] theorem State.verifyFrame_wf (r : State × Bool) (m : BitVec 32 × Bool) (hw : r.1.regsWf = true) : (State.verifyFrame r m).1.regsWf = true := by
  unfold State.verifyFrame
  (repeat' split) <;> (try simp +contextual (maxDischargeDepth := 40) [hw]) <;> (repeat' split) <;> (try simp +contextual (maxDischargeDepth := 40) [hw])
theorem wf_front (s : State) (v : Front) (hw : s.regsWf = true) : State.regsWf { s with front := v } = true := wf_same (by cases s; rfl) hw
@[simp] theorem State.loadInterface_wf (s : State) (i : Nat) (hw : s.regsWf = true) : (State.loadInterface s i).regsWf = true := by simp +contextual (maxDischargeDepth := 40) [State.loadInterface, hw]
@[simp] theorem State.switchSector_wf (s : State) (i : Nat) (hw : s.regsWf = true) : (State.switchSector s i).regsWf = true := by simp (maxDischargeDepth := 40) [State.switchSector, hw]
@[simp] theorem State.switchEngineAt_wf (s : State) (e : Nat) (hw : s.regsWf = true) : (State.switchEngineAt s e).regsWf = true := by
  unfold State.switchEngineAt
  (repeat' split) <;> (try simp +contextual (maxDischargeDepth := 40) [hw]) <;> (repeat' split) <;> (try simp +contextual (maxDischargeDepth := 40) [hw])
@[simp] theorem State.movePwms_wf (s : State) (old new : List (Nat × List Byte)) (hw : s.regsWf = true) : (State.movePwms s old new).regsWf = true := by
  unfold State.movePwms
  (repeat' split) <;> (try simp +contextual (maxDischargeDepth := 40) [hw]) <;> (repeat' split) <;> (try simp +contextual (maxDischargeDepth := 40) [hw])
@[simp] theorem State.represent_wf (s : State) (e : Nat) (hw : s.regsWf = true) : (State.represent s e).regsWf = true := by
  unfold State.represent
  (repeat' split) <;> (try simp +contextual (maxDischargeDepth := 40) [hw]) <;> (repeat' split) <;> (try simp +contextual (maxDischargeDepth := 40) [hw])
@[simp] theorem State.takeFront_wf (s : State) (hw : s.regsWf = true) : (State.takeFront s).regsWf = true := by simp +contextual (maxDischargeDepth := 40) [State.takeFront, hw]
@[simp] theorem State.frontStep_wf (s : State) (op : Nat) (hw : s.regsWf = true) : (State.frontStep s op).regsWf = true := by
  unfold State.frontStep
  (repeat' split) <;> (try simp +contextual (maxDischargeDepth := 40) [hw]) <;> (repeat' split) <;> (try simp +contextual (maxDischargeDepth := 40) [hw])
@[simp] theorem State.setAux_wf (s : State) (k : Nat) (x : AuxOut) (hw : s.regsWf = true) : (State.setAux s k x).regsWf = true := by simp [State.setAux, hw]
@[simp] theorem State.auxStart_wf (s : State) (k : Nat) (hw : s.regsWf = true) : (State.auxStart s k).regsWf = true := by simp (maxDischargeDepth := 40) [State.auxStart, hw]
@[simp] theorem State.auxOff_wf (s : State) (k : Nat) (hw : s.regsWf = true) : (State.auxOff s k).regsWf = true := by simp (maxDischargeDepth := 40) [State.auxOff, hw]
@[simp] theorem State.auxTrip_wf (s : State) (k flag bit : Nat) (hw : s.regsWf = true) : (State.auxTrip s k flag bit).regsWf = true := by simp (maxDischargeDepth := 40) [State.auxTrip, hw]
@[simp] theorem State.writeAuxCtl_wf (s : State) (k : Nat) (w : Word) (hw : s.regsWf = true) : (State.writeAuxCtl s k w).regsWf = true := by
  unfold State.writeAuxCtl
  extract_lets s1 s2 _ s3
  have h1 : s1.regsWf = true := by unfold s1; simp [hw]
  clear_value s1
  refine ite_wf ?_ (ite_wf ?_ ?_)
  · simp (maxDischargeDepth := 40) [s2, h1]
  · simp [h1]
  · have h3 : s3.regsWf = true := by unfold s3; simp (maxDischargeDepth := 40) [h1]
    clear_value s3
    refine ite_wf h3 (ite_wf (ite_wf h3 ?_) ?_) <;> simp (maxDischargeDepth := 40) [h3]
@[simp] theorem State.auxShed_wf (s : State) (k : Nat) (hw : s.regsWf = true) : (State.auxShed s k).regsWf = true := by simp (maxDischargeDepth := 40) [State.auxShed, hw]
@[simp] theorem State.releaseData_wf (s : State) (hw : s.regsWf = true) : (State.releaseData s).regsWf = true := by simp +contextual (maxDischargeDepth := 40) [State.releaseData, hw]
@[simp] theorem State.portMeasure_wf (s : State) (p : Nat) (v i w : BitVec 16) (hw : s.regsWf = true) : (State.portMeasure s p v i w).regsWf = true := by simp (maxDischargeDepth := 40) [State.portMeasure, hw]
@[simp] theorem State.putEach_wf (s : State) (f : Nat → Nat) (hi lo : Nat) (z0 : Nat) (z1 : List (BitVec 16)) (hw : s.regsWf = true) : (State.putEach s f hi lo z0 z1).regsWf = true := by
  induction z1 generalizing s z0 with
  | nil => simpa [State.putEach] using hw
  | cons v l ih => unfold State.putEach; apply ih; simp (maxDischargeDepth := 40) [hw]
@[simp] theorem State.sense_wf (s : State) (j : Nat) (t : BitVec 16) (hw : s.regsWf = true) : (State.sense s j t).regsWf = true := by simp (maxDischargeDepth := 40) [State.sense, hw]
@[simp] theorem State.senseAll_wf (s : State) (z0 : Nat) (z1 : List (BitVec 16)) (hw : s.regsWf = true) : (State.senseAll s z0 z1).regsWf = true := by
  induction z1 generalizing s z0 with
  | nil => simpa [State.senseAll] using hw
  | cons v l ih => unfold State.senseAll; apply ih; simp (maxDischargeDepth := 40) [hw]
@[simp] theorem State.setTbl_wf (s : State) (t : Nat) (x : CycTable) (hw : s.regsWf = true) : (State.setTbl s t x).regsWf = true := by simp [State.setTbl, hw]
@[simp] theorem State.copyAdm_wf (s : State) (t : Nat) (hw : s.regsWf = true) : (State.copyAdm s t).regsWf = true := by simp (maxDischargeDepth := 40) [State.copyAdm, hw]
@[simp] theorem State.tblCmdErr_wf (s : State) (t : Nat) (hw : s.regsWf = true) : (State.tblCmdErr s t).regsWf = true := by simp [State.tblCmdErr, hw]
@[simp] theorem State.tblEntryErr_wf (s : State) (t : Nat) (hw : s.regsWf = true) : (State.tblEntryErr s t).regsWf = true := by simp [State.tblEntryErr, hw]
@[simp] theorem State.ctStart_wf (s : State) (t : Nat) (T : DWord) (hw : s.regsWf = true) : (State.ctStart s t T).regsWf = true := by simp (maxDischargeDepth := 40) [State.ctStart, hw]
@[simp] theorem State.withdrawFrom_wf (s : State) (t : Nat) (b : DWord) (hw : s.regsWf = true) : (State.withdrawFrom s t b).regsWf = true := by simp [State.withdrawFrom, hw]

end Sys2Proof.Machine
end

