-- ==== Sys2Proof/Laws/Canon6.lean ====
section
/-!
SUPPORT. Sys2Proof/Laws/Canon6.lean: the operations of Machine/Tables, Sched, SelfTest, Startup, Trunk, RegAccess, Cmd, CmdRows keep the canonical form of the register table (State.regsWf), one lemma per
operation.
-/
set_option linter.all false
namespace Sys2Proof.Machine
@[simp] theorem State.ctStop_wf (s : State) (t : Nat) (T : DWord) (hw : s.regsWf = true) : (State.ctStop s t T).regsWf = true := by
  unfold State.ctStop
  (repeat' split) <;> (try simp +contextual (maxDischargeDepth := 40) [hw]) <;> (repeat' split) <;> (try simp +contextual (maxDischargeDepth := 40) [hw])
@[simp] theorem State.ctSwap_wf (s : State) (t : Nat) (T : DWord) (hw : s.regsWf = true) : (State.ctSwap s t T).regsWf = true := by simp (maxDischargeDepth := 40) [State.ctSwap, hw]
@[simp] theorem State.writeCtCtl_wf (s : State) (t : Nat) (w : Word) (hw : s.regsWf = true) : (State.writeCtCtl s t w).regsWf = true := by
  unfold State.writeCtCtl
  (repeat' split) <;> (try simp +contextual (maxDischargeDepth := 40) [hw]) <;> (repeat' split) <;> (try simp +contextual (maxDischargeDepth := 40) [hw])
@[simp] theorem State.writeAdm_wf (s : State) (t a : Nat) (w : Word) (hw : s.regsWf = true) : (State.writeAdm s t a w).regsWf = true := by simp (maxDischargeDepth := 40) [State.writeAdm, hw]
theorem State.ctOrder_wf (s : State) (op : Nat) (v : CtVia) (f : State → Nat → DWord → State)
    (h : ∀ s t d, s.regsWf = true → (f s t d).regsWf = true) (hw : s.regsWf = true) : (s.ctOrder op v f).regsWf = true := by
  unfold State.ctOrder
  (repeat' split) <;> simp (maxDischargeDepth := 40) [h, hw] <;> (repeat' split) <;> simp (maxDischargeDepth := 40) [h, hw]
@[simp] theorem State.portServed_wf (s : State) (p : Nat) (hw : s.regsWf = true) : (State.portServed s p).regsWf = true := by
  unfold State.portServed
  (repeat' split) <;> (try simp +contextual (maxDischargeDepth := 40) [hw]) <;> (repeat' split) <;> (try simp +contextual (maxDischargeDepth := 40) [hw])
@[simp] theorem applyHeld_wf (z0 : List (Nat × Word)) (z1 : State) (hw : z1.regsWf = true) : (applyHeld z0 z1).regsWf = true := by
  induction z0 generalizing z1 with
  | nil => simpa [applyHeld] using hw
  | cons p l ih => unfold applyHeld; apply ih; simp (maxDischargeDepth := 40) [hw]
@[simp] theorem State.writeEntry_wf (s : State) (t e : Nat) (v : Nat) (hw : s.regsWf = true) : (State.writeEntry s t e v).regsWf = true := by simp +contextual (maxDischargeDepth := 40) [State.writeEntry, hw]
@[simp] theorem State.postsDone_wf (s : State) (c : CmdRef) (hw : s.regsWf = true) : (State.postsDone s c).regsWf = true := by
  unfold State.postsDone
  (repeat' split) <;> (try simp +contextual (maxDischargeDepth := 40) [hw]) <;> (repeat' split) <;> (try simp +contextual (maxDischargeDepth := 40) [hw])
@[simp] theorem State.postsDoneOf_wf (s : State) (o : PostOwner) (hw : s.regsWf = true) : (State.postsDoneOf s o).regsWf = true := by
  unfold State.postsDoneOf
  (repeat' split) <;> (try simp +contextual (maxDischargeDepth := 40) [hw]) <;> (repeat' split) <;> (try simp +contextual (maxDischargeDepth := 40) [hw])
@[simp] theorem State.pushPosts_wf (s : State) (x : Command) (k n : Nat) (hw : s.regsWf = true) : (State.pushPosts s x k n).regsWf = true := by
  unfold State.pushPosts
  (repeat' split) <;> (try simp +contextual (maxDischargeDepth := 40) [hw]) <;> (repeat' split) <;> (try simp +contextual (maxDischargeDepth := 40) [hw])
@[simp] theorem State.offerPosts_wf (s : State) (x : Command) (hw : s.regsWf = true) : (State.offerPosts s x).regsWf = true := by
  unfold State.offerPosts
  (repeat' split) <;> (try simp +contextual (maxDischargeDepth := 40) [hw]) <;> (repeat' split) <;> (try simp +contextual (maxDischargeDepth := 40) [hw])
@[simp] theorem State.offerOn_wf (s : State) (hw : s.regsWf = true) : (State.offerOn s).regsWf = true := by
  unfold State.offerOn
  (repeat' split) <;> (try simp +contextual (maxDischargeDepth := 40) [hw]) <;> (repeat' split) <;> (try simp +contextual (maxDischargeDepth := 40) [hw])
@[simp] theorem State.hostCancel_wf (s : State) (w : Word) (hw : s.regsWf = true) : (State.hostCancel s w).1.regsWf = true := by simp [State.hostCancel, hw]
@[simp] theorem State.writeActCancel_wf (s : State) (w : Word) (hw : s.regsWf = true) : (State.writeActCancel s w).regsWf = true := by simp (maxDischargeDepth := 40) [State.writeActCancel, hw]
@[simp] theorem State.launchStep_wf (s : State) (op p : Nat) (hw : s.regsWf = true) : (State.launchStep s op p).regsWf = true := by
  unfold State.launchStep
  (repeat' split) <;> (try simp +contextual (maxDischargeDepth := 40) [hw]) <;> (repeat' split) <;> (try simp +contextual (maxDischargeDepth := 40) [hw])
@[simp] theorem State.armStep_wf (s : State) (op p : Nat) (arm : Delivered → Option Arming) (hw : s.regsWf = true) : (State.armStep s op p arm).regsWf = true := by
  unfold State.armStep
  (repeat' split) <;> (try simp +contextual (maxDischargeDepth := 40) [hw]) <;> (repeat' split) <;> (try simp +contextual (maxDischargeDepth := 40) [hw])
@[simp] theorem State.counterStep_wf (s : State) (op n : Nat) (f : Word → Word → Word) (hw : s.regsWf = true) : (State.counterStep s op n f).regsWf = true := by
  unfold State.counterStep
  (repeat' split) <;> (try simp +contextual (maxDischargeDepth := 40) [hw]) <;> (repeat' split) <;> (try simp +contextual (maxDischargeDepth := 40) [hw])
@[simp] theorem State.passEnd_wf (s : State) (t : Nat) (hw : s.regsWf = true) : (State.passEnd s t).regsWf = true := by simp (maxDischargeDepth := 40) [State.passEnd, hw]
@[simp] theorem State.unitOver_wf (s : State) (t u : Nat) (hw : s.regsWf = true) : (State.unitOver s t u).regsWf = true := by
  unfold State.unitOver
  (repeat' split) <;> (try simp +contextual (maxDischargeDepth := 40) [hw]) <;> (repeat' split) <;> (try simp +contextual (maxDischargeDepth := 40) [hw])
@[simp] theorem State.unitDone_wf (s : State) (t u : Nat) (hw : s.regsWf = true) : (State.unitDone s t u).regsWf = true := by simp (maxDischargeDepth := 40) [State.unitDone, hw]
@[simp] theorem State.sliceOn_wf (s : State) (t u : Nat) (hw : s.regsWf = true) : (State.sliceOn s t u).regsWf = true := by
  unfold State.sliceOn
  (repeat' split) <;> (try simp +contextual (maxDischargeDepth := 40) [hw]) <;> (repeat' split) <;> (try simp +contextual (maxDischargeDepth := 40) [hw])
@[simp] theorem State.sliceReturn_wf (s : State) (t : Nat) (sl : Slice) (hw : s.regsWf = true) : (State.sliceReturn s t sl).regsWf = true := by
  unfold State.sliceReturn
  split
  · split <;> simp (maxDischargeDepth := 40) [hw]
  all_goals simp (maxDischargeDepth := 40) [hw]
@[simp] theorem State.sliceLasting_wf (s : State) (t : Nat) (sl : Slice) (addr : Word) (bit : Nat) (hw : s.regsWf = true) : (State.sliceLasting s t sl addr bit).regsWf = true := by
  unfold State.sliceLasting
  (repeat' split) <;> (try simp +contextual (maxDischargeDepth := 40) [hw]) <;> (repeat' split) <;> (try simp +contextual (maxDischargeDepth := 40) [hw])
@[simp] theorem State.writeReinstate_wf (s : State) (w : Word) (hw : s.regsWf = true) : (State.writeReinstate s w).regsWf = true := by simp (maxDischargeDepth := 40) [State.writeReinstate, hw]
@[simp] theorem State.arbModes_wf (s : State) (m : Nat) (hw : s.regsWf = true) : (State.arbModes s m).regsWf = true := by simp (maxDischargeDepth := 40) [State.arbModes, hw]
@[simp] theorem State.applyEngine_wf (s : State) (n : Nat) (hw : s.regsWf = true) : (State.applyEngine s n).1.regsWf = true := by
  unfold State.applyEngine
  (repeat' split) <;> (try simp +contextual (maxDischargeDepth := 40) [hw]) <;> (repeat' split) <;> (try simp +contextual (maxDischargeDepth := 40) [hw])
@[simp] theorem State.applyBlock_wf (s : State) (kind unit : Nat) (hw : s.regsWf = true) : (State.applyBlock s kind unit).1.regsWf = true := by simp (maxDischargeDepth := 40) [State.applyBlock, hw]
@[simp] theorem State.applyLog_wf (s : State) (hw : s.regsWf = true) : (State.applyLog s).regsWf = true := by
  unfold State.applyLog
  extract_lets step r
  refine ite_wf hw ?_
  have h : r.1.regsWf = true := by
    unfold r
    refine foldl_wf1 _ _ _ hw ?_
    intro p x hp
    unfold step
    (repeat' split) <;> simp (maxDischargeDepth := 40) [hp]
  simp
  exact h
@[simp] theorem State.enterFrost_wf (s : State) (hw : s.regsWf = true) : (State.enterFrost s).regsWf = true := by simp +contextual (maxDischargeDepth := 40) [State.enterFrost, hw]
@[simp] theorem State.takeWhole_wf (s : State) (k : Nat) (plane : List (Nat × List Byte)) (hw : s.regsWf = true) : (State.takeWhole s k plane).regsWf = true := by simp +contextual (maxDischargeDepth := 40) [State.takeWhole, hw]
@[simp] theorem State.imageUp_wf (s : State) (k : Nat) (plane : List (Nat × List Byte)) (hw : s.regsWf = true) : (State.imageUp s k plane).regsWf = true := by simp (maxDischargeDepth := 40) [State.imageUp, hw]
@[simp] theorem State.enterService_wf (s : State) (hw : s.regsWf = true) : (State.enterService s).regsWf = true := by simp (maxDischargeDepth := 40) [State.enterService, hw]
@[simp] theorem State.thawSector_wf (s : State) (i : Nat) (hw : s.regsWf = true) : (State.thawSector s i).regsWf = true := by simp (maxDischargeDepth := 40) [State.thawSector, hw]
@[simp] theorem State.dropFront_wf (s : State) (hw : s.regsWf = true) : (State.dropFront s).regsWf = true := by
  unfold State.dropFront
  (repeat' split) <;> (try simp +contextual (maxDischargeDepth := 40) [hw]) <;> (repeat' split) <;> (try simp +contextual (maxDischargeDepth := 40) [hw])
@[simp] theorem State.stopCycle_wf (s : State) (n : Nat) (hw : s.regsWf = true) : (State.stopCycle s n).regsWf = true := by
  unfold State.stopCycle
  (repeat' split) <;> (try simp +contextual (maxDischargeDepth := 40) [hw]) <;> (repeat' split) <;> (try simp +contextual (maxDischargeDepth := 40) [hw])
@[simp] theorem State.stopTable_wf (s : State) (t : Nat) (hw : s.regsWf = true) : (State.stopTable s t).regsWf = true := by
  unfold State.stopTable
  (repeat' split) <;> (try simp +contextual (maxDischargeDepth := 40) [hw]) <;> (repeat' split) <;> (try simp +contextual (maxDischargeDepth := 40) [hw])
@[simp] theorem State.stopFormat_wf (s : State) (hw : s.regsWf = true) : (State.stopFormat s).regsWf = true := by
  unfold State.stopFormat
  (repeat' split) <;> (try simp +contextual (maxDischargeDepth := 40) [hw]) <;> (repeat' split) <;> (try simp +contextual (maxDischargeDepth := 40) [hw])
@[simp] theorem writeEntries_wf (t : Nat) (z0 : Nat) (z1 : Nat) (z2 : List Byte) (z3 : State) (hw : z3.regsWf = true) : (writeEntries t z0 z1 z2 z3).regsWf = true := by
  induction z0 generalizing z1 z2 z3 with
  | zero => simpa [writeEntries] using hw
  | succ n ih => unfold writeEntries; apply ih; simp (maxDischargeDepth := 40) [hw]
@[simp] theorem State.portSend_wf (s : State) (p : Nat) (f : List Byte) (hw : s.regsWf = true) : (State.portSend s p f).regsWf = true := by simp [State.portSend, hw]
@[simp] theorem State.setCapable_wf (s : State) (p : Nat) (on : Bool) (hw : s.regsWf = true) : (State.setCapable s p on).regsWf = true := by simp (maxDischargeDepth := 40) [State.setCapable, hw]
@[simp] theorem State.ptpMessage_wf (s : State) (p : Nat) (m : List Byte) (hw : s.regsWf = true) : (State.ptpMessage s p m).regsWf = true := by
  unfold State.ptpMessage
  (repeat' split) <;> (try simp +contextual (maxDischargeDepth := 40) [hw]) <;> (repeat' split) <;> (try simp +contextual (maxDischargeDepth := 40) [hw])
@[simp] theorem State.writePortCtl_wf (s : State) (p : Nat) (w : Word) (hw : s.regsWf = true) : (State.writePortCtl s p w).regsWf = true := by simp (maxDischargeDepth := 40) [State.writePortCtl, hw]
@[simp] theorem State.dropRx_wf (s : State) (p : Nat) (hw : s.regsWf = true) : (State.dropRx s p).regsWf = true := by simp [State.dropRx, hw]
@[simp] theorem State.requestChange_wf (s : State) (p : Nat) (hw : s.regsWf = true) : (State.requestChange s p).regsWf = true := by simp (maxDischargeDepth := 40) [State.requestChange, hw]
@[simp] theorem State.writeGclCtl_wf (s : State) (p : Nat) (w : Word) (hw : s.regsWf = true) : (State.writeGclCtl s p w).regsWf = true := by simp (maxDischargeDepth := 40) [State.writeGclCtl, hw]
@[simp] theorem State.writeGclAdm_wf (s : State) (p a : Nat) (w : Word) (hw : s.regsWf = true) : (State.writeGclAdm s p a w).regsWf = true := by simp (maxDischargeDepth := 40) [State.writeGclAdm, hw]
@[simp] theorem State.setRxs_wf (s : State) (i : Nat) (x : RxStream) (hw : s.regsWf = true) : (State.setRxs s i x).regsWf = true := by simp [State.setRxs, hw]
@[simp] theorem State.recover_wf (s : State) (i p n : Nat) (hw : s.regsWf = true) : (State.recover s i p n).1.regsWf = true := by simp (maxDischargeDepth := 40) [State.recover, hw]
@[simp] theorem State.eliminate_wf (s : State) (p : Nat) (f : List Byte) (hw : s.regsWf = true) : (State.eliminate s p f).1.regsWf = true := by
  unfold State.eliminate
  (repeat' split) <;> (try simp +contextual (maxDischargeDepth := 40) [hw]) <;> (repeat' split) <;> (try simp +contextual (maxDischargeDepth := 40) [hw])
@[simp] theorem State.consume_wf (s : State) (p : Nat) (f : List Byte) (hw : s.regsWf = true) : (State.consume s p f).regsWf = true := by simp [State.consume, hw]
@[simp] theorem State.writeEngWindow_wf (s : State) (n off : Nat) (w : Word) (hw : s.regsWf = true) : (State.writeEngWindow s n off w).regsWf = true := by
  unfold State.writeEngWindow
  (repeat' split) <;> (try simp +contextual (maxDischargeDepth := 40) [hw]) <;> (repeat' split) <;> (try simp +contextual (maxDischargeDepth := 40) [hw])
@[simp] theorem State.writeRoute_wf (s : State) (a : Nat) (w : Word) (hw : s.regsWf = true) : (State.writeRoute s a w).regsWf = true := by simp [State.writeRoute, hw]
@[simp] theorem State.writeHook_wf (s : State) (r : RegRow) (a : Nat) (w : Word) (hw : s.regsWf = true) : (State.writeHook s r a w).regsWf = true := by
  unfold State.writeHook
  (repeat' split) <;> (try simp +contextual (maxDischargeDepth := 40) [hw]) <;> (repeat' split) <;> (try simp +contextual (maxDischargeDepth := 40) [hw])
@[simp] theorem State.writePair_wf (s : State) (r : RegRow) (a : Nat) (lo hi : Word) (hw : s.regsWf = true) : (State.writePair s r a lo hi).regsWf = true := by
  unfold State.writePair
  (repeat' split) <;> (try simp +contextual (maxDischargeDepth := 40) [hw]) <;> (repeat' split) <;> (try simp +contextual (maxDischargeDepth := 40) [hw])
@[simp] theorem State.writeRow_wf (s : State) (r : RegRow) (a : Nat) (w : Word) (hw : s.regsWf = true) : (State.writeRow s r a w).regsWf = true := by
  unfold State.writeRow
  (repeat' split) <;> (try simp +contextual (maxDischargeDepth := 40) [hw]) <;> (repeat' split) <;> (try simp +contextual (maxDischargeDepth := 40) [hw])
@[simp] theorem State.writeReg_wf (s : State) (a : Nat) (w : Word) (hw : s.regsWf = true) : (State.writeReg s a w).regsWf = true := by
  unfold State.writeReg
  (repeat' split) <;> (try simp +contextual (maxDischargeDepth := 40) [hw]) <;> (repeat' split) <;> (try simp +contextual (maxDischargeDepth := 40) [hw])
@[simp] theorem State.readRow_wf (s : State) (r : RegRow) (a : Nat) (hw : s.regsWf = true) : (State.readRow s r a).1.regsWf = true := by
  unfold State.readRow
  (repeat' split) <;> (try simp +contextual (maxDischargeDepth := 40) [hw]) <;> (repeat' split) <;> (try simp +contextual (maxDischargeDepth := 40) [hw])
@[simp] theorem State.readReg_wf (s : State) (a : Nat) (ecc : Ecc) (hw : s.regsWf = true) : (State.readReg s a ecc).1.regsWf = true := by
  unfold State.readReg
  (repeat' split) <;> (try simp +contextual (maxDischargeDepth := 40) [hw]) <;> (repeat' split) <;> (try simp +contextual (maxDischargeDepth := 40) [hw])
@[simp] theorem State.renewLease_wf (s : State) (k : Nat) (hw : s.regsWf = true) : (State.renewLease s k).regsWf = true := by simp [State.renewLease, hw]
@[simp] theorem State.endLease_wf (s : State) (bits : Nat) (hw : s.regsWf = true) : (State.endLease s bits).regsWf = true := by simp [State.endLease, hw]
@[simp] theorem State.authDenied_wf (s : State) (x : Command) (hw : s.regsWf = true) : (State.authDenied s x).regsWf = true := by simp [State.authDenied, hw]
@[simp] theorem State.closeSession_wf (s : State) (k : Nat) (timeout : Bool) (hw : s.regsWf = true) : (State.closeSession s k timeout).regsWf = true := by simp (maxDischargeDepth := 40) [State.closeSession, hw]
@[simp] theorem State.tagFail_wf (s : State) (hw : s.regsWf = true) : (State.tagFail s).regsWf = true := by simp [State.tagFail, hw]
@[simp] theorem State.takeSessionless_wf (s : State) (p : RxPacket) (k : Packet) (hw : s.regsWf = true) : (State.takeSessionless s p k).regsWf = true := by simp (maxDischargeDepth := 40) [State.takeSessionless, hw]
@[simp] theorem State.noteStop_wf (s : State) (t : DWord) (hw : s.regsWf = true) : (State.noteStop s t).regsWf = true := by simp [State.noteStop, hw]
@[simp] theorem State.acceptNew_wf (s : State) (k : Fin 4) (x : Command) (version : Nat) (hw : s.regsWf = true) : (State.acceptNew s k x version).regsWf = true := by simp (maxDischargeDepth := 40) [State.acceptNew, hw]
@[simp] theorem State.takeOf_wf (s : State) (n : Fin 4) (p : RxPacket) (hw : s.regsWf = true) : (State.takeOf s n p).regsWf = true := by
  unfold State.takeOf
  (repeat' split) <;> (try simp +contextual (maxDischargeDepth := 40) [hw]) <;> (repeat' split) <;> (try simp +contextual (maxDischargeDepth := 40) [hw])
@[simp] theorem State.takePacket_wf (s : State) (p : RxPacket) (hw : s.regsWf = true) : (State.takePacket s p).regsWf = true := by
  unfold State.takePacket
  (repeat' split) <;> (try simp +contextual (maxDischargeDepth := 40) [hw]) <;> (repeat' split) <;> (try simp +contextual (maxDischargeDepth := 40) [hw])
@[simp] theorem State.replyOpen_wf (s : State) (x : Command) (key payload : List Byte) (hw : s.regsWf = true) : (State.replyOpen s x key payload).regsWf = true := by
  unfold State.replyOpen
  (repeat' split) <;> (try simp +contextual (maxDischargeDepth := 40) [hw]) <;> (repeat' split) <;> (try simp +contextual (maxDischargeDepth := 40) [hw])
@[simp] theorem State.readWords_wf (s0 : State) (z0 z1 : Nat) (z2 : List Ecc) (z3 : State) (z4 : List Byte) (hw : s0.regsWf = true)
    (h : z3.regsWf = true) : (State.readWords s0 z0 z1 z2 z3 z4).1.regsWf = true := by
  induction z0 generalizing z1 z2 z3 z4 with
  | zero => simp [State.readWords, h]
  | succ n ih =>
    unfold State.readWords
    dsimp only
    split
    · exact ih _ _ _ _ (by simp [h])
    · simp [h, hw]
@[simp] theorem State.writeWords_wf (c : CmdRef) (z0 : List Byte) (z1 : Nat) (z2 : Nat) (z3 : State) (hw : z3.regsWf = true) : (State.writeWords c z0 z1 z2 z3).regsWf = true := by
  induction z1 generalizing z0 z2 z3 with
  | zero => simpa [State.writeWords] using hw
  | succ n ih =>
    unfold State.writeWords
    split
    · apply ih; simp [hw]
    · exact hw
@[simp] theorem State.holdFront_wf (s : State) (hw : s.regsWf = true) : (State.holdFront s).1.regsWf = true := by simp [State.holdFront, hw]
@[simp] theorem State.holdTables_wf (s : State) (mask : Nat) (hw : s.regsWf = true) : (State.holdTables s mask).regsWf = true := by simp +contextual (maxDischargeDepth := 40) [State.holdTables, hw]
@[simp] theorem State.applyFlags_wf (s : State) (h : HoldSpec) (hw : s.regsWf = true) : (State.applyFlags s h).1.regsWf = true := by simp +contextual (maxDischargeDepth := 40) [State.applyFlags, hw]
@[simp] theorem State.applyHold_wf (s : State) (h : HoldSpec) (hw : s.regsWf = true) : (State.applyHold s h).1.regsWf = true := by simp [State.applyHold, hw]
@[simp] theorem State.stopEngine_wf (s : State) (n : Nat) (hw : s.regsWf = true) : (State.stopEngine s n).regsWf = true := by
  unfold State.stopEngine
  (repeat' split) <;> (try simp +contextual (maxDischargeDepth := 40) [hw]) <;> (repeat' split) <;> (try simp +contextual (maxDischargeDepth := 40) [hw])
@[simp] theorem State.provision_wf (s : State) (kind i : Nat) (v : List Byte) (hw : s.regsWf = true) : (State.provision s kind i v).1.regsWf = true := by
  unfold State.provision
  dsimp only
  (repeat' split) <;> exact hw

end Sys2Proof.Machine
end

