-- ==== Sys2Proof/Laws/Engine.lean ====
section
/-!
SUPPORT. Sys2Proof/Laws/Engine.lean: an engine that is about to execute an instruction executes it, and one that is stalled
takes its instruction up again: the two lemmas through which every engine row is read.
-/
namespace Sys2Proof.Machine

/-- What an engine row does where its instruction issues. -/
theorem Issues.engRunW {s : State} {n e : Nat} {w : Word} {row : EngRow} (h : Issues s n e w row) (resume : Stall → Bool) (f : EngX → State) :
    s.engRunW row n resume f = f (s.issue n e w) := by
  obtain ⟨h1, h2, h3, h4, h5, h6, h7⟩ := h
  unfold State.engRunW
  simp only [h1, h2, h3, h4, h5, h6, h7]
  simp [State.issue]

/-- The same for a row that never stalls. -/
theorem Issues.engRun {s : State} {n e : Nat} {w : Word} {row : EngRow} (h : Issues s n e w row) (f : EngX → State) :
    s.engRun row n f = f (s.issue n e w) :=
    Issues.engRunW h _ f

/-- What a row does where its instruction is stalled. -/
theorem Stalls.waiting {s : State} {n e : Nat} {st : Stall} (h : Stalls s n e st) (f : EngX → Stall → State) :
    s.waiting n f = f (s.resume n e) st := by
  obtain ⟨h1, h2, h3, h4⟩ := h
  unfold State.waiting
  simp only [h1, h2, h3, h4]
  simp [State.resume]

/-- A target is a word of the program store. -/
theorem fTARGET_lt (w : Word) : fTARGET w < 8192 := by unfold fTARGET fld; exact Nat.mod_lt _ (by decide)

end Sys2Proof.Machine
end

