-- ==== Sys2Proof/Laws/Firm1.lean ====
section
/-!
SUPPORT. Sys2Proof/Laws/Firm1.lean: what the operations of Machine/Ops, Faults, Fabric, Power, LinkBase, Mailbox, SchedBase, FrontBase, NetBase leave as it was: the queue of waiting commands, the vault and the eFuses
(State.firm), one lemma per operation.
-/
set_option linter.all false
namespace Sys2Proof.Machine
@[simp] theorem firm_fold (s : State) : (⟨s.pending, s.cfg.aes, s.cfg.pub, s.cfg.hk, s.cfg.requireEnc, s.cfg.minSvn⟩ : Firm) = s.firm := rfl
@[simp] theorem firm_ite (p : Prop) [Decidable p] (a b : State) : (if p then a else b).firm = if p then a.firm else b.firm := by split <;> rfl
@[simp] theorem firm_ite1 {β : Type} (p : Prop) [Decidable p] (a b : State × β) : (if p then a else b).1.firm = if p then a.1.firm else b.1.firm := by split <;> rfl
@[simp] theorem foldl_firm {α : Type} (f : State → α → State) (h : ∀ s a, (f s a).firm = s.firm) (l : List α) (s : State) :
    (l.foldl f s).firm = s.firm := by
  induction l generalizing s with
  | nil => rfl
  | cons a l ih => simp [List.foldl, ih, h]
@[simp] theorem foldl_firm1 {α β : Type} (f : State × β → α → State × β) (h : ∀ s a, (f s a).1.firm = s.1.firm) (l : List α) (s : State × β) :
    (l.foldl f s).1.firm = s.1.firm := by
  induction l generalizing s with
  | nil => rfl
  | cons a l ih => simp [List.foldl, ih, h]
@[simp] theorem firm_mk regs pairHeld pairShadow time timeRuns readData freeCtr clk act eng cmd arb fab cfg net dom evt tst key front boot nv ana pending : State.firm (State.mk regs pairHeld pairShadow time timeRuns readData freeCtr clk act eng cmd arb fab cfg net dom evt tst key front boot nv ana pending) = ⟨pending, cfg.aes, cfg.pub, cfg.hk, cfg.requireEnc, cfg.minSvn⟩ := (rfl)
@[simp] theorem State.setR_firm (s : State) (a : Nat) (w : Word) : (State.setR s a w).firm = s.firm := by simp [State.setR]
@[simp] theorem State.setF_firm (s : State) (a hi lo v : Nat) : (State.setF s a hi lo v).firm = s.firm := by simp [State.setF]
@[simp] theorem State.setB_firm (s : State) (a i : Nat) (b : Bool) : (State.setB s a i b).firm = s.firm := by simp [State.setB]
@[simp] theorem State.setD_firm (s : State) (a : Nat) (d : DWord) : (State.setD s a d).firm = s.firm := by simp [State.setD]
@[simp] theorem State.addF_firm (s : State) (a hi lo n : Nat) : (State.addF s a hi lo n).firm = s.firm := by simp [State.addF]
@[simp] theorem State.incR_firm (s : State) (a : Nat) : (State.incR s a).firm = s.firm := by simp [State.incR]
@[simp] theorem State.resetRegs_firm (s : State) (lo len : Nat) : (State.resetRegs s lo len).firm = s.firm := by simp [State.resetRegs]
@[simp] theorem State.store_firm (s : State) (a : Nat) (w : Word) : (State.store s a w).firm = s.firm := by
  unfold State.store
  (repeat' split) <;> (try simp) <;> (repeat' split) <;> (try simp)
@[simp] theorem State.fresh_firm (s : State) : (State.fresh s).1.firm = s.firm := by simp [State.fresh]
@[simp] theorem State.raise_firm (s : State) (ev : Nat) (bits : Nat) : (State.raise s ev bits).firm = s.firm := by
  unfold State.raise
  (repeat' split) <;> (try simp) <;> (repeat' split) <;> (try simp)
@[simp] theorem State.setDomX_firm (s : State) (d : Nat) (x : Domain) : (State.setDomX s d x).firm = s.firm := by simp [State.setDomX]
@[simp] theorem State.touch_firm (s : State) (d : Nat) : (State.touch s d).firm = s.firm := by simp [State.touch]
@[simp] theorem State.setLeng_firm (s : State) (e : Nat) (c : LEng) : (State.setLeng s e c).firm = s.firm := by simp [State.setLeng]
@[simp] theorem State.countFault_firm (s : State) (typ unit : Nat) (cfg : Nat × Nat) : (State.countFault s typ unit cfg).1.firm = s.firm := by simp [State.countFault]
@[simp] theorem State.repairLog_firm (s : State) (typ unit : Nat) (addr : Word) (cause bit : Nat) (noSpare : Bool) : (State.repairLog s typ unit addr cause bit noSpare).firm = s.firm := by
  unfold State.repairLog
  (repeat' split) <;> (try simp) <;> (repeat' split) <;> (try simp)
@[simp] theorem State.lastingFault_firm (s : State) (typ unit : Nat) (addr : Word) (cause bit : Nat) (noSpare : Bool) : (State.lastingFault s typ unit addr cause bit noSpare).firm = s.firm := by simp [State.lastingFault]
@[simp] theorem State.resolveLog_firm (s : State) (typ unit : Nat) : (State.resolveLog s typ unit).firm = s.firm := by simp [State.resolveLog]
@[simp] theorem State.setDtype_firm (s : State) (t : Nat) (d : DrizzleType) : (State.setDtype s t d).firm = s.firm := by simp [State.setDtype]
@[simp] theorem State.noteAborted_firm (s : State) (t : Nat) : (State.noteAborted s t).firm = s.firm := by simp [State.noteAborted]
@[simp] theorem State.abortIdle_firm (s : State) (t unit : Nat) : (State.abortIdle s t unit).firm = s.firm := by
  unfold State.abortIdle
  (repeat' split) <;> (try simp) <;> (repeat' split) <;> (try simp)
@[simp] theorem State.useCrypto_firm (s : State) : (State.useCrypto s).firm = s.firm := by
  unfold State.useCrypto
  (repeat' split) <;> (try simp) <;> (repeat' split) <;> (try simp)
@[simp] theorem State.setSector_firm (s : State) (i : Nat) (x : Sector) : (State.setSector s i x).firm = s.firm := by simp [State.setSector]
@[simp] theorem State.setHold_firm (s : State) (d hold : Nat) (on : Bool) : (State.setHold s d hold on).firm = s.firm := by simp [State.setHold]
@[simp] theorem State.recordWake_firm (s : State) (d src : Nat) (t : DWord) (cold replay reset : Bool) : (State.recordWake s d src t cold replay reset).firm = s.firm := by simp [State.recordWake]
@[simp] theorem State.beginTrans_firm (s : State) (d st lat : Nat) : (State.beginTrans s d st lat).firm = s.firm := by simp [State.beginTrans]
@[simp] theorem State.startWake_firm (s : State) (d src : Nat) (t : DWord) (replay copy : Bool) : (State.startWake s d src t replay copy).firm = s.firm := by simp [State.startWake]
@[simp] theorem State.supersede_firm (s : State) (d : Nat) : (State.supersede s d).firm = s.firm := by simp [State.supersede]
@[simp] theorem State.keepReq_firm (s : State) (d : Nat) (r : Option Nat) : (State.keepReq s d r).firm = s.firm := by
  unfold State.keepReq
  (repeat' split) <;> (try simp) <;> (repeat' split) <;> (try simp)
@[simp] theorem State.wakeAt_firm (s : State) (d src : Nat) (t : DWord) (copy : Bool) : (State.wakeAt s d src t copy).firm = s.firm := by
  unfold State.wakeAt
  (repeat' split) <;> (try simp) <;> (repeat' split) <;> (try simp)
@[simp] theorem State.wake_firm (s : State) (d src : Nat) (copy : Bool) : (State.wake s d src copy).firm = s.firm := by simp [State.wake]
@[simp] theorem State.holdAndWake_firm (s : State) (d hold src : Nat) (copy : Bool) : (State.holdAndWake s d hold src copy).firm = s.firm := by
  unfold State.holdAndWake
  (repeat' split) <;> (try simp) <;> (repeat' split) <;> (try simp)
@[simp] theorem State.stopSector_firm (s : State) (d : Nat) : (State.stopSector s d).firm = s.firm := by
  unfold State.stopSector
  (repeat' split) <;> (try simp) <;> (repeat' split) <;> (try simp)
@[simp] theorem State.startEntry_firm (s : State) (d st : Nat) : (State.startEntry s d st).firm = s.firm := by simp [State.startEntry]
@[simp] theorem State.refreshPrewake_firm (s : State) (d : Nat) : (State.refreshPrewake s d).firm = s.firm := by simp [State.refreshPrewake]
@[simp] theorem State.setLane_firm (s : State) (l : Nat) (x : Lane) : (State.setLane s l x).firm = s.firm := by simp [State.setLane]
@[simp] theorem State.newMsg_firm (s : State) (typ dst spec : Nat) (payload : List DWord) : (State.newMsg s typ dst spec payload).1.firm = s.firm := by simp [State.newMsg]
@[simp] theorem State.sendMsg_firm (s : State) (l : Nat) (m : LinkMsg) : (State.sendMsg s l m).firm = s.firm := by simp [State.sendMsg]
@[simp] theorem State.flood_firm (s : State) (from_ : Option Nat) (m : LinkMsg) : (State.flood s from_ m).firm = s.firm := by simp [State.flood]
@[simp] theorem State.sendHello_firm (s : State) (l : Nat) : (State.sendHello s l).firm = s.firm := by simp [State.sendHello]
@[simp] theorem State.askDelay_firm (s : State) (l : Nat) : (State.askDelay s l).firm = s.firm := by simp [State.askDelay]
@[simp] theorem State.placeLane_firm (c : Option Nat) (s : State) (l : Nat) : (State.placeLane c s l).firm = s.firm := by simp [State.placeLane]
@[simp] theorem State.updateTree_firm (s : State) (heard : Bool) : (State.updateTree s heard).firm = s.firm := by simp [State.updateTree]
@[simp] theorem State.mailCommit_firm (s : State) (n e m : Nat) (v : DWord) : (State.mailCommit s n e m v).1.firm = s.firm := by simp [State.mailCommit]
@[simp] theorem State.mailWrite_firm (s : State) (e m : Nat) (v : DWord) (f : MailFrom) : (State.mailWrite s e m v f).1.firm = s.firm := by
  unfold State.mailWrite
  (repeat' split) <;> (try simp) <;> (repeat' split) <;> (try simp)
@[simp] theorem State.setFifo_firm (s : State) (p : Nat) (l : List PortRec) : (State.setFifo s p l).firm = s.firm := by simp [State.setFifo]
@[simp] theorem State.fifoPush_firm (s : State) (p : Nat) (w : QWord) (o : PostOwner) : (State.fifoPush s p w o).firm = s.firm := by simp [State.fifoPush]
@[simp] theorem State.noteRefused_firm (s : State) (p : Nat) (a : ActRec) (st : Nat) : (State.noteRefused s p a st).firm = s.firm := by
  unfold State.noteRefused
  generalize BitVec.ofNat 32 _ = w
  split <;> simp
@[simp] theorem State.returnStatus_firm (s : State) (o : PostOwner) (st : Nat) : (State.returnStatus s o st).firm = s.firm := by
  unfold State.returnStatus
  (repeat' split) <;> (try simp) <;> (repeat' split) <;> (try simp)
theorem firm_act (t : State) (a : Act) : ({ t with act := a } : State).firm = t.firm := rfl
theorem prewake_firm (s : State) (d : Nat) : ((s.wake d 2).setHold d holdPrewake true).firm = s.firm := by
  rw [State.setHold_firm, State.wake_firm]
@[simp] theorem State.sendPrewake_firm (s : State) (k d : Nat) : (s.sendPrewake k d).firm = s.firm :=
  (firm_act ((s.wake d 2).setHold d holdPrewake true) _).trans (prewake_firm s d)
@[simp] theorem State.accept_firm (s : State) (p : Nat) (a : ActRec) (o : PostOwner) : (State.accept s p a o).firm = s.firm := by
  unfold State.accept
  (repeat' split) <;> (try simp) <;> (repeat' split) <;> (try simp)
@[simp] theorem State.takeRecord_firm (s : State) (p : Nat) (r : PortRec) : (State.takeRecord s p r).1.firm = s.firm := by simp [State.takeRecord]
@[simp] theorem State.withdraw_firm (s : State) (out : CalEntry → Bool) : (State.withdraw s out).firm = s.firm := by simp [State.withdraw]
@[simp] theorem State.cancel_firm (s : State) (tag mask kind port : Nat) (kindAny portAny : Bool) : (State.cancel s tag mask kind port kindAny portAny).1.firm = s.firm := by simp [State.cancel]
@[simp] theorem State.setCell_firm (s : State) (p : Nat) (c : LaunchCell) : (State.setCell s p c).firm = s.firm := by simp [State.setCell]
@[simp] theorem State.noteHeld_firm (s : State) (a : ActRec) : (State.noteHeld s a).firm = s.firm := by
  unfold State.noteHeld
  (repeat' split) <;> (try simp) <;> (repeat' split) <;> (try simp)
@[simp] theorem State.countLate_firm (s : State) (e : CalEntry) (dropped : Bool) : (State.countLate s e dropped).firm = s.firm := by simp [State.countLate]
@[simp] theorem State.postInner_firm (s : State) (a : ActRec) (src : Nat) : (State.postInner s a src).firm = s.firm := by simp [State.postInner]
@[simp] theorem State.sendRemote_firm (s : State) (a : ActRec) : (State.sendRemote s a).firm = s.firm := by
  unfold State.sendRemote
  (repeat' split) <;> (try simp) <;> (repeat' split) <;> (try simp)
@[simp] theorem State.deliver_firm (s : State) (e : CalEntry) (late : Bool) : (State.deliver s e late).firm = s.firm := by
  unfold State.deliver
  (repeat' split) <;> (try simp) <;> (repeat' split) <;> (try simp)
@[simp] theorem dispatch_firm (front : Bool) (z0 : List CalEntry) (z1 : Nat) (z2 : State) : (dispatch front z0 z1 z2).1.firm = z2.firm := by
  induction z0 generalizing z1 z2 with
  | nil => simp [dispatch]
  | cons e l ih => unfold dispatch; (repeat' split) <;> simp [ih]
@[simp] theorem State.dispatchTick_firm (s : State) : (State.dispatchTick s).firm = s.firm := by simp [State.dispatchTick]
@[simp] theorem State.remoteReports_firm (s : State) : (State.remoteReports s).firm = s.firm := by
  unfold State.remoteReports
  (repeat' split) <;> (try simp) <;> (repeat' split) <;> (try simp)
@[simp] theorem State.taken_firm (s : State) (d : Delivered) : (State.taken s d).firm = s.firm := by simp [State.taken]
@[simp] theorem State.setRing_firm (s : State) (r : Nat) (x : CapRing) : (State.setRing s r x).firm = s.firm := by simp [State.setRing]
@[simp] theorem State.ringWrite_firm (s : State) (r : Nat) (time : DWord) (typ pin edge : Nat) (ovf late : Bool) (tag : Nat) : (State.ringWrite s r time typ pin edge ovf late tag).firm = s.firm := by
  unfold State.ringWrite
  (repeat' split) <;> (try simp) <;> (repeat' split) <;> (try simp)
@[simp] theorem State.ringPop_firm (s : State) (r : Nat) : (State.ringPop s r).firm = s.firm := by simp [State.ringPop]
@[simp] theorem State.setCap_firm (s : State) (p : Nat) (c : CaptureCell) : (State.setCap s p c).firm = s.firm := by simp [State.setCap]
@[simp] theorem State.cycleEnded_firm (s : State) (n : Nat) : (State.cycleEnded s n).firm = s.firm := by
  unfold State.cycleEnded
  (repeat' split) <;> (try simp) <;> (repeat' split) <;> (try simp)
@[simp] theorem State.noteHold_firm (s : State) (p : Nat) : (State.noteHold s p).firm = s.firm := by simp [State.noteHold]
@[simp] theorem State.releaseHold_firm (s : State) (hold : Nat) (l : List Nat) : (State.releaseHold s hold l).firm = s.firm := by simp [State.releaseHold]
@[simp] theorem State.frontComplete_firm (s : State) : (State.frontComplete s).firm = s.firm := by simp [State.frontComplete]
@[simp] theorem State.driveDone_firm (s : State) : (State.driveDone s).firm = s.firm := by simp [State.driveDone]
@[simp] theorem State.dropDue_firm (s : State) : (State.dropDue s).firm = s.firm := by
  unfold State.dropDue
  (repeat' split) <;> (try simp) <;> (repeat' split) <;> (try simp)
@[simp] theorem State.frontCancel_firm (s : State) (causes : Nat) : (State.frontCancel s causes).firm = s.firm := by simp [State.frontCancel]
@[simp] theorem State.closeVote_firm (s : State) : (State.closeVote s).firm = s.firm := by
  unfold State.closeVote
  (repeat' split) <;> (try simp) <;> (repeat' split) <;> (try simp)
@[simp] theorem State.setNetPort_firm (s : State) (p : Nat) (x : NetPort) : (State.setNetPort s p x).firm = s.firm := by simp [State.setNetPort]
@[simp] theorem State.enqueue_firm (s : State) (p q : Nat) (f : List Byte) : (State.enqueue s p q f).1.firm = s.firm := by simp [State.enqueue]

end Sys2Proof.Machine
end

