-- ==== Sys2Proof/Laws/Firm2.lean ====
section
/-!
SUPPORT. Sys2Proof/Laws/Firm2.lean: what the operations of Machine/NetBase, ArbBase, CmdBase, Clock, AxisBase, EngineOps, EngineRun leave as it was: the queue of waiting commands, the vault and the eFuses
(State.firm), one lemma per operation.
-/
set_option linter.all false
namespace Sys2Proof.Machine
@[simp] theorem enqueueAll_firm (q : Nat → Nat) (f : List Byte) (z0 : List Nat) (z1 : State) : (enqueueAll q f z0 z1).1.firm = z1.firm := by
  induction z0 generalizing z1 with
  | nil => simp [enqueueAll]
  | cons p l ih => simp [enqueueAll, ih]
@[simp] theorem State.transmit_firm (s : State) (named : List Nat) (both : Bool) (q : Nat → Nat) (f : List Byte) : (State.transmit s named both q f).1.firm = s.firm := by
  unfold State.transmit
  (repeat' split) <;> (try simp) <;> (repeat' split) <;> (try simp)
@[simp] theorem State.setArb_firm (s : State) (r : Nat) (a : Arbiter) : (State.setArb s r a).firm = s.firm := by simp [State.setArb]
@[simp] theorem State.arbStep_firm (s : State) (d : DWord) : (State.arbStep s d).firm = s.firm := by
  unfold State.arbStep
  (repeat' split) <;> (try simp) <;> (repeat' split) <;> (try simp)
@[simp] theorem State.submit_firm (s : State) (op addr len : Nat) (data : List Byte) (lock : Nat) (o : ArbOwner) : (State.submit s op addr len data lock o).1.firm = s.firm := by simp [State.submit]
@[simp] theorem State.setCommand_firm (s : State) (x : Command) : (State.setCommand s x).firm = s.firm := by simp [State.setCommand]
@[simp] theorem State.setSession_firm (s : State) (k : Nat) (x : Session) : (State.setSession s k x).firm = s.firm := by simp [State.setSession]
@[simp] theorem State.sendPacket_firm (s : State) (p : OutPacket) : (State.sendPacket s p).firm = s.firm := by simp [State.sendPacket]
@[simp] theorem State.sendReply_firm (s : State) (x : Command) (status : Nat) (final : Bool) (payload : List Byte) : (State.sendReply s x status final payload).firm = s.firm := by
  unfold State.sendReply
  (repeat' split) <;> (try simp) <;> (repeat' split) <;> (try simp)
@[simp] theorem State.dropCommand_firm (s : State) (c : CmdRef) : (State.dropCommand s c).firm = s.firm := by simp [State.dropCommand]
@[simp] theorem State.replyTo_firm (s : State) (x : Command) (status : Nat) (final : Bool) (payload : List Byte) : (State.replyTo s x status final payload).firm = s.firm := by simp [State.replyTo]
@[simp] theorem State.finish_firm (s : State) (c : CmdRef) (status : Nat) (payload : List Byte) : (State.finish s c status payload).firm = s.firm := by
  unfold State.finish
  (repeat' split) <;> (try simp) <;> (repeat' split) <;> (try simp)
@[simp] theorem State.finishOpt_firm (s : State) (c : Option CmdRef) (status : Nat) (payload : List Byte) : (State.finishOpt s c status payload).firm = s.firm := by
  unfold State.finishOpt
  (repeat' split) <;> (try simp) <;> (repeat' split) <;> (try simp)
@[simp] theorem State.pendingReply_firm (s : State) (x : Command) : (State.pendingReply s x).firm = s.firm := by simp [State.pendingReply]
@[simp] theorem State.awaitReply_firm (s : State) (x : Command) : (State.awaitReply s x).firm = s.firm := by simp [State.awaitReply]
@[simp] theorem State.setPll_firm (s : State) (n : Nat) (x : Adpll) : (State.setPll s n x).firm = s.firm := by simp [State.setPll]
@[simp] theorem State.setOutSrc_firm (s : State) (n m : Nat) (x : OutSrc) : (State.setOutSrc s n m x).firm = s.firm := by simp [State.setOutSrc]
@[simp] theorem State.noteClamp_firm (s : State) (n : Nat) : (State.noteClamp s n).firm = s.firm := by simp [State.noteClamp]
@[simp] theorem State.noteClamps_firm (s : State) : (State.noteClamps s).firm = s.firm := by
  unfold State.noteClamps
  (repeat' split) <;> (try simp) <;> (repeat' split) <;> (try simp)
@[simp] theorem State.anchorDelay_firm (s : State) (n m : Nat) (t : DWord) : (State.anchorDelay s n m t).firm = s.firm := by
  unfold State.anchorDelay
  (repeat' split) <;> (try simp) <;> (repeat' split) <;> (try simp)
@[simp] theorem State.anchorDelays_firm (s : State) (n : Nat) (t : DWord) : (State.anchorDelays s n t).firm = s.firm := by
  unfold State.anchorDelays
  (repeat' split) <;> (try simp) <;> (repeat' split) <;> (try simp)
@[simp] theorem State.anchorSlew_firm (s : State) (t : DWord) (n : Nat) : (State.anchorSlew s t n).firm = s.firm := by
  unfold State.anchorSlew
  (repeat' split) <;> (try simp) <;> (repeat' split) <;> (try simp)
@[simp] theorem State.writeSlew_firm (s : State) (n : Nat) (w : Word) : (State.writeSlew s n w).firm = s.firm := by
  unfold State.writeSlew
  (repeat' split) <;> (try simp) <;> (repeat' split) <;> (try simp)
@[simp] theorem State.writeClamp_firm (s : State) (n a : Nat) (w : Word) : (State.writeClamp s n a w).firm = s.firm := by
  unfold State.writeClamp
  (repeat' split) <;> (try simp) <;> (repeat' split) <;> (try simp)
@[simp] theorem State.noteRing_firm (s old : State) : (State.noteRing s old).firm = s.firm := by simp [State.noteRing]
@[simp] theorem State.leaveDco_firm (s : State) (n : Nat) (f : Nat → OutSrc) : (State.leaveDco s n f).firm = s.firm := by simp [State.leaveDco]
@[simp] theorem State.startLock_firm (s : State) (n : Nat) : (State.startLock s n).firm = s.firm := by simp [State.startLock]
@[simp] theorem State.retune_firm (s : State) (n : Nat) (v keep : DWord) : (State.retune s n v keep).firm = s.firm := by simp [State.retune]
@[simp] theorem State.writeFcw_firm (s : State) (n : Nat) (v : DWord) : (State.writeFcw s n v).firm = s.firm := by simp [State.writeFcw]
@[simp] theorem State.ageLock_firm (s : State) (d : DWord) (n : Nat) : (State.ageLock s d n).firm = s.firm := by
  unfold State.ageLock
  (repeat' split) <;> (try simp) <;> (repeat' split) <;> (try simp)
@[simp] theorem State.anchored_firm (s : State) (t : DWord) : (State.anchored s t).firm = s.firm := by
  unfold State.anchored
  (repeat' split) <;> (try simp) <;> (repeat' split) <;> (try simp)
@[simp] theorem State.startTime_firm (s : State) (t : DWord) : (State.startTime s t).firm = s.firm := by simp [State.startTime]
@[simp] theorem State.pairLoss_firm (s : State) (n : Nat) : (State.pairLoss s n).firm = s.firm := by simp [State.pairLoss]
@[simp] theorem State.pairLock_firm (s : State) (n : Nat) : (State.pairLock s n).firm = s.firm := by simp [State.pairLock]
@[simp] theorem State.countLol_firm (s : State) (n : Nat) : (State.countLol s n).firm = s.firm := by simp [State.countLol]
@[simp] theorem State.loseLock_firm (s : State) (n why : Nat) : (State.loseLock s n why).firm = s.firm := by simp [State.loseLock]
@[simp] theorem State.pllOff_firm (s : State) (n : Nat) : (State.pllOff s n).firm = s.firm := by
  unfold State.pllOff
  (repeat' split) <;> (try simp) <;> (repeat' split) <;> (try simp)
@[simp] theorem State.writePllCtl_firm (s : State) (n : Nat) (w : Word) : (State.writePllCtl s n w).firm = s.firm := by simp [State.writePllCtl]
@[simp] theorem State.writeTbOut_firm (s : State) (n m : Nat) (w : Word) : (State.writeTbOut s n m w).firm = s.firm := by simp [State.writeTbOut]
@[simp] theorem State.writeOut_firm (s : State) (n m : Nat) (w : Word) : (State.writeOut s n m w).firm = s.firm := by simp [State.writeOut]
@[simp] theorem State.writeBkp_firm (s : State) (n m : Nat) (w : Word) : (State.writeBkp s n m w).firm = s.firm := by simp [State.writeBkp]
@[simp] theorem State.writeGclk_firm (s : State) (k : Nat) (w : Word) : (State.writeGclk s k w).firm = s.firm := by simp [State.writeGclk]
@[simp] theorem State.updateSource_firm (s : State) : (State.updateSource s).firm = s.firm := by simp [State.updateSource]
@[simp] theorem State.enterHoldover_firm (s : State) : (State.enterHoldover s).firm = s.firm := by simp [State.enterHoldover]
@[simp] theorem State.servo_firm (s : State) (off : Int) : (State.servo s off).firm = s.firm := by simp [State.servo]
@[simp] theorem State.sendTime_firm (s : State) (spec : Nat) : (State.sendTime s spec).firm = s.firm := by simp [State.sendTime]
@[simp] theorem State.stepTo_firm (s : State) (t : DWord) : (State.stepTo s t).firm = s.firm := by simp [State.stepTo]
@[simp] theorem State.writeTbCtl_firm (s : State) (w : Word) : (State.writeTbCtl s w).firm = s.firm := by simp [State.writeTbCtl]
@[simp] theorem State.askStep_firm (s : State) (d : DWord) (c : Option CmdRef) : (State.askStep s d c).firm = s.firm := by
  unfold State.askStep
  (repeat' split) <;> (try simp) <;> (repeat' split) <;> (try simp)
@[simp] theorem State.writeStepCtl_firm (s : State) (w : Word) : (State.writeStepCtl s w).firm = s.firm := by simp [State.writeStepCtl]
@[simp] theorem State.forceLevel_firm (s : State) (e k v : Nat) : (State.forceLevel s e k v).firm = s.firm := by simp [State.forceLevel]
@[simp] theorem State.faultLevels_firm (s : State) (e : Nat) : (State.faultLevels s e).firm = s.firm := by simp [State.faultLevels]
@[simp] theorem State.setEngState_firm (s : State) (n v : Nat) : (State.setEngState s n v).firm = s.firm := by simp [State.setEngState]
@[simp] theorem State.loseCycle_firm (s : State) (n e : Nat) : (State.loseCycle s n e).firm = s.firm := by simp [State.loseCycle]
@[simp] theorem State.markNoRetry_firm (s : State) (n e : Nat) (full : Bool) : (State.markNoRetry s n e full).firm = s.firm := by simp [State.markNoRetry]
@[simp] theorem State.putLogged_firm (s : State) (n e : Nat) (b : LEng) : (State.putLogged s n e b).firm = s.firm := by simp [State.putLogged]
@[simp] theorem State.swapPlanes_firm (s : State) (n e : Nat) : (State.swapPlanes s n e).firm = s.firm := by
  unfold State.swapPlanes
  simp only [State.frontComplete_firm, State.setB_firm, State.setLeng_firm]
  rfl
@[simp] theorem State.startCycle_firm (s : State) (n e : Nat) (data : Word) (t : DWord) : (State.startCycle s n e data t).firm = s.firm := by simp [State.startCycle]
@[simp] theorem State.enterHalt_firm (s : State) (n e : Nat) : (State.enterHalt s n e).firm = s.firm := by simp [State.enterHalt]
@[simp] theorem State.noteFailHalt_firm (s : State) (e : Nat) : (State.noteFailHalt s e).firm = s.firm := by simp [State.noteFailHalt]
@[simp] theorem State.moveRegs_firm (s : State) (n m : Nat) : (State.moveRegs s n m).firm = s.firm := by simp [State.moveRegs]
@[simp] theorem State.takeTarget_firm (s : State) (m : Nat) : (State.takeTarget s m).firm = s.firm := by simp [State.takeTarget]
@[simp] theorem State.startMigration_firm (s : State) (n m e : Nat) (g : Migration) : (State.startMigration s n m e g).firm = s.firm := by simp [State.startMigration]
@[simp] theorem State.freeTarget_firm (s : State) (m : Nat) : (State.freeTarget s m).firm = s.firm := by
  unfold State.freeTarget
  (repeat' split) <;> (try simp) <;> (repeat' split) <;> (try simp)
@[simp] theorem State.switchEngine_firm (s : State) (n e : Nat) (g : Migration) : (State.switchEngine s n e g).firm = s.firm := by simp [State.switchEngine]
@[simp] theorem State.boundary_firm (s : State) (n e : Nat) (data : Word) (t : DWord) : (State.boundary s n e data t).firm = s.firm := by
  unfold State.boundary
  (repeat' split) <;> (try simp) <;> (repeat' split) <;> (try simp)
@[simp] theorem State.forgetClean_firm (s : State) (typ unit : Nat) : (State.forgetClean s typ unit).firm = s.firm := by simp [State.forgetClean]
@[simp] theorem State.dropEngineSlice_firm (s : State) : (State.dropEngineSlice s).firm = s.firm := by
  unfold State.dropEngineSlice
  (repeat' split) <;> (try simp) <;> (repeat' split) <;> (try simp)
theorem State.abortEngineSlice_firm (s : State) : ∀ t, (State.abortEngineSlice s) = some t → t.1.firm = s.firm := by
  unfold State.abortEngineSlice
  (repeat' split) <;> (try simp) <;> (repeat' split) <;> (try simp)
@[simp] theorem State.needHolder_firm (s : State) (n e : Nat) (halt failed : Bool) : ∀ t, (State.needHolder s n e halt failed) = some t → t.firm = s.firm := by
  intro t h
  unfold State.needHolder at h
  dsimp only at h
  split at h
  · injection h with h
    subst h
    split <;> simp
  · split at h
    · injection h with h
      subst h
      simp
    · injection h with h
      subst h
      simp
    · match ha : (State.forgetClean s 0 n).abortEngineSlice with
      | none => simp [ha] at h
      | some (u, m, b) =>
        have hu := State.abortEngineSlice_firm _ _ ha
        cases b <;> simp only [ha, Option.some.injEq] at h <;> subst h <;> simpa using hu
@[simp] theorem State.retireLasting_firm (s : State) (n e : Nat) : (State.retireLasting s n e).firm = s.firm := by
  unfold State.retireLasting
  split
  · rename_i t h
    exact State.needHolder_firm _ _ _ _ _ _ h
  · simp
@[simp] theorem State.hostRam_firm (s : State) (n a : Nat) (b : List Byte) : (State.hostRam s n a b).firm = s.firm := by
  unfold State.hostRam
  (repeat' split) <;> simp
@[simp] theorem State.settle_firm (s : State) (n e : Nat) (halt : Bool) : (State.settle s n e halt).firm = s.firm := by
  unfold State.settle
  (repeat' split) <;> (try simp) <;> (repeat' split) <;> (try simp)
@[simp] theorem State.abandon_firm (s : State) (n e : Nat) : (State.abandon s n e).firm = s.firm := by simp [State.abandon]
@[simp] theorem State.afterFailure_firm (s : State) (n e : Nat) (g : Migration) : (State.afterFailure s n e g).firm = s.firm := by simp [State.afterFailure]
@[simp] theorem State.cycleFail_firm (s : State) (n e : Nat) : (State.cycleFail s n e).firm = s.firm := by
  unfold State.cycleFail
  dsimp only
  split
  · simp
  · rename_i t h
    have h := State.needHolder_firm _ _ _ _ _ _ h
    simp at h
    (repeat' split) <;> simp_all
@[simp] theorem State.countMismatch_firm (s : State) (n e pc bit : Nat) : (State.countMismatch s n e pc bit).1.firm = s.firm := by
  unfold State.countMismatch
  (repeat' split) <;> (try simp) <;> (repeat' split) <;> (try simp)
@[simp] theorem State.mismatch_firm (s : State) (n e bit : Nat) : (State.mismatch s n e bit).firm = s.firm := by simp [State.mismatch]
@[simp] theorem State.takeExc_firm (s : State) (n e code at_ : Nat) : (State.takeExc s n e code at_).firm = s.firm := by simp [State.takeExc]
theorem ite_firm {p : Prop} [Decidable p] {a b : State} {k : Firm} (ha : a.firm = k) (hb : b.firm = k) :
    (if p then a else b).firm = k := by split <;> assumption
theorem State.engRunW_firm (s : State) (row : EngRow) (n : Nat) (resume : Stall → Bool) (f : EngX → State)
    (h : ∀ x, x.s = s → (f x).firm = s.firm) : (s.engRunW row n resume f).firm = s.firm := by
  unfold State.engRunW
  split
  · rfl
  · dsimp only
    refine ite_firm ?_ rfl
    split
    · rw [State.takeExc_firm, State.setLeng_firm]
    · rw [State.setLeng_firm]
    · split
      · rw [State.takeExc_firm, State.setLeng_firm]
      · exact ite_firm (ite_firm rfl (h _ rfl)) rfl

end Sys2Proof.Machine
end

