-- ==== Sys2Proof/Laws/Firm3.lean ====
section
/-!
SUPPORT. Sys2Proof/Laws/Firm3.lean: what the operations of Machine/EngineRun, CfgBase, KeyBase, Images, Key, ArbOps, Links, FabClock, FabPorts, Fab leave as it was: the queue of waiting commands, the vault and the eFuses
(State.firm), one lemma per operation.
-/
set_option linter.all false
namespace Sys2Proof.Machine
theorem State.engRun_firm (s : State) (row : EngRow) (n : Nat) (f : EngX → State)
    (h : ∀ x, x.s = s → (f x).firm = s.firm) : (s.engRun row n f).firm = s.firm := State.engRunW_firm s row n _ f h
@[simp] theorem EngX.done_firm (x : EngX) (c : LEng) : (EngX.done x c).firm = x.s.firm := by simp [EngX.done]
@[simp] theorem EngX.exc_firm (x : EngX) (code : Nat) : (EngX.exc x code).firm = x.s.firm := by simp [EngX.exc]
@[simp] theorem EngX.stall_firm (x : EngX) (st : Stall) : (EngX.stall x st).firm = x.s.firm := by simp [EngX.stall]
@[simp] theorem EngX.put_firm (x : EngX) (k : EngCore) : (EngX.put x k).firm = x.s.firm := by simp [EngX.put]
@[simp] theorem EngX.setRd_firm (x : EngX) (v : DWord) : (EngX.setRd x v).firm = x.s.firm := by simp [EngX.setRd]
@[simp] theorem EngX.liveIn_firm (x : EngX) (s : State) (i : InEntry) (use_ : LEng → LEng) : (x.liveIn s i use_).firm = s.firm := by
  simp [EngX.liveIn]
@[simp] theorem EngX.input_firm (x : EngX) (live : InEntry) (use_ : LEng → InEntry → LEng) : (EngX.input x live use_).firm = x.s.firm := by
  unfold EngX.input
  (repeat' split) <;> (try simp) <;> (repeat' split) <;> (try simp)
@[simp] theorem EngX.effect_firm (x : EngX) (f : Effect) (act : State → State)
    (h : ∀ s, (act s).firm = s.firm) : (x.effect f act).firm = x.s.firm := by
  unfold EngX.effect
  split <;> simp [h]
@[simp] theorem EngX.asked_firm (x : EngX) (f : Effect) (act : State → Nat → State)
    (h : ∀ s k, (act s k).firm = s.firm) : (x.asked f act).firm = x.s.firm := by
  unfold EngX.asked
  (repeat' split) <;> simp [h]
@[simp] theorem State.engStatus_firm (s : State) (e k v : Nat) : (State.engStatus s e k v).firm = s.firm := by simp [State.engStatus]
@[simp] theorem State.noteMarks_firm (s : State) : (State.noteMarks s).firm = s.firm := by simp [State.noteMarks]
@[simp] theorem State.setSlotState_firm (s : State) (k v : Nat) : (State.setSlotState s k v).firm = s.firm := by simp [State.setSlotState]
@[simp] theorem State.streamTake_firm (s : State) (r : Nat) : (State.streamTake s r).firm = s.firm := by simp [State.streamTake]
@[simp] theorem State.streamEnd_firm (s : State) : (State.streamEnd s).firm = s.firm := by simp [State.streamEnd]
@[simp] theorem State.stgRefuse_firm (s : State) (st : Nat) : (State.stgRefuse s st).1.firm = s.firm := by simp [State.stgRefuse]
theorem firm_staging (s t : State) (v : Option Staging) (h : t.firm = s.firm) :
    State.firm { t with cfg := { s.cfg with staging := v } } = s.firm := by
  simp only [State.firm, Firm.mk.injEq] at h ⊢
  exact ⟨h.1, trivial, trivial, trivial, trivial, trivial⟩
@[simp] theorem State.stgRequest_firm (s : State) (src : StgSrc) (dest : Nat) (g : Staging) : (State.stgRequest s src dest g).1.firm = s.firm := by
  have hk := fun v => firm_staging s s.useCrypto v (State.useCrypto_firm s)
  unfold State.stgRequest
  (repeat' split) <;> (try simp [-firm_mk, hk]) <;> (repeat' split) <;> (try simp [-firm_mk, hk])
@[simp] theorem State.selectDone_firm (s : State) (st : Nat) (c : Option CmdRef) : (State.selectDone s st c).firm = s.firm := by simp [State.selectDone]
@[simp] theorem State.stageEntry_firm (s : State) (k : KeyChip) (x : KeySel) : (State.stageEntry s k x).1.firm = s.firm := by
  unfold State.stageEntry
  (repeat' split) <;> (try simp) <;> (repeat' split) <;> (try simp)
@[simp] theorem State.keySelect_firm (s : State) (fmt : Option Nat) (c : Option CmdRef) : (State.keySelect s fmt c).firm = s.firm := by
  unfold State.keySelect
  (repeat' split) <;> (try simp) <;> (repeat' split) <;> (try simp)
@[simp] theorem State.selectionEnded_firm (s : State) (st : Nat) : (State.selectionEnded s st).firm = s.firm := by
  unfold State.selectionEnded
  (repeat' split) <;> (try simp) <;> (repeat' split) <;> (try simp)
@[simp] theorem State.prmWrite_firm (s : State) (a : Nat) (data : List Byte) : (State.prmWrite s a data).firm = s.firm := by simp [State.prmWrite]
@[simp] theorem State.writeBack_firm (s : State) (fail : Option Nat) : (State.writeBack s fail).1.firm = s.firm := by
  unfold State.writeBack
  (repeat' split) <;> (try simp) <;> (repeat' split) <;> (try simp)
@[simp] theorem State.sendChunks_firm (s : State) (a len upto : Nat) (final : Bool) (z0 : Nat) (z1 : Nat) : (State.sendChunks s a len upto final z0 z1).1.firm = s.firm := by
  induction z0 generalizing s z1 with
  | zero => simp [State.sendChunks]
  | succ n ih => unfold State.sendChunks; dsimp only; split <;> simp [ih]
@[simp] theorem State.sendImage_firm (s : State) (a len off : Nat) (final : Bool) : (State.sendImage s a len off final).firm = s.firm := by simp [State.sendImage]
@[simp] theorem State.sendImages_firm (s : State) (z0 : List (Nat × Nat)) : (State.sendImages s z0).firm = s.firm := by
  induction z0 generalizing s with
  | nil => simp [State.sendImages]
  | cons x l ih => simp [State.sendImages, ih]
@[simp] theorem State.forwardTo_firm (s : State) (g : Staging) (off : Nat) : (State.forwardTo s g off).firm = s.firm := by
  unfold State.forwardTo
  (repeat' split) <;> (try simp) <;> (repeat' split) <;> (try simp)
@[simp] theorem State.ownFurther_firm (s : State) (x : Nat × Nat) : (State.ownFurther s x).firm = s.firm := by
  unfold State.ownFurther
  (repeat' split) <;> (try simp) <;> (repeat' split) <;> (try simp)
@[simp] theorem State.forwardRest_firm (s : State) (g : Staging) : (State.forwardRest s g).firm = s.firm := by
  unfold State.forwardRest
  (repeat' split) <;> (try simp) <;> (repeat' split) <;> (try simp)
@[simp] theorem State.endLoad_firm (s : State) (st addr : Nat) : (State.endLoad s st addr).firm = s.firm := by
  unfold State.endLoad
  (repeat' split) <;> (try simp) <;> (repeat' split) <;> (try simp)
@[simp] theorem State.slotBegin_firm (s : State) (k : Nat) (h : Header) : (State.slotBegin s k h).firm = s.firm := by simp [State.slotBegin]
@[simp] theorem State.setBegin_firm (s : State) (g : Staging) (h : Header) : (State.setBegin s g h).firm = s.firm := by simp [State.setBegin]
@[simp] theorem State.loadTail_firm (s : State) (g : Staging) : (State.loadTail s g).firm = s.firm := by
  unfold State.loadTail
  (repeat' split) <;> (try simp) <;> (repeat' split) <;> (try simp)
@[simp] theorem State.noteTaken_firm (s : State) (g : Staging) (h : Header) : (State.noteTaken s g h).firm = s.firm := by
  unfold State.noteTaken
  (repeat' split) <;> (try simp) <;> (repeat' split) <;> (try simp)
@[simp] theorem State.headerStep_firm (s : State) (g : Staging) : (State.headerStep s g).firm = s.firm := by
  unfold State.headerStep
  (repeat' split) <;> (try simp) <;> (repeat' split) <;> (try simp)
@[simp] theorem State.putFrame_firm (s : State) (g : Staging) (raw plain : List Byte) : (State.putFrame s g raw plain).firm = s.firm := by
  unfold State.putFrame
  (repeat' split) <;> (try simp) <;> (repeat' split) <;> (try simp)
@[simp] theorem State.frameStep_firm (s : State) (g : Staging) (wr : Bool) : (State.frameStep s g wr).firm = s.firm := by
  unfold State.frameStep
  (repeat' split) <;> (try simp) <;> (repeat' split) <;> (try simp)
@[simp] theorem State.drain_firm (z0 : Nat) (z1 : State) : (State.drain z0 z1).firm = z1.firm := by
  induction z0 generalizing z1 with
  | zero => simp [State.drain]
  | succ n ih => unfold State.drain; (repeat' split) <;> simp [ih]
@[simp] theorem State.stagingGo_firm (s : State) : (State.stagingGo s).firm = s.firm := by simp [State.stagingGo]
@[simp] theorem State.writeStgCtl_firm (s : State) (w : Word) : (State.writeStgCtl s w).firm = s.firm := by simp [State.writeStgCtl]
@[simp] theorem State.clearSlot_firm (s : State) (k : Nat) : (State.clearSlot s k).firm = s.firm := by simp [State.clearSlot]
@[simp] theorem State.badCrc_firm (s : State) (l : Nat) : (State.badCrc s l).firm = s.firm := by simp [State.badCrc]
@[simp] theorem State.bcastGap_firm (s : State) (src : Nat) : (State.bcastGap s src).firm = s.firm := by
  unfold State.bcastGap
  (repeat' split) <;> (try simp) <;> (repeat' split) <;> (try simp)
@[simp] theorem State.bcastFirst_firm (s : State) (src l : Nat) : (State.bcastFirst s src l).firm = s.firm := by
  unfold State.bcastFirst
  (repeat' split) <;> (try simp) <;> (repeat' split) <;> (try simp)
@[simp] theorem State.bcastFeed_firm (s : State) (src : Nat) (b : List Byte) (last : Bool) : (State.bcastFeed s src b last).firm = s.firm := by
  unfold State.bcastFeed
  (repeat' split) <;> (try simp) <;> (repeat' split) <;> (try simp)
@[simp] theorem State.keyPower_firm (s : State) : (State.keyPower s).firm = s.firm := by simp [State.keyPower]
@[simp] theorem State.keyDiscover_firm (s : State) (auto : Bool) : (State.keyDiscover s auto).firm = s.firm := by simp [State.keyDiscover]
@[simp] theorem State.keyGone_firm (s : State) : (State.keyGone s).firm = s.firm := by simp [State.keyGone]
@[simp] theorem State.cutStaging_firm (s : State) : (State.cutStaging s).firm = s.firm := by simp [State.cutStaging]
@[simp] theorem State.keyError_firm (s : State) (bit : Nat) : (State.keyError s bit).firm = s.firm := by simp [State.keyError]
@[simp] theorem State.keyDirectory_firm (s : State) (k : KeyChip) : (State.keyDirectory s k).firm = s.firm := by simp [State.keyDirectory]
@[simp] theorem State.askWriteBack_firm (s : State) (c : Option CmdRef) (fail : Option Nat) : (State.askWriteBack s c fail).firm = s.firm := by simp [State.askWriteBack]
@[simp] theorem State.waitingWriteBack_firm (s : State) (fail : Option Nat) : (State.waitingWriteBack s fail).firm = s.firm := by simp [State.waitingWriteBack]
@[simp] theorem State.writeKeyCmd_firm (s : State) (w : Word) (fail : Option Nat) : (State.writeKeyCmd s w fail).firm = s.firm := by simp [State.writeKeyCmd]
@[simp] theorem State.hostRequest_firm (s : State) (x : Command) (op addr len : Nat) (data : List Byte) : (State.hostRequest s x op addr len data).firm = s.firm := by simp [State.hostRequest]
theorem firm_key (s : State) (v : Key) : State.firm { s with key := v } = s.firm := by cases s; rfl
@[simp] theorem State.bindSettings_firm (s : State) (k : KeyChip) (e : Nat) (m : List (Nat × Byte)) (bound : List Nat) :
    (State.bindSettings s k e m bound).firm = s.firm := by
  unfold State.bindSettings
  extract_lets p en _ s1 s2 s3
  have h1 : s1.firm = s.firm := firm_key s _
  clear_value s1
  have h3 : s3.firm = s.firm := by
    unfold s3 s2
    rw [State.setR_firm, State.setB_firm, State.setB_firm, h1]
  clear_value s3
  split
  · exact h3
  · rw [State.raise_firm, h3]
@[simp] theorem State.loadSettings_firm (s : State) (k : KeyChip) (e : Nat) : (State.loadSettings s k e).firm = s.firm := by simp [State.loadSettings]
@[simp] theorem State.ramDeliver_firm (s : State) (e a : Nat) (b : List Byte) : (State.ramDeliver s e a b).firm = s.firm := by
  unfold State.ramDeliver
  (repeat' split) <;> (try simp) <;> (repeat' split) <;> (try simp)
@[simp] theorem State.complete_firm (s : State) (q : ArbReq) (st word : Nat) (data : List Byte) : (State.complete s q st word data).firm = s.firm := by
  unfold State.complete
  (repeat' split) <;> (try simp) <;> (repeat' split) <;> (try simp)
@[simp] theorem State.beatOver_firm (s : State) (r : Nat) (q : ArbReq) (more : Bool) : (State.beatOver s r q more).firm = s.firm := by simp [State.beatOver]
@[simp] theorem State.endRequest_firm (s : State) (r : Nat) (q : ArbReq) (st word : Nat) (data : List Byte) : (State.endRequest s r q st word data).firm = s.firm := by simp [State.endRequest]
@[simp] theorem State.nextBeat_firm (s : State) (r : Nat) (q : ArbReq) (got : List Byte) : (State.nextBeat s r q got).firm = s.firm := by simp [State.nextBeat]
@[simp] theorem State.loseLane_firm (s : State) (l st : Nat) : (State.loseLane s l st).firm = s.firm := by
  unfold State.loseLane
  (repeat' split) <;> (try simp) <;> (repeat' split) <;> (try simp)
@[simp] theorem State.writeSlCtl_firm (s : State) (l : Nat) (w : Word) : (State.writeSlCtl s l w).firm = s.firm := by simp [State.writeSlCtl]
@[simp] theorem State.followStep_firm (s : State) (t : DWord) : (State.followStep s t).firm = s.firm := by simp [State.followStep]
@[simp] theorem State.treeEdge_firm (s : State) (t : Nat) : (State.treeEdge s t).firm = s.firm := by
  unfold State.treeEdge
  (repeat' split) <;> (try simp) <;> (repeat' split) <;> (try simp)
@[simp] theorem State.fabricCancel_firm (s : State) (i : Nat) (w : QWord) : (State.fabricCancel s i w).firm = s.firm := by
  unfold State.fabricCancel
  (repeat' split) <;> (try simp) <;> (repeat' split) <;> (try simp)
@[simp] theorem State.takePost_firm (s : State) (i : Nat) : (State.takePost s i).firm = s.firm := by
  unfold State.takePost
  (repeat' split) <;> (try simp) <;> (repeat' split) <;> (try simp)
@[simp] theorem State.servePosts_firm (s : State) (g fuel : Nat) : (State.servePosts s g fuel).firm = s.firm := by
  induction fuel generalizing s with
  | zero => rfl
  | succ n ih =>
    unfold State.servePosts
    split
    · rfl
    · rw [ih, State.takePost_firm]
@[simp] theorem State.presentPost_firm (s : State) (i : Nat) (cancel : Bool) (w : QWord) : (State.presentPost s i cancel w).firm = s.firm := by
  unfold State.presentPost
  (repeat' split) <;> (try simp) <;> (repeat' split) <;> (try simp)
@[simp] theorem State.takeMail_firm (s : State) (i : Nat) : (State.takeMail s i).firm = s.firm := by
  unfold State.takeMail
  (repeat' split) <;> (try simp) <;> (repeat' split) <;> (try simp)
@[simp] theorem State.serveMail_firm (s : State) (g : Nat) : (State.serveMail s g).firm = s.firm := by
  unfold State.serveMail
  (repeat' split) <;> (try simp) <;> (repeat' split) <;> (try simp)
@[simp] theorem State.serveMails_firm (s : State) : (State.serveMails s).firm = s.firm := by
  unfold State.serveMails
  (repeat' split) <;> (try simp) <;> (repeat' split) <;> (try simp)
@[simp] theorem State.sectorFault_firm (s : State) (i addr cause : Nat) : (State.sectorFault s i addr cause).firm = s.firm := by simp [State.sectorFault]

end Sys2Proof.Machine
end

