-- ==== Sys2Proof/Laws/Firm4.lean ====
section
/-!
SUPPORT. Sys2Proof/Laws/Firm4.lean: what the operations of Machine/Fab, Mem, PowerRows, Reset, NvOps leave as it was: the queue of waiting commands, the vault and the eFuses
(State.firm), one lemma per operation.
-/
set_option linter.all false
namespace Sys2Proof.Machine
@[simp] theorem State.noteDisc_firm (s : State) (i : Nat) : (State.noteDisc s i).firm = s.firm := by simp [State.noteDisc]
@[simp] theorem State.disconnect_firm (s : State) (i seg : Nat) : (State.disconnect s i seg).firm = s.firm := by
  unfold State.disconnect
  (repeat' split) <;> (try simp) <;> (repeat' split) <;> (try simp)
@[simp] theorem State.askRewrite_firm (s : State) (st : Bool) (a : Nat) : (State.askRewrite s st a).firm = s.firm := by simp [State.askRewrite]
@[simp] theorem State.sectorRewritten_firm (s : State) (st : Bool) (a : Nat) : (State.sectorRewritten s st a).firm = s.firm := by simp [State.sectorRewritten]
@[simp] theorem State.rewriteFrame_firm (s : State) (st : Bool) (a : Nat) (src : Bool) : (State.rewriteFrame s st a src).1.firm = s.firm := by
  unfold State.rewriteFrame
  (repeat' split) <;> (try simp) <;> (repeat' split) <;> (try simp)
@[simp] theorem State.writePrbPin_firm (s : State) (c : Nat) (w : Word) : (State.writePrbPin s c w).firm = s.firm := by simp [State.writePrbPin]
@[simp] theorem State.setTrace_firm (s : State) (x : Trace) : (State.setTrace s x).firm = s.firm := by simp [State.setTrace]
@[simp] theorem State.trcArm_firm (s : State) : (State.trcArm s).firm = s.firm := by simp [State.trcArm]
@[simp] theorem State.trcStop_firm (s : State) : (State.trcStop s).firm = s.firm := by simp [State.trcStop]
@[simp] theorem State.trcForce_firm (s : State) : (State.trcForce s).firm = s.firm := by simp [State.trcForce]
@[simp] theorem State.writeTrcCmd_firm (s : State) (w : Word) : (State.writeTrcCmd s w).firm = s.firm := by simp [State.writeTrcCmd]
@[simp] theorem State.trcCommand_firm (s : State) (c : CmdRef) (bit : Nat) : (State.trcCommand s c bit).firm = s.firm := by
  unfold State.trcCommand
  (repeat' split) <;> (try simp) <;> (repeat' split) <;> (try simp)
@[simp] theorem State.trcOrder_firm (s : State) (v : Via) (bit : Nat) : (State.trcOrder s v bit).firm = s.firm := by
  unfold State.trcOrder
  (repeat' split) <;> (try simp) <;> (repeat' split) <;> (try simp)
@[simp] theorem State.trcStore_firm (s : State) (v t : DWord) : (State.trcStore s v t).firm = s.firm := by
  unfold State.trcStore
  (repeat' split) <;> (try simp) <;> (repeat' split) <;> (try simp)
@[simp] theorem State.trcSample_firm (s : State) (v at_ : DWord) : (State.trcSample s v at_).firm = s.firm := by
  unfold State.trcSample
  (repeat' split) <;> (try simp) <;> (repeat' split) <;> (try simp)
@[simp] theorem State.dropSlice_firm (s : State) (kind : Nat) : (State.dropSlice s kind).firm = s.firm := by simp [State.dropSlice]
@[simp] theorem State.bramStart_firm (s : State) (i : Nat) (m : BramMove) : (State.bramStart s i m).firm = s.firm := by simp [State.bramStart]
@[simp] theorem State.mulMove_firm (s : State) (i role : Nat) (drizzle : Bool) : (State.mulMove s i role drizzle).firm = s.firm := by simp [State.mulMove]
@[simp] theorem State.mulReturn_firm (s : State) (i : Nat) : (State.mulReturn s i).firm = s.firm := by simp [State.mulReturn]
@[simp] theorem State.abortMem_firm (s : State) (kind : Nat) : (State.abortMem s kind).firm = s.firm := by
  unfold State.abortMem
  (repeat' split) <;> (try simp) <;> (repeat' split) <;> (try simp)
@[simp] theorem State.bramDone_firm (s : State) (i : Nat) (m : BramMove) : (State.bramDone s i m).firm = s.firm := by
  unfold State.bramDone
  (repeat' split) <;> (try simp) <;> (repeat' split) <;> (try simp)
@[simp] theorem State.bramLasting_firm (s : State) (i k : Nat) (addr : Word) (cause bit : Nat) : (State.bramLasting s i k addr cause bit).firm = s.firm := by
  unfold State.bramLasting
  (repeat' split) <;> (try simp) <;> (repeat' split) <;> (try simp)
@[simp] theorem State.mulLasting_firm (s : State) (i k : Nat) (addr : Word) (cause bit : Nat) : (State.mulLasting s i k addr cause bit).firm = s.firm := by simp [State.mulLasting]
@[simp] theorem State.memFault_firm (s : State) (kind i k : Nat) (addr : Word) (cause bit : Nat) : (State.memFault s kind i k addr cause bit).firm = s.firm := by simp [State.memFault]
@[simp] theorem State.memInfo_firm (s : State) (i : Nat) (ue mul spare : Bool) (role bit word : Nat) : (State.memInfo s i ue mul spare role bit word).firm = s.firm := by simp [State.memInfo]
@[simp] theorem State.bramError_firm (s : State) (i k word bit : Nat) (ue : Bool) : (State.bramError s i k word bit ue).firm = s.firm := by
  unfold State.bramError
  (repeat' split) <;> (try simp) <;> (repeat' split) <;> (try simp)
@[simp] theorem State.bramBad_firm (s : State) (i k p word : Nat) : (State.bramBad s i k p word).firm = s.firm := by
  unfold State.bramBad
  (repeat' split) <;> (try simp) <;> (repeat' split) <;> (try simp)
@[simp] theorem State.writeMemRepair_firm (s : State) (i : Nat) (w : Word) : (State.writeMemRepair s i w).firm = s.firm := by
  unfold State.writeMemRepair
  (repeat' split) <;> (try simp) <;> (repeat' split) <;> (try simp)
@[simp] theorem State.linkLost_firm (s : State) (p : Nat) : (State.linkLost s p).firm = s.firm := by simp [State.linkLost]
@[simp] theorem State.portLeaves_firm (s : State) (p st : Nat) : (State.portLeaves s p st).firm = s.firm := by simp [State.portLeaves]
@[simp] theorem State.endMaskedLocks_firm (s : State) (d : Nat) : (State.endMaskedLocks s d).firm = s.firm := by simp [State.endMaskedLocks]
@[simp] theorem State.enter_firm (s : State) (d st : Nat) : (State.enter s d st).firm = s.firm := by simp [State.enter]
@[simp] theorem State.loadBuffers_firm (s : State) (i : Nat) (keep : Nat → Bool) : (State.loadBuffers s i keep).firm = s.firm := by simp [State.loadBuffers]
@[simp] theorem State.coldStaged_firm (s : State) (mine : Nat → Bool) : (State.coldStaged s mine).firm = s.firm := by
  unfold State.coldStaged
  (repeat' split) <;> (try simp) <;> (repeat' split) <;> (try simp)
@[simp] theorem State.coldSector_firm (s : State) (i : Nat) : (State.coldSector s i).firm = s.firm := by simp [State.coldSector]
@[simp] theorem State.coldEngine_firm (s : State) (n e : Nat) : (State.coldEngine s n e).firm = s.firm := by simp [State.coldEngine]
@[simp] theorem State.coldKey_firm (s : State) : (State.coldKey s).firm = s.firm := by
  unfold State.coldKey
  (repeat' split) <;> (try simp) <;> (repeat' split) <;> (try simp)
@[simp] theorem State.coldContent_firm (s : State) (d : Nat) : (State.coldContent s d).firm = s.firm := by
  unfold State.coldContent
  (repeat' split) <;> (try simp) <;> (repeat' split) <;> (try simp)
@[simp] theorem State.applyHeld_firm (s : State) (n e : Nat) : (State.applyHeld s n e).firm = s.firm := by
  unfold State.applyHeld
  dsimp only
  rw [foldl_firm]
  · split <;> simp
  · intro s a
    (repeat' split) <;> simp
@[simp] theorem State.refuseHeld_firm (s : State) (d : Nat) : (State.refuseHeld s d).1.firm = s.firm := by simp [State.refuseHeld]
@[simp] theorem State.unitStops_firm (s : State) (d : Nat) : (State.unitStops s d).firm = s.firm := by
  unfold State.unitStops
  (repeat' split) <;> (try simp) <;> (repeat' split) <;> (try simp)
@[simp] theorem State.startReset_firm (s : State) (d : Nat) : (State.startReset s d).firm = s.firm := by simp [State.startReset]
@[simp] theorem State.reqDown_firm (s : State) (d st : Nat) : (State.reqDown s d st).1.firm = s.firm := by simp [State.reqDown]
@[simp] theorem State.domReq_firm (s : State) (d st : Nat) : (State.domReq s d st).1.firm = s.firm := by
  unfold State.domReq
  extract_lets s1
  have h1 : s1.firm = s.firm := by
    unfold s1
    split
    · rw [State.keepReq_firm, State.supersede_firm]
    · rfl
  clear_value s1
  split
  · split
    · (try dsimp only); rw [State.refuseHeld_firm]
    · split
      · (try dsimp only); rw [State.wake_firm]
      · split
        · (try dsimp only); rw [State.supersede_firm]
        · (try dsimp only); rw [State.keepReq_firm]
  · split
    · (try dsimp only); rw [State.wake_firm, h1]
    · split
      · (try dsimp only); rw [State.refuseHeld_firm, h1]
      · (try dsimp only); rw [State.startReset_firm, h1]
    · (try dsimp only); rw [State.reqDown_firm, h1]
@[simp] theorem State.writeDomReq_firm (s : State) (d : Nat) (w : Word) : (State.writeDomReq s d w).firm = s.firm := by simp [State.writeDomReq]
@[simp] theorem State.powerReq_firm (s : State) (v : ViaN) (st : Nat) : (State.powerReq s v st).firm = s.firm := by
  unfold State.powerReq
  (repeat' split) <;> (try simp) <;> (repeat' split) <;> (try simp)
@[simp] theorem State.actKept_firm (s : State) (d : Nat) : (State.actKept s d).firm = s.firm := by
  unfold State.actKept
  (repeat' split) <;> (try simp) <;> (repeat' split) <;> (try simp)
@[simp] theorem State.domUp_firm (s : State) (d : Nat) : (State.domUp s d).firm = s.firm := by
  unfold State.domUp
  (repeat' split) <;> (try simp) <;> (repeat' split) <;> (try simp)
@[simp] theorem State.afterTrans_firm (s : State) (d : Nat) : (State.afterTrans s d).firm = s.firm := by simp [State.afterTrans]
@[simp] theorem State.retentionLost_firm (s : State) (d bank : Nat) : (State.retentionLost s d bank).firm = s.firm := by
  unfold State.retentionLost
  extract_lets s1 s2 s3 s4 n r s5
  have h1 : s1.firm = s.firm := by unfold s1; rw [State.setF_firm, State.setB_firm]
  clear_value s1
  have h2 : s2.firm = s.firm := by unfold s2; split <;> [rw [State.setB_firm, h1]; exact h1]
  clear_value s2
  have h3 : s3.firm = s.firm := by unfold s3; rw [State.setB_firm, State.setR_firm, h2]
  clear_value s3
  have h4 : s4.firm = s.firm := by unfold s4; rw [State.beginTrans_firm, State.raise_firm, h3]
  clear_value s4
  split
  · rw [State.sectorFault_firm, h4]
  · split
    · have hr : r.1.firm = s.firm := by unfold r; rw [State.countFault_firm, h4]
      clear_value r
      have h5 : s5.firm = s.firm := by unfold s5; rw [State.lastingFault_firm, hr]
      clear_value s5
      split
      · split <;> [rw [State.setLeng_firm, h5]; exact h5]
      · exact hr
    · exact h4
@[simp] theorem State.wakeEnds_firm (s : State) (d : Nat) : (State.wakeEnds s d).firm = s.firm := by simp [State.wakeEnds]
@[simp] theorem State.freshBytes_firm (s : State) (n : Nat) : (State.freshBytes s n).1.firm = s.firm := by simp [State.freshBytes]
@[simp] theorem State.abandonNv_firm (s : State) : (State.abandonNv s).firm = s.firm := by
  unfold State.abandonNv
  (repeat' split) <;> (try simp) <;> (repeat' split) <;> (try simp)
@[simp] theorem State.flushPorts_firm (s : State) : (State.flushPorts s).firm = s.firm := by simp [State.flushPorts]
@[simp] theorem State.afterReset_firm (s : State) (warm : Bool) : (State.afterReset s warm).firm = s.firm := by simp [State.afterReset]
@[simp] theorem State.showGasp_firm (s : State) : (State.showGasp s).firm = s.firm := by
  unfold State.showGasp
  (repeat' split) <;> (try simp) <;> (repeat' split) <;> (try simp)
@[simp] theorem State.repairSlots_firm (s : State) : (State.repairSlots s).firm = s.firm := by simp [State.repairSlots]
@[simp] theorem State.showLost_firm (s : State) (r kind off : Nat) : (State.showLost s r kind off).firm = s.firm := by simp [State.showLost]
@[simp] theorem State.showAbandoned_firm (s : State) : (State.showAbandoned s).firm = s.firm := by
  unfold State.showAbandoned
  (repeat' split) <;> (try simp) <;> (repeat' split) <;> (try simp)
@[simp] theorem State.loadStartup_firm (s : State) : (State.loadStartup s).firm = s.firm := by simp [State.loadStartup]
@[simp] theorem State.beginStart_firm (s : State) (source : Nat) (warm : Bool) : (State.beginStart s source warm).firm = s.firm := by simp [State.beginStart]
@[simp] theorem State.resetNow_firm (s : State) (warm : Bool) (source : Nat) : (State.resetNow s warm source).firm = s.firm := by simp [State.resetNow]
@[simp] theorem State.writeResetCtl_firm (s : State) (w : Word) : (State.writeResetCtl s w).firm = s.firm := by
  unfold State.writeResetCtl
  (repeat' split) <;> (try simp) <;> (repeat' split) <;> (try simp)
@[simp] theorem State.resetRow_firm (s : State) (v : Via) (kind : Nat) : (State.resetRow s v kind).firm = s.firm := by
  unfold State.resetRow
  (repeat' split) <;> (try simp) <;> (repeat' split) <;> (try simp)
@[simp] theorem State.nvShow_firm (s : State) : (State.nvShow s).firm = s.firm := by simp [State.nvShow]
@[simp] theorem State.nvFault_firm (s : State) (k cause : Nat) : (State.nvFault s k cause).firm = s.firm := by simp [State.nvFault]
@[simp] theorem State.nvFlag_firm (s : State) (w flag : Nat) : (State.nvFlag s w flag).firm = s.firm := by simp [State.nvFlag]
@[simp] theorem State.nvReadWord_firm (s : State) (w : Nat) (ecc : Ecc) : (State.nvReadWord s w ecc).1.firm = s.firm := by
  unfold State.nvReadWord
  (repeat' split) <;> (try simp) <;> (repeat' split) <;> (try simp)
@[simp] theorem State.nvReadWords_firm (s : State) (first : Nat) (z0 : Nat) (z1 : Nat) (z2 : List Ecc) : (State.nvReadWords s first z0 z1 z2).1.firm = s.firm := by
  induction z0 generalizing s z1 z2 with
  | zero => simp [State.nvReadWords]
  | succ n ih => unfold State.nvReadWords; (repeat' split) <;> simp [ih]
@[simp] theorem State.nvSuspend_firm (s : State) (hold bit : Nat) : (State.nvSuspend s hold bit).firm = s.firm := by
  unfold State.nvSuspend
  (repeat' split) <;> (try simp) <;> (repeat' split) <;> (try simp)
@[simp] theorem State.nvAsked_firm (s : State) : (State.nvAsked s).firm = s.firm := by simp [State.nvAsked]
@[simp] theorem State.nvBegin_firm (s : State) : (State.nvBegin s).firm = s.firm := by
  unfold State.nvBegin
  (repeat' split) <;> (try simp) <;> (repeat' split) <;> (try simp)
@[simp] theorem State.nvResume_firm (s : State) : (State.nvResume s).firm = s.firm := by
  unfold State.nvResume
  (repeat' split) <;> (try simp) <;> (repeat' split) <;> (try simp)
@[simp] theorem State.nvRelease_firm (s : State) (hold bit : Nat) : (State.nvRelease s hold bit).firm = s.firm := by simp [State.nvRelease]
@[simp] theorem State.nvServe_firm (s : State) (b : Nat) : (State.nvServe s b).1.firm = s.firm := by
  unfold State.nvServe
  (repeat' split) <;> (try simp) <;> (repeat' split) <;> (try simp)
@[simp] theorem State.nvWarn_firm (s : State) : (State.nvWarn s).firm = s.firm := by simp [State.nvWarn]
@[simp] theorem State.nvWarnStop_firm (s : State) : (State.nvWarnStop s).firm = s.firm := by
  unfold State.nvWarnStop
  (repeat' split) <;> (try simp) <;> (repeat' split) <;> (try simp)

end Sys2Proof.Machine
end

