-- ==== Sys2Proof/Laws/Firm5.lean ====
section
/-!
SUPPORT. Sys2Proof/Laws/Firm5.lean: what the operations of Machine/NvOps, Nv, Arbiters, AxisRows, EngineAct, EngineUnits, EngineRows, Front, LinePower, Tables leave as it was: the queue of waiting commands, the vault and the eFuses
(State.firm), one lemma per operation.
-/
set_option linter.all false
namespace Sys2Proof.Machine
@[simp] theorem State.nvClear_firm (s : State) : (State.nvClear s).firm = s.firm := by simp [State.nvClear]
@[simp] theorem State.nvProgram_firm (s : State) (q : ArbReq) : (State.nvProgram s q).firm = s.firm := by simp [State.nvProgram]
@[simp] theorem State.nvWordDone_firm (s : State) (q : ArbReq) (st : Nat) : (State.nvWordDone s q st).firm = s.firm := by simp [State.nvWordDone]
@[simp] theorem State.nvErase_firm (s : State) (q : ArbReq) : (State.nvErase s q).firm = s.firm := by simp [State.nvErase]
@[simp] theorem State.nvRemap_firm (s : State) (k : Nat) : (State.nvRemap s k).firm = s.firm := by simp [State.nvRemap]
@[simp] theorem State.nvErased_firm (s : State) (e : NvErase) (ok remap : Bool) : (State.nvErased s e ok remap).firm = s.firm := by simp [State.nvErased]
@[simp] theorem State.nvCmdSuspend_firm (s : State) : (State.nvCmdSuspend s).1.firm = s.firm := by
  unfold State.nvCmdSuspend
  (repeat' split) <;> (try simp) <;> (repeat' split) <;> (try simp)
@[simp] theorem State.nvCmdResume_firm (s : State) : (State.nvCmdResume s).firm = s.firm := by simp [State.nvCmdResume]
@[simp] theorem State.nvRegRequest_firm (s : State) (op nwords : Nat) : (State.nvRegRequest s op nwords).firm = s.firm := by simp [State.nvRegRequest]
@[simp] theorem State.writeNvOpCtl_firm (s : State) (w : Word) : (State.writeNvOpCtl s w).firm = s.firm := by
  unfold State.writeNvOpCtl
  (repeat' split) <;> (try simp) <;> (repeat' split) <;> (try simp)
@[simp] theorem State.nvHostRequest_firm (s : State) (x : Command) (op addr : Nat) (data : List Byte) : (State.nvHostRequest s x op addr data).firm = s.firm := by simp [State.nvHostRequest]
@[simp] theorem State.nvWindow_firm (s : State) (k : Nat) (ecc : Ecc) : (State.nvWindow s k ecc).1.firm = s.firm := by simp [State.nvWindow]
@[simp] theorem State.grant_firm (s : State) (r : Nat) (x : ArbReq) : (State.grant s r x).firm = s.firm := by simp [State.grant]
@[simp] theorem State.decide__firm (s : State) (r : Nat) : (State.decide_ s r).firm = s.firm := by
  unfold State.decide_
  (repeat' split) <;> (try simp) <;> (repeat' split) <;> (try simp)
@[simp] theorem State.readBeat_firm (s : State) (r : Nat) (q : ArbReq) (d : List Byte) : (State.readBeat s r q d).firm = s.firm := by simp [State.readBeat]
@[simp] theorem State.nvReadBeat_firm (s : State) (q : ArbReq) (eccs : List Ecc) : (State.nvReadBeat s q eccs).firm = s.firm := by simp [State.nvReadBeat]
@[simp] theorem State.frameBeat_firm (s : State) (q : ArbReq) : (State.frameBeat s q).firm = s.firm := by simp [State.frameBeat]
@[simp] theorem State.writeArbCtl_firm (s : State) (r : Nat) (w : Word) : (State.writeArbCtl s r w).firm = s.firm := by simp [State.writeArbCtl]
@[simp] theorem State.setAxis_firm (s : State) (e : Nat) (x : AxisIo) : (State.setAxis s e x).firm = s.firm := by simp [State.setAxis]
@[simp] theorem State.convert_firm (s : State) (c : Nat) (d : Delivered) (codes : List Nat) : (State.convert s c d codes).firm = s.firm := by simp [State.convert]
@[simp] theorem EngX.fp_firm (x : EngX) (r : FpuRes) : (EngX.fp x r).firm = x.s.firm := by simp [EngX.fp]
@[simp] theorem EngX.eccRead_firm (x : EngX) (ecc : Ecc) (f : EngX → State)
    (h : ∀ x, (f x).firm = x.s.firm) : (x.eccRead ecc f).firm = x.s.firm := by
  unfold EngX.eccRead
  split <;> simp [h]
@[simp] theorem EngX.load_firm (x : EngX) (len : Nat) (ecc : Ecc) (f : EngX → Nat → State)
    (h : ∀ x v, (f x v).firm = x.s.firm) : (x.load len ecc f).firm = x.s.firm := by
  unfold EngX.load
  dsimp only
  split
  · simp
  · exact EngX.eccRead_firm _ _ _ (fun x => h x _)
@[simp] theorem EngX.store_firm (x : EngX) (len : Nat) : (EngX.store x len).firm = x.s.firm := by simp [EngX.store]
@[simp] theorem EngX.goto_firm (x : EngX) (t : Int) (k : EngCore) : (EngX.goto x t k).firm = x.s.firm := by simp [EngX.goto]
@[simp] theorem EngX.notFar_firm (x : EngX) (f : State) (h : f.firm = x.s.firm) : (x.notFar f).firm = x.s.firm := by
  unfold EngX.notFar
  split <;> simp [h]
@[simp] theorem EngX.post_firm (x : EngX) (due : DWord) : (EngX.post x due).firm = x.s.firm := by
  unfold EngX.post
  (repeat' split) <;> (try simp) <;> (repeat' split) <;> (try simp)
@[simp] theorem EngX.statusIn_firm (x : EngX) (s : State) (st : Nat) : (x.statusIn s st).firm = s.firm := by
  simp [EngX.statusIn]
theorem State.waiting_firm (s : State) (n : Nat) (f : EngX → Stall → State)
    (h : ∀ x st, x.s = s → (f x st).firm = s.firm) : (s.waiting n f).firm = s.firm := by
  unfold State.waiting
  split
  · rfl
  · dsimp only
    split
    · split
      · exact h _ _ rfl
      · rfl
    · rfl
@[simp] theorem State.portDone_firm (s : State) (e p sec : Nat) : (State.portDone s e p sec).firm = s.firm := by
  unfold State.portDone
  (repeat' split) <;> (try simp) <;> (repeat' split) <;> (try simp)
@[simp] theorem State.bayEarly_firm (s : State) (n : Nat) (ok : BayOut → Bool) (st : Nat) : (State.bayEarly s n ok st).firm = s.firm := by
  unfold State.bayEarly
  (repeat' split) <;> (try simp) <;> (repeat' split) <;> (try simp)
@[simp] theorem EngX.flagsIn_firm (x : EngX) (rd : Nat) (v : DWord) (st : Nat) : (EngX.flagsIn x rd v st).firm = x.s.firm := by simp [EngX.flagsIn]
@[simp] theorem EngX.bayEnd_firm (x : EngX) (s : State) (w : Stall) (st : Nat) (v : DWord) : (x.bayEnd s w st v).firm = s.firm := by
  unfold EngX.bayEnd
  (repeat' split) <;> simp
@[simp] theorem EngX.request_firm (x : EngX) (mode : Nat) (ecc : Ecc) : (EngX.request x mode ecc).firm = x.s.firm := by
  unfold EngX.request
  (repeat' split) <;> (try simp) <;> (repeat' split) <;> (try simp)
@[simp] theorem EngX.endCycle_firm (x : EngX) : (EngX.endCycle x).firm = x.s.firm := by simp [EngX.endCycle]
@[simp] theorem State.axisWrite_firm (s : State) (e u r : Nat) (v : DWord) : (State.axisWrite s e u r v).firm = s.firm := by simp [State.axisWrite]
@[simp] theorem EngX.unitDone_firm (x : EngX) (r : EngCore × Bool) : (EngX.unitDone x r).firm = x.s.firm := by simp [EngX.unitDone]
@[simp] theorem State.cycleAt_firm (s : State) (n e : Nat) (data : Word) (t : DWord) : (State.cycleAt s n e data t).firm = s.firm := by simp [State.cycleAt]
@[simp] theorem State.loseStrobe_firm (s : State) (t : Nat) (d : Delivered) : (State.loseStrobe s t d).firm = s.firm := by
  unfold State.loseStrobe
  (repeat' split) <;> (try simp) <;> (repeat' split) <;> (try simp)
@[simp] theorem State.clearRun_firm (s : State) (n : Nat) : (State.clearRun s n).firm = s.firm := by
  unfold State.clearRun
  extract_lets s1
  have h1 : s1.firm = s.firm := by unfold s1; rw [State.setB_firm, State.setB_firm]
  clear_value s1
  split <;> [rw [State.setLeng_firm, h1]; exact h1]
@[simp] theorem State.engIgnored_firm (s : State) (n : Nat) : (State.engIgnored s n).firm = s.firm := by simp [State.engIgnored]
@[simp] theorem State.migrate_firm (s : State) (n m : Nat) (c : Option CmdRef) : (State.migrate s n m c).1.firm = s.firm := by
  unfold State.migrate
  (repeat' split) <;> (try simp) <;> (repeat' split) <;> (try simp)
@[simp] theorem State.haltClr_firm (s : State) (n : Nat) : (State.haltClr s n).1.firm = s.firm := by
  unfold State.haltClr
  (repeat' split) <;> (try simp) <;> (repeat' split) <;> (try simp)
@[simp] theorem State.reinstate_firm (s : State) (n : Nat) : (State.reinstate s n).1.firm = s.firm := by simp [State.reinstate]
@[simp] theorem State.writeEngCtl_firm (s : State) (n : Nat) (w : Word) : (State.writeEngCtl s n w).firm = s.firm := by simp [State.writeEngCtl]
@[simp] theorem State.engOrder_firm (s : State) (n bit : Nat) (w : Word) : (State.engOrder s n bit w).firm = s.firm := by simp [State.engOrder]
@[simp] theorem State.overMask_firm (s : State) (mask : Nat) (f : State → Nat → State)
    (h : ∀ s n, (f s n).firm = s.firm) : (s.overMask mask f).firm = s.firm := by
  unfold State.overMask
  rw [foldl_firm]
  intro s a
  split <;> simp [h]
@[simp] theorem State.farFlush_firm (s : State) (n : Nat) : (State.farFlush s n).firm = s.firm := by
  unfold State.farFlush
  (repeat' split) <;> (try simp) <;> (repeat' split) <;> (try simp)
@[simp] theorem State.mailboxHi_firm (s : State) (n m : Nat) (w : Word) : (State.mailboxHi s n m w).firm = s.firm := by
  unfold State.mailboxHi
  (repeat' split) <;> (try simp) <;> (repeat' split) <;> (try simp)
@[simp] theorem State.abortEngineTest_firm (s : State) (e : Nat) : (State.abortEngineTest s e).firm = s.firm := by
  unfold State.abortEngineTest
  split
  · rfl
  · split
    · rfl
    · split
      · dsimp only
        refine ite_firm ?_ rfl
        simp
      · refine ite_firm ?_ rfl
        split
        · rename_i r h
          exact State.abortEngineSlice_firm _ _ h
        · rfl
@[simp] theorem State.abortStaged_firm (s : State) : (State.abortStaged s).firm = s.firm := by simp [State.abortStaged]
@[simp] theorem State.tryVote_firm (s : State) : (State.tryVote s).firm = s.firm := by simp [State.tryVote]
@[simp] theorem State.sendNotice_firm (s : State) : (State.sendNotice s).firm = s.firm := by simp [State.sendNotice]
@[simp] theorem State.armCabinet_firm (s : State) : (State.armCabinet s).firm = s.firm := by simp [State.armCabinet]
@[simp] theorem State.arm_firm (s : State) (f : Front) : (State.arm s f).1.firm = s.firm := by simp [State.arm]
@[simp] theorem State.hostFrontCancel_firm (s : State) : (State.hostFrontCancel s).1.firm = s.firm := by simp [State.hostFrontCancel]
@[simp] theorem State.writeFrontCtl_firm (s : State) (w : Word) : (State.writeFrontCtl s w).firm = s.firm := by simp [State.writeFrontCtl]
@[simp] theorem State.verifyFrame_firm (r : State × Bool) (m : BitVec 32 × Bool) : (State.verifyFrame r m).1.firm = r.1.firm := by
  unfold State.verifyFrame
  (repeat' split) <;> (try simp) <;> (repeat' split) <;> (try simp)
theorem firm_front (s : State) (v : Front) : State.firm { s with front := v } = s.firm := by cases s; rfl
@[simp] theorem State.loadInterface_firm (s : State) (i : Nat) : (State.loadInterface s i).firm = s.firm := by simp [State.loadInterface]
@[simp] theorem State.switchSector_firm (s : State) (i : Nat) : (State.switchSector s i).firm = s.firm := by simp [State.switchSector]
@[simp] theorem State.switchEngineAt_firm (s : State) (e : Nat) : (State.switchEngineAt s e).firm = s.firm := by
  unfold State.switchEngineAt
  (repeat' split) <;> (try simp) <;> (repeat' split) <;> (try simp)
@[simp] theorem State.movePwms_firm (s : State) (old new : List (Nat × List Byte)) : (State.movePwms s old new).firm = s.firm := by
  unfold State.movePwms
  (repeat' split) <;> (try simp) <;> (repeat' split) <;> (try simp)
@[simp] theorem State.represent_firm (s : State) (e : Nat) : (State.represent s e).firm = s.firm := by
  unfold State.represent
  (repeat' split) <;> (try simp) <;> (repeat' split) <;> (try simp)
@[simp] theorem State.takeFront_firm (s : State) : (State.takeFront s).firm = s.firm := by simp [State.takeFront]
@[simp] theorem State.frontStep_firm (s : State) (op : Nat) : (State.frontStep s op).firm = s.firm := by
  unfold State.frontStep
  (repeat' split) <;> (try simp) <;> (repeat' split) <;> (try simp)
@[simp] theorem State.setAux_firm (s : State) (k : Nat) (x : AuxOut) : (State.setAux s k x).firm = s.firm := by simp [State.setAux]
@[simp] theorem State.auxStart_firm (s : State) (k : Nat) : (State.auxStart s k).firm = s.firm := by simp [State.auxStart]
@[simp] theorem State.auxOff_firm (s : State) (k : Nat) : (State.auxOff s k).firm = s.firm := by simp [State.auxOff]
@[simp] theorem State.auxTrip_firm (s : State) (k flag bit : Nat) : (State.auxTrip s k flag bit).firm = s.firm := by simp [State.auxTrip]
@[simp] theorem State.writeAuxCtl_firm (s : State) (k : Nat) (w : Word) : (State.writeAuxCtl s k w).firm = s.firm := by
  unfold State.writeAuxCtl
  extract_lets s1 s2 _ s3
  have h1 : s1.firm = s.firm := by unfold s1; simp
  clear_value s1
  refine ite_firm ?_ (ite_firm ?_ ?_)
  · simp [s2, h1]
  · simp [h1]
  · have h3 : s3.firm = s.firm := by unfold s3; simp [h1]
    clear_value s3
    refine ite_firm h3 (ite_firm (ite_firm h3 ?_) ?_) <;> simp [h3]
@[simp] theorem State.auxShed_firm (s : State) (k : Nat) : (State.auxShed s k).firm = s.firm := by simp [State.auxShed]
@[simp] theorem State.releaseData_firm (s : State) : (State.releaseData s).firm = s.firm := by simp [State.releaseData]
@[simp] theorem State.portMeasure_firm (s : State) (p : Nat) (v i w : BitVec 16) : (State.portMeasure s p v i w).firm = s.firm := by simp [State.portMeasure]
@[simp] theorem State.putEach_firm (s : State) (f : Nat → Nat) (hi lo : Nat) (z0 : Nat) (z1 : List (BitVec 16)) : (State.putEach s f hi lo z0 z1).firm = s.firm := by
  induction z1 generalizing s z0 with
  | nil => simp [State.putEach]
  | cons v l ih => simp [State.putEach, ih]
@[simp] theorem State.sense_firm (s : State) (j : Nat) (t : BitVec 16) : (State.sense s j t).firm = s.firm := by simp [State.sense]
@[simp] theorem State.senseAll_firm (s : State) (z0 : Nat) (z1 : List (BitVec 16)) : (State.senseAll s z0 z1).firm = s.firm := by
  induction z1 generalizing s z0 with
  | nil => simp [State.senseAll]
  | cons v l ih => simp [State.senseAll, ih]
@[simp] theorem State.setTbl_firm (s : State) (t : Nat) (x : CycTable) : (State.setTbl s t x).firm = s.firm := by simp [State.setTbl]
@[simp] theorem State.copyAdm_firm (s : State) (t : Nat) : (State.copyAdm s t).firm = s.firm := by simp [State.copyAdm]
@[simp] theorem State.tblCmdErr_firm (s : State) (t : Nat) : (State.tblCmdErr s t).firm = s.firm := by simp [State.tblCmdErr]
@[simp] theorem State.tblEntryErr_firm (s : State) (t : Nat) : (State.tblEntryErr s t).firm = s.firm := by simp [State.tblEntryErr]
@[simp] theorem State.ctStart_firm (s : State) (t : Nat) (T : DWord) : (State.ctStart s t T).firm = s.firm := by simp [State.ctStart]
@[simp] theorem State.withdrawFrom_firm (s : State) (t : Nat) (b : DWord) : (State.withdrawFrom s t b).firm = s.firm := by simp [State.withdrawFrom]
@[simp] theorem State.ctStop_firm (s : State) (t : Nat) (T : DWord) : (State.ctStop s t T).firm = s.firm := by
  unfold State.ctStop
  (repeat' split) <;> (try simp) <;> (repeat' split) <;> (try simp)

end Sys2Proof.Machine
end

