-- ==== Sys2Proof/Laws/Firm6.lean ====
section
/-!
SUPPORT. Sys2Proof/Laws/Firm6.lean: what the operations of Machine/Tables, Sched, SelfTest, Startup, Trunk, RegAccess, Cmd, CmdRows leave as it was: the queue of waiting commands, the vault and the eFuses
(State.firm), one lemma per operation.
-/
set_option linter.all false
namespace Sys2Proof.Machine
@[simp] theorem State.ctSwap_firm (s : State) (t : Nat) (T : DWord) : (State.ctSwap s t T).firm = s.firm := by simp [State.ctSwap]
@[simp] theorem State.writeCtCtl_firm (s : State) (t : Nat) (w : Word) : (State.writeCtCtl s t w).firm = s.firm := by
  unfold State.writeCtCtl
  (repeat' split) <;> (try simp) <;> (repeat' split) <;> (try simp)
@[simp] theorem State.writeAdm_firm (s : State) (t a : Nat) (w : Word) : (State.writeAdm s t a w).firm = s.firm := by simp [State.writeAdm]
theorem State.ctOrder_firm (s : State) (op : Nat) (v : CtVia) (f : State → Nat → DWord → State)
    (h : ∀ s t d, (f s t d).firm = s.firm) : (s.ctOrder op v f).firm = s.firm := by
  unfold State.ctOrder
  (repeat' split) <;> simp [h] <;> (repeat' split) <;> simp [h]
@[simp] theorem State.portServed_firm (s : State) (p : Nat) : (State.portServed s p).firm = s.firm := by
  unfold State.portServed
  (repeat' split) <;> (try simp) <;> (repeat' split) <;> (try simp)
@[simp] theorem applyHeld_firm (z0 : List (Nat × Word)) (z1 : State) : (applyHeld z0 z1).firm = z1.firm := by
  induction z0 generalizing z1 with
  | nil => simp [applyHeld]
  | cons p l ih => simp [applyHeld, ih]
@[simp] theorem State.writeEntry_firm (s : State) (t e : Nat) (v : Nat) : (State.writeEntry s t e v).firm = s.firm := by simp [State.writeEntry]
@[simp] theorem State.postsDone_firm (s : State) (c : CmdRef) : (State.postsDone s c).firm = s.firm := by
  unfold State.postsDone
  (repeat' split) <;> (try simp) <;> (repeat' split) <;> (try simp)
@[simp] theorem State.postsDoneOf_firm (s : State) (o : PostOwner) : (State.postsDoneOf s o).firm = s.firm := by
  unfold State.postsDoneOf
  (repeat' split) <;> (try simp) <;> (repeat' split) <;> (try simp)
@[simp] theorem State.pushPosts_firm (s : State) (x : Command) (k n : Nat) : (State.pushPosts s x k n).firm = s.firm := by
  unfold State.pushPosts
  (repeat' split) <;> (try simp) <;> (repeat' split) <;> (try simp)
@[simp] theorem State.offerPosts_firm (s : State) (x : Command) : (State.offerPosts s x).firm = s.firm := by
  unfold State.offerPosts
  (repeat' split) <;> (try simp) <;> (repeat' split) <;> (try simp)
@[simp] theorem State.offerOn_firm (s : State) : (State.offerOn s).firm = s.firm := by
  unfold State.offerOn
  (repeat' split) <;> (try simp) <;> (repeat' split) <;> (try simp)
@[simp] theorem State.hostCancel_firm (s : State) (w : Word) : (State.hostCancel s w).1.firm = s.firm := by simp [State.hostCancel]
@[simp] theorem State.writeActCancel_firm (s : State) (w : Word) : (State.writeActCancel s w).firm = s.firm := by simp [State.writeActCancel]
@[simp] theorem State.launchStep_firm (s : State) (op p : Nat) : (State.launchStep s op p).firm = s.firm := by
  unfold State.launchStep
  (repeat' split) <;> (try simp) <;> (repeat' split) <;> (try simp)
@[simp] theorem State.armStep_firm (s : State) (op p : Nat) (arm : Delivered → Option Arming) : (State.armStep s op p arm).firm = s.firm := by
  unfold State.armStep
  (repeat' split) <;> (try simp) <;> (repeat' split) <;> (try simp)
@[simp] theorem State.counterStep_firm (s : State) (op n : Nat) (f : Word → Word → Word) : (State.counterStep s op n f).firm = s.firm := by
  unfold State.counterStep
  (repeat' split) <;> (try simp) <;> (repeat' split) <;> (try simp)
@[simp] theorem State.passEnd_firm (s : State) (t : Nat) : (State.passEnd s t).firm = s.firm := by simp [State.passEnd]
@[simp] theorem State.unitOver_firm (s : State) (t u : Nat) : (State.unitOver s t u).firm = s.firm := by
  unfold State.unitOver
  (repeat' split) <;> (try simp) <;> (repeat' split) <;> (try simp)
@[simp] theorem State.unitDone_firm (s : State) (t u : Nat) : (State.unitDone s t u).firm = s.firm := by simp [State.unitDone]
@[simp] theorem State.sliceOn_firm (s : State) (t u : Nat) : (State.sliceOn s t u).firm = s.firm := by
  unfold State.sliceOn
  (repeat' split) <;> (try simp) <;> (repeat' split) <;> (try simp)
@[simp] theorem State.sliceReturn_firm (s : State) (t : Nat) (sl : Slice) : (State.sliceReturn s t sl).firm = s.firm := by
  unfold State.sliceReturn
  split
  · split <;> simp
  · simp
  · simp
  · simp
  · simp
@[simp] theorem State.sliceLasting_firm (s : State) (t : Nat) (sl : Slice) (addr : Word) (bit : Nat) : (State.sliceLasting s t sl addr bit).firm = s.firm := by
  unfold State.sliceLasting
  (repeat' split) <;> (try simp) <;> (repeat' split) <;> (try simp)
@[simp] theorem State.writeReinstate_firm (s : State) (w : Word) : (State.writeReinstate s w).firm = s.firm := by simp [State.writeReinstate]
@[simp] theorem State.arbModes_firm (s : State) (m : Nat) : (State.arbModes s m).firm = s.firm := by simp [State.arbModes]
@[simp] theorem State.applyEngine_firm (s : State) (n : Nat) : (State.applyEngine s n).1.firm = s.firm := by
  unfold State.applyEngine
  (repeat' split) <;> (try simp) <;> (repeat' split) <;> (try simp)
@[simp] theorem State.applyBlock_firm (s : State) (kind unit : Nat) : (State.applyBlock s kind unit).1.firm = s.firm := by simp [State.applyBlock]
@[simp] theorem State.applyLog_firm (s : State) : (State.applyLog s).firm = s.firm := by
  unfold State.applyLog
  extract_lets step r
  refine ite_firm rfl ?_
  have h : r.1.firm = s.firm := by
    unfold r
    rw [foldl_firm1]
    intro p x
    unfold step
    (repeat' split) <;> simp
  simp
  exact h
@[simp] theorem State.enterFrost_firm (s : State) : (State.enterFrost s).firm = s.firm := by simp [State.enterFrost]
@[simp] theorem State.takeWhole_firm (s : State) (k : Nat) (plane : List (Nat × List Byte)) : (State.takeWhole s k plane).firm = s.firm := by simp [State.takeWhole]
@[simp] theorem State.imageUp_firm (s : State) (k : Nat) (plane : List (Nat × List Byte)) : (State.imageUp s k plane).firm = s.firm := by simp [State.imageUp]
@[simp] theorem State.enterService_firm (s : State) : (State.enterService s).firm = s.firm := by simp [State.enterService]
@[simp] theorem State.thawSector_firm (s : State) (i : Nat) : (State.thawSector s i).firm = s.firm := by simp [State.thawSector]
@[simp] theorem State.dropFront_firm (s : State) : (State.dropFront s).firm = s.firm := by
  unfold State.dropFront
  (repeat' split) <;> (try simp) <;> (repeat' split) <;> (try simp)
@[simp] theorem State.stopCycle_firm (s : State) (n : Nat) : (State.stopCycle s n).firm = s.firm := by
  unfold State.stopCycle
  (repeat' split) <;> (try simp) <;> (repeat' split) <;> (try simp)
@[simp] theorem State.stopTable_firm (s : State) (t : Nat) : (State.stopTable s t).firm = s.firm := by
  unfold State.stopTable
  (repeat' split) <;> (try simp) <;> (repeat' split) <;> (try simp)
@[simp] theorem State.stopFormat_firm (s : State) : (State.stopFormat s).firm = s.firm := by
  unfold State.stopFormat
  (repeat' split) <;> (try simp) <;> (repeat' split) <;> (try simp)
@[simp] theorem writeEntries_firm (t : Nat) (z0 : Nat) (z1 : Nat) (z2 : List Byte) (z3 : State) : (writeEntries t z0 z1 z2 z3).firm = z3.firm := by
  induction z0 generalizing z1 z2 z3 with
  | zero => simp [writeEntries]
  | succ n ih => simp [writeEntries, ih]
@[simp] theorem State.portSend_firm (s : State) (p : Nat) (f : List Byte) : (State.portSend s p f).firm = s.firm := by simp [State.portSend]
@[simp] theorem State.setCapable_firm (s : State) (p : Nat) (on : Bool) : (State.setCapable s p on).firm = s.firm := by simp [State.setCapable]
@[simp] theorem State.ptpMessage_firm (s : State) (p : Nat) (m : List Byte) : (State.ptpMessage s p m).firm = s.firm := by
  unfold State.ptpMessage
  (repeat' split) <;> (try simp) <;> (repeat' split) <;> (try simp)
@[simp] theorem State.writePortCtl_firm (s : State) (p : Nat) (w : Word) : (State.writePortCtl s p w).firm = s.firm := by simp [State.writePortCtl]
@[simp] theorem State.dropRx_firm (s : State) (p : Nat) : (State.dropRx s p).firm = s.firm := by simp [State.dropRx]
@[simp] theorem State.requestChange_firm (s : State) (p : Nat) : (State.requestChange s p).firm = s.firm := by simp [State.requestChange]
@[simp] theorem State.writeGclCtl_firm (s : State) (p : Nat) (w : Word) : (State.writeGclCtl s p w).firm = s.firm := by simp [State.writeGclCtl]
@[simp] theorem State.writeGclAdm_firm (s : State) (p a : Nat) (w : Word) : (State.writeGclAdm s p a w).firm = s.firm := by simp [State.writeGclAdm]
@[simp] theorem State.setRxs_firm (s : State) (i : Nat) (x : RxStream) : (State.setRxs s i x).firm = s.firm := by simp [State.setRxs]
@[simp] theorem State.recover_firm (s : State) (i p n : Nat) : (State.recover s i p n).1.firm = s.firm := by simp [State.recover]
@[simp] theorem State.eliminate_firm (s : State) (p : Nat) (f : List Byte) : (State.eliminate s p f).1.firm = s.firm := by
  unfold State.eliminate
  (repeat' split) <;> (try simp) <;> (repeat' split) <;> (try simp)
@[simp] theorem State.consume_firm (s : State) (p : Nat) (f : List Byte) : (State.consume s p f).firm = s.firm := by simp [State.consume]
@[simp] theorem State.writeEngWindow_firm (s : State) (n off : Nat) (w : Word) : (State.writeEngWindow s n off w).firm = s.firm := by
  unfold State.writeEngWindow
  (repeat' split) <;> (try simp) <;> (repeat' split) <;> (try simp)
@[simp] theorem State.writeRoute_firm (s : State) (a : Nat) (w : Word) : (State.writeRoute s a w).firm = s.firm := by simp [State.writeRoute]
@[simp] theorem State.writeHook_firm (s : State) (r : RegRow) (a : Nat) (w : Word) : (State.writeHook s r a w).firm = s.firm := by
  unfold State.writeHook
  (repeat' split) <;> (try simp) <;> (repeat' split) <;> (try simp)
@[simp] theorem State.writePair_firm (s : State) (r : RegRow) (a : Nat) (lo hi : Word) : (State.writePair s r a lo hi).firm = s.firm := by
  unfold State.writePair
  (repeat' split) <;> (try simp) <;> (repeat' split) <;> (try simp)
@[simp] theorem State.writeRow_firm (s : State) (r : RegRow) (a : Nat) (w : Word) : (State.writeRow s r a w).firm = s.firm := by
  unfold State.writeRow
  (repeat' split) <;> (try simp) <;> (repeat' split) <;> (try simp)
@[simp] theorem State.writeReg_firm (s : State) (a : Nat) (w : Word) : (State.writeReg s a w).firm = s.firm := by
  unfold State.writeReg
  (repeat' split) <;> (try simp) <;> (repeat' split) <;> (try simp)
@[simp] theorem State.readRow_firm (s : State) (r : RegRow) (a : Nat) : (State.readRow s r a).1.firm = s.firm := by
  unfold State.readRow
  (repeat' split) <;> (try simp) <;> (repeat' split) <;> (try simp)
@[simp] theorem State.readReg_firm (s : State) (a : Nat) (ecc : Ecc) : (State.readReg s a ecc).1.firm = s.firm := by
  unfold State.readReg
  (repeat' split) <;> (try simp) <;> (repeat' split) <;> (try simp)
@[simp] theorem State.renewLease_firm (s : State) (k : Nat) : (State.renewLease s k).firm = s.firm := by simp [State.renewLease]
@[simp] theorem State.endLease_firm (s : State) (bits : Nat) : (State.endLease s bits).firm = s.firm := by simp [State.endLease]
@[simp] theorem State.authDenied_firm (s : State) (x : Command) : (State.authDenied s x).firm = s.firm := by simp [State.authDenied]
@[simp] theorem State.closeSession_firm (s : State) (k : Nat) (timeout : Bool) : (State.closeSession s k timeout).firm = s.firm := by simp [State.closeSession]
@[simp] theorem State.tagFail_firm (s : State) : (State.tagFail s).firm = s.firm := by simp [State.tagFail]
@[simp] theorem State.takeSessionless_firm (s : State) (p : RxPacket) (k : Packet) : (State.takeSessionless s p k).firm = s.firm := by simp [State.takeSessionless]
@[simp] theorem State.noteStop_firm (s : State) (t : DWord) : (State.noteStop s t).firm = s.firm := by simp [State.noteStop]
@[simp] theorem State.acceptNew_firm (s : State) (k : Fin 4) (x : Command) (version : Nat) : (State.acceptNew s k x version).firm = s.firm := by simp [State.acceptNew]
@[simp] theorem State.takeOf_firm (s : State) (n : Fin 4) (p : RxPacket) : (State.takeOf s n p).firm = s.firm := by
  unfold State.takeOf
  (repeat' split) <;> (try simp) <;> (repeat' split) <;> (try simp)
@[simp] theorem State.takePacket_firm (s : State) (p : RxPacket) : (State.takePacket s p).firm = s.firm := by
  unfold State.takePacket
  (repeat' split) <;> (try simp) <;> (repeat' split) <;> (try simp)
@[simp] theorem State.replyOpen_firm (s : State) (x : Command) (key payload : List Byte) : (State.replyOpen s x key payload).firm = s.firm := by
  unfold State.replyOpen
  (repeat' split) <;> (try simp) <;> (repeat' split) <;> (try simp)
@[simp] theorem State.readWords_firm (s0 : State) (z0 z1 : Nat) (z2 : List Ecc) (z3 : State) (z4 : List Byte)
    (h : z3.firm = s0.firm) : (State.readWords s0 z0 z1 z2 z3 z4).1.firm = s0.firm := by
  induction z0 generalizing z1 z2 z3 z4 with
  | zero => simp [State.readWords, h]
  | succ n ih =>
    unfold State.readWords
    dsimp only
    split
    · exact ih _ _ _ _ (by simp [h])
    · simp
@[simp] theorem State.writeWords_firm (c : CmdRef) (z0 : List Byte) (z1 : Nat) (z2 : Nat) (z3 : State) : (State.writeWords c z0 z1 z2 z3).firm = z3.firm := by
  induction z1 generalizing z0 z2 z3 with
  | zero => simp [State.writeWords]
  | succ n ih =>
    unfold State.writeWords
    split
    · simp [ih]
    · rfl
@[simp] theorem State.holdFront_firm (s : State) : (State.holdFront s).1.firm = s.firm := by simp [State.holdFront]
@[simp] theorem State.holdTables_firm (s : State) (mask : Nat) : (State.holdTables s mask).firm = s.firm := by simp [State.holdTables]
@[simp] theorem State.applyFlags_firm (s : State) (h : HoldSpec) : (State.applyFlags s h).1.firm = s.firm := by simp [State.applyFlags]
@[simp] theorem State.applyHold_firm (s : State) (h : HoldSpec) : (State.applyHold s h).1.firm = s.firm := by simp [State.applyHold]
@[simp] theorem State.stopEngine_firm (s : State) (n : Nat) : (State.stopEngine s n).firm = s.firm := by
  unfold State.stopEngine
  (repeat' split) <;> (try simp) <;> (repeat' split) <;> (try simp)
@[simp] theorem provision_pending (s : State) (k i : Nat) (v : List Byte) : (s.provision k i v).1.pending = s.pending := by
  unfold State.provision
  (repeat' split) <;> (dsimp only; (repeat' split) <;> rfl)

end Sys2Proof.Machine
end

