-- ==== Sys2Proof/Laws/Regs.lean ====
section
/-!
SUPPORT. Sys2Proof/Laws/Regs.lean: reading the register table after a write of it, and the words, fields and bits read back.
-/
namespace Sys2Proof.Machine

/-- A double word is its two halves. -/
theorem pairW_loW_hiW (d : DWord) : pairW (loW d) (hiW d) = d := by
  unfold pairW loW hiW
  apply BitVec.eq_of_toNat_eq
  simp only [BitVec.toNat_ofNat]
  have := d.isLt
  rw [Nat.shiftLeft_eq, Nat.shiftRight_eq_div_pow]
  omega

/-- A register just written reads as the word written. -/
theorem State.getR_setR (s : State) (a : Nat) (w : Word) (h : s.regsWf = true) : (s.setR a w).getR a = w :=
  tabGet_tabPut_same _ _ _ _ h

/-- A write leaves every other register. -/
theorem State.getR_setR_ne (s : State) (a b : Nat) (w : Word) (h : b ≠ a) : (s.setR a w).getR b = s.getR b :=
  tabGet_tabPut_ne _ _ _ h

/-- A write of a bit leaves every other register. -/
theorem State.getR_setB_ne (s : State) (a b i : Nat) (v : Bool) (h : b ≠ a) : (s.setB a i v).getR b = s.getR b :=
  tabGet_tabPut_ne _ _ _ h

/-- A write of a field leaves every other register. -/
theorem State.getR_setF_ne (s : State) (a b hi lo v : Nat) (h : b ≠ a) : (s.setF a hi lo v).getR b = s.getR b :=
  tabGet_tabPut_ne _ _ _ h

/-- A bit cleared in a word reads 0. -/
theorem bitOf_clear (w : Word) (i : Nat) : bitOf (setFld w i i 0) i = false := by
  unfold bitOf setFld
  have h := w.isLt
  simp only [BitVec.toNat_ofNat, Nat.add_sub_cancel_left, Nat.shiftRight_eq_div_pow, Nat.shiftLeft_eq, pow_one, Nat.zero_mod, Nat.zero_mul, Nat.add_zero]
  rw [Nat.mod_eq_of_lt (by omega), Nat.testBit_eq_decide_div_mod_eq]
  have hq : 0 < 2 ^ i := Nat.two_pow_pos i
  generalize w.toNat = x
  generalize 2 ^ i = q at hq ⊢
  have h1 : x - x / q % 2 * q = (x % q) + q * (x / q - x / q % 2) := by
    have := Nat.div_add_mod x q
    have h2 : x / q % 2 ≤ x / q := Nat.mod_le _ _
    rw [Nat.mul_sub, Nat.mul_comm (x / q % 2) q]
    have h3 : q * (x / q % 2) ≤ q * (x / q) := Nat.mul_le_mul_left q h2
    omega
  rw [h1, Nat.add_mul_div_left _ _ hq, Nat.div_eq_of_lt (Nat.mod_lt _ hq)]
  simp; omega

/-- A bit cleared in a register reads 0. -/
theorem State.getB_setB_false (s : State) (a i : Nat) (h : s.regsWf = true) : (s.setB a i false).getB a i = false := by
  unfold State.getB State.setB State.setF
  rw [State.getR_setR _ _ _ h]; exact bitOf_clear _ _

/-- Held writes land one by one (R71). -/
theorem applyHeld_foldl (l : List (Nat × Word)) (s : State) : applyHeld l s = l.foldl (fun s p => s.setR p.1 p.2) s := by
  induction l generalizing s with
  | nil => rfl
  | cons p l ih => simp [applyHeld, ih]

/-- Taking free values moves the counter alone. -/
theorem State.freshBytes_eq (s : State) (n : Nat) : (s.freshBytes n).1 = { s with freeCtr := (s.freshBytes n).1.freeCtr } := by
  unfold State.freshBytes
  suffices h : ∀ (l : List Nat) (r : State × List Byte), r.1 = { s with freeCtr := r.1.freeCtr } →
      (l.foldl (fun r _ => let f := r.1.fresh; (f.1, r.2 ++ leBytes 8 f.2.toNat)) r).1 =
        { s with freeCtr := (l.foldl (fun r _ => let f := r.1.fresh; (f.1, r.2 ++ leBytes 8 f.2.toNat)) r).1.freeCtr } from h _ _ rfl
  intro l
  induction l with
  | nil => intro r h; exact h
  | cons a l ih => intro r h; rw [List.foldl_cons]; apply ih; dsimp only [State.fresh]; rw [h]

/-- Abandoning the NV operations touches their state and the counter alone. -/
theorem State.abandonNv_eq (s : State) : s.abandonNv = { s with nv := s.abandonNv.nv, freeCtr := s.abandonNv.freeCtr } := by
  unfold State.abandonNv
  dsimp only
  split
  · rfl
  · dsimp only; rw [State.freshBytes_eq]

/-- A wake requested again leaves the calendar and the action units. -/
theorem State.refreshPrewake_act (s : State) (d : Nat) : (s.refreshPrewake d).act = s.act := by
  unfold State.refreshPrewake State.setHold
  (repeat' split) <;> simp [State.setF, State.setB, State.setR, State.touch, State.setDomX]

end Sys2Proof.Machine
end

