-- ==== Sys2Proof/Laws/State.lean ====
section
/-!
SUPPORT. Sys2Proof/Laws/State.lean: what each elementary update of the state leaves as it was, one lemma per field, true by
definition.
-/
namespace Sys2Proof.Machine

variable (s : State)

/-! ### setR -/

@[simp] theorem State.setR_pairHeld (a : Nat) (w : Word) : (s.setR a w).pairHeld = s.pairHeld := rfl
@[simp] theorem State.setR_pairShadow (a : Nat) (w : Word) : (s.setR a w).pairShadow = s.pairShadow := rfl
@[simp] theorem State.setR_time (a : Nat) (w : Word) : (s.setR a w).time = s.time := rfl
@[simp] theorem State.setR_timeRuns (a : Nat) (w : Word) : (s.setR a w).timeRuns = s.timeRuns := rfl
@[simp] theorem State.setR_readData (a : Nat) (w : Word) : (s.setR a w).readData = s.readData := rfl
@[simp] theorem State.setR_freeCtr (a : Nat) (w : Word) : (s.setR a w).freeCtr = s.freeCtr := rfl
@[simp] theorem State.setR_clk (a : Nat) (w : Word) : (s.setR a w).clk = s.clk := rfl
@[simp] theorem State.setR_act (a : Nat) (w : Word) : (s.setR a w).act = s.act := rfl
@[simp] theorem State.setR_eng (a : Nat) (w : Word) : (s.setR a w).eng = s.eng := rfl
@[simp] theorem State.setR_cmd (a : Nat) (w : Word) : (s.setR a w).cmd = s.cmd := rfl
@[simp] theorem State.setR_arb (a : Nat) (w : Word) : (s.setR a w).arb = s.arb := rfl
@[simp] theorem State.setR_fab (a : Nat) (w : Word) : (s.setR a w).fab = s.fab := rfl
@[simp] theorem State.setR_cfg (a : Nat) (w : Word) : (s.setR a w).cfg = s.cfg := rfl
@[simp] theorem State.setR_net (a : Nat) (w : Word) : (s.setR a w).net = s.net := rfl
@[simp] theorem State.setR_dom (a : Nat) (w : Word) : (s.setR a w).dom = s.dom := rfl
@[simp] theorem State.setR_evt (a : Nat) (w : Word) : (s.setR a w).evt = s.evt := rfl
@[simp] theorem State.setR_tst (a : Nat) (w : Word) : (s.setR a w).tst = s.tst := rfl
@[simp] theorem State.setR_key (a : Nat) (w : Word) : (s.setR a w).key = s.key := rfl
@[simp] theorem State.setR_front (a : Nat) (w : Word) : (s.setR a w).front = s.front := rfl
@[simp] theorem State.setR_boot (a : Nat) (w : Word) : (s.setR a w).boot = s.boot := rfl
@[simp] theorem State.setR_nv (a : Nat) (w : Word) : (s.setR a w).nv = s.nv := rfl
@[simp] theorem State.setR_ana (a : Nat) (w : Word) : (s.setR a w).ana = s.ana := rfl
@[simp] theorem State.setR_pending (a : Nat) (w : Word) : (s.setR a w).pending = s.pending := rfl

/-! ### setF -/

@[simp] theorem State.setF_pairHeld (a : Nat) (hi : Nat) (lo : Nat) (v : Nat) : (s.setF a hi lo v).pairHeld = s.pairHeld := rfl
@[simp] theorem State.setF_pairShadow (a : Nat) (hi : Nat) (lo : Nat) (v : Nat) : (s.setF a hi lo v).pairShadow = s.pairShadow := rfl
@[simp] theorem State.setF_time (a : Nat) (hi : Nat) (lo : Nat) (v : Nat) : (s.setF a hi lo v).time = s.time := rfl
@[simp] theorem State.setF_timeRuns (a : Nat) (hi : Nat) (lo : Nat) (v : Nat) : (s.setF a hi lo v).timeRuns = s.timeRuns := rfl
@[simp] theorem State.setF_readData (a : Nat) (hi : Nat) (lo : Nat) (v : Nat) : (s.setF a hi lo v).readData = s.readData := rfl
@[simp] theorem State.setF_freeCtr (a : Nat) (hi : Nat) (lo : Nat) (v : Nat) : (s.setF a hi lo v).freeCtr = s.freeCtr := rfl
@[simp] theorem State.setF_clk (a : Nat) (hi : Nat) (lo : Nat) (v : Nat) : (s.setF a hi lo v).clk = s.clk := rfl
@[simp] theorem State.setF_act (a : Nat) (hi : Nat) (lo : Nat) (v : Nat) : (s.setF a hi lo v).act = s.act := rfl
@[simp] theorem State.setF_eng (a : Nat) (hi : Nat) (lo : Nat) (v : Nat) : (s.setF a hi lo v).eng = s.eng := rfl
@[simp] theorem State.setF_cmd (a : Nat) (hi : Nat) (lo : Nat) (v : Nat) : (s.setF a hi lo v).cmd = s.cmd := rfl
@[simp] theorem State.setF_arb (a : Nat) (hi : Nat) (lo : Nat) (v : Nat) : (s.setF a hi lo v).arb = s.arb := rfl
@[simp] theorem State.setF_fab (a : Nat) (hi : Nat) (lo : Nat) (v : Nat) : (s.setF a hi lo v).fab = s.fab := rfl
@[simp] theorem State.setF_cfg (a : Nat) (hi : Nat) (lo : Nat) (v : Nat) : (s.setF a hi lo v).cfg = s.cfg := rfl
@[simp] theorem State.setF_net (a : Nat) (hi : Nat) (lo : Nat) (v : Nat) : (s.setF a hi lo v).net = s.net := rfl
@[simp] theorem State.setF_dom (a : Nat) (hi : Nat) (lo : Nat) (v : Nat) : (s.setF a hi lo v).dom = s.dom := rfl
@[simp] theorem State.setF_evt (a : Nat) (hi : Nat) (lo : Nat) (v : Nat) : (s.setF a hi lo v).evt = s.evt := rfl
@[simp] theorem State.setF_tst (a : Nat) (hi : Nat) (lo : Nat) (v : Nat) : (s.setF a hi lo v).tst = s.tst := rfl
@[simp] theorem State.setF_key (a : Nat) (hi : Nat) (lo : Nat) (v : Nat) : (s.setF a hi lo v).key = s.key := rfl
@[simp] theorem State.setF_front (a : Nat) (hi : Nat) (lo : Nat) (v : Nat) : (s.setF a hi lo v).front = s.front := rfl
@[simp] theorem State.setF_boot (a : Nat) (hi : Nat) (lo : Nat) (v : Nat) : (s.setF a hi lo v).boot = s.boot := rfl
@[simp] theorem State.setF_nv (a : Nat) (hi : Nat) (lo : Nat) (v : Nat) : (s.setF a hi lo v).nv = s.nv := rfl
@[simp] theorem State.setF_ana (a : Nat) (hi : Nat) (lo : Nat) (v : Nat) : (s.setF a hi lo v).ana = s.ana := rfl
@[simp] theorem State.setF_pending (a : Nat) (hi : Nat) (lo : Nat) (v : Nat) : (s.setF a hi lo v).pending = s.pending := rfl

/-! ### setB -/

@[simp] theorem State.setB_pairHeld (a : Nat) (i : Nat) (b : Bool) : (s.setB a i b).pairHeld = s.pairHeld := rfl
@[simp] theorem State.setB_pairShadow (a : Nat) (i : Nat) (b : Bool) : (s.setB a i b).pairShadow = s.pairShadow := rfl
@[simp] theorem State.setB_time (a : Nat) (i : Nat) (b : Bool) : (s.setB a i b).time = s.time := rfl
@[simp] theorem State.setB_timeRuns (a : Nat) (i : Nat) (b : Bool) : (s.setB a i b).timeRuns = s.timeRuns := rfl
@[simp] theorem State.setB_readData (a : Nat) (i : Nat) (b : Bool) : (s.setB a i b).readData = s.readData := rfl
@[simp] theorem State.setB_freeCtr (a : Nat) (i : Nat) (b : Bool) : (s.setB a i b).freeCtr = s.freeCtr := rfl
@[simp] theorem State.setB_clk (a : Nat) (i : Nat) (b : Bool) : (s.setB a i b).clk = s.clk := rfl
@[simp] theorem State.setB_act (a : Nat) (i : Nat) (b : Bool) : (s.setB a i b).act = s.act := rfl
@[simp] theorem State.setB_eng (a : Nat) (i : Nat) (b : Bool) : (s.setB a i b).eng = s.eng := rfl
@[simp] theorem State.setB_cmd (a : Nat) (i : Nat) (b : Bool) : (s.setB a i b).cmd = s.cmd := rfl
@[simp] theorem State.setB_arb (a : Nat) (i : Nat) (b : Bool) : (s.setB a i b).arb = s.arb := rfl
@[simp] theorem State.setB_fab (a : Nat) (i : Nat) (b : Bool) : (s.setB a i b).fab = s.fab := rfl
@[simp] theorem State.setB_cfg (a : Nat) (i : Nat) (b : Bool) : (s.setB a i b).cfg = s.cfg := rfl
@[simp] theorem State.setB_net (a : Nat) (i : Nat) (b : Bool) : (s.setB a i b).net = s.net := rfl
@[simp] theorem State.setB_dom (a : Nat) (i : Nat) (b : Bool) : (s.setB a i b).dom = s.dom := rfl
@[simp] theorem State.setB_evt (a : Nat) (i : Nat) (b : Bool) : (s.setB a i b).evt = s.evt := rfl
@[simp] theorem State.setB_tst (a : Nat) (i : Nat) (b : Bool) : (s.setB a i b).tst = s.tst := rfl
@[simp] theorem State.setB_key (a : Nat) (i : Nat) (b : Bool) : (s.setB a i b).key = s.key := rfl
@[simp] theorem State.setB_front (a : Nat) (i : Nat) (b : Bool) : (s.setB a i b).front = s.front := rfl
@[simp] theorem State.setB_boot (a : Nat) (i : Nat) (b : Bool) : (s.setB a i b).boot = s.boot := rfl
@[simp] theorem State.setB_nv (a : Nat) (i : Nat) (b : Bool) : (s.setB a i b).nv = s.nv := rfl
@[simp] theorem State.setB_ana (a : Nat) (i : Nat) (b : Bool) : (s.setB a i b).ana = s.ana := rfl
@[simp] theorem State.setB_pending (a : Nat) (i : Nat) (b : Bool) : (s.setB a i b).pending = s.pending := rfl

/-! ### setD -/

@[simp] theorem State.setD_pairHeld (a : Nat) (d : DWord) : (s.setD a d).pairHeld = s.pairHeld := rfl
@[simp] theorem State.setD_pairShadow (a : Nat) (d : DWord) : (s.setD a d).pairShadow = s.pairShadow := rfl
@[simp] theorem State.setD_time (a : Nat) (d : DWord) : (s.setD a d).time = s.time := rfl
@[simp] theorem State.setD_timeRuns (a : Nat) (d : DWord) : (s.setD a d).timeRuns = s.timeRuns := rfl
@[simp] theorem State.setD_readData (a : Nat) (d : DWord) : (s.setD a d).readData = s.readData := rfl
@[simp] theorem State.setD_freeCtr (a : Nat) (d : DWord) : (s.setD a d).freeCtr = s.freeCtr := rfl
@[simp] theorem State.setD_clk (a : Nat) (d : DWord) : (s.setD a d).clk = s.clk := rfl
@[simp] theorem State.setD_act (a : Nat) (d : DWord) : (s.setD a d).act = s.act := rfl
@[simp] theorem State.setD_eng (a : Nat) (d : DWord) : (s.setD a d).eng = s.eng := rfl
@[simp] theorem State.setD_cmd (a : Nat) (d : DWord) : (s.setD a d).cmd = s.cmd := rfl
@[simp] theorem State.setD_arb (a : Nat) (d : DWord) : (s.setD a d).arb = s.arb := rfl
@[simp] theorem State.setD_fab (a : Nat) (d : DWord) : (s.setD a d).fab = s.fab := rfl
@[simp] theorem State.setD_cfg (a : Nat) (d : DWord) : (s.setD a d).cfg = s.cfg := rfl
@[simp] theorem State.setD_net (a : Nat) (d : DWord) : (s.setD a d).net = s.net := rfl
@[simp] theorem State.setD_dom (a : Nat) (d : DWord) : (s.setD a d).dom = s.dom := rfl
@[simp] theorem State.setD_evt (a : Nat) (d : DWord) : (s.setD a d).evt = s.evt := rfl
@[simp] theorem State.setD_tst (a : Nat) (d : DWord) : (s.setD a d).tst = s.tst := rfl
@[simp] theorem State.setD_key (a : Nat) (d : DWord) : (s.setD a d).key = s.key := rfl
@[simp] theorem State.setD_front (a : Nat) (d : DWord) : (s.setD a d).front = s.front := rfl
@[simp] theorem State.setD_boot (a : Nat) (d : DWord) : (s.setD a d).boot = s.boot := rfl
@[simp] theorem State.setD_nv (a : Nat) (d : DWord) : (s.setD a d).nv = s.nv := rfl
@[simp] theorem State.setD_ana (a : Nat) (d : DWord) : (s.setD a d).ana = s.ana := rfl
@[simp] theorem State.setD_pending (a : Nat) (d : DWord) : (s.setD a d).pending = s.pending := rfl

/-! ### addF -/

@[simp] theorem State.addF_pairHeld (a : Nat) (hi : Nat) (lo : Nat) (n : Nat) : (s.addF a hi lo n).pairHeld = s.pairHeld := rfl
@[simp] theorem State.addF_pairShadow (a : Nat) (hi : Nat) (lo : Nat) (n : Nat) : (s.addF a hi lo n).pairShadow = s.pairShadow := rfl
@[simp] theorem State.addF_time (a : Nat) (hi : Nat) (lo : Nat) (n : Nat) : (s.addF a hi lo n).time = s.time := rfl
@[simp] theorem State.addF_timeRuns (a : Nat) (hi : Nat) (lo : Nat) (n : Nat) : (s.addF a hi lo n).timeRuns = s.timeRuns := rfl
@[simp] theorem State.addF_readData (a : Nat) (hi : Nat) (lo : Nat) (n : Nat) : (s.addF a hi lo n).readData = s.readData := rfl
@[simp] theorem State.addF_freeCtr (a : Nat) (hi : Nat) (lo : Nat) (n : Nat) : (s.addF a hi lo n).freeCtr = s.freeCtr := rfl
@[simp] theorem State.addF_clk (a : Nat) (hi : Nat) (lo : Nat) (n : Nat) : (s.addF a hi lo n).clk = s.clk := rfl
@[simp] theorem State.addF_act (a : Nat) (hi : Nat) (lo : Nat) (n : Nat) : (s.addF a hi lo n).act = s.act := rfl
@[simp] theorem State.addF_eng (a : Nat) (hi : Nat) (lo : Nat) (n : Nat) : (s.addF a hi lo n).eng = s.eng := rfl
@[simp] theorem State.addF_cmd (a : Nat) (hi : Nat) (lo : Nat) (n : Nat) : (s.addF a hi lo n).cmd = s.cmd := rfl
@[simp] theorem State.addF_arb (a : Nat) (hi : Nat) (lo : Nat) (n : Nat) : (s.addF a hi lo n).arb = s.arb := rfl
@[simp] theorem State.addF_fab (a : Nat) (hi : Nat) (lo : Nat) (n : Nat) : (s.addF a hi lo n).fab = s.fab := rfl
@[simp] theorem State.addF_cfg (a : Nat) (hi : Nat) (lo : Nat) (n : Nat) : (s.addF a hi lo n).cfg = s.cfg := rfl
@[simp] theorem State.addF_net (a : Nat) (hi : Nat) (lo : Nat) (n : Nat) : (s.addF a hi lo n).net = s.net := rfl
@[simp] theorem State.addF_dom (a : Nat) (hi : Nat) (lo : Nat) (n : Nat) : (s.addF a hi lo n).dom = s.dom := rfl
@[simp] theorem State.addF_evt (a : Nat) (hi : Nat) (lo : Nat) (n : Nat) : (s.addF a hi lo n).evt = s.evt := rfl
@[simp] theorem State.addF_tst (a : Nat) (hi : Nat) (lo : Nat) (n : Nat) : (s.addF a hi lo n).tst = s.tst := rfl
@[simp] theorem State.addF_key (a : Nat) (hi : Nat) (lo : Nat) (n : Nat) : (s.addF a hi lo n).key = s.key := rfl
@[simp] theorem State.addF_front (a : Nat) (hi : Nat) (lo : Nat) (n : Nat) : (s.addF a hi lo n).front = s.front := rfl
@[simp] theorem State.addF_boot (a : Nat) (hi : Nat) (lo : Nat) (n : Nat) : (s.addF a hi lo n).boot = s.boot := rfl
@[simp] theorem State.addF_nv (a : Nat) (hi : Nat) (lo : Nat) (n : Nat) : (s.addF a hi lo n).nv = s.nv := rfl
@[simp] theorem State.addF_ana (a : Nat) (hi : Nat) (lo : Nat) (n : Nat) : (s.addF a hi lo n).ana = s.ana := rfl
@[simp] theorem State.addF_pending (a : Nat) (hi : Nat) (lo : Nat) (n : Nat) : (s.addF a hi lo n).pending = s.pending := rfl

/-! ### setDomX -/

@[simp] theorem State.setDomX_regs (d : Nat) (x : Domain) : (s.setDomX d x).regs = s.regs := rfl
@[simp] theorem State.setDomX_pairHeld (d : Nat) (x : Domain) : (s.setDomX d x).pairHeld = s.pairHeld := rfl
@[simp] theorem State.setDomX_pairShadow (d : Nat) (x : Domain) : (s.setDomX d x).pairShadow = s.pairShadow := rfl
@[simp] theorem State.setDomX_time (d : Nat) (x : Domain) : (s.setDomX d x).time = s.time := rfl
@[simp] theorem State.setDomX_timeRuns (d : Nat) (x : Domain) : (s.setDomX d x).timeRuns = s.timeRuns := rfl
@[simp] theorem State.setDomX_readData (d : Nat) (x : Domain) : (s.setDomX d x).readData = s.readData := rfl
@[simp] theorem State.setDomX_freeCtr (d : Nat) (x : Domain) : (s.setDomX d x).freeCtr = s.freeCtr := rfl
@[simp] theorem State.setDomX_clk (d : Nat) (x : Domain) : (s.setDomX d x).clk = s.clk := rfl
@[simp] theorem State.setDomX_act (d : Nat) (x : Domain) : (s.setDomX d x).act = s.act := rfl
@[simp] theorem State.setDomX_eng (d : Nat) (x : Domain) : (s.setDomX d x).eng = s.eng := rfl
@[simp] theorem State.setDomX_cmd (d : Nat) (x : Domain) : (s.setDomX d x).cmd = s.cmd := rfl
@[simp] theorem State.setDomX_arb (d : Nat) (x : Domain) : (s.setDomX d x).arb = s.arb := rfl
@[simp] theorem State.setDomX_fab (d : Nat) (x : Domain) : (s.setDomX d x).fab = s.fab := rfl
@[simp] theorem State.setDomX_cfg (d : Nat) (x : Domain) : (s.setDomX d x).cfg = s.cfg := rfl
@[simp] theorem State.setDomX_net (d : Nat) (x : Domain) : (s.setDomX d x).net = s.net := rfl
@[simp] theorem State.setDomX_evt (d : Nat) (x : Domain) : (s.setDomX d x).evt = s.evt := rfl
@[simp] theorem State.setDomX_tst (d : Nat) (x : Domain) : (s.setDomX d x).tst = s.tst := rfl
@[simp] theorem State.setDomX_key (d : Nat) (x : Domain) : (s.setDomX d x).key = s.key := rfl
@[simp] theorem State.setDomX_front (d : Nat) (x : Domain) : (s.setDomX d x).front = s.front := rfl
@[simp] theorem State.setDomX_boot (d : Nat) (x : Domain) : (s.setDomX d x).boot = s.boot := rfl
@[simp] theorem State.setDomX_nv (d : Nat) (x : Domain) : (s.setDomX d x).nv = s.nv := rfl
@[simp] theorem State.setDomX_ana (d : Nat) (x : Domain) : (s.setDomX d x).ana = s.ana := rfl
@[simp] theorem State.setDomX_pending (d : Nat) (x : Domain) : (s.setDomX d x).pending = s.pending := rfl

/-! ### setLeng -/

@[simp] theorem State.setLeng_regs (e : Nat) (x : LEng) : (s.setLeng e x).regs = s.regs := rfl
@[simp] theorem State.setLeng_pairHeld (e : Nat) (x : LEng) : (s.setLeng e x).pairHeld = s.pairHeld := rfl
@[simp] theorem State.setLeng_pairShadow (e : Nat) (x : LEng) : (s.setLeng e x).pairShadow = s.pairShadow := rfl
@[simp] theorem State.setLeng_time (e : Nat) (x : LEng) : (s.setLeng e x).time = s.time := rfl
@[simp] theorem State.setLeng_timeRuns (e : Nat) (x : LEng) : (s.setLeng e x).timeRuns = s.timeRuns := rfl
@[simp] theorem State.setLeng_readData (e : Nat) (x : LEng) : (s.setLeng e x).readData = s.readData := rfl
@[simp] theorem State.setLeng_freeCtr (e : Nat) (x : LEng) : (s.setLeng e x).freeCtr = s.freeCtr := rfl
@[simp] theorem State.setLeng_clk (e : Nat) (x : LEng) : (s.setLeng e x).clk = s.clk := rfl
@[simp] theorem State.setLeng_act (e : Nat) (x : LEng) : (s.setLeng e x).act = s.act := rfl
@[simp] theorem State.setLeng_cmd (e : Nat) (x : LEng) : (s.setLeng e x).cmd = s.cmd := rfl
@[simp] theorem State.setLeng_arb (e : Nat) (x : LEng) : (s.setLeng e x).arb = s.arb := rfl
@[simp] theorem State.setLeng_fab (e : Nat) (x : LEng) : (s.setLeng e x).fab = s.fab := rfl
@[simp] theorem State.setLeng_cfg (e : Nat) (x : LEng) : (s.setLeng e x).cfg = s.cfg := rfl
@[simp] theorem State.setLeng_net (e : Nat) (x : LEng) : (s.setLeng e x).net = s.net := rfl
@[simp] theorem State.setLeng_dom (e : Nat) (x : LEng) : (s.setLeng e x).dom = s.dom := rfl
@[simp] theorem State.setLeng_evt (e : Nat) (x : LEng) : (s.setLeng e x).evt = s.evt := rfl
@[simp] theorem State.setLeng_tst (e : Nat) (x : LEng) : (s.setLeng e x).tst = s.tst := rfl
@[simp] theorem State.setLeng_key (e : Nat) (x : LEng) : (s.setLeng e x).key = s.key := rfl
@[simp] theorem State.setLeng_front (e : Nat) (x : LEng) : (s.setLeng e x).front = s.front := rfl
@[simp] theorem State.setLeng_boot (e : Nat) (x : LEng) : (s.setLeng e x).boot = s.boot := rfl
@[simp] theorem State.setLeng_nv (e : Nat) (x : LEng) : (s.setLeng e x).nv = s.nv := rfl
@[simp] theorem State.setLeng_ana (e : Nat) (x : LEng) : (s.setLeng e x).ana = s.ana := rfl
@[simp] theorem State.setLeng_pending (e : Nat) (x : LEng) : (s.setLeng e x).pending = s.pending := rfl

/-! ### setArb -/

@[simp] theorem State.setArb_regs (r : Nat) (x : Arbiter) : (s.setArb r x).regs = s.regs := rfl
@[simp] theorem State.setArb_pairHeld (r : Nat) (x : Arbiter) : (s.setArb r x).pairHeld = s.pairHeld := rfl
@[simp] theorem State.setArb_pairShadow (r : Nat) (x : Arbiter) : (s.setArb r x).pairShadow = s.pairShadow := rfl
@[simp] theorem State.setArb_time (r : Nat) (x : Arbiter) : (s.setArb r x).time = s.time := rfl
@[simp] theorem State.setArb_timeRuns (r : Nat) (x : Arbiter) : (s.setArb r x).timeRuns = s.timeRuns := rfl
@[simp] theorem State.setArb_readData (r : Nat) (x : Arbiter) : (s.setArb r x).readData = s.readData := rfl
@[simp] theorem State.setArb_freeCtr (r : Nat) (x : Arbiter) : (s.setArb r x).freeCtr = s.freeCtr := rfl
@[simp] theorem State.setArb_clk (r : Nat) (x : Arbiter) : (s.setArb r x).clk = s.clk := rfl
@[simp] theorem State.setArb_act (r : Nat) (x : Arbiter) : (s.setArb r x).act = s.act := rfl
@[simp] theorem State.setArb_eng (r : Nat) (x : Arbiter) : (s.setArb r x).eng = s.eng := rfl
@[simp] theorem State.setArb_cmd (r : Nat) (x : Arbiter) : (s.setArb r x).cmd = s.cmd := rfl
@[simp] theorem State.setArb_fab (r : Nat) (x : Arbiter) : (s.setArb r x).fab = s.fab := rfl
@[simp] theorem State.setArb_cfg (r : Nat) (x : Arbiter) : (s.setArb r x).cfg = s.cfg := rfl
@[simp] theorem State.setArb_net (r : Nat) (x : Arbiter) : (s.setArb r x).net = s.net := rfl
@[simp] theorem State.setArb_dom (r : Nat) (x : Arbiter) : (s.setArb r x).dom = s.dom := rfl
@[simp] theorem State.setArb_evt (r : Nat) (x : Arbiter) : (s.setArb r x).evt = s.evt := rfl
@[simp] theorem State.setArb_tst (r : Nat) (x : Arbiter) : (s.setArb r x).tst = s.tst := rfl
@[simp] theorem State.setArb_key (r : Nat) (x : Arbiter) : (s.setArb r x).key = s.key := rfl
@[simp] theorem State.setArb_front (r : Nat) (x : Arbiter) : (s.setArb r x).front = s.front := rfl
@[simp] theorem State.setArb_boot (r : Nat) (x : Arbiter) : (s.setArb r x).boot = s.boot := rfl
@[simp] theorem State.setArb_nv (r : Nat) (x : Arbiter) : (s.setArb r x).nv = s.nv := rfl
@[simp] theorem State.setArb_ana (r : Nat) (x : Arbiter) : (s.setArb r x).ana = s.ana := rfl
@[simp] theorem State.setArb_pending (r : Nat) (x : Arbiter) : (s.setArb r x).pending = s.pending := rfl

/-! ### setSector -/

@[simp] theorem State.setSector_regs (i : Nat) (x : Sector) : (s.setSector i x).regs = s.regs := rfl
@[simp] theorem State.setSector_pairHeld (i : Nat) (x : Sector) : (s.setSector i x).pairHeld = s.pairHeld := rfl
@[simp] theorem State.setSector_pairShadow (i : Nat) (x : Sector) : (s.setSector i x).pairShadow = s.pairShadow := rfl
@[simp] theorem State.setSector_time (i : Nat) (x : Sector) : (s.setSector i x).time = s.time := rfl
@[simp] theorem State.setSector_timeRuns (i : Nat) (x : Sector) : (s.setSector i x).timeRuns = s.timeRuns := rfl
@[simp] theorem State.setSector_readData (i : Nat) (x : Sector) : (s.setSector i x).readData = s.readData := rfl
@[simp] theorem State.setSector_freeCtr (i : Nat) (x : Sector) : (s.setSector i x).freeCtr = s.freeCtr := rfl
@[simp] theorem State.setSector_clk (i : Nat) (x : Sector) : (s.setSector i x).clk = s.clk := rfl
@[simp] theorem State.setSector_act (i : Nat) (x : Sector) : (s.setSector i x).act = s.act := rfl
@[simp] theorem State.setSector_eng (i : Nat) (x : Sector) : (s.setSector i x).eng = s.eng := rfl
@[simp] theorem State.setSector_cmd (i : Nat) (x : Sector) : (s.setSector i x).cmd = s.cmd := rfl
@[simp] theorem State.setSector_arb (i : Nat) (x : Sector) : (s.setSector i x).arb = s.arb := rfl
@[simp] theorem State.setSector_cfg (i : Nat) (x : Sector) : (s.setSector i x).cfg = s.cfg := rfl
@[simp] theorem State.setSector_net (i : Nat) (x : Sector) : (s.setSector i x).net = s.net := rfl
@[simp] theorem State.setSector_dom (i : Nat) (x : Sector) : (s.setSector i x).dom = s.dom := rfl
@[simp] theorem State.setSector_evt (i : Nat) (x : Sector) : (s.setSector i x).evt = s.evt := rfl
@[simp] theorem State.setSector_tst (i : Nat) (x : Sector) : (s.setSector i x).tst = s.tst := rfl
@[simp] theorem State.setSector_key (i : Nat) (x : Sector) : (s.setSector i x).key = s.key := rfl
@[simp] theorem State.setSector_front (i : Nat) (x : Sector) : (s.setSector i x).front = s.front := rfl
@[simp] theorem State.setSector_boot (i : Nat) (x : Sector) : (s.setSector i x).boot = s.boot := rfl
@[simp] theorem State.setSector_nv (i : Nat) (x : Sector) : (s.setSector i x).nv = s.nv := rfl
@[simp] theorem State.setSector_ana (i : Nat) (x : Sector) : (s.setSector i x).ana = s.ana := rfl
@[simp] theorem State.setSector_pending (i : Nat) (x : Sector) : (s.setSector i x).pending = s.pending := rfl

/-! ### setTrace -/

@[simp] theorem State.setTrace_regs (x : Trace) : (s.setTrace x).regs = s.regs := rfl
@[simp] theorem State.setTrace_pairHeld (x : Trace) : (s.setTrace x).pairHeld = s.pairHeld := rfl
@[simp] theorem State.setTrace_pairShadow (x : Trace) : (s.setTrace x).pairShadow = s.pairShadow := rfl
@[simp] theorem State.setTrace_time (x : Trace) : (s.setTrace x).time = s.time := rfl
@[simp] theorem State.setTrace_timeRuns (x : Trace) : (s.setTrace x).timeRuns = s.timeRuns := rfl
@[simp] theorem State.setTrace_readData (x : Trace) : (s.setTrace x).readData = s.readData := rfl
@[simp] theorem State.setTrace_freeCtr (x : Trace) : (s.setTrace x).freeCtr = s.freeCtr := rfl
@[simp] theorem State.setTrace_clk (x : Trace) : (s.setTrace x).clk = s.clk := rfl
@[simp] theorem State.setTrace_act (x : Trace) : (s.setTrace x).act = s.act := rfl
@[simp] theorem State.setTrace_eng (x : Trace) : (s.setTrace x).eng = s.eng := rfl
@[simp] theorem State.setTrace_cmd (x : Trace) : (s.setTrace x).cmd = s.cmd := rfl
@[simp] theorem State.setTrace_arb (x : Trace) : (s.setTrace x).arb = s.arb := rfl
@[simp] theorem State.setTrace_cfg (x : Trace) : (s.setTrace x).cfg = s.cfg := rfl
@[simp] theorem State.setTrace_net (x : Trace) : (s.setTrace x).net = s.net := rfl
@[simp] theorem State.setTrace_dom (x : Trace) : (s.setTrace x).dom = s.dom := rfl
@[simp] theorem State.setTrace_evt (x : Trace) : (s.setTrace x).evt = s.evt := rfl
@[simp] theorem State.setTrace_tst (x : Trace) : (s.setTrace x).tst = s.tst := rfl
@[simp] theorem State.setTrace_key (x : Trace) : (s.setTrace x).key = s.key := rfl
@[simp] theorem State.setTrace_front (x : Trace) : (s.setTrace x).front = s.front := rfl
@[simp] theorem State.setTrace_boot (x : Trace) : (s.setTrace x).boot = s.boot := rfl
@[simp] theorem State.setTrace_nv (x : Trace) : (s.setTrace x).nv = s.nv := rfl
@[simp] theorem State.setTrace_ana (x : Trace) : (s.setTrace x).ana = s.ana := rfl
@[simp] theorem State.setTrace_pending (x : Trace) : (s.setTrace x).pending = s.pending := rfl

/-! ### setDtype -/

@[simp] theorem State.setDtype_regs (t : Nat) (x : DrizzleType) : (s.setDtype t x).regs = s.regs := rfl
@[simp] theorem State.setDtype_pairHeld (t : Nat) (x : DrizzleType) : (s.setDtype t x).pairHeld = s.pairHeld := rfl
@[simp] theorem State.setDtype_pairShadow (t : Nat) (x : DrizzleType) : (s.setDtype t x).pairShadow = s.pairShadow := rfl
@[simp] theorem State.setDtype_time (t : Nat) (x : DrizzleType) : (s.setDtype t x).time = s.time := rfl
@[simp] theorem State.setDtype_timeRuns (t : Nat) (x : DrizzleType) : (s.setDtype t x).timeRuns = s.timeRuns := rfl
@[simp] theorem State.setDtype_readData (t : Nat) (x : DrizzleType) : (s.setDtype t x).readData = s.readData := rfl
@[simp] theorem State.setDtype_freeCtr (t : Nat) (x : DrizzleType) : (s.setDtype t x).freeCtr = s.freeCtr := rfl
@[simp] theorem State.setDtype_clk (t : Nat) (x : DrizzleType) : (s.setDtype t x).clk = s.clk := rfl
@[simp] theorem State.setDtype_act (t : Nat) (x : DrizzleType) : (s.setDtype t x).act = s.act := rfl
@[simp] theorem State.setDtype_eng (t : Nat) (x : DrizzleType) : (s.setDtype t x).eng = s.eng := rfl
@[simp] theorem State.setDtype_cmd (t : Nat) (x : DrizzleType) : (s.setDtype t x).cmd = s.cmd := rfl
@[simp] theorem State.setDtype_arb (t : Nat) (x : DrizzleType) : (s.setDtype t x).arb = s.arb := rfl
@[simp] theorem State.setDtype_fab (t : Nat) (x : DrizzleType) : (s.setDtype t x).fab = s.fab := rfl
@[simp] theorem State.setDtype_cfg (t : Nat) (x : DrizzleType) : (s.setDtype t x).cfg = s.cfg := rfl
@[simp] theorem State.setDtype_net (t : Nat) (x : DrizzleType) : (s.setDtype t x).net = s.net := rfl
@[simp] theorem State.setDtype_dom (t : Nat) (x : DrizzleType) : (s.setDtype t x).dom = s.dom := rfl
@[simp] theorem State.setDtype_evt (t : Nat) (x : DrizzleType) : (s.setDtype t x).evt = s.evt := rfl
@[simp] theorem State.setDtype_key (t : Nat) (x : DrizzleType) : (s.setDtype t x).key = s.key := rfl
@[simp] theorem State.setDtype_front (t : Nat) (x : DrizzleType) : (s.setDtype t x).front = s.front := rfl
@[simp] theorem State.setDtype_boot (t : Nat) (x : DrizzleType) : (s.setDtype t x).boot = s.boot := rfl
@[simp] theorem State.setDtype_nv (t : Nat) (x : DrizzleType) : (s.setDtype t x).nv = s.nv := rfl
@[simp] theorem State.setDtype_ana (t : Nat) (x : DrizzleType) : (s.setDtype t x).ana = s.ana := rfl
@[simp] theorem State.setDtype_pending (t : Nat) (x : DrizzleType) : (s.setDtype t x).pending = s.pending := rfl

/-! ### setFifo -/

@[simp] theorem State.setFifo_regs (p : Nat) (l : List PortRec) : (s.setFifo p l).regs = s.regs := rfl
@[simp] theorem State.setFifo_pairHeld (p : Nat) (l : List PortRec) : (s.setFifo p l).pairHeld = s.pairHeld := rfl
@[simp] theorem State.setFifo_pairShadow (p : Nat) (l : List PortRec) : (s.setFifo p l).pairShadow = s.pairShadow := rfl
@[simp] theorem State.setFifo_time (p : Nat) (l : List PortRec) : (s.setFifo p l).time = s.time := rfl
@[simp] theorem State.setFifo_timeRuns (p : Nat) (l : List PortRec) : (s.setFifo p l).timeRuns = s.timeRuns := rfl
@[simp] theorem State.setFifo_readData (p : Nat) (l : List PortRec) : (s.setFifo p l).readData = s.readData := rfl
@[simp] theorem State.setFifo_freeCtr (p : Nat) (l : List PortRec) : (s.setFifo p l).freeCtr = s.freeCtr := rfl
@[simp] theorem State.setFifo_clk (p : Nat) (l : List PortRec) : (s.setFifo p l).clk = s.clk := rfl
@[simp] theorem State.setFifo_eng (p : Nat) (l : List PortRec) : (s.setFifo p l).eng = s.eng := rfl
@[simp] theorem State.setFifo_cmd (p : Nat) (l : List PortRec) : (s.setFifo p l).cmd = s.cmd := rfl
@[simp] theorem State.setFifo_arb (p : Nat) (l : List PortRec) : (s.setFifo p l).arb = s.arb := rfl
@[simp] theorem State.setFifo_fab (p : Nat) (l : List PortRec) : (s.setFifo p l).fab = s.fab := rfl
@[simp] theorem State.setFifo_cfg (p : Nat) (l : List PortRec) : (s.setFifo p l).cfg = s.cfg := rfl
@[simp] theorem State.setFifo_net (p : Nat) (l : List PortRec) : (s.setFifo p l).net = s.net := rfl
@[simp] theorem State.setFifo_dom (p : Nat) (l : List PortRec) : (s.setFifo p l).dom = s.dom := rfl
@[simp] theorem State.setFifo_evt (p : Nat) (l : List PortRec) : (s.setFifo p l).evt = s.evt := rfl
@[simp] theorem State.setFifo_tst (p : Nat) (l : List PortRec) : (s.setFifo p l).tst = s.tst := rfl
@[simp] theorem State.setFifo_key (p : Nat) (l : List PortRec) : (s.setFifo p l).key = s.key := rfl
@[simp] theorem State.setFifo_front (p : Nat) (l : List PortRec) : (s.setFifo p l).front = s.front := rfl
@[simp] theorem State.setFifo_boot (p : Nat) (l : List PortRec) : (s.setFifo p l).boot = s.boot := rfl
@[simp] theorem State.setFifo_nv (p : Nat) (l : List PortRec) : (s.setFifo p l).nv = s.nv := rfl
@[simp] theorem State.setFifo_ana (p : Nat) (l : List PortRec) : (s.setFifo p l).ana = s.ana := rfl
@[simp] theorem State.setFifo_pending (p : Nat) (l : List PortRec) : (s.setFifo p l).pending = s.pending := rfl

/-! ### setCell -/

@[simp] theorem State.setCell_regs (p : Nat) (x : LaunchCell) : (s.setCell p x).regs = s.regs := rfl
@[simp] theorem State.setCell_pairHeld (p : Nat) (x : LaunchCell) : (s.setCell p x).pairHeld = s.pairHeld := rfl
@[simp] theorem State.setCell_pairShadow (p : Nat) (x : LaunchCell) : (s.setCell p x).pairShadow = s.pairShadow := rfl
@[simp] theorem State.setCell_time (p : Nat) (x : LaunchCell) : (s.setCell p x).time = s.time := rfl
@[simp] theorem State.setCell_timeRuns (p : Nat) (x : LaunchCell) : (s.setCell p x).timeRuns = s.timeRuns := rfl
@[simp] theorem State.setCell_readData (p : Nat) (x : LaunchCell) : (s.setCell p x).readData = s.readData := rfl
@[simp] theorem State.setCell_freeCtr (p : Nat) (x : LaunchCell) : (s.setCell p x).freeCtr = s.freeCtr := rfl
@[simp] theorem State.setCell_clk (p : Nat) (x : LaunchCell) : (s.setCell p x).clk = s.clk := rfl
@[simp] theorem State.setCell_eng (p : Nat) (x : LaunchCell) : (s.setCell p x).eng = s.eng := rfl
@[simp] theorem State.setCell_cmd (p : Nat) (x : LaunchCell) : (s.setCell p x).cmd = s.cmd := rfl
@[simp] theorem State.setCell_arb (p : Nat) (x : LaunchCell) : (s.setCell p x).arb = s.arb := rfl
@[simp] theorem State.setCell_fab (p : Nat) (x : LaunchCell) : (s.setCell p x).fab = s.fab := rfl
@[simp] theorem State.setCell_cfg (p : Nat) (x : LaunchCell) : (s.setCell p x).cfg = s.cfg := rfl
@[simp] theorem State.setCell_net (p : Nat) (x : LaunchCell) : (s.setCell p x).net = s.net := rfl
@[simp] theorem State.setCell_dom (p : Nat) (x : LaunchCell) : (s.setCell p x).dom = s.dom := rfl
@[simp] theorem State.setCell_evt (p : Nat) (x : LaunchCell) : (s.setCell p x).evt = s.evt := rfl
@[simp] theorem State.setCell_tst (p : Nat) (x : LaunchCell) : (s.setCell p x).tst = s.tst := rfl
@[simp] theorem State.setCell_key (p : Nat) (x : LaunchCell) : (s.setCell p x).key = s.key := rfl
@[simp] theorem State.setCell_front (p : Nat) (x : LaunchCell) : (s.setCell p x).front = s.front := rfl
@[simp] theorem State.setCell_boot (p : Nat) (x : LaunchCell) : (s.setCell p x).boot = s.boot := rfl
@[simp] theorem State.setCell_nv (p : Nat) (x : LaunchCell) : (s.setCell p x).nv = s.nv := rfl
@[simp] theorem State.setCell_ana (p : Nat) (x : LaunchCell) : (s.setCell p x).ana = s.ana := rfl
@[simp] theorem State.setCell_pending (p : Nat) (x : LaunchCell) : (s.setCell p x).pending = s.pending := rfl

/-! ### setRing -/

@[simp] theorem State.setRing_regs (r : Nat) (x : CapRing) : (s.setRing r x).regs = s.regs := rfl
@[simp] theorem State.setRing_pairHeld (r : Nat) (x : CapRing) : (s.setRing r x).pairHeld = s.pairHeld := rfl
@[simp] theorem State.setRing_pairShadow (r : Nat) (x : CapRing) : (s.setRing r x).pairShadow = s.pairShadow := rfl
@[simp] theorem State.setRing_time (r : Nat) (x : CapRing) : (s.setRing r x).time = s.time := rfl
@[simp] theorem State.setRing_timeRuns (r : Nat) (x : CapRing) : (s.setRing r x).timeRuns = s.timeRuns := rfl
@[simp] theorem State.setRing_readData (r : Nat) (x : CapRing) : (s.setRing r x).readData = s.readData := rfl
@[simp] theorem State.setRing_freeCtr (r : Nat) (x : CapRing) : (s.setRing r x).freeCtr = s.freeCtr := rfl
@[simp] theorem State.setRing_clk (r : Nat) (x : CapRing) : (s.setRing r x).clk = s.clk := rfl
@[simp] theorem State.setRing_eng (r : Nat) (x : CapRing) : (s.setRing r x).eng = s.eng := rfl
@[simp] theorem State.setRing_cmd (r : Nat) (x : CapRing) : (s.setRing r x).cmd = s.cmd := rfl
@[simp] theorem State.setRing_arb (r : Nat) (x : CapRing) : (s.setRing r x).arb = s.arb := rfl
@[simp] theorem State.setRing_fab (r : Nat) (x : CapRing) : (s.setRing r x).fab = s.fab := rfl
@[simp] theorem State.setRing_cfg (r : Nat) (x : CapRing) : (s.setRing r x).cfg = s.cfg := rfl
@[simp] theorem State.setRing_net (r : Nat) (x : CapRing) : (s.setRing r x).net = s.net := rfl
@[simp] theorem State.setRing_dom (r : Nat) (x : CapRing) : (s.setRing r x).dom = s.dom := rfl
@[simp] theorem State.setRing_evt (r : Nat) (x : CapRing) : (s.setRing r x).evt = s.evt := rfl
@[simp] theorem State.setRing_tst (r : Nat) (x : CapRing) : (s.setRing r x).tst = s.tst := rfl
@[simp] theorem State.setRing_key (r : Nat) (x : CapRing) : (s.setRing r x).key = s.key := rfl
@[simp] theorem State.setRing_front (r : Nat) (x : CapRing) : (s.setRing r x).front = s.front := rfl
@[simp] theorem State.setRing_boot (r : Nat) (x : CapRing) : (s.setRing r x).boot = s.boot := rfl
@[simp] theorem State.setRing_nv (r : Nat) (x : CapRing) : (s.setRing r x).nv = s.nv := rfl
@[simp] theorem State.setRing_ana (r : Nat) (x : CapRing) : (s.setRing r x).ana = s.ana := rfl
@[simp] theorem State.setRing_pending (r : Nat) (x : CapRing) : (s.setRing r x).pending = s.pending := rfl

/-! ### setCap -/

@[simp] theorem State.setCap_regs (p : Nat) (x : CaptureCell) : (s.setCap p x).regs = s.regs := rfl
@[simp] theorem State.setCap_pairHeld (p : Nat) (x : CaptureCell) : (s.setCap p x).pairHeld = s.pairHeld := rfl
@[simp] theorem State.setCap_pairShadow (p : Nat) (x : CaptureCell) : (s.setCap p x).pairShadow = s.pairShadow := rfl
@[simp] theorem State.setCap_time (p : Nat) (x : CaptureCell) : (s.setCap p x).time = s.time := rfl
@[simp] theorem State.setCap_timeRuns (p : Nat) (x : CaptureCell) : (s.setCap p x).timeRuns = s.timeRuns := rfl
@[simp] theorem State.setCap_readData (p : Nat) (x : CaptureCell) : (s.setCap p x).readData = s.readData := rfl
@[simp] theorem State.setCap_freeCtr (p : Nat) (x : CaptureCell) : (s.setCap p x).freeCtr = s.freeCtr := rfl
@[simp] theorem State.setCap_clk (p : Nat) (x : CaptureCell) : (s.setCap p x).clk = s.clk := rfl
@[simp] theorem State.setCap_eng (p : Nat) (x : CaptureCell) : (s.setCap p x).eng = s.eng := rfl
@[simp] theorem State.setCap_cmd (p : Nat) (x : CaptureCell) : (s.setCap p x).cmd = s.cmd := rfl
@[simp] theorem State.setCap_arb (p : Nat) (x : CaptureCell) : (s.setCap p x).arb = s.arb := rfl
@[simp] theorem State.setCap_fab (p : Nat) (x : CaptureCell) : (s.setCap p x).fab = s.fab := rfl
@[simp] theorem State.setCap_cfg (p : Nat) (x : CaptureCell) : (s.setCap p x).cfg = s.cfg := rfl
@[simp] theorem State.setCap_net (p : Nat) (x : CaptureCell) : (s.setCap p x).net = s.net := rfl
@[simp] theorem State.setCap_dom (p : Nat) (x : CaptureCell) : (s.setCap p x).dom = s.dom := rfl
@[simp] theorem State.setCap_evt (p : Nat) (x : CaptureCell) : (s.setCap p x).evt = s.evt := rfl
@[simp] theorem State.setCap_tst (p : Nat) (x : CaptureCell) : (s.setCap p x).tst = s.tst := rfl
@[simp] theorem State.setCap_key (p : Nat) (x : CaptureCell) : (s.setCap p x).key = s.key := rfl
@[simp] theorem State.setCap_front (p : Nat) (x : CaptureCell) : (s.setCap p x).front = s.front := rfl
@[simp] theorem State.setCap_boot (p : Nat) (x : CaptureCell) : (s.setCap p x).boot = s.boot := rfl
@[simp] theorem State.setCap_nv (p : Nat) (x : CaptureCell) : (s.setCap p x).nv = s.nv := rfl
@[simp] theorem State.setCap_ana (p : Nat) (x : CaptureCell) : (s.setCap p x).ana = s.ana := rfl
@[simp] theorem State.setCap_pending (p : Nat) (x : CaptureCell) : (s.setCap p x).pending = s.pending := rfl

/-! ### setTbl -/

@[simp] theorem State.setTbl_regs (t : Nat) (x : CycTable) : (s.setTbl t x).regs = s.regs := rfl
@[simp] theorem State.setTbl_pairHeld (t : Nat) (x : CycTable) : (s.setTbl t x).pairHeld = s.pairHeld := rfl
@[simp] theorem State.setTbl_pairShadow (t : Nat) (x : CycTable) : (s.setTbl t x).pairShadow = s.pairShadow := rfl
@[simp] theorem State.setTbl_time (t : Nat) (x : CycTable) : (s.setTbl t x).time = s.time := rfl
@[simp] theorem State.setTbl_timeRuns (t : Nat) (x : CycTable) : (s.setTbl t x).timeRuns = s.timeRuns := rfl
@[simp] theorem State.setTbl_readData (t : Nat) (x : CycTable) : (s.setTbl t x).readData = s.readData := rfl
@[simp] theorem State.setTbl_freeCtr (t : Nat) (x : CycTable) : (s.setTbl t x).freeCtr = s.freeCtr := rfl
@[simp] theorem State.setTbl_clk (t : Nat) (x : CycTable) : (s.setTbl t x).clk = s.clk := rfl
@[simp] theorem State.setTbl_eng (t : Nat) (x : CycTable) : (s.setTbl t x).eng = s.eng := rfl
@[simp] theorem State.setTbl_cmd (t : Nat) (x : CycTable) : (s.setTbl t x).cmd = s.cmd := rfl
@[simp] theorem State.setTbl_arb (t : Nat) (x : CycTable) : (s.setTbl t x).arb = s.arb := rfl
@[simp] theorem State.setTbl_fab (t : Nat) (x : CycTable) : (s.setTbl t x).fab = s.fab := rfl
@[simp] theorem State.setTbl_cfg (t : Nat) (x : CycTable) : (s.setTbl t x).cfg = s.cfg := rfl
@[simp] theorem State.setTbl_net (t : Nat) (x : CycTable) : (s.setTbl t x).net = s.net := rfl
@[simp] theorem State.setTbl_dom (t : Nat) (x : CycTable) : (s.setTbl t x).dom = s.dom := rfl
@[simp] theorem State.setTbl_evt (t : Nat) (x : CycTable) : (s.setTbl t x).evt = s.evt := rfl
@[simp] theorem State.setTbl_tst (t : Nat) (x : CycTable) : (s.setTbl t x).tst = s.tst := rfl
@[simp] theorem State.setTbl_key (t : Nat) (x : CycTable) : (s.setTbl t x).key = s.key := rfl
@[simp] theorem State.setTbl_front (t : Nat) (x : CycTable) : (s.setTbl t x).front = s.front := rfl
@[simp] theorem State.setTbl_boot (t : Nat) (x : CycTable) : (s.setTbl t x).boot = s.boot := rfl
@[simp] theorem State.setTbl_nv (t : Nat) (x : CycTable) : (s.setTbl t x).nv = s.nv := rfl
@[simp] theorem State.setTbl_ana (t : Nat) (x : CycTable) : (s.setTbl t x).ana = s.ana := rfl
@[simp] theorem State.setTbl_pending (t : Nat) (x : CycTable) : (s.setTbl t x).pending = s.pending := rfl

/-! ### setPll -/

@[simp] theorem State.setPll_regs (n : Nat) (x : Adpll) : (s.setPll n x).regs = s.regs := rfl
@[simp] theorem State.setPll_pairHeld (n : Nat) (x : Adpll) : (s.setPll n x).pairHeld = s.pairHeld := rfl
@[simp] theorem State.setPll_pairShadow (n : Nat) (x : Adpll) : (s.setPll n x).pairShadow = s.pairShadow := rfl
@[simp] theorem State.setPll_time (n : Nat) (x : Adpll) : (s.setPll n x).time = s.time := rfl
@[simp] theorem State.setPll_timeRuns (n : Nat) (x : Adpll) : (s.setPll n x).timeRuns = s.timeRuns := rfl
@[simp] theorem State.setPll_readData (n : Nat) (x : Adpll) : (s.setPll n x).readData = s.readData := rfl
@[simp] theorem State.setPll_freeCtr (n : Nat) (x : Adpll) : (s.setPll n x).freeCtr = s.freeCtr := rfl
@[simp] theorem State.setPll_act (n : Nat) (x : Adpll) : (s.setPll n x).act = s.act := rfl
@[simp] theorem State.setPll_eng (n : Nat) (x : Adpll) : (s.setPll n x).eng = s.eng := rfl
@[simp] theorem State.setPll_cmd (n : Nat) (x : Adpll) : (s.setPll n x).cmd = s.cmd := rfl
@[simp] theorem State.setPll_arb (n : Nat) (x : Adpll) : (s.setPll n x).arb = s.arb := rfl
@[simp] theorem State.setPll_fab (n : Nat) (x : Adpll) : (s.setPll n x).fab = s.fab := rfl
@[simp] theorem State.setPll_cfg (n : Nat) (x : Adpll) : (s.setPll n x).cfg = s.cfg := rfl
@[simp] theorem State.setPll_net (n : Nat) (x : Adpll) : (s.setPll n x).net = s.net := rfl
@[simp] theorem State.setPll_dom (n : Nat) (x : Adpll) : (s.setPll n x).dom = s.dom := rfl
@[simp] theorem State.setPll_evt (n : Nat) (x : Adpll) : (s.setPll n x).evt = s.evt := rfl
@[simp] theorem State.setPll_tst (n : Nat) (x : Adpll) : (s.setPll n x).tst = s.tst := rfl
@[simp] theorem State.setPll_key (n : Nat) (x : Adpll) : (s.setPll n x).key = s.key := rfl
@[simp] theorem State.setPll_front (n : Nat) (x : Adpll) : (s.setPll n x).front = s.front := rfl
@[simp] theorem State.setPll_boot (n : Nat) (x : Adpll) : (s.setPll n x).boot = s.boot := rfl
@[simp] theorem State.setPll_nv (n : Nat) (x : Adpll) : (s.setPll n x).nv = s.nv := rfl
@[simp] theorem State.setPll_ana (n : Nat) (x : Adpll) : (s.setPll n x).ana = s.ana := rfl
@[simp] theorem State.setPll_pending (n : Nat) (x : Adpll) : (s.setPll n x).pending = s.pending := rfl

/-! ### setLane -/

@[simp] theorem State.setLane_regs (l : Nat) (x : Lane) : (s.setLane l x).regs = s.regs := rfl
@[simp] theorem State.setLane_pairHeld (l : Nat) (x : Lane) : (s.setLane l x).pairHeld = s.pairHeld := rfl
@[simp] theorem State.setLane_pairShadow (l : Nat) (x : Lane) : (s.setLane l x).pairShadow = s.pairShadow := rfl
@[simp] theorem State.setLane_time (l : Nat) (x : Lane) : (s.setLane l x).time = s.time := rfl
@[simp] theorem State.setLane_timeRuns (l : Nat) (x : Lane) : (s.setLane l x).timeRuns = s.timeRuns := rfl
@[simp] theorem State.setLane_readData (l : Nat) (x : Lane) : (s.setLane l x).readData = s.readData := rfl
@[simp] theorem State.setLane_freeCtr (l : Nat) (x : Lane) : (s.setLane l x).freeCtr = s.freeCtr := rfl
@[simp] theorem State.setLane_clk (l : Nat) (x : Lane) : (s.setLane l x).clk = s.clk := rfl
@[simp] theorem State.setLane_act (l : Nat) (x : Lane) : (s.setLane l x).act = s.act := rfl
@[simp] theorem State.setLane_eng (l : Nat) (x : Lane) : (s.setLane l x).eng = s.eng := rfl
@[simp] theorem State.setLane_cmd (l : Nat) (x : Lane) : (s.setLane l x).cmd = s.cmd := rfl
@[simp] theorem State.setLane_arb (l : Nat) (x : Lane) : (s.setLane l x).arb = s.arb := rfl
@[simp] theorem State.setLane_fab (l : Nat) (x : Lane) : (s.setLane l x).fab = s.fab := rfl
@[simp] theorem State.setLane_cfg (l : Nat) (x : Lane) : (s.setLane l x).cfg = s.cfg := rfl
@[simp] theorem State.setLane_dom (l : Nat) (x : Lane) : (s.setLane l x).dom = s.dom := rfl
@[simp] theorem State.setLane_evt (l : Nat) (x : Lane) : (s.setLane l x).evt = s.evt := rfl
@[simp] theorem State.setLane_tst (l : Nat) (x : Lane) : (s.setLane l x).tst = s.tst := rfl
@[simp] theorem State.setLane_key (l : Nat) (x : Lane) : (s.setLane l x).key = s.key := rfl
@[simp] theorem State.setLane_front (l : Nat) (x : Lane) : (s.setLane l x).front = s.front := rfl
@[simp] theorem State.setLane_boot (l : Nat) (x : Lane) : (s.setLane l x).boot = s.boot := rfl
@[simp] theorem State.setLane_nv (l : Nat) (x : Lane) : (s.setLane l x).nv = s.nv := rfl
@[simp] theorem State.setLane_ana (l : Nat) (x : Lane) : (s.setLane l x).ana = s.ana := rfl
@[simp] theorem State.setLane_pending (l : Nat) (x : Lane) : (s.setLane l x).pending = s.pending := rfl

/-! ### setNetPort -/

@[simp] theorem State.setNetPort_regs (p : Nat) (x : NetPort) : (s.setNetPort p x).regs = s.regs := rfl
@[simp] theorem State.setNetPort_pairHeld (p : Nat) (x : NetPort) : (s.setNetPort p x).pairHeld = s.pairHeld := rfl
@[simp] theorem State.setNetPort_pairShadow (p : Nat) (x : NetPort) : (s.setNetPort p x).pairShadow = s.pairShadow := rfl
@[simp] theorem State.setNetPort_time (p : Nat) (x : NetPort) : (s.setNetPort p x).time = s.time := rfl
@[simp] theorem State.setNetPort_timeRuns (p : Nat) (x : NetPort) : (s.setNetPort p x).timeRuns = s.timeRuns := rfl
@[simp] theorem State.setNetPort_readData (p : Nat) (x : NetPort) : (s.setNetPort p x).readData = s.readData := rfl
@[simp] theorem State.setNetPort_freeCtr (p : Nat) (x : NetPort) : (s.setNetPort p x).freeCtr = s.freeCtr := rfl
@[simp] theorem State.setNetPort_clk (p : Nat) (x : NetPort) : (s.setNetPort p x).clk = s.clk := rfl
@[simp] theorem State.setNetPort_act (p : Nat) (x : NetPort) : (s.setNetPort p x).act = s.act := rfl
@[simp] theorem State.setNetPort_eng (p : Nat) (x : NetPort) : (s.setNetPort p x).eng = s.eng := rfl
@[simp] theorem State.setNetPort_cmd (p : Nat) (x : NetPort) : (s.setNetPort p x).cmd = s.cmd := rfl
@[simp] theorem State.setNetPort_arb (p : Nat) (x : NetPort) : (s.setNetPort p x).arb = s.arb := rfl
@[simp] theorem State.setNetPort_fab (p : Nat) (x : NetPort) : (s.setNetPort p x).fab = s.fab := rfl
@[simp] theorem State.setNetPort_cfg (p : Nat) (x : NetPort) : (s.setNetPort p x).cfg = s.cfg := rfl
@[simp] theorem State.setNetPort_dom (p : Nat) (x : NetPort) : (s.setNetPort p x).dom = s.dom := rfl
@[simp] theorem State.setNetPort_evt (p : Nat) (x : NetPort) : (s.setNetPort p x).evt = s.evt := rfl
@[simp] theorem State.setNetPort_tst (p : Nat) (x : NetPort) : (s.setNetPort p x).tst = s.tst := rfl
@[simp] theorem State.setNetPort_key (p : Nat) (x : NetPort) : (s.setNetPort p x).key = s.key := rfl
@[simp] theorem State.setNetPort_front (p : Nat) (x : NetPort) : (s.setNetPort p x).front = s.front := rfl
@[simp] theorem State.setNetPort_boot (p : Nat) (x : NetPort) : (s.setNetPort p x).boot = s.boot := rfl
@[simp] theorem State.setNetPort_nv (p : Nat) (x : NetPort) : (s.setNetPort p x).nv = s.nv := rfl
@[simp] theorem State.setNetPort_ana (p : Nat) (x : NetPort) : (s.setNetPort p x).ana = s.ana := rfl
@[simp] theorem State.setNetPort_pending (p : Nat) (x : NetPort) : (s.setNetPort p x).pending = s.pending := rfl

/-! ### setRxs -/

@[simp] theorem State.setRxs_regs (i : Nat) (x : RxStream) : (s.setRxs i x).regs = s.regs := rfl
@[simp] theorem State.setRxs_pairHeld (i : Nat) (x : RxStream) : (s.setRxs i x).pairHeld = s.pairHeld := rfl
@[simp] theorem State.setRxs_pairShadow (i : Nat) (x : RxStream) : (s.setRxs i x).pairShadow = s.pairShadow := rfl
@[simp] theorem State.setRxs_time (i : Nat) (x : RxStream) : (s.setRxs i x).time = s.time := rfl
@[simp] theorem State.setRxs_timeRuns (i : Nat) (x : RxStream) : (s.setRxs i x).timeRuns = s.timeRuns := rfl
@[simp] theorem State.setRxs_readData (i : Nat) (x : RxStream) : (s.setRxs i x).readData = s.readData := rfl
@[simp] theorem State.setRxs_freeCtr (i : Nat) (x : RxStream) : (s.setRxs i x).freeCtr = s.freeCtr := rfl
@[simp] theorem State.setRxs_clk (i : Nat) (x : RxStream) : (s.setRxs i x).clk = s.clk := rfl
@[simp] theorem State.setRxs_act (i : Nat) (x : RxStream) : (s.setRxs i x).act = s.act := rfl
@[simp] theorem State.setRxs_eng (i : Nat) (x : RxStream) : (s.setRxs i x).eng = s.eng := rfl
@[simp] theorem State.setRxs_cmd (i : Nat) (x : RxStream) : (s.setRxs i x).cmd = s.cmd := rfl
@[simp] theorem State.setRxs_arb (i : Nat) (x : RxStream) : (s.setRxs i x).arb = s.arb := rfl
@[simp] theorem State.setRxs_fab (i : Nat) (x : RxStream) : (s.setRxs i x).fab = s.fab := rfl
@[simp] theorem State.setRxs_cfg (i : Nat) (x : RxStream) : (s.setRxs i x).cfg = s.cfg := rfl
@[simp] theorem State.setRxs_dom (i : Nat) (x : RxStream) : (s.setRxs i x).dom = s.dom := rfl
@[simp] theorem State.setRxs_evt (i : Nat) (x : RxStream) : (s.setRxs i x).evt = s.evt := rfl
@[simp] theorem State.setRxs_tst (i : Nat) (x : RxStream) : (s.setRxs i x).tst = s.tst := rfl
@[simp] theorem State.setRxs_key (i : Nat) (x : RxStream) : (s.setRxs i x).key = s.key := rfl
@[simp] theorem State.setRxs_front (i : Nat) (x : RxStream) : (s.setRxs i x).front = s.front := rfl
@[simp] theorem State.setRxs_boot (i : Nat) (x : RxStream) : (s.setRxs i x).boot = s.boot := rfl
@[simp] theorem State.setRxs_nv (i : Nat) (x : RxStream) : (s.setRxs i x).nv = s.nv := rfl
@[simp] theorem State.setRxs_ana (i : Nat) (x : RxStream) : (s.setRxs i x).ana = s.ana := rfl
@[simp] theorem State.setRxs_pending (i : Nat) (x : RxStream) : (s.setRxs i x).pending = s.pending := rfl

/-! ### setSession -/

@[simp] theorem State.setSession_regs (k : Nat) (x : Session) : (s.setSession k x).regs = s.regs := rfl
@[simp] theorem State.setSession_pairHeld (k : Nat) (x : Session) : (s.setSession k x).pairHeld = s.pairHeld := rfl
@[simp] theorem State.setSession_pairShadow (k : Nat) (x : Session) : (s.setSession k x).pairShadow = s.pairShadow := rfl
@[simp] theorem State.setSession_time (k : Nat) (x : Session) : (s.setSession k x).time = s.time := rfl
@[simp] theorem State.setSession_timeRuns (k : Nat) (x : Session) : (s.setSession k x).timeRuns = s.timeRuns := rfl
@[simp] theorem State.setSession_readData (k : Nat) (x : Session) : (s.setSession k x).readData = s.readData := rfl
@[simp] theorem State.setSession_freeCtr (k : Nat) (x : Session) : (s.setSession k x).freeCtr = s.freeCtr := rfl
@[simp] theorem State.setSession_clk (k : Nat) (x : Session) : (s.setSession k x).clk = s.clk := rfl
@[simp] theorem State.setSession_act (k : Nat) (x : Session) : (s.setSession k x).act = s.act := rfl
@[simp] theorem State.setSession_eng (k : Nat) (x : Session) : (s.setSession k x).eng = s.eng := rfl
@[simp] theorem State.setSession_arb (k : Nat) (x : Session) : (s.setSession k x).arb = s.arb := rfl
@[simp] theorem State.setSession_fab (k : Nat) (x : Session) : (s.setSession k x).fab = s.fab := rfl
@[simp] theorem State.setSession_cfg (k : Nat) (x : Session) : (s.setSession k x).cfg = s.cfg := rfl
@[simp] theorem State.setSession_net (k : Nat) (x : Session) : (s.setSession k x).net = s.net := rfl
@[simp] theorem State.setSession_dom (k : Nat) (x : Session) : (s.setSession k x).dom = s.dom := rfl
@[simp] theorem State.setSession_evt (k : Nat) (x : Session) : (s.setSession k x).evt = s.evt := rfl
@[simp] theorem State.setSession_tst (k : Nat) (x : Session) : (s.setSession k x).tst = s.tst := rfl
@[simp] theorem State.setSession_key (k : Nat) (x : Session) : (s.setSession k x).key = s.key := rfl
@[simp] theorem State.setSession_front (k : Nat) (x : Session) : (s.setSession k x).front = s.front := rfl
@[simp] theorem State.setSession_boot (k : Nat) (x : Session) : (s.setSession k x).boot = s.boot := rfl
@[simp] theorem State.setSession_nv (k : Nat) (x : Session) : (s.setSession k x).nv = s.nv := rfl
@[simp] theorem State.setSession_ana (k : Nat) (x : Session) : (s.setSession k x).ana = s.ana := rfl
@[simp] theorem State.setSession_pending (k : Nat) (x : Session) : (s.setSession k x).pending = s.pending := rfl

/-! ### setAux -/

@[simp] theorem State.setAux_regs (k : Nat) (x : AuxOut) : (s.setAux k x).regs = s.regs := rfl
@[simp] theorem State.setAux_pairHeld (k : Nat) (x : AuxOut) : (s.setAux k x).pairHeld = s.pairHeld := rfl
@[simp] theorem State.setAux_pairShadow (k : Nat) (x : AuxOut) : (s.setAux k x).pairShadow = s.pairShadow := rfl
@[simp] theorem State.setAux_time (k : Nat) (x : AuxOut) : (s.setAux k x).time = s.time := rfl
@[simp] theorem State.setAux_timeRuns (k : Nat) (x : AuxOut) : (s.setAux k x).timeRuns = s.timeRuns := rfl
@[simp] theorem State.setAux_readData (k : Nat) (x : AuxOut) : (s.setAux k x).readData = s.readData := rfl
@[simp] theorem State.setAux_freeCtr (k : Nat) (x : AuxOut) : (s.setAux k x).freeCtr = s.freeCtr := rfl
@[simp] theorem State.setAux_clk (k : Nat) (x : AuxOut) : (s.setAux k x).clk = s.clk := rfl
@[simp] theorem State.setAux_act (k : Nat) (x : AuxOut) : (s.setAux k x).act = s.act := rfl
@[simp] theorem State.setAux_eng (k : Nat) (x : AuxOut) : (s.setAux k x).eng = s.eng := rfl
@[simp] theorem State.setAux_cmd (k : Nat) (x : AuxOut) : (s.setAux k x).cmd = s.cmd := rfl
@[simp] theorem State.setAux_arb (k : Nat) (x : AuxOut) : (s.setAux k x).arb = s.arb := rfl
@[simp] theorem State.setAux_fab (k : Nat) (x : AuxOut) : (s.setAux k x).fab = s.fab := rfl
@[simp] theorem State.setAux_cfg (k : Nat) (x : AuxOut) : (s.setAux k x).cfg = s.cfg := rfl
@[simp] theorem State.setAux_net (k : Nat) (x : AuxOut) : (s.setAux k x).net = s.net := rfl
@[simp] theorem State.setAux_dom (k : Nat) (x : AuxOut) : (s.setAux k x).dom = s.dom := rfl
@[simp] theorem State.setAux_evt (k : Nat) (x : AuxOut) : (s.setAux k x).evt = s.evt := rfl
@[simp] theorem State.setAux_tst (k : Nat) (x : AuxOut) : (s.setAux k x).tst = s.tst := rfl
@[simp] theorem State.setAux_key (k : Nat) (x : AuxOut) : (s.setAux k x).key = s.key := rfl
@[simp] theorem State.setAux_front (k : Nat) (x : AuxOut) : (s.setAux k x).front = s.front := rfl
@[simp] theorem State.setAux_boot (k : Nat) (x : AuxOut) : (s.setAux k x).boot = s.boot := rfl
@[simp] theorem State.setAux_nv (k : Nat) (x : AuxOut) : (s.setAux k x).nv = s.nv := rfl
@[simp] theorem State.setAux_pending (k : Nat) (x : AuxOut) : (s.setAux k x).pending = s.pending := rfl

/-! ### setCommand -/

@[simp] theorem State.setCommand_regs (x : Command) : (s.setCommand x).regs = s.regs := rfl
@[simp] theorem State.setCommand_pairHeld (x : Command) : (s.setCommand x).pairHeld = s.pairHeld := rfl
@[simp] theorem State.setCommand_pairShadow (x : Command) : (s.setCommand x).pairShadow = s.pairShadow := rfl
@[simp] theorem State.setCommand_time (x : Command) : (s.setCommand x).time = s.time := rfl
@[simp] theorem State.setCommand_timeRuns (x : Command) : (s.setCommand x).timeRuns = s.timeRuns := rfl
@[simp] theorem State.setCommand_readData (x : Command) : (s.setCommand x).readData = s.readData := rfl
@[simp] theorem State.setCommand_freeCtr (x : Command) : (s.setCommand x).freeCtr = s.freeCtr := rfl
@[simp] theorem State.setCommand_clk (x : Command) : (s.setCommand x).clk = s.clk := rfl
@[simp] theorem State.setCommand_act (x : Command) : (s.setCommand x).act = s.act := rfl
@[simp] theorem State.setCommand_eng (x : Command) : (s.setCommand x).eng = s.eng := rfl
@[simp] theorem State.setCommand_arb (x : Command) : (s.setCommand x).arb = s.arb := rfl
@[simp] theorem State.setCommand_fab (x : Command) : (s.setCommand x).fab = s.fab := rfl
@[simp] theorem State.setCommand_cfg (x : Command) : (s.setCommand x).cfg = s.cfg := rfl
@[simp] theorem State.setCommand_net (x : Command) : (s.setCommand x).net = s.net := rfl
@[simp] theorem State.setCommand_dom (x : Command) : (s.setCommand x).dom = s.dom := rfl
@[simp] theorem State.setCommand_evt (x : Command) : (s.setCommand x).evt = s.evt := rfl
@[simp] theorem State.setCommand_tst (x : Command) : (s.setCommand x).tst = s.tst := rfl
@[simp] theorem State.setCommand_key (x : Command) : (s.setCommand x).key = s.key := rfl
@[simp] theorem State.setCommand_front (x : Command) : (s.setCommand x).front = s.front := rfl
@[simp] theorem State.setCommand_boot (x : Command) : (s.setCommand x).boot = s.boot := rfl
@[simp] theorem State.setCommand_nv (x : Command) : (s.setCommand x).nv = s.nv := rfl
@[simp] theorem State.setCommand_ana (x : Command) : (s.setCommand x).ana = s.ana := rfl
@[simp] theorem State.setCommand_pending (x : Command) : (s.setCommand x).pending = s.pending := rfl

end Sys2Proof.Machine
end

