-- ==== Sys2Proof/Laws/Vault.lean ====
section
/-!
SUPPORT. Sys2Proof/Laws/Vault.lean: what provisioning does to the vault and the eFuses, and what a state with the same Firm part
keeps.
-/
namespace Sys2Proof.Machine

/-- A slot that a store lacks is the slot of none of its keys. -/
theorem vaultHas_false {l : List (Nat × List Byte)} {i : Nat} (h : vaultHas l i = false) : ∀ p ∈ l, p.1 ≠ i := by
  intro p hp e
  simp [vaultHas] at h
  exact h p.1 p.2 hp e

/-- Inserting under a new key keeps every entry. -/
theorem mem_tabInsert_of_ne {α : Type} (l : List (Nat × α)) (k : Nat) (v : α) (h : ∀ p ∈ l, p.1 ≠ k) : ∀ p ∈ l, p ∈ tabInsert l k v := by
  induction l with
  | nil => intro p hp; cases hp
  | cons q l ih =>
    obtain ⟨j, w⟩ := q
    intro p hp
    unfold tabInsert
    have hj : j ≠ k := h (j, w) (by simp)
    split
    · exact List.mem_cons_of_mem _ hp
    · rcases List.mem_cons.1 hp with e | e
      · rw [e]; simp
      · exact List.mem_cons_of_mem _ (ih (fun p hp => h p (List.mem_cons_of_mem _ hp)) p e)

theorem keysKept_refl (l : List (Nat × List Byte)) : keysKept l l := fun _ h => h
theorem vaultKept_refl (s : State) : vaultKept s s := ⟨keysKept_refl _, keysKept_refl _, keysKept_refl _, id, le_refl _⟩

/-- Provisioning loses nothing, keeps the stores' form and leaves the queue. -/
theorem State.provision_kept (s : State) (k i : Nat) (v : List Byte) : vaultKept s (s.provision k i v).1 ∧
    (s.vaultWf = true → (s.provision k i v).1.vaultWf = true) ∧ (s.provision k i v).1.pending = s.pending := by
  unfold State.provision
  dsimp only
  split
  · split
    · exact ⟨vaultKept_refl s, id, rfl⟩
    · rename_i h
      refine ⟨⟨mem_tabInsert_of_ne _ _ _ (vaultHas_false (by simpa using h)), keysKept_refl _, keysKept_refl _, id, le_refl _⟩, fun hw => ?_, rfl⟩
      simp only [State.vaultWf, Bool.and_eq_true] at hw ⊢
      exact ⟨⟨tabRising_insert _ _ _ hw.1.1 (Nat.zero_le _), hw.1.2⟩, hw.2⟩
  · split
    · exact ⟨vaultKept_refl s, id, rfl⟩
    · rename_i h
      refine ⟨⟨keysKept_refl _, mem_tabInsert_of_ne _ _ _ (vaultHas_false (by simpa using h)), keysKept_refl _, id, le_refl _⟩, fun hw => ?_, rfl⟩
      simp only [State.vaultWf, Bool.and_eq_true] at hw ⊢
      exact ⟨⟨hw.1.1, tabRising_insert _ _ _ hw.1.2 (Nat.zero_le _)⟩, hw.2⟩
  · split
    · exact ⟨vaultKept_refl s, id, rfl⟩
    · rename_i h
      refine ⟨⟨keysKept_refl _, keysKept_refl _, mem_tabInsert_of_ne _ _ _ (vaultHas_false (by simpa using h)), id, le_refl _⟩, fun hw => ?_, rfl⟩
      simp only [State.vaultWf, Bool.and_eq_true] at hw ⊢
      exact ⟨hw.1, tabRising_insert _ _ _ hw.2 (Nat.zero_le _)⟩
  · generalize beAt v 0 1 = enc, beAt v 1 4 = svn
    split
    · exact ⟨vaultKept_refl s, id, rfl⟩
    · rename_i h
      push Not at h
      refine ⟨⟨keysKept_refl _, keysKept_refl _, keysKept_refl _, fun hr => ?_, ?_⟩, fun hw => hw, rfl⟩
      · have h2 := h.2.1 hr
        have h1 := h.1
        show (enc == 1) = true
        rw [beq_iff_eq]
        omega
      · exact h.2.2

/-- What two states with one Firm part share. -/
theorem kept_of_firm_eq {s t : State} (h : t.firm = s.firm) : t.pending = s.pending ∧ (∀ u, vaultKept u s → vaultKept u t) ∧ (s.vaultWf = true → t.vaultWf = true) := by
  simp only [State.firm, Firm.mk.injEq] at h
  obtain ⟨h0, h1, h2, h3, h4, h5⟩ := h
  refine ⟨h0, fun u hu => ?_, fun hw => ?_⟩
  · unfold vaultKept at hu ⊢; rw [h1, h2, h3, h4, h5]; exact hu
  · unfold State.vaultWf at hw ⊢; rw [h1, h2, h3]; exact hw

end Sys2Proof.Machine
end

