-- ==== Sys2Proof/Machine/Package.lean ====
section
/-!
DEFINITION. Sys2Proof/Machine/Package.lean: the balls of the package, by row index and column (21_package_and_balls.md).
-/
namespace Sys2Proof.Machine

/-- What a ball carries (R504, R505, R508); `none`: a position without a ball. -/
inductive Ball where
  | none
  | vss
  | reserved
  | io (bank pin : Nat)
  | taP
  | taN
  | tbP
  | tbN
  | aux5 (k : Nat)
  | aux24 (k : Nat)
  | ain (k : Nat)
  | slTxP (l : Nat)
  | slTxN (l : Nat)
  | slRxP (l : Nat)
  | slRxN (l : Nat)
  | keyD (k : Nat)
  | keyDqs
  | keyClk
  | keyCsN
  | keyResetN
  | keyVcc
  | keyPresentN
  | svcClk
  | svcCsN
  | svcMosi
  | svcMiso
  | tck
  | tms
  | tdi
  | tdo
  | trstN
  | doneOut
  | resetN
  | faultN
deriving DecidableEq, Repr

/-- The letters of the rows in index order from 1 on (R503). -/
def rowLetters : List String :=
  ["A", "B", "C", "D", "E", "F", "G", "H", "J", "K", "L", "M", "N", "P", "T", "U", "V", "W", "Y"] ++
    ["AA", "AB", "AC", "AD", "AE", "AF", "AG", "AH", "AJ", "AK", "AL", "AM", "AN", "AP", "AT", "AU", "AV", "AW", "AY"] ++
    ["BA", "BB", "BC", "BD"]

/-- The name of the ball at row index `ri` and column `col` (R503). -/
def ballName (ri col : Nat) : String := rowLetters.getD (ri - 1) "" ++ toString col

/-- The tile of bank `b`; tile 12 has no balls (R507). -/
def bankTile (b : Nat) : Nat := if b < 12 then b else b + 1

/-- Row index and column of pin `pin` of bank `b` (R507, R508). -/
def ioBall (b pin : Nat) : Nat × Nat :=
  let t := bankTile b
  let q := pin % 12
  let lr := pin / 12 * 2 + (if 4 ≤ q then 1 else 0)
  let lc := if q < 4 then [1, 2, 5, 6].getD q 0 else q - 4
  (2 + 8 * (t / 5) + lr, 2 + 8 * (t % 5) + lc)

/-- The ball at position (`lr`, `lc`) of tile `t` (R508). -/
def tileBall (t lr lc : Nat) : Ball :=
  if t = 12 then .none
  else if lr % 2 = 0 ∧ (lc = 0 ∨ lc = 3 ∨ lc = 4 ∨ lc = 7) then .vss
  else
    .io (if t < 12 then t else t - 1)
      (12 * (lr / 2) + (if lr % 2 = 1 then 4 + lc else if lc < 3 then lc - 1 else lc - 3))

/-- Row A (R505). -/
def rowABall (col : Nat) : Ball :=
  if col ≤ 3 then .taP else if col ≤ 6 then .taN else if col ≤ 8 then .reserved
  else if col ≤ 11 then .tbP else if col ≤ 14 then .tbN else if col ≤ 16 then .reserved
  else if col ≤ 24 then .aux5 ((col - 17) / 2) else if col ≤ 32 then .aux24 ((col - 25) / 2)
  else if col = 33 then .vss else .reserved

/-- Row BD (R505). -/
def rowBDBall (col : Nat) : Ball :=
  if col = 1 then .vss else if col = 42 then .reserved
  else
    let l := (col - 2) / 5
    match (col - 2) % 5 with
    | 0 => .slTxP l
    | 1 => .slTxN l
    | 2 => .slRxP l
    | 3 => .slRxN l
    | _ => .vss

/-- Column 1 from row B to row BC (R505). -/
def col1Ball (ri : Nat) : Ball := if ri ≤ 33 then .ain (ri - 2) else if ri = 34 then .vss else .reserved

/-- Column 42 from row B to row BC (R505). -/
def col42Ball (ri : Nat) : Ball :=
  if ri = 2 then .vss else if ri ≤ 10 then .keyD (ri - 3)
  else
    ([.keyDqs, .keyClk, .keyCsN, .keyResetN, .keyVcc, .keyPresentN, .vss, .svcClk, .svcCsN, .svcMosi, .svcMiso, .vss, .tck, .tms,
      .tdi, .tdo, .trstN, .vss, .doneOut, .resetN, .faultN, .vss] : List Ball).getD (ri - 11) .reserved

/-- The ball at row index `ri` and column `col`, 1 to 42 each (R503–R508). -/
def ballAt (ri col : Nat) : Ball :=
  if ri < 1 ∨ 42 < ri ∨ col < 1 ∨ 42 < col then .none
  else if ri = 1 then rowABall col
  else if ri = 42 then rowBDBall col
  else if col = 1 then col1Ball ri
  else if col = 42 then col42Ball ri
  else tileBall (5 * ((ri - 2) / 8) + (col - 2) / 8) ((ri - 2) % 8) ((col - 2) % 8)

end Sys2Proof.Machine
end

