-- ==== Sys2Proof/Tests/Slice0.lean ====
section
/-!
SUPPORT. Sys2Proof/Tests/Slice0.lean: the model's own tests. The check on operands refuses an ill-formed command of each kind;
no word spells a command; a few values of the spec; and, for every statement that has hypotheses, `test_witness_<its name>` and, where it has
more than ten clauses, `test_witness_<its name>_2` and so on: for each of its clauses a state and operands that meet the clause's hypotheses
together.
-/
set_option linter.all false
set_option Elab.async false
namespace Sys2Proof.Machine.Tests
open Sys2Proof Sys2Proof.Machine

/-! ### The check on operands refuses -/

/-- A sequence number beyond 32 bits. -/
theorem test_wf_seq : (Instr.ping ⟨some 0, 2 ^ 32⟩).wf = false := by decide
/-- Domain 135 of 135 (R428). -/
theorem test_wf_domain : (Instr.domReqOn (.reg 135 0)).wf = false := by decide
/-- AUX output 8 of 8. -/
theorem test_wf_aux : (Instr.auxSet (.reg 8 0)).wf = false := by decide
/-- Capture ring 4 of 4. -/
theorem test_wf_ring : (Instr.capRead (.reg 4)).wf = false := by decide
/-- A key with a byte beyond its density. -/
theorem test_wf_key_size : (Instr.keyInsertion ⟨[(8, 0)], 8, true, true, true, true⟩).wf = false := by decide
/-- A key whose bytes stand out of order. -/
theorem test_wf_key_order : (Instr.keyInsertion ⟨[(1, 0), (0, 0)], 8, true, true, true, true⟩).wf = false := by decide
/-- An SSI frame of more than 48 bits. -/
theorem test_wf_ssi : (Instr.ssiFrameEnd 0 (2 ^ 48) false).wf = false := by decide
/-- A fabric program request whose data is not of its length. -/
theorem test_wf_fabric : (Instr.fabricRequest 0 1 0 32 [] 0).wf = false := by decide
/-- A broadcast of more than 64 words. -/
theorem test_wf_bcast : (Instr.bcast ⟨0, 1, 0, true⟩ true true (List.replicate 65 0)).wf = false := by decide +kernel
/-- A frame without its two addresses and its type. -/
theorem test_wf_frame : (Instr.frameReceive 0 (List.replicate 13 0) 0).wf = false := by decide
theorem test_wf_wake_frame : (Instr.wakeFrame 0 (List.replicate 13 0)).wf = false := by decide
/-- More readings than there are sensors. -/
theorem test_wf_thermal : (Instr.thermalRead (List.replicate 9 0)).wf = false := by decide
theorem test_wf_power : (Instr.powerMeasure ⟨(0, 0), (0, 0), (0, 0), [], []⟩).wf = false := by decide
theorem test_wf_beats : (Instr.beatComplete 0 (List.replicate 9 .clean)).wf = false := by decide
theorem test_wf_reads : (Instr.regRead ⟨some 0, 1⟩ (List.replicate 257 .clean)).wf = false := by decide +kernel

/-- More samples than a decimation takes. -/
theorem test_wf_samples : (Instr.dsSample 0 0 (List.replicate 767 false)).wf = false := by decide +kernel
/-- More errors than a block has words. -/
theorem test_wf_copy : (Instr.bramCopyDone 0 (List.replicate 513 (0, 0, false))).wf = false := by decide +kernel

/-! ### Words, reset and values of the spec -/

/-- No word spells a command: the table gives no row any bits. -/
theorem test_no_word (n w : Nat) : decodeTableWord n w = none := rfl
theorem test_fetch_word (s : State) (n w : Nat) : s.withFetchWord n w = s := rfl
theorem test_reset_idles : step State.reset = .next State.reset := rfl
theorem test_reset_regs : State.reset.regsWf = true := by decide +kernel
theorem test_reset_vault : State.reset.vaultWf = true := by decide +kernel
/-- The published check value of CRC-32 (R247). -/
theorem test_crc32 : crc32 [0x31, 0x32, 0x33, 0x34, 0x35, 0x36, 0x37, 0x38, 0x39] = 0xCBF43926 := by decide +kernel
/-- The published digest of the empty message (SHA-256, R250). -/
theorem test_sha256 : (sha256 []).take 4 = [0xE3, 0xB0, 0xC4, 0x42] := by decide +kernel

/-- The ball of IO_B07_31 (R508): T21. -/
theorem test_ball_name : ballName (ioBall 7 31).1 (ioBall 7 31).2 = "T21" := by decide +kernel
/-- Every pin of a bank stands on a ball of its own, and that ball carries it (R507, R508). -/
theorem test_ball_back : (List.range 48).all (fun p => ballAt (ioBall 7 p).1 (ioBall 7 p).2 == .io 7 p) = true := by decide +kernel

/-! ### Builders of small states -/

/-- The host's command of class `cls` and opcode `op`, on session 0, with its turn come. -/
def wRef : CmdRef := ⟨some 0, 1⟩
def wCmd (cls op : Nat) (p : List Byte) : Command :=
  { ref := wRef, v2 := false, cls := cls, op := op, payload := p, stamp := 0, iface := 2, mac := 0, vid := 0, stage := .queued }
def wCom (x : Command) (s : State) : State := { s with cmd := { s.cmd with inflight := [x] } }
/-- A delivered action of a kind, for a target, with an operation and data. -/
def wAct (kind tgt op : Nat) (data : Word) : Delivered := ⟨⟨0, kind, 0, tgt, op, 0, 0, data⟩, 80, false, 0⟩
def wDue (d : Delivered) (s : State) : State := { s with act := { s.act with delivered := [d] } }
/-- Engine 0 runs a cycle, and `w` is the first word of its program. -/
def wProg (w : Word) (s : State) : State :=
  { s.setEngState 0 3 with cfg := { s.cfg with active := [(engFrame 0 0, leBytes 4 w.toNat)] } }
def wEng (f : LEng → LEng) (s : State) : State := s.setLeng 0 (f (s.leng 0))
def wCore (f : EngCore → EngCore) : State → State := wEng (fun c => { c with core := f c.core })
def wKey : KeyChip := ⟨[], 1048576, true, true, true, true⟩
def wAt (t : DWord) (s : State) : State := { s with time := t }
/-- A valid cam table descriptor: two points, DX 1 (R161, R162), as descriptor 0 of engine 0. -/
def wDesc (s : State) : State := { s with cfg := { s.cfg with active := s.cfg.active ++
  [(engFrame 0 0x80, List.replicate 8 0 ++ leBytes 8 1 ++ List.replicate 16 0 ++ leBytes 8 0x8000000000000002)] } }
/-- Headers of a BASE image without frames, of one with a frame, and of a GOLDEN image, each signed under its own key (R249-R255). -/
def wHead0 : List Byte := beBytes 192 0x415a494d0001010000969640000200000000ffffffffffffffffffffffffffff00000000000000000000000000000001000000000000000000000000000000000000000000000000000000000000000000000000000000000000000000000000e3b0c44298fc1c149afbf4c8996fb92427ae41e4649b934ca495991b7852b855f6df22120cd92b3f4b9fef4c2b6f5d154886ef3c5521c3959345de07045329ebf6df22120cd92b3f4b9fef4c2b6f5d154886ef3c5521c3959345de07045329eb ++ List.replicate 3904 0
def wPub0 : List Byte := beBytes 64 0xb0cea20cabe18d7961e2bfb0a95332394b7a4b7652d3d033f7dd29a7be09e8f49f30a03f8c509799f4d9b0f3e86040fd3a6e41eea6df30ba8f280d3c62e62d2f
def wHead1 : List Byte := beBytes 192 0x415a494d0001010000969640000200000000ffffffffffffffffffffffffffff00000001000000000000000000000001000000000000000000000000000000000000000000000000000000000000000000000000000000000000000000000000e3b0c44298fc1c149afbf4c8996fb92427ae41e4649b934ca495991b7852b855ae22e38b84f647a54464bb270728f3fbd6abc0d37292efdacf132d61606c417eae22e38b84f647a54464bb270728f3fbd6abc0d37292efdacf132d61606c417e ++ List.replicate 3904 0
def wPub1 : List Byte := beBytes 64 0xe617686924e2b7549aafbb9153467c87534015e8c8adce62f9e5610972eabc66ea0ddcbd0f6ecc41681dd8dc410e2e78343e5168c2fa5c33f6a6e5829294c8f1
def wHead2 : List Byte := beBytes 192 0x415a494d0001020000969640000200000000ffffffffffffffffffffffffffff00000000000000000000000000000001000000000000000000000000000000000000000000000000000000000000000000000000000000000000000000000000e3b0c44298fc1c149afbf4c8996fb92427ae41e4649b934ca495991b7852b8552785465da3cb22b078cbab71a6c55c637a00467d7c110f2ab167dd04b1aa0b2f2785465da3cb22b078cbab71a6c55c637a00467d7c110f2ab167dd04b1aa0b2f ++ List.replicate 3904 0
def wPub2 : List Byte := beBytes 64 0x041a8b68d86c29cc2f0fb5c6ab6f6697b9a700c11f9ade5145718827aa5859fd48e4882761b2d99b2cba38c537fab89d9399351f1a0a2778a1bb862895925cdd
/-- A frame of zeros at address 0, with its CRC (R247). -/
def wFrame : List Byte := List.replicate 516 0 ++ beBytes 4 0xAC727B17
def wTrc (f : Trace → Trace) (s : State) : State := { s with fab := { s.fab with trace := f s.fab.trace } }
def wLane (f : Lane → Lane) (s : State) : State := s.setLane 0 (f (s.lane 0))
def wFn (f : State → State) (s : State) : State := f s

/-! ### Facts about the images of the tests -/

theorem wFold (a b c m n : Nat) (h : (List.replicate m 0).foldl crcByte a = b) (k : (List.replicate n 0).foldl crcByte b = c) :
    (List.replicate (m + n) 0).foldl crcByte a = c := by
  rw [List.replicate_add, List.foldl_append, h, k]
theorem wC0 : (List.replicate 64 0).foldl crcByte 4294967295 = 2322767049 := by decide +kernel
theorem wC1 : (List.replicate 64 0).foldl crcByte 2322767049 = 1029113186 := by decide +kernel
theorem wC2 : (List.replicate 64 0).foldl crcByte 1029113186 = 1946220301 := by decide +kernel
theorem wC3 : (List.replicate 64 0).foldl crcByte 1946220301 = 4066998951 := by decide +kernel
theorem wC4 : (List.replicate 64 0).foldl crcByte 4066998951 = 1379444914 := by decide +kernel
theorem wC5 : (List.replicate 64 0).foldl crcByte 1379444914 = 2001022648 := by decide +kernel
theorem wC6 : (List.replicate 64 0).foldl crcByte 2001022648 = 3111512508 := by decide +kernel
theorem wC7 : (List.replicate 64 0).foldl crcByte 3111512508 = 1297451655 := by decide +kernel
theorem wC8 : (List.replicate 4 0).foldl crcByte 1297451655 = 1401783528 := by decide +kernel
theorem wCrc : (crc32 (List.replicate 516 0)).toNat = 0xAC727B17 := by
  have h : (List.replicate 516 0).foldl crcByte 0xFFFFFFFF = 1401783528 := (wFold 4294967295 1297451655 1401783528 512 4 (wFold 4294967295 3111512508 1297451655 448 64 (wFold 4294967295 2001022648 3111512508 384 64 (wFold 4294967295 1379444914 2001022648 320 64 (wFold 4294967295 4066998951 1379444914 256 64 (wFold 4294967295 1946220301 4066998951 192 64 (wFold 4294967295 1029113186 1946220301 128 64 (wFold 4294967295 2322767049 1029113186 64 64 wC0 wC1) wC2) wC3) wC4) wC5) wC6) wC7) wC8)
  rw [crc32, h]; decide
theorem wTake (b : List Byte) : (List.replicate 516 (0 : Byte) ++ b).take 516 = List.replicate 516 0 := by
  exact List.take_left' List.length_replicate
theorem wBad (s : State) (h : Header) (p : List (Nat × List Byte)) (l : Option Nat) :
    s.frameCheck h p l (s.plainFrame wHead1 0 (List.replicate 516 0 ++ List.replicate 4 0)) ≠ 0 := by
  rw [State.plainFrame, if_neg (by decide +kernel), State.frameCheck, if_pos (by rw [wTake, wCrc]; decide +kernel)]
  decide
theorem wGood (s : State) : s.frameCheck wHead1 [] none (s.plainFrame wHead1 0 wFrame) = 0 := by
  rw [State.plainFrame, if_neg (by decide +kernel), State.frameCheck, if_neg (by rw [wFrame, wTake, wCrc]; decide +kernel)]
  have h1 : (Header.whole wHead1) = true := by decide +kernel
  have h2 : beAt wFrame 0 4 = 0 := by decide +kernel
  have h4 : fClass 0 = 0 := by decide +kernel
  have h5 : addrDefined 0 = true := by decide +kernel
  have h6 : fIndex 0 = 0 := by decide +kernel
  simp [State.allowed, h1, h2, State.contentCheck, h4, h5, h6]
theorem wLoad (s : State) (k : Nat) (h : Header) (h1 : s.slotState k = 2) (h2 : (s.slotBytes k).take 4096 = h) (h3 : h.length = 4096)
    (h4 : (s.headerCheck h [k + 1] true).1 = 0) (h5 : h.frames = 0) (h6 : sha256 [] = h.digest) (h7 : h.enc = false) :
    s.wholeLoad k = .ok [] := by
  rw [State.wholeLoad]
  simp only [h1, h2, h3, h4, h5, h7, ne_eq, not_true_eq_false, if_false, State.wholeFrames, Nat.lt_irrefl, h6, Bool.false_and, Bool.false_eq_true]

/-! ### A witness for every statement -/

theorem test_witness_StepServesTheFrontCommand :
    (∃ (c : Instr) (l : List Instr) (s : State), s.pending = c :: l) ∧
    (∃ (s : State), s.pending = []) :=
  ⟨⟨.timeStepApply, [], { (State.reset : State) with pending := [.timeStepApply] }, by decide +kernel⟩,
   ⟨State.reset, by decide +kernel⟩⟩

theorem test_witness_VaultOnlyGains :
    (∃ (s : State) (t : State), step s = .next t ∧ s.vaultWf = true) :=
  ⟨State.reset, State.reset, rfl, by decide +kernel⟩

theorem test_witness_RegistersStayCanonical :
    (∃ (s : State) (t : State), s.regsWf = true ∧ step s = .next t) :=
  ⟨State.reset, State.reset, by decide +kernel, rfl⟩

theorem test_witness_ResetState :
    (∃ (n : Fin 68), 64 ≤ n.val) :=
  ⟨64, by decide +kernel⟩

theorem test_witness_RegisterReadBack :
    (∃ (s : State) (a : Nat) (w : Word), s.regsWf = true) ∧
    (∃ (s : State) (a : Nat) (b : Nat) (w : Word), b ≠ a) ∧
    (∃ (s : State) (a : Nat) (d : DWord), s.regsWf = true) ∧
    (∃ (s : State) (a : Nat) (hi : Nat) (lo : Nat) (v : Nat), s.regsWf = true) ∧
    (∃ (s : State) (lo : Nat) (len : Nat) (a : Nat), lo ≤ a ∧ a < lo + len) ∧
    (∃ (s : State) (lo : Nat) (len : Nat) (a : Nat), (a < lo ∨ lo + len ≤ a)) ∧
    (∃ (s : State) (a : Nat), s.regsWf = true ∧ s.getR a ≠ 0xFFFFFFFF) ∧
    (∃ (s : State) (a : Nat), s.regsWf = true ∧ s.getR a = 0xFFFFFFFF) :=
  ⟨⟨State.reset, 0, 0, by decide +kernel⟩,
   ⟨State.reset, 0, 1, 0, by decide +kernel⟩,
   ⟨State.reset, 0, 0, by decide +kernel⟩,
   ⟨State.reset, 0, 0, 0, 0, by decide +kernel⟩,
   ⟨State.reset, 0, 1, 0, by decide +kernel, by decide +kernel⟩,
   ⟨State.reset, 0, 0, 0, by decide +kernel⟩,
   ⟨State.reset, 0, by decide +kernel, by decide +kernel⟩,
   ⟨(State.reset).setR 0 0xFFFFFFFF, 0, by decide +kernel, by decide +kernel⟩⟩

theorem test_witness_OverrunPolicyDiscards :
    (∃ (e : Fin 64) (s : State) (u : State) (d : Delivered) (n : Nat), s.due? 1 e 0 = some d ∧ s.physOf e = some n ∧ s.domOn (domEngine n) = true ∧ s.getB (Reg.ENG_CTL n) 0 = true ∧ (s.leng e).mig = none ∧ s.inCycle n = true ∧ s.getB (Reg.ENG_CTL n) 3 = true ∧ u = (s.taken d).incR (Reg.ENG_LOST n)) :=
  ⟨0, ((wFn (fun s => s.setLeng 0 { s.leng 0 with mig := none }) ((wDue (wAct 1 0 0 0) State.reset).setB (Reg.ENG_CTL 0) 0 true)).setEngState 0 3).setB (Reg.ENG_CTL 0) 3 true, _, (wAct 1 0 0 0), 0, by decide +kernel, by decide +kernel, by decide +kernel, by decide +kernel, by decide +kernel, by decide +kernel, by decide +kernel, rfl⟩

theorem test_witness_RunEnableOff :
    (∃ (e : Fin 64) (s : State) (d : Delivered) (n : Nat), s.due? 1 e 0 = some d ∧ s.physOf e = some n ∧ s.domOn (domEngine n) = true ∧ s.getB (Reg.ENG_CTL n) 0 = false) ∧
    (∃ (e : Fin 64) (s : State) (d : Delivered), s.due? 1 e 1 = some d) ∧
    (∃ (n : Fin 68) (s : State) (u : State) (e : Nat), s.getB (Reg.ENG_CTL n) 0 = true ∧ s.logicalOf n = some e ∧ u = (s.setB (Reg.ENG_CTL n) 0 false).setB (Reg.ENG_STAT n) 6 false ∧ s.regsWf = true) :=
  ⟨⟨0, (wDue (wAct 1 0 0 0) State.reset).setB (Reg.ENG_CTL 0) 0 false, (wAct 1 0 0 0), 0, by decide +kernel, by decide +kernel, by decide +kernel, by decide +kernel⟩,
   ⟨0, wDue (wAct 1 0 1 0) State.reset, (wAct 1 0 1 0), by decide +kernel⟩,
   ⟨0, (State.reset).setB (Reg.ENG_CTL 0) 0 true, _, 0, by decide +kernel, by decide +kernel, rfl, by decide +kernel⟩⟩

theorem test_witness_MemRepairRefusals :
    (∃ (i : Fin 48) (w : Word) (s : State) (u : State) (spare : Nat) (retired : Nat), u = s.setB (Reg.SEC_MEM_STAT i) 0 true ∧ spare = (if bitOf w 8 then Reg.SEC_SPARE_MUL i else Reg.SEC_SPARE_BRAM i) ∧ retired = (if bitOf w 8 then Reg.SEC_MUL_RETIRED i else Reg.SEC_BRAM_RETIRED i) ∧ fld w 31 30 = 1 ∧ ((s.getB spare 31 = true ∨ s.getB spare 29 = true ∨ s.getB spare 30 = true))) ∧
    (∃ (i : Fin 48) (w : Word) (s : State) (u : State) (spare : Nat) (retired : Nat), u = s.setB (Reg.SEC_MEM_STAT i) 0 true ∧ spare = (if bitOf w 8 then Reg.SEC_SPARE_MUL i else Reg.SEC_SPARE_BRAM i) ∧ retired = (if bitOf w 8 then Reg.SEC_MUL_RETIRED i else Reg.SEC_BRAM_RETIRED i) ∧ fld w 31 30 = 2 ∧ ((s.getB spare 31 = false ∨ s.getF spare 4 0 ≠ fld w 4 0 ∨ s.getB retired (fld w 4 0) = true ∨ s.getB spare 30 = true))) ∧
    (∃ (i : Fin 48) (w : Word) (s : State) (u : State) (spare : Nat) (retired : Nat), u = s.setB (Reg.SEC_MEM_STAT i) 0 true ∧ spare = (if bitOf w 8 then Reg.SEC_SPARE_MUL i else Reg.SEC_SPARE_BRAM i) ∧ retired = (if bitOf w 8 then Reg.SEC_MUL_RETIRED i else Reg.SEC_BRAM_RETIRED i) ∧ fld w 31 30 = 3) :=
  ⟨⟨0, 0x40000000, (State.reset).setB (Reg.SEC_SPARE_BRAM 0) 31 true, _, _, _, rfl, rfl, rfl, by decide +kernel, by decide +kernel⟩,
   ⟨0, 0x80000000, State.reset, _, _, _, rfl, rfl, rfl, by decide +kernel, by decide +kernel⟩,
   ⟨0, 0xC0000000, State.reset, _, _, _, rfl, rfl, rfl, by decide +kernel⟩⟩

theorem test_witness_TicksAndTheCalendar :
    (∃ (s : State), s.timeRuns = true) ∧
    (∃ (s : State), s.timeRuns = false) :=
  ⟨⟨{ (State.reset : State) with timeRuns := true }, by decide +kernel⟩,
   ⟨State.reset, by decide +kernel⟩⟩

theorem test_witness_PostsPrewakesAndCancels :
    (∃ (s : State) (p : Nat) (r : PortRec) (l : List PortRec), s.nextPort = some p ∧ s.fifo p = r :: l) ∧
    (∃ (s : State), ((s.nextPort = none ∨ ∃ p, s.nextPort = some p ∧ s.fifo p = []))) ∧
    (∃ (s : State) (p : Nat) (a : ActRec), s.thawed = false) ∧
    (∃ (s : State) (p : Nat) (a : ActRec), s.thawed = true ∧ 9 ≤ a.kind) ∧
    (∃ (s : State) (p : Nat) (a : ActRec), s.thawed = true ∧ recStatus p a = 0 ∧ 2 ^ 62 < tdiff a.due s.time) ∧
    (∃ (s : State) (p : Nat) (a : ActRec), s.thawed = true ∧ recStatus p a = 0 ∧ tdiff a.due s.time ≤ 2 ^ 62 ∧ s.quota p ≤ s.used p) ∧
    (∃ (s : State) (k : Nat) (d : Nat), s.firstPrewake = some (k, d)) ∧
    (∃ (s : State) (w : Word), bitOf w 0 = false) ∧
    (∃ (s : State) (w : Word), bitOf w 0 = true) ∧
    (∃ (s : State) (c : CmdRef) (x : Command), s.turn c 2 1 = some x) :=
  ⟨⟨(State.reset).fifoPush 0 0 .config, 0, ⟨0, .config⟩, [], by decide +kernel, by decide +kernel⟩,
   ⟨State.reset, by decide +kernel⟩,
   ⟨(State.reset).setF Reg.DEV_START_STAT 4 2 1, 0, ({ due := 0, kind := 0, inner := 0, tgt := 0, op := 0, tag := 0, station := 0, data := 0 } : ActRec), by decide +kernel⟩,
   ⟨(State.reset).setF Reg.DEV_START_STAT 4 2 5, 0, ({ due := 0, kind := 9, inner := 0, tgt := 0, op := 0, tag := 0, station := 0, data := 0 } : ActRec), by decide +kernel, by decide +kernel⟩,
   ⟨(State.reset).setF Reg.DEV_START_STAT 4 2 5, 0, ({ due := 0x4000000000000001, kind := 0, inner := 0, tgt := 0, op := 0, tag := 0, station := 0, data := 0 } : ActRec), by decide +kernel, by decide +kernel, by decide +kernel⟩,
   ⟨((State.reset).setF Reg.DEV_START_STAT 4 2 5).setF (Reg.ACT_PORT_QUOTA 0) 12 0 0, 0, ({ due := 0, kind := 0, inner := 0, tgt := 0, op := 0, tag := 0, station := 0, data := 0 } : ActRec), by decide +kernel, by decide +kernel, by decide +kernel, by decide +kernel⟩,
   ⟨wFn (fun s => { s with act := { s.act with cal := [⟨⟨0, 2, 0, 0, 0, 0, 0, 0⟩, 0, 0, .config, none⟩] } }) ((State.reset).setB Reg.ACT_CTL 0 true), 0, _, rfl⟩,
   ⟨State.reset, 0x0, by decide +kernel⟩,
   ⟨State.reset, 0x1, by decide +kernel⟩,
   ⟨wCom (wCmd 2 1 (List.replicate 24 0)) State.reset, wRef, (wCmd 2 1 (List.replicate 24 0)), by decide +kernel⟩⟩

theorem test_witness_PostsPrewakesAndCancels_2 :
    (∃ (tag : Nat) (mask : Nat) (kind : Nat) (port : Nat) (ka : Bool) (pa : Bool) (e : CalEntry), e.act.kind = 6) :=
  ⟨0, 0, 0, 0, false, false, ⟨⟨0, 6, 0, 0, 0, 0, 0, 0⟩, 83, 0, .config, none⟩, by decide +kernel⟩

theorem test_witness_LaunchCells :
    (∃ (p : Fin 1152) (s : State) (e : LaunchEntry), (s.cell p).next = some e ∧ s.reached e.due = true ∧ s.afterFront e.due = false ∧ (s.cell p).leadFirst e = true ∧ e.op = 0) ∧
    (∃ (p : Fin 1152) (s : State) (e : LaunchEntry), (s.cell p).next = some e ∧ s.reached e.due = true ∧ s.afterFront e.due = false ∧ (s.cell p).leadFirst e = true ∧ e.op = 1) ∧
    (∃ (p : Fin 1152) (s : State) (e : LaunchEntry), (s.cell p).next = some e ∧ s.reached e.due = true ∧ s.afterFront e.due = false ∧ (s.cell p).leadFirst e = true ∧ e.op = 2) ∧
    (∃ (p : Fin 1152) (s : State) (e : LaunchEntry), (s.cell p).next = some e ∧ s.reached e.due = true ∧ s.afterFront e.due = false ∧ (s.cell p).leadFirst e = true ∧ e.op = 3) ∧
    (∃ (p : Fin 1152) (s : State) (e : LaunchEntry), (s.cell p).next = some e ∧ s.reached e.due = true ∧ s.afterFront e.due = false ∧ (s.cell p).leadFirst e = true ∧ e.op = 4) ∧
    (∃ (p : Fin 1152) (s : State) (e : LaunchEntry), (s.cell p).next = some e ∧ s.reached e.due = true ∧ s.afterFront e.due = false ∧ (s.cell p).leadFirst e = true ∧ e.op = 5) ∧
    (∃ (p : Fin 1152) (s : State) (e : LaunchEntry) (t : DWord), firstTrail (s.cell p).queue = some e ∧ e.trail = some t ∧ s.reached t = true ∧ s.afterFront t = false ∧ ((∀ x, (s.cell p).next = some x → before x.due t = false))) :=
  ⟨⟨0, (State.reset : State).setCell 0 { queue := [({ op := 0, due := 0, width := 0 } : LaunchEntry)] }, ({ op := 0, due := 0, width := 0 } : LaunchEntry), by decide +kernel, by decide +kernel, by decide +kernel, by decide +kernel, by decide +kernel⟩,
   ⟨0, (State.reset : State).setCell 0 { queue := [({ op := 1, due := 0, width := 0 } : LaunchEntry)] }, ({ op := 1, due := 0, width := 0 } : LaunchEntry), by decide +kernel, by decide +kernel, by decide +kernel, by decide +kernel, by decide +kernel⟩,
   ⟨0, (State.reset : State).setCell 0 { queue := [({ op := 2, due := 0, width := 0 } : LaunchEntry)] }, ({ op := 2, due := 0, width := 0 } : LaunchEntry), by decide +kernel, by decide +kernel, by decide +kernel, by decide +kernel, by decide +kernel⟩,
   ⟨0, (State.reset : State).setCell 0 { queue := [({ op := 3, due := 0, width := 0 } : LaunchEntry)] }, ({ op := 3, due := 0, width := 0 } : LaunchEntry), by decide +kernel, by decide +kernel, by decide +kernel, by decide +kernel, by decide +kernel⟩,
   ⟨0, (State.reset : State).setCell 0 { queue := [({ op := 4, due := 0, width := 0 } : LaunchEntry)] }, ({ op := 4, due := 0, width := 0 } : LaunchEntry), by decide +kernel, by decide +kernel, by decide +kernel, by decide +kernel, by decide +kernel⟩,
   ⟨0, (State.reset : State).setCell 0 { queue := [({ op := 5, due := 0, width := 0 } : LaunchEntry)] }, ({ op := 5, due := 0, width := 0 } : LaunchEntry), by decide +kernel, by decide +kernel, by decide +kernel, by decide +kernel, by decide +kernel⟩,
   ⟨0, wAt 160 ((State.reset : State).setCell 0 { queue := [({ op := 5, due := 0, width := 4, lead := some 0 } : LaunchEntry)] }), ({ op := 5, due := 0, width := 4, lead := some 0 } : LaunchEntry), _, by decide +kernel, rfl, by decide +kernel, by decide +kernel, (by intro x h; cases h)⟩⟩

theorem test_witness_CaptureCellsAndCounters :
    (∃ (p : Fin 1152) (s : State) (d : Delivered), s.due? 3 p 0 = some d) ∧
    (∃ (p : Fin 1152) (s : State) (d : Delivered), s.due? 3 p 1 = some d) ∧
    (∃ (p : Fin 1152) (s : State) (d : Delivered), s.due? 3 p 2 = some d) ∧
    (∃ (p : Fin 1152) (s : State) (d : Delivered), s.due? 3 p 3 = some d) ∧
    (∃ (p : Fin 1152) (s : State) (d : Delivered), s.due? 3 p 5 = some d) ∧
    (∃ (p : Fin 1152) (s : State) (d : Delivered), s.due? 3 p 6 = some d) ∧
    (∃ (p : Fin 1152) (s : State) (d : Delivered), s.due? 3 p 7 = some d) ∧
    (∃ (p : Fin 1152) (ed : Edge) (q : Fin 40) (s : State) (a : Arming), (s.capCell p).arm = some a ∧ a.takes (ed == .rising) (s.time + units (4 * q.val)) = true ∧ ((∀ l, (s.capCell p).lastEdge = some l → 160 ≤ tdiff (s.time + units (4 * q.val)) l))) ∧
    (∃ (p : Fin 1152) (ed : Edge) (q : Fin 40) (s : State) (a : Arming) (l : DWord), (s.capCell p).arm = some a ∧ a.takes (ed == .rising) (s.time + units (4 * q.val)) = true ∧ (s.capCell p).lastEdge = some l ∧ tdiff (s.time + units (4 * q.val)) l < 160) ∧
    (∃ (p : Fin 1152) (s : State) (a : Arming) (t : DWord), (s.capCell p).arm = some a ∧ a.close = some t ∧ s.reached t = true) :=
  ⟨⟨0, wDue (wAct 3 0 0 0) State.reset, (wAct 3 0 0 0), by decide +kernel⟩,
   ⟨0, wDue (wAct 3 0 1 0) State.reset, (wAct 3 0 1 0), by decide +kernel⟩,
   ⟨0, wDue (wAct 3 0 2 0) State.reset, (wAct 3 0 2 0), by decide +kernel⟩,
   ⟨0, wDue (wAct 3 0 3 0) State.reset, (wAct 3 0 3 0), by decide +kernel⟩,
   ⟨0, wDue (wAct 3 0 5 0) State.reset, (wAct 3 0 5 0), by decide +kernel⟩,
   ⟨0, wDue (wAct 3 0 6 0) State.reset, (wAct 3 0 6 0), by decide +kernel⟩,
   ⟨0, wDue (wAct 3 0 7 0) State.reset, (wAct 3 0 7 0), by decide +kernel⟩,
   ⟨0, .rising, 0, wFn (fun s => s.setCap 0 { s.capCell 0 with arm := some (({ rise := true, fall := true, start := 0, left := none, close := none, ring := 0, tag := 0, late := false } : Arming)) }) (State.reset), ({ rise := true, fall := true, start := 0, left := none, close := none, ring := 0, tag := 0, late := false } : Arming), by decide +kernel, by decide +kernel, (by intro x h; cases h)⟩,
   ⟨0, .rising, 0, wFn (fun s => s.setCap 0 { s.capCell 0 with lastEdge := some 0 }) (wFn (fun s => s.setCap 0 { s.capCell 0 with arm := some (({ rise := true, fall := true, start := 0, left := none, close := none, ring := 0, tag := 0, late := false } : Arming)) }) (State.reset)), ({ rise := true, fall := true, start := 0, left := none, close := none, ring := 0, tag := 0, late := false } : Arming), 0, by decide +kernel, by decide +kernel, by decide +kernel, by decide +kernel⟩,
   ⟨0, wFn (fun s => s.setCap 0 { s.capCell 0 with arm := some (({ rise := true, fall := true, start := 0, left := none, close := some 0, ring := 0, tag := 0, late := false } : Arming)) }) (State.reset), ({ rise := true, fall := true, start := 0, left := none, close := some 0, ring := 0, tag := 0, late := false } : Arming), 0, by decide +kernel, by decide +kernel, by decide +kernel⟩⟩

theorem test_witness_CaptureCellsAndCounters_2 :
    (∃ (c : CmdRef) (s : State) (x : Command), s.turn c 2 4 = some x ∧ beAt x.payload 0 1 < 4 ∧ 1 ≤ beAt x.payload 1 1 ∧ beAt x.payload 1 1 ≤ 64) ∧
    (∃ (n : Fin 16) (s : State) (d : Delivered), s.due? 7 n 0 = some d) ∧
    (∃ (n : Fin 16) (s : State) (d : Delivered), s.due? 7 n 1 = some d) ∧
    (∃ (n : Fin 16) (s : State) (d : Delivered), s.due? 7 n 2 = some d ∧ (s.getR (Reg.ACT_CNT n)).toNat ≤ d.act.data.toNat ∧ s.getR (Reg.ACT_CNT n) ≠ 0) ∧
    (∃ (n : Fin 16) (s : State) (d : Delivered), s.due? 7 n 2 = some d ∧ d.act.data.toNat < (s.getR (Reg.ACT_CNT n)).toNat) ∧
    (∃ (n : Fin 16) (s : State) (d : Delivered), s.due? 7 n 3 = some d) :=
  ⟨⟨wRef, wCom (wCmd 2 4 ([0, 1, 0, 0, 0, 0, 0, 0, 0, 0, 0, 0, 0, 0, 0, 0, 0, 0, 0, 0, 0, 0, 0, 0])) State.reset, (wCmd 2 4 ([0, 1, 0, 0, 0, 0, 0, 0, 0, 0, 0, 0, 0, 0, 0, 0, 0, 0, 0, 0, 0, 0, 0, 0])), by decide +kernel, by decide +kernel, by decide +kernel, by decide +kernel⟩,
   ⟨0, wDue (wAct 7 0 0 0) State.reset, (wAct 7 0 0 0), by decide +kernel⟩,
   ⟨0, wDue (wAct 7 0 1 0) State.reset, (wAct 7 0 1 0), by decide +kernel⟩,
   ⟨0, (wDue (wAct 7 0 2 5) State.reset).setR (Reg.ACT_CNT 0) 3, (wAct 7 0 2 5), by decide +kernel, by decide +kernel, by decide +kernel⟩,
   ⟨0, (wDue (wAct 7 0 2 1) State.reset).setR (Reg.ACT_CNT 0) 3, (wAct 7 0 2 1), by decide +kernel, by decide +kernel⟩,
   ⟨0, wDue (wAct 7 0 3 0) State.reset, (wAct 7 0 3 0), by decide +kernel⟩⟩

theorem test_witness_CycleTables :
    (∃ (s : State) (t : Nat) (T : DWord), s.tblRuns t = true) ∧
    (∃ (s : State) (t : Nat) (T : DWord), s.tblRuns t = false ∧ s.admValid t = false) ∧
    (∃ (s : State) (t : Fin 16), s.tblRuns t = false ∧ s.admValid t = true) ∧
    (∃ (s : State) (t : Fin 16) (d : Delivered), s.due? 5 t 0 = some d) ∧
    (∃ (s : State) (c : CmdRef) (x : Command), s.turn c 2 2 = some x ∧ beAt x.payload 1 1 = 0 ∧ beAt x.payload 0 1 < 16) ∧
    (∃ (s : State) (t : Fin 16) (b : DWord), s.tblRuns t = true ∧ (s.tbl t).swapAt = none ∧ b = boundaryAt (s.getD (Reg.ACT_CT_BASE t)) (s.getD (Reg.ACT_CT_CMD_TIME t)) (s.opPeriod t)) ∧
    (∃ (s : State) (t : Fin 16) (b : DWord), s.tblRuns t = true ∧ (s.tbl t).stopAt = none ∧ (s.tbl t).swapAt = none ∧ s.admValid t = true ∧ b = boundaryAt (s.getD (Reg.ACT_CT_BASE t)) (laterOf (s.getD (Reg.ACT_CT_CMD_TIME t)) (s.time + 128000)) (s.opPeriod t)) ∧
    (∃ (base : DWord) (t : DWord) (p : Nat), tdiff t base ≤ 0) ∧
    (∃ (t : Fin 16) (s : State) (b : DWord), (s.tbl t).stopAt = some b ∧ (s.tbl t).swapAt = none ∧ s.reached b = true) ∧
    (∃ (t : Fin 16) (s : State) (s1 : State) (s2 : State) (b : DWord), (s.tbl t).swapAt = some b ∧ s.reached b = true ∧ s1 = ((s.addF (Reg.ACT_CT_PERIODS t) 31 0 (s.periodsTo t b)).copyAdm t).setD (Reg.ACT_CT_BASE t) b ∧ s2 = { s1 with act := { s1.act with cal := s1.act.cal.map (fun e => if ofAdmin t e then { e with owner := .table t.val false } else e) } }) :=
  ⟨⟨(State.reset).setB (Reg.ACT_CT_STAT 0) 0 true, 0, 0, by decide +kernel⟩,
   ⟨State.reset, 0, 0, by decide +kernel, by decide +kernel⟩,
   ⟨(State.reset).setD (Reg.ACT_CT_ADM_PERIOD 0) 64000, 0, by decide +kernel, by decide +kernel⟩,
   ⟨wDue (wAct 5 0 0 0) State.reset, 0, (wAct 5 0 0 0), by decide +kernel⟩,
   ⟨wCom (wCmd 2 2 (List.replicate 24 0)) State.reset, wRef, (wCmd 2 2 (List.replicate 24 0)), by decide +kernel, by decide +kernel, by decide +kernel⟩,
   ⟨wFn (fun s => s.setTbl 0 { s.tbl 0 with swapAt := none }) ((State.reset).setB (Reg.ACT_CT_STAT 0) 0 true), 0, _, by decide +kernel, by decide +kernel, rfl⟩,
   ⟨(wFn (fun s => s.setTbl 0 { s.tbl 0 with swapAt := none }) (wFn (fun s => s.setTbl 0 { s.tbl 0 with stopAt := none }) ((State.reset).setB (Reg.ACT_CT_STAT 0) 0 true))).setD (Reg.ACT_CT_ADM_PERIOD 0) 64000, 0, _, by decide +kernel, by decide +kernel, by decide +kernel, by decide +kernel, rfl⟩,
   ⟨0, 0, 0, by decide +kernel⟩,
   ⟨0, wFn (fun s => s.setTbl 0 { s.tbl 0 with swapAt := none }) (wFn (fun s => s.setTbl 0 { s.tbl 0 with stopAt := some 0 }) (State.reset)), 0, by decide +kernel, by decide +kernel, by decide +kernel⟩,
   ⟨0, wFn (fun s => s.setTbl 0 { s.tbl 0 with swapAt := some 0 }) (State.reset), _, _, 0, by decide +kernel, by decide +kernel, rfl, rfl⟩⟩

theorem test_witness_CycleTables_2 :
    (∃ (t : Fin 16) (s : State), s.tblRuns t = true ∧ s.reached (s.getD (Reg.ACT_CT_BASE t) + units (s.opPeriod t)) = true ∧ (s.tbl t).stopAt ≠ some (s.getD (Reg.ACT_CT_BASE t) + units (s.opPeriod t)) ∧ (s.tbl t).swapAt ≠ some (s.getD (Reg.ACT_CT_BASE t) + units (s.opPeriod t))) ∧
    (∃ (t : Fin 16) (s : State) (w : QWord) (adm : Bool) (x : CycTable), s.tblRuns t = true ∧ s.tblNext t = some (w, adm, x) ∧ ((∀ b, x.stopAt = some b → atOrAfter (decodeRec w).due b = false)) ∧ tdiff (decodeRec w).due s.time ≤ (s.ahead : Nat) ∧ before (decodeRec w).due x.skipBefore = true) ∧
    (∃ (t : Fin 16) (s : State) (w : QWord) (adm : Bool) (x : CycTable), s.tblRuns t = true ∧ s.tblNext t = some (w, adm, x) ∧ ((∀ b, x.stopAt = some b → atOrAfter (decodeRec w).due b = false)) ∧ tdiff (decodeRec w).due s.time ≤ (s.ahead : Nat) ∧ before (decodeRec w).due x.skipBefore = false ∧ s.nextPort = some 81) ∧
    (∃ (t : Fin 16) (s : State) (w : QWord) (adm : Bool) (x : CycTable), s.tblRuns t = true ∧ s.tblNext t = some (w, adm, x) ∧ ((∀ b, x.stopAt = some b → atOrAfter (decodeRec w).due b = false)) ∧ tdiff (decodeRec w).due s.time ≤ (s.ahead : Nat) ∧ before (decodeRec w).due x.skipBefore = false ∧ s.nextPort ≠ some 81) ∧
    (∃ (t : Fin 16) (s : State), (s.tbl t).copyBack = true) ∧
    (∃ (c : CmdRef) (s : State) (x : Command), s.turn c 2 3 = some x ∧ beAt x.payload 0 1 < 16 ∧ beAt x.payload 1 2 + (x.payload.length - 3) / 16 ≤ 256 ∧ ((∀ i, i < (x.payload.length - 3) / 16 → beAt x.payload (3 + 16 * i) 3 = 0))) ∧
    (∃ (s : State) (t : Nat) (a : Nat) (w : Word), (s.tbl t).swapAt = none ∧ (s.tbl t).copyBack = false) ∧
    (∃ (s : State) (t : Nat) (a : Nat) (w : Word), (s.tbl t).swapAt = none ∧ (s.tbl t).copyBack = true) ∧
    (∃ (s : State) (t : Nat) (a : Nat) (w : Word), (s.tbl t).swapAt.isSome = true) :=
  ⟨⟨0, (State.reset).setB (Reg.ACT_CT_STAT 0) 0 true, by decide +kernel, by decide +kernel, by decide +kernel, by decide +kernel⟩,
   ⟨0, wFn (fun s => s.setTbl 0 { s.tbl 0 with skipBefore := 1 }) (((State.reset).setB (Reg.ACT_CT_STAT 0) 0 true).setF (Reg.ACT_CT_OP_COUNT 0) 8 0 1), _, _, _, by decide +kernel, rfl, (by intro x h; cases h), by decide +kernel, by decide +kernel⟩,
   ⟨0, ((State.reset).setB (Reg.ACT_CT_STAT 0) 0 true).setF (Reg.ACT_CT_OP_COUNT 0) 8 0 1, _, _, _, by decide +kernel, rfl, (by intro x h; cases h), by decide +kernel, by decide +kernel, by decide +kernel⟩,
   ⟨0, (((State.reset).setB (Reg.ACT_CT_STAT 0) 0 true).setF (Reg.ACT_CT_OP_COUNT 0) 8 0 1 : State).setFifo 83 [⟨0, .config⟩], _, _, _, by decide +kernel, rfl, (by intro x h; cases h), by decide +kernel, by decide +kernel, by decide +kernel⟩,
   ⟨0, (wFn (fun s => s.setTbl 0 { s.tbl 0 with copyBack := true }) (State.reset)).setF (Reg.ACT_CT_OP_COUNT 0) 8 0 1, by decide +kernel⟩,
   ⟨wRef, wCom (wCmd 2 3 ([0, 0, 0] ++ List.replicate 16 0)) State.reset, (wCmd 2 3 ([0, 0, 0] ++ List.replicate 16 0)), by decide +kernel, by decide +kernel, by decide +kernel, (by decide +kernel)⟩,
   ⟨wFn (fun s => s.setTbl 0 { s.tbl 0 with copyBack := false }) (wFn (fun s => s.setTbl 0 { s.tbl 0 with swapAt := none }) (State.reset)), 0, 0, 0, by decide +kernel, by decide +kernel⟩,
   ⟨wFn (fun s => s.setTbl 0 { s.tbl 0 with copyBack := true }) (wFn (fun s => s.setTbl 0 { s.tbl 0 with swapAt := none }) (State.reset)), 0, 0, 0, by decide +kernel, by decide +kernel⟩,
   ⟨wFn (fun s => s.setTbl 0 { s.tbl 0 with swapAt := some 0 }) (State.reset), 0, 0, 0, by decide +kernel⟩⟩

theorem test_witness_LocksAndLosses :
    (∃ (n : Fin 8) (why : Fin 2) (s : State), s.locked n = true) ∧
    (∃ (r : Fin 2) (s : State), s.getB Reg.CLK_RES_STAT r = false) ∧
    (∃ (s : State) (u : State) (n : Nat) (why : Nat), 2 ≤ n ∧ u = ((((s.anchorDelays n s.time).raise (128 + n) (2 ^ why)).setB (Reg.CLK_ADPLL_STAT n) 0 false).addF (Reg.CLK_ADPLL_STAT n) 31 16 1).countLol n) ∧
    (∃ (n : Fin 8) (s : State) (v : DWord), 2 ≤ n.val ∧ (s.pll n).latched = some v ∧ s.refAlive n = true ∧ s.lockReady n = true) ∧
    (∃ (n : Fin 8) (s : State), (((s.pll n).latched = none ∨ s.refAlive n = false ∨ s.lockReady n = false))) ∧
    (∃ (n : Nat) (s : State), s.timeRuns = true ∧ atOrAfter s.time ((s.pll n).since + units (13280 * 64 + s.getF (Reg.CLK_ADPLL_LOCK_CFG n) 23 16 * 64000)) = false) ∧
    (∃ (n : Fin 8) (s : State), s.getB (Reg.CLK_ADPLL_STAT n) 3 = true ∧ s.fcwAct n = s.fcw (Reg.CLK_ADPLL_FCW n)) :=
  ⟨⟨0, 0, (State.reset).setB (Reg.CLK_ADPLL_STAT 0) 0 true, by decide +kernel⟩,
   ⟨0, (State.reset).setB Reg.CLK_RES_STAT 0 false, by decide +kernel⟩,
   ⟨State.reset, _, 2, 0, by decide +kernel, rfl⟩,
   ⟨2, wFn (fun s => s.setPll 2 { s.pll 2 with latched := some 0 }) (State.reset), 0, by decide +kernel, by decide +kernel, by decide +kernel, by decide +kernel⟩,
   ⟨0, State.reset, by decide +kernel⟩,
   ⟨0, { (State.reset : State) with timeRuns := true }, by decide +kernel, by decide +kernel⟩,
   ⟨0, (wFn (fun s => s.setPll 0 { s.pll 0 with slewFrom := 0 }) ((State.reset).setB (Reg.CLK_ADPLL_STAT 0) 3 true)).setD (Reg.CLK_ADPLL_FCW 0) 0, by decide +kernel, by decide +kernel⟩⟩

theorem test_witness_FcwAndAdpllControl :
    (∃ (n : Fin 8) (v : DWord) (s : State), n.val < 2) ∧
    (∃ (n : Fin 8) (v : DWord) (s : State), 2 ≤ n.val ∧ ((v.toNat % 2 ^ 40 < 80 * 2 ^ 32 ∨ 160 * 2 ^ 32 < v.toNat % 2 ^ 40))) ∧
    (∃ (n : Fin 8) (v : DWord) (s : State), 2 ≤ n.val ∧ 80 * 2 ^ 32 ≤ v.toNat % 2 ^ 40 ∧ v.toNat % 2 ^ 40 ≤ 160 * 2 ^ 32 ∧ (s.pll n).latched.isSome = true) ∧
    (∃ (n : Fin 8) (v : DWord) (s : State), 2 ≤ n.val ∧ 80 * 2 ^ 32 ≤ v.toNat % 2 ^ 40 ∧ v.toNat % 2 ^ 40 ≤ 160 * 2 ^ 32 ∧ (s.pll n).latched = none ∧ s.locked n = false ∧ s.aboveCeil n (v.toNat % 2 ^ 40) = false ∧ s.belowFloor n (v.toNat % 2 ^ 40) = false) ∧
    (∃ (n : Fin 8) (v : DWord) (w : DWord) (s : State) (l : Nat), 2 ≤ n.val ∧ w = BitVec.ofNat 64 (v.toNat % 2 ^ 40) ∧ 80 * 2 ^ 32 ≤ w.toNat ∧ w.toNat ≤ 160 * 2 ^ 32 ∧ (s.pll n).latched = none ∧ s.locked n = true ∧ l = s.fcw (Reg.CLK_ADPLL_LOCK_FCW n) ∧ (w.toNat - l + (l - w.toNat)) * 1000000 ≤ 2000 * l ∧ s.aboveCeil n w.toNat = false ∧ s.belowFloor n w.toNat = false) ∧
    (∃ (n : Fin 8) (v : DWord) (w : DWord) (s : State) (l : Nat), 2 ≤ n.val ∧ w = BitVec.ofNat 64 (v.toNat % 2 ^ 40) ∧ 80 * 2 ^ 32 ≤ w.toNat ∧ w.toNat ≤ 160 * 2 ^ 32 ∧ (s.pll n).latched = none ∧ s.locked n = true ∧ l = s.fcw (Reg.CLK_ADPLL_LOCK_FCW n) ∧ 2000 * l < (w.toNat - l + (l - w.toNat)) * 1000000 ∧ s.getB (Reg.CLK_ADPLL_CTL n) 11 = true ∧ s.aboveCeil n w.toNat = false ∧ s.belowFloor n w.toNat = false) ∧
    (∃ (n : Fin 8) (v : DWord) (w : DWord) (s : State) (l : Nat), 2 ≤ n.val ∧ w = BitVec.ofNat 64 (v.toNat % 2 ^ 40) ∧ 80 * 2 ^ 32 ≤ w.toNat ∧ w.toNat ≤ 160 * 2 ^ 32 ∧ (s.pll n).latched = none ∧ s.locked n = true ∧ l = s.fcw (Reg.CLK_ADPLL_LOCK_FCW n) ∧ 2000 * l < (w.toNat - l + (l - w.toNat)) * 1000000 ∧ s.getB (Reg.CLK_ADPLL_CTL n) 11 = false) ∧
    (∃ (n : Fin 8) (v : DWord) (w : DWord) (s : State) (l : Nat), 2 ≤ n.val ∧ w = BitVec.ofNat 64 (v.toNat % 2 ^ 40) ∧ 80 * 2 ^ 32 ≤ w.toNat ∧ w.toNat ≤ 160 * 2 ^ 32 ∧ (s.pll n).latched = none ∧ s.locked n = true ∧ l = s.fcw (Reg.CLK_ADPLL_LOCK_FCW n) ∧ (w.toNat - l + (l - w.toNat)) * 1000000 ≤ 2000 * l ∧ ((s.aboveCeil n w.toNat = true ∨ s.belowFloor n w.toNat = true))) ∧
    (∃ (n : Fin 8) (w : Word) (s : State), n.val < 2) ∧
    (∃ (n : Fin 8) (w : Word) (s : State), 2 ≤ n.val ∧ s.getB (Reg.CLK_ADPLL_CTL n) 0 = false ∧ (s.store (Reg.CLK_ADPLL_CTL n) w).getB (Reg.CLK_ADPLL_CTL n) 0 = true) :=
  ⟨⟨0, 0, State.reset, by decide +kernel⟩,
   ⟨2, 0, State.reset, by decide +kernel, by decide +kernel⟩,
   ⟨2, 0x6400000000, wFn (fun s => s.setPll 2 { s.pll 2 with latched := some 5 }) (State.reset), by decide +kernel, by decide +kernel, by decide +kernel, by decide +kernel⟩,
   ⟨2, 0xA000000000, (wFn (fun s => s.setPll 2 { s.pll 2 with latched := none }) (State.reset)).setB (Reg.CLK_ADPLL_STAT 2) 0 false, by decide +kernel, by decide +kernel, by decide +kernel, by decide +kernel, by decide +kernel, by decide +kernel, by decide +kernel⟩,
   ⟨2, 0x7800000000, _, (wFn (fun s => s.setPll 2 { s.pll 2 with latched := none }) (State.reset)).setB (Reg.CLK_ADPLL_STAT 2) 0 true, _, by decide +kernel, rfl, by decide +kernel, by decide +kernel, by decide +kernel, by decide +kernel, rfl, by decide +kernel, by decide +kernel, by decide +kernel⟩,
   ⟨2, 0xA000000000, _, (((wFn (fun s => s.setPll 2 { s.pll 2 with latched := none }) (State.reset)).setB (Reg.CLK_ADPLL_STAT 2) 0 true).setB (Reg.CLK_ADPLL_CTL 2) 11 true).setB (Reg.CLK_ADPLL_CTL 2) 11 true, _, by decide +kernel, rfl, by decide +kernel, by decide +kernel, by decide +kernel, by decide +kernel, rfl, by decide +kernel, by decide +kernel, by decide +kernel, by decide +kernel⟩,
   ⟨2, 0xA000000000, _, ((wFn (fun s => s.setPll 2 { s.pll 2 with latched := none }) (State.reset)).setB (Reg.CLK_ADPLL_STAT 2) 0 true).setB (Reg.CLK_ADPLL_CTL 2) 11 false, _, by decide +kernel, rfl, by decide +kernel, by decide +kernel, by decide +kernel, by decide +kernel, rfl, by decide +kernel, by decide +kernel⟩,
   ⟨2, 0x7800000000, _, ((wFn (fun s => s.setPll 2 { s.pll 2 with latched := none }) (State.reset)).setB (Reg.CLK_ADPLL_STAT 2) 0 true).setR (Reg.CLK_ADPLL_OUT_CTL 2 0) 0x80000001, _, by decide +kernel, rfl, by decide +kernel, by decide +kernel, by decide +kernel, by decide +kernel, rfl, by decide +kernel, by decide +kernel⟩,
   ⟨0, 0, State.reset, by decide +kernel⟩,
   ⟨2, 1, (State.reset).setB (Reg.CLK_ADPLL_CTL 2) 0 false, by decide +kernel, by decide +kernel, by decide +kernel⟩⟩

theorem test_witness_FcwAndAdpllControl_2 :
    (∃ (n : Fin 8) (s : State), 2 ≤ n.val ∧ (s.store (Reg.CLK_ADPLL_CTL n) (s.getR (Reg.CLK_ADPLL_CTL n) ||| 0x1000)).getB (Reg.CLK_ADPLL_CTL n) 0 = true) ∧
    (∃ (n : Fin 8) (s : State), 2 ≤ n.val ∧ s.getB (Reg.CLK_ADPLL_CTL n) 0 = false ∧ (s.store (Reg.CLK_ADPLL_CTL n) (s.getR (Reg.CLK_ADPLL_CTL n) ||| 0x1000)).getB (Reg.CLK_ADPLL_CTL n) 0 = false) ∧
    (∃ (n : Fin 8) (w : Word) (s : State), 2 ≤ n.val ∧ (s.store (Reg.CLK_ADPLL_CTL n) w).getB (Reg.CLK_ADPLL_CTL n) 0 = s.getB (Reg.CLK_ADPLL_CTL n) 0) ∧
    (∃ (n : Fin 8) (w : Word) (s : State), 2 ≤ n.val ∧ s.getB (Reg.CLK_ADPLL_CTL n) 0 = true ∧ (s.store (Reg.CLK_ADPLL_CTL n) w).getB (Reg.CLK_ADPLL_CTL n) 0 = false) :=
  ⟨⟨2, (State.reset).setB (Reg.CLK_ADPLL_CTL 2) 0 true, by decide +kernel, by decide +kernel⟩,
   ⟨2, (State.reset).setB (Reg.CLK_ADPLL_CTL 2) 0 false, by decide +kernel, by decide +kernel, by decide +kernel⟩,
   ⟨2, 0, State.reset, by decide +kernel, by decide +kernel⟩,
   ⟨2, 0, (State.reset).setB (Reg.CLK_ADPLL_CTL 2) 0 true, by decide +kernel, by decide +kernel, by decide +kernel⟩⟩

theorem test_witness_ClockOutputs :
    (∃ (n : Fin 8) (m : Fin 6) (w : Word) (s : State), n.val < 2 ∧ (¬ (n.val = 0 ∧ m.val = 5))) ∧
    (∃ (w : Word) (s : State), 10 ≤ fld w 11 0 ∧ fld w 11 0 ≤ 1536) ∧
    (∃ (w : Word) (s : State), ((fld w 11 0 < 10 ∨ 1536 < fld w 11 0))) ∧
    (∃ (n : Fin 8) (m : Fin 6) (w : Word) (s : State), 2 ≤ n.val ∧ bitOf (s.getR (Reg.CLK_ADPLL_OUT_CTL n m)) 31 = true ∧ bitOf w 31 = true ∧ fld w 11 0 ≠ fld (s.getR (Reg.CLK_ADPLL_OUT_CTL n m)) 11 0) ∧
    (∃ (n : Fin 8) (m : Fin 6) (w : Word) (old : Word) (v : Word) (s : State), 2 ≤ n.val ∧ old = s.getR (Reg.CLK_ADPLL_OUT_CTL n m) ∧ bitOf old 31 = false ∧ bitOf w 31 = true ∧ ((fld w 11 0 = fld old 11 0 ∨ s.divOk n (divOf w) = true)) ∧ fld w 28 18 < divOf (setFld old 11 0 (fld w 11 0)) ∧ v = setBitOf (setBitOf (setFld (setFld (setFld old 11 0 (fld w 11 0)) 28 18 (fld w 28 18)) 17 12 (fld w 17 12)) 30 (bitOf w 30)) 31 true) :=
  ⟨⟨0, 0, 0, State.reset, by decide +kernel, by decide +kernel⟩,
   ⟨10, State.reset, by decide +kernel, by decide +kernel⟩,
   ⟨0, State.reset, by decide +kernel⟩,
   ⟨2, 0, 0x80000014, (State.reset).setR (Reg.CLK_ADPLL_OUT_CTL 2 0) 0x8000000A, by decide +kernel, by decide +kernel, by decide +kernel, by decide +kernel⟩,
   ⟨2, 0, 0x8000000A, _, _, State.reset, by decide +kernel, rfl, by decide +kernel, by decide +kernel, by decide +kernel, by decide +kernel, rfl⟩⟩

theorem test_witness_StepsOfDeviceTime :
    (∃ (w : Word) (s : State), bitOf w 0 = true) ∧
    (∃ (c : CmdRef) (x : Command) (s : State), s.turn c 2 5 = some x) ∧
    (∃ (s : State) (d : DWord) (c : Option CmdRef), ((∀ e x, s.clk.step ≠ some (e, some x)))) ∧
    (∃ (s : State) (u : State) (d : DWord) (e : DWord) (x : CmdRef) (c : Option CmdRef), s.clk.step = some (e, some x) ∧ u = s.finish x csBUSY []) ∧
    (∃ (s : State) (d : DWord), s.clk.step = some (d, none) ∧ s.timeRuns = true ∧ s.frontArmed = false ∧ s.degraded = false) ∧
    (∃ (s : State) (d : DWord), s.clk.step = some (d, none) ∧ s.timeRuns = true ∧ ((s.frontArmed = true ∨ s.degraded = true))) ∧
    (∃ (w : Word) (s : State), (s.store Reg.CLK_TB_CTL w).isMaster = bitOf (s.getR Reg.CLK_TB_CTL) 4 ∧ (s.store Reg.CLK_TB_CTL w).tbMode = fld (s.getR Reg.CLK_TB_CTL) 1 0 ∧ (s.store Reg.CLK_TB_CTL w).tbMode = 0) ∧
    (∃ (s : State), s.getB Reg.CLK_TB_STAT 3 = false) :=
  ⟨⟨0x1, State.reset, by decide +kernel⟩,
   ⟨wRef, (wCmd 2 5 (List.replicate 24 0)), wCom (wCmd 2 5 (List.replicate 24 0)) State.reset, by decide +kernel⟩,
   ⟨State.reset, 0, none, (by intro e x h; cases h)⟩,
   ⟨wFn (fun s => { s with clk := { s.clk with step := some (0, some wRef) } }) (State.reset), _, 0, 0, wRef, none, by decide +kernel, rfl⟩,
   ⟨{ (wFn (fun s => { s with clk := { s.clk with step := some (0, none) } }) (State.reset) : State) with timeRuns := true }, 0, by decide +kernel, by decide +kernel, by decide +kernel, by decide +kernel⟩,
   ⟨({ (wFn (fun s => { s with clk := { s.clk with step := some (0, none) } }) (State.reset) : State) with timeRuns := true }).setB Reg.CLK_TB_STAT 5 true, 0, by decide +kernel, by decide +kernel, by decide +kernel⟩,
   ⟨0, State.reset, by decide +kernel, by decide +kernel, by decide +kernel⟩,
   ⟨(State.reset).setB Reg.CLK_TB_STAT 3 false, by decide +kernel⟩⟩

theorem test_witness_Arbiters :
    (∃ (r : Fin 5) (s : State) (l : ArbLock) (x : ArbReq), s.underTest 5 r = false ∧ s.canGrant r = true ∧ (s.arbiter r).locks.find? (fun l => l.inForce) = some l ∧ s.headOf r l.q = some x ∧ x.sector = l.sector) ∧
    (∃ (r : Fin 5) (s : State), ((s.underTest 5 r = false ∨ (s.arbiter r).reqs = [])) ∧ s.canGrant r = false) ∧
    (∃ (r : Fin 5) (s : State), s.underTest 5 r = true ∧ (s.arbiter r).reqs ≠ []) ∧
    (∃ (r : Nat) (s : State) (x : ArbReq), r ≠ 0) ∧
    (∃ (r : Fin 5) (ecc : List Ecc) (s : State), (s.arbiter r).busy = none) ∧
    (∃ (r : Fin 5) (ecc : List Ecc) (s : State) (q : ArbReq), (s.arbiter r).busy = some q ∧ q.op = 3 ∧ q.beats ≤ 1) ∧
    (∃ (r : Fin 5) (ecc : List Ecc) (s : State) (q : ArbReq), (s.arbiter r).busy = some q ∧ q.op = 3 ∧ 2 ≤ q.beats) ∧
    (∃ (r : Fin 5) (ecc : List Ecc) (s : State) (q : ArbReq), (s.arbiter r).busy = some q ∧ q.op = 4 ∧ q.beats ≤ 1) ∧
    (∃ (r : Fin 5) (s : State) (l : ArbLock), (s.arbiter r).locks.find? (fun l => l.inForce) = some l ∧ (s.arbiter r).mode = 0 ∧ (s.arbiter r).busy = none ∧ (s.arbiter r).reqs.any (fun x => x.q == l.q && x.sector == l.sector) = false ∧ l.last + s.lockGap r ≤ s.arbNow r) ∧
    (∃ (r : Fin 5) (w : Word) (s : State), fld w 31 30 ≠ s.getF (Reg.ARB_R_CTL r) 31 30) :=
  ⟨⟨0, (State.reset : State).setArb 0 { reqs := [{ q := 0, op := 0, addr := 0, len := 16, beats := 1, first := 0, owner := .host wRef }], locks := [({ q := 0, sector := 0, left := 1, inForce := true, last := 0 } : ArbLock)] }, ({ q := 0, sector := 0, left := 1, inForce := true, last := 0 } : ArbLock), ({ q := 0, op := 0, addr := 0, len := 16, beats := 1, first := 0, owner := .host wRef } : ArbReq), by decide +kernel, by decide +kernel, by decide +kernel, by decide +kernel, by decide +kernel⟩,
   ⟨0, (State.reset : State).setArb 0 { stream := some true }, by decide +kernel, by decide +kernel⟩,
   ⟨0, wFn (fun s => s.setDtype 5 { s.dtype 5 with slice := some { unit := 0 } }) (((State.reset : State).setArb 0 { stream := some true, reqs := [{ q := 0, op := 0, addr := 0, len := 16, beats := 1, first := 0, owner := .host wRef }] }).setF Reg.DEV_START_STAT 4 2 5), by decide +kernel, by decide +kernel⟩,
   ⟨1, State.reset, ({ q := 0, op := 0, addr := 0, len := 16, beats := 1, first := 0, owner := .host wRef } : ArbReq), by decide +kernel⟩,
   ⟨0, [], wFn (fun s => s.setArb 0 { s.arbiter 0 with busy := none }) (State.reset), by decide +kernel⟩,
   ⟨0, [], wFn (fun s => s.setArb 0 { s.arbiter 0 with busy := some (({ q := 0, op := 3, addr := 0, len := 16, beats := 1, first := 0, owner := .host wRef } : ArbReq)) }) (State.reset), ({ q := 0, op := 3, addr := 0, len := 16, beats := 1, first := 0, owner := .host wRef } : ArbReq), by decide +kernel, by decide +kernel, by decide +kernel⟩,
   ⟨0, [], wFn (fun s => s.setArb 0 { s.arbiter 0 with busy := some (({ q := 0, op := 3, addr := 0, len := 16, beats := 2, first := 0, owner := .host wRef } : ArbReq)) }) (State.reset), ({ q := 0, op := 3, addr := 0, len := 16, beats := 2, first := 0, owner := .host wRef } : ArbReq), by decide +kernel, by decide +kernel, by decide +kernel⟩,
   ⟨0, [], wFn (fun s => s.setArb 0 { s.arbiter 0 with busy := some (({ q := 0, op := 4, addr := 0, len := 16, beats := 1, first := 0, owner := .host wRef } : ArbReq)) }) (State.reset), ({ q := 0, op := 4, addr := 0, len := 16, beats := 1, first := 0, owner := .host wRef } : ArbReq), by decide +kernel, by decide +kernel, by decide +kernel⟩,
   ⟨0, wAt 0x1000000 ((State.reset : State).setArb 0 { mode := 0, locks := [({ q := 0, sector := 0, left := 1, inForce := true, last := 0 } : ArbLock)] }), ({ q := 0, sector := 0, left := 1, inForce := true, last := 0 } : ArbLock), by decide +kernel, by decide +kernel, by decide +kernel, by decide +kernel, by decide +kernel⟩,
   ⟨0, 0, State.reset, by decide +kernel⟩⟩

theorem test_witness_Arbiters_2 :
    (∃ (r : Fin 5) (s : State), s.getF (Reg.ARB_R_WAIT_WARN r) 23 0 ≠ 0 ∧ ((∃ x ∈ (s.arbiter r).reqs, x.warned = false ∧ s.getF (Reg.ARB_R_WAIT_WARN r) 23 0 < s.arbNow r - x.first))) ∧
    (∃ (r : Fin 5) (w : Word) (s : State), fld w 31 30 = s.getF (Reg.ARB_R_CTL r) 31 30) :=
  ⟨⟨0, wAt 0x100000 (((State.reset).setF (Reg.ARB_R_WAIT_WARN 0) 23 0 1 : State).setArb 0 { reqs := [{ q := 0, op := 0, addr := 0, len := 16, beats := 1, first := 0, owner := .host wRef }] }), by decide +kernel, by decide +kernel⟩,
   ⟨0, 0x40000000, State.reset, by decide +kernel⟩⟩

theorem test_witness_EngineImmediatesAndSpecialRegisters :
    (∃ (n : Fin 68) (e : Nat) (s : State) (w : Word) (x : EngX), x = s.issue n e w ∧ Issues s n e w .addi) ∧
    (∃ (n : Fin 68) (e : Nat) (s : State) (w : Word) (x : EngX), x = s.issue n e w ∧ Issues s n e w .andi) ∧
    (∃ (n : Fin 68) (e : Nat) (s : State) (w : Word) (x : EngX), x = s.issue n e w ∧ Issues s n e w .ori) ∧
    (∃ (n : Fin 68) (e : Nat) (s : State) (w : Word) (x : EngX), x = s.issue n e w ∧ Issues s n e w .xori) ∧
    (∃ (n : Fin 68) (e : Nat) (s : State) (w : Word) (x : EngX), x = s.issue n e w ∧ Issues s n e w .ldi) ∧
    (∃ (n : Fin 68) (e : Nat) (s : State) (w : Word) (x : EngX), x = s.issue n e w ∧ Issues s n e w .insh) ∧
    (∃ (n : Fin 68) (e : Nat) (s : State) (w : Word) (x : EngX), x = s.issue n e w ∧ Issues s n e w .cmpi) ∧
    (∃ (n : Fin 68) (e : Nat) (s : State) (w : Word) (x : EngX), x = s.issue n e w ∧ Issues s n e w .shi ∧ fld w 7 6 = 0) ∧
    (∃ (n : Fin 68) (e : Nat) (s : State) (w : Word) (x : EngX), x = s.issue n e w ∧ Issues s n e w .shi ∧ fld w 7 6 = 2) ∧
    (∃ (n : Fin 68) (e : Nat) (s : State) (w : Word) (x : EngX), x = s.issue n e w ∧ Issues s n e w .nop) :=
  ⟨⟨0, 0, wProg 0x08000000 State.reset, 0x08000000, _, rfl, ⟨by decide +kernel, by decide +kernel, by decide +kernel, by rfl, by rfl, by rfl, by decide +kernel⟩⟩,
   ⟨0, 0, wProg 0x0C000000 State.reset, 0x0C000000, _, rfl, ⟨by decide +kernel, by decide +kernel, by decide +kernel, by rfl, by rfl, by rfl, by decide +kernel⟩⟩,
   ⟨0, 0, wProg 0x10000000 State.reset, 0x10000000, _, rfl, ⟨by decide +kernel, by decide +kernel, by decide +kernel, by rfl, by rfl, by rfl, by decide +kernel⟩⟩,
   ⟨0, 0, wProg 0x14000000 State.reset, 0x14000000, _, rfl, ⟨by decide +kernel, by decide +kernel, by decide +kernel, by rfl, by rfl, by rfl, by decide +kernel⟩⟩,
   ⟨0, 0, wProg 0x1C000000 State.reset, 0x1C000000, _, rfl, ⟨by decide +kernel, by decide +kernel, by decide +kernel, by rfl, by rfl, by rfl, by decide +kernel⟩⟩,
   ⟨0, 0, wProg 0x20000000 State.reset, 0x20000000, _, rfl, ⟨by decide +kernel, by decide +kernel, by decide +kernel, by rfl, by rfl, by rfl, by decide +kernel⟩⟩,
   ⟨0, 0, wProg 0x24000000 State.reset, 0x24000000, _, rfl, ⟨by decide +kernel, by decide +kernel, by decide +kernel, by rfl, by rfl, by rfl, by decide +kernel⟩⟩,
   ⟨0, 0, wProg 0x18000000 State.reset, 0x18000000, _, rfl, ⟨by decide +kernel, by decide +kernel, by decide +kernel, by rfl, by rfl, by rfl, by decide +kernel⟩, by decide +kernel⟩,
   ⟨0, 0, wProg 0x18000080 State.reset, 0x18000080, _, rfl, ⟨by decide +kernel, by decide +kernel, by decide +kernel, by rfl, by rfl, by rfl, by decide +kernel⟩, by decide +kernel⟩,
   ⟨0, 0, wProg 0x2C000000 State.reset, 0x2C000000, _, rfl, ⟨by decide +kernel, by decide +kernel, by decide +kernel, by rfl, by rfl, by rfl, by decide +kernel⟩⟩⟩

theorem test_witness_EngineImmediatesAndSpecialRegisters_2 :
    (∃ (n : Fin 68) (e : Nat) (s : State) (w : Word) (x : EngX), x = s.issue n e w ∧ Issues s n e w .mfs ∧ fRA w = 3 ∧ x.retry = false) ∧
    (∃ (n : Fin 68) (e : Nat) (s : State) (w : Word) (x : EngX) (v : _), x = s.issue n e w ∧ Issues s n e w .mfs ∧ fRA w = 5 ∧ x.retry = false ∧ v = BitVec.ofNat 64 x.core.tflags.toNat) ∧
    (∃ (n : Fin 68) (e : Nat) (s : State) (w : Word) (x : EngX) (v : _), x = s.issue n e w ∧ Issues s n e w .mfs ∧ fRA w = 14 ∧ x.retry = false ∧ v = BitVec.ofNat 64 (s.getF (Reg.ENG_MBOX_STAT n) 15 0)) ∧
    (∃ (n : Fin 68) (e : Nat) (s : State) (w : Word) (x : EngX) (v : DWord), x = s.issue n e w ∧ Issues s n e w .mfs ∧ (((fRA w = 0 ∧ v = BitVec.ofNat 64 x.core.trig.toNat) ∨ (fRA w = 1 ∧ v = x.core.cyct) ∨ (fRA w = 2 ∧ v = x.core.cycno) ∨ (fRA w = 4 ∧ v = BitVec.ofNat 64 x.period) ∨ (fRA w = 6 ∧ v = x.core.st) ∨ (fRA w = 7 ∧ v = BitVec.ofNat 64 (8 * x.core.flagN.toNat + 4 * x.core.flagZ.toNat + 2 * x.core.flagC.toNat + x.core.flagV.toNat)) ∨ (fRA w = 8 ∧ v = BitVec.ofNat 64 x.core.fpcsr.toNat) ∨ (fRA w = 9 ∧ v = x.core.lr) ∨ (fRA w = 10 ∧ v = x.c.exc) ∨ (fRA w = 11 ∧ v = x.c.epc) ∨ (fRA w = 12 ∧ v = BitVec.ofNat 64 x.retry.toNat) ∨ (fRA w = 13 ∧ v = BitVec.ofNat 64 x.core.lost) ∨ (fRA w = 15 ∧ v = BitVec.ofNat 64 (256 * n.val + e))))) ∧
    (∃ (n : Fin 68) (e : Nat) (s : State) (w : Word) (x : EngX), x = s.issue n e w ∧ Issues s n e w .mts ∧ fRD w = 7) ∧
    (∃ (n : Fin 68) (e : Nat) (s : State) (w : Word) (x : EngX), x = s.issue n e w ∧ Issues s n e w .mts ∧ fRD w = 8) ∧
    (∃ (n : Fin 68) (e : Nat) (s : State) (w : Word) (x : EngX), x = s.issue n e w ∧ Issues s n e w .mts ∧ fRD w = 9) ∧
    (∃ (n : Fin 68) (e : Nat) (s : State) (w : Word) (x : EngX), x = s.issue n e w ∧ Issues s n e w .mts ∧ fRD w = 10) ∧
    (∃ (n : Fin 68) (e : Nat) (s : State) (w : Word) (x : EngX), x = s.issue n e w ∧ Issues s n e w .mts ∧ fRD w = 11) :=
  ⟨⟨0, 0, wProg 0xE8030000 State.reset, 0xE8030000, _, rfl, ⟨by decide +kernel, by decide +kernel, by decide +kernel, by rfl, by rfl, by rfl, by decide +kernel⟩, by decide +kernel, by decide +kernel⟩,
   ⟨0, 0, wProg 0xE8050000 State.reset, 0xE8050000, _, _, rfl, ⟨by decide +kernel, by decide +kernel, by decide +kernel, by rfl, by rfl, by rfl, by decide +kernel⟩, by decide +kernel, by decide +kernel, rfl⟩,
   ⟨0, 0, wProg 0xE80E0000 State.reset, 0xE80E0000, _, _, rfl, ⟨by decide +kernel, by decide +kernel, by decide +kernel, by rfl, by rfl, by rfl, by decide +kernel⟩, by decide +kernel, by decide +kernel, rfl⟩,
   ⟨0, 0, wProg 0xE8000000 State.reset, 0xE8000000, _, 0, rfl, ⟨by decide +kernel, by decide +kernel, by decide +kernel, by rfl, by rfl, by rfl, by decide +kernel⟩, by decide +kernel⟩,
   ⟨0, 0, wProg 0xECE00000 State.reset, 0xECE00000, _, rfl, ⟨by decide +kernel, by decide +kernel, by decide +kernel, by rfl, by rfl, by rfl, by decide +kernel⟩, by decide +kernel⟩,
   ⟨0, 0, wProg 0xED000000 State.reset, 0xED000000, _, rfl, ⟨by decide +kernel, by decide +kernel, by decide +kernel, by rfl, by rfl, by rfl, by decide +kernel⟩, by decide +kernel⟩,
   ⟨0, 0, wProg 0xED200000 State.reset, 0xED200000, _, rfl, ⟨by decide +kernel, by decide +kernel, by decide +kernel, by rfl, by rfl, by rfl, by decide +kernel⟩, by decide +kernel⟩,
   ⟨0, 0, wProg 0xED400000 State.reset, 0xED400000, _, rfl, ⟨by decide +kernel, by decide +kernel, by decide +kernel, by rfl, by rfl, by rfl, by decide +kernel⟩, by decide +kernel⟩,
   ⟨0, 0, wProg 0xED600000 State.reset, 0xED600000, _, rfl, ⟨by decide +kernel, by decide +kernel, by decide +kernel, by rfl, by rfl, by rfl, by decide +kernel⟩, by decide +kernel⟩⟩

theorem test_witness_AluFunctionsAndFlags :
    (∃ (n : Fin 68) (e : Nat) (s : State) (w : Word) (x : EngX) (r : _) (v : _), x = s.issue n e w ∧ Issues s n e w .alu ∧ fFN w ≠ 0x16 ∧ aluFn (fFN w) x.ra x.rb x.core.nzcv = some r ∧ r.val = some v ∧ bitOf w 10 = false) ∧
    (∃ (n : Fin 68) (e : Nat) (s : State) (w : Word) (x : EngX) (r : _) (v : _), x = s.issue n e w ∧ Issues s n e w .alu ∧ fFN w ≠ 0x16 ∧ aluFn (fFN w) x.ra x.rb x.core.nzcv = some r ∧ r.val = some v ∧ bitOf w 10 = true) ∧
    (∃ (n : Fin 68) (e : Nat) (s : State) (w : Word) (x : EngX), x = s.issue n e w ∧ Issues s n e w .alu ∧ fFN w = 0x16) ∧
    (∃ (n : Fin 68) (e : Nat) (s : State) (w : Word) (x : EngX) (r : _), x = s.issue n e w ∧ Issues s n e w .alu ∧ fFN w ≠ 0x16 ∧ aluFn (fFN w) x.ra x.rb x.core.nzcv = some r ∧ r.val = none) ∧
    (∃ (n : Fin 68) (e : Nat) (s : State) (w : Word) (c : LEng), s.logicalOf n = some e ∧ s.inCycle n = true ∧ s.domOn (domEngine n) = true ∧ (s.leng e).stall = none ∧ s.fetch e = .word w ∧ insRow w = none ∧ c = { (s.leng e).usedFar with issued := (s.leng e).issued + 1, stall := none }) ∧
    (∃ (a : DWord) (b : DWord) (f : Nzcv), b.toNat % 64 = 0) ∧
    (∃ (a : DWord) (b : DWord) (f : Nzcv), b = 0) :=
  ⟨⟨0, 0, wProg 0x04000000 State.reset, 0x04000000, _, _, _, rfl, ⟨by decide +kernel, by decide +kernel, by decide +kernel, by rfl, by rfl, by rfl, by decide +kernel⟩, by decide +kernel, rfl, rfl, by decide +kernel⟩,
   ⟨0, 0, wProg 0x04000400 State.reset, 0x04000400, _, _, _, rfl, ⟨by decide +kernel, by decide +kernel, by decide +kernel, by rfl, by rfl, by rfl, by decide +kernel⟩, by decide +kernel, rfl, rfl, by decide +kernel⟩,
   ⟨0, 0, wProg 0x04000016 State.reset, 0x04000016, _, rfl, ⟨by decide +kernel, by decide +kernel, by decide +kernel, by rfl, by rfl, by rfl, by decide +kernel⟩, by decide +kernel⟩,
   ⟨0, 0, wProg 0x0400000C State.reset, 0x0400000C, _, _, rfl, ⟨by decide +kernel, by decide +kernel, by decide +kernel, by rfl, by rfl, by rfl, by decide +kernel⟩, by decide +kernel, rfl, by decide +kernel⟩,
   ⟨0, 0, wProg 0 (wFn (fun s => s.setLeng 0 { s.leng 0 with stall := none }) ((State.reset).setEngState 0 3)), 0, _, by decide +kernel, by decide +kernel, by decide +kernel, by decide +kernel, rfl, by decide +kernel, rfl⟩,
   ⟨0, 0, ⟨false, false, false, false⟩, by decide +kernel⟩,
   ⟨0, 0, ⟨false, false, false, false⟩, by decide +kernel⟩⟩

theorem test_witness_FloatingPointResults :
    (∃ (n : Fin 68) (e : Nat) (s : State) (w : Word) (x : EngX) (k : EngCore) (r : FpuRes) (v : _), x = s.issue n e w ∧ k = { x.core with fpcsr := setFld x.core.fpcsr 4 0 (fld x.core.fpcsr 4 0 ||| r.exc) } ∧ r.val = some v ∧ r.flags = none ∧ Issues s n e w .fpu ∧ fpuFn (fFN w) (fpEnv x.core.fpcsr) x.ra x.rb = some r ∧ fld x.core.fpcsr 20 16 &&& r.exc = 0) ∧
    (∃ (n : Fin 68) (e : Nat) (s : State) (w : Word) (x : EngX) (k : EngCore) (r : FpuRes), x = s.issue n e w ∧ k = { x.core with fpcsr := setFld x.core.fpcsr 4 0 (fld x.core.fpcsr 4 0 ||| r.exc) } ∧ Issues s n e w .fpu ∧ fpuFn (fFN w) (fpEnv x.core.fpcsr) x.ra x.rb = some r ∧ fld x.core.fpcsr 20 16 &&& r.exc ≠ 0) ∧
    (∃ (n : Fin 68) (e : Nat) (s : State) (w : Word) (x : EngX) (k : EngCore) (r : FpuRes) (f : _), x = s.issue n e w ∧ k = { x.core with fpcsr := setFld x.core.fpcsr 4 0 (fld x.core.fpcsr 4 0 ||| r.exc) } ∧ r.val = none ∧ r.flags = some f ∧ Issues s n e w .fpu ∧ fpuFn (fFN w) (fpEnv x.core.fpcsr) x.ra x.rb = some r ∧ fld x.core.fpcsr 20 16 &&& r.exc = 0) ∧
    (∃ (n : Fin 68) (e : Nat) (s : State) (w : Word) (x : EngX) (k : EngCore) (r : FpuRes) (v : _), x = s.issue n e w ∧ k = { x.core with fpcsr := setFld x.core.fpcsr 4 0 (fld x.core.fpcsr 4 0 ||| r.exc) } ∧ r.val = some v ∧ r.flags = none ∧ Issues s n e w .fma ∧ fmaFn (fFN w) (fpEnv x.core.fpcsr) x.ra x.rb (x.g (fMOD w)) = r ∧ fld x.core.fpcsr 20 16 &&& r.exc = 0) ∧
    (∃ (n : Fin 68) (e : Nat) (s : State) (w : Word) (x : EngX) (k : EngCore) (r : FpuRes), x = s.issue n e w ∧ k = { x.core with fpcsr := setFld x.core.fpcsr 4 0 (fld x.core.fpcsr 4 0 ||| r.exc) } ∧ Issues s n e w .fma ∧ fmaFn (fFN w) (fpEnv x.core.fpcsr) x.ra x.rb (x.g (fMOD w)) = r ∧ fld x.core.fpcsr 20 16 &&& r.exc ≠ 0) :=
  ⟨⟨0, 0, wProg 0x30000000 State.reset, 0x30000000, _, _, _, _, rfl, rfl, rfl, by decide +kernel, ⟨by decide +kernel, by decide +kernel, by decide +kernel, by rfl, by rfl, by rfl, by decide +kernel⟩, rfl, by decide +kernel⟩,
   ⟨0, 0, wCore (fun k => { k with g := [(1, 0x7F800000), (2, 0xFF800000)], fpcsr := 0x1F0000 }) (wProg 0x30011000 State.reset), 0x30011000, _, _, _, rfl, rfl, ⟨by decide +kernel, by decide +kernel, by decide +kernel, by rfl, by rfl, by rfl, by decide +kernel⟩, rfl, by decide +kernel⟩,
   ⟨0, 0, wProg 0x30000009 State.reset, 0x30000009, _, _, _, _, rfl, rfl, by decide +kernel, rfl, ⟨by decide +kernel, by decide +kernel, by decide +kernel, by rfl, by rfl, by rfl, by decide +kernel⟩, rfl, by decide +kernel⟩,
   ⟨0, 0, wProg 0x34000000 State.reset, 0x34000000, _, _, _, _, rfl, rfl, rfl, by decide +kernel, ⟨by decide +kernel, by decide +kernel, by decide +kernel, by rfl, by rfl, by rfl, by decide +kernel⟩, rfl, by decide +kernel⟩,
   ⟨0, 0, wCore (fun k => { k with g := [(1, 0x7F800000), (2, 0xFF800000)], fpcsr := 0x1F0000 }) (wProg 0x34010000 State.reset), 0x34010000, _, _, _, rfl, rfl, ⟨by decide +kernel, by decide +kernel, by decide +kernel, by rfl, by rfl, by rfl, by decide +kernel⟩, rfl, by decide +kernel⟩⟩

theorem test_witness_EngineLoadsAndStores :
    (∃ (n : Fin 68) (e : Nat) (s : State) (w : Word) (x : EngX) (a : Nat), x = s.issue n e w ∧ a = (x.ra + immS w).toNat ∧ Issues s n e w .ld ∧ a % 8 = 0 ∧ a < 0x10000) ∧
    (∃ (n : Fin 68) (e : Nat) (s : State) (w : Word) (x : EngX) (a : Nat), x = s.issue n e w ∧ a = (x.ra + immS w).toNat ∧ Issues s n e w .ldw ∧ a % 4 = 0 ∧ a < 0x10000) ∧
    (∃ (n : Fin 68) (e : Nat) (s : State) (w : Word) (x : EngX) (a : Nat), x = s.issue n e w ∧ a = (x.ra + immS w).toNat ∧ Issues s n e w .ldws ∧ a % 4 = 0 ∧ a < 0x10000) ∧
    (∃ (n : Fin 68) (e : Nat) (s : State) (w : Word) (x : EngX) (a : Nat), x = s.issue n e w ∧ a = (x.ra + immS w).toNat ∧ Issues s n e w .ld ∧ ((a % 8 ≠ 0 ∨ 0x18000 ≤ a))) ∧
    (∃ (n : Fin 68) (e : Nat) (s : State) (w : Word) (x : EngX) (a : Nat), x = s.issue n e w ∧ a = (x.ra + immS w).toNat ∧ Issues s n e w .ld ∧ a % 8 = 0 ∧ a < 0x18000) ∧
    (∃ (n : Fin 68) (e : Nat) (s : State) (w : Word) (x : EngX) (a : Nat), x = s.issue n e w ∧ a = (x.ra + immS w).toNat ∧ Issues s n e w .st ∧ a % 8 = 0 ∧ a < 0x10000) ∧
    (∃ (n : Fin 68) (e : Nat) (s : State) (w : Word) (x : EngX) (a : Nat), x = s.issue n e w ∧ a = (x.ra + immS w).toNat ∧ Issues s n e w .stw ∧ a % 4 = 0 ∧ a < 0x10000) ∧
    (∃ (n : Fin 68) (e : Nat) (s : State) (w : Word) (x : EngX) (a : Nat), x = s.issue n e w ∧ a = (x.ra + immS w).toNat ∧ Issues s n e w .st ∧ ((a % 8 ≠ 0 ∨ 0x10000 ≤ a))) :=
  ⟨⟨0, 0, wProg 0x40000000 State.reset, 0x40000000, _, _, rfl, rfl, ⟨by decide +kernel, by decide +kernel, by decide +kernel, by rfl, by rfl, by rfl, by decide +kernel⟩, by decide +kernel, by decide +kernel⟩,
   ⟨0, 0, wProg 0x44000000 State.reset, 0x44000000, _, _, rfl, rfl, ⟨by decide +kernel, by decide +kernel, by decide +kernel, by rfl, by rfl, by rfl, by decide +kernel⟩, by decide +kernel, by decide +kernel⟩,
   ⟨0, 0, wProg 0x48000000 State.reset, 0x48000000, _, _, rfl, rfl, ⟨by decide +kernel, by decide +kernel, by decide +kernel, by rfl, by rfl, by rfl, by decide +kernel⟩, by decide +kernel, by decide +kernel⟩,
   ⟨0, 0, wProg 0x40000004 State.reset, 0x40000004, _, _, rfl, rfl, ⟨by decide +kernel, by decide +kernel, by decide +kernel, by rfl, by rfl, by rfl, by decide +kernel⟩, by decide +kernel⟩,
   ⟨0, 0, wProg 0x40000000 State.reset, 0x40000000, _, _, rfl, rfl, ⟨by decide +kernel, by decide +kernel, by decide +kernel, by rfl, by rfl, by rfl, by decide +kernel⟩, by decide +kernel, by decide +kernel⟩,
   ⟨0, 0, wProg 0x4C000000 State.reset, 0x4C000000, _, _, rfl, rfl, ⟨by decide +kernel, by decide +kernel, by decide +kernel, by rfl, by rfl, by rfl, by decide +kernel⟩, by decide +kernel, by decide +kernel⟩,
   ⟨0, 0, wProg 0x50000000 State.reset, 0x50000000, _, _, rfl, rfl, ⟨by decide +kernel, by decide +kernel, by decide +kernel, by rfl, by rfl, by rfl, by decide +kernel⟩, by decide +kernel, by decide +kernel⟩,
   ⟨0, 0, wProg 0x4C000004 State.reset, 0x4C000004, _, _, rfl, rfl, ⟨by decide +kernel, by decide +kernel, by decide +kernel, by rfl, by rfl, by rfl, by decide +kernel⟩, by decide +kernel⟩⟩

theorem test_witness_EngineControlFlow :
    (∃ (n : Fin 68) (e : Nat) (s : State) (w : Word) (x : EngX), x = s.issue n e w ∧ Issues s n e w .bcc ∧ condHolds (fCOND w) x.core.nzcv = false) ∧
    (∃ (n : Fin 68) (e : Nat) (s : State) (w : Word) (x : EngX), x = s.issue n e w ∧ Issues s n e w .bcc ∧ condHolds (fCOND w) x.core.nzcv = true ∧ x.c.inFar = false ∧ 0 ≤ ((s.leng e).pc : Int) + sextInt 16 (fIMM w) ∧ ((s.leng e).pc : Int) + sextInt 16 (fIMM w) < 8192) ∧
    (∃ (n : Fin 68) (e : Nat) (s : State) (w : Word) (x : EngX), x = s.issue n e w ∧ Issues s n e w .bcc ∧ condHolds (fCOND w) x.core.nzcv = true ∧ ((s.leng e).pc : Int) + sextInt 16 (fIMM w) < 0) ∧
    (∃ (n : Fin 68) (e : Nat) (s : State) (w : Word) (x : EngX), x = s.issue n e w ∧ Issues s n e w .jmp ∧ x.c.inFar = false) ∧
    (∃ (n : Fin 68) (e : Nat) (s : State) (w : Word) (x : EngX), x = s.issue n e w ∧ Issues s n e w .call ∧ x.c.inFar = false) ∧
    (∃ (n : Fin 68) (e : Nat) (s : State) (w : Word) (x : EngX), x = s.issue n e w ∧ Issues s n e w .jr ∧ x.c.inFar = false ∧ x.ra.toNat < 8192) ∧
    (∃ (n : Fin 68) (e : Nat) (s : State) (w : Word) (x : EngX), x = s.issue n e w ∧ Issues s n e w .ret ∧ x.c.inFar = false ∧ x.core.lr.toNat < 8192) ∧
    (∃ (n : Fin 68) (e : Nat) (s : State) (w : Word) (x : EngX), x = s.issue n e w ∧ Issues s n e w .ret ∧ x.c.inFar = false ∧ x.core.lr.msb = true) ∧
    (∃ (n : Fin 68) (e : Nat) (s : State) (w : Word) (x : EngX), x = s.issue n e w ∧ x.c.inFar = true ∧ Issues s n e w .jmp) ∧
    (∃ (n : Fin 68) (e : Nat) (s : State) (w : Word) (x : EngX), x = s.issue n e w ∧ x.c.inFar = true ∧ Issues s n e w .call) :=
  ⟨⟨0, 0, wProg 0x60000000 State.reset, 0x60000000, _, rfl, ⟨by decide +kernel, by decide +kernel, by decide +kernel, by rfl, by rfl, by rfl, by decide +kernel⟩, by decide +kernel⟩,
   ⟨0, 0, wProg 0x63800000 State.reset, 0x63800000, _, rfl, ⟨by decide +kernel, by decide +kernel, by decide +kernel, by rfl, by rfl, by rfl, by decide +kernel⟩, by decide +kernel, by decide +kernel, by decide +kernel, by decide +kernel⟩,
   ⟨0, 0, wProg 0x6380FFFF State.reset, 0x6380FFFF, _, rfl, ⟨by decide +kernel, by decide +kernel, by decide +kernel, by rfl, by rfl, by rfl, by decide +kernel⟩, by decide +kernel, by decide +kernel⟩,
   ⟨0, 0, wProg 0x64000000 State.reset, 0x64000000, _, rfl, ⟨by decide +kernel, by decide +kernel, by decide +kernel, by rfl, by rfl, by rfl, by decide +kernel⟩, by decide +kernel⟩,
   ⟨0, 0, wProg 0x68000000 State.reset, 0x68000000, _, rfl, ⟨by decide +kernel, by decide +kernel, by decide +kernel, by rfl, by rfl, by rfl, by decide +kernel⟩, by decide +kernel⟩,
   ⟨0, 0, wProg 0x6C000000 State.reset, 0x6C000000, _, rfl, ⟨by decide +kernel, by decide +kernel, by decide +kernel, by rfl, by rfl, by rfl, by decide +kernel⟩, by decide +kernel, by decide +kernel⟩,
   ⟨0, 0, wProg 0x6C000001 State.reset, 0x6C000001, _, rfl, ⟨by decide +kernel, by decide +kernel, by decide +kernel, by rfl, by rfl, by rfl, by decide +kernel⟩, by decide +kernel, by decide +kernel⟩,
   ⟨0, 0, wCore (fun k => { k with lr := 0x8000000000000000 }) (wProg 0x6C000001 State.reset), 0x6C000001, _, rfl, ⟨by decide +kernel, by decide +kernel, by decide +kernel, by rfl, by rfl, by rfl, by decide +kernel⟩, by decide +kernel, by decide +kernel⟩,
   ⟨0, 0, wEng (fun c => { c with inFar := true, pc := 0, far := [⟨0, [0x64000000]⟩] }) (wProg 0x64000000 State.reset), 0x64000000, _, rfl, by decide +kernel, ⟨by decide +kernel, by decide +kernel, by decide +kernel, by rfl, by rfl, by rfl, by decide +kernel⟩⟩,
   ⟨0, 0, wEng (fun c => { c with inFar := true, pc := 0, far := [⟨0, [0x68000000]⟩] }) (wProg 0x68000000 State.reset), 0x68000000, _, rfl, by decide +kernel, ⟨by decide +kernel, by decide +kernel, by decide +kernel, by rfl, by rfl, by rfl, by decide +kernel⟩⟩⟩

theorem test_witness_EngineControlFlow_2 :
    (∃ (n : Fin 68) (e : Nat) (s : State) (w : Word) (x : EngX), x = s.issue n e w ∧ x.c.inFar = true ∧ Issues s n e w .jr) ∧
    (∃ (n : Fin 68) (e : Nat) (s : State) (w : Word) (x : EngX), x = s.issue n e w ∧ Issues s n e w .fret ∧ x.c.inFar = true ∧ x.core.lr.msb = false) ∧
    (∃ (n : Fin 68) (e : Nat) (s : State) (w : Word) (x : EngX), x = s.issue n e w ∧ Issues s n e w .fcall ∧ s.getB (Reg.ENG_FAR_CTL n) 0 = true ∧ x.ra.toNat % 4 = 0 ∧ x.ra.toNat < 2 ^ 26 ∧ x.c.inFar = false) :=
  ⟨⟨0, 0, wEng (fun c => { c with inFar := true, pc := 0, far := [⟨0, [0x6C000000]⟩] }) (wProg 0x6C000000 State.reset), 0x6C000000, _, rfl, by decide +kernel, ⟨by decide +kernel, by decide +kernel, by decide +kernel, by rfl, by rfl, by rfl, by decide +kernel⟩⟩,
   ⟨0, 0, wEng (fun c => { c with inFar := true, pc := 0, far := [⟨0, [0x6C000002]⟩] }) (wProg 0x6C000002 State.reset), 0x6C000002, _, rfl, ⟨by decide +kernel, by decide +kernel, by decide +kernel, by rfl, by rfl, by rfl, by decide +kernel⟩, by decide +kernel, by decide +kernel⟩,
   ⟨0, 0, (wProg 0x70000000 State.reset).setB (Reg.ENG_FAR_CTL 0) 0 true, 0x70000000, _, rfl, ⟨by decide +kernel, by decide +kernel, by decide +kernel, by rfl, by rfl, by rfl, by decide +kernel⟩, by decide +kernel, by decide +kernel, by decide +kernel, by decide +kernel⟩⟩

theorem test_witness_EnginePostsAndSends :
    (∃ (n : Fin 68) (e : Nat) (s : State) (u : State) (w : Word) (x : EngX) (c : LEng) (k : Nat), x = s.issue n e w ∧ u = s.putLogged n e { c with efPend := c.efPend ++ [(fRD w, k)], efWait := c.efWait ++ [k] } ∧ Issues s n e w .post ∧ fMOD w = 0 ∧ x.release (.post x.ra x.rb) = .go c k ∧ s.fifoRoom e = true) ∧
    (∃ (n : Fin 68) (e : Nat) (s : State) (u : State) (w : Word) (x : EngX) (c : LEng) (k : Nat), x = s.issue n e w ∧ u = s.putLogged n e { c with efPend := c.efPend ++ [(fRD w, k)], efWait := c.efWait ++ [k] } ∧ Issues s n e w .post ∧ fMOD w = 0 ∧ x.release (.post x.ra x.rb) = .go c k ∧ s.fifoRoom e = false) ∧
    (∃ (n : Fin 68) (e : Nat) (s : State) (u : State) (w : Word) (x : EngX) (c : LEng) (k : Nat) (y : EngX), x = s.issue n e w ∧ u = s.putLogged n e { c with efPend := c.efPend ++ [(fRD w, k)], efWait := c.efWait ++ [k] } ∧ Issues s n e w .post ∧ 2 ≤ fMOD w ∧ x.retry = false ∧ y = { x with c := x.logIn { status := s.time } } ∧ y.release (.post (s.time + x.ra) x.rb) = .go c k ∧ s.fifoRoom e = true) ∧
    (∃ (n : Fin 68) (e : Nat) (s : State) (u : State) (w : Word) (x : EngX) (c : LEng) (k : Nat), x = s.issue n e w ∧ u = s.putLogged n e { c with efPend := c.efPend ++ [(fRD w, k)], efWait := c.efWait ++ [k] } ∧ Issues s n e w .post ∧ fMOD w = 1 ∧ x.release (.post (x.core.cyct + x.ra) x.rb) = .go c k ∧ s.fifoRoom e = true) ∧
    (∃ (n : Fin 68) (e : Nat) (s : State) (u : State) (w : Word) (x : EngX) (c : LEng) (k : Nat), x = s.issue n e w ∧ u = s.putLogged n e { c with efPend := c.efPend ++ [(fRD w, k)], efWait := c.efWait ++ [k] } ∧ Issues s n e w .cancel ∧ x.ra.toNat < 2 ^ 21 ∧ x.release (.cancel x.ra) = .go c k) ∧
    (∃ (n : Fin 68) (e : Nat) (s : State) (u : State) (w : Word) (x : EngX) (c : LEng) (k : Nat), x = s.issue n e w ∧ u = s.putLogged n e { c with efPend := c.efPend ++ [(fRD w, k)], efWait := c.efWait ++ [k] } ∧ Issues s n e w .cancel ∧ 2 ^ 21 ≤ x.ra.toNat) ∧
    (∃ (n : Fin 68) (e : Nat) (s : State) (u : State) (w : Word) (x : EngX) (c : LEng) (k : Nat) (st : _), x = s.issue n e w ∧ u = s.putLogged n e { c with efPend := c.efPend ++ [(fRD w, k)], efWait := c.efWait ++ [k] } ∧ Issues s n e w .send ∧ x.ra.toNat < 2 ^ 10 ∧ x.release (.send (x.ra.toNat / 16) (x.ra.toNat % 16) x.rb) = .go c k ∧ (u.mailWrite (x.ra.toNat / 16) (x.ra.toNat % 16) x.rb (.engine e k)).2 = some st) ∧
    (∃ (n : Fin 68) (e : Nat) (s : State) (u : State) (w : Word) (x : EngX) (c : LEng) (k : Nat), x = s.issue n e w ∧ u = s.putLogged n e { c with efPend := c.efPend ++ [(fRD w, k)], efWait := c.efWait ++ [k] } ∧ Issues s n e w .send ∧ x.ra.toNat < 2 ^ 10 ∧ x.release (.send (x.ra.toNat / 16) (x.ra.toNat % 16) x.rb) = .go c k ∧ (u.mailWrite (x.ra.toNat / 16) (x.ra.toNat % 16) x.rb (.engine e k)).2 = none) ∧
    (∃ (n : Fin 68) (e : Nat) (s : State) (u : State) (w : Word) (x : EngX) (c : LEng) (k : Nat), x = s.issue n e w ∧ u = s.putLogged n e { c with efPend := c.efPend ++ [(fRD w, k)], efWait := c.efWait ++ [k] } ∧ Issues s n e w .send ∧ 2 ^ 10 ≤ x.ra.toNat) :=
  ⟨⟨0, 0, wProg 0x80000000 State.reset, _, 0x80000000, _, _, _, rfl, rfl, ⟨by decide +kernel, by decide +kernel, by decide +kernel, by rfl, by rfl, by rfl, by decide +kernel⟩, by decide +kernel, rfl, by decide +kernel⟩,
   ⟨0, 0, (wProg 0x80000000 State.reset : State).setFifo 0 (List.replicate 8 ⟨0, .config⟩), _, 0x80000000, _, _, _, rfl, rfl, ⟨by decide +kernel, by decide +kernel, by decide +kernel, by rfl, by rfl, by rfl, by decide +kernel⟩, by decide +kernel, rfl, by decide +kernel⟩,
   ⟨0, 0, wProg 0x80000080 State.reset, _, 0x80000080, _, _, _, _, rfl, rfl, ⟨by decide +kernel, by decide +kernel, by decide +kernel, by rfl, by rfl, by rfl, by decide +kernel⟩, by decide +kernel, by decide +kernel, rfl, rfl, by decide +kernel⟩,
   ⟨0, 0, wProg 0x80000040 State.reset, _, 0x80000040, _, _, _, rfl, rfl, ⟨by decide +kernel, by decide +kernel, by decide +kernel, by rfl, by rfl, by rfl, by decide +kernel⟩, by decide +kernel, rfl, by decide +kernel⟩,
   ⟨0, 0, wProg 0x84000000 State.reset, _, 0x84000000, _, _, _, rfl, rfl, ⟨by decide +kernel, by decide +kernel, by decide +kernel, by rfl, by rfl, by rfl, by decide +kernel⟩, by decide +kernel, rfl⟩,
   ⟨0, 0, wCore (fun k => { k with g := [(1, 0x1000000)] }) (wProg 0x84010000 State.reset), _, 0x84010000, _, {}, 0, rfl, rfl, ⟨by decide +kernel, by decide +kernel, by decide +kernel, by rfl, by rfl, by rfl, by decide +kernel⟩, by decide +kernel⟩,
   ⟨0, 0, wProg 0x90000000 State.reset, _, 0x90000000, _, _, _, _, rfl, rfl, ⟨by decide +kernel, by decide +kernel, by decide +kernel, by rfl, by rfl, by rfl, by decide +kernel⟩, by decide +kernel, rfl, rfl⟩,
   ⟨0, 0, (wCore (fun k => { k with g := [(1, 16)] }) (wProg 0x90010000 State.reset)).setF (Reg.PWR_DOM_STAT (domEngine 1)) 2 0 1, _, 0x90010000, _, _, _, rfl, rfl, ⟨by decide +kernel, by decide +kernel, by decide +kernel, by rfl, by rfl, by rfl, by decide +kernel⟩, by decide +kernel, rfl, by decide +kernel⟩,
   ⟨0, 0, wCore (fun k => { k with g := [(1, 0x1000000)] }) (wProg 0x90010000 State.reset), _, 0x90010000, _, {}, 0, rfl, rfl, ⟨by decide +kernel, by decide +kernel, by decide +kernel, by rfl, by rfl, by rfl, by decide +kernel⟩, by decide +kernel⟩⟩

theorem test_witness_EngineWaitsAndStalls :
    (∃ (n : Fin 68) (e : Nat) (s : State) (w : Word) (x : EngX), x = s.issue n e w ∧ x.retry = false ∧ Issues s n e w .waitt ∧ fMOD w = 0 ∧ before s.time x.ra = false) ∧
    (∃ (n : Fin 68) (e : Nat) (s : State) (w : Word) (x : EngX), x = s.issue n e w ∧ x.retry = false ∧ Issues s n e w .waitt ∧ fMOD w = 0 ∧ before s.time x.ra = true ∧ before (x.core.cyct + units x.period) x.ra = false) ∧
    (∃ (n : Fin 68) (e : Nat) (s : State) (w : Word) (x : EngX) (t : _), x = s.issue n e w ∧ x.retry = false ∧ Issues s n e w .waitt ∧ t = (if fMOD w = 0 then x.ra else x.core.cyct + x.ra) ∧ before s.time t = true ∧ before (x.core.cyct + units x.period) t = true) ∧
    (∃ (n : Fin 68) (e : Nat) (s : State) (w : Word) (x : EngX), x = s.issue n e w ∧ x.retry = false ∧ Issues s n e w .waitf ∧ x.core.tflags &&& loW x.ra ≠ 0) ∧
    (∃ (n : Fin 68) (e : Nat) (s : State) (w : Word) (x : EngX), x = s.issue n e w ∧ x.retry = false ∧ Issues s n e w .waitf ∧ x.core.tflags &&& loW x.ra = 0 ∧ fIMM w ≠ 0) ∧
    (∃ (n : Fin 68) (e : Nat) (s : State) (w : Word) (x : EngX), x = s.issue n e w ∧ x.retry = false ∧ Issues s n e w .waitf ∧ x.core.tflags &&& loW x.ra = 0 ∧ fIMM w = 0) ∧
    (∃ (n : Fin 68) (e : Nat) (s : State) (w : Word) (x : EngX), x = s.issue n e w ∧ x.retry = false ∧ Issues s n e w .tfclr) ∧
    (∃ (n : Fin 68) (e : Nat) (s : State) (w : Word) (x : EngX), x = s.issue n e w ∧ x.retry = false ∧ Issues s n e w .recv ∧ s.boxFull n (fRA w) = true) ∧
    (∃ (n : Fin 68) (e : Nat) (s : State) (w : Word) (x : EngX), x = s.issue n e w ∧ x.retry = false ∧ Issues s n e w .recv ∧ s.boxFull n (fRA w) = false ∧ fIMM w ≠ 0) ∧
    (∃ (n : Fin 68) (e : Nat) (s : State) (w : Word) (x : EngX), x = s.issue n e w ∧ x.retry = false ∧ Issues s n e w .recv ∧ s.boxFull n (fRA w) = false ∧ fIMM w = 0) :=
  ⟨⟨0, 0, wProg 0x88000000 State.reset, 0x88000000, _, rfl, by decide +kernel, ⟨by decide +kernel, by decide +kernel, by decide +kernel, by rfl, by rfl, by rfl, by decide +kernel⟩, by decide +kernel, by decide +kernel⟩,
   ⟨0, 0, wCore (fun k => { k with g := [(1, 400)] }) (wProg 0x88010000 State.reset), 0x88010000, _, rfl, by decide +kernel, ⟨by decide +kernel, by decide +kernel, by decide +kernel, by rfl, by rfl, by rfl, by decide +kernel⟩, by decide +kernel, by decide +kernel, by decide +kernel⟩,
   ⟨0, 0, wCore (fun k => { k with g := [(1, 0x100000000)] }) (wProg 0x88010000 State.reset), 0x88010000, _, _, rfl, by decide +kernel, ⟨by decide +kernel, by decide +kernel, by decide +kernel, by rfl, by rfl, by rfl, by decide +kernel⟩, rfl, by decide +kernel, by decide +kernel⟩,
   ⟨0, 0, wCore (fun k => { k with g := [(1, 1)], tflags := 1 }) (wProg 0x8C010000 State.reset), 0x8C010000, _, rfl, by decide +kernel, ⟨by decide +kernel, by decide +kernel, by decide +kernel, by rfl, by rfl, by rfl, by decide +kernel⟩, by decide +kernel⟩,
   ⟨0, 0, wProg 0x8C000001 State.reset, 0x8C000001, _, rfl, by decide +kernel, ⟨by decide +kernel, by decide +kernel, by decide +kernel, by rfl, by rfl, by rfl, by decide +kernel⟩, by decide +kernel, by decide +kernel⟩,
   ⟨0, 0, wProg 0x8C000000 State.reset, 0x8C000000, _, rfl, by decide +kernel, ⟨by decide +kernel, by decide +kernel, by decide +kernel, by rfl, by rfl, by rfl, by decide +kernel⟩, by decide +kernel, by decide +kernel⟩,
   ⟨0, 0, wProg 0xA8000000 State.reset, 0xA8000000, _, rfl, by decide +kernel, ⟨by decide +kernel, by decide +kernel, by decide +kernel, by rfl, by rfl, by rfl, by decide +kernel⟩⟩,
   ⟨0, 0, (wProg 0x94000000 State.reset).setB (Reg.ENG_MBOX_STAT 0) 0 true, 0x94000000, _, rfl, by decide +kernel, ⟨by decide +kernel, by decide +kernel, by decide +kernel, by rfl, by rfl, by rfl, by decide +kernel⟩, by decide +kernel⟩,
   ⟨0, 0, wProg 0x94000001 State.reset, 0x94000001, _, rfl, by decide +kernel, ⟨by decide +kernel, by decide +kernel, by decide +kernel, by rfl, by rfl, by rfl, by decide +kernel⟩, by decide +kernel, by decide +kernel⟩,
   ⟨0, 0, wProg 0x94000000 State.reset, 0x94000000, _, rfl, by decide +kernel, ⟨by decide +kernel, by decide +kernel, by decide +kernel, by rfl, by rfl, by rfl, by decide +kernel⟩, by decide +kernel, by decide +kernel⟩⟩

theorem test_witness_EngineWaitsAndStalls_2 :
    (∃ (n : Fin 68) (e : Nat) (s : State) (w : Word) (x : EngX), x = s.issue n e w ∧ x.retry = false ∧ Issues s n e w .peek ∧ s.boxFull n (fRA w) = true) ∧
    (∃ (n : Fin 68) (e : Nat) (s : State) (w : Word) (x : EngX) (m : _), x = s.issue n e w ∧ x.retry = false ∧ Issues s n e w .recvm ∧ (bitsSet 16 (x.ra.toNat % 65536)).find? (fun m => s.boxFull n m) = some m) ∧
    (∃ (n : Fin 68) (e : Nat) (s : State) (x : EngX) (t : _), x = s.resume n e ∧ Stalls s n e (.waitt t) ∧ s.reached t = true) ∧
    (∃ (n : Fin 68) (e : Nat) (s : State) (x : EngX) (rd : _) (m : _), x = s.resume n e ∧ Stalls s n e (.waitf rd m) ∧ (s.leng e).waited s.time (fIMM (s.wordAt e)) = true ∧ (s.leng e).core.tflags &&& m = 0) ∧
    (∃ (n : Fin 68) (e : Nat) (s : State) (x : EngX) (rd : _) (m : _), x = s.resume n e ∧ Stalls s n e (.recv rd m) ∧ (s.leng e).waited s.time (fIMM (s.wordAt e)) = true ∧ s.boxFull n m = false) ∧
    (∃ (n : Fin 68) (e : Nat) (s : State) (x : EngX) (rd : _) (m : _), x = s.resume n e ∧ Stalls s n e (.recvm rd m) ∧ (s.leng e).waited s.time (fIMM (s.wordAt e)) = true ∧ ((∀ i < 16, m.testBit i = true → s.boxFull n i = false))) ∧
    (∃ (n : Fin 68) (e : Nat) (s : State) (x : EngX) (rd : _) (p : _) (sec : _), x = s.resume n e ∧ Stalls s n e (.bayRead rd p sec) ∧ s.bayLive e (.bayRead rd p sec) = true) ∧
    (∃ (n : Fin 68) (e : Nat) (s : State) (x : EngX) (p : _) (sec : _) (k : _), x = s.resume n e ∧ Stalls s n e (.bayWrite p sec k) ∧ s.bayLive e (.bayWrite p sec k) = true) ∧
    (∃ (n : Fin 68) (e : Nat) (s : State) (x : EngX) (rd : _) (p : _) (sec : _), x = s.resume n e ∧ Stalls s n e (.bayRead rd p sec) ∧ (s.leng e).waited s.time (s.bpTmo n) = true ∧ s.domOn sec = true) ∧
    (∃ (n : Fin 68) (e : Nat) (s : State) (x : EngX) (k : _), x = s.resume n e ∧ Stalls s n e .drain ∧ (s.leng e).waited s.time 65535 = true ∧ k ∈ (s.leng e).efWait ∧ s.statusHeld e k = false) :=
  ⟨⟨0, 0, (wProg 0x98000000 State.reset).setB (Reg.ENG_MBOX_STAT 0) 0 true, 0x98000000, _, rfl, by decide +kernel, ⟨by decide +kernel, by decide +kernel, by decide +kernel, by rfl, by rfl, by rfl, by decide +kernel⟩, by decide +kernel⟩,
   ⟨0, 0, (wCore (fun k => { k with g := [(1, 1)] }) (wProg 0x9C010000 State.reset)).setB (Reg.ENG_MBOX_STAT 0) 0 true, 0x9C010000, _, _, rfl, by decide +kernel, ⟨by decide +kernel, by decide +kernel, by decide +kernel, by rfl, by rfl, by rfl, by decide +kernel⟩, rfl⟩,
   ⟨0, 0, wEng (fun c => { c with stall := some (.waitt 0) }) (wProg 0 State.reset), _, 0, rfl, ⟨by decide +kernel, by decide +kernel, by decide +kernel, by rfl⟩, by decide +kernel⟩,
   ⟨0, 0, wEng (fun c => { c with stall := some (.waitf 0 1) }) (wProg 0 State.reset), _, 0, 1, rfl, ⟨by decide +kernel, by decide +kernel, by decide +kernel, by rfl⟩, by decide +kernel, by decide +kernel⟩,
   ⟨0, 0, wEng (fun c => { c with stall := some (.recv 0 0) }) (wProg 0 State.reset), _, 0, 0, rfl, ⟨by decide +kernel, by decide +kernel, by decide +kernel, by rfl⟩, by decide +kernel, by decide +kernel⟩,
   ⟨0, 0, wAt 0x100000000000000 (wEng (fun c => { c with stall := some (.recvm 0 0) }) (wProg 0 State.reset)), _, 0, 0, rfl, ⟨by decide +kernel, by decide +kernel, by decide +kernel, by rfl⟩, by decide +kernel, (by intro i _ h; simp at h)⟩,
   ⟨0, 0, wEng (fun c => { c with stall := some (.bayRead 0 0 0) }) (wFn (fun s => { s with boot := { s.boot with clear := false } }) (((((wProg 0 State.reset).setR 0x200000A0 0x80000000).setB (Reg.SEC_STAT 0) 1 true).setB (Reg.SEC_RCLK_GATE 0) 0 true).setB (Reg.SEC_RCLK 0 0) 7 true)), _, 0, 0, 0, rfl, ⟨by decide +kernel, by decide +kernel, by decide +kernel, by rfl⟩, by decide +kernel⟩,
   ⟨0, 0, wEng (fun c => { c with stall := some (.bayWrite 0 0 0) }) (wFn (fun s => { s with boot := { s.boot with clear := false } }) (((((wProg 0 State.reset).setR 0x200000A0 0x80000000).setB (Reg.SEC_STAT 0) 1 true).setB (Reg.SEC_RCLK_GATE 0) 0 true).setB (Reg.SEC_RCLK 0 0) 7 true)), _, 0, 0, 0, rfl, ⟨by decide +kernel, by decide +kernel, by decide +kernel, by rfl⟩, by decide +kernel⟩,
   ⟨0, 0, wAt 0x100000000000000 (wEng (fun c => { c with stall := some (.bayRead 0 0 0) }) (wProg 0 State.reset)), _, 0, 0, 0, rfl, ⟨by decide +kernel, by decide +kernel, by decide +kernel, by rfl⟩, by decide +kernel, by decide +kernel⟩,
   ⟨0, 0, wAt 0x100000000000000 (wEng (fun c => { c with stall := some .drain, efWait := [1] }) (wProg 0 State.reset)), _, 1, rfl, ⟨by decide +kernel, by decide +kernel, by decide +kernel, by rfl⟩, by decide +kernel, by decide +kernel, by decide +kernel⟩⟩

theorem test_witness_EngineWaitsAndStalls_3 :
    (∃ (n : Fin 68) (e : Nat) (s : State) (x : EngX) (c : LEng) (k : Nat), x = s.resume n e) :=
  ⟨0, 0, State.reset, _, {}, 0, rfl⟩

theorem test_witness_EngineBayPortsAndRequests :
    (∃ (n : Fin 68) (e : Nat) (s : State) (u : State) (w : Word) (x : EngX) (c : LEng) (k : Nat) (a : Nat) (blk : List Byte) (sec : _), x = s.issue n e w ∧ u = s.putLogged n e { c with efPend := c.efPend ++ [(fRD w, k)], efWait := c.efWait ++ [k] } ∧ a = x.ra.toNat ∧ blk = ramBytes x.c.dram a 16 ∧ Issues s n e w .bprd ∧ x.retry = false ∧ s.baySector e (fRA w) = some sec) ∧
    (∃ (n : Fin 68) (e : Nat) (s : State) (u : State) (w : Word) (x : EngX) (c : LEng) (k : Nat) (a : Nat) (blk : List Byte), x = s.issue n e w ∧ u = s.putLogged n e { c with efPend := c.efPend ++ [(fRD w, k)], efWait := c.efWait ++ [k] } ∧ a = x.ra.toNat ∧ blk = ramBytes x.c.dram a 16 ∧ Issues s n e w .bprd ∧ x.retry = false ∧ s.baySector e (fRA w) = none) ∧
    (∃ (n : Fin 68) (e : Nat) (s : State) (u : State) (w : Word) (x : EngX) (c : LEng) (k : Nat) (a : Nat) (blk : List Byte), x = s.issue n e w ∧ u = s.putLogged n e { c with efPend := c.efPend ++ [(fRD w, k)], efWait := c.efWait ++ [k] } ∧ a = x.ra.toNat ∧ blk = ramBytes x.c.dram a 16 ∧ Issues s n e w .bpwr ∧ x.release (.bayWrite (fRA w) x.rd) = .go c k ∧ s.baySector e (fRA w) = none) ∧
    (∃ (n : Fin 68) (e : Nat) (s : State) (u : State) (w : Word) (x : EngX) (c : LEng) (k : Nat) (a : Nat) (blk : List Byte) (sec : _), x = s.issue n e w ∧ u = s.putLogged n e { c with efPend := c.efPend ++ [(fRD w, k)], efWait := c.efWait ++ [k] } ∧ a = x.ra.toNat ∧ blk = ramBytes x.c.dram a 16 ∧ Issues s n e w .bpwr ∧ x.release (.bayWrite (fRA w) x.rd) = .go c k ∧ s.baySector e (fRA w) = some sec ∧ c.efWait.contains k = false) ∧
    (∃ (n : Fin 68) (e : Nat) (s : State) (u : State) (w : Word) (x : EngX) (c : LEng) (k : Nat) (a : Nat) (blk : List Byte), x = s.issue n e w ∧ u = s.putLogged n e { c with efPend := c.efPend ++ [(fRD w, k)], efWait := c.efWait ++ [k] } ∧ a = x.ra.toNat ∧ blk = ramBytes x.c.dram a 16 ∧ Issues s n e w .rqNvRead ∧ ((a % 16 ≠ 0 ∨ 0x10000 ≤ a))) ∧
    (∃ (n : Fin 68) (e : Nat) (s : State) (u : State) (w : Word) (x : EngX) (c : LEng) (k : Nat) (a : Nat) (blk : List Byte), x = s.issue n e w ∧ u = s.putLogged n e { c with efPend := c.efPend ++ [(fRD w, k)], efWait := c.efWait ++ [k] } ∧ a = x.ra.toNat ∧ blk = ramBytes x.c.dram a 16 ∧ Issues s n e w .rqNvRead ∧ a % 16 = 0 ∧ a < 0x10000) ∧
    (∃ (n : Fin 68) (e : Nat) (s : State) (u : State) (w : Word) (x : EngX) (c : LEng) (k : Nat) (a : Nat) (blk : List Byte) (mode : _) (data : _) (r : _), x = s.issue n e w ∧ u = s.putLogged n e { c with efPend := c.efPend ++ [(fRD w, k)], efWait := c.efWait ++ [k] } ∧ a = x.ra.toNat ∧ blk = ramBytes x.c.dram a 16 ∧ a % 16 = 0 ∧ a < 0x10000 ∧ (data = (if mode = 1 ∨ mode = 4 ∨ mode = 5 then bufferBytes x.c.dram (leNat (sliceB blk 10 2)) (leNat (sliceB blk 8 2)) else if mode = 2 then [] else sliceB blk 10 2)) ∧ x.release (.request mode a blk data) = .go c k ∧ r = u.submit mode (leNat (blk.take 8)) (leNat (sliceB blk 8 2)) data (leNat (sliceB blk 12 1)) (.engine e a) ∧ mode = 0 ∧ Issues s n e w .rqNvRead) ∧
    (∃ (n : Fin 68) (e : Nat) (s : State) (u : State) (w : Word) (x : EngX) (c : LEng) (k : Nat) (a : Nat) (blk : List Byte) (mode : _) (data : _) (r : _), x = s.issue n e w ∧ u = s.putLogged n e { c with efPend := c.efPend ++ [(fRD w, k)], efWait := c.efWait ++ [k] } ∧ a = x.ra.toNat ∧ blk = ramBytes x.c.dram a 16 ∧ a % 16 = 0 ∧ a < 0x10000 ∧ (data = (if mode = 1 ∨ mode = 4 ∨ mode = 5 then bufferBytes x.c.dram (leNat (sliceB blk 10 2)) (leNat (sliceB blk 8 2)) else if mode = 2 then [] else sliceB blk 10 2)) ∧ x.release (.request mode a blk data) = .go c k ∧ r = u.submit mode (leNat (blk.take 8)) (leNat (sliceB blk 8 2)) data (leNat (sliceB blk 12 1)) (.engine e a) ∧ mode = 1 ∧ Issues s n e w .rqNvProgram) ∧
    (∃ (n : Fin 68) (e : Nat) (s : State) (u : State) (w : Word) (x : EngX) (c : LEng) (k : Nat) (a : Nat) (blk : List Byte) (mode : _) (data : _) (r : _), x = s.issue n e w ∧ u = s.putLogged n e { c with efPend := c.efPend ++ [(fRD w, k)], efWait := c.efWait ++ [k] } ∧ a = x.ra.toNat ∧ blk = ramBytes x.c.dram a 16 ∧ a % 16 = 0 ∧ a < 0x10000 ∧ (data = (if mode = 1 ∨ mode = 4 ∨ mode = 5 then bufferBytes x.c.dram (leNat (sliceB blk 10 2)) (leNat (sliceB blk 8 2)) else if mode = 2 then [] else sliceB blk 10 2)) ∧ x.release (.request mode a blk data) = .go c k ∧ r = u.submit mode (leNat (blk.take 8)) (leNat (sliceB blk 8 2)) data (leNat (sliceB blk 12 1)) (.engine e a) ∧ mode = 2 ∧ Issues s n e w .rqNvErase) ∧
    (∃ (n : Fin 68) (e : Nat) (s : State) (u : State) (w : Word) (x : EngX) (c : LEng) (k : Nat) (a : Nat) (blk : List Byte) (mode : _) (data : _) (r : _), x = s.issue n e w ∧ u = s.putLogged n e { c with efPend := c.efPend ++ [(fRD w, k)], efWait := c.efWait ++ [k] } ∧ a = x.ra.toNat ∧ blk = ramBytes x.c.dram a 16 ∧ a % 16 = 0 ∧ a < 0x10000 ∧ (data = (if mode = 1 ∨ mode = 4 ∨ mode = 5 then bufferBytes x.c.dram (leNat (sliceB blk 10 2)) (leNat (sliceB blk 8 2)) else if mode = 2 then [] else sliceB blk 10 2)) ∧ x.release (.request mode a blk data) = .go c k ∧ r = u.submit mode (leNat (blk.take 8)) (leNat (sliceB blk 8 2)) data (leNat (sliceB blk 12 1)) (.engine e a) ∧ mode = 3 ∧ Issues s n e w .rqPrmRead) :=
  ⟨⟨0, 0, (wProg 0xA0000000 State.reset).setR (0x200000A0) 0x80000000, _, 0xA0000000, _, {}, 0, _, _, _, rfl, rfl, rfl, rfl, ⟨by decide +kernel, by decide +kernel, by decide +kernel, by rfl, by rfl, by rfl, by decide +kernel⟩, by decide +kernel, rfl⟩,
   ⟨0, 0, wProg 0xA0000000 State.reset, _, 0xA0000000, _, {}, 0, _, _, rfl, rfl, rfl, rfl, ⟨by decide +kernel, by decide +kernel, by decide +kernel, by rfl, by rfl, by rfl, by decide +kernel⟩, by decide +kernel, by decide +kernel⟩,
   ⟨0, 0, wProg 0xA4000000 State.reset, _, 0xA4000000, _, _, _, _, _, rfl, rfl, rfl, rfl, ⟨by decide +kernel, by decide +kernel, by decide +kernel, by rfl, by rfl, by rfl, by decide +kernel⟩, rfl, by decide +kernel⟩,
   ⟨0, 0, (wProg 0xA4000000 State.reset).setR (0x200000A0) 0x80000000, _, 0xA4000000, _, _, _, _, _, _, rfl, rfl, rfl, rfl, ⟨by decide +kernel, by decide +kernel, by decide +kernel, by rfl, by rfl, by rfl, by decide +kernel⟩, rfl, rfl, by decide +kernel⟩,
   ⟨0, 0, wCore (fun k => { k with g := [(1, 1)] }) (wProg 0xF8010000 State.reset), _, 0xF8010000, _, {}, 0, _, _, rfl, rfl, rfl, rfl, ⟨by decide +kernel, by decide +kernel, by decide +kernel, by rfl, by rfl, by rfl, by decide +kernel⟩, by decide +kernel⟩,
   ⟨0, 0, wProg 0xF8000000 State.reset, _, 0xF8000000, _, {}, 0, _, _, rfl, rfl, rfl, rfl, ⟨by decide +kernel, by decide +kernel, by decide +kernel, by rfl, by rfl, by rfl, by decide +kernel⟩, by decide +kernel, by decide +kernel⟩,
   ⟨0, 0, wProg 0xF8000000 State.reset, _, 0xF8000000, _, _, _, _, _, 0, _, _, rfl, rfl, rfl, rfl, by decide +kernel, by decide +kernel, rfl, rfl, rfl, by decide +kernel, ⟨by decide +kernel, by decide +kernel, by decide +kernel, by rfl, by rfl, by rfl, by decide +kernel⟩⟩,
   ⟨0, 0, wProg 0xF8000040 State.reset, _, 0xF8000040, _, _, _, _, _, 1, _, _, rfl, rfl, rfl, rfl, by decide +kernel, by decide +kernel, rfl, rfl, rfl, by decide +kernel, ⟨by decide +kernel, by decide +kernel, by decide +kernel, by rfl, by rfl, by rfl, by decide +kernel⟩⟩,
   ⟨0, 0, wProg 0xF8000080 State.reset, _, 0xF8000080, _, _, _, _, _, 2, _, _, rfl, rfl, rfl, rfl, by decide +kernel, by decide +kernel, rfl, rfl, rfl, by decide +kernel, ⟨by decide +kernel, by decide +kernel, by decide +kernel, by rfl, by rfl, by rfl, by decide +kernel⟩⟩,
   ⟨0, 0, wProg 0xF80000C0 State.reset, _, 0xF80000C0, _, _, _, _, _, 3, _, _, rfl, rfl, rfl, rfl, by decide +kernel, by decide +kernel, rfl, rfl, rfl, by decide +kernel, ⟨by decide +kernel, by decide +kernel, by decide +kernel, by rfl, by rfl, by rfl, by decide +kernel⟩⟩⟩

theorem test_witness_EngineBayPortsAndRequests_2 :
    (∃ (n : Fin 68) (e : Nat) (s : State) (u : State) (w : Word) (x : EngX) (c : LEng) (k : Nat) (a : Nat) (blk : List Byte) (mode : _) (data : _) (r : _), x = s.issue n e w ∧ u = s.putLogged n e { c with efPend := c.efPend ++ [(fRD w, k)], efWait := c.efWait ++ [k] } ∧ a = x.ra.toNat ∧ blk = ramBytes x.c.dram a 16 ∧ a % 16 = 0 ∧ a < 0x10000 ∧ (data = (if mode = 1 ∨ mode = 4 ∨ mode = 5 then bufferBytes x.c.dram (leNat (sliceB blk 10 2)) (leNat (sliceB blk 8 2)) else if mode = 2 then [] else sliceB blk 10 2)) ∧ x.release (.request mode a blk data) = .go c k ∧ r = u.submit mode (leNat (blk.take 8)) (leNat (sliceB blk 8 2)) data (leNat (sliceB blk 12 1)) (.engine e a) ∧ mode = 4 ∧ Issues s n e w .rqPrmWrite) ∧
    (∃ (n : Fin 68) (e : Nat) (s : State) (u : State) (w : Word) (x : EngX) (c : LEng) (k : Nat) (a : Nat) (blk : List Byte) (mode : _) (data : _) (r : _), x = s.issue n e w ∧ u = s.putLogged n e { c with efPend := c.efPend ++ [(fRD w, k)], efWait := c.efWait ++ [k] } ∧ a = x.ra.toNat ∧ blk = ramBytes x.c.dram a 16 ∧ a % 16 = 0 ∧ a < 0x10000 ∧ (data = (if mode = 1 ∨ mode = 4 ∨ mode = 5 then bufferBytes x.c.dram (leNat (sliceB blk 10 2)) (leNat (sliceB blk 8 2)) else if mode = 2 then [] else sliceB blk 10 2)) ∧ x.release (.request mode a blk data) = .go c k ∧ r = u.submit mode (leNat (blk.take 8)) (leNat (sliceB blk 8 2)) data (leNat (sliceB blk 12 1)) (.engine e a) ∧ mode = 5 ∧ Issues s n e w .rqTrunk) :=
  ⟨⟨0, 0, wProg 0xF8000100 State.reset, _, 0xF8000100, _, _, _, _, _, 4, _, _, rfl, rfl, rfl, rfl, by decide +kernel, by decide +kernel, rfl, rfl, rfl, by decide +kernel, ⟨by decide +kernel, by decide +kernel, by decide +kernel, by rfl, by rfl, by rfl, by decide +kernel⟩⟩,
   ⟨0, 0, wProg 0xF8000140 State.reset, _, 0xF8000140, _, _, _, _, _, 5, _, _, rfl, rfl, rfl, rfl, by decide +kernel, by decide +kernel, rfl, rfl, rfl, by decide +kernel, ⟨by decide +kernel, by decide +kernel, by decide +kernel, by rfl, by rfl, by rfl, by decide +kernel⟩⟩⟩

theorem test_witness_EngineMotionAndLog :
    (∃ (n : Fin 68) (e : Nat) (s : State) (w : Word) (x : EngX), x = s.issue n e w ∧ Issues s n e w .uwr ∧ fld w 10 8 < 5) ∧
    (∃ (n : Fin 68) (e : Nat) (s : State) (w : Word) (x : EngX), x = s.issue n e w ∧ Issues s n e w .urd ∧ fld w 10 8 ≠ 6) ∧
    (∃ (n : Fin 68) (e : Nat) (s : State) (w : Word) (x : EngX), x = s.issue n e w ∧ Issues s n e w .trjGo) ∧
    (∃ (n : Fin 68) (e : Nat) (s : State) (w : Word) (x : EngX), x = s.issue n e w ∧ Issues s n e w .trjStop) ∧
    (∃ (n : Fin 68) (e : Nat) (s : State) (w : Word) (x : EngX), x = s.issue n e w ∧ Issues s n e w .qstop) ∧
    (∃ (n : Fin 68) (e : Nat) (s : State) (w : Word) (x : EngX), x = s.issue n e w ∧ Issues s n e w .trjStep) ∧
    (∃ (n : Fin 68) (e : Nat) (s : State) (w : Word) (x : EngX), x = s.issue n e w ∧ Issues s n e w .engage ∧ x.ra.toNat < 8 ∧ (s.activeDesc e x.ra.toNat).valid = true) ∧
    (∃ (n : Fin 68) (e : Nat) (s : State) (w : Word) (x : EngX), x = s.issue n e w ∧ Issues s n e w .engage ∧ x.ra.toNat < 8 ∧ (s.activeDesc e x.ra.toNat).valid = false) ∧
    (∃ (n : Fin 68) (e : Nat) (s : State) (w : Word) (x : EngX) (t : _) (d : _), x = s.issue n e w ∧ Issues s n e w .engage ∧ x.ra.toNat = 256 + t ∧ t < 8 ∧ d = s.activeDesc e t ∧ d.valid = true) ∧
    (∃ (n : Fin 68) (e : Nat) (s : State) (w : Word) (x : EngX), x = s.issue n e w ∧ Issues s n e w .disengage) :=
  ⟨⟨0, 0, wProg 0xC0000000 State.reset, 0xC0000000, _, rfl, ⟨by decide +kernel, by decide +kernel, by decide +kernel, by rfl, by rfl, by rfl, by decide +kernel⟩, by decide +kernel⟩,
   ⟨0, 0, wProg 0xC4000000 State.reset, 0xC4000000, _, rfl, ⟨by decide +kernel, by decide +kernel, by decide +kernel, by rfl, by rfl, by rfl, by decide +kernel⟩, by decide +kernel⟩,
   ⟨0, 0, wProg 0xC8000000 State.reset, 0xC8000000, _, rfl, ⟨by decide +kernel, by decide +kernel, by decide +kernel, by rfl, by rfl, by rfl, by decide +kernel⟩⟩,
   ⟨0, 0, wProg 0xC8000001 State.reset, 0xC8000001, _, rfl, ⟨by decide +kernel, by decide +kernel, by decide +kernel, by rfl, by rfl, by rfl, by decide +kernel⟩⟩,
   ⟨0, 0, wProg 0xC8000002 State.reset, 0xC8000002, _, rfl, ⟨by decide +kernel, by decide +kernel, by decide +kernel, by rfl, by rfl, by rfl, by decide +kernel⟩⟩,
   ⟨0, 0, wProg 0xC8000003 State.reset, 0xC8000003, _, rfl, ⟨by decide +kernel, by decide +kernel, by decide +kernel, by rfl, by rfl, by rfl, by decide +kernel⟩⟩,
   ⟨0, 0, wDesc (wProg 0xC8000100 State.reset), 0xC8000100, _, rfl, ⟨by decide +kernel, by decide +kernel, by decide +kernel, by rfl, by rfl, by rfl, by decide +kernel⟩, by decide +kernel, by decide +kernel⟩,
   ⟨0, 0, wProg 0xC8000100 State.reset, 0xC8000100, _, rfl, ⟨by decide +kernel, by decide +kernel, by decide +kernel, by rfl, by rfl, by rfl, by decide +kernel⟩, by decide +kernel, by decide +kernel⟩,
   ⟨0, 0, wCore (fun k => { k with g := [(1, 256)] }) (wDesc (wProg 0xC8010100 State.reset)), 0xC8010100, _, 0, _, rfl, ⟨by decide +kernel, by decide +kernel, by decide +kernel, by rfl, by rfl, by rfl, by decide +kernel⟩, by decide +kernel, by decide +kernel, rfl, by decide +kernel⟩,
   ⟨0, 0, wProg 0xC8000101 State.reset, 0xC8000101, _, rfl, ⟨by decide +kernel, by decide +kernel, by decide +kernel, by rfl, by rfl, by rfl, by decide +kernel⟩⟩⟩

theorem test_witness_EngineMotionAndLog_2 :
    (∃ (n : Fin 68) (e : Nat) (s : State) (w : Word) (x : EngX), x = s.issue n e w ∧ Issues s n e w .camStep ∧ (x.core.unit 1 9).toNat.testBit 7 = false) ∧
    (∃ (n : Fin 68) (e : Nat) (s : State) (w : Word) (x : EngX) (d : _) (v : _) (out : _), x = s.issue n e w ∧ Issues s n e w .camStep ∧ (x.core.unit 1 9).toNat.testBit 7 = true ∧ nbits (x.core.unit 1 0).toNat 7 6 ≠ 3 ∧ d = s.activeDesc e ((x.core.unit 1 9).toNat % 8) ∧ d.valid = true ∧ v = s.camAt e d (x.core.unit 1 1) ∧ out = v.value + dw (v.k * d.rise.toInt) + x.core.unit 1 8) ∧
    (∃ (n : Fin 68) (e : Nat) (s : State) (w : Word) (x : EngX), x = s.issue n e w ∧ Issues s n e w .vmset) ∧
    (∃ (n : Fin 68) (e : Nat) (s : State) (w : Word) (x : EngX) (d : _), x = s.issue n e w ∧ Issues s n e w .cami ∧ d = s.activeDesc e (fld w 2 0) ∧ d.valid = true) ∧
    (∃ (n : Fin 68) (e : Nat) (s : State) (w : Word) (x : EngX), x = s.issue n e w ∧ Issues s n e w .loopReset) ∧
    (∃ (n : Fin 68) (e : Nat) (s : State) (w : Word) (x : EngX), x = s.issue n e w ∧ Issues s n e w .biqReset) ∧
    (∃ (n : Fin 68) (e : Nat) (s : State) (w : Word) (x : EngX) (r : _), x = s.issue n e w ∧ Issues s n e w .loopx ∧ x.core.loopOn (fld w 1 0) = true ∧ r = x.core.loopx (fld w 1 0) x.ra x.rb x.period) ∧
    (∃ (n : Fin 68) (e : Nat) (s : State) (w : Word) (x : EngX), x = s.issue n e w ∧ Issues s n e w .loopx ∧ x.core.loopOn (fld w 1 0) = false) ∧
    (∃ (n : Fin 68) (e : Nat) (s : State) (w : Word) (x : EngX) (r : _), x = s.issue n e w ∧ Issues s n e w .biqx ∧ (x.core.unit 3 0x20).getLsbD 0 = true ∧ r = x.core.biqx (x.ra.toNat % 2 ^ 32)) ∧
    (∃ (n : Fin 68) (e : Nat) (s : State) (w : Word) (x : EngX) (r : _), x = s.issue n e w ∧ Issues s n e w .limx ∧ r = x.core.limx x.ra x.rb) :=
  ⟨⟨0, 0, wProg 0xC8000102 State.reset, 0xC8000102, _, rfl, ⟨by decide +kernel, by decide +kernel, by decide +kernel, by rfl, by rfl, by rfl, by decide +kernel⟩, by decide +kernel⟩,
   ⟨0, 0, wCore (fun k => { k with units := [(265, 0x80)] }) (wDesc (wProg 0xC8000102 State.reset)), 0xC8000102, _, _, _, _, rfl, ⟨by decide +kernel, by decide +kernel, by decide +kernel, by rfl, by rfl, by rfl, by decide +kernel⟩, by decide +kernel, by decide +kernel, rfl, by decide +kernel, rfl, rfl⟩,
   ⟨0, 0, wProg 0xC8000103 State.reset, 0xC8000103, _, rfl, ⟨by decide +kernel, by decide +kernel, by decide +kernel, by rfl, by rfl, by rfl, by decide +kernel⟩⟩,
   ⟨0, 0, wDesc (wProg 0xCC000000 State.reset), 0xCC000000, _, _, rfl, ⟨by decide +kernel, by decide +kernel, by decide +kernel, by rfl, by rfl, by rfl, by decide +kernel⟩, rfl, by decide +kernel⟩,
   ⟨0, 0, wProg 0xC8000200 State.reset, 0xC8000200, _, rfl, ⟨by decide +kernel, by decide +kernel, by decide +kernel, by rfl, by rfl, by rfl, by decide +kernel⟩⟩,
   ⟨0, 0, wProg 0xC8000300 State.reset, 0xC8000300, _, rfl, ⟨by decide +kernel, by decide +kernel, by decide +kernel, by rfl, by rfl, by rfl, by decide +kernel⟩⟩,
   ⟨0, 0, wCore (fun k => { k with units := [(524, 1)] }) (wProg 0xD0000000 State.reset), 0xD0000000, _, _, rfl, ⟨by decide +kernel, by decide +kernel, by decide +kernel, by rfl, by rfl, by rfl, by decide +kernel⟩, by decide +kernel, rfl⟩,
   ⟨0, 0, wProg 0xD0000000 State.reset, 0xD0000000, _, rfl, ⟨by decide +kernel, by decide +kernel, by decide +kernel, by rfl, by rfl, by rfl, by decide +kernel⟩, by decide +kernel⟩,
   ⟨0, 0, wCore (fun k => { k with units := [(800, 1)] }) (wProg 0xD4000000 State.reset), 0xD4000000, _, _, rfl, ⟨by decide +kernel, by decide +kernel, by decide +kernel, by rfl, by rfl, by rfl, by decide +kernel⟩, by decide +kernel, rfl⟩,
   ⟨0, 0, wProg 0xD8000000 State.reset, 0xD8000000, _, _, rfl, ⟨by decide +kernel, by decide +kernel, by decide +kernel, by rfl, by rfl, by rfl, by decide +kernel⟩, rfl⟩⟩

theorem test_witness_EngineMotionAndLog_3 :
    (∃ (n : Fin 68) (e : Nat) (s : State) (w : Word) (x : EngX) (c : _) (k : _) (u : _) (y : _), x = s.issue n e w ∧ Issues s n e w .apply ∧ y = ({ x with c := { x.c with core := x.core.status stOK } } : EngX) ∧ y.release (.unitCmd 5 0) = .go c k ∧ u = s.putLogged n e c) ∧
    (∃ (n : Fin 68) (e : Nat) (s : State) (w : Word) (x : EngX) (c : _) (k : _) (u : _), x = s.issue n e w ∧ Issues s n e w .uwr ∧ 5 ≤ fld w 10 8 ∧ x.release (.unitWrite (fld w 10 8) (fld w 7 0) x.ra) = .go c k ∧ u = s.putLogged n e c) ∧
    (∃ (n : Fin 68) (e : Nat) (s : State) (w : Word) (x : EngX), x = s.issue n e w ∧ Issues s n e w .prelog ∧ 0x10000 ≤ x.ra.toNat) ∧
    (∃ (n : Fin 68) (e : Nat) (s : State) (w : Word) (x : EngX) (new : _), x = s.issue n e w ∧ Issues s n e w .prelog ∧ x.ra.toNat < 0x10000 ∧ new = (((List.range ((x.ra.toNat + 64 * fRB w - 1) / 32 + 1 - x.ra.toNat / 32)).map (fun i => x.ra.toNat / 32 + i)).filter (fun l => decide (l < 2048) && !x.c.undo.any (fun u => u.1 == l))) ∧ x.c.undo.length + new.length ≤ 256) ∧
    (∃ (n : Fin 68) (e : Nat) (s : State) (w : Word) (x : EngX), x = s.issue n e w ∧ Issues s n e w .ckhNoretry) ∧
    (∃ (n : Fin 68) (e : Nat) (s : State) (w : Word) (x : EngX), x = s.issue n e w ∧ Issues s n e w .logfree) ∧
    (∃ (n : Fin 68) (e : Nat) (s : State) (w : Word) (x : EngX), x = s.issue n e w ∧ Issues s n e w .cend ∧ x.c.efWait = [] ∧ x.overMargin = false) ∧
    (∃ (n : Fin 68) (e : Nat) (s : State) (w : Word) (x : EngX), x = s.issue n e w ∧ Issues s n e w .cend ∧ x.c.efWait ≠ [] ∧ x.overMargin = false) :=
  ⟨⟨0, 0, wProg 0xC8000500 State.reset, 0xC8000500, _, _, _, _, _, rfl, ⟨by decide +kernel, by decide +kernel, by decide +kernel, by rfl, by rfl, by rfl, by decide +kernel⟩, rfl, rfl, rfl⟩,
   ⟨0, 0, wProg 0xC0000500 State.reset, 0xC0000500, _, _, _, _, rfl, ⟨by decide +kernel, by decide +kernel, by decide +kernel, by rfl, by rfl, by rfl, by decide +kernel⟩, by decide +kernel, rfl, rfl⟩,
   ⟨0, 0, wCore (fun k => { k with g := [(1, 0x1000000)] }) (wProg 0xF4010800 State.reset), 0xF4010800, _, rfl, ⟨by decide +kernel, by decide +kernel, by decide +kernel, by rfl, by rfl, by rfl, by decide +kernel⟩, by decide +kernel⟩,
   ⟨0, 0, wProg 0xF4000800 State.reset, 0xF4000800, _, _, rfl, ⟨by decide +kernel, by decide +kernel, by decide +kernel, by rfl, by rfl, by rfl, by decide +kernel⟩, by decide +kernel, rfl, by decide +kernel⟩,
   ⟨0, 0, wProg 0xF4000001 State.reset, 0xF4000001, _, rfl, ⟨by decide +kernel, by decide +kernel, by decide +kernel, by rfl, by rfl, by rfl, by decide +kernel⟩⟩,
   ⟨0, 0, wProg 0xF4000002 State.reset, 0xF4000002, _, rfl, ⟨by decide +kernel, by decide +kernel, by decide +kernel, by rfl, by rfl, by rfl, by decide +kernel⟩⟩,
   ⟨0, 0, wProg 0xF0000000 State.reset, 0xF0000000, _, rfl, ⟨by decide +kernel, by decide +kernel, by decide +kernel, by rfl, by rfl, by rfl, by decide +kernel⟩, by decide +kernel, by decide +kernel⟩,
   ⟨0, 0, wEng (fun c => { c with efWait := [1] }) (wProg 0xF0000000 State.reset), 0xF0000000, _, rfl, ⟨by decide +kernel, by decide +kernel, by decide +kernel, by rfl, by rfl, by rfl, by decide +kernel⟩, by decide +kernel, by decide +kernel⟩⟩

theorem test_witness_EngineTriggersAndCommands :
    (∃ (e : Fin 64) (s : State) (d : Delivered) (n : Nat), s.due? 1 e 0 = some d ∧ s.physOf e = some n ∧ s.domOn (domEngine n) = true) ∧
    (∃ (e : Fin 64) (s : State), s.due? 1 e 0 = none) ∧
    (∃ (s : State) (n : Nat) (e : Nat) (data : Word) (t : DWord), s.getB (Reg.ENG_CTL n) 0 = true ∧ (s.leng e).mig = none ∧ s.engState n = 2) ∧
    (∃ (s : State) (n : Nat) (e : Nat) (data : Word) (t : DWord), s.getB (Reg.ENG_CTL n) 0 = true ∧ (s.leng e).mig = none ∧ s.engState n = 3 ∧ s.getB (Reg.ENG_CTL n) 3 = false ∧ (s.leng e).latched = none) ∧
    (∃ (s : State) (n : Nat) (e : Nat) (data : Word) (t : DWord), s.getB (Reg.ENG_CTL n) 0 = false) ∧
    (∃ (e : Fin 64) (s : State) (d : Delivered), s.due? 1 e 1 = some d) ∧
    (∃ (t : Fin 384) (s : State) (v : State) (d : Delivered) (l : List Delivered), (s.strobesDue t).reverse = d :: l ∧ v = l.foldl (fun s d => s.loseStrobe t d) s ∧ v.strobeRuns t = true ∧ v.quietAt (t.val / 8) (d.instant + 160) = false ∧ v.quietFor (t.val / 8) = false ∧ v.boot.clear = false ∧ v.reached (d.instant + 160) = true) ∧
    (∃ (t : Fin 384) (s : State) (v : State) (d : Delivered) (l : List Delivered), (s.strobesDue t).reverse = d :: l ∧ v = l.foldl (fun s d => s.loseStrobe t d) s ∧ ((v.strobeRuns t = false ∨ v.quietAt (t.val / 8) (d.instant + 160) = true ∨ v.quietFor (t.val / 8) = true ∨ v.boot.clear = true ∨ v.reached (d.instant + 160) = false))) ∧
    (∃ (t : Fin 384) (s : State), s.strobesDue t = []) ∧
    (∃ (c : CmdRef) (s : State) (x : Command), s.turn c 9 0 = some x) :=
  ⟨⟨0, wDue (wAct 1 0 0 0) State.reset, (wAct 1 0 0 0), 0, by decide +kernel, by decide +kernel, by decide +kernel⟩,
   ⟨0, State.reset, by decide +kernel⟩,
   ⟨(wFn (fun s => s.setLeng 0 { s.leng 0 with mig := none }) ((State.reset).setB (Reg.ENG_CTL 0) 0 true)).setEngState 0 2, 0, 0, 0, 0, by decide +kernel, by decide +kernel, by decide +kernel⟩,
   ⟨wFn (fun s => s.setLeng 0 { s.leng 0 with latched := none }) (((wFn (fun s => s.setLeng 0 { s.leng 0 with mig := none }) ((State.reset).setB (Reg.ENG_CTL 0) 0 true)).setEngState 0 3).setB (Reg.ENG_CTL 0) 3 false), 0, 0, 0, 0, by decide +kernel, by decide +kernel, by decide +kernel, by decide +kernel, by decide +kernel⟩,
   ⟨(State.reset).setB (Reg.ENG_CTL 0) 0 false, 0, 0, 0, 0, by decide +kernel⟩,
   ⟨0, wDue (wAct 1 0 1 0) State.reset, (wAct 1 0 1 0), by decide +kernel⟩,
   ⟨0, wAt 0x100000000000000 (wFn (fun s => { s with boot := { s.boot with clear := false } }) (wDue (wAct 2 0 0 0) State.reset)), _, (wAct 2 0 0 0), [], by decide +kernel, rfl, by decide +kernel, by decide +kernel, by decide +kernel, by decide +kernel, by decide +kernel⟩,
   ⟨0, wAt 80 (wDue (wAct 2 0 0 0) State.reset), _, (wAct 2 0 0 0), [], by decide +kernel, rfl, by decide +kernel⟩,
   ⟨0, State.reset, by decide +kernel⟩,
   ⟨wRef, wCom (wCmd 9 0 (List.replicate 24 0)) State.reset, (wCmd 9 0 (List.replicate 24 0)), by decide +kernel⟩⟩

theorem test_witness_EngineTriggersAndCommands_2 :
    (∃ (c : CmdRef) (s : State) (x : Command), s.turn c 9 1 = some x) ∧
    (∃ (c : CmdRef) (s : State) (x : Command) (n : Nat), s.turn c 9 5 = some x ∧ beAt x.payload 0 1 < 64 ∧ s.physOf (beAt x.payload 0 1) = some n) ∧
    (∃ (c : CmdRef) (s : State) (x : Command), s.turn c 9 6 = some x ∧ beAt x.payload 0 1 < 64 ∧ beAt x.payload 1 1 < 16) ∧
    (∃ (c : CmdRef) (s : State) (x : Command), s.turn c 9 6 = some x ∧ ((64 ≤ beAt x.payload 0 1 ∨ 16 ≤ beAt x.payload 1 1))) :=
  ⟨⟨wRef, wCom (wCmd 9 1 (List.replicate 24 0)) State.reset, (wCmd 9 1 (List.replicate 24 0)), by decide +kernel⟩,
   ⟨wRef, wCom (wCmd 9 5 (List.replicate 24 0)) State.reset, (wCmd 9 5 (List.replicate 24 0)), 0, by decide +kernel, by decide +kernel, by decide +kernel⟩,
   ⟨wRef, wCom (wCmd 9 6 (List.replicate 24 0)) State.reset, (wCmd 9 6 (List.replicate 24 0)), by decide +kernel, by decide +kernel, by decide +kernel⟩,
   ⟨wRef, wCom (wCmd 9 6 ([64, 16, 0, 0, 0, 0, 0, 0, 0, 0, 0, 0, 0, 0, 0, 0, 0, 0, 0, 0, 0, 0, 0, 0])) State.reset, (wCmd 9 6 ([64, 16, 0, 0, 0, 0, 0, 0, 0, 0, 0, 0, 0, 0, 0, 0, 0, 0, 0, 0, 0, 0, 0, 0])), by decide +kernel, by decide +kernel⟩⟩

theorem test_witness_EngineFaultsAndOrders :
    (∃ (n : Fin 68) (bit : Fin 64) (s : State) (e : Nat), s.logicalOf n = some e ∧ s.inCycle n = true ∧ s.domOn (domEngine n) = true) ∧
    (∃ (n : Fin 68) (s : State) (e : Nat), s.logicalOf n = some e ∧ s.inCycle n = true ∧ ((s.wdtLim n * s.period n : Nat) : Int) ≤ 100 * tdiff s.time (s.leng e).bound) ∧
    (∃ (n : Fin 68) (s : State), s.getB (Reg.ENG_CTL n) 0 = true ∧ s.logicalOf n = none ∧ (((s.setB (Reg.ENG_CTL n) 0 false).setB (Reg.ENG_STAT n) 6 false).logicalOf n = none)) ∧
    (∃ (n : Fin 68) (s : State), s.getB (Reg.ENG_CTL n) 0 = false) ∧
    (∃ (s : State) (n : Nat) (m : Nat) (e : Nat) (c : Option CmdRef), s.logicalOf n = some e ∧ m < 68 ∧ s.engState m = 6 ∧ (s.leng e).mig = none) ∧
    (∃ (s : State) (n : Nat) (m : Nat) (e : Nat) (c : Option CmdRef), s.logicalOf n = some e ∧ s.engState m ≠ 6) ∧
    (∃ (s : State) (n : Nat) (e : Nat), s.logicalOf n = some e ∧ s.engState n = 5) ∧
    (∃ (s : State) (n : Nat) (e : Nat), s.logicalOf n = some e ∧ s.engState n ≠ 5) ∧
    (∃ (s : State) (n : Nat), s.engState n = 7 ∧ s.logicalOf n = none ∧ s.tst.clean.contains (unitKey 0 n) = true) ∧
    (∃ (c : CmdRef) (s : State) (x : Command) (n : Nat), s.turn c 9 2 = some x ∧ s.orderHolder (beAt x.payload 0 1) = some n ∧ beAt x.payload 1 1 < 68 ∧ ((s.pendingReply x).migrate n (beAt x.payload 1 1) (some c)).2 = true) :=
  ⟨⟨0, 0, (State.reset).setEngState 0 3, 0, by decide +kernel, by decide +kernel, by decide +kernel⟩,
   ⟨0, wAt 0x10000000000 ((State.reset).setEngState 0 3), 0, by decide +kernel, by decide +kernel, by decide +kernel⟩,
   ⟨64, (State.reset).setB (Reg.ENG_CTL 64) 0 true, by decide +kernel, by decide +kernel, by decide +kernel⟩,
   ⟨0, (State.reset).setB (Reg.ENG_CTL 0) 0 false, by decide +kernel⟩,
   ⟨wFn (fun s => s.setLeng 0 { s.leng 0 with mig := none }) ((State.reset).setEngState 0 6), 0, 0, 0, none, by decide +kernel, by decide +kernel, by decide +kernel, by decide +kernel⟩,
   ⟨State.reset, 0, 0, 0, none, by decide +kernel, by decide +kernel⟩,
   ⟨(State.reset).setEngState 0 5, 0, 0, by decide +kernel, by decide +kernel⟩,
   ⟨State.reset, 0, 0, by decide +kernel, by decide +kernel⟩,
   ⟨wFn (fun s => { s with tst := { s.tst with clean := [unitKey 0 64] } }) ((State.reset).setEngState 64 7), 64, by decide +kernel, by decide +kernel, by decide +kernel⟩,
   ⟨wRef, (wCom (wCmd 9 2 (0 :: 64 :: List.replicate 22 0)) State.reset).setEngState 64 6, (wCmd 9 2 (0 :: 64 :: List.replicate 22 0)), 0, by decide +kernel, by decide +kernel, by decide +kernel, by decide +kernel⟩⟩

theorem test_witness_EngineFaultsAndOrders_2 :
    (∃ (c : CmdRef) (s : State) (x : Command) (n : Nat), s.turn c 9 3 = some x ∧ s.orderHolder (beAt x.payload 0 1) = some n ∧ (s.haltClr n).2 = true) ∧
    (∃ (c : CmdRef) (s : State) (x : Command), s.turn c 9 4 = some x ∧ beAt x.payload 0 1 < 68 ∧ (s.reinstate (beAt x.payload 0 1)).2 = true) :=
  ⟨⟨wRef, (wCom (wCmd 9 3 (List.replicate 24 0)) State.reset).setEngState 0 5, (wCmd 9 3 (List.replicate 24 0)), 0, by decide +kernel, by decide +kernel, by decide +kernel⟩,
   ⟨wRef, wFn (fun s => { s with tst := { s.tst with clean := [unitKey 0 64] } }) ((wCom (wCmd 9 4 (64 :: List.replicate 23 0)) State.reset).setEngState 64 7), (wCmd 9 4 (64 :: List.replicate 23 0)), by decide +kernel, by decide +kernel, by decide +kernel⟩⟩

theorem test_witness_EngineMemoriesFromOutside :
    (∃ (n : Fin 68) (k : Fin 16384) (w : Word) (s : State) (e : Nat), s.logicalOf n = some e ∧ s.inCycle n = true) ∧
    (∃ (n : Fin 68) (k : Fin 16384) (w : Word) (s : State) (e : Nat), s.logicalOf n = some e ∧ s.inCycle n = false ∧ s.domOn (domEngine n) = true) ∧
    (∃ (n : Fin 68) (k : Fin 16384) (w : Word) (s : State) (e : Nat), s.logicalOf n = some e ∧ s.inCycle n = false ∧ s.domOn (domEngine n) = false) ∧
    (∃ (n : Fin 68) (s : State) (e : Nat), s.logicalOf n = some e ∧ (s.leng e).inFar = false) ∧
    (∃ (n : Fin 68) (s : State) (e : Nat) (k : Nat) (v : DWord) (l : List (Nat × DWord)), s.logicalOf n = some e ∧ (s.leng e).ret = (k, v) :: l ∧ k ∈ (s.leng e).efWait) ∧
    (∃ (n : Fin 68) (s : State) (e : Nat) (k : Nat) (v : DWord) (l : List (Nat × DWord)), s.logicalOf n = some e ∧ (s.leng e).ret = (k, v) :: l ∧ k ∉ (s.leng e).efWait) ∧
    (∃ (e : Fin 64) (s : State) (g : Migration) (n : Nat), (s.leng e).mig = some g ∧ s.physOf e = some n ∧ g.waits = false ∧ g.copied = false ∧ g.failed = false ∧ s.domOn (domEngine g.target) = true ∧ s.domOn (domEngine n) = true ∧ g.dirty.length ≤ 512) ∧
    (∃ (e : Fin 64) (s : State) (g : Migration) (n : Nat), (s.leng e).mig = some g ∧ s.physOf e = some n ∧ g.waits = false ∧ g.copied = false ∧ g.failed = false ∧ s.domOn (domEngine g.target) = true ∧ s.domOn (domEngine n) = true ∧ 512 < g.dirty.length) :=
  ⟨⟨0, 0, 0, (State.reset).setEngState 0 3, 0, by decide +kernel, by decide +kernel⟩,
   ⟨0, 0, 0, State.reset, 0, by decide +kernel, by decide +kernel, by decide +kernel⟩,
   ⟨0, 0, 0, (State.reset).setF (Reg.PWR_DOM_STAT (domEngine 0)) 2 0 1, 0, by decide +kernel, by decide +kernel, by decide +kernel⟩,
   ⟨0, wEng (fun c => { c with efWait := [0] }) (wFn (fun s => s.setLeng 0 { s.leng 0 with inFar := false }) (State.reset)), 0, by decide +kernel, by decide +kernel⟩,
   ⟨0, wEng (fun c => { c with efWait := [0] }) (wFn (fun s => s.setLeng 0 { s.leng 0 with ret := (0, 0) :: ([]) }) (State.reset)), 0, 0, 0, [], by decide +kernel, by decide +kernel, by decide +kernel⟩,
   ⟨0, wFn (fun s => s.setLeng 0 { s.leng 0 with ret := (0, 0) :: ([]) }) (State.reset), 0, 0, 0, [], by decide +kernel, by decide +kernel, by decide +kernel⟩,
   ⟨0, wFn (fun s => s.setLeng 0 { s.leng 0 with mig := some (({ target := 64, waits := false, copied := false, failed := false } : Migration)) }) (State.reset), ({ target := 64, waits := false, copied := false, failed := false } : Migration), 0, by decide +kernel, by decide +kernel, by decide +kernel, by decide +kernel, by decide +kernel, by decide +kernel, by decide +kernel, by decide +kernel⟩,
   ⟨0, wFn (fun s => s.setLeng 0 { s.leng 0 with mig := some (({ target := 64, waits := false, copied := false, failed := false, dirty := List.replicate 513 0 } : Migration)) }) (State.reset), ({ target := 64, waits := false, copied := false, failed := false, dirty := List.replicate 513 0 } : Migration), 0, by decide +kernel, by decide +kernel, by decide +kernel, by decide +kernel, by decide +kernel, by decide +kernel, by decide +kernel, by decide +kernel⟩⟩

theorem test_witness_AxisInputs :
    (∃ (x : AxisIo) (h : BitVec 16) (old : Bool), x.fieldOf 0 5 2 < 16 ∧ ((∀ i, i ≤ x.fieldOf 0 5 2 → h.getLsbD i = true))) ∧
    (∃ (x : AxisIo) (h : BitVec 16) (old : Bool), x.fieldOf 0 5 2 < 16 ∧ ((∀ i, i ≤ x.fieldOf 0 5 2 → h.getLsbD i = false))) ∧
    (∃ (x : AxisIo) (h : BitVec 16) (old : Bool), x.fieldOf 0 5 2 < 16 ∧ ((∃ i, i ≤ x.fieldOf 0 5 2 ∧ h.getLsbD i = true)) ∧ ((∃ i, i ≤ x.fieldOf 0 5 2 ∧ h.getLsbD i = false))) ∧
    (∃ (e : Fin 64) (ha : BitVec 16) (hb : BitVec 16) (s : State) (x : AxisIo) (a : Bool) (b : Bool) (dir : Bool), x = (s.leng e).axis ∧ x.encMode = 1 ∧ a = x.accepted ha x.a ∧ b = x.accepted hb x.b ∧ dir = (x.reg 0).getLsbD 7 ∧ a = x.a ∧ b = x.b) ∧
    (∃ (e : Fin 64) (ha : BitVec 16) (hb : BitVec 16) (s : State) (x : AxisIo) (a : Bool) (b : Bool) (dir : Bool), x = (s.leng e).axis ∧ x.encMode = 1 ∧ a = x.accepted ha x.a ∧ b = x.accepted hb x.b ∧ dir = (x.reg 0).getLsbD 7 ∧ a ≠ x.a ∧ b = x.b) ∧
    (∃ (e : Fin 64) (ha : BitVec 16) (hb : BitVec 16) (s : State) (x : AxisIo) (a : Bool) (b : Bool) (dir : Bool), x = (s.leng e).axis ∧ x.encMode = 1 ∧ a = x.accepted ha x.a ∧ b = x.accepted hb x.b ∧ dir = (x.reg 0).getLsbD 7 ∧ a = x.a ∧ b ≠ x.b) ∧
    (∃ (e : Fin 64) (ha : BitVec 16) (hb : BitVec 16) (s : State) (x : AxisIo) (a : Bool) (b : Bool) (dir : Bool), x = (s.leng e).axis ∧ x.encMode = 1 ∧ a = x.accepted ha x.a ∧ b = x.accepted hb x.b ∧ dir = (x.reg 0).getLsbD 7 ∧ a ≠ x.a ∧ b ≠ x.b) ∧
    (∃ (e : Fin 64) (ha : BitVec 16) (hb : BitVec 16) (s : State), (s.leng e).axis.encMode ≠ 1) ∧
    (∃ (e : Fin 64) (high : Bool) (s : State) (x : AxisIo), x = (s.leng e).axis ∧ (((x.reg 0).getLsbD 6 = false ∨ high = true)) ∧ (x.reg 8).getLsbD 0 = false) ∧
    (∃ (e : Fin 64) (high : Bool) (s : State) (x : AxisIo), x = (s.leng e).axis ∧ (((x.reg 0).getLsbD 6 = false ∨ high = true)) ∧ (x.reg 8).getLsbD 0 = true) :=
  ⟨⟨{}, 1, false, by decide +kernel, (by decide +kernel)⟩,
   ⟨{}, 0, false, by decide +kernel, (by decide +kernel)⟩,
   ⟨{ regs := [(0, 4)] }, 1, false, by decide +kernel, ⟨0, by decide +kernel⟩, ⟨1, by decide +kernel⟩⟩,
   ⟨0, 0, 0, wEng (fun c => { c with axis := { c.axis with regs := [(0, 1)] } }) State.reset, _, _, _, _, rfl, by decide +kernel, rfl, rfl, rfl, rfl, rfl⟩,
   ⟨0, 1, 0, wEng (fun c => { c with axis := { c.axis with regs := [(0, 1)] } }) State.reset, _, _, _, _, rfl, by decide +kernel, rfl, rfl, rfl, by decide +kernel, rfl⟩,
   ⟨0, 0, 1, wEng (fun c => { c with axis := { c.axis with regs := [(0, 1)] } }) State.reset, _, _, _, _, rfl, by decide +kernel, rfl, rfl, rfl, rfl, by decide +kernel⟩,
   ⟨0, 1, 1, wEng (fun c => { c with axis := { c.axis with regs := [(0, 1)] } }) State.reset, _, _, _, _, rfl, by decide +kernel, rfl, rfl, rfl, by decide +kernel, by decide +kernel⟩,
   ⟨0, 0, 0, State.reset, by decide +kernel⟩,
   ⟨0, false, wEng (fun c => { c with axis := { c.axis with regs := [(0, 1)] } }) State.reset, _, rfl, by decide +kernel, by decide +kernel⟩,
   ⟨0, false, wEng (fun c => { c with axis := { c.axis with regs := [(8, 1)] } }) State.reset, _, rfl, by decide +kernel, by decide +kernel⟩⟩

theorem test_witness_AxisInputs_2 :
    (∃ (e : Fin 64) (s : State), ((s.leng e).axis.reg 0).getLsbD 6 = true) ∧
    (∃ (e : Fin 64) (bits : Nat) (v : Nat) (s : State) (x : AxisIo) (t0 : DWord) (t1 : DWord), x = (s.leng e).axis ∧ x.ssiRun = some t0 ∧ s.ssiEnd x = some t1 ∧ s.reached t1 = true ∧ v = (if (x.reg 0).getLsbD 14 then grayDecode x.ssiBits (bits % 2 ^ x.ssiBits) else bits % 2 ^ x.ssiBits) ∧ x.ssiLast = none) ∧
    (∃ (e : Fin 64) (bits : Nat) (v : Nat) (s : State) (x : AxisIo) (t0 : DWord) (t1 : DWord) (u : _), x = (s.leng e).axis ∧ x.ssiRun = some t0 ∧ s.ssiEnd x = some t1 ∧ s.reached t1 = true ∧ v = (if (x.reg 0).getLsbD 14 then grayDecode x.ssiBits (bits % 2 ^ x.ssiBits) else bits % 2 ^ x.ssiBits) ∧ x.ssiLast = some u) ∧
    (∃ (e : Fin 64) (bits : Nat) (low : Bool) (s : State), (((s.leng e).axis.ssiRun = none ∨ s.ssiEnd (s.leng e).axis = none ∨ ∃ t, s.ssiEnd (s.leng e).axis = some t ∧ s.reached t = false))) ∧
    (∃ (e : Fin 64) (k : Fin 4) (bits : List Bool) (s : State) (x : AxisIo) (y : AxisIo) (n : Nat), x = (s.leng e).axis ∧ (x.reg 0x10).getLsbD k.val = true ∧ s.dsClock x = true ∧ s.dsPaced x k = true ∧ n = tabGet (fun _ => 0) x.dsCount k ∧ y = (({ x with dsNew := tabInsert x.dsNew k (BitVec.ofNat 64 (fOfRat fS (2 * (sinc3 x.osr bits : Nat) - (x.osr ^ 3 : Nat)) (x.osr ^ 3)), s.time), dsCount := tabPut (fun _ => 0) x.dsCount k (min (n + 1) 4) } : AxisIo).setBit 0x1A 4 false) ∧ n < 3) ∧
    (∃ (e : Fin 64) (k : Fin 4) (bits : List Bool) (s : State) (x : AxisIo) (y : AxisIo) (n : Nat), x = (s.leng e).axis ∧ (x.reg 0x10).getLsbD k.val = true ∧ s.dsClock x = true ∧ s.dsPaced x k = true ∧ n = tabGet (fun _ => 0) x.dsCount k ∧ y = (({ x with dsNew := tabInsert x.dsNew k (BitVec.ofNat 64 (fOfRat fS (2 * (sinc3 x.osr bits : Nat) - (x.osr ^ 3 : Nat)) (x.osr ^ 3)), s.time), dsCount := tabPut (fun _ => 0) x.dsCount k (min (n + 1) 4) } : AxisIo).setBit 0x1A 4 false) ∧ 3 ≤ n) ∧
    (∃ (e : Fin 64) (k : Fin 4) (bits : List Bool) (s : State), ((((s.leng e).axis.reg 0x10).getLsbD k.val = false ∨ s.dsClock (s.leng e).axis = false ∨ s.dsPaced (s.leng e).axis k = false))) ∧
    (∃ (e : Fin 64) (s : State), ((((s.leng e).axis.reg 0x10).getLsbD 13 = true ∨ s.dsClock (s.leng e).axis = false))) ∧
    (∃ (e : Fin 64) (s : State), ((s.leng e).axis.reg 0x10).getLsbD 13 = false ∧ s.dsClock (s.leng e).axis = true) :=
  ⟨⟨0, wEng (fun c => { c with axis := { c.axis with regs := [(0, 64)] } }) State.reset, by decide +kernel⟩,
   ⟨0, 0, _, wAt 0x100000000000 (wEng (fun c => { c with axis := { c.axis with ssiRun := some 0 } }) (((State.reset).setR (Reg.CLK_ADPLL_OUT_CTL 0 0) 0x8000000A).setB (Reg.CLK_ADPLL_STAT 0) 0 true)), _, 0, _, rfl, by decide +kernel, rfl, by decide +kernel, rfl, by decide +kernel⟩,
   ⟨0, 0, _, wAt 0x100000000000 (wEng (fun c => { c with axis := { c.axis with ssiRun := some 0, ssiLast := some 0 } }) (((State.reset).setR (Reg.CLK_ADPLL_OUT_CTL 0 0) 0x8000000A).setB (Reg.CLK_ADPLL_STAT 0) 0 true)), _, 0, _, 0, rfl, by decide +kernel, rfl, by decide +kernel, rfl, by decide +kernel⟩,
   ⟨0, 0, false, State.reset, by decide +kernel⟩,
   ⟨0, 0, [], wEng (fun c => { c with axis := { c.axis with regs := [(0x10, 0x2001)] } }) State.reset, _, _, _, rfl, by decide +kernel, by decide +kernel, by decide +kernel, rfl, rfl, by decide +kernel⟩,
   ⟨0, 0, [], wEng (fun c => { c with axis := { c.axis with regs := [(0x10, 0x2001)], dsCount := [(0, 3)] } }) State.reset, _, _, _, rfl, by decide +kernel, by decide +kernel, by decide +kernel, rfl, rfl, by decide +kernel⟩,
   ⟨0, 0, [], State.reset, by decide +kernel⟩,
   ⟨0, State.reset, by decide +kernel⟩,
   ⟨0, ((State.reset).setR (Reg.CLK_ADPLL_OUT_CTL 0 0) 0x8000000A).setB (Reg.CLK_ADPLL_STAT 0) 0 true, by decide +kernel, by decide +kernel⟩⟩

theorem test_witness_AxisOutputs :
    (∃ (e : Fin 64) (s : State) (x : AxisIo) (t : DWord), x = (s.leng e).axis ∧ x.nextApply = some t ∧ s.reached t = true) ∧
    (∃ (e : Fin 64) (s : State), (((s.leng e).axis.nextApply = none ∨ ∃ t, (s.leng e).axis.nextApply = some t ∧ s.reached t = false))) ∧
    (∃ (e : Fin 64) (k : Fin 6) (s : State) (u : State) (t : DWord) (v : Nat), s.nextEdge e k = some (t, v) ∧ u = (pinsOf s.cfg.active e k).foldl (fun s p => s.setCell p { s.cell p with queue := launchInsert (s.cell p).queue ⟨if v = 2 then 3 else v, t, 0, none⟩ }) s) ∧
    (∃ (e : Fin 64) (k : Fin 6) (s : State), s.nextEdge e k = none) ∧
    (∃ (c : Fin 4) (s : State) (d : Delivered), s.due? 4 c 0 = some d) ∧
    (∃ (c : Fin 4) (s : State) (d : Delivered), s.due? 4 c 1 = some d) ∧
    (∃ (c : Nat) (s : State) (u : State) (d : Delivered) (codes : List Nat) (b : DWord), u = s.taken d ∧ u.adcUntil c = some b ∧ before d.instant b = true) ∧
    (∃ (c : Nat) (s : State) (u : State) (d : Delivered) (codes : List Nat), u = (s.taken d).touch domAdc ∧ ((∀ b, (s.taken d).adcUntil c = some b → before d.instant b = false))) ∧
    (∃ (c : Fin 4) (s : State), s.due? 4 c 0 = none) ∧
    (∃ (c : Fin 4) (s : State), s.due? 4 c 1 = none) :=
  ⟨⟨0, wAt 0x100000000 (wEng (fun c => { c with axis := { c.axis with applyAt := some 0 } }) State.reset), _, _, rfl, rfl, by decide +kernel⟩,
   ⟨0, State.reset, by decide +kernel⟩,
   ⟨0, 0, wEng (fun c => { c with axis := { c.axis with fault := true, started := true } }) State.reset, _, _, _, rfl, rfl⟩,
   ⟨0, 0, State.reset, by decide +kernel⟩,
   ⟨0, wDue (wAct 4 0 0 0) State.reset, (wAct 4 0 0 0), by decide +kernel⟩,
   ⟨0, wDue (wAct 4 0 1 0) State.reset, (wAct 4 0 1 0), by decide +kernel⟩,
   ⟨0, wFn (fun s => { s with eng := { s.eng with adcBusy := [(0, 0x100000)] } }) (State.reset), _, (wAct 4 0 0 0), [], 0x100000, rfl, by decide +kernel, by decide +kernel⟩,
   ⟨0, State.reset, _, (wAct 4 0 0 0), [], rfl, (by intro x h; cases h)⟩,
   ⟨0, State.reset, by decide +kernel⟩,
   ⟨0, State.reset, by decide +kernel⟩⟩

theorem test_witness_AxisOutputs_2 :
    (∃ (c : Fin 4) (v : BitVec 16) (s : State) (u : State) (code : Nat) (late : Bool) (t : DWord), s.eng.adcRun.find? (fun r => r.1 == c.val) = some (c.val, code, late, t) ∧ s.reached t = true ∧ u = ({ s with eng := { s.eng with adcRun := s.eng.adcRun.erase (c.val, code, late, t) } } : State).setR (Reg.ANA_ADC_RES code) (BitVec.ofNat 32 (late.toNat <<< 30 + code <<< 16 + v.toNat)) ∧ bitOf (u.getR (Reg.ANA_ADC_ROUTE code)) 31 = false) ∧
    (∃ (c : Fin 4) (v : BitVec 16) (s : State) (u : State) (code : Nat) (late : Bool) (t : DWord) (e : _) (m : _), s.eng.adcRun.find? (fun r => r.1 == c.val) = some (c.val, code, late, t) ∧ s.reached t = true ∧ u = ({ s with eng := { s.eng with adcRun := s.eng.adcRun.erase (c.val, code, late, t) } } : State).setR (Reg.ANA_ADC_RES code) (BitVec.ofNat 32 (late.toNat <<< 30 + code <<< 16 + v.toNat)) ∧ bitOf (u.getR (Reg.ANA_ADC_ROUTE code)) 31 = true ∧ e = fld (u.getR (Reg.ANA_ADC_ROUTE code)) 13 8 ∧ m = fld (u.getR (Reg.ANA_ADC_ROUTE code)) 2 0) ∧
    (∃ (c : Fin 4) (v : BitVec 16) (s : State), ((s.eng.adcRun.find? (fun r => r.1 == c.val) = none ∨ ∃ r, s.eng.adcRun.find? (fun r => r.1 == c.val) = some r ∧ s.reached r.2.2.2 = false))) :=
  ⟨⟨0, 0, wFn (fun s => { s with eng := { s.eng with adcRun := [(0, 0, false, 0)] } }) (State.reset), _, 0, false, 0, by decide +kernel, by decide +kernel, rfl, by decide +kernel⟩,
   ⟨0, 0, (wFn (fun s => { s with eng := { s.eng with adcRun := [(0, 0, false, 0)] } }) (State.reset)).setB (Reg.ANA_ADC_ROUTE 0) 31 true, _, 0, false, 0, _, _, by decide +kernel, by decide +kernel, rfl, by decide +kernel, rfl, rfl⟩,
   ⟨0, 0, State.reset, by decide +kernel⟩⟩

theorem test_witness_FabricPorts :
    (∃ (i : Fin 48) (w : QWord) (s : State), s.ifaceLive i 8 = true) ∧
    (∃ (i : Fin 48) (w : QWord) (s : State), s.ifaceLive i 8 = false) ∧
    (∃ (s : State) (u : State) (i : Nat) (w : QWord) (c : Bool), s.fab.posts = [] ∧ u = { s with fab := { s.fab with posts := [(i, c, w)] } }) ∧
    (∃ (s : State) (u : State) (i : Nat) (w : QWord) (l : List (Nat × Bool × QWord)), s.fab.posts = (i, false, w) :: l ∧ u = { s with fab := { s.fab with posts := l, postRr := tabPut (fun _ => 2) s.fab.postRr (i / 3) (i % 3) } }) ∧
    (∃ (s : State) (u : State) (v : State) (i : Nat) (n : Nat) (w : QWord) (l : List (Nat × Bool × QWord)), s.fab.posts = (i, true, w) :: l ∧ u = { s with fab := { s.fab with posts := l, postRr := tabPut (fun _ => 2) s.fab.postRr (i / 3) (i % 3) } } ∧ (v, n) = (if w.toNat / 2 ^ 21 ≠ 0 then (u, 0) else u.cancel (nbits w.toNat 7 0) (nbits w.toNat 15 8) (nbits w.toNat 19 16) (64 + i / 3) (w.toNat.testBit 20) false)) ∧
    (∃ (i : Fin 48) (e : Fin 64) (m : Fin 16) (v : DWord) (s : State), s.ifaceLive i 9 = true) ∧
    (∃ (i : Fin 48) (e : Fin 64) (m : Fin 16) (v : DWord) (s : State), s.ifaceLive i 9 = false) ∧
    (∃ (s : State) (g : Nat) (t : DWord), s.fab.mailAt.find? (fun p => p.1 == g) = some (g, t) ∧ before s.time (t + 256) = true) ∧
    (∃ (s : State) (u : State) (i : Nat) (e : Nat) (m : Nat) (v : DWord) (l : List (Nat × Nat × Nat × DWord)) (r : _) (st : _), s.fab.mails = (i, e, m, v) :: l ∧ u = { s with fab := { s.fab with mails := l, mailRr := tabPut (fun _ => 2) s.fab.mailRr (i / 3) (i % 3), mailAt := tabInsert s.fab.mailAt (i / 3) s.time } } ∧ u.mailWrite e m v (.fabric i) = (r, some st)) ∧
    (∃ (s : State) (u : State) (i : Nat) (e : Nat) (m : Nat) (v : DWord) (l : List (Nat × Nat × Nat × DWord)) (r : _), s.fab.mails = (i, e, m, v) :: l ∧ u = { s with fab := { s.fab with mails := l, mailRr := tabPut (fun _ => 2) s.fab.mailRr (i / 3) (i % 3), mailAt := tabInsert s.fab.mailAt (i / 3) s.time } } ∧ u.mailWrite e m v (.fabric i) = (r, none)) :=
  ⟨⟨0, 0, wFn (fun s => { s with boot := { s.boot with clear := false } }) ((((State.reset).setB (Reg.SEC_STAT 0) 1 true).setB (Reg.SEC_RCLK_GATE 0) 0 true).setB (Reg.SEC_RCLK 0 0) 7 true), by decide +kernel⟩,
   ⟨0, 0, (State.reset : State).setFifo 64 (List.replicate 8 ⟨0, .config⟩), by decide +kernel⟩,
   ⟨wFn (fun s => { s with fab := { s.fab with posts := [] } }) (State.reset), _, 0, 0, false, by decide +kernel, rfl⟩,
   ⟨wFn (fun s => { s with fab := { s.fab with posts := (0, false, 0) :: ([]) } }) (State.reset), _, 0, 0, [], by decide +kernel, rfl⟩,
   ⟨wFn (fun s => { s with fab := { s.fab with posts := (0, true, 0x200000) :: ([]) } }) (State.reset), _, _, 0, _, 0x200000, [], by decide +kernel, rfl, rfl⟩,
   ⟨0, 0, 0, 0, wFn (fun s => { s with boot := { s.boot with clear := false } }) ((((State.reset).setB (Reg.SEC_STAT 0) 1 true).setB (Reg.SEC_RCLK_GATE 0) 0 true).setB (Reg.SEC_RCLK 0 0) 7 true), by decide +kernel⟩,
   ⟨0, 0, 0, 0, State.reset, by decide +kernel⟩,
   ⟨wFn (fun s => { s with fab := { s.fab with mailAt := [(0, 0)] } }) (State.reset), 0, 0, by decide +kernel, by decide +kernel⟩,
   ⟨wFn (fun s => { s with fab := { s.fab with mails := (0, 0, 0, 0) :: ([]) } }) (State.reset), _, 0, 0, 0, 0, [], _, _, by decide +kernel, rfl, Prod.ext rfl (by decide +kernel)⟩,
   ⟨(wFn (fun s => { s with fab := { s.fab with mails := (0, 0, 0, 0) :: ([]) } }) (State.reset)).setF (Reg.PWR_DOM_STAT (domEngine 0)) 2 0 1, _, 0, 0, 0, 0, [], _, by decide +kernel, rfl, Prod.ext rfl (by decide +kernel)⟩⟩

theorem test_witness_FabricPorts_2 :
    (∃ (i : Fin 48) (op : Fin 6) (addr : Word) (len : Nat) (data : List Byte) (lock : BitVec 7) (s : State) (t : State) (r : Nat), s.ifaceLive i 11 = true ∧ s.submit op addr.toNat len data lock.toNat (.fabric i) = (t, r)) ∧
    (∃ (i : Fin 48) (op : Fin 6) (addr : Word) (len : Nat) (data : List Byte) (lock : BitVec 7) (s : State), s.ifaceLive i 11 = false) ∧
    (∃ (i : Fin 48) (u : Fin 64) (w : Word) (s : State), s.ifaceLive i 10 = true) ∧
    (∃ (i : Fin 48) (u : Fin 64) (w : Word) (s : State), s.ifaceLive i 10 = false) ∧
    (∃ (i : Fin 48) (seg : Fin 2048) (drv : Byte) (s : State) (u : State), segmentExists i seg = true ∧ s.sectorLive i = true ∧ u = (((s.addF (Reg.SEC_CONT_CNT i) 15 0 1).setR (Reg.SEC_CONT_INFO i) (BitVec.ofNat 32 (2 ^ 31 + drv.toNat <<< 12 + seg.val))).setD (Reg.SEC_CONT_TIME i) s.time).raise (64 + i) 1 ∧ (u.sector i).disc.contains seg.val = true) ∧
    (∃ (i : Fin 48) (seg : Fin 2048) (drv : Byte) (s : State) (u : State), segmentExists i seg = true ∧ s.sectorLive i = true ∧ u = (((s.addF (Reg.SEC_CONT_CNT i) 15 0 1).setR (Reg.SEC_CONT_INFO i) (BitVec.ofNat 32 (2 ^ 31 + drv.toNat <<< 12 + seg.val))).setD (Reg.SEC_CONT_TIME i) s.time).raise (64 + i) 1 ∧ (u.sector i).disc.contains seg.val = false) ∧
    (∃ (s : State) (v : State) (i : Nat) (seg : Nat), v = s.setSector i { s.sector i with disc := (s.sector i).disc ++ [seg] }) ∧
    (∃ (i : Fin 48) (seg : Fin 2048) (drv : Byte) (s : State), ((segmentExists i seg = false ∨ s.sectorLive i = false))) :=
  ⟨⟨0, 0, 0, 0, [], 0, wFn (fun s => { s with boot := { s.boot with clear := false } }) ((((State.reset).setB (Reg.SEC_STAT 0) 1 true).setB (Reg.SEC_RCLK_GATE 0) 0 true).setB (Reg.SEC_RCLK 0 0) 7 true), _, _, by decide +kernel, Prod.ext rfl rfl⟩,
   ⟨0, 0, 0, 4, [], 0, State.reset, by decide +kernel⟩,
   ⟨0, 0, 0, wFn (fun s => { s with boot := { s.boot with clear := false } }) ((((State.reset).setB (Reg.SEC_STAT 0) 1 true).setB (Reg.SEC_RCLK_GATE 0) 0 true).setB (Reg.SEC_RCLK 0 0) 7 true), by decide +kernel⟩,
   ⟨0, 0, 0, State.reset, by decide +kernel⟩,
   ⟨0, 0, 0, wFn (fun s => s.setSector 0 { s.sector 0 with disc := [0] }) (wFn (fun s => { s with boot := { s.boot with clear := false } }) (((((State.reset).setB (Reg.SEC_STAT 0) 1 true).setB (Reg.SEC_STAT 0) 1 true).setB (Reg.SEC_RCLK_GATE 0) 0 true).setB (Reg.SEC_RCLK 0 0) 7 true)), _, by decide +kernel, by decide +kernel, rfl, by decide +kernel⟩,
   ⟨0, 0, 0, wFn (fun s => { s with boot := { s.boot with clear := false } }) (((((State.reset).setB (Reg.SEC_STAT 0) 1 true).setB (Reg.SEC_STAT 0) 1 true).setB (Reg.SEC_RCLK_GATE 0) 0 true).setB (Reg.SEC_RCLK 0 0) 7 true), _, by decide +kernel, by decide +kernel, rfl, by decide +kernel⟩,
   ⟨State.reset, _, 0, 0, rfl⟩,
   ⟨0, 0, 0, wFn (fun s => s.setSector 0 { s.sector 0 with disc := [0] }) (State.reset), by decide +kernel⟩⟩

theorem test_witness_Readback :
    (∃ (ce : Fin 65) (bad : Bool) (s : State), ((s.getB Reg.CFG_SCRUB_CTL 31 = false ∨ s.scrubDue = false ∨ s.scrubNext 200 s.cfg.scrubAt = none))) ∧
    (∃ (ce : Fin 65) (bad : Bool) (s : State) (u : State) (v : State) (n : Nat) (a : Nat) (st : Bool), s.getB Reg.CFG_SCRUB_CTL 31 = true ∧ s.scrubDue = true ∧ s.scrubNext 200 s.cfg.scrubAt = some (n, st, a) ∧ u = { s with cfg := { s.cfg with scrubAt := n + 1, scrubStaged := st, scrubTime := s.time } } ∧ v = (if ce.val = 0 then u else (u.addF Reg.CFG_SCRUB_CE 31 0 ce).raise 162 2) ∧ ((bad = true ∨ v.stillDisc st a = true))) ∧
    (∃ (ce : Fin 65) (bad : Bool) (s : State) (u : State) (v : State) (n : Nat) (a : Nat) (st : Bool), s.getB Reg.CFG_SCRUB_CTL 31 = true ∧ s.scrubDue = true ∧ s.scrubNext 200 s.cfg.scrubAt = some (n, st, a) ∧ u = { s with cfg := { s.cfg with scrubAt := n + 1, scrubStaged := st, scrubTime := s.time } } ∧ v = (if ce.val = 0 then u else (u.addF Reg.CFG_SCRUB_CE 31 0 ce).raise 162 2) ∧ bad = false ∧ v.stillDisc st a = false) ∧
    (∃ (src : Bool) (s : State), s.cfg.rewrites = []) ∧
    (∃ (src : Bool) (s : State) (u : State) (st : Bool) (b : Bool) (a : Nat) (l : List (Bool × Nat × Bool)), s.cfg.rewrites = (st, a, b) :: l ∧ u = ({ s with cfg := { s.cfg with rewrites := l } } : State).setR Reg.CFG_SCRUB_LAST (BitVec.ofNat 32 a) ∧ ((src = false ∨ u.sourceFrame st a = none))) ∧
    (∃ (src : Bool) (s : State) (u : State) (st : Bool) (b : Bool) (a : Nat) (l : List (Bool × Nat × Bool)) (f : _) (v : _), s.cfg.rewrites = (st, a, b) :: l ∧ u = ({ s with cfg := { s.cfg with rewrites := l } } : State).setR Reg.CFG_SCRUB_LAST (BitVec.ofNat 32 a) ∧ src = true ∧ u.sourceFrame st a = some f ∧ v = { u with cfg := { u.cfg with active := if st then u.cfg.active else planePut u.cfg.active a f, staged := if st then planePut u.cfg.staged a f else u.cfg.staged } }) ∧
    (∃ (s : State) (u : State) (v : State) (st : Bool) (a : Nat), u = s.raise (64 + fSector a) 2 ∧ v = (if st then u else u.setSector (fSector a) { u.sector (fSector a) with disc := (u.sector (fSector a)).disc.filter (fun seg => selectAddr (fSector a) seg != a) })) :=
  ⟨⟨0, false, State.reset, by decide +kernel⟩,
   ⟨0, true, wAt 0x100000000000000 ((State.reset).setB Reg.CFG_SCRUB_CTL 31 true), _, _, 0, 0, false, by decide +kernel, by decide +kernel, by decide +kernel, rfl, rfl, Or.inl rfl⟩,
   ⟨0, _, wAt 0x100000000000000 ((State.reset).setB Reg.CFG_SCRUB_CTL 31 true), _, _, 0, 0, false, by decide +kernel, by decide +kernel, by decide +kernel, rfl, rfl, rfl, by decide +kernel⟩,
   ⟨false, wFn (fun s => { s with cfg := { s.cfg with rewrites := [] } }) (State.reset), by decide +kernel⟩,
   ⟨false, wFn (fun s => { s with cfg := { s.cfg with rewrites := [(false, 0x10000000, false)] } }) (wFn (fun s => { s with cfg := { s.cfg with rewrites := (false, 0x10000000, false) :: ([]) } }) (State.reset)), _, false, false, 0x10000000, [], by decide +kernel, rfl, by decide +kernel⟩,
   ⟨_, wFn (fun s => { s with cfg := { s.cfg with actFrom := [(0, 1)], slots := [(0, wHead1 ++ wFrame)] } }) (wFn (fun s => { s with cfg := { s.cfg with rewrites := (false, 0, false) :: ([]) } }) (State.reset)), _, false, false, 0, [], (List.replicate 512 0), _, by decide +kernel, rfl, rfl, by decide +kernel, rfl⟩,
   ⟨State.reset, _, _, false, 0, rfl, rfl⟩⟩

theorem test_witness_ProbesAndTrace :
    (∃ (s : State) (t : Nat) (i : Nat), tabWf (fun _ => ({} : Sector)) s.fab.sectors = true ∧ i < 48 ∧ s.sectorLive i = true) ∧
    (∃ (s : State) (t : Nat) (i : Nat), tabWf (fun _ => ({} : Sector)) s.fab.sectors = true ∧ i < 48 ∧ s.sectorLive i = false) ∧
    (∃ (s : State) (t : Nat) (i : Nat) (f : Nat), f < 24576) ∧
    (∃ (s : State) (t : Nat) (i : Nat) (b : Nat) (f : Nat), f < 32) ∧
    (∃ (s : State) (t : Nat) (i : Nat) (b : Nat) (m : Nat), m < 16) ∧
    (∃ (p : Bool) (o : Bool) (r : Bool) (e : Bool) (ce : Bool) (pre : Bool) (m : BitVec 2), m ≠ 0) ∧
    (∃ (s : State) (i : Nat) (k : Nat) (p : Nat) (x : Sector), s.bramIn i k p 0 1 = 0) ∧
    (∃ (c : Fin 64) (w : Word) (s : State), ((1152 ≤ fld w 10 0 ∨ (s.pin (fld w 10 0)).spare = false ∨ ∃ d, d < 64 ∧ d ≠ c.val ∧ s.getB (Reg.TST_PRB_PIN d) 31 = true ∧ s.getF (Reg.TST_PRB_PIN d) 10 0 = fld w 10 0))) ∧
    (∃ (c : Fin 64) (w : Word) (s : State), fld w 10 0 < 1152 ∧ ((∀ d, d < 64 → d ≠ c.val → s.getB (Reg.TST_PRB_PIN d) 31 = true → s.getF (Reg.TST_PRB_PIN d) 10 0 ≠ fld w 10 0))) ∧
    (∃ (s : State) (i : Nat) (b : Nat) (f : Nat), b < 512 ∧ f < 32) :=
  ⟨⟨wFn (fun s => { s with boot := { s.boot with clear := false } }) (((((State.reset).setB (Reg.SEC_STAT 0) 1 true).setB (Reg.SEC_STAT 0) 1 true).setB (Reg.SEC_RCLK_GATE 0) 0 true).setB (Reg.SEC_RCLK 0 0) 7 true), 0, 0, by decide +kernel, by decide +kernel, by decide +kernel⟩,
   ⟨State.reset, 0, 0, by decide +kernel, by decide +kernel, by decide +kernel⟩,
   ⟨State.reset, 0, 0, 0, by decide +kernel⟩,
   ⟨State.reset, 0, 0, 0, 0, by decide +kernel⟩,
   ⟨State.reset, 0, 0, 0, 0, by decide +kernel⟩,
   ⟨false, false, false, false, false, false, 1, by decide +kernel⟩,
   ⟨State.reset, 0, 0, 0, ({} : Sector), by decide +kernel⟩,
   ⟨0, 0, State.reset, by decide +kernel⟩,
   ⟨0, 0, State.reset, by decide +kernel, (by decide +kernel)⟩,
   ⟨State.reset, 0, 0, 0, by decide +kernel, by decide +kernel⟩⟩

theorem test_witness_ProbesAndTrace_2 :
    (∃ (s : State) (i : Nat) (b : Nat) (f : Nat), b < 512 ∧ f < 16) ∧
    (∃ (s : State) (i : Nat) (k : Nat) (b : Nat), k < 32 ∧ b < 72) ∧
    (∃ (s : State) (i : Nat) (k : Nat) (b : Nat), k < 32 ∧ b < 64) ∧
    (∃ (w : Word) (s : State), bitOf w 1 = true) ∧
    (∃ (w : Word) (s : State), bitOf w 2 = true) ∧
    (∃ (w : Word) (s : State), bitOf w 1 = false) ∧
    (∃ (w : Word) (s : State), bitOf w 2 = false) ∧
    (∃ (c : CmdRef) (s : State) (u : State) (t : State) (x : Command) (b : Nat), s.turn c 8 3 = some x ∧ beAt x.payload 8 1 < 8 ∧ (beAt x.payload 8 1).testBit b = true ∧ u = (s.store Reg.TRC_CTL (BitVec.ofNat 32 (beAt x.payload 0 4))).store Reg.TRC_POST (BitVec.ofNat 32 (beAt x.payload 4 4)) ∧ t = (u.setB Reg.PRB_STAT 1 false).writeTrcCmd (BitVec.ofNat 32 (beAt x.payload 8 1))) ∧
    (∃ (w : Word) (s : State), bitOf w 0 = true ∧ bitOf w 1 = false ∧ bitOf w 2 = false) ∧
    (∃ (w : Word) (s : State), bitOf w 0 = false ∧ bitOf w 1 = true ∧ bitOf w 2 = false) :=
  ⟨⟨State.reset, 0, 0, 0, by decide +kernel, by decide +kernel⟩,
   ⟨State.reset, 0, 0, 0, by decide +kernel, by decide +kernel⟩,
   ⟨State.reset, 0, 0, 0, by decide +kernel, by decide +kernel⟩,
   ⟨0x2, State.reset, by decide +kernel⟩,
   ⟨0x4, State.reset, by decide +kernel⟩,
   ⟨0x0, State.reset, by decide +kernel⟩,
   ⟨0x0, State.reset, by decide +kernel⟩,
   ⟨wRef, wCom (wCmd 8 3 (List.replicate 8 0 ++ [1] ++ List.replicate 8 0)) State.reset, _, _, (wCmd 8 3 (List.replicate 8 0 ++ [1] ++ List.replicate 8 0)), 0, by decide +kernel, by decide +kernel, by decide +kernel, rfl, rfl⟩,
   ⟨0x1, (State.reset).setF Reg.TRC_STAT 1 0 1, by decide +kernel, by decide +kernel, by decide +kernel⟩,
   ⟨0x2, (State.reset).setF Reg.TRC_STAT 1 0 1, by decide +kernel, by decide +kernel, by decide +kernel⟩⟩

theorem test_witness_ProbesAndTrace_3 :
    (∃ (w : Word) (s : State), bitOf w 0 = false ∧ bitOf w 1 = false ∧ bitOf w 2 = true) ∧
    (∃ (s : State), ((s.trcState = 1 ∨ s.trcState = 2 ∨ 4 ≤ s.getF Reg.TRC_CTL 16 14))) ∧
    (∃ (s : State) (u : State), s.trcState ≠ 1 ∧ s.trcState ≠ 2 ∧ s.getF Reg.TRC_CTL 16 14 < 4 ∧ u = s.setTrace { ctl := s.getR Reg.TRC_CTL, post := min 16384 (s.getF Reg.TRC_POST 14 0), mask := s.getD Reg.TRC_MASK, val := s.getD Reg.TRC_VAL, time := s.getD Reg.TRC_TIME }) ∧
    (∃ (s : State) (v : DWord) (t : DWord), s.trcState = 1 ∧ s.fab.trace.hit = false) ∧
    (∃ (s : State) (u : State) (v : DWord) (t : DWord), s.trcState = 2 ∧ s.fab.trace.left ≠ 0 ∧ ((bitOf s.fab.trace.ctl 17 = false ∨ s.fab.trace.lastV ≠ some v)) ∧ u = s.trcStore v t) ∧
    (∃ (s : State) (v : DWord) (t : DWord), ((s.trcState = 0 ∨ s.trcState = 3 ∨ (s.trcState = 1 ∧ s.fab.trace.hit = true) ∨ (s.trcState = 2 ∧ (s.fab.trace.left = 0 ∨ (bitOf s.fab.trace.ctl 17 = true ∧ s.fab.trace.lastV = some v)))))) ∧
    (∃ (s : State), s.trcState = 1 ∧ s.fab.trace.hit = true) ∧
    (∃ (s : State), ((s.trcState ≠ 1 ∨ s.fab.trace.hit = false))) ∧
    (∃ (s : State), s.trcState = 2 ∧ s.fab.trace.left = 0) ∧
    (∃ (s : State), ((s.trcState ≠ 2 ∨ s.fab.trace.left ≠ 0))) :=
  ⟨⟨0x4, (State.reset).setF Reg.TRC_STAT 1 0 1, by decide +kernel, by decide +kernel, by decide +kernel⟩,
   ⟨(State.reset).setF Reg.TRC_STAT 1 0 1, Or.inl (by decide +kernel)⟩,
   ⟨State.reset, _, by decide +kernel, by decide +kernel, by decide +kernel, rfl⟩,
   ⟨(State.reset).setF Reg.TRC_STAT 1 0 1, 0, 0, by decide +kernel, by decide +kernel⟩,
   ⟨wTrc (fun t => { t with left := 1 }) ((State.reset).setF Reg.TRC_STAT 1 0 2), _, 0, 0, by decide +kernel, by decide +kernel, Or.inl (by decide +kernel), rfl⟩,
   ⟨State.reset, 0, 0, by decide +kernel⟩,
   ⟨wTrc (fun t => { t with hit := true }) ((State.reset).setF Reg.TRC_STAT 1 0 1), by decide +kernel, by decide +kernel⟩,
   ⟨wTrc (fun t => { t with hit := true }) State.reset, by decide +kernel⟩,
   ⟨wTrc (fun t => { t with hit := true }) ((State.reset).setF Reg.TRC_STAT 1 0 2), by decide +kernel, by decide +kernel⟩,
   ⟨wTrc (fun t => { t with hit := true }) State.reset, by decide +kernel⟩⟩

theorem test_witness_ProbesAndTrace_4 :
    (∃ (c : CmdRef) (s : State) (x : Command), s.turn c 8 4 = some x ∧ beAt x.payload 0 2 < 16384 ∧ 1 ≤ beAt x.payload 2 1 ∧ beAt x.payload 2 1 ≤ 90) ∧
    (∃ (c : CmdRef) (s : State) (x : Command), s.turn c 8 4 = some x ∧ ((16384 ≤ beAt x.payload 0 2 ∨ beAt x.payload 2 1 = 0 ∨ 90 < beAt x.payload 2 1))) ∧
    (∃ (s : State) (i : Nat) (k : Nat), ((s.trcState = 1 ∨ s.trcState = 2))) :=
  ⟨⟨wRef, wCom (wCmd 8 4 ([0, 0, 1, 0, 0, 0, 0, 0, 0, 0, 0, 0, 0, 0, 0, 0, 0, 0, 0, 0, 0, 0, 0, 0])) State.reset, (wCmd 8 4 ([0, 0, 1, 0, 0, 0, 0, 0, 0, 0, 0, 0, 0, 0, 0, 0, 0, 0, 0, 0, 0, 0, 0, 0])), by decide +kernel, by decide +kernel, by decide +kernel, by decide +kernel⟩,
   ⟨wRef, wCom (wCmd 8 4 ([64, 0, 91, 0, 0, 0, 0, 0, 0, 0, 0, 0, 0, 0, 0, 0, 0, 0, 0, 0, 0, 0, 0, 0])) State.reset, (wCmd 8 4 ([64, 0, 91, 0, 0, 0, 0, 0, 0, 0, 0, 0, 0, 0, 0, 0, 0, 0, 0, 0, 0, 0, 0, 0])), by decide +kernel, by decide +kernel⟩,
   ⟨(State.reset).setF Reg.TRC_STAT 1 0 1, 0, 0, Or.inl (by decide +kernel)⟩⟩

theorem test_witness_MemoriesAndSpares :
    (∃ (i : Fin 48) (k : Fin 33) (p : Fin 2) (word : Fin 512) (bit : Fin 72) (s : State), s.domOn (domSector i) = true) ∧
    (∃ (i : Fin 48) (k : Fin 33) (p : Fin 2) (word : Fin 512) (bit : Fin 72) (ue : Bool) (s : State), ((s.domOn (domSector i) = false ∨ s.eccOn i k = false))) ∧
    (∃ (s : State) (i : Nat) (k : Nat) (word : Nat) (bit : Nat) (role : Nat), s.memRole 1 i k = some role) ∧
    (∃ (s : State) (i : Nat) (k : Nat) (word : Nat) (bit : Nat) (ue : Bool), s.memRole 1 i k = none) ∧
    (∃ (s : State) (t : State) (kind : Nat) (i : Nat) (k : Nat) (addr : Word) (cause : Nat) (bit : Nat) (l : Bool), s.countFault kind (memUnit i k) (squallCfg (s.getR (Reg.SEC_MEM_SQUALL i))) = (t, l)) ∧
    (∃ (i : Fin 48) (k : Fin 33) (bit : Fin 72) (s : State) (u : State), s.getB (Reg.SEC_MEM_SWEEP i) 31 = true ∧ s.domOn (domSector i) = true ∧ s.sweepDue i k = true ∧ u = s.setSector i { s.sector i with sweep := tabPut (fun _ => 0) (s.sector i).sweep k ((tabGet (fun _ => 0) (s.sector i).sweep k + 1) % 512), sweepAt := tabInsert (s.sector i).sweepAt k s.time }) ∧
    (∃ (i : Fin 48) (k : Fin 33) (e : Ecc) (bit : Fin 72) (s : State), ((s.getB (Reg.SEC_MEM_SWEEP i) 31 = false ∨ s.domOn (domSector i) = false ∨ s.eccOn i k = false ∨ s.sweepDue i k = false))) ∧
    (∃ (i : Fin 48) (k : Fin 33) (s : State) (role : Nat), s.domOn (domSector i) = true ∧ s.memRole 2 i k = some role) ∧
    (∃ (i : Fin 48) (k : Fin 33) (s : State), ((s.domOn (domSector i) = false ∨ s.memRole 2 i k = none))) ∧
    (∃ (i : Fin 48) (w : Word) (s : State), fld w 31 30 = 1 ∧ bitOf w 8 = false ∧ s.getB (Reg.SEC_SPARE_BRAM i) 31 = false ∧ s.getB (Reg.SEC_SPARE_BRAM i) 30 = false ∧ s.getB (Reg.SEC_SPARE_BRAM i) 29 = false ∧ ((∀ sl, s.memSlice 1 i = some sl → sl.heldBy = none))) :=
  ⟨⟨0, 0, 0, 0, 0, State.reset, by decide +kernel⟩,
   ⟨0, 0, 0, 0, 0, false, (State.reset).setF (Reg.PWR_DOM_STAT 0) 2 0 1, by decide +kernel⟩,
   ⟨State.reset, 0, 0, 0, 0, 0, by decide +kernel⟩,
   ⟨State.reset, 0, 32, 0, 0, false, by decide +kernel⟩,
   ⟨State.reset, _, 0, 0, 0, 0, 0, 0, false, Prod.ext rfl (by decide +kernel)⟩,
   ⟨0, 0, 0, (State.reset).setB (Reg.SEC_MEM_SWEEP 0) 31 true, _, by decide +kernel, by decide +kernel, by decide +kernel, rfl⟩,
   ⟨0, 0, .clean, 0, State.reset, by decide +kernel⟩,
   ⟨0, 0, State.reset, 0, by decide +kernel, by decide +kernel⟩,
   ⟨0, 0, (State.reset).setF (Reg.PWR_DOM_STAT (domSector 0)) 2 0 1, by decide +kernel⟩,
   ⟨0, 0x40000000, (((State.reset).setB (Reg.SEC_SPARE_BRAM 0) 31 false).setB (Reg.SEC_SPARE_BRAM 0) 30 false).setB (Reg.SEC_SPARE_BRAM 0) 29 false, by decide +kernel, by decide +kernel, by decide +kernel, by decide +kernel, by decide +kernel, (by intro x h; cases h)⟩⟩

theorem test_witness_MemoriesAndSpares_2 :
    (∃ (i : Fin 48) (w : Word) (s : State), fld w 31 30 = 1 ∧ bitOf w 8 = true ∧ s.getB (Reg.SEC_SPARE_MUL i) 31 = false ∧ s.getB (Reg.SEC_SPARE_MUL i) 30 = false ∧ s.getB (Reg.SEC_SPARE_MUL i) 29 = false ∧ ((∀ sl, s.memSlice 2 i = some sl → sl.heldBy = none))) ∧
    (∃ (i : Fin 48) (w : Word) (s : State) (k : Nat), k = (if bitOf w 8 then 2 else 1) ∧ fld w 31 30 = 1 ∧ ((s.getB (spareReg k i) 31 = true ∨ s.getB (spareReg k i) 30 = true ∨ s.getB (spareReg k i) 29 = true ∨ ∃ sl, s.memSlice k i = some sl ∧ sl.heldBy.isSome = true))) ∧
    (∃ (i : Fin 48) (w : Word) (s : State), fld w 31 30 = 2 ∧ bitOf w 8 = false ∧ s.getB (Reg.SEC_SPARE_BRAM i) 31 = true ∧ s.getB (Reg.SEC_SPARE_BRAM i) 30 = false ∧ ((∀ sl, s.memSlice 1 i = some sl → sl.heldBy = none)) ∧ s.getF (Reg.SEC_SPARE_BRAM i) 4 0 = fld w 4 0 ∧ s.getB (Reg.SEC_BRAM_RETIRED i) (fld w 4 0) = false) ∧
    (∃ (i : Fin 48) (w : Word) (s : State), fld w 31 30 = 2 ∧ bitOf w 8 = true ∧ s.getB (Reg.SEC_SPARE_MUL i) 31 = true ∧ s.getB (Reg.SEC_SPARE_MUL i) 30 = false ∧ ((∀ sl, s.memSlice 2 i = some sl → sl.heldBy = none)) ∧ s.getF (Reg.SEC_SPARE_MUL i) 4 0 = fld w 4 0 ∧ s.getB (Reg.SEC_MUL_RETIRED i) (fld w 4 0) = false) ∧
    (∃ (i : Fin 48) (w : Word) (s : State) (k : Nat), k = (if bitOf w 8 then 2 else 1) ∧ fld w 31 30 = 2 ∧ ((s.getB (spareReg k i) 31 = false ∨ s.getB (spareReg k i) 30 = true ∨ s.getF (spareReg k i) 4 0 ≠ fld w 4 0 ∨ s.getB (if k = 1 then Reg.SEC_BRAM_RETIRED i else Reg.SEC_MUL_RETIRED i) (fld w 4 0) = true ∨ ∃ sl, s.memSlice k i = some sl ∧ sl.heldBy.isSome = true))) ∧
    (∃ (i : Fin 48) (w : Word) (s : State), fld w 31 30 ≠ 1) ∧
    (∃ (i : Fin 48) (w : Word) (s : State), fld w 31 30 ≠ 2) ∧
    (∃ (i : Fin 48) (s : State) (m : BramMove), (s.sector i).move = some m) ∧
    (∃ (i : Fin 48) (e : List (Fin 512 × Fin 72 × Bool)) (s : State) (t : State) (m : BramMove) (m' : BramMove), (s.sector i).move = some m ∧ t = (if s.eccOn i m.from_ then e.foldl (fun s e => s.bramError i m.from_ e.1 e.2.1 e.2.2) s else s) ∧ (t.sector i).move = some m') ∧
    (∃ (i : Fin 48) (e : List (Fin 512 × Fin 72 × Bool)) (s : State), (s.sector i).move = none) :=
  ⟨⟨0, 0x40000100, (((State.reset).setB (Reg.SEC_SPARE_MUL 0) 31 false).setB (Reg.SEC_SPARE_MUL 0) 30 false).setB (Reg.SEC_SPARE_MUL 0) 29 false, by decide +kernel, by decide +kernel, by decide +kernel, by decide +kernel, by decide +kernel, (by intro x h; cases h)⟩,
   ⟨0, 0x40000000, (State.reset).setB (Reg.SEC_SPARE_BRAM 0) 31 true, _, rfl, by decide +kernel, by decide +kernel⟩,
   ⟨0, 0x80000000, ((State.reset).setB (Reg.SEC_SPARE_BRAM 0) 31 true).setB (Reg.SEC_SPARE_BRAM 0) 30 false, by decide +kernel, by decide +kernel, by decide +kernel, by decide +kernel, (by intro x h; cases h), by decide +kernel, by decide +kernel⟩,
   ⟨0, 0x80000100, ((State.reset).setB (Reg.SEC_SPARE_MUL 0) 31 true).setB (Reg.SEC_SPARE_MUL 0) 30 false, by decide +kernel, by decide +kernel, by decide +kernel, by decide +kernel, (by intro x h; cases h), by decide +kernel, by decide +kernel⟩,
   ⟨0, 0x80000000, State.reset, _, rfl, by decide +kernel, by decide +kernel⟩,
   ⟨0, 0, State.reset, by decide +kernel⟩,
   ⟨0, 0, State.reset, by decide +kernel⟩,
   ⟨0, wFn (fun s => s.setSector 0 { s.sector 0 with move := some (({ role := 0, toSpare := true } : BramMove)) }) (State.reset), ({ role := 0, toSpare := true } : BramMove), by decide +kernel⟩,
   ⟨0, [], wFn (fun s => s.setSector 0 { s.sector 0 with move := some (({ role := 0, toSpare := true } : BramMove)) }) (State.reset), _, ({ role := 0, toSpare := true } : BramMove), ({ role := 0, toSpare := true } : BramMove), by decide +kernel, rfl, by decide +kernel⟩,
   ⟨0, [], wFn (fun s => s.setSector 0 { s.sector 0 with move := none }) (State.reset), by decide +kernel⟩⟩

theorem test_witness_MemoriesAndSpares_3 :
    (∃ (s : State) (i : Nat) (m : BramMove), m.toSpare = true ∧ m.fault = false ∧ m.drizzle = false) ∧
    (∃ (s : State) (i : Nat) (m : BramMove), m.toSpare = true ∧ m.fault = true ∧ m.drizzle = false) ∧
    (∃ (s : State) (u : State) (i : Nat) (m : BramMove), m.toSpare = false ∧ m.drizzle = false ∧ u = (((s.setSector i { s.sector i with move := none }).setB (Reg.SEC_SPARE_BRAM i) 30 false).setB (Reg.SEC_SPARE_BRAM i) 31 false).setF (Reg.SEC_SPARE_BRAM i) 4 0 0 ∧ (u.sector i).nextMove = none) ∧
    (∃ (i : Fin 48) (k : Fin 32) (s : State), s.getB (Reg.SEC_MEM_INIT_BUSY i) k = true) ∧
    (∃ (i : Fin 48) (k : Fin 32) (s : State), s.getB (Reg.SEC_MEM_INIT_BUSY i) k = false) :=
  ⟨⟨State.reset, 0, ({ role := 0, toSpare := true, fault := false, drizzle := false } : BramMove), by decide +kernel, by decide +kernel, by decide +kernel⟩,
   ⟨State.reset, 0, ({ role := 0, toSpare := true, fault := true, drizzle := false } : BramMove), by decide +kernel, by decide +kernel, by decide +kernel⟩,
   ⟨State.reset, _, 0, ({ role := 0, toSpare := false, drizzle := false } : BramMove), by decide +kernel, by decide +kernel, rfl, by decide +kernel⟩,
   ⟨0, 0, (State.reset).setB (Reg.SEC_MEM_INIT_BUSY 0) 0 true, by decide +kernel⟩,
   ⟨0, 0, (State.reset).setB (Reg.SEC_MEM_INIT_BUSY 0) 0 false, by decide +kernel⟩⟩

theorem test_witness_StagingsAndSlots :
    (∃ (w : Word) (s : State), bitOf w 0 = true) ∧
    (∃ (w : Word) (s : State), bitOf w 0 = false) ∧
    (∃ (w : Word) (s : State), bitOf w 1 = true) ∧
    (∃ (w : Word) (s : State), bitOf w 1 = false) ∧
    (∃ (w : Word) (s : State) (u : State), u = s.store Reg.CFG_STG_CTL w ∧ bitOf w 1 = false ∧ bitOf w 0 = true) ∧
    (∃ (w : Word) (s : State) (u : State), u = s.store Reg.CFG_STG_CTL w ∧ bitOf w 1 = true ∧ bitOf w 0 = false) ∧
    (∃ (w : Word) (s : State) (u : State), u = s.store Reg.CFG_STG_CTL w ∧ bitOf w 1 = true ∧ bitOf w 0 = true) ∧
    (∃ (s : State), ((s.cfg.staging.isSome = true ∨ s.frontBusy = true))) ∧
    (∃ (s : State), s.cfg.staging = none ∧ s.frontBusy = false ∧ ((2 ≤ s.getF Reg.CFG_STG_CTL 31 30 ∨ s.getF Reg.CFG_STG_CTL 29 28 = 1))) ∧
    (∃ (s : State), s.cfg.staging = none ∧ s.frontBusy = false ∧ s.getF Reg.CFG_STG_CTL 31 30 = 0 ∧ s.getF Reg.CFG_STG_CTL 29 28 ≠ 1) :=
  ⟨⟨0x1, State.reset, by decide +kernel⟩,
   ⟨0x0, State.reset, by decide +kernel⟩,
   ⟨0x2, State.reset, by decide +kernel⟩,
   ⟨0x0, State.reset, by decide +kernel⟩,
   ⟨0x1, State.reset, _, rfl, by decide +kernel, by decide +kernel⟩,
   ⟨0x2, State.reset, _, rfl, by decide +kernel, by decide +kernel⟩,
   ⟨0x3, State.reset, _, rfl, by decide +kernel, by decide +kernel⟩,
   ⟨wFn (fun s => { s with cfg := { s.cfg with staging := some ({ src := .host, dest := none } : Staging) } }) (State.reset), Or.inl rfl⟩,
   ⟨(wFn (fun s => { s with cfg := { s.cfg with staging := none } }) (State.reset)).setF Reg.CFG_STG_CTL 31 30 2, by decide +kernel, by decide +kernel, by decide +kernel⟩,
   ⟨((wFn (fun s => { s with cfg := { s.cfg with staging := none } }) (State.reset)).setF Reg.CFG_STG_CTL 31 30 0).setF Reg.CFG_STG_CTL 29 28 0, by decide +kernel, by decide +kernel, by decide +kernel, by decide +kernel⟩⟩

theorem test_witness_StagingsAndSlots_2 :
    (∃ (s : State) (a : Nat), s.cfg.staging = none ∧ s.frontBusy = false ∧ s.getF Reg.CFG_STG_CTL 31 30 = 1 ∧ s.getF Reg.CFG_STG_CTL 29 28 ≠ 1 ∧ a = (s.getD Reg.CFG_STG_KEY).toNat) ∧
    (∃ (s : State) (k : Nat) (g : Staging), s.cfg.staging = none ∧ s.frontBusy = false ∧ 2 ≤ k ∧ s.slotState k = 2 ∧ ((∀ e ∈ s.cfg.erasing, e.1 ≠ k)) ∧ g.storeOnly = false) ∧
    (∃ (s : State) (k : Nat) (g : Staging), s.cfg.staging = none ∧ s.frontBusy = false ∧ k < 2) ∧
    (∃ (s : State) (k : Nat) (g : Staging), s.cfg.staging = none ∧ s.frontBusy = false ∧ 2 ≤ k ∧ ((s.slotState k ≠ 2 ∨ ∃ e ∈ s.cfg.erasing, e.1 = k))) ∧
    (∃ (c : CmdRef) (s : State) (t : State) (x : Command) (st : Nat), s.turn c 3 4 = some x ∧ ((beAt x.payload 1 1 ≠ 0 ∨ 3 < beAt x.payload 0 1))) ∧
    (∃ (c : CmdRef) (s : State) (t : State) (x : Command) (st : Nat), s.turn c 3 4 = some x ∧ beAt x.payload 1 1 = 0 ∧ beAt x.payload 0 1 ≤ 3 ∧ s.stgRequest (.slot (beAt x.payload 0 1)) 0 { src := .slot 0, dest := none, cmd := some c } = (t, st)) ∧
    (∃ (c : CmdRef) (s : State) (t : State) (x : Command) (st : Nat), s.turn c 3 0 = some x ∧ beAt x.payload 0 1 ≠ 1 ∧ beAt x.payload 0 1 ≤ 5 ∧ beAt x.payload 1 1 ≤ 1 ∧ s.stgRequest .host (beAt x.payload 0 1) { src := .host, dest := none, storeOnly := beAt x.payload 1 1 == 1 } = (t, st) ∧ st = 0) ∧
    (∃ (c : CmdRef) (s : State) (t : State) (x : Command) (st : Nat), s.turn c 3 0 = some x ∧ beAt x.payload 0 1 ≠ 1 ∧ beAt x.payload 0 1 ≤ 5 ∧ beAt x.payload 1 1 ≤ 1 ∧ s.stgRequest .host (beAt x.payload 0 1) { src := .host, dest := none, storeOnly := beAt x.payload 1 1 == 1 } = (t, st) ∧ st ≠ 0) ∧
    (∃ (c : CmdRef) (s : State) (x : Command), s.turn c 3 0 = some x ∧ ((beAt x.payload 0 1 = 1 ∨ 5 < beAt x.payload 0 1 ∨ 1 < beAt x.payload 1 1))) ∧
    (∃ (c : CmdRef) (s : State) (u : State) (x : Command) (g : Staging) (h : HostStream), s.turn c 3 1 = some x ∧ s.cfg.staging = some g ∧ s.cfg.host = some h ∧ g.src = .host ∧ h.closed = false ∧ h.result = none ∧ beAt x.payload 0 4 = h.next ∧ u = { s with cfg := { s.cfg with staging := some { g with stream := g.stream ++ x.payload.drop 4, ended := decide (h.total ≤ h.next + (x.payload.drop 4).length) }, host := some { h with next := h.next + (x.payload.drop 4).length, last := s.time } } } ∧ u.warned = false) :=
  ⟨⟨((wFn (fun s => { s with cfg := { s.cfg with staging := none } }) (State.reset)).setF Reg.CFG_STG_CTL 31 30 1).setF Reg.CFG_STG_CTL 29 28 0, _, by decide +kernel, by decide +kernel, by decide +kernel, by decide +kernel, rfl⟩,
   ⟨(wFn (fun s => { s with cfg := { s.cfg with staging := none } }) (State.reset)).setF (Reg.CFG_SLOT_STAT 2) 2 0 2, 2, ({ src := .host, dest := none, storeOnly := false } : Staging), by decide +kernel, by decide +kernel, by decide +kernel, by decide +kernel, by decide +kernel, by decide +kernel⟩,
   ⟨wFn (fun s => { s with cfg := { s.cfg with staging := none } }) (State.reset), 0, ({ src := .host, dest := none } : Staging), by decide +kernel, by decide +kernel, by decide +kernel⟩,
   ⟨wFn (fun s => { s with cfg := { s.cfg with staging := none } }) (State.reset), 2, ({ src := .host, dest := none } : Staging), by decide +kernel, by decide +kernel, by decide +kernel, by decide +kernel⟩,
   ⟨wRef, wCom (wCmd 3 4 (4 :: List.replicate 23 0)) State.reset, State.reset, (wCmd 3 4 (4 :: List.replicate 23 0)), 0, by decide +kernel, by decide +kernel⟩,
   ⟨wRef, wFn (fun s => { s with cfg := { s.cfg with staging := some { src := .host, dest := none } } }) (wCom (wCmd 3 4 (List.replicate 24 0)) State.reset), _, (wCmd 3 4 (List.replicate 24 0)), _, by decide +kernel, by decide +kernel, by decide +kernel, Prod.ext rfl (by decide +kernel)⟩,
   ⟨wRef, wCom (wCmd 3 0 (List.replicate 24 0)) State.reset, _, (wCmd 3 0 (List.replicate 24 0)), _, by decide +kernel, by decide +kernel, by decide +kernel, by decide +kernel, Prod.ext rfl rfl, (by decide +kernel)⟩,
   ⟨wRef, wFn (fun s => { s with cfg := { s.cfg with staging := some ({ src := .host, dest := none } : Staging) } }) (wCom (wCmd 3 0 (List.replicate 24 0)) State.reset), _, (wCmd 3 0 (List.replicate 24 0)), _, by decide +kernel, by decide +kernel, by decide +kernel, by decide +kernel, Prod.ext rfl rfl, (by decide +kernel)⟩,
   ⟨wRef, (wCom (wCmd 3 0 ([6, 2, 0, 0, 0, 0, 0, 0, 0, 0, 0, 0, 0, 0, 0, 0, 0, 0, 0, 0, 0, 0, 0, 0])) State.reset).setB (Reg.CFG_SLOT_STAT 0) 3 true, (wCmd 3 0 ([6, 2, 0, 0, 0, 0, 0, 0, 0, 0, 0, 0, 0, 0, 0, 0, 0, 0, 0, 0, 0, 0, 0, 0])), by decide +kernel, by decide +kernel⟩,
   ⟨wRef, wFn (fun s => { s with cfg := { s.cfg with host := some (({ total := 100, last := 0, closed := false, result := none } : HostStream)) } }) (wFn (fun s => { s with cfg := { s.cfg with staging := some (({ src := .host, dest := none } : Staging)) } }) (wCom (wCmd 3 1 (List.replicate 24 0)) State.reset)), _, (wCmd 3 1 (List.replicate 24 0)), ({ src := .host, dest := none } : Staging), ({ total := 100, last := 0, closed := false, result := none } : HostStream), by decide +kernel, by decide +kernel, by decide +kernel, by decide +kernel, by decide +kernel, by decide +kernel, by decide +kernel, rfl, by decide +kernel⟩⟩

theorem test_witness_StagingsAndSlots_3 :
    (∃ (c : CmdRef) (s : State) (u : State) (x : Command) (g : Staging) (h : HostStream), s.turn c 3 1 = some x ∧ s.cfg.staging = some g ∧ s.cfg.host = some h ∧ g.src = .host ∧ h.closed = false ∧ h.result = none ∧ beAt x.payload 0 4 = h.next ∧ u = { s with cfg := { s.cfg with staging := some { g with stream := g.stream ++ x.payload.drop 4, ended := decide (h.total ≤ h.next + (x.payload.drop 4).length) }, host := some { h with next := h.next + (x.payload.drop 4).length, last := s.time } } } ∧ u.warned = true) ∧
    (∃ (c : CmdRef) (s : State) (x : Command), s.turn c 3 1 = some x ∧ ((s.cfg.staging = none ∨ s.cfg.host = none ∨ ∃ g h, s.cfg.staging = some g ∧ s.cfg.host = some h ∧ (g.src ≠ .host ∨ h.closed = true ∨ h.result.isSome ∨ beAt x.payload 0 4 ≠ h.next)))) ∧
    (∃ (c : CmdRef) (s : State) (x : Command) (h : HostStream) (st : _) (n : _) (a : _), s.turn c 3 2 = some x ∧ s.cfg.host = some h ∧ h.result = some (st, n, a)) ∧
    (∃ (c : CmdRef) (s : State) (x : Command) (h : HostStream), s.turn c 3 2 = some x ∧ s.cfg.host = some h ∧ h.result = none) ∧
    (∃ (c : CmdRef) (s : State) (x : Command), s.turn c 3 2 = some x ∧ s.cfg.host = none) ∧
    (∃ (c : CmdRef) (s : State) (x : Command), s.turn c 3 3 = some x) ∧
    (∃ (s : State) (g : Staging) (h : HostStream), s.cfg.staging = some g ∧ s.cfg.host = some h ∧ g.src = .host ∧ h.next < h.total ∧ (6400000000 : Int) ≤ tdiff s.time h.last) ∧
    (∃ (s : State) (g : Staging) (h : HostStream), s.cfg.staging = some g ∧ s.cfg.host = some h ∧ ((g.src ≠ .host ∨ h.total ≤ h.next ∨ tdiff s.time h.last < 6400000000))) ∧
    (∃ (c : CmdRef) (s : State) (x : Command), s.turn c 3 5 = some x ∧ 3 < beAt x.payload 0 1) ∧
    (∃ (c : CmdRef) (s : State) (x : Command), s.turn c 3 5 = some x ∧ beAt x.payload 0 1 ≤ 3 ∧ s.eraseRefused (beAt x.payload 0 1) = true) :=
  ⟨⟨wRef, (wFn (fun s => { s with cfg := { s.cfg with host := some (({ total := 100, last := 0, closed := false, result := none } : HostStream)) } }) (wFn (fun s => { s with cfg := { s.cfg with staging := some (({ src := .host, dest := none } : Staging)) } }) (wCom (wCmd 3 1 (List.replicate 24 0)) State.reset))).setB Reg.ANA_IN_STAT 16 true, _, (wCmd 3 1 (List.replicate 24 0)), ({ src := .host, dest := none } : Staging), ({ total := 100, last := 0, closed := false, result := none } : HostStream), by decide +kernel, by decide +kernel, by decide +kernel, by decide +kernel, by decide +kernel, by decide +kernel, by decide +kernel, rfl, by decide +kernel⟩,
   ⟨wRef, wCom (wCmd 3 1 (List.replicate 24 0)) State.reset, (wCmd 3 1 (List.replicate 24 0)), by decide +kernel, Or.inl rfl⟩,
   ⟨wRef, wFn (fun s => { s with cfg := { s.cfg with host := some { total := 100, last := 0, result := some (0, 0, 0) } } }) (wCom (wCmd 3 2 (List.replicate 24 0)) State.reset), (wCmd 3 2 (List.replicate 24 0)), ({ total := 100, last := 0, result := some (0, 0, 0) } : HostStream), 0, 0, 0, by decide +kernel, by decide +kernel, by decide +kernel⟩,
   ⟨wRef, wFn (fun s => { s with cfg := { s.cfg with host := some (({ total := 100, last := 0, result := none } : HostStream)) } }) (wCom (wCmd 3 2 (List.replicate 24 0)) State.reset), (wCmd 3 2 (List.replicate 24 0)), ({ total := 100, last := 0, result := none } : HostStream), by decide +kernel, by decide +kernel, by decide +kernel⟩,
   ⟨wRef, wFn (fun s => { s with cfg := { s.cfg with host := none } }) (wCom (wCmd 3 2 (List.replicate 24 0)) State.reset), (wCmd 3 2 (List.replicate 24 0)), by decide +kernel, by decide +kernel⟩,
   ⟨wRef, wCom (wCmd 3 3 (List.replicate 24 0)) State.reset, (wCmd 3 3 (List.replicate 24 0)), by decide +kernel⟩,
   ⟨wAt 6400000000 (wFn (fun s => { s with cfg := { s.cfg with host := some (({ total := 100, last := 0 } : HostStream)) } }) (wFn (fun s => { s with cfg := { s.cfg with staging := some (({ src := .host, dest := none } : Staging)) } }) (State.reset))), ({ src := .host, dest := none } : Staging), ({ total := 100, last := 0 } : HostStream), by decide +kernel, by decide +kernel, by decide +kernel, by decide +kernel, by decide +kernel⟩,
   ⟨wAt 6399999999 (wFn (fun s => { s with cfg := { s.cfg with host := some (({ total := 100, last := 0 } : HostStream)) } }) (wFn (fun s => { s with cfg := { s.cfg with staging := some (({ src := .host, dest := none } : Staging)) } }) (State.reset))), ({ src := .host, dest := none } : Staging), ({ total := 100, last := 0 } : HostStream), by decide +kernel, by decide +kernel, by decide +kernel⟩,
   ⟨wRef, wCom (wCmd 3 5 ([4, 0, 0, 0, 0, 0, 0, 0, 0, 0, 0, 0, 0, 0, 0, 0, 0, 0, 0, 0, 0, 0, 0, 0])) State.reset, (wCmd 3 5 ([4, 0, 0, 0, 0, 0, 0, 0, 0, 0, 0, 0, 0, 0, 0, 0, 0, 0, 0, 0, 0, 0, 0, 0])), by decide +kernel, by decide +kernel⟩,
   ⟨wRef, wFn (fun s => { s with cfg := { s.cfg with erasing := [(2, none)] } }) (wCom (wCmd 3 5 (2 :: List.replicate 23 0)) State.reset), (wCmd 3 5 (2 :: List.replicate 23 0)), by decide +kernel, by decide +kernel, by decide +kernel⟩⟩

theorem test_witness_StagingsAndSlots_4 :
    (∃ (c : CmdRef) (s : State) (x : Command), s.turn c 3 5 = some x ∧ beAt x.payload 0 1 ≤ 3 ∧ s.eraseRefused (beAt x.payload 0 1) = false) ∧
    (∃ (k : Fin 4) (s : State) (u : State) (e : Nat × Option CmdRef), s.cfg.erasing.find? (fun e => e.1 == k.val) = some e ∧ u = { s with cfg := { s.cfg with erasing := s.cfg.erasing.erase e, slots := tabErase s.cfg.slots k } } ∧ s.slotState k = 0) ∧
    (∃ (k : Fin 4) (s : State) (u : State) (e : Nat × Option CmdRef), s.cfg.erasing.find? (fun e => e.1 == k.val) = some e ∧ u = { s with cfg := { s.cfg with erasing := s.cfg.erasing.erase e, slots := tabErase s.cfg.slots k } } ∧ s.slotState k ≠ 0) ∧
    (∃ (k : Fin 4) (s : State), s.cfg.erasing.find? (fun e => e.1 == k.val) = none) ∧
    (∃ (c : CmdRef) (s : State) (x : Command), s.turn c 3 6 = some x ∧ beAt x.payload 0 1 ≤ 3) ∧
    (∃ (c : CmdRef) (s : State) (x : Command), s.turn c 3 6 = some x ∧ 3 < beAt x.payload 0 1) :=
  ⟨⟨wRef, wCom (wCmd 3 5 (2 :: List.replicate 23 0)) State.reset, (wCmd 3 5 (2 :: List.replicate 23 0)), by decide +kernel, by decide +kernel, by decide +kernel⟩,
   ⟨0, wFn (fun s => { s with cfg := { s.cfg with erasing := [(0, none)] } }) ((State.reset).setF (Reg.CFG_SLOT_STAT 0) 2 0 0), _, (0, none), rfl, rfl, by decide +kernel⟩,
   ⟨0, (wFn (fun s => { s with cfg := { s.cfg with erasing := [(0, none)] } }) (State.reset)).setF (Reg.CFG_SLOT_STAT 0) 2 0 2, _, (0, none), rfl, rfl, by decide +kernel⟩,
   ⟨0, State.reset, by decide +kernel⟩,
   ⟨wRef, wCom (wCmd 3 6 (List.replicate 24 0)) State.reset, (wCmd 3 6 (List.replicate 24 0)), by decide +kernel, by decide +kernel⟩,
   ⟨wRef, wCom (wCmd 3 6 ([4, 0, 0, 0, 0, 0, 0, 0, 0, 0, 0, 0, 0, 0, 0, 0, 0, 0, 0, 0, 0, 0, 0, 0])) State.reset, (wCmd 3 6 ([4, 0, 0, 0, 0, 0, 0, 0, 0, 0, 0, 0, 0, 0, 0, 0, 0, 0, 0, 0, 0, 0, 0, 0])), by decide +kernel, by decide +kernel⟩⟩

theorem test_witness_ImagesUnderWay :
    (∃ (s : State) (g : Staging), s.cfg.staging = some g ∧ g.header = [] ∧ s.warned = false) ∧
    (∃ (s : State), ((s.cfg.staging = none ∨ s.warned = true ∨ ∃ g, s.cfg.staging = some g ∧ g.header ≠ []))) ∧
    (∃ (s : State) (g : Staging), s.nextBytes g 4096 = none) ∧
    (∃ (s : State) (g : Staging) (h : _), s.nextBytes g 4096 = some h ∧ h.length < 4096) ∧
    (∃ (s : State) (g : Staging) (h : List Byte), s.nextBytes g 4096 = some h ∧ 4096 ≤ h.length ∧ g.second = true ∧ (Header.stations h).testBit s.station = true ∧ (s.noteTaken g h).station = s.station) ∧
    (∃ (s : State) (g : Staging) (h : List Byte), s.nextBytes g 4096 = some h ∧ 4096 ≤ h.length ∧ g.second = false ∧ (s.headerCheck h g.kinds false).1 ≠ 12 ∧ (s.headerCheck h g.kinds false).1 ≠ 0) ∧
    (∃ (s : State) (t : State) (g : Staging) (k : Nat) (j : Nat) (h : List Byte), s.nextBytes g 4096 = some h ∧ 4096 ≤ h.length ∧ g.second = false ∧ (s.headerCheck h g.kinds false).1 = 0 ∧ g.src = .slot k ∧ g.dest = some j ∧ g.n < Header.frames h ∧ t = (if g.storeOnly then s.slotBegin j h else (s.slotBegin j h).setBegin g h)) ∧
    (∃ (wr : Bool) (s : State) (g : Staging), s.cfg.staging = some g ∧ g.header ≠ [] ∧ s.warned = false ∧ ((g.storeOnly = true ∨ ∀ d ∈ s.stgDomains, s.domOn d = true))) ∧
    (∃ (wr : Bool) (s : State), ((s.cfg.staging = none ∨ s.warned = true ∨ ∃ g, s.cfg.staging = some g ∧ (g.header = [] ∨ (g.storeOnly = false ∧ ∃ d ∈ s.stgDomains, s.domOn d = false))))) ∧
    (∃ (wr : Bool) (s : State) (g : Staging), g.hdr.frames ≤ g.n) :=
  ⟨⟨wFn (fun s => { s with cfg := { s.cfg with staging := some (({ src := .host, dest := none, header := [], ended := true } : Staging)) } }) (State.reset), ({ src := .host, dest := none, header := [], ended := true } : Staging), by decide +kernel, by decide +kernel, by decide +kernel⟩,
   ⟨State.reset, by decide +kernel⟩,
   ⟨State.reset, ({ src := .host, dest := none } : Staging), by decide +kernel⟩,
   ⟨State.reset, ({ src := .slot 2, dest := none } : Staging), [], by decide +kernel, by decide +kernel⟩,
   ⟨wFn (fun s => { s with cfg := { s.cfg with slots := [(2, List.replicate 4096 0xFF)] } }) (State.reset), ({ src := .slot 2, dest := none, second := true } : Staging), _, (by rfl), by decide +kernel, by decide +kernel, by decide +kernel, by decide +kernel⟩,
   ⟨wFn (fun s => { s with cfg := { s.cfg with slots := [(2, List.replicate 4096 0)] } }) (State.reset), ({ src := .slot 2, dest := none, second := false } : Staging), _, (by rfl), by decide +kernel, by decide +kernel, by decide +kernel, by decide +kernel⟩,
   ⟨wFn (fun s => { s with cfg := { s.cfg with slots := [(2, wHead1)] } }) (wFn (fun s => { s with cfg := { s.cfg with pub := [(0, wPub1)] } }) (State.reset)), _, ({ src := .slot 2, dest := some 0, second := false } : Staging), 2, 0, wHead1, (by show some (sliceB wHead1 0 4096) = some wHead1; rw [sliceB, List.drop_zero, List.take_of_length_le (by decide +kernel)]), by decide +kernel, by decide +kernel, by decide +kernel, by decide +kernel, by decide +kernel, by decide +kernel, rfl⟩,
   ⟨false, wFn (fun s => { s with cfg := { s.cfg with slots := [(2, [])] } }) (wFn (fun s => { s with cfg := { s.cfg with staging := some (({ src := .slot 2, dest := none, header := wHead1 } : Staging)) } }) (State.reset)), ({ src := .slot 2, dest := none, header := wHead1 } : Staging), (by rfl), by decide +kernel, by decide +kernel, by decide +kernel⟩,
   ⟨false, State.reset, by decide +kernel⟩,
   ⟨false, State.reset, ({ src := .host, dest := none } : Staging), by decide +kernel⟩⟩

theorem test_witness_ImagesUnderWay_2 :
    (∃ (wr : Bool) (s : State) (g : Staging), g.n < g.hdr.frames ∧ s.nextBytes g 520 = none) ∧
    (∃ (wr : Bool) (s : State) (g : Staging) (f : _), g.n < g.hdr.frames ∧ s.nextBytes g 520 = some f ∧ f.length < 520) ∧
    (∃ (wr : Bool) (s : State) (g : Staging) (f : List Byte) (p : List Byte) (st : Nat), g.n < g.hdr.frames ∧ s.nextBytes g 520 = some f ∧ 520 ≤ f.length ∧ p = s.plainFrame g.header g.n f ∧ st = s.frameCheck g.header g.pins g.last p ∧ st ≠ 0) ∧
    (∃ (wr : Bool) (s : State) (g : Staging) (f : List Byte) (p : List Byte) (st : Nat), g.n < g.hdr.frames ∧ s.nextBytes g 520 = some f ∧ 520 ≤ f.length ∧ p = s.plainFrame g.header g.n f ∧ st = s.frameCheck g.header g.pins g.last p ∧ st = 0 ∧ g.dest.isSome = true) ∧
    (∃ (wr : Bool) (s : State) (g : Staging) (f : List Byte) (p : List Byte) (st : Nat) (g' : _), g.n < g.hdr.frames ∧ s.nextBytes g 520 = some f ∧ 520 ≤ f.length ∧ p = s.plainFrame g.header g.n f ∧ st = s.frameCheck g.header g.pins g.last p ∧ st = 0 ∧ ((wr = true ∨ g.dest = none)) ∧ (s.putFrame g f p).cfg.staging = some g') ∧
    (∃ (m : LaneMsg) (first : Bool) (last : Bool) (ws : List DWord) (s : State), m.ok = false) ∧
    (∃ (m : LaneMsg) (first : Bool) (last : Bool) (ws : List DWord) (s : State), m.ok = true ∧ ((s.treeLane m.lane.val = false ∨ m.src.val = s.station))) ∧
    (∃ (m : LaneMsg) (first : Bool) (last : Bool) (ws : List DWord) (s : State) (u : State) (v : State) (x : State) (y : State), m.ok = true ∧ s.treeLane m.lane.val = true ∧ m.src.val ≠ s.station ∧ u = s.flood (some m.lane.val) { typ := 7, src := m.src.val, seq := m.seq.toNat, spec := first.toNat + 2 * last.toNat, payload := ws } ∧ v = (if tabGet (fun _ => 0) u.net.bcastSeq m.src.val ≠ 0 ∧ tabGet (fun _ => 0) u.net.bcastSeq m.src.val - 1 ≠ m.seq.toNat then u.bcastGap m.src.val else u) ∧ x = { v with net := { v.net with bcastSeq := tabInsert v.net.bcastSeq m.src.val ((m.seq.toNat + 1) % 65536 + 1) } } ∧ y = (if first then x.bcastFirst m.src.val m.lane.val else x).bcastFeed m.src.val (ws.flatMap (fun w => beBytes 8 w.toNat)) last) :=
  ⟨⟨false, State.reset, ({ src := .host, dest := none, header := wHead1 } : Staging), by decide +kernel, by decide +kernel⟩,
   ⟨false, State.reset, ({ src := .slot 2, dest := none, header := wHead1 } : Staging), _, by decide +kernel, rfl, by decide +kernel⟩,
   ⟨false, wFn (fun s => { s with cfg := { s.cfg with slots := [(2, (List.replicate 516 0 ++ List.replicate 4 0))] } }) (State.reset), ({ src := .slot 2, dest := none, header := wHead1 } : Staging), (List.replicate 516 0 ++ List.replicate 4 0), _, _, by decide +kernel, (by show some (sliceB (List.replicate 516 0 ++ List.replicate 4 0) 0 520) = some (List.replicate 516 0 ++ List.replicate 4 0); rw [sliceB, List.drop_zero, List.take_of_length_le (by decide +kernel)]), by decide +kernel, rfl, rfl, wBad _ _ _ _⟩,
   ⟨false, wFn (fun s => { s with cfg := { s.cfg with slots := [(2, wFrame)] } }) (State.reset), ({ src := .slot 2, dest := some 0, header := wHead1 } : Staging), wFrame, _, _, by decide +kernel, (by show some (sliceB wFrame 0 520) = some wFrame; rw [sliceB, List.drop_zero, List.take_of_length_le (by decide +kernel)]), by decide +kernel, rfl, rfl, wGood _, by decide +kernel⟩,
   ⟨false, wFn (fun s => { s with cfg := { s.cfg with slots := [(2, wFrame)] } }) (State.reset), ({ src := .slot 2, dest := none, header := wHead1 } : Staging), wFrame, _, _, _, by decide +kernel, (by show some (sliceB wFrame 0 520) = some wFrame; rw [sliceB, List.drop_zero, List.take_of_length_le (by decide +kernel)]), by decide +kernel, rfl, rfl, wGood _, Or.inr rfl, rfl⟩,
   ⟨({ lane := 0, src := 1, seq := 0, ok := false } : LaneMsg), false, false, [], State.reset, by decide +kernel⟩,
   ⟨({ lane := 0, src := 1, seq := 0, ok := true } : LaneMsg), false, false, [], State.reset, by decide +kernel, by decide +kernel⟩,
   ⟨({ lane := 0, src := 1, seq := 0, ok := true } : LaneMsg), false, false, [], (State.reset).setF (Reg.NET_SL_STAT 0) 2 0 3, _, _, _, _, by decide +kernel, by decide +kernel, by decide +kernel, rfl, rfl, rfl, rfl⟩⟩

theorem test_witness_FrontArmAndVote :
    (∃ (s : State) (f : Front), s.armCheck f ≠ 0) ∧
    (∃ (s : State) (u : State) (f : Front), s.armCheck f = 0 ∧ u = { s with front := { s.front with seq := f.seq, dir := f.dir, scope := f.scope, part := f.part, tf := f.tf, d := f.d, verified := false } }) ∧
    (∃ (w : Word) (s : State) (u : State) (v : State), u = s.store Reg.CFG_FRONT_CTL w ∧ v = (if bitOf w 1 then u.hostFrontCancel.1 else u) ∧ bitOf w 0 = false) ∧
    (∃ (w : Word) (s : State) (u : State) (v : State), u = s.store Reg.CFG_FRONT_CTL w ∧ v = (if bitOf w 1 then u.hostFrontCancel.1 else u) ∧ bitOf w 0 = true) ∧
    (∃ (w : Word) (s : State), bitOf w 0 = true) ∧
    (∃ (w : Word) (s : State), bitOf w 0 = false) ∧
    (∃ (w : Word) (s : State), bitOf w 1 = true) ∧
    (∃ (w : Word) (s : State), bitOf w 1 = false) ∧
    (∃ (c : CmdRef) (s : State) (t : State) (x : Command) (st : Nat), s.turn c 4 0 = some x ∧ beAt x.payload 20 1 ≤ 1 ∧ beAt x.payload 21 1 ≤ 1 ∧ s.arm { seq := beAt x.payload 18 2, dir := beAt x.payload 20 1, scope := beAt x.payload 21 1, part := beAt x.payload 16 2, tf := BitVec.ofNat 64 (beAt x.payload 0 8), d := BitVec.ofNat 64 (beAt x.payload 8 8) } = (t, st)) ∧
    (∃ (c : CmdRef) (s : State) (x : Command), s.turn c 4 0 = some x ∧ ((1 < beAt x.payload 20 1 ∨ 1 < beAt x.payload 21 1))) :=
  ⟨⟨State.reset, {}, by decide +kernel⟩,
   ⟨(((State.reset).setF Reg.DEV_START_STAT 4 2 5).setF Reg.CFG_STG_STAT 2 0 2).setF (Reg.CFG_SLOT_STAT 0) 2 0 2, _, ({ d := 0x20000000, tf := 0x50000000 } : Front), by decide +kernel, rfl⟩,
   ⟨0x0, State.reset, _, _, rfl, rfl, by decide +kernel⟩,
   ⟨0x1, State.reset, _, _, rfl, rfl, by decide +kernel⟩,
   ⟨0x1, State.reset, by decide +kernel⟩,
   ⟨0x0, State.reset, by decide +kernel⟩,
   ⟨0x2, State.reset, by decide +kernel⟩,
   ⟨0x0, State.reset, by decide +kernel⟩,
   ⟨wRef, wCom (wCmd 4 0 (List.replicate 24 0)) State.reset, _, (wCmd 4 0 (List.replicate 24 0)), _, by decide +kernel, by decide +kernel, by decide +kernel, Prod.ext rfl rfl⟩,
   ⟨wRef, wCom (wCmd 4 0 ([0, 0, 0, 0, 0, 0, 0, 0, 0, 0, 0, 0, 0, 0, 0, 0, 0, 0, 0, 0, 2, 2, 0, 0])) State.reset, (wCmd 4 0 ([0, 0, 0, 0, 0, 0, 0, 0, 0, 0, 0, 0, 0, 0, 0, 0, 0, 0, 0, 0, 2, 2, 0, 0])), by decide +kernel, by decide +kernel⟩⟩

theorem test_witness_FrontArmAndVote_2 :
    (∃ (c : CmdRef) (s : State) (x : Command), s.turn c 4 1 = some x) ∧
    (∃ (s : State) (u : State), u = s.closeVote ∧ ((u.frontState = 3 ∨ u.frontState = 4 ∨ ((u.frontState = 1 ∨ u.frontState = 2) ∧ atOrAfter u.time u.front.d = true)))) ∧
    (∃ (s : State) (u : State), u = s.closeVote ∧ u.frontState ≠ 3 ∧ u.frontState ≠ 4 ∧ (((u.frontState = 1 ∨ u.frontState = 2) → atOrAfter u.time u.front.d = false))) ∧
    (∃ (s : State) (n : Nat), s.frontState ≠ 1 ∧ s.frontState ≠ 2) ∧
    (∃ (s : State) (u : State) (v : State) (w : State) (x : State) (n : Nat) (c : Nat), ((s.frontState = 1 ∨ s.frontState = 2)) ∧ c = (if s.voteClosed then s.voteCauses else n) ∧ u = { s with act := { s.act with cal := s.act.cal.filter (fun e => !(e.act.kind == 6)), delivered := s.act.delivered.filter (fun d => !(d.act.kind == 6)) } } ∧ v = u.setFifo 83 ((u.fifo 83).filter (fun r => !((decodeRec r.word).kind == 6))) ∧ w = (((((v.setF Reg.CFG_FRONT_STAT 2 0 0).setF Reg.CFG_FRONT_STAT 12 8 (c % 32)).addF Reg.CFG_FRONT_CANCELS 15 0 1).raise 163 c).releaseHold holdFront (List.range 116)).dropDue ∧ x = (if w.front.scope == 1 && (s.frontState == 1 || before w.time (w.front.d - units unitsPerUs)) then { w with front := { w.front with doneUntil := some w.front.d } } else w)) ∧
    (∃ (c : CmdRef) (s : State) (x : Command), s.turn c 4 2 = some x) ∧
    (∃ (bad : List (BitVec 32 × Bool)) (s : State) (u : State), u = s.closeVote ∧ ((u.frontState ≠ 1 ∨ u.front.verified = true ∨ u.stgDomains.all (fun d => u.domOn d) = false))) ∧
    (∃ (bad : List (BitVec 32 × Bool)) (s : State) (u : State) (v : _) (ok : _), u = s.closeVote ∧ u.frontState = 1 ∧ u.front.verified = false ∧ u.stgDomains.all (fun d => u.domOn d) = true ∧ bad.foldl State.verifyFrame (u, true) = (v, ok)) ∧
    (∃ (s : State) (t : State) (ok : Bool) (r : Bool) (a : BitVec 32) (src : Bool), s.stagedFrame a.toNat = true ∧ s.rewriteFrame true a.toNat src = (t, r)) ∧
    (∃ (s : State), s.frontState = 1 ∧ s.front.verified = true ∧ s.noticesHeld = true ∧ before s.time (s.front.d - 64000) = true ∧ s.front.scope ≠ 1) :=
  ⟨⟨wRef, wCom (wCmd 4 1 (List.replicate 24 0)) State.reset, (wCmd 4 1 (List.replicate 24 0)), by decide +kernel⟩,
   ⟨(State.reset).setF Reg.CFG_FRONT_STAT 2 0 3, _, rfl, by decide +kernel⟩,
   ⟨State.reset, _, rfl, by decide +kernel, by decide +kernel, by decide +kernel⟩,
   ⟨State.reset, 0, by decide +kernel, by decide +kernel⟩,
   ⟨(State.reset).setF Reg.CFG_FRONT_STAT 2 0 1, _, _, _, _, 0, _, Or.inl (by decide +kernel), rfl, rfl, rfl, rfl, rfl⟩,
   ⟨wRef, wCom (wCmd 4 2 (List.replicate 24 0)) State.reset, (wCmd 4 2 (List.replicate 24 0)), by decide +kernel⟩,
   ⟨[], State.reset, _, rfl, by decide +kernel⟩,
   ⟨[], wFn (fun s => { s with front := { s.front with d := 0x10000000 } }) ((State.reset).setF Reg.CFG_FRONT_STAT 2 0 1), _, _, _, rfl, by decide +kernel, by decide +kernel, by decide +kernel, rfl⟩,
   ⟨(State.reset).setD Reg.CFG_STG_SECT 1, _, false, false, 0, false, by decide +kernel, Prod.ext rfl (by decide +kernel)⟩,
   ⟨wFn (fun s => { s with front := { s.front with d := 0x10000000 } }) (wFn (fun s => { s with front := { s.front with verified := true } }) ((State.reset).setF Reg.CFG_FRONT_STAT 2 0 1)), by decide +kernel, by decide +kernel, by decide +kernel, by decide +kernel, by decide +kernel⟩⟩

theorem test_witness_FrontArmAndVote_3 :
    (∃ (s : State), s.frontState = 1 ∧ s.front.verified = true ∧ s.noticesHeld = true ∧ before s.time (s.front.d - 64000) = true ∧ s.front.scope = 1) ∧
    (∃ (s : State), ((s.frontState ≠ 1 ∨ s.front.verified = false ∨ s.noticesHeld = false ∨ before s.time (s.front.d - 64000) = false))) ∧
    (∃ (line : Bool) (s : State), s.frontState = 2 ∧ atOrAfter s.time s.front.d = true ∧ ((s.front.scope ≠ 1 ∨ (line = true ∧ s.getB Reg.DEV_START_STAT 0 = true)))) ∧
    (∃ (line : Bool) (s : State), s.frontState = 2 ∧ atOrAfter s.time s.front.d = true ∧ s.front.scope = 1 ∧ ((line = false ∨ s.getB Reg.DEV_START_STAT 0 = false))) ∧
    (∃ (line : Bool) (s : State), ((s.frontState ≠ 2 ∨ atOrAfter s.time s.front.d = false))) ∧
    (∃ (s : State) (d : DWord), s.front.doneUntil = some d ∧ atOrAfter s.time (d + 64000) = true) ∧
    (∃ (s : State) (d : DWord), s.front.doneUntil = some d ∧ atOrAfter s.time (d + 64000) = false) ∧
    (∃ (s : State), s.front.doneUntil = none) :=
  ⟨⟨wFn (fun s => { s with front := { s.front with d := 0x10000000 } }) (wFn (fun s => { s with front := { s.front with scope := 1 } }) (wFn (fun s => { s with front := { s.front with verified := true } }) ((State.reset).setF Reg.CFG_FRONT_STAT 2 0 1))), by decide +kernel, by decide +kernel, by decide +kernel, by decide +kernel, by decide +kernel⟩,
   ⟨wFn (fun s => { s with front := { s.front with d := 0x10000000 } }) (State.reset), by decide +kernel⟩,
   ⟨false, (State.reset).setF Reg.CFG_FRONT_STAT 2 0 2, by decide +kernel, by decide +kernel, by decide +kernel⟩,
   ⟨false, wFn (fun s => { s with front := { s.front with scope := 1 } }) ((State.reset).setF Reg.CFG_FRONT_STAT 2 0 2), by decide +kernel, by decide +kernel, by decide +kernel, by decide +kernel⟩,
   ⟨false, State.reset, by decide +kernel⟩,
   ⟨wAt 0x10000000 (wFn (fun s => { s with front := { s.front with doneUntil := some 0 } }) (State.reset)), 0, by decide +kernel, by decide +kernel⟩,
   ⟨wFn (fun s => { s with front := { s.front with doneUntil := some 0 } }) (State.reset), 0, by decide +kernel, by decide +kernel⟩,
   ⟨wFn (fun s => { s with front := { s.front with doneUntil := none } }) (State.reset), by decide +kernel⟩⟩

theorem test_witness_FrontNoticesAndSwitch :
    (∃ (m : LaneMsg) (seq : BitVec 16) (part : BitVec 16) (dir : Bool) (tf : DWord) (d : DWord) (s : State), m.ok = false) ∧
    (∃ (m : LaneMsg) (seq : BitVec 16) (part : BitVec 16) (dir : Bool) (tf : DWord) (d : DWord) (s : State), m.ok = true ∧ ((s.treeLane m.lane.val = false ∨ m.src.val = s.station))) ∧
    (∃ (m : LaneMsg) (seq : BitVec 16) (part : BitVec 16) (dir : Bool) (tf : DWord) (d : DWord) (s : State) (u : State) (v : State) (n : FrontNotice), m.ok = true ∧ s.treeLane m.lane.val = true ∧ m.src.val ≠ s.station ∧ n = ⟨m.src, seq.toNat, dir.toNat, tf, d, part.toNat⟩ ∧ u = s.closeVote.flood (some m.lane.val) { typ := 6, src := m.src, seq := m.seq.toNat, payload := [tf, d, BitVec.ofNat 64 (part.toNat <<< 32 + dir.toNat <<< 16 + seq.toNat)] } ∧ v = (if before u.time (d + units unitsPerUs) then { u with front := { u.front with notices := u.front.notices.filter (fun k => k.station != m.src.val) ++ [n] } } else u) ∧ ((v.front.scope ≠ 1 ∨ (v.frontState ≠ 1 ∧ v.frontState ≠ 2)))) ∧
    (∃ (m : LaneMsg) (seq : BitVec 16) (part : BitVec 16) (dir : Bool) (tf : DWord) (d : DWord) (s : State) (u : State) (v : State) (n : FrontNotice), m.ok = true ∧ s.treeLane m.lane.val = true ∧ m.src.val ≠ s.station ∧ n = ⟨m.src, seq.toNat, dir.toNat, tf, d, part.toNat⟩ ∧ u = s.closeVote.flood (some m.lane.val) { typ := 6, src := m.src, seq := m.seq.toNat, payload := [tf, d, BitVec.ofNat 64 (part.toNat <<< 32 + dir.toNat <<< 16 + seq.toNat)] } ∧ v = (if before u.time (d + units unitsPerUs) then { u with front := { u.front with notices := u.front.notices.filter (fun k => k.station != m.src.val) ++ [n] } } else u) ∧ v.front.scope = 1 ∧ ((v.frontState = 1 ∨ v.frontState = 2)) ∧ seq.toNat ≠ v.front.seq) ∧
    (∃ (m : LaneMsg) (seq : BitVec 16) (part : BitVec 16) (dir : Bool) (tf : DWord) (d : DWord) (s : State) (u : State) (v : State) (n : FrontNotice), m.ok = true ∧ s.treeLane m.lane.val = true ∧ m.src.val ≠ s.station ∧ n = ⟨m.src, seq.toNat, dir.toNat, tf, d, part.toNat⟩ ∧ u = s.closeVote.flood (some m.lane.val) { typ := 6, src := m.src, seq := m.seq.toNat, payload := [tf, d, BitVec.ofNat 64 (part.toNat <<< 32 + dir.toNat <<< 16 + seq.toNat)] } ∧ v = (if before u.time (d + units unitsPerUs) then { u with front := { u.front with notices := u.front.notices.filter (fun k => k.station != m.src.val) ++ [n] } } else u) ∧ v.front.scope = 1 ∧ ((v.frontState = 1 ∨ v.frontState = 2)) ∧ seq.toNat = v.front.seq ∧ v.front.agrees n = true) ∧
    (∃ (m : LaneMsg) (seq : BitVec 16) (part : BitVec 16) (dir : Bool) (tf : DWord) (d : DWord) (s : State) (u : State) (v : State) (n : FrontNotice), m.ok = true ∧ s.treeLane m.lane.val = true ∧ m.src.val ≠ s.station ∧ n = ⟨m.src, seq.toNat, dir.toNat, tf, d, part.toNat⟩ ∧ u = s.closeVote.flood (some m.lane.val) { typ := 6, src := m.src, seq := m.seq.toNat, payload := [tf, d, BitVec.ofNat 64 (part.toNat <<< 32 + dir.toNat <<< 16 + seq.toNat)] } ∧ v = (if before u.time (d + units unitsPerUs) then { u with front := { u.front with notices := u.front.notices.filter (fun k => k.station != m.src.val) ++ [n] } } else u) ∧ v.front.scope = 1 ∧ ((v.frontState = 1 ∨ v.frontState = 2)) ∧ seq.toNat = v.front.seq ∧ v.front.agrees n = false) ∧
    (∃ (s : State) (d : Delivered), s.frontState = 3 ∧ s.actsBefore s.front.tf = false ∧ s.due? 6 0 0 = some d) ∧
    (∃ (s : State) (d : Delivered), s.frontState = 3 ∧ s.actsBefore s.front.tf = false ∧ s.due? 6 0 1 = some d) ∧
    (∃ (s : State), ((s.frontState ≠ 3 ∨ s.actsBefore s.front.tf = true))) ∧
    (∃ (s : State), s.due? 6 0 0 = none) :=
  ⟨⟨({ lane := 0, src := 1, seq := 0, ok := false } : LaneMsg), 0, 0, false, 0, 0, State.reset, by decide +kernel⟩,
   ⟨({ lane := 0, src := 1, seq := 0, ok := true } : LaneMsg), 0, 0, false, 0, 0, State.reset, by decide +kernel, by decide +kernel⟩,
   ⟨({ lane := 0, src := 1, seq := 0, ok := true } : LaneMsg), 5, 0, false, 0, 0, wFn (fun s => { s with front := { s.front with scope := 1 } }) (wAt 0x10000000 (((State.reset).setF (Reg.NET_SL_STAT 0) 2 0 3).setF Reg.CFG_FRONT_STAT 2 0 1)), _, _, _, by decide +kernel, by decide +kernel, by decide +kernel, rfl, rfl, rfl, by decide +kernel⟩,
   ⟨({ lane := 0, src := 1, seq := 0, ok := true } : LaneMsg), 5, 0, false, 0, 0x20000000, wAt 0x10000000 (wFn (fun s => { s with front := { s.front with scope := 1, d := 0x20000000 } }) (((State.reset).setF (Reg.NET_SL_STAT 0) 2 0 3).setF Reg.CFG_FRONT_STAT 2 0 1)), _, _, _, by decide +kernel, by decide +kernel, by decide +kernel, rfl, rfl, rfl, by decide +kernel, by decide +kernel, by decide +kernel⟩,
   ⟨({ lane := 0, src := 1, seq := 0, ok := true } : LaneMsg), 5, 0, false, 0, 0x20000000, wAt 0x10000000 (wFn (fun s => { s with front := { s.front with scope := 1, d := 0x20000000, seq := 5 } }) (((State.reset).setF (Reg.NET_SL_STAT 0) 2 0 3).setF Reg.CFG_FRONT_STAT 2 0 1)), _, _, _, by decide +kernel, by decide +kernel, by decide +kernel, rfl, rfl, rfl, by decide +kernel, by decide +kernel, by decide +kernel, by decide +kernel⟩,
   ⟨({ lane := 0, src := 1, seq := 0, ok := true } : LaneMsg), 5, 0, false, 0, 0x20000000, wAt 0x10000000 (wFn (fun s => { s with front := { s.front with scope := 1, d := 0x20000000, seq := 5, tf := 1 } }) (((State.reset).setF (Reg.NET_SL_STAT 0) 2 0 3).setF Reg.CFG_FRONT_STAT 2 0 1)), _, _, _, by decide +kernel, by decide +kernel, by decide +kernel, rfl, rfl, rfl, by decide +kernel, by decide +kernel, by decide +kernel, by decide +kernel⟩,
   ⟨(wDue (wAct 6 0 0 0) State.reset).setF Reg.CFG_FRONT_STAT 2 0 3, (wAct 6 0 0 0), by decide +kernel, by decide +kernel, by decide +kernel⟩,
   ⟨(wDue (wAct 6 0 1 0) State.reset).setF Reg.CFG_FRONT_STAT 2 0 3, (wAct 6 0 1 0), by decide +kernel, by decide +kernel, by decide +kernel⟩,
   ⟨State.reset, by decide +kernel⟩,
   ⟨State.reset, by decide +kernel⟩⟩

theorem test_witness_FrontNoticesAndSwitch_2 :
    (∃ (s : State), s.due? 6 0 1 = none) ∧
    (∃ (s : State), s.front.quiet = true ∧ atOrAfter s.time (s.front.tf + 160) = true) ∧
    (∃ (s : State), ((s.front.quiet = false ∨ atOrAfter s.time (s.front.tf + 160) = false))) ∧
    (∃ (s : State), s.front.holdOver = false ∧ s.reached (s.front.tf + 512) = true) ∧
    (∃ (s : State), ((s.front.holdOver = true ∨ s.reached (s.front.tf + 512) = false))) :=
  ⟨⟨State.reset, by decide +kernel⟩,
   ⟨wAt 0x10000 (wFn (fun s => { s with front := { s.front with quiet := true } }) (State.reset)), by decide +kernel, by decide +kernel⟩,
   ⟨wAt 0x10000 State.reset, by decide +kernel⟩,
   ⟨wAt 0x10000 (wFn (fun s => { s with front := { s.front with holdOver := false } }) (wFn (fun s => { s with front := { s.front with holdOver := false } }) (State.reset))), by decide +kernel, by decide +kernel⟩,
   ⟨wFn (fun s => { s with front := { s.front with holdOver := false } }) (State.reset), Or.inr (by decide +kernel)⟩⟩

theorem test_witness_SyncLinks :
    (∃ (l : Fin 8) (s : State), s.getB (Reg.NET_SL_CTL l) 0 = true ∧ s.domOn (domLane l) = true ∧ (s.lane l).up = false ∧ s.laneState l ≠ 6) ∧
    (∃ (l : Fin 8) (s : State), (s.lane l).up = true) ∧
    (∃ (l : Fin 8) (s : State), (s.lane l).up = false) ∧
    (∃ (m : LaneMsg) (s : State) (master : Option (Fin 16)) (hops : Fin 8) (st : BitVec 16) (chosen : Bool) (step : Bool) (t : DWord) (t3 : DWord) (dst : Fin 16) (w : QWord) (u : _), s.carries m.lane.val = true ∧ m.ok = false ∧ u = (s.incR (Reg.NET_SL_CRC_ERR m.lane.val)).raise (150 + m.lane.val) 4) ∧
    (∃ (m : LaneMsg) (s : State) (master : Option (Fin 16)) (hops : Fin 8) (st : BitVec 16) (chosen : Bool), s.carries m.lane.val = true ∧ m.ok = true ∧ m.src.val = s.station) ∧
    (∃ (m : LaneMsg) (s : State) (master : Option (Fin 16)) (hops : Fin 8) (st : BitVec 16) (chosen : Bool), s.carries m.lane.val = true ∧ m.ok = true ∧ m.src.val ≠ s.station) ∧
    (∃ (m : LaneMsg) (s : State) (t : DWord) (step : Bool) (now : _), s.carries m.lane.val = true ∧ m.ok = true ∧ s.laneState m.lane.val = 3 ∧ s.otherMaster m.lane.val = false ∧ s.tbMode = 2 ∧ now = t + units (s.laneDelay m.lane.val) ∧ s.timeRuns = false) ∧
    (∃ (m : LaneMsg) (s : State) (t : DWord) (step : Bool) (now : _), s.carries m.lane.val = true ∧ m.ok = true ∧ s.laneState m.lane.val = 3 ∧ s.otherMaster m.lane.val = false ∧ s.tbMode = 2 ∧ now = t + units (s.laneDelay m.lane.val) ∧ s.timeRuns = true) ∧
    (∃ (m : LaneMsg) (s : State) (n : Nat), s.carries m.lane.val = true ∧ m.ok = true ∧ n = tabGet (fun _ => 0) s.net.slSeq 3) ∧
    (∃ (m : LaneMsg) (t2 : DWord) (t3 : DWord) (t1 : DWord) (s : State), s.carries m.lane.val = true ∧ m.ok = true ∧ (s.lane m.lane.val).reqAt = some t1) :=
  ⟨⟨0, wFn (fun s => s.setLane 0 { s.lane 0 with up := false }) ((State.reset).setB (Reg.NET_SL_CTL 0) 0 true), by decide +kernel, by decide +kernel, by decide +kernel, by decide +kernel⟩,
   ⟨0, wFn (fun s => s.setLane 0 { s.lane 0 with up := true }) (State.reset), by decide +kernel⟩,
   ⟨0, wFn (fun s => s.setLane 0 { s.lane 0 with up := false }) (State.reset), by decide +kernel⟩,
   ⟨({ lane := 0, src := 1, seq := 0, ok := false } : LaneMsg), (State.reset : State).setLane 0 { up := true }, none, 0, 0, false, false, 0, 0, 0, 0, _, by decide +kernel, by decide +kernel, rfl⟩,
   ⟨({ lane := 0, src := 0, seq := 0, ok := true } : LaneMsg), (State.reset : State).setLane 0 { up := true }, none, 0, 0, false, by decide +kernel, by decide +kernel, by decide +kernel⟩,
   ⟨({ lane := 0, src := 1, seq := 0, ok := true } : LaneMsg), (State.reset : State).setLane 0 { up := true }, none, 0, 0, false, by decide +kernel, by decide +kernel, by decide +kernel⟩,
   ⟨({ lane := 0, src := 1, seq := 0, ok := true } : LaneMsg), (((State.reset : State).setLane 0 { up := true }).setF (Reg.NET_SL_STAT 0) 2 0 3).setF Reg.CLK_TB_CTL 1 0 2, 0, false, _, by decide +kernel, by decide +kernel, by decide +kernel, by decide +kernel, by decide +kernel, rfl, by decide +kernel⟩,
   ⟨({ lane := 0, src := 1, seq := 0, ok := true } : LaneMsg), { ((((State.reset : State).setLane 0 { up := true }).setF (Reg.NET_SL_STAT 0) 2 0 3).setF Reg.CLK_TB_CTL 1 0 2 : State) with timeRuns := true }, 0, false, _, by decide +kernel, by decide +kernel, by decide +kernel, by decide +kernel, by decide +kernel, rfl, by decide +kernel⟩,
   ⟨({ lane := 0, src := 1, seq := 0, ok := true } : LaneMsg), (State.reset : State).setLane 0 { up := true }, _, by decide +kernel, by decide +kernel, rfl⟩,
   ⟨({ lane := 0, src := 1, seq := 0, ok := true } : LaneMsg), 0, 0, 0, wFn (fun s => s.setLane 0 { s.lane 0 with reqAt := some 0 }) ((State.reset : State).setLane 0 { up := true }), by decide +kernel, by decide +kernel, by decide +kernel⟩⟩

theorem test_witness_SyncLinks_2 :
    (∃ (l : Fin 8) (s : State), s.treeLane l = true ∧ s.carries l = true) ∧
    (∃ (l : Fin 8) (s : State), ((s.treeLane l = false ∨ s.carries l = false))) ∧
    (∃ (s : State), s.timeRuns = true ∧ ((s.isMaster = true ∨ (s.tbMode = 2 ∧ s.getB Reg.CLK_TB_STAT 2 = true)))) ∧
    (∃ (s : State), ((s.timeRuns = false ∨ (s.isMaster = false ∧ (s.tbMode ≠ 2 ∨ s.getB Reg.CLK_TB_STAT 2 = false))))) ∧
    (∃ (m : LaneMsg) (dst : Fin 16) (w : QWord) (s : State), s.carries m.lane.val = true ∧ m.ok = true ∧ s.treeLane m.lane.val = true ∧ dst.val = s.station ∧ s.fifoRoom 82 = true) ∧
    (∃ (m : LaneMsg) (dst : Fin 16) (w : QWord) (s : State) (k : Nat), s.carries m.lane.val = true ∧ m.ok = true ∧ s.treeLane m.lane.val = true ∧ dst.val ≠ s.station ∧ s.routeLane dst = some k ∧ k ≠ m.lane.val ∧ s.treeLane k = true) ∧
    (∃ (m : LaneMsg) (dst : Fin 16) (w : QWord) (s : State), s.carries m.lane.val = true ∧ m.ok = true ∧ ((s.treeLane m.lane.val = false ∨ (dst.val = s.station ∧ s.fifoRoom 82 = false) ∨ (dst.val ≠ s.station ∧ ∀ k, s.routeLane dst = some k → k = m.lane.val ∨ s.treeLane k = false)))) ∧
    (∃ (m : LaneMsg) (s : State) (master : Option (Fin 16)) (hops : Fin 8) (st : BitVec 16) (chosen : Bool) (step : Bool) (t : DWord) (t3 : DWord) (dst : Fin 16) (w : QWord), s.carries m.lane.val = false) ∧
    (∃ (s : State), s.syncLost = true ∧ s.getB Reg.CLK_TB_STAT 3 = false ∧ s.tbMode = 2 ∧ s.isMaster = false) ∧
    (∃ (s : State), s.syncLost = true ∧ s.getB Reg.CLK_TB_STAT 3 = false ∧ s.tbMode = 1) :=
  ⟨⟨0, ((State.reset).setF (Reg.NET_SL_STAT 0) 2 0 3 : State).setLane 0 { up := true }, by decide +kernel, by decide +kernel⟩,
   ⟨0, State.reset, by decide +kernel⟩,
   ⟨({ (State.reset : State) with timeRuns := true }).setB Reg.CLK_TB_CTL 4 true, by decide +kernel, Or.inl (by decide +kernel)⟩,
   ⟨State.reset, by decide +kernel⟩,
   ⟨({ lane := 0, src := 1, seq := 0, ok := true } : LaneMsg), 0, 0, ((State.reset : State).setLane 0 { up := true }).setF (Reg.NET_SL_STAT 0) 2 0 3, by decide +kernel, by decide +kernel, by decide +kernel, by decide +kernel, by decide +kernel⟩,
   ⟨({ lane := 0, src := 1, seq := 0, ok := true } : LaneMsg), 2, 0, (((((State.reset : State).setLane 0 { up := true }).setF (Reg.NET_SL_STAT 0) 2 0 3).setF (Reg.NET_SL_STAT 1) 2 0 3).setF (Reg.NET_SL_STAT 1) 2 0 4 : State).setLane 1 { reach := 4 }, 1, by decide +kernel, by decide +kernel, by decide +kernel, by decide +kernel, by decide +kernel, by decide +kernel, by decide +kernel⟩,
   ⟨({ lane := 0, src := 1, seq := 0, ok := true } : LaneMsg), 2, 0, (((State.reset : State).setLane 0 { up := true }).setF (Reg.NET_SL_STAT 1) 2 0 4 : State).setLane 1 { reach := 4 }, by decide +kernel, by decide +kernel, by decide +kernel⟩,
   ⟨({ lane := 0, src := 1, seq := 0, ok := true } : LaneMsg), State.reset, none, 0, 0, false, false, 0, 0, 0, 0, by decide +kernel⟩,
   ⟨wAt 0x100000000000000 (((State.reset).setB Reg.CLK_TB_STAT 3 false).setF Reg.CLK_TB_CTL 1 0 2), by decide +kernel, by decide +kernel, by decide +kernel, by decide +kernel⟩,
   ⟨wAt 0x100000000000000 (((State.reset).setB Reg.CLK_TB_STAT 3 false).setF Reg.CLK_TB_CTL 1 0 1), by decide +kernel, by decide +kernel, by decide +kernel⟩⟩

theorem test_witness_SyncLinks_3 :
    (∃ (s : State), s.syncLost = true ∧ s.getB Reg.CLK_TB_STAT 3 = false ∧ ((s.tbMode = 2 ∧ s.isMaster = true ∨ s.tbMode ≠ 1 ∧ s.tbMode ≠ 2))) ∧
    (∃ (s : State), ((s.syncLost = false ∨ s.getB Reg.CLK_TB_STAT 3 = true))) ∧
    (∃ (s : State), s.getB Reg.CLK_TB_STAT 3 = false) :=
  ⟨⟨wAt 0x100000000000000 ((State.reset).setB Reg.CLK_TB_STAT 3 false), by decide +kernel, by decide +kernel, by decide +kernel⟩,
   ⟨State.reset, by decide +kernel⟩,
   ⟨(State.reset).setB Reg.CLK_TB_STAT 3 false, by decide +kernel⟩⟩

theorem test_witness_ResetsAndSupply :
    (∃ (vin : BitVec 16) (s : State), (s.boot.supply = true ∨ vin.toNat ≤ 3300)) ∧
    (∃ (vin : BitVec 16) (s : State) (u : State), s.boot.supply = false ∧ 3300 < vin.toNat ∧ u = (s.afterReset false).setF Reg.ANA_IN_STAT 15 0 vin.toNat ∧ u.boot.resetN = false) ∧
    (∃ (vin : BitVec 16) (s : State) (u : State), s.boot.supply = false ∧ 3300 < vin.toNat ∧ u = (s.afterReset false).setF Reg.ANA_IN_STAT 15 0 vin.toNat ∧ u.boot.resetN = true) ∧
    (∃ (s : State) (k : Nat), s.boot.supply = true ∧ s.freeGasp = some k) ∧
    (∃ (s : State), s.boot.supply = true ∧ s.freeGasp = none) ∧
    (∃ (s : State), s.boot.supply = false) ∧
    (∃ (s : State), s.boot.resetN = true ∧ s.boot.supply = true) ∧
    (∃ (s : State), s.boot.resetN = true ∧ s.boot.supply = false) ∧
    (∃ (s : State), s.boot.resetN = false) ∧
    (∃ (w : Word) (s : State), ((s.boot.supply = false ∨ s.boot.resetN = true))) :=
  ⟨⟨0, wFn (fun s => { s with boot := { s.boot with supply := true } }) (State.reset), by decide +kernel⟩,
   ⟨3301, wFn (fun s => { s with boot := { s.boot with supply := false } }) (State.reset), _, by decide +kernel, by decide +kernel, rfl, by decide +kernel⟩,
   ⟨3301, wFn (fun s => { s with boot := { s.boot with resetN := true } }) (wFn (fun s => { s with boot := { s.boot with supply := false } }) (State.reset)), _, by decide +kernel, by decide +kernel, rfl, by decide +kernel⟩,
   ⟨wFn (fun s => { s with boot := { s.boot with supply := true } }) (State.reset), 0, by decide +kernel, by decide +kernel⟩,
   ⟨wFn (fun s => { s with boot := { s.boot with gasp := (List.range 128).map (fun k => (k, [])) } }) (wFn (fun s => { s with boot := { s.boot with supply := true } }) (State.reset)), by decide +kernel, by decide +kernel⟩,
   ⟨wFn (fun s => { s with boot := { s.boot with supply := false } }) (State.reset), by decide +kernel⟩,
   ⟨wFn (fun s => { s with boot := { s.boot with supply := true } }) (wFn (fun s => { s with boot := { s.boot with resetN := true } }) (State.reset)), by decide +kernel, by decide +kernel⟩,
   ⟨wFn (fun s => { s with boot := { s.boot with supply := false } }) (wFn (fun s => { s with boot := { s.boot with resetN := true } }) (State.reset)), by decide +kernel, by decide +kernel⟩,
   ⟨wFn (fun s => { s with boot := { s.boot with resetN := false } }) (State.reset), by decide +kernel⟩,
   ⟨0, State.reset, by decide +kernel⟩⟩

theorem test_witness_ResetsAndSupply_2 :
    (∃ (c : CmdRef) (s : State) (u : State) (x : Command) (t : _), s.turn c 15 0 = some x ∧ u = (s.replyTo x csOK true []).flushPorts ∧ u.boot.supply = true ∧ u.boot.resetN = false ∧ beAt x.payload 0 1 = 1 ∧ t = (u.afterReset false).beginStart 4 false) ∧
    (∃ (c : CmdRef) (s : State) (u : State) (x : Command) (t : _), s.turn c 15 0 = some x ∧ u = (s.replyTo x csOK true []).flushPorts ∧ u.boot.supply = true ∧ u.boot.resetN = false ∧ beAt x.payload 0 1 = 2 ∧ t = (u.afterReset true).beginStart 4 true) ∧
    (∃ (c : CmdRef) (s : State) (x : Command), s.turn c 15 0 = some x ∧ beAt x.payload 0 1 ≠ 1 ∧ beAt x.payload 0 1 ≠ 2) ∧
    (∃ (w : Word) (s : State), fld w 31 16 = 0x5A3C ∧ fld w 1 0 = 1 ∧ s.boot.supply = true ∧ s.boot.resetN = false) ∧
    (∃ (w : Word) (s : State), fld w 31 16 = 0x5A3C ∧ fld w 1 0 = 2 ∧ s.boot.supply = true ∧ s.boot.resetN = false) ∧
    (∃ (w : Word) (s : State), fld w 1 0 ≠ 1) ∧
    (∃ (w : Word) (s : State), fld w 1 0 ≠ 2) ∧
    (∃ (w : Word) (s : State), fld w 31 16 ≠ 0x5A3C) ∧
    (∃ (s : State), s.boot.supply = true ∧ s.boot.resetN = false) ∧
    (∃ (s : State) (n : Nat), s.thawed = true ∧ n = ((newestGasp s.boot.gasp).map (fun p => p.1 / 64)).getD 0 ∧ 64 ≤ (s.boot.gasp.filter (fun p => p.1 / 64 == 1 - n)).length) :=
  ⟨⟨wRef, wFn (fun s => { s with boot := { s.boot with supply := true } }) (wCom (wCmd 15 0 ([1, 0, 0, 0, 0, 0, 0, 0, 0, 0, 0, 0, 0, 0, 0, 0, 0, 0, 0, 0, 0, 0, 0, 0])) State.reset), _, (wCmd 15 0 ([1, 0, 0, 0, 0, 0, 0, 0, 0, 0, 0, 0, 0, 0, 0, 0, 0, 0, 0, 0, 0, 0, 0, 0])), _, by decide +kernel, rfl, by decide +kernel, by decide +kernel, by decide +kernel, rfl⟩,
   ⟨wRef, wFn (fun s => { s with boot := { s.boot with supply := true } }) (wCom (wCmd 15 0 ([2, 0, 0, 0, 0, 0, 0, 0, 0, 0, 0, 0, 0, 0, 0, 0, 0, 0, 0, 0, 0, 0, 0, 0])) State.reset), _, (wCmd 15 0 ([2, 0, 0, 0, 0, 0, 0, 0, 0, 0, 0, 0, 0, 0, 0, 0, 0, 0, 0, 0, 0, 0, 0, 0])), _, by decide +kernel, rfl, by decide +kernel, by decide +kernel, by decide +kernel, rfl⟩,
   ⟨wRef, wCom (wCmd 15 0 (List.replicate 24 0)) State.reset, (wCmd 15 0 (List.replicate 24 0)), by decide +kernel, by decide +kernel, by decide +kernel⟩,
   ⟨0x5A3C0001, wFn (fun s => { s with boot := { s.boot with resetN := false } }) (wFn (fun s => { s with boot := { s.boot with supply := true } }) (State.reset)), by decide +kernel, by decide +kernel, by decide +kernel, by decide +kernel⟩,
   ⟨0x5A3C0002, wFn (fun s => { s with boot := { s.boot with resetN := false } }) (wFn (fun s => { s with boot := { s.boot with supply := true } }) (State.reset)), by decide +kernel, by decide +kernel, by decide +kernel, by decide +kernel⟩,
   ⟨0, State.reset, by decide +kernel⟩,
   ⟨0, State.reset, by decide +kernel⟩,
   ⟨0, State.reset, by decide +kernel⟩,
   ⟨wFn (fun s => { s with boot := { s.boot with resetN := false } }) (wFn (fun s => { s with boot := { s.boot with supply := true } }) (State.reset)), by decide +kernel, by decide +kernel⟩,
   ⟨wFn (fun s => { s with boot := { s.boot with gasp := (0, []) :: (List.range 64).map (fun i => (64 + i, [])) } }) ((State.reset).setF Reg.DEV_START_STAT 4 2 5), 0, by decide +kernel, rfl, by decide +kernel⟩⟩

theorem test_witness_ResetsAndSupply_3 :
    (∃ (s : State) (n : Nat), s.thawed = true ∧ n = ((newestGasp s.boot.gasp).map (fun p => p.1 / 64)).getD 0 ∧ (s.boot.gasp.filter (fun p => p.1 / 64 == 1 - n)).length < 64 ∧ 64 ≤ (s.boot.gasp.filter (fun p => p.1 / 64 == n)).length) ∧
    (∃ (s : State) (n : Nat), s.thawed = true ∧ n = ((newestGasp s.boot.gasp).map (fun p => p.1 / 64)).getD 0 ∧ (s.boot.gasp.filter (fun p => p.1 / 64 == 1 - n)).length < 64 ∧ (s.boot.gasp.filter (fun p => p.1 / 64 == n)).length < 64) ∧
    (∃ (s : State), s.thawed = false ∧ ((s.boot.running = false ∨ s.freeGasp ≠ none))) ∧
    (∃ (s : State), s.thawed = false ∧ s.boot.running = true ∧ s.freeGasp = none) :=
  ⟨⟨wFn (fun s => { s with boot := { s.boot with gasp := (List.range 64).map (fun i => (i, [])) } }) ((State.reset).setF Reg.DEV_START_STAT 4 2 5), 0, by decide +kernel, rfl, by decide +kernel, by decide +kernel⟩,
   ⟨(State.reset).setF Reg.DEV_START_STAT 4 2 5, _, by decide +kernel, rfl, by decide +kernel, by decide +kernel⟩,
   ⟨wFn (fun s => { s with boot := { s.boot with gasp := (List.range 128).map (fun k => (k, [])) } }) ((State.reset).setF Reg.DEV_START_STAT 4 2 1), by decide +kernel, by decide +kernel⟩,
   ⟨wFn (fun s => { s with boot := { s.boot with gasp := (List.range 128).map (fun k => (k, [])) } }) (wFn (fun s => { s with boot := { s.boot with running := true } }) ((State.reset).setF Reg.DEV_START_STAT 4 2 1)), by decide +kernel, by decide +kernel, by decide +kernel⟩⟩

theorem test_witness_StartupToThaw :
    (∃ (s : State) (p : List (Nat × List Byte)), s.boot.running = true ∧ s.phase = 2 ∧ s.wholeLoad 0 = .ok p) :=
  ⟨(wFn (fun s => { s with cfg := { s.cfg with slots := [(0, wHead0)], pub := [(0, wPub0)] } }) ((wFn (fun s => { s with boot := { s.boot with running := true } }) (State.reset)).setF Reg.DEV_START_STAT 4 2 2)).setF (Reg.CFG_SLOT_STAT 0) 2 0 2, [], by decide +kernel, by decide +kernel, wLoad _ _ _ (by decide +kernel) rfl (by decide +kernel) (by decide +kernel) (by decide +kernel) (by decide +kernel) (by decide +kernel)⟩

theorem test_witness_StartupToThaw_2 :
    (∃ (s : State) (u : State) (b : Nat × Nat) (p : List (Nat × List Byte)), s.boot.running = true ∧ s.phase = 2 ∧ s.wholeLoad 0 = .error b ∧ u = s.setF Reg.CFG_BOOT 31 27 b.1 ∧ u.wholeLoad 1 = .ok p) :=
  ⟨(wFn (fun s => { s with cfg := { s.cfg with slots := [(1, wHead2)], pub := [(0, wPub2)] } }) ((wFn (fun s => { s with boot := { s.boot with running := true } }) (State.reset)).setF Reg.DEV_START_STAT 4 2 2)).setF (Reg.CFG_SLOT_STAT 1) 2 0 2, _, (14, 0), [], by decide +kernel, by decide +kernel, rfl, rfl, wLoad _ _ _ (by decide +kernel) rfl (by decide +kernel) (by decide +kernel) (by decide +kernel) (by decide +kernel) (by decide +kernel)⟩

theorem test_witness_StartupToThaw_3 :
    (∃ (s : State) (u : State) (b : Nat × Nat) (g : Nat × Nat), s.boot.running = true ∧ s.phase = 2 ∧ s.wholeLoad 0 = .error b ∧ u = s.setF Reg.CFG_BOOT 31 27 b.1 ∧ u.wholeLoad 1 = .error g) :=
  ⟨(wFn (fun s => { s with boot := { s.boot with running := true } }) (State.reset)).setF Reg.DEV_START_STAT 4 2 2, _, (14, 0), (14, 0), by decide +kernel, by decide +kernel, rfl, rfl, rfl⟩

theorem test_witness_StartupToThaw_4 :
    (∃ (s : State) (k : Nat), s.slotState k ≠ 2) :=
  ⟨State.reset, 0, by decide +kernel⟩

theorem test_witness_StartupToThaw_5 :
    (∃ (s : State), ((s.boot.running = false ∨ s.phase ≠ 2))) :=
  ⟨State.reset, by decide +kernel⟩

theorem test_witness_StartupToThaw_6 :
    (∃ (s : State), s.boot.running = true ∧ s.tbMode = 2 ∧ s.isMaster = false ∧ s.timeRuns = false ∧ ((s.locked 0 = true ∨ s.locked 1 = true))) :=
  ⟨((wFn (fun s => { s with boot := { s.boot with running := true } }) (State.reset)).setF Reg.CLK_TB_CTL 1 0 2).setB (Reg.CLK_ADPLL_STAT 0) 0 true, by decide +kernel, by decide +kernel, by decide +kernel, by decide +kernel, Or.inl (by decide +kernel)⟩

theorem test_witness_StartupToThaw_7 :
    (∃ (s : State), ((s.boot.running = false ∨ s.tbMode ≠ 2 ∨ s.isMaster = true ∨ s.timeRuns = true ∨ (s.locked 0 = false ∧ s.locked 1 = false)))) :=
  ⟨State.reset, by decide +kernel⟩

theorem test_witness_StartupToThaw_8 :
    (∃ (s : State), s.boot.running = true ∧ s.ready = true ∧ s.msPhase 12800000 = true) :=
  ⟨wAt 12800000 (({ (wFn (fun s => { s with boot := { s.boot with running := true } }) (State.reset) : State) with timeRuns := true }).setF Reg.DEV_START_STAT 4 2 4), by decide +kernel, by decide +kernel, by decide +kernel⟩

theorem test_witness_StartupToThaw_9 :
    (∃ (s : State), ((s.boot.running = false ∨ s.ready = false ∨ s.msPhase 12800000 = false))) :=
  ⟨wAt 12800000 (({ (State.reset : State) with timeRuns := true }).setF Reg.DEV_START_STAT 4 2 4), by decide +kernel⟩

theorem test_witness_StartupToThaw_10 :
    (∃ (s : State) (u : State), s.boot.running = true ∧ s.phase = 4 ∧ s.msPhase 32000000 = true ∧ s.getB Reg.DEV_START_STAT 0 = true ∧ s.boot.thawAt = none ∧ u = s.setB Reg.DEV_START_STAT 1 true) :=
  ⟨wAt 32000000 ({ (wFn (fun s => { s with boot := { s.boot with thawAt := none } }) (((wFn (fun s => { s with boot := { s.boot with running := true } }) (State.reset)).setF Reg.DEV_START_STAT 4 2 4).setB Reg.DEV_START_STAT 0 true) : State) with timeRuns := true }), _, by decide +kernel, by decide +kernel, by decide +kernel, by decide +kernel, by decide +kernel, rfl⟩

theorem test_witness_StartupToThaw_11 :
    (∃ (line : Bool) (s : State), ((s.boot.running = false ∨ s.phase ≠ 4 ∨ s.msPhase 32000000 = false ∨ s.getB Reg.DEV_START_STAT 0 = false ∨ s.boot.thawAt.isSome = true))) :=
  ⟨false, State.reset, by decide +kernel⟩

theorem test_witness_StartupToThaw_12 :
    (∃ (s : State), ((s.boot.thawAt = none ∨ s.boot.running = false ∨ ∃ t, s.boot.thawAt = some t ∧ s.reached t = false))) :=
  ⟨State.reset, by decide +kernel⟩

theorem test_witness_StartupToThaw_13 :
    (∃ (s : State) (u : State) (v : State) (w : State) (t : DWord), s.boot.thawAt = some t ∧ s.boot.running = true ∧ s.reached t = true ∧ u = { s with boot := { s.boot with running := false, clear := false, thawAt := none, warns := 0 } } ∧ v = ((((List.range 48).foldl (fun s i => s.thawSector i) (((List.range 32).foldl (fun s k => s.store (Reg.CLK_GCLK k) (decoded u.globalFrames 0 (fun f => Config.gclkOf f k))) u).noteClamps)).setF Reg.DEV_START_STAT 4 2 5).setD Reg.DEV_THAW_TIME t).arbModes 0 ∧ w = (List.range 7).foldl (fun s d => s.setDtype d { s.dtype d with since := t }) v) :=
  ⟨wFn (fun s => { s with boot := { s.boot with running := true } }) (wFn (fun s => { s with boot := { s.boot with thawAt := some 0 } }) (State.reset)), _, _, _, 0, by decide +kernel, by decide +kernel, by decide +kernel, rfl, rfl, rfl⟩

theorem test_witness_StartupToThaw_14 :
    (∃ (c : CmdRef) (s : State) (x : Command), s.turn c 3 7 = some x) :=
  ⟨wRef, wCom (wCmd 3 7 (List.replicate 24 0)) State.reset, (wCmd 3 7 (List.replicate 24 0)), by decide +kernel⟩

theorem test_witness_StartupToThaw_15 :
    (∃ (c : CmdRef) (s : State) (x : Command) (w : Word), s.turn c 15 1 = some x ∧ w = BitVec.ofNat 32 (beAt x.payload 0 4) ∧ w &&& ~~~(0xFF000F1F : Word) = 0 ∧ fld w 1 0 ≠ 3 ∧ fld w 3 2 ≠ 3) :=
  ⟨wRef, wCom (wCmd 15 1 (List.replicate 24 0)) State.reset, (wCmd 15 1 (List.replicate 24 0)), _, by decide +kernel, rfl, by decide +kernel, by decide +kernel, by decide +kernel⟩

theorem test_witness_StartupToThaw_16 :
    (∃ (c : CmdRef) (s : State) (x : Command) (w : Word), s.turn c 15 1 = some x ∧ w = BitVec.ofNat 32 (beAt x.payload 0 4) ∧ ((w &&& ~~~(0xFF000F1F : Word) ≠ 0 ∨ fld w 1 0 = 3 ∨ fld w 3 2 = 3))) :=
  ⟨wRef, wCom (wCmd 15 1 ([0, 0, 0, 3, 0, 0, 0, 0, 0, 0, 0, 0, 0, 0, 0, 0, 0, 0, 0, 0, 0, 0, 0, 0])) State.reset, (wCmd 15 1 ([0, 0, 0, 3, 0, 0, 0, 0, 0, 0, 0, 0, 0, 0, 0, 0, 0, 0, 0, 0, 0, 0, 0, 0])), _, by decide +kernel, rfl, by decide +kernel⟩

theorem test_witness_PowerRequests :
    (∃ (d : Nat) (w : Word) (s : State), d < 135 ∧ fld w 1 0 = 0) ∧
    (∃ (d : Nat) (w : Word) (s : State), d < 135 ∧ fld w 1 0 = 1) ∧
    (∃ (d : Nat) (w : Word) (s : State), d < 135 ∧ fld w 1 0 = 2) ∧
    (∃ (d : Nat) (w : Word) (s : State), d < 135 ∧ fld w 1 0 = 3) ∧
    (∃ (c : CmdRef) (s : State) (t : State) (x : Command) (r : Nat), s.turn c 7 0 = some x ∧ beAt x.payload 1 1 = 2 ∧ beAt x.payload 0 1 ≤ 134 ∧ s.domReq (beAt x.payload 0 1) 2 = (t, r)) ∧
    (∃ (c : CmdRef) (s : State) (x : Command), s.turn c 7 0 = some x ∧ beAt x.payload 1 1 = 0 ∧ 134 < beAt x.payload 0 1) ∧
    (∃ (d : Nat) (s : State), 5 ≤ s.domState d) ∧
    (∃ (d : Nat) (s : State), (s.domState d = 3 ∨ s.domState d = 4)) ∧
    (∃ (d : Nat) (st : Nat) (s : State), 3 ≤ s.domState d ∧ ((st = 1 ∨ st = 2)) ∧ (s.domX d).latched.isSome = true) ∧
    (∃ (d : Nat) (st : Nat) (s : State), 3 ≤ s.domState d ∧ ((st = 1 ∨ st = 2)) ∧ (s.domX d).latched.isSome = false) :=
  ⟨⟨0, 0x0, State.reset, by decide +kernel, by decide +kernel⟩,
   ⟨0, 0x1, State.reset, by decide +kernel, by decide +kernel⟩,
   ⟨0, 0x2, State.reset, by decide +kernel, by decide +kernel⟩,
   ⟨0, 0x3, State.reset, by decide +kernel, by decide +kernel⟩,
   ⟨wRef, wCom (wCmd 7 0 ([0, 2, 0, 0, 0, 0, 0, 0, 0, 0, 0, 0, 0, 0, 0, 0, 0, 0, 0, 0, 0, 0, 0, 0])) State.reset, _, (wCmd 7 0 ([0, 2, 0, 0, 0, 0, 0, 0, 0, 0, 0, 0, 0, 0, 0, 0, 0, 0, 0, 0, 0, 0, 0, 0])), 0, by decide +kernel, by decide +kernel, by decide +kernel, Prod.ext rfl (by decide +kernel)⟩,
   ⟨wRef, wCom (wCmd 7 0 ([135, 0, 0, 0, 0, 0, 0, 0, 0, 0, 0, 0, 0, 0, 0, 0, 0, 0, 0, 0, 0, 0, 0, 0])) State.reset, (wCmd 7 0 ([135, 0, 0, 0, 0, 0, 0, 0, 0, 0, 0, 0, 0, 0, 0, 0, 0, 0, 0, 0, 0, 0, 0, 0])), by decide +kernel, by decide +kernel, by decide +kernel⟩,
   ⟨0, (State.reset).setF (Reg.PWR_DOM_STAT 0) 2 0 5, by decide +kernel⟩,
   ⟨0, (State.reset).setF (Reg.PWR_DOM_STAT 0) 2 0 3, by decide +kernel⟩,
   ⟨0, 1, wFn (fun s => s.setDomX 0 { s.domX 0 with latched := some 1 }) ((State.reset).setF (Reg.PWR_DOM_STAT 0) 2 0 3), by decide +kernel, by decide +kernel, by decide +kernel⟩,
   ⟨0, 1, (State.reset).setF (Reg.PWR_DOM_STAT 0) 2 0 3, by decide +kernel, by decide +kernel, by decide +kernel⟩⟩

theorem test_witness_PowerRequests_2 :
    (∃ (d : Nat) (st : Nat) (s : State) (u : State), s.domState d < 3 ∧ (s.kept d).isSome = true ∧ ((st = 1 ∨ st = 2)) ∧ u = (s.supersede d).keepReq d none) ∧
    (∃ (d : Nat) (s : State), (s.domState d = 1 ∨ s.domState d = 2) ∧ s.kept d = none ∧ s.held d = false ∧ s.domState d = 1 ∧ s.demoted d = false) ∧
    (∃ (d : Nat) (s : State), (s.domState d = 1 ∨ s.domState d = 2) ∧ s.kept d = none ∧ s.held d = false ∧ s.domState d = 2) ∧
    (∃ (d : Nat) (s : State), s.domState d = 1 ∧ s.kept d = none) ∧
    (∃ (d : Nat) (s : State), s.domState d = 0 ∧ s.kept d = none ∧ s.held d = true ∧ d < 122) ∧
    (∃ (d : Nat) (s : State), s.domState d = 0 ∧ s.kept d = none ∧ s.held d = false ∧ s.pllInUse d = true) ∧
    (∃ (d : Nat) (s : State), s.domState d = 0 ∧ s.kept d = none ∧ s.held d = false ∧ s.pllInUse d = false ∧ s.domInCycle d = true) ∧
    (∃ (d : Nat) (s : State), s.domState d = 0 ∧ s.kept d = none ∧ s.held d = false ∧ s.pllInUse d = false ∧ s.domInCycle d = false ∧ s.demoted d = false) ∧
    (∃ (d : Nat) (s : State), s.domState d = 0 ∧ s.kept d = none ∧ s.held d = false ∧ s.pllInUse d = false ∧ s.domInCycle d = false ∧ s.demoted d = true ∧ (s.raise 211 4).domState d = 0 ∧ (s.raise 211 4).domInCycle d = false) ∧
    (∃ (d : Nat) (s : State), s.domState d = 0 ∧ s.kept d = none ∧ d ≠ domNv) :=
  ⟨⟨0, 1, ((State.reset).setF (Reg.PWR_DOM_STAT 0) 2 0 0).setB (Reg.PWR_DOM_STAT 0) 16 true, _, by decide +kernel, by decide +kernel, by decide +kernel, rfl⟩,
   ⟨0, (State.reset).setF (Reg.PWR_DOM_STAT 0) 2 0 1, by decide +kernel, by decide +kernel, by decide +kernel, by decide +kernel, by decide +kernel⟩,
   ⟨0, (State.reset).setF (Reg.PWR_DOM_STAT 0) 2 0 2, by decide +kernel, by decide +kernel, by decide +kernel, by decide +kernel⟩,
   ⟨0, (State.reset).setF (Reg.PWR_DOM_STAT 0) 2 0 1, by decide +kernel, by decide +kernel⟩,
   ⟨0, ((State.reset).setF (Reg.PWR_DOM_STAT 0) 2 0 0).setF (Reg.PWR_DOM_STAT 0) 31 24 1, by decide +kernel, by decide +kernel, by decide +kernel, by decide +kernel⟩,
   ⟨116, ((State.reset).setF (Reg.PWR_DOM_STAT 116) 2 0 0).setR (Reg.CLK_ADPLL_OUT_CTL 2 0) 0x80000001, by decide +kernel, by decide +kernel, by decide +kernel, by decide +kernel⟩,
   ⟨48, ((State.reset).setF (Reg.PWR_DOM_STAT 48) 2 0 0).setEngState 0 3, by decide +kernel, by decide +kernel, by decide +kernel, by decide +kernel, by decide +kernel⟩,
   ⟨0, (State.reset).setF (Reg.PWR_DOM_STAT 0) 2 0 0, by decide +kernel, by decide +kernel, by decide +kernel, by decide +kernel, by decide +kernel, by decide +kernel⟩,
   ⟨0, (((State.reset).setF (Reg.PWR_DOM_STAT 0) 2 0 0).setD Reg.CFG_STG_SECT 1).setF Reg.CFG_STG_STAT 2 0 2, by decide +kernel, by decide +kernel, by decide +kernel, by decide +kernel, by decide +kernel, by decide +kernel, by decide +kernel, by decide +kernel⟩,
   ⟨0, (State.reset).setF (Reg.PWR_DOM_STAT 0) 2 0 0, by decide +kernel, by decide +kernel, by decide +kernel⟩⟩

theorem test_witness_PowerRequests_3 :
    (∃ (d : Fin 135) (s : State), s.domState d = 0 ∧ s.idleTime d ≠ 0 ∧ (s.idleTime d : Int) ≤ tdiff s.time (s.domX d).active ∧ s.held d = false ∧ s.domInCycle d = false ∧ s.pllInUse d = false) ∧
    (∃ (d : Fin 135) (s : State), ((s.domState d ≠ 0 ∨ s.idleTime d = 0 ∨ tdiff s.time (s.domX d).active < (s.idleTime d : Int) ∨ s.held d = true ∨ s.domInCycle d = true ∨ s.pllInUse d = true))) ∧
    (∃ (d : Fin 135) (src : Fin 16) (s : State), ((src.val = 0 ∨ 11 < src.val))) ∧
    (∃ (d : Fin 135) (src : Fin 16) (s : State), 5 ≤ s.domState d) ∧
    (∃ (d : Fin 135) (s : State), ((d.val < 48 ∨ 116 ≤ d.val))) ∧
    (∃ (d : Fin 135) (s : State) (n : Nat), d.val = 48 + n ∧ n < 68 ∧ s.logicalOf n = none) ∧
    (∃ (d : Fin 135) (src : Fin 16) (s : State), 1 ≤ src.val ∧ src.val ≤ 11 ∧ src.val ≠ 8 ∧ s.domState d = 0) ∧
    (∃ (d : Fin 135) (src : Fin 16) (s : State), 1 ≤ src.val ∧ src.val ≤ 11 ∧ src.val ≠ 8 ∧ ((s.domState d = 1 ∨ s.domState d = 2))) ∧
    (∃ (d : Fin 135) (src : Fin 16) (s : State), 1 ≤ src.val ∧ src.val ≤ 11 ∧ src.val ≠ 8 ∧ ((s.domState d = 3 ∨ s.domState d = 4)) ∧ (s.domX d).latched = none ∧ s.kept d = none) :=
  ⟨⟨0, wAt 0x1000000 (((State.reset).setF (Reg.PWR_DOM_STAT 0) 2 0 0).setF (Reg.PWR_DOM_CTL 0) 23 0 1), by decide +kernel, by decide +kernel, by decide +kernel, by decide +kernel, by decide +kernel, by decide +kernel⟩,
   ⟨0, State.reset, by decide +kernel⟩,
   ⟨0, 0, State.reset, by decide +kernel⟩,
   ⟨0, 0, (State.reset).setF (Reg.PWR_DOM_STAT 0) 2 0 5, by decide +kernel⟩,
   ⟨0, State.reset, by decide +kernel⟩,
   ⟨112, State.reset, 64, by decide +kernel, by decide +kernel, by decide +kernel⟩,
   ⟨0, 1, (State.reset).setF (Reg.PWR_DOM_STAT 0) 2 0 0, by decide +kernel, by decide +kernel, by decide +kernel, by decide +kernel⟩,
   ⟨0, 1, (State.reset).setF (Reg.PWR_DOM_STAT 0) 2 0 1, by decide +kernel, by decide +kernel, by decide +kernel, by decide +kernel⟩,
   ⟨0, 1, (wFn (fun s => s.setDomX 0 { s.domX 0 with latched := none }) (State.reset)).setF (Reg.PWR_DOM_STAT 0) 2 0 3, by decide +kernel, by decide +kernel, by decide +kernel, by decide +kernel, by decide +kernel, by decide +kernel⟩⟩

theorem test_witness_PowerTransitionsEnd :
    (∃ (d : Fin 135) (s : State), s.domState d ≠ 3 ∧ s.domState d ≠ 4) ∧
    (∃ (d : Fin 135) (s : State) (u : State), s.domState d = 3 ∧ d.val < 48 ∧ (s.domX d).latched = none ∧ u = (s.setDomX d ({ s.domX d with entries := (s.domX d).entries + 1, canaries := (List.range (domBanks d)).map (fun k => canary d k ((s.domX d).entries + 1)), checks := (List.range (domBanks d)).map (fun k => canary d k ((s.domX d).entries + 1)), save := s.saveArea d, saveCrc := crc32 (s.saveArea d), bankCrc := (List.range (domBanks d)).map (fun k => crc32 (s.bankBytes d k)), blockCrc := crc32 (s.blockBytes d) } : Domain)).setF (Reg.PWR_DOM_STAT d) 2 0 1) ∧
    (∃ (d : Fin 135) (s : State) (u : State) (src : Nat) (t : DWord), s.domState d = 4 ∧ d.val < 48 ∧ (s.domX d).latched = some (src, t) ∧ u = (s.setDomX d { s.domX d with canaries := [], checks := [], save := [], saveCrc := 0, bankCrc := [], blockCrc := 0 }).setF (Reg.PWR_DOM_STAT d) 2 0 2) ∧
    (∃ (d : Fin 135) (r : Retention) (s : State), s.domState d ≠ 5) ∧
    (∃ (d : Fin 135) (s : State), s.domState d = 5 ∧ (s.domX d).copyWake = false ∧ d.val < 48 ∧ (s.domX d).badBank = none) ∧
    (∃ (d : Fin 135) (s : State) (k : _), s.domState d = 5 ∧ (s.domX d).copyWake = false ∧ d.val < 48 ∧ (s.domX d).badBank = some k) ∧
    (∃ (d : Fin 135) (k : Fin 33) (s : State), s.domState d = 5 ∧ (s.domX d).copyWake = false ∧ k.val < domBanks d) ∧
    (∃ (d : Fin 135) (k : Fin 33) (s : State), s.domState d = 5 ∧ (s.domX d).copyWake = false ∧ domBanks d ≤ k.val) ∧
    (∃ (d : Fin 135) (s : State), s.domState d = 5 ∧ (s.domX d).copyWake = false ∧ 48 ≤ d.val) ∧
    (∃ (d : Fin 135) (r : Retention) (s : State), s.domState d = 5 ∧ (s.domX d).copyWake = true) :=
  ⟨⟨0, State.reset, by decide +kernel, by decide +kernel⟩,
   ⟨0, wFn (fun s => s.setDomX 0 { s.domX 0 with latched := none }) ((State.reset).setF (Reg.PWR_DOM_STAT 0) 2 0 3), _, by decide +kernel, by decide +kernel, by decide +kernel, rfl⟩,
   ⟨0, wFn (fun s => s.setDomX 0 { s.domX 0 with latched := some (0, 0) }) ((State.reset).setF (Reg.PWR_DOM_STAT 0) 2 0 4), _, 0, 0, by decide +kernel, by decide +kernel, by decide +kernel, rfl⟩,
   ⟨0, .ok, State.reset, by decide +kernel⟩,
   ⟨0, (State.reset).setF (Reg.PWR_DOM_STAT 0) 2 0 5, by decide +kernel, by decide +kernel, by decide +kernel, by decide +kernel⟩,
   ⟨0, wFn (fun s => s.setDomX 0 { s.domX 0 with canaries := [1], checks := [2] }) ((State.reset).setF (Reg.PWR_DOM_STAT 0) 2 0 5), _, by decide +kernel, by decide +kernel, by decide +kernel, rfl⟩,
   ⟨0, 0, wFn (fun s => s.setDomX 0 { s.domX 0 with copyWake := false }) ((State.reset).setF (Reg.PWR_DOM_STAT 0) 2 0 5), by decide +kernel, by decide +kernel, by decide +kernel⟩,
   ⟨48, 32, wFn (fun s => s.setDomX 48 { s.domX 48 with copyWake := false }) ((State.reset).setF (Reg.PWR_DOM_STAT 48) 2 0 5), by decide +kernel, by decide +kernel, by decide +kernel⟩,
   ⟨48, wFn (fun s => s.setDomX 48 { s.domX 48 with copyWake := false }) ((State.reset).setF (Reg.PWR_DOM_STAT 48) 2 0 5), by decide +kernel, by decide +kernel, by decide +kernel⟩,
   ⟨0, .ok, wFn (fun s => s.setDomX 0 { s.domX 0 with copyWake := true }) ((State.reset).setF (Reg.PWR_DOM_STAT 0) 2 0 5), by decide +kernel, by decide +kernel⟩⟩

theorem test_witness_PowerTransitionsEnd_2 :
    (∃ (d : Fin 135) (s : State), s.domState d ≠ 6) ∧
    (∃ (d : Fin 135) (s : State), s.domState d = 6 ∧ d.val < 48) :=
  ⟨⟨0, State.reset, by decide +kernel⟩,
   ⟨0, (State.reset).setF (Reg.PWR_DOM_STAT 0) 2 0 6, by decide +kernel, by decide +kernel⟩⟩

theorem test_witness_IntakeAndWarnings :
    (∃ (s : State) (u : State) (v : State) (w : State) (z : State), s.warned = false ∧ u = (s.setB Reg.ANA_IN_STAT 16 true).setB Reg.ANA_IN_STAT 17 false ∧ v = (u.addF Reg.ANA_WARN_CNT 15 0 1).setF Reg.ANA_DIP_MIN 15 0 (u.getF Reg.ANA_IN_STAT 15 0) ∧ w = (({ v with boot := { v.boot with warns := min 255 (v.boot.warns + 1) } } : State).raise 200 1).nvWarn ∧ z = w.ana.stagger.foldl (fun s k => if s.getB (Reg.ANA_AUX_STAT k) 1 then s else s.setB (Reg.ANA_AUX_STAT k) 5 true) w) ∧
    (∃ (s : State), s.warned = true ∧ s.getB Reg.ANA_IN_STAT 17 = false) ∧
    (∃ (s : State), ((s.warned = false ∨ s.getB Reg.ANA_IN_STAT 17 = true))) ∧
    (∃ (s : State), ((s.warned = false ∨ s.getB Reg.ANA_IN_STAT 17 = false ∨ (s.timeRuns = true ∧ atOrAfter s.time (s.ana.clearAt + units (500 * unitsPerUs)) = false)))) ∧
    (∃ (s : State) (u : State) (v : State) (l : List Nat), s.warned = true ∧ s.getB Reg.ANA_IN_STAT 17 = true ∧ ((s.timeRuns = false ∨ atOrAfter s.time (s.ana.clearAt + units (500 * unitsPerUs)) = true)) ∧ u = ((((s.setB Reg.ANA_IN_STAT 16 false).setB Reg.ANA_IN_STAT 17 false).raise 201 1).nvClear.waitingWriteBack none).releaseData ∧ l = (List.range 8).filter (fun k => u.auxEn k && !u.auxLive k && (u.getB (Reg.ANA_AUX_STAT k) 5 || (u.auxOut k).returns)) ∧ v = (List.range 8).foldl (fun s k => if l.contains k then s else s.setB (Reg.ANA_AUX_STAT k) 1 false) u) ∧
    (∃ (p : Fin 2) (s : State), s.getF (Reg.ANA_PORT_STAT p) 6 4 ≠ 0) ∧
    (∃ (p : Fin 2) (s : State), s.getF (Reg.ANA_PORT_STAT p) 6 4 = 0) ∧
    (∃ (p : Fin 2) (s : State), s.getF (Reg.ANA_PORT_STAT p) 6 4 < 3) ∧
    (∃ (p : Fin 2) (s : State), 3 ≤ s.getF (Reg.ANA_PORT_STAT p) 6 4) ∧
    (∃ (p : Fin 2) (s : State), s.getF (Reg.ANA_PORT_STAT p) 6 4 ≠ 3) :=
  ⟨⟨State.reset, _, _, _, _, by decide +kernel, rfl, rfl, rfl, rfl⟩,
   ⟨((State.reset).setB Reg.ANA_IN_STAT 16 true).setB Reg.ANA_IN_STAT 17 false, by decide +kernel, by decide +kernel⟩,
   ⟨State.reset, by decide +kernel⟩,
   ⟨State.reset, by decide +kernel⟩,
   ⟨((State.reset).setB Reg.ANA_IN_STAT 16 true).setB Reg.ANA_IN_STAT 17 true, _, _, _, by decide +kernel, by decide +kernel, by decide +kernel, rfl, rfl, rfl⟩,
   ⟨0, (State.reset).setF (Reg.ANA_PORT_STAT 0) 6 4 1, by decide +kernel⟩,
   ⟨0, (State.reset).setF (Reg.ANA_PORT_STAT 0) 6 4 0, by decide +kernel⟩,
   ⟨0, State.reset, by decide +kernel⟩,
   ⟨0, (State.reset).setF (Reg.ANA_PORT_STAT 0) 6 4 3, by decide +kernel⟩,
   ⟨0, (State.reset).setF (Reg.ANA_PORT_STAT 0) 6 4 0, by decide +kernel⟩⟩

theorem test_witness_IntakeAndWarnings_2 :
    (∃ (p : Fin 2) (s : State), s.getF (Reg.ANA_PORT_STAT p) 6 4 ≠ 4) ∧
    (∃ (p : Fin 2) (s : State), s.getF (Reg.ANA_PORT_STAT p) 6 4 = 3) ∧
    (∃ (p : Fin 2) (s : State), s.getF (Reg.ANA_PORT_STAT p) 6 4 = 4) ∧
    (∃ (m : PowerSample) (s : State) (u : State) (v : State) (w : State), u = (((s.portMeasure 0 m.vin.1 m.iin.1 m.pin.1).portMeasure 1 m.vin.2 m.iin.2 m.pin.2).putEach Reg.ANA_RAIL 15 0 0 (m.rail.take 4)).putEach Reg.ANA_AUX_STAT 31 16 0 (m.aux.take 8) ∧ v = u.setF Reg.ANA_IN_STAT 15 0 (max m.vin.1.toNat m.vin.2.toNat) ∧ w = (if v.warned = true ∧ max m.vin.1.toNat m.vin.2.toNat < v.getF Reg.ANA_DIP_MIN 15 0 then v.setF Reg.ANA_DIP_MIN 15 0 (max m.vin.1.toNat m.vin.2.toNat) else v) ∧ m.pin.1.toNat + m.pin.2.toNat ≤ w.getF Reg.ANA_PIN_WARN 15 0) ∧
    (∃ (m : PowerSample) (s : State) (u : State) (v : State) (w : State), u = (((s.portMeasure 0 m.vin.1 m.iin.1 m.pin.1).portMeasure 1 m.vin.2 m.iin.2 m.pin.2).putEach Reg.ANA_RAIL 15 0 0 (m.rail.take 4)).putEach Reg.ANA_AUX_STAT 31 16 0 (m.aux.take 8) ∧ v = u.setF Reg.ANA_IN_STAT 15 0 (max m.vin.1.toNat m.vin.2.toNat) ∧ w = (if v.warned = true ∧ max m.vin.1.toNat m.vin.2.toNat < v.getF Reg.ANA_DIP_MIN 15 0 then v.setF Reg.ANA_DIP_MIN 15 0 (max m.vin.1.toNat m.vin.2.toNat) else v) ∧ w.getF Reg.ANA_PIN_WARN 15 0 < m.pin.1.toNat + m.pin.2.toNat) :=
  ⟨⟨0, (State.reset).setF (Reg.ANA_PORT_STAT 0) 6 4 0, by decide +kernel⟩,
   ⟨0, (State.reset).setF (Reg.ANA_PORT_STAT 0) 6 4 3, by decide +kernel⟩,
   ⟨0, (State.reset).setF (Reg.ANA_PORT_STAT 0) 6 4 4, by decide +kernel⟩,
   ⟨⟨(0, 0), (0, 0), (0, 0), [], []⟩, State.reset, _, _, _, rfl, rfl, rfl, by decide +kernel⟩,
   ⟨⟨(0, 0), (0, 0), (0xFFFF, 0xFFFF), [], []⟩, State.reset, _, _, _, rfl, rfl, rfl, by decide +kernel⟩⟩

theorem test_witness_AuxiliaryOutputs :
    (∃ (k : Nat) (w : Word) (s : State), k < 8) ∧
    (∃ (k : Nat) (w : Word) (s : State), 8 ≤ k) ∧
    (∃ (c : CmdRef) (s : State) (x : Command), s.turn c 7 2 = some x ∧ ((7 < beAt x.payload 0 1 ∨ 1 < beAt x.payload 1 1 ∨ 2 < beAt x.payload 2 1))) ∧
    (∃ (c : CmdRef) (s : State) (x : Command), s.turn c 7 2 = some x ∧ beAt x.payload 0 1 ≤ 7 ∧ beAt x.payload 1 1 ≤ 1 ∧ beAt x.payload 2 1 ≤ 2) ∧
    (∃ (k : Nat) (w : Word) (s : State) (u : State), bitOf w 0 = true ∧ u = s.store (Reg.ANA_AUX_CTL k) w ∧ u.thermCrit = true) ∧
    (∃ (k : Nat) (w : Word) (s : State) (u : State) (v : State), bitOf w 0 = true ∧ u = s.store (Reg.ANA_AUX_CTL k) w ∧ u.thermCrit = false ∧ v = (((u.setB (Reg.ANA_AUX_STAT k) 2 false).setB (Reg.ANA_AUX_STAT k) 3 false).setB (Reg.ANA_AUX_STAT k) 4 false).setB (Reg.ANA_AUX_STAT k) 6 false ∧ v.auxLive k = true) ∧
    (∃ (k : Nat) (w : Word) (s : State) (u : State) (v : State), bitOf w 0 = true ∧ u = s.store (Reg.ANA_AUX_CTL k) w ∧ u.thermCrit = false ∧ v = (((u.setB (Reg.ANA_AUX_STAT k) 2 false).setB (Reg.ANA_AUX_STAT k) 3 false).setB (Reg.ANA_AUX_STAT k) 4 false).setB (Reg.ANA_AUX_STAT k) 6 false ∧ v.auxLive k = false ∧ v.warned = false) ∧
    (∃ (k : Nat) (w : Word) (s : State) (u : State) (v : State), bitOf w 0 = true ∧ u = s.store (Reg.ANA_AUX_CTL k) w ∧ u.thermCrit = false ∧ v = (((u.setB (Reg.ANA_AUX_STAT k) 2 false).setB (Reg.ANA_AUX_STAT k) 3 false).setB (Reg.ANA_AUX_STAT k) 4 false).setB (Reg.ANA_AUX_STAT k) 6 false ∧ v.auxLive k = false ∧ v.warned = true) ∧
    (∃ (k : Nat) (w : Word) (s : State) (u : State), bitOf w 0 = false ∧ u = ((s.store (Reg.ANA_AUX_CTL k) w).auxOff k).setB (Reg.ANA_AUX_STAT k) 1 false) ∧
    (∃ (k : Fin 8) (s : State), (s.auxOut k).starting = true ∧ atOrAfter s.time ((s.auxOut k).since + units (5 * unitsPerMs)) = true) :=
  ⟨⟨0, 0, State.reset, by decide +kernel⟩,
   ⟨8, 0, State.reset, by decide +kernel⟩,
   ⟨wRef, wCom (wCmd 7 2 ([8, 2, 3, 0, 0, 0, 0, 0, 0, 0, 0, 0, 0, 0, 0, 0, 0, 0, 0, 0, 0, 0, 0, 0])) State.reset, (wCmd 7 2 ([8, 2, 3, 0, 0, 0, 0, 0, 0, 0, 0, 0, 0, 0, 0, 0, 0, 0, 0, 0, 0, 0, 0, 0])), by decide +kernel, by decide +kernel⟩,
   ⟨wRef, wCom (wCmd 7 2 (List.replicate 24 0)) State.reset, (wCmd 7 2 (List.replicate 24 0)), by decide +kernel, by decide +kernel, by decide +kernel, by decide +kernel⟩,
   ⟨0, 0x1, (State.reset).setB Reg.ANA_IN_STAT 19 true, _, by decide +kernel, rfl, by decide +kernel⟩,
   ⟨0, 0x1, (State.reset).setB (Reg.ANA_AUX_STAT 0) 0 true, _, _, by decide +kernel, rfl, by decide +kernel, rfl, by decide +kernel⟩,
   ⟨0, 0x1, State.reset, _, _, by decide +kernel, rfl, by decide +kernel, rfl, by decide +kernel, by decide +kernel⟩,
   ⟨0, 0x1, (State.reset).setB Reg.ANA_IN_STAT 16 true, _, _, by decide +kernel, rfl, by decide +kernel, rfl, by decide +kernel, by decide +kernel⟩,
   ⟨0, 0x0, State.reset, _, by decide +kernel, rfl⟩,
   ⟨0, wAt 0x10000000000 (wFn (fun s => s.setAux 0 { s.auxOut 0 with starting := true }) (State.reset)), by decide +kernel, by decide +kernel⟩⟩

theorem test_witness_AuxiliaryOutputs_2 :
    (∃ (k : Fin 8) (s : State), atOrAfter s.time ((s.auxOut k).since + units (5 * unitsPerMs)) = false) ∧
    (∃ (k : Fin 8) (s : State), (s.auxOut k).starting = false) ∧
    (∃ (k : Fin 8) (s : State), s.getB (Reg.ANA_AUX_STAT k) 0 = false ∧ ((s.getB (Reg.ANA_AUX_STAT k) 1 = false ∨ (s.auxOut k).since ≠ s.time))) ∧
    (∃ (k : Fin 8) (s : State), ((s.getB (Reg.ANA_AUX_STAT k) 0 = true ∨ (s.getB (Reg.ANA_AUX_STAT k) 1 = true ∧ (s.auxOut k).since = s.time)))) ∧
    (∃ (n : Nat) (s : State), n ≤ 600) ∧
    (∃ (n : Nat) (k : Nat) (s : State), 600 < n ∧ s.shedFirst ((List.range 8).filter (fun k => s.auxLive k)) = some k) ∧
    (∃ (n : Nat) (s : State), s.shedFirst ((List.range 8).filter (fun k => s.auxLive k)) = none) ∧
    (∃ (k : Nat) (l : List Nat) (s : State) (u : State), s.ana.stagger = k :: l ∧ s.warned = false ∧ atOrAfter s.time s.ana.staggerAt = true ∧ u = { s with ana := { s.ana with stagger := l, staggerAt := s.time + units (200 * unitsPerUs) } } ∧ ((u.auxEn k = false ∨ u.thermCrit = true ∨ u.auxLive k = true))) ∧
    (∃ (s : State), (s.ana.stagger = [] ∨ s.warned = true ∨ atOrAfter s.time s.ana.staggerAt = false)) ∧
    (∃ (k : Nat) (l : List Nat) (s : State) (u : State), s.ana.stagger = k :: l ∧ s.warned = false ∧ atOrAfter s.time s.ana.staggerAt = true ∧ u = { s with ana := { s.ana with stagger := l, staggerAt := s.time + units (200 * unitsPerUs) } } ∧ u.auxEn k = true ∧ u.thermCrit = false ∧ u.auxLive k = false ∧ s.getB (Reg.ANA_AUX_STAT k) 1 = true) :=
  ⟨⟨0, State.reset, by decide +kernel⟩,
   ⟨0, wFn (fun s => s.setAux 0 { s.auxOut 0 with starting := false }) (State.reset), by decide +kernel⟩,
   ⟨0, (State.reset).setB (Reg.ANA_AUX_STAT 0) 0 false, by decide +kernel, by decide +kernel⟩,
   ⟨0, (State.reset).setB (Reg.ANA_AUX_STAT 0) 0 true, Or.inl (by decide +kernel)⟩,
   ⟨0, State.reset, by decide +kernel⟩,
   ⟨601, 0, (State.reset).setB (Reg.ANA_AUX_STAT 0) 0 true, by decide +kernel, by decide +kernel⟩,
   ⟨601, State.reset, by decide +kernel⟩,
   ⟨0, [], wFn (fun s => { s with ana := { s.ana with stagger := 0 :: ([]) } }) (State.reset), _, by decide +kernel, by decide +kernel, by decide +kernel, rfl, Or.inl (by decide +kernel)⟩,
   ⟨State.reset, Or.inl (by decide +kernel)⟩,
   ⟨0, [], wAt 0 (wFn (fun s => { s with ana := { s.ana with staggerAt := 0 } }) (((wFn (fun s => { s with ana := { s.ana with stagger := 0 :: ([]) } }) (State.reset)).setB (Reg.ANA_AUX_STAT 0) 1 true).setB (Reg.ANA_AUX_CTL 0) 0 true)), _, by decide +kernel, by decide +kernel, by decide +kernel, rfl, by decide +kernel, by decide +kernel, by decide +kernel, by decide +kernel⟩⟩

theorem test_witness_AuxiliaryOutputs_3 :
    (∃ (k : Nat) (l : List Nat) (s : State) (u : State), s.ana.stagger = k :: l ∧ s.warned = false ∧ atOrAfter s.time s.ana.staggerAt = true ∧ u = { s with ana := { s.ana with stagger := l, staggerAt := s.time + units (200 * unitsPerUs) } } ∧ u.auxEn k = true ∧ u.thermCrit = false ∧ u.auxLive k = false ∧ s.getB (Reg.ANA_AUX_STAT k) 1 = false) ∧
    (∃ (t : List (BitVec 16)) (s : State) (u : State), u = s.senseAll 0 (t.take 8) ∧ u.ana.hot = []) ∧
    (∃ (t : List (BitVec 16)) (s : State) (u : State), u = s.senseAll 0 (t.take 8) ∧ u.ana.hot ≠ [] ∧ s.thermCrit = true) ∧
    (∃ (t : List (BitVec 16)) (s : State) (u : State), u = s.senseAll 0 (t.take 8) ∧ u.ana.hot ≠ [] ∧ s.thermCrit = false) :=
  ⟨⟨0, [], wAt 0 (wFn (fun s => { s with ana := { s.ana with staggerAt := 0 } }) (((wFn (fun s => { s with ana := { s.ana with stagger := 0 :: ([]) } }) (State.reset)).setB (Reg.ANA_AUX_STAT 0) 1 false).setB (Reg.ANA_AUX_CTL 0) 0 true)), _, by decide +kernel, by decide +kernel, by decide +kernel, rfl, by decide +kernel, by decide +kernel, by decide +kernel, by decide +kernel⟩,
   ⟨[], State.reset, _, rfl, by decide +kernel⟩,
   ⟨[0x7FFF], (State.reset).setB Reg.ANA_IN_STAT 19 true, _, rfl, by decide +kernel, by decide +kernel⟩,
   ⟨[0x7FFF], State.reset, _, rfl, by decide +kernel, by decide +kernel⟩⟩

theorem test_witness_RecipeKeyPort :
    (∃ (k : KeyChip) (s : State) (u : State), s.key.chip = none ∧ u = ({ s with key := { s.key with chip := some k } } : State).raise 192 1) ∧
    (∃ (k : KeyChip) (j : KeyChip) (s : State), s.key.chip = some j) ∧
    (∃ (s : State), s.key.chip = none) ∧
    (∃ (s : State) (u : State) (v : State) (k : KeyChip), s.key.chip = some k ∧ u = { s.dropDue with key := { s.dropDue.key with chip := none, retry := false, discover := false, auto := false, goldOk := false, due := none, bound := [], dirty := [], journal := none, wbDue := false, wbCmd := none, rescan := none } } ∧ v = (((u.addF Reg.KEY_WB_LOST 15 0 s.key.dirty.length).raise 193 1).raise 197 2).keyGone.cutStaging) ∧
    (∃ (s : State) (k : KeyChip), s.key.chip = some k ∧ ((s.key.discover = false ∨ s.key.retry = true ∨ s.getB Reg.KEY_STAT 10 = true ∨ s.domOn domKey = false))) ∧
    (∃ (s : State) (u : State) (k : KeyChip) (good : Bool), s.key.chip = some k ∧ s.key.discover = true ∧ s.key.retry = false ∧ s.getB Reg.KEY_STAT 10 = false ∧ s.domOn domKey = true ∧ u = (if s.getB Reg.KEY_STAT 4 then s else s.keyPower) ∧ good = (if u.getB Reg.KEY_STAT 5 then k.sfdp33 else k.sfdp18) ∧ good = false ∧ u.getF Reg.KEY_CTL 5 4 = 2 ∧ u.getB Reg.KEY_STAT 5 = false) ∧
    (∃ (s : State) (u : State) (k : KeyChip) (good : Bool), s.key.chip = some k ∧ s.key.discover = true ∧ s.key.retry = false ∧ s.getB Reg.KEY_STAT 10 = false ∧ s.domOn domKey = true ∧ u = (if s.getB Reg.KEY_STAT 4 then s else s.keyPower) ∧ good = (if u.getB Reg.KEY_STAT 5 then k.sfdp33 else k.sfdp18) ∧ good = false ∧ (u.getF Reg.KEY_CTL 5 4 ≠ 2 ∨ u.getB Reg.KEY_STAT 5 = true)) ∧
    (∃ (s : State) (u : State) (k : KeyChip) (good : Bool), s.key.chip = some k ∧ s.key.discover = true ∧ s.key.retry = false ∧ s.getB Reg.KEY_STAT 10 = false ∧ s.domOn domKey = true ∧ u = (if s.getB Reg.KEY_STAT 4 then s else s.keyPower) ∧ good = (if u.getB Reg.KEY_STAT 5 then k.sfdp33 else k.sfdp18) ∧ good = true ∧ 2 ^ 29 < k.size) ∧
    (∃ (s : State) (u : State) (k : KeyChip) (good : Bool), s.key.chip = some k ∧ s.key.discover = true ∧ s.key.retry = false ∧ s.getB Reg.KEY_STAT 10 = false ∧ s.domOn domKey = true ∧ u = (if s.getB Reg.KEY_STAT 4 then s else s.keyPower) ∧ good = (if u.getB Reg.KEY_STAT 5 then k.sfdp33 else k.sfdp18) ∧ good = true ∧ k.size ≤ 2 ^ 29) ∧
    (∃ (s : State), s.key.retry = true) :=
  ⟨⟨wKey, wFn (fun s => { s with key := { s.key with chip := none } }) (State.reset), _, by decide +kernel, rfl⟩,
   ⟨wKey, wKey, wFn (fun s => { s with key := { s.key with chip := some wKey } }) (State.reset), by decide +kernel⟩,
   ⟨wFn (fun s => { s with key := { s.key with chip := none } }) (State.reset), by decide +kernel⟩,
   ⟨wFn (fun s => { s with key := { s.key with chip := some wKey } }) (State.reset), _, _, wKey, by decide +kernel, rfl, rfl⟩,
   ⟨wFn (fun s => { s with key := { s.key with chip := some wKey } }) (State.reset), wKey, by decide +kernel, by decide +kernel⟩,
   ⟨(wFn (fun s => { s with key := { s.key with chip := some ⟨[], 1048576, false, true, true, true⟩ } }) (((wFn (fun s => { s with key := { s.key with retry := false } }) (wFn (fun s => { s with key := { s.key with discover := true } }) (wFn (fun s => { s with key := { s.key with chip := some ((⟨[], 1048576, false, true, true, true⟩ : KeyChip)) } }) (State.reset)))).setB Reg.KEY_STAT 10 false).setF (Reg.PWR_DOM_STAT domKey) 2 0 0)).setF Reg.KEY_CTL 5 4 2, _, (⟨[], 1048576, false, true, true, true⟩ : KeyChip), false, by decide +kernel, by decide +kernel, by decide +kernel, by decide +kernel, by decide +kernel, rfl, (by decide +kernel), rfl, by decide +kernel, by decide +kernel⟩,
   ⟨wFn (fun s => { s with key := { s.key with chip := some ({ wKey with sfdp18 := false } : KeyChip) } }) ((wFn (fun s => { s with key := { s.key with retry := false } }) (wFn (fun s => { s with key := { s.key with discover := true } }) (wFn (fun s => { s with key := { s.key with chip := some (({ wKey with sfdp18 := false } : KeyChip)) } }) (State.reset)))).setB Reg.KEY_STAT 10 false), _, ({ wKey with sfdp18 := false } : KeyChip), _, by decide +kernel, by decide +kernel, by decide +kernel, by decide +kernel, by decide +kernel, rfl, rfl, rfl, by decide +kernel⟩,
   ⟨wFn (fun s => { s with key := { s.key with chip := some ({ wKey with sfdp18 := true, size := 536870913 } : KeyChip) } }) ((wFn (fun s => { s with key := { s.key with retry := false } }) (wFn (fun s => { s with key := { s.key with discover := true } }) (wFn (fun s => { s with key := { s.key with chip := some (({ wKey with sfdp18 := true, size := 536870913 } : KeyChip)) } }) (State.reset)))).setB Reg.KEY_STAT 10 false), _, ({ wKey with sfdp18 := true, size := 536870913 } : KeyChip), _, by decide +kernel, by decide +kernel, by decide +kernel, by decide +kernel, by decide +kernel, rfl, rfl, rfl, by decide +kernel⟩,
   ⟨(wFn (fun s => { s with key := { s.key with retry := false } }) (wFn (fun s => { s with key := { s.key with discover := true } }) (wFn (fun s => { s with key := { s.key with chip := some wKey } }) (State.reset)))).setB Reg.KEY_STAT 10 false, _, wKey, _, by decide +kernel, by decide +kernel, by decide +kernel, by decide +kernel, by decide +kernel, rfl, rfl, rfl, by decide +kernel⟩,
   ⟨wFn (fun s => { s with key := { s.key with retry := true } }) (State.reset), by decide +kernel⟩⟩

theorem test_witness_RecipeKeyPort_2 :
    (∃ (s : State), s.key.retry = false) ∧
    (∃ (s : State) (u : State) (v : State) (k : KeyChip), s.key.chip = some k ∧ s.getB Reg.KEY_STAT 4 = true ∧ u = (((s.setB Reg.KEY_STAT 4 false).setB Reg.KEY_STAT 10 true).setF Reg.KEY_STAT 7 6 0).setF Reg.KEY_STAT 2 0 4 ∧ v = (({ u with key := { u.key with discover := false, retry := false, auto := false, rescan := none } } : State).raise 195 8).cutStaging) ∧
    (∃ (s : State), s.getB Reg.KEY_STAT 4 = false) ∧
    (∃ (c : CmdRef) (s : State) (x : Command), s.turn c 6 1 = some x) ∧
    (∃ (w : Word) (s : State), bitOf w 0 = true ∧ bitOf w 1 = false ∧ bitOf w 2 = false ∧ s.keyBusy = false) ∧
    (∃ (w : Word) (s : State), bitOf w 0 = true ∧ bitOf w 1 = false ∧ bitOf w 2 = false ∧ s.keyBusy = true) ∧
    (∃ (s : State) (f : Nat), s.key.chip = none) ∧
    (∃ (s : State) (f : Nat) (k : KeyChip), s.key.chip = some k ∧ s.keyState ≠ 3) ∧
    (∃ (w : Word) (s : State) (k : KeyChip), bitOf w 0 = false ∧ bitOf w 1 = false ∧ bitOf w 2 = true ∧ s.keyBusy = false ∧ s.key.discover = false ∧ s.key.chip = some k ∧ s.getB Reg.KEY_STAT 10 = false) ∧
    (∃ (c : CmdRef) (s : State) (u : State) (x : Command) (k : KeyChip), s.turn c 6 4 = some x ∧ s.key.chip = some k ∧ s.getB Reg.KEY_STAT 10 = false ∧ s.keyBusy = false ∧ s.key.discover = false ∧ u = (s.pendingReply x).keyDiscover false) :=
  ⟨⟨wFn (fun s => { s with key := { s.key with retry := false } }) (State.reset), by decide +kernel⟩,
   ⟨(wFn (fun s => { s with key := { s.key with chip := some wKey } }) (State.reset)).setB Reg.KEY_STAT 4 true, _, _, wKey, by decide +kernel, by decide +kernel, rfl, rfl⟩,
   ⟨(State.reset).setB Reg.KEY_STAT 4 false, by decide +kernel⟩,
   ⟨wRef, wCom (wCmd 6 1 (List.replicate 24 0)) State.reset, (wCmd 6 1 (List.replicate 24 0)), by decide +kernel⟩,
   ⟨0x1, State.reset, by decide +kernel, by decide +kernel, by decide +kernel, by decide +kernel⟩,
   ⟨0x1, (State.reset).setB Reg.KEY_STAT 3 true, by decide +kernel, by decide +kernel, by decide +kernel, by decide +kernel⟩,
   ⟨wFn (fun s => { s with key := { s.key with chip := none } }) (State.reset), 0, by decide +kernel⟩,
   ⟨wFn (fun s => { s with key := { s.key with chip := some wKey } }) (State.reset), 0, wKey, by decide +kernel, by decide +kernel⟩,
   ⟨0x4, (wFn (fun s => { s with key := { s.key with chip := some wKey } }) (wFn (fun s => { s with key := { s.key with discover := false } }) (State.reset))).setB Reg.KEY_STAT 10 false, wKey, by decide +kernel, by decide +kernel, by decide +kernel, by decide +kernel, by decide +kernel, by decide +kernel, by decide +kernel⟩,
   ⟨wRef, wFn (fun s => { s with key := { s.key with discover := false } }) ((wFn (fun s => { s with key := { s.key with chip := some wKey } }) (wCom (wCmd 6 4 (List.replicate 24 0)) State.reset)).setB Reg.KEY_STAT 10 false), _, (wCmd 6 4 (List.replicate 24 0)), wKey, by decide +kernel, by decide +kernel, by decide +kernel, by decide +kernel, by decide +kernel, rfl⟩⟩

theorem test_witness_RecipeKeyPort_3 :
    (∃ (w : Word) (s : State), bitOf w 0 = false ∧ bitOf w 1 = false ∧ bitOf w 2 = true ∧ (s.keyBusy = true ∨ s.key.discover = true)) ∧
    (∃ (w : Word) (s : State), bitOf w 0 = false ∧ bitOf w 1 = false ∧ bitOf w 2 = true ∧ s.keyBusy = false ∧ s.key.discover = false ∧ (s.key.chip = none ∨ s.getB Reg.KEY_STAT 10 = true)) ∧
    (∃ (c : CmdRef) (s : State) (x : Command) (k : KeyChip), s.turn c 6 4 = some x ∧ s.key.chip = some k ∧ s.getB Reg.KEY_STAT 10 = true) ∧
    (∃ (c : CmdRef) (s : State) (x : Command) (k : KeyChip), s.turn c 6 4 = some x ∧ s.key.chip = some k ∧ s.getB Reg.KEY_STAT 10 = false ∧ (s.keyBusy = true ∨ s.key.discover = true)) ∧
    (∃ (c : CmdRef) (s : State) (x : Command), s.turn c 6 4 = some x ∧ s.key.chip = none) ∧
    (∃ (c : CmdRef) (s : State) (x : Command), s.turn c 6 0 = some x) ∧
    (∃ (c : CmdRef) (s : State) (x : Command), s.turn c 6 3 = some x ∧ s.key.chip = none) ∧
    (∃ (c : CmdRef) (s : State) (x : Command) (k : KeyChip), s.turn c 6 3 = some x ∧ s.key.chip = some k ∧ (beAt x.payload 4 2 = 0 ∨ 1024 < beAt x.payload 4 2)) ∧
    (∃ (c : CmdRef) (s : State) (x : Command) (k : KeyChip), s.turn c 6 3 = some x ∧ s.key.chip = some k ∧ 1 ≤ beAt x.payload 4 2 ∧ beAt x.payload 4 2 ≤ 1024 ∧ s.keyState ≠ 3) ∧
    (∃ (c : CmdRef) (s : State) (x : Command) (k : KeyChip), s.turn c 6 3 = some x ∧ s.key.chip = some k ∧ 1 ≤ beAt x.payload 4 2 ∧ beAt x.payload 4 2 ≤ 1024 ∧ s.keyState = 3 ∧ k.size < beAt x.payload 0 4 + beAt x.payload 4 2) :=
  ⟨⟨0x4, wFn (fun s => { s with key := { s.key with discover := true } }) (State.reset), by decide +kernel, by decide +kernel, by decide +kernel, Or.inr (by decide +kernel)⟩,
   ⟨0x4, State.reset, by decide +kernel, by decide +kernel, by decide +kernel, by decide +kernel, by decide +kernel, Or.inl (by decide +kernel)⟩,
   ⟨wRef, (wFn (fun s => { s with key := { s.key with chip := some wKey } }) (wCom (wCmd 6 4 (List.replicate 24 0)) State.reset)).setB Reg.KEY_STAT 10 true, (wCmd 6 4 (List.replicate 24 0)), wKey, by decide +kernel, by decide +kernel, by decide +kernel⟩,
   ⟨wRef, ((wFn (fun s => { s with key := { s.key with chip := some wKey } }) (wCom (wCmd 6 4 (List.replicate 24 0)) State.reset)).setB Reg.KEY_STAT 10 false).setB Reg.KEY_STAT 3 true, (wCmd 6 4 (List.replicate 24 0)), wKey, by decide +kernel, by decide +kernel, by decide +kernel, Or.inl (by decide +kernel)⟩,
   ⟨wRef, wFn (fun s => { s with key := { s.key with chip := none } }) (wCom (wCmd 6 4 (List.replicate 24 0)) State.reset), (wCmd 6 4 (List.replicate 24 0)), by decide +kernel, by decide +kernel⟩,
   ⟨wRef, wCom (wCmd 6 0 (List.replicate 24 0)) State.reset, (wCmd 6 0 (List.replicate 24 0)), by decide +kernel⟩,
   ⟨wRef, wFn (fun s => { s with key := { s.key with chip := none } }) (wCom (wCmd 6 3 (List.replicate 24 0)) State.reset), (wCmd 6 3 (List.replicate 24 0)), by decide +kernel, by decide +kernel⟩,
   ⟨wRef, wFn (fun s => { s with key := { s.key with chip := some wKey } }) (wCom (wCmd 6 3 ([0, 0, 0, 0, 4, 1, 0, 0, 0, 0, 0, 0, 0, 0, 0, 0, 0, 0, 0, 0, 0, 0, 0, 0])) State.reset), (wCmd 6 3 ([0, 0, 0, 0, 4, 1, 0, 0, 0, 0, 0, 0, 0, 0, 0, 0, 0, 0, 0, 0, 0, 0, 0, 0])), wKey, by decide +kernel, by decide +kernel, by decide +kernel⟩,
   ⟨wRef, wFn (fun s => { s with key := { s.key with chip := some wKey } }) (wCom (wCmd 6 3 ([0, 0, 0, 0, 0, 1, 0, 0, 0, 0, 0, 0, 0, 0, 0, 0, 0, 0, 0, 0, 0, 0, 0, 0])) State.reset), (wCmd 6 3 ([0, 0, 0, 0, 0, 1, 0, 0, 0, 0, 0, 0, 0, 0, 0, 0, 0, 0, 0, 0, 0, 0, 0, 0])), wKey, by decide +kernel, by decide +kernel, by decide +kernel, by decide +kernel, by decide +kernel⟩,
   ⟨wRef, (wFn (fun s => { s with key := { s.key with chip := some wKey } }) (wCom (wCmd 6 3 ([0xFF, 0xFF, 0xFF, 0xFF, 0, 1] ++ List.replicate 18 0)) State.reset)).setF Reg.KEY_STAT 2 0 3, (wCmd 6 3 ([0xFF, 0xFF, 0xFF, 0xFF, 0, 1] ++ List.replicate 18 0)), wKey, by decide +kernel, by decide +kernel, by decide +kernel, by decide +kernel, by decide +kernel, by decide +kernel⟩⟩

theorem test_witness_RecipeKeyPort_4 :
    (∃ (c : CmdRef) (s : State) (t : State) (x : Command) (k : KeyChip), s.turn c 6 3 = some x ∧ s.key.chip = some k ∧ 1 ≤ beAt x.payload 4 2 ∧ beAt x.payload 4 2 ≤ 1024 ∧ s.keyState = 3 ∧ beAt x.payload 0 4 + beAt x.payload 4 2 ≤ k.size ∧ s.submit 6 (beAt x.payload 0 4) (beAt x.payload 4 2) [] 0 (.host x.ref) = (t, 0)) :=
  ⟨wRef, (wFn (fun s => { s with key := { s.key with chip := some wKey } }) (wCom (wCmd 6 3 ([0, 0, 0, 0, 0, 1, 0, 0, 0, 0, 0, 0, 0, 0, 0, 0, 0, 0, 0, 0, 0, 0, 0, 0])) State.reset)).setF Reg.KEY_STAT 2 0 3, _, (wCmd 6 3 ([0, 0, 0, 0, 0, 1, 0, 0, 0, 0, 0, 0, 0, 0, 0, 0, 0, 0, 0, 0, 0, 0, 0, 0])), wKey, by decide +kernel, by decide +kernel, by decide +kernel, by decide +kernel, by decide +kernel, by decide +kernel, Prod.ext rfl (by decide +kernel)⟩

theorem test_witness_SettingsAndWriteBack :
    (∃ (f : Option Nat) (s : State), s.key.due = none) ∧
    (∃ (f : Option Nat) (s : State) (e : Nat) (k : KeyChip), s.key.due = some (e, false) ∧ s.key.chip = some k ∧ s.key.sel = none ∧ s.keyStaging = false ∧ s.warned = false ∧ s.keyLive = true ∧ s.key.dirty = []) ∧
    (∃ (f : Option Nat) (s : State) (u : State) (e : Nat) (k : KeyChip) (j : KeyChip), s.key.due = some (e, false) ∧ s.key.chip = some k ∧ s.key.sel = none ∧ s.keyStaging = false ∧ s.warned = false ∧ s.keyLive = true ∧ s.key.dirty ≠ [] ∧ u = { (s.writeBack f).1 with key := { (s.writeBack f).1.key with due := none } } ∧ u.key.chip = some j) ∧
    (∃ (f : Option Nat) (s : State), ((s.key.chip = none ∨ s.key.sel.isSome = true ∨ s.keyStaging = true ∨ s.warned = true ∨ s.keyLive = false))) ∧
    (∃ (s : State) (e : Nat) (k : KeyChip), k.be (e + 0x28) 4 ≠ 0 ∧ s.settingsSigned k e = false) ∧
    (∃ (f : Option Nat) (c : CmdRef) (s : State) (x : Command), s.turn c 6 2 = some x ∧ s.key.chip = none) ∧
    (∃ (f : Option Nat) (c : CmdRef) (s : State) (x : Command) (k : KeyChip), s.turn c 6 2 = some x ∧ s.key.chip = some k ∧ ((s.keyBusy = true ∨ s.key.wbCmd.isSome = true))) ∧
    (∃ (f : Option Nat) (w : Word) (s : State), bitOf w 0 = false ∧ bitOf w 1 = true ∧ bitOf w 2 = false ∧ s.keyBusy = true) ∧
    (∃ (f : Option Nat) (c : CmdRef) (s : State) (x : Command) (k : KeyChip), s.turn c 6 2 = some x ∧ s.key.chip = some k ∧ s.keyBusy = false ∧ s.key.wbCmd = none) ∧
    (∃ (f : Option Nat) (w : Word) (s : State) (t : State) (n : Nat), bitOf w 0 = false ∧ bitOf w 1 = true ∧ bitOf w 2 = false ∧ s.keyBusy = false ∧ s.keyStaging = false ∧ s.warned = false ∧ s.writeBack f = (t, n)) :=
  ⟨⟨none, wFn (fun s => { s with key := { s.key with due := none } }) (State.reset), by decide +kernel⟩,
   ⟨none, ((wFn (fun s => { s with key := { s.key with dirty := [] } }) (wFn (fun s => { s with key := { s.key with sel := none } }) (wFn (fun s => { s with key := { s.key with chip := some wKey } }) (wFn (fun s => { s with key := { s.key with due := some (0, false) } }) (State.reset))))).setB Reg.KEY_STAT 4 true).setF (Reg.PWR_DOM_STAT domKey) 2 0 0, 0, wKey, by decide +kernel, by decide +kernel, by decide +kernel, by decide +kernel, by decide +kernel, by decide +kernel, by decide +kernel⟩,
   ⟨none, wFn (fun s => { s with key := { s.key with dirty := [0] } }) (((wFn (fun s => { s with key := { s.key with sel := none } }) (wFn (fun s => { s with key := { s.key with chip := some wKey } }) (wFn (fun s => { s with key := { s.key with due := some (0, false) } }) (State.reset)))).setB Reg.KEY_STAT 4 true).setF (Reg.PWR_DOM_STAT domKey) 2 0 0), _, 0, wKey, wKey, by decide +kernel, by decide +kernel, by decide +kernel, by decide +kernel, by decide +kernel, by decide +kernel, by decide +kernel, rfl, by decide +kernel⟩,
   ⟨none, State.reset, by decide +kernel⟩,
   ⟨State.reset, 0, wKey, by decide +kernel, by decide +kernel⟩,
   ⟨none, wRef, wFn (fun s => { s with key := { s.key with chip := none } }) (wCom (wCmd 6 2 (List.replicate 24 0)) State.reset), (wCmd 6 2 (List.replicate 24 0)), by decide +kernel, by decide +kernel⟩,
   ⟨none, wRef, (wFn (fun s => { s with key := { s.key with chip := some wKey } }) (wCom (wCmd 6 2 (List.replicate 24 0)) State.reset)).setB Reg.KEY_STAT 3 true, (wCmd 6 2 (List.replicate 24 0)), wKey, by decide +kernel, by decide +kernel, Or.inl (by decide +kernel)⟩,
   ⟨none, 0x2, (State.reset).setB Reg.KEY_STAT 3 true, by decide +kernel, by decide +kernel, by decide +kernel, by decide +kernel⟩,
   ⟨none, wRef, wFn (fun s => { s with key := { s.key with wbCmd := none } }) (wFn (fun s => { s with key := { s.key with chip := some wKey } }) (wCom (wCmd 6 2 (List.replicate 24 0)) State.reset)), (wCmd 6 2 (List.replicate 24 0)), wKey, by decide +kernel, by decide +kernel, by decide +kernel, by decide +kernel⟩,
   ⟨none, 0x2, State.reset, _, 0, by decide +kernel, by decide +kernel, by decide +kernel, by decide +kernel, by decide +kernel, by decide +kernel, Prod.ext rfl (by decide +kernel)⟩⟩

theorem test_witness_SettingsAndWriteBack_2 :
    (∃ (f : Option Nat) (s : State) (t : State) (n : Nat), s.key.wbDue = false ∧ s.getB Reg.KEY_CTL 2 = true ∧ s.key.dirty ≠ [] ∧ s.keyBusy = false ∧ atOrAfter s.time (s.key.wbAt + units (unitsPerMs * max 1 (s.getF Reg.KEY_WB_PERIOD 15 0))) = true ∧ s.keyStaging = false ∧ s.warned = false ∧ s.writeBack f = (t, n)) ∧
    (∃ (f : Option Nat) (s : State), s.key.wbDue = false ∧ ((s.key.dirty = [] ∨ s.getB Reg.KEY_CTL 2 = false ∨ s.keyBusy = true ∨ atOrAfter s.time (s.key.wbAt + units (unitsPerMs * max 1 (s.getF Reg.KEY_WB_PERIOD 15 0))) = false))) ∧
    (∃ (f : Option Nat) (s : State), s.key.wbDue = true ∧ (s.keyStaging = true ∨ s.warned = true)) ∧
    (∃ (f : Option Nat) (s : State), s.key.wbDue = true ∧ s.keyStaging = false ∧ s.warned = false) ∧
    (∃ (c : CmdRef) (s : State) (t : State) (x : Command), s.turn c 6 5 = some x ∧ 4 ≤ beAt x.payload 4 2 ∧ beAt x.payload 4 2 ≤ 1024 ∧ s.submit 3 (beAt x.payload 0 4) (beAt x.payload 4 2) [] 0 (.host x.ref) = (t, 0)) ∧
    (∃ (c : CmdRef) (s : State) (x : Command), s.turn c 6 5 = some x ∧ (beAt x.payload 4 2 < 4 ∨ 1024 < beAt x.payload 4 2)) ∧
    (∃ (c : CmdRef) (s : State) (t : State) (x : Command), s.turn c 6 6 = some x ∧ s.submit 4 (beAt x.payload 0 4) (x.payload.drop 4).length (x.payload.drop 4) 0 (.host x.ref) = (t, 0)) ∧
    (∃ (c : CmdRef) (s : State) (t : State) (x : Command) (r : Nat), s.turn c 6 6 = some x ∧ r ≠ 0 ∧ r < 0x40 ∧ s.submit 4 (beAt x.payload 0 4) (x.payload.drop 4).length (x.payload.drop 4) 0 (.host x.ref) = (t, r)) :=
  ⟨⟨none, wAt 0x1000000000000 (wFn (fun s => { s with key := { s.key with dirty := [0] } }) ((wFn (fun s => { s with key := { s.key with wbDue := false } }) (State.reset)).setB Reg.KEY_CTL 2 true)), _, _, by decide +kernel, by decide +kernel, (by decide +kernel), by decide +kernel, by decide +kernel, by decide +kernel, by decide +kernel, rfl⟩,
   ⟨none, wFn (fun s => { s with key := { s.key with wbDue := false } }) (State.reset), by decide +kernel, Or.inl (by decide +kernel)⟩,
   ⟨none, (wFn (fun s => { s with key := { s.key with wbDue := true } }) (State.reset)).setB Reg.ANA_IN_STAT 16 true, by decide +kernel, Or.inr (by decide +kernel)⟩,
   ⟨none, wFn (fun s => { s with key := { s.key with wbDue := true } }) (State.reset), by decide +kernel, by decide +kernel, by decide +kernel⟩,
   ⟨wRef, wCom (wCmd 6 5 ([0, 0, 0, 0, 0, 4, 0, 0, 0, 0, 0, 0, 0, 0, 0, 0, 0, 0, 0, 0, 0, 0, 0, 0])) State.reset, _, (wCmd 6 5 ([0, 0, 0, 0, 0, 4, 0, 0, 0, 0, 0, 0, 0, 0, 0, 0, 0, 0, 0, 0, 0, 0, 0, 0])), by decide +kernel, by decide +kernel, by decide +kernel, Prod.ext rfl (by decide +kernel)⟩,
   ⟨wRef, wCom (wCmd 6 5 ([0, 0, 0, 0, 4, 1, 0, 0, 0, 0, 0, 0, 0, 0, 0, 0, 0, 0, 0, 0, 0, 0, 0, 0])) State.reset, (wCmd 6 5 ([0, 0, 0, 0, 4, 1, 0, 0, 0, 0, 0, 0, 0, 0, 0, 0, 0, 0, 0, 0, 0, 0, 0, 0])), by decide +kernel, by decide +kernel⟩,
   ⟨wRef, wCom (wCmd 6 6 (List.replicate 24 0)) State.reset, _, (wCmd 6 6 (List.replicate 24 0)), by decide +kernel, Prod.ext rfl (by decide +kernel)⟩,
   ⟨wRef, wFn (fun s => s.setArb 1 { s.arbiter 1 with locks := [{ q := 80, sector := 0, left := 1, inForce := true, last := 0 }] }) (wFn (fun s => s.setArb 3 { s.arbiter 3 with locks := [{ q := 64, sector := 0, left := 1, inForce := true, last := 0 }] }) (wCom (wCmd 6 6 (List.replicate 24 0)) State.reset)), _, (wCmd 6 6 (List.replicate 24 0)), 3, by decide +kernel, by decide +kernel, by decide +kernel, Prod.ext rfl (by decide +kernel)⟩⟩

theorem test_witness_NvRequests :
    (∃ (c : CmdRef) (s : State) (t : State) (x : Command), s.turn c 5 1 = some x ∧ s.submit 1 (beAt x.payload 0 4) (x.payload.drop 4).length (x.payload.drop 4) 0 (.host x.ref) = (t, 0)) ∧
    (∃ (c : CmdRef) (s : State) (t : State) (x : Command) (r : Nat), s.turn c 5 1 = some x ∧ r ≠ 0 ∧ 0x40 ≤ r ∧ s.submit 1 (beAt x.payload 0 4) (x.payload.drop 4).length (x.payload.drop 4) 0 (.host x.ref) = (t, r)) ∧
    (∃ (w : Word) (s : State), bitOf w 8 = false ∧ bitOf w 9 = false ∧ s.getB Reg.NVC_STAT 3 = true ∧ fld w 1 0 = 1) ∧
    (∃ (w : Word) (s : State), bitOf w 8 = false ∧ bitOf w 9 = false ∧ s.getB Reg.NVC_STAT 3 = true ∧ fld w 1 0 = 2) ∧
    (∃ (w : Word) (s : State) (t : State), bitOf w 8 = false ∧ bitOf w 9 = false ∧ fld w 1 0 = 2 ∧ s.getB Reg.NVC_STAT 3 = false ∧ s.submit 2 (s.getF Reg.NVC_OP_ADDR 25 0) 0 [] 0 .register = (t, 0)) ∧
    (∃ (w : Word) (s : State) (t : State) (r : Nat), bitOf w 8 = false ∧ bitOf w 9 = false ∧ fld w 1 0 = 2 ∧ s.getB Reg.NVC_STAT 3 = false ∧ r ≠ 0 ∧ s.submit 2 (s.getF Reg.NVC_OP_ADDR 25 0) 0 [] 0 .register = (t, r)) ∧
    (∃ (c : CmdRef) (s : State) (t : State) (x : Command), s.turn c 5 2 = some x ∧ s.submit 2 (beAt x.payload 0 4) 0 [] 0 (.host x.ref) = (t, 0)) ∧
    (∃ (c : CmdRef) (s : State) (t : State) (x : Command), s.turn c 5 0 = some x ∧ s.submit 0 (beAt x.payload 0 4) (beAt x.payload 4 2) [] 0 (.host x.ref) = (t, 0)) ∧
    (∃ (c : CmdRef) (s : State) (x : Command), s.turn c 5 5 = some x) ∧
    (∃ (w : Word) (s : State), bitOf w 8 = true ∧ bitOf w 9 = false ∧ fld w 1 0 = 0 ∧ s.nv.erase = none) :=
  ⟨⟨wRef, wCom (wCmd 5 1 (List.replicate 36 0)) State.reset, _, (wCmd 5 1 (List.replicate 36 0)), by decide +kernel, Prod.ext rfl (by decide +kernel)⟩,
   ⟨wRef, wCom (wCmd 5 1 (List.replicate 3 0 ++ 1 :: List.replicate 32 0)) State.reset, _, (wCmd 5 1 (List.replicate 3 0 ++ 1 :: List.replicate 32 0)), 0x41, by decide +kernel, by decide +kernel, by decide +kernel, Prod.ext rfl (by decide +kernel)⟩,
   ⟨0x1, (State.reset).setB Reg.NVC_STAT 3 true, by decide +kernel, by decide +kernel, by decide +kernel, by decide +kernel⟩,
   ⟨0x2, (State.reset).setB Reg.NVC_STAT 3 true, by decide +kernel, by decide +kernel, by decide +kernel, by decide +kernel⟩,
   ⟨0x2, (State.reset).setB Reg.NVC_STAT 3 false, _, by decide +kernel, by decide +kernel, by decide +kernel, by decide +kernel, Prod.ext rfl (by decide +kernel)⟩,
   ⟨0x2, ((State.reset).setB Reg.NVC_STAT 3 false).setF Reg.NVC_OP_ADDR 25 0 1, _, 0x41, by decide +kernel, by decide +kernel, by decide +kernel, by decide +kernel, by decide +kernel, Prod.ext rfl (by decide +kernel)⟩,
   ⟨wRef, wCom (wCmd 5 2 (List.replicate 24 0)) State.reset, _, (wCmd 5 2 (List.replicate 24 0)), by decide +kernel, Prod.ext rfl (by decide +kernel)⟩,
   ⟨wRef, wCom (wCmd 5 0 ([0, 0, 0, 0, 0, 4])) State.reset, _, (wCmd 5 0 ([0, 0, 0, 0, 0, 4])), by decide +kernel, Prod.ext rfl (by decide +kernel)⟩,
   ⟨wRef, wCom (wCmd 5 5 (List.replicate 24 0)) State.reset, (wCmd 5 5 (List.replicate 24 0)), by decide +kernel⟩,
   ⟨0x100, wFn (fun s => { s with nv := { s.nv with erase := none } }) (State.reset), by decide +kernel, by decide +kernel, by decide +kernel, by decide +kernel⟩⟩

theorem test_witness_NvRequests_2 :
    (∃ (c : CmdRef) (s : State) (x : Command), s.turn c 5 3 = some x ∧ s.nv.erase = none) ∧
    (∃ (c : CmdRef) (s : State) (x : Command) (e : NvErase), s.turn c 5 3 = some x ∧ s.nv.erase = some e ∧ e.stopped = false ∧ e.seg ≠ 8) ∧
    (∃ (w : Word) (s : State) (u : State), bitOf w 8 = false ∧ bitOf w 9 = true ∧ fld w 1 0 = 0 ∧ u = ({ s with nv := { s.nv with erase := s.nv.erase.map (fun e => { e with cmdAsk := false }) } } : State).nvRelease 10 2 ∧ u.getB Reg.NVC_CTL 1 = true) ∧
    (∃ (w : Word) (s : State) (u : State), bitOf w 8 = false ∧ bitOf w 9 = true ∧ fld w 1 0 = 0 ∧ u = ({ s with nv := { s.nv with erase := s.nv.erase.map (fun e => { e with cmdAsk := false }) } } : State).nvRelease 10 2 ∧ u.getB Reg.NVC_CTL 1 = false ∧ u.getB Reg.ANA_IN_STAT 16 = false) ∧
    (∃ (k : Fin 16777216) (x : Ecc) (s : State), s.domOn domNv = false) ∧
    (∃ (k : Fin 16777216) (x : Ecc) (s : State) (u : State), s.nvServe (k.val / 2 ^ 21) = (u, false)) ∧
    (∃ (k : Fin 16777216) (x : Ecc) (s : State) (u : State), s.nvServe (k.val / 2 ^ 21) = (u, true)) ∧
    (∃ (s : State) (b : Nat), s.domOn domNv = true ∧ s.nv.prog = none ∧ s.nv.erase = none) ∧
    (∃ (s : State) (b : Nat) (p : NvProg), s.domOn domNv = true ∧ s.nv.prog = some p ∧ p.addr / 2 ^ 23 = b ∧ p.waits = false ∧ p.readOk = false) :=
  ⟨⟨wRef, wFn (fun s => { s with nv := { s.nv with erase := none } }) (wCom (wCmd 5 3 (List.replicate 24 0)) State.reset), (wCmd 5 3 (List.replicate 24 0)), by decide +kernel, by decide +kernel⟩,
   ⟨wRef, wFn (fun s => { s with nv := { s.nv with erase := some (({ sector := 0, owner := .register, since := 0, stopped := false } : NvErase)) } }) (wCom (wCmd 5 3 (List.replicate 24 0)) State.reset), (wCmd 5 3 (List.replicate 24 0)), ({ sector := 0, owner := .register, since := 0, stopped := false } : NvErase), by decide +kernel, by decide +kernel, by decide +kernel, by decide +kernel⟩,
   ⟨0x200, State.reset, _, by decide +kernel, by decide +kernel, by decide +kernel, rfl, by decide +kernel⟩,
   ⟨0x200, ((State.reset).setB Reg.NVC_CTL 1 false).setB Reg.ANA_IN_STAT 16 false, _, by decide +kernel, by decide +kernel, by decide +kernel, rfl, by decide +kernel, by decide +kernel⟩,
   ⟨0, .clean, (State.reset).setF (Reg.PWR_DOM_STAT domNv) 2 0 2, by decide +kernel⟩,
   ⟨0, .clean, (State.reset).setF (Reg.PWR_DOM_STAT domNv) 2 0 2, _, Prod.ext rfl (by decide +kernel)⟩,
   ⟨0, .clean, State.reset, _, Prod.ext rfl (by decide +kernel)⟩,
   ⟨wFn (fun s => { s with nv := { s.nv with erase := none } }) (wFn (fun s => { s with nv := { s.nv with prog := none } }) (State.reset)), 0, by decide +kernel, by decide +kernel, by decide +kernel⟩,
   ⟨wFn (fun s => { s with nv := { s.nv with prog := some (({ addr := 0, data := [0], waits := false, readOk := false } : NvProg)) } }) (State.reset), 0, ({ addr := 0, data := [0], waits := false, readOk := false } : NvProg), by decide +kernel, by decide +kernel, by decide +kernel, by decide +kernel, by decide +kernel⟩⟩

theorem test_witness_NvPulsesAndFarLines :
    (∃ (s : State) (u : State) (p : NvProg) (q : ArbReq), s.nv.prog = some p ∧ (s.arbiter 0).busy = some q ∧ p.waits = false ∧ s.getB Reg.NVC_STAT 11 = false ∧ p.step + 1 < max 1 (min 16 (s.getF Reg.NVC_CTL 12 8)) ∧ u = { s with nv := { s.nv with prog := some { p with step := p.step + 1, readOk := p.readAsk, readAsk := false } } } ∧ s.nv.warnAsk = false) ∧
    (∃ (s : State) (u : State) (p : NvProg) (q : ArbReq), s.nv.prog = some p ∧ (s.arbiter 0).busy = some q ∧ p.waits = false ∧ s.getB Reg.NVC_STAT 11 = false ∧ p.step + 1 < max 1 (min 16 (s.getF Reg.NVC_CTL 12 8)) ∧ u = { s with nv := { s.nv with prog := some { p with step := p.step + 1, readOk := p.readAsk, readAsk := false } } } ∧ s.nv.warnAsk = true) ∧
    (∃ (b : Bool) (s : State) (p : NvProg) (q : ArbReq), s.nv.prog = some p ∧ (s.arbiter 0).busy = some q ∧ ((p.waits = true ∨ s.getB Reg.NVC_STAT 11 = true))) ∧
    (∃ (s : State) (p : NvProg) (q : ArbReq), s.nv.prog = some p ∧ (s.arbiter 0).busy = some q ∧ p.waits = false ∧ s.getB Reg.NVC_STAT 11 = false ∧ max 1 (min 16 (s.getF Reg.NVC_CTL 12 8)) ≤ p.step + 1) ∧
    (∃ (b : Bool) (s : State), s.nv.prog = none) ∧
    (∃ (s : State) (e : NvErase), s.nv.erase = some e ∧ e.stopped = false ∧ e.seg < 8) ∧
    (∃ (b : Bool) (s : State), s.nv.erase = none) ∧
    (∃ (s : State) (u : State) (e : NvErase), s.nv.erase = some e ∧ e.stopped = false ∧ e.seg = 8 ∧ e.pulses < 11 ∧ u = { s with nv := { s.nv with erase := some { e with pulses := e.pulses + 1, seg := 0 } } } ∧ e.warnAsk = false) ∧
    (∃ (s : State) (u : State) (e : NvErase), s.nv.erase = some e ∧ e.stopped = false ∧ e.seg = 8 ∧ e.pulses < 11 ∧ u = { s with nv := { s.nv with erase := some { e with pulses := e.pulses + 1, seg := 0 } } } ∧ e.warnAsk = true) ∧
    (∃ (s : State) (e : NvErase), s.nv.erase = some e ∧ e.stopped = false ∧ e.seg = 8 ∧ 11 ≤ e.pulses) :=
  ⟨⟨wFn (fun s => { s with nv := { s.nv with warnAsk := false } }) ((wFn (fun s => s.setArb 0 { s.arbiter 0 with busy := some (({ q := 0, op := 0, addr := 0, len := 16, beats := 1, first := 0, owner := .host wRef } : ArbReq)) }) (wFn (fun s => { s with nv := { s.nv with prog := some (({ addr := 0, data := [0], waits := false } : NvProg)) } }) (State.reset))).setB Reg.NVC_STAT 11 false), _, ({ addr := 0, data := [0], waits := false } : NvProg), ({ q := 0, op := 0, addr := 0, len := 16, beats := 1, first := 0, owner := .host wRef } : ArbReq), by decide +kernel, by decide +kernel, by decide +kernel, by decide +kernel, by decide +kernel, rfl, by decide +kernel⟩,
   ⟨wFn (fun s => { s with nv := { s.nv with warnAsk := true } }) ((wFn (fun s => s.setArb 0 { s.arbiter 0 with busy := some (({ q := 0, op := 0, addr := 0, len := 16, beats := 1, first := 0, owner := .host wRef } : ArbReq)) }) (wFn (fun s => { s with nv := { s.nv with prog := some (({ addr := 0, data := [0], waits := false } : NvProg)) } }) (State.reset))).setB Reg.NVC_STAT 11 false), _, ({ addr := 0, data := [0], waits := false } : NvProg), ({ q := 0, op := 0, addr := 0, len := 16, beats := 1, first := 0, owner := .host wRef } : ArbReq), by decide +kernel, by decide +kernel, by decide +kernel, by decide +kernel, by decide +kernel, rfl, by decide +kernel⟩,
   ⟨false, wFn (fun s => s.setArb 0 { s.arbiter 0 with busy := some (({ q := 0, op := 0, addr := 0, len := 16, beats := 1, first := 0, owner := .host wRef } : ArbReq)) }) (wFn (fun s => { s with nv := { s.nv with prog := some (({ addr := 0, data := [0], waits := true } : NvProg)) } }) (State.reset)), ({ addr := 0, data := [0], waits := true } : NvProg), ({ q := 0, op := 0, addr := 0, len := 16, beats := 1, first := 0, owner := .host wRef } : ArbReq), by decide +kernel, by decide +kernel, Or.inl rfl⟩,
   ⟨(wFn (fun s => s.setArb 0 { s.arbiter 0 with busy := some (({ q := 0, op := 0, addr := 0, len := 16, beats := 1, first := 0, owner := .host wRef } : ArbReq)) }) (wFn (fun s => { s with nv := { s.nv with prog := some (({ addr := 0, data := [0], waits := false, step := 16 } : NvProg)) } }) (State.reset))).setB Reg.NVC_STAT 11 false, ({ addr := 0, data := [0], waits := false, step := 16 } : NvProg), ({ q := 0, op := 0, addr := 0, len := 16, beats := 1, first := 0, owner := .host wRef } : ArbReq), by decide +kernel, by decide +kernel, by decide +kernel, by decide +kernel, by decide +kernel⟩,
   ⟨false, wFn (fun s => { s with nv := { s.nv with prog := none } }) (State.reset), by decide +kernel⟩,
   ⟨wFn (fun s => { s with nv := { s.nv with erase := some (({ sector := 0, owner := .register, since := 0, stopped := false } : NvErase)) } }) (State.reset), ({ sector := 0, owner := .register, since := 0, stopped := false } : NvErase), by decide +kernel, by decide +kernel, by decide +kernel⟩,
   ⟨false, wFn (fun s => { s with nv := { s.nv with erase := none } }) (State.reset), by decide +kernel⟩,
   ⟨wFn (fun s => { s with nv := { s.nv with erase := some (({ sector := 0, owner := .register, since := 0, stopped := false, seg := 8, warnAsk := false } : NvErase)) } }) (State.reset), _, ({ sector := 0, owner := .register, since := 0, stopped := false, seg := 8, warnAsk := false } : NvErase), by decide +kernel, by decide +kernel, by decide +kernel, by decide +kernel, rfl, by decide +kernel⟩,
   ⟨wFn (fun s => { s with nv := { s.nv with erase := some (({ sector := 0, owner := .register, since := 0, stopped := false, seg := 8, warnAsk := true } : NvErase)) } }) (State.reset), _, ({ sector := 0, owner := .register, since := 0, stopped := false, seg := 8, warnAsk := true } : NvErase), by decide +kernel, by decide +kernel, by decide +kernel, by decide +kernel, rfl, by decide +kernel⟩,
   ⟨wFn (fun s => { s with nv := { s.nv with erase := some (({ sector := 0, owner := .register, since := 0, stopped := false, seg := 8, pulses := 11 } : NvErase)) } }) (State.reset), ({ sector := 0, owner := .register, since := 0, stopped := false, seg := 8, pulses := 11 } : NvErase), by decide +kernel, by decide +kernel, by decide +kernel, by decide +kernel⟩⟩

theorem test_witness_NvPulsesAndFarLines_2 :
    (∃ (b : Bool) (s : State) (e : NvErase), s.nv.erase = some e ∧ ((e.stopped = true ∨ e.seg ≠ 8))) ∧
    (∃ (s : State) (e : NvErase), s.nv.erase = some e ∧ e.stopped = true ∧ s.getB Reg.NVC_STAT 9 = true ∧ atOrAfter s.time (e.lastRead + units (unitsPerUs * max 1 (s.getF Reg.NVC_CTL 23 16))) = true) ∧
    (∃ (n : Fin 68) (x : Ecc) (y : Ecc) (s : State), s.logicalOf n = none) ∧
    (∃ (n : Fin 68) (x : Ecc) (y : Ecc) (s : State) (u : State) (e : Nat) (line : Nat), s.logicalOf n = some e ∧ (s.leng e).stall = some (.farFill line) ∧ s.nvServe (line / 2 ^ 17) = (u, false)) ∧
    (∃ (n : Fin 68) (x : Ecc) (y : Ecc) (s : State) (u : State) (t : State) (e : Nat) (line : Nat) (st : Nat) (i : Nat) (b : Bool), s.logicalOf n = some e ∧ (s.leng e).stall = some (.farFill line) ∧ s.nvServe (line / 2 ^ 17) = (u, true) ∧ s.inCycle n = true ∧ u.nvReadWords (2 * line) 2 0 [x, y] = (t, st, i, b) ∧ st ≠ 0) ∧
    (∃ (n : Fin 68) (x : Ecc) (y : Ecc) (s : State) (u : State) (t : State) (e : Nat) (line : Nat) (st : Nat) (i : Nat) (b : Bool), s.logicalOf n = some e ∧ (s.leng e).stall = some (.farFill line) ∧ s.nvServe (line / 2 ^ 17) = (u, true) ∧ s.inCycle n = true ∧ u.nvReadWords (2 * line) 2 0 [x, y] = (t, st, i, b) ∧ st = 0) :=
  ⟨⟨false, wFn (fun s => { s with nv := { s.nv with erase := some (({ sector := 0, owner := .register, since := 0 } : NvErase)) } }) (State.reset), ({ sector := 0, owner := .register, since := 0 } : NvErase), by decide +kernel, by decide +kernel⟩,
   ⟨wAt 0x1000000000 ((wFn (fun s => { s with nv := { s.nv with erase := some (({ sector := 0, owner := .register, since := 0, stopped := true } : NvErase)) } }) (State.reset)).setB Reg.NVC_STAT 9 true), ({ sector := 0, owner := .register, since := 0, stopped := true } : NvErase), by decide +kernel, by decide +kernel, by decide +kernel, by decide +kernel⟩,
   ⟨64, .clean, .clean, State.reset, by decide +kernel⟩,
   ⟨0, .uncorrectable, .clean, (wFn (fun s => s.setLeng 0 { s.leng 0 with stall := some (.farFill 0) }) (State.reset)).setF (Reg.PWR_DOM_STAT domNv) 2 0 1, _, 0, 0, by decide +kernel, by decide +kernel, Prod.ext rfl (by decide +kernel)⟩,
   ⟨0, .uncorrectable, .clean, (wFn (fun s => s.setLeng 0 { s.leng 0 with stall := some (.farFill 0) }) (State.reset)).setEngState 0 3, _, _, 0, 0, _, _, _, by decide +kernel, by decide +kernel, Prod.ext rfl (by decide +kernel), by decide +kernel, rfl, by decide +kernel⟩,
   ⟨0, .clean, .clean, (wFn (fun s => s.setLeng 0 { s.leng 0 with stall := some (.farFill 0) }) (State.reset)).setEngState 0 3, _, _, 0, 0, _, _, _, by decide +kernel, by decide +kernel, Prod.ext rfl (by decide +kernel), by decide +kernel, rfl, by decide +kernel⟩⟩

theorem test_witness_TrunkService :
    (∃ (p : Fin 2) (s : State), s.getB (Reg.NET_PORT_CTL p) 0 = true ∧ s.domOn (domTrunk p) = true ∧ s.getB (Reg.NET_PORT_STAT p) 3 = false) ∧
    (∃ (p : Fin 2) (s : State), (s.getB (Reg.NET_PORT_CTL p) 0 = false ∨ s.domOn (domTrunk p) = false)) ∧
    (∃ (p : Fin 2) (s : State), s.getB (Reg.NET_PORT_STAT p) 3 = false) ∧
    (∃ (p : Fin 2) (s : State), s.getB (Reg.NET_PORT_STAT p) 3 = true ∧ s.portState p ≠ 5) ∧
    (∃ (p : Fin 2) (s : State), s.getB (Reg.NET_PORT_STAT p) 3 = true ∧ s.portState p = 5) ∧
    (∃ (p : Fin 2) (d : Word) (s : State), s.ptpRuns p = false) ∧
    (∃ (p : Fin 2) (d : Word) (s : State) (u : State) (v : State) (w : State), s.ptpRuns p = true ∧ u = s.setR (Reg.NET_PORT_PDELAY p) d ∧ v = (u.setNetPort p ({ u.netPort p with pdelayOut := false, pdelayLost := 0, joins := (u.netPort p).joins + 1 } : NetPort)).setCapable p true ∧ w = (if v.portState p = 2 then v.setF (Reg.NET_PORT_STAT p) 2 0 3 else v) ∧ (w.portState p ≠ 3 ∨ (w.netPort p).joins < max 1 (w.getF Reg.NET_CTL 23 16))) ∧
    (∃ (p : Fin 2) (d : Word) (s : State) (u : State) (v : State) (w : State), s.ptpRuns p = true ∧ u = s.setR (Reg.NET_PORT_PDELAY p) d ∧ v = (u.setNetPort p ({ u.netPort p with pdelayOut := false, pdelayLost := 0, joins := (u.netPort p).joins + 1 } : NetPort)).setCapable p true ∧ w = (if v.portState p = 2 then v.setF (Reg.NET_PORT_STAT p) 2 0 3 else v) ∧ w.portState p = 3 ∧ max 1 (w.getF Reg.NET_CTL 23 16) ≤ (w.netPort p).joins) ∧
    (∃ (p : Fin 2) (s : State) (u : State), s.ptpRuns p = true ∧ (s.netPort p).pdelayOut = false ∧ (s.netPort p).pdelayLost = 0 ∧ u = s.setNetPort p ({ s.netPort p with pdelayOut := true, pdelayLost := 0, pdelaySeq := ((s.netPort p).pdelaySeq + 1) % 65536 } : NetPort)) ∧
    (∃ (p : Fin 2) (s : State) (u : State) (v : State), s.ptpRuns p = true ∧ (s.netPort p).pdelayOut = true ∧ u = s.setNetPort p ({ s.netPort p with pdelayOut := true, pdelayLost := (s.netPort p).pdelayLost + 1, joins := 0, pdelaySeq := ((s.netPort p).pdelaySeq + 1) % 65536 } : NetPort) ∧ v = u.portSend p (u.ptpFrame p 2 0 (s.netPort p).pdelaySeq 5 (List.replicate 20 0))) :=
  ⟨⟨0, ((State.reset).setB (Reg.NET_PORT_CTL 0) 0 true).setB (Reg.NET_PORT_STAT 0) 3 false, by decide +kernel, by decide +kernel, by decide +kernel⟩,
   ⟨0, (State.reset).setB (Reg.NET_PORT_CTL 0) 0 false, Or.inl (by decide +kernel)⟩,
   ⟨0, (State.reset).setB (Reg.NET_PORT_STAT 0) 3 false, by decide +kernel⟩,
   ⟨0, (State.reset).setB (Reg.NET_PORT_STAT 0) 3 true, by decide +kernel, by decide +kernel⟩,
   ⟨0, ((State.reset).setB (Reg.NET_PORT_STAT 0) 3 true).setF (Reg.NET_PORT_STAT 0) 2 0 5, by decide +kernel, by decide +kernel⟩,
   ⟨0, 0, State.reset, by decide +kernel⟩,
   ⟨0, 0, (((State.reset).setB (Reg.NET_PORT_STAT 0) 3 true).setB (Reg.NET_PORT_CTL 0) 1 true).setF (Reg.NET_PORT_STAT 0) 2 0 4, _, _, _, by decide +kernel, rfl, rfl, rfl, by decide +kernel⟩,
   ⟨0, 0, wFn (fun s => s.setNetPort 0 { s.netPort 0 with joins := 300 }) (((((State.reset).setB (Reg.NET_PORT_STAT 0) 3 true).setB (Reg.NET_PORT_CTL 0) 1 true).setF (Reg.NET_PORT_STAT 0) 2 0 3).setB (Reg.NET_PORT_STAT 0) 4 true), _, _, _, by decide +kernel, rfl, rfl, rfl, by decide +kernel, by decide +kernel⟩,
   ⟨0, wFn (fun s => s.setNetPort 0 { s.netPort 0 with pdelayLost := 0 }) (wFn (fun s => s.setNetPort 0 { s.netPort 0 with pdelayOut := false }) (((State.reset).setB (Reg.NET_PORT_STAT 0) 3 true).setB (Reg.NET_PORT_CTL 0) 1 true)), _, by decide +kernel, by decide +kernel, by decide +kernel, rfl⟩,
   ⟨0, wFn (fun s => s.setNetPort 0 { s.netPort 0 with pdelayOut := true }) (((State.reset).setB (Reg.NET_PORT_STAT 0) 3 true).setB (Reg.NET_PORT_CTL 0) 1 true), _, _, by decide +kernel, by decide +kernel, rfl, rfl⟩⟩

theorem test_witness_TrunkService_2 :
    (∃ (p : Fin 2) (f : List Byte) (s : State), s.domState (domTrunk p) = 1 ∧ s.getB Reg.NET_CTL 8 = true ∧ s.isWake f = true) ∧
    (∃ (p : Fin 2) (f : List Byte) (s : State), s.domState (domTrunk p) = 1 ∧ (s.isWake f = false ∨ s.getB Reg.NET_CTL 8 = false)) ∧
    (∃ (p : Fin 2) (f : List Byte) (s : State), s.domState (domTrunk p) = 0) ∧
    (∃ (p : Fin 2) (s : State), s.domState (domTrunk p) = 2) :=
  ⟨⟨0, (List.replicate 6 255 ++ List.replicate 6 0 ++ [0x88, 0xB5, 0, 0x57, 0xFF, 0xFF]), ((State.reset).setF (Reg.PWR_DOM_STAT (domTrunk 0)) 2 0 1).setB Reg.NET_CTL 8 true, by decide +kernel, by decide +kernel, by decide +kernel⟩,
   ⟨0, [], (State.reset).setF (Reg.PWR_DOM_STAT (domTrunk 0)) 2 0 1, by decide +kernel, by decide +kernel⟩,
   ⟨0, [], (State.reset).setF (Reg.PWR_DOM_STAT (domTrunk 0)) 2 0 0, by decide +kernel⟩,
   ⟨0, (State.reset).setF (Reg.PWR_DOM_STAT (domTrunk 0)) 2 0 2, by decide +kernel⟩⟩

theorem test_witness_TrunkFramesAndGates :
    (∃ (p : Fin 2) (s : State) (q : Nat) (f : List Byte), s.inService p = true ∧ (s.netPort p).txUntil = none ∧ (List.range 8).reverse.findSome? (fun q => (s.frameReady p q).map (fun f => (q, f))) = some (q, f)) ∧
    (∃ (p : Fin 2) (s : State), (List.range 8).reverse.findSome? (fun q => (s.frameReady p q).map (fun f => (q, f))) = none) ∧
    (∃ (p : Fin 2) (s : State), s.inService p = false) ∧
    (∃ (p : Fin 2) (w : Word) (s : State), bitOf w 31 = false) ∧
    (∃ (p : Fin 2) (s : State) (t : DWord), (s.netPort p).txUntil = some t ∧ before s.time t = true) ∧
    (∃ (p : Fin 2) (w : Word) (s : State) (u : State), bitOf w 31 = true ∧ u = s.store (Reg.NET_PORT_GCL_CTL p) w ∧ u.gclValid p = false) ∧
    (∃ (p : Fin 2) (w : Word) (s : State) (u : State), bitOf w 31 = true ∧ u = s.store (Reg.NET_PORT_GCL_CTL p) w ∧ u.gclValid p = true) ∧
    (∃ (p : Fin 2) (s : State), (s.netPort p).changeAt = none) ∧
    (∃ (p : Fin 2) (s : State) (b : DWord), (s.netPort p).changeAt = some b ∧ s.reached b = false) ∧
    (∃ (p : Fin 2) (s : State) (r : State) (u : State) (v : State) (b : DWord), (s.netPort p).changeAt = some b ∧ s.reached b = true ∧ r = { s with regs := tabCopy regReset s.regs (Reg.NET_PORT_ADM p 0) 0x800 (Reg.NET_PORT_OPER p 0) } ∧ u = (r.setD (Reg.NET_PORT_OPER_BASE p) b).setR (Reg.NET_PORT_OPER_CYCLE p) (r.getR (Reg.NET_PORT_ADM_CYCLE p)) ∧ v = u.setR (Reg.NET_PORT_OPER_LEN p) (u.getR (Reg.NET_PORT_ADM_LEN p))) :=
  ⟨⟨0, wFn (fun s => s.setNetPort 0 { s.netPort 0 with queues := [(0, [[]])] }) (wFn (fun s => s.setNetPort 0 { s.netPort 0 with txUntil := none }) ((State.reset).setF (Reg.NET_PORT_STAT 0) 2 0 4)), 0, [], by decide +kernel, by decide +kernel, by decide +kernel⟩,
   ⟨0, State.reset, by decide +kernel⟩,
   ⟨0, State.reset, by decide +kernel⟩,
   ⟨0, 0x0, State.reset, by decide +kernel⟩,
   ⟨0, wFn (fun s => s.setNetPort 0 { s.netPort 0 with txUntil := some 5 }) (State.reset), 5, by decide +kernel, by decide +kernel⟩,
   ⟨0, 0x80000000, State.reset, _, by decide +kernel, rfl, by decide +kernel⟩,
   ⟨0, 0x80000000, (((State.reset).setF (Reg.NET_PORT_ADM_LEN 0) 8 0 1).setR (Reg.NET_PORT_ADM_CYCLE 0) 1000).setR (Reg.NET_PORT_ADM 0 1) 8, _, by decide +kernel, rfl, by decide +kernel⟩,
   ⟨0, wFn (fun s => s.setNetPort 0 { s.netPort 0 with changeAt := none }) (State.reset), by decide +kernel⟩,
   ⟨0, wFn (fun s => s.setNetPort 0 { s.netPort 0 with changeAt := some 0x100000 }) (State.reset), 0x100000, by decide +kernel, by decide +kernel⟩,
   ⟨0, wFn (fun s => s.setNetPort 0 { s.netPort 0 with changeAt := some 0 }) (State.reset), _, _, _, 0, by decide +kernel, by decide +kernel, rfl, rfl, rfl⟩⟩

theorem test_witness_TrunkFramesAndGates_2 :
    (∃ (p : Fin 2) (s : State), (s.operSpans p).length > (s.netPort p).gateEntry + 1 ∧ s.reached (s.netPort p).gateEnd = true) ∧
    (∃ (p : Fin 2) (s : State), s.operSpans p ≠ [] ∧ (s.operSpans p).length ≤ (s.netPort p).gateEntry + 1 ∧ s.reached (s.netPort p).gateEnd = true) ∧
    (∃ (p : Fin 2) (s : State), (s.operSpans p = [] ∨ s.reached (s.netPort p).gateEnd = false)) ∧
    (∃ (p : Fin 2) (f : List Byte) (good : Bool) (s : State), s.getB (Reg.NET_PORT_STAT p) 3 = false) ∧
    (∃ (p : Fin 2) (f : List Byte) (s : State), s.getB (Reg.NET_PORT_STAT p) 3 = true ∧ s.domState (domTrunk p) = 0 ∧ s.domOn (domTrunk p) = true) ∧
    (∃ (p : Fin 2) (f : List Byte) (g : Bool) (s : State), s.getB (Reg.NET_PORT_STAT p) 3 = true ∧ s.domState (domTrunk p) = 1) ∧
    (∃ (p : Fin 2) (f : List Byte) (s : State) (u : State), s.getB (Reg.NET_PORT_STAT p) 3 = true ∧ s.domState (domTrunk p) = 0 ∧ s.domOn (domTrunk p) = true ∧ u = s.touch (domTrunk p) ∧ (f.length < 60 ∨ 1518 < f.length ∨ u.acceptsFrame f = false)) ∧
    (∃ (p : Fin 2) (f : List Byte) (s : State) (u : State), s.getB (Reg.NET_PORT_STAT p) 3 = true ∧ s.domState (domTrunk p) = 0 ∧ s.domOn (domTrunk p) = true ∧ 60 ≤ f.length ∧ f.length ≤ 1518 ∧ u = s.touch (domTrunk p) ∧ u.acceptsFrame f = true ∧ (frType f == 0x88F7 && frDA f == ptpAddr) = true) ∧
    (∃ (p : Fin 2) (f : List Byte) (s : State) (u : State), s.getB (Reg.NET_PORT_STAT p) 3 = true ∧ s.domState (domTrunk p) = 0 ∧ s.domOn (domTrunk p) = true ∧ 60 ≤ f.length ∧ f.length ≤ 1518 ∧ u = s.touch (domTrunk p) ∧ u.acceptsFrame f = true ∧ frType f ≠ 0x88F7 ∧ u.inService p = false) ∧
    (∃ (p : Fin 2) (f : List Byte) (s : State) (u : State) (i : Nat), s.getB (Reg.NET_PORT_STAT p) 3 = true ∧ s.domState (domTrunk p) = 0 ∧ s.domOn (domTrunk p) = true ∧ 60 ≤ f.length ∧ f.length ≤ 1518 ∧ u = s.touch (domTrunk p) ∧ u.acceptsFrame f = true ∧ frType f ≠ 0x88F7 ∧ u.inService p = true ∧ u.rxStream f = some i ∧ frRtag f = false) :=
  ⟨⟨0, (((State.reset).setF (Reg.NET_PORT_OPER_LEN 0) 8 0 2).setR (Reg.NET_PORT_OPER_CYCLE 0) 1000).setR (Reg.NET_PORT_OPER 0 1) 8, by decide +kernel, by decide +kernel⟩,
   ⟨0, ((State.reset).setF (Reg.NET_PORT_OPER_LEN 0) 8 0 1).setR (Reg.NET_PORT_OPER_CYCLE 0) 1000, by decide +kernel, by decide +kernel, by decide +kernel⟩,
   ⟨0, State.reset, Or.inl (by decide +kernel)⟩,
   ⟨0, [], false, (State.reset).setB (Reg.NET_PORT_STAT 0) 3 false, by decide +kernel⟩,
   ⟨0, [], ((State.reset).setB (Reg.NET_PORT_STAT 0) 3 true).setF (Reg.PWR_DOM_STAT (domTrunk 0)) 2 0 0, by decide +kernel, by decide +kernel, by decide +kernel⟩,
   ⟨0, [], false, ((State.reset).setB (Reg.NET_PORT_STAT 0) 3 true).setF (Reg.PWR_DOM_STAT (domTrunk 0)) 2 0 1, by decide +kernel, by decide +kernel⟩,
   ⟨0, [], ((State.reset).setB (Reg.NET_PORT_STAT 0) 3 true).setF (Reg.PWR_DOM_STAT (domTrunk 0)) 2 0 0, _, by decide +kernel, by decide +kernel, by decide +kernel, rfl, Or.inl (by decide)⟩,
   ⟨0, ([1, 0x80, 0xC2, 0, 0, 0xE] ++ List.replicate 6 0 ++ [0x88, 0xF7] ++ List.replicate 46 0), ((State.reset).setB (Reg.NET_PORT_STAT 0) 3 true).setF (Reg.PWR_DOM_STAT (domTrunk 0)) 2 0 0, _, by decide +kernel, by decide +kernel, by decide +kernel, by decide +kernel, by decide +kernel, rfl, by decide +kernel, by decide +kernel⟩,
   ⟨0, (List.replicate 6 255 ++ List.replicate 54 0), (((State.reset).setB (Reg.NET_PORT_STAT 0) 3 true).setF (Reg.PWR_DOM_STAT (domTrunk 0)) 2 0 0).setF (Reg.NET_PORT_STAT 0) 2 0 2, _, by decide +kernel, by decide +kernel, by decide +kernel, by decide +kernel, by decide +kernel, rfl, by decide +kernel, by decide +kernel, by decide +kernel⟩,
   ⟨0, (List.replicate 6 255 ++ List.replicate 54 0), (((((State.reset).setB (Reg.NET_PORT_STAT 0) 3 true).setF (Reg.PWR_DOM_STAT (domTrunk 0)) 2 0 0).setR (Reg.NET_RXS_DA_LO 0) 0xFFFFFFFF).setR (Reg.NET_RXS_DA_HI 0) 0x8000FFFF).setF (Reg.NET_PORT_STAT 0) 2 0 4, _, 0, by decide +kernel, by decide +kernel, by decide +kernel, by decide +kernel, by decide +kernel, rfl, by decide +kernel, by decide +kernel, by decide +kernel, by decide +kernel, by decide +kernel⟩⟩

theorem test_witness_TrunkFramesAndGates_3 :
    (∃ (p : Fin 2) (f : List Byte) (s : State) (u : State) (i : Nat), s.getB (Reg.NET_PORT_STAT p) 3 = true ∧ s.domState (domTrunk p) = 0 ∧ s.domOn (domTrunk p) = true ∧ 60 ≤ f.length ∧ f.length ≤ 1518 ∧ u = s.touch (domTrunk p) ∧ u.acceptsFrame f = true ∧ frType f ≠ 0x88F7 ∧ u.inService p = true ∧ u.rxStream f = some i ∧ frRtag f = true) ∧
    (∃ (p : Fin 2) (f : List Byte) (s : State) (u : State), s.getB (Reg.NET_PORT_STAT p) 3 = true ∧ s.domState (domTrunk p) = 0 ∧ s.domOn (domTrunk p) = true ∧ 60 ≤ f.length ∧ f.length ≤ 1518 ∧ u = s.touch (domTrunk p) ∧ u.acceptsFrame f = true ∧ frType f ≠ 0x88F7 ∧ u.inService p = true ∧ u.rxStream f = none) ∧
    (∃ (i : Fin 64) (s : State), (s.rxs i).fresh = false ∧ (s.resetTime : Int) ≤ tdiff s.time (s.rxs i).lastPass) ∧
    (∃ (i : Fin 64) (s : State), ((s.rxs i).fresh = true ∨ tdiff s.time (s.rxs i).lastPass < (s.resetTime : Int))) ∧
    (∃ (s : State), tdiff s.time s.net.latentAt < ((2000 * unitsPerMs : Nat) : Int)) ∧
    (∃ (s : State) (u : State), ((2000 * unitsPerMs : Nat) : Int) ≤ tdiff s.time s.net.latentAt ∧ u = { s with net := { s.net with rxs := (s.net.rxs.map (fun p => (p.1, ({ p.2 with latPass := [], latDup := [] } : RxStream)))).filter (fun p => p.2 != {}), latentAt := s.time } } ∧ (s.inService 0 = false ∨ s.inService 1 = false ∨ s.net.rxs.any (fun p => p.2.latent) = false)) ∧
    (∃ (s : State) (u : State), ((2000 * unitsPerMs : Nat) : Int) ≤ tdiff s.time s.net.latentAt ∧ u = { s with net := { s.net with rxs := (s.net.rxs.map (fun p => (p.1, ({ p.2 with latPass := [], latDup := [] } : RxStream)))).filter (fun p => p.2 != {}), latentAt := s.time } } ∧ s.inService 0 = true ∧ s.inService 1 = true ∧ s.net.rxs.any (fun p => p.2.latent) = true) :=
  ⟨⟨0, (List.replicate 6 255 ++ List.replicate 6 0 ++ [0xF1, 0xC1] ++ List.replicate 46 0), (((((State.reset).setB (Reg.NET_PORT_STAT 0) 3 true).setF (Reg.PWR_DOM_STAT (domTrunk 0)) 2 0 0).setR (Reg.NET_RXS_DA_LO 0) 0xFFFFFFFF).setR (Reg.NET_RXS_DA_HI 0) 0x8000FFFF).setF (Reg.NET_PORT_STAT 0) 2 0 4, _, 0, by decide +kernel, by decide +kernel, by decide +kernel, by decide +kernel, by decide +kernel, rfl, by decide +kernel, by decide +kernel, by decide +kernel, by decide +kernel, by decide +kernel⟩,
   ⟨0, (List.replicate 6 255 ++ List.replicate 54 0), (((State.reset).setB (Reg.NET_PORT_STAT 0) 3 true).setF (Reg.PWR_DOM_STAT (domTrunk 0)) 2 0 0).setF (Reg.NET_PORT_STAT 0) 2 0 4, _, by decide +kernel, by decide +kernel, by decide +kernel, by decide +kernel, by decide +kernel, rfl, by decide +kernel, by decide +kernel, by decide +kernel, by decide +kernel⟩,
   ⟨0, wAt 0x100000000000000 (wFn (fun s => s.setRxs 0 { s.rxs 0 with fresh := false }) (State.reset)), by decide +kernel, by decide +kernel⟩,
   ⟨0, wAt 0x100000000000000 (wFn (fun s => s.setRxs 0 { s.rxs 0 with fresh := true ∨ tdiff s.time (s.rxs 0).lastPass < (s.resetTime : Int) }) (State.reset)), by decide +kernel⟩,
   ⟨State.reset, by decide +kernel⟩,
   ⟨wFn (fun s => { s with net := { s.net with rxs := [(0, { latPass := [(0, 17)] })] } }) (wAt 0x100000000000000 State.reset), _, by decide +kernel, rfl, by decide +kernel⟩,
   ⟨wFn (fun s => { s with net := { s.net with rxs := [(0, { latPass := [(0, 17)] })] } }) (wAt 0x100000000000000 (((State.reset).setF (Reg.NET_PORT_STAT 0) 2 0 4).setF (Reg.NET_PORT_STAT 1) 2 0 4)), _, by decide +kernel, rfl, by decide +kernel, by decide +kernel, by decide +kernel⟩⟩

theorem test_witness_SelfTestAndJtag :
    (∃ (t : Fin 7) (s : State), (s.drizzleOn t = false ∨ s.sliceLive t = true)) ∧
    (∃ (t : Fin 7) (s : State) (u : State), s.drizzleOn t = true ∧ s.sliceLive t = false ∧ u = s.setDtype t { s.dtype t with slice := none } ∧ (u.unitsLeft t).find? (fun n => u.canTest t n) = none) ∧
    (∃ (t : Fin 7) (s : State) (u : State) (n : Nat), s.drizzleOn t = true ∧ s.sliceLive t = false ∧ u = s.setDtype t { s.dtype t with slice := none } ∧ (u.unitsLeft t).find? (fun n => u.canTest t n) = some n) ∧
    (∃ (t : Fin 7) (b : Bool) (a : Word) (bit : Fin 128) (s : State), (s.dtype t).slice = none) ∧
    (∃ (t : Fin 7) (a : Word) (bit : Fin 128) (s : State) (sl : Slice), (s.dtype t).slice = some sl ∧ sl.restoreAt = none ∧ sl.running = true ∧ sl.k + 1 < typeSlices t ∧ t.val ≠ 0) ∧
    (∃ (t : Fin 7) (a : Word) (bit : Fin 128) (s : State) (sl : Slice), (s.dtype t).slice = some sl ∧ sl.restoreAt = none ∧ sl.running = true ∧ sl.k + 1 < typeSlices t ∧ t.val = 0 ∧ s.engState sl.unit = 9) ∧
    (∃ (t : Fin 7) (b : Bool) (a : Word) (bit : Fin 128) (s : State) (sl : Slice), (s.dtype t).slice = some sl ∧ ((sl.restoreAt ≠ none ∨ sl.running = false ∨ (t.val = 0 ∧ s.engState sl.unit ≠ 9)))) ∧
    (∃ (t : Fin 7) (a : Word) (bit : Fin 128) (s : State) (sl : Slice), (s.dtype t).slice = some sl ∧ sl.restoreAt = none ∧ sl.running = true ∧ ((t.val = 0 → s.engState sl.unit = 9)) ∧ typeSlices t ≤ sl.k + 1) ∧
    (∃ (t : Fin 7) (a : Word) (bit : Fin 128) (s : State) (u : State) (v : State) (sl : Slice), (s.dtype t).slice = some sl ∧ sl.restoreAt = none ∧ sl.running = true ∧ ((t.val = 0 → s.engState sl.unit = 9)) ∧ u = ((((s.setR (Reg.TST_TYPE_FAIL_UNIT t) (BitVec.ofNat 32 (2 ^ 31 + bit.val * 65536 + sl.unit))).setF (Reg.TST_TYPE_FAIL_ADDR t) 19 0 a.toNat).addF (Reg.TST_TYPE_FAIL t) 15 0 1).raise 216 (2 ^ t.val)) ∧ v = u.setDtype t ({ u.dtype t with slice := some { sl with again := true }, failed := (u.dtype t).failed.erase sl.unit ++ [sl.unit] } : DrizzleType) ∧ (v.countFault t sl.unit (v.unitSquall t sl.unit)).2 = false) ∧
    (∃ (t : Fin 7) (a : Word) (bit : Fin 128) (s : State) (u : State) (v : State) (sl : Slice), (s.dtype t).slice = some sl ∧ sl.restoreAt = none ∧ sl.running = true ∧ ((t.val = 0 → s.engState sl.unit = 9)) ∧ u = ((((s.setR (Reg.TST_TYPE_FAIL_UNIT t) (BitVec.ofNat 32 (2 ^ 31 + bit.val * 65536 + sl.unit))).setF (Reg.TST_TYPE_FAIL_ADDR t) 19 0 a.toNat).addF (Reg.TST_TYPE_FAIL t) 15 0 1).raise 216 (2 ^ t.val)) ∧ v = u.setDtype t ({ u.dtype t with slice := some { sl with again := true }, failed := (u.dtype t).failed.erase sl.unit ++ [sl.unit] } : DrizzleType) ∧ (v.countFault t sl.unit (v.unitSquall t sl.unit)).2 = true) :=
  ⟨⟨0, State.reset, by decide +kernel⟩,
   ⟨5, wFn (fun s => s.setDtype 5 { s.dtype 5 with done := List.range (typeUnits 5) }) (((((((((State.reset).setF Reg.DEV_START_STAT 4 2 5).setB Reg.TST_CTL 31 true).setB (Reg.TST_TYPE_CTL 5) 31 true).setF (Reg.ARB_R_CTL 0) 31 30 0).setF (Reg.ARB_R_CTL 1) 31 30 0).setF (Reg.ARB_R_CTL 2) 31 30 0).setF (Reg.ARB_R_CTL 3) 31 30 0).setF (Reg.ARB_R_CTL 4) 31 30 0), _, by decide +kernel, by decide +kernel, rfl, by decide +kernel⟩,
   ⟨5, ((((((((State.reset).setF Reg.DEV_START_STAT 4 2 5).setB Reg.TST_CTL 31 true).setB (Reg.TST_TYPE_CTL 5) 31 true).setF (Reg.ARB_R_CTL 0) 31 30 0).setF (Reg.ARB_R_CTL 1) 31 30 0).setF (Reg.ARB_R_CTL 2) 31 30 0).setF (Reg.ARB_R_CTL 3) 31 30 0).setF (Reg.ARB_R_CTL 4) 31 30 0, _, 0, by decide +kernel, by decide +kernel, rfl, by decide +kernel⟩,
   ⟨0, false, 0, 0, wFn (fun s => s.setDtype 0 { s.dtype 0 with slice := none }) (State.reset), by decide +kernel⟩,
   ⟨5, 0, 0, wFn (fun s => s.setDtype 5 { s.dtype 5 with slice := some (({ unit := 0, restoreAt := none, running := true } : Slice)) }) (State.reset), ({ unit := 0, restoreAt := none, running := true } : Slice), by decide +kernel, by decide +kernel, by decide +kernel, by decide +kernel, by decide +kernel⟩,
   ⟨0, 0, 0, (wFn (fun s => s.setDtype 0 { s.dtype 0 with slice := some (({ unit := 0, restoreAt := none, running := true } : Slice)) }) (State.reset)).setEngState 0 9, ({ unit := 0, restoreAt := none, running := true } : Slice), by decide +kernel, by decide +kernel, by decide +kernel, by decide +kernel, by decide +kernel, by decide +kernel⟩,
   ⟨1, false, 0, 0, wFn (fun s => s.setDtype 1 { s.dtype 1 with slice := some (({ unit := 0, running := false } : Slice)) }) (State.reset), ({ unit := 0, running := false } : Slice), by decide +kernel, Or.inr (Or.inl rfl)⟩,
   ⟨1, 0, 0, wFn (fun s => s.setDtype 1 { s.dtype 1 with slice := some (({ unit := 0, restoreAt := none, running := true } : Slice)) }) (State.reset), ({ unit := 0, restoreAt := none, running := true } : Slice), by decide +kernel, by decide +kernel, by decide +kernel, by decide +kernel, by decide +kernel⟩,
   ⟨1, 0, 0, wFn (fun s => s.setDtype 1 { s.dtype 1 with slice := some (({ unit := 0, restoreAt := none, running := true } : Slice)) }) (State.reset), _, _, ({ unit := 0, restoreAt := none, running := true } : Slice), by decide +kernel, by decide +kernel, by decide +kernel, by decide +kernel, rfl, rfl, by decide +kernel⟩,
   ⟨1, 0, 0, (wFn (fun s => s.setDtype 1 { s.dtype 1 with slice := some (({ unit := 0, restoreAt := none, running := true } : Slice)) }) (State.reset)).setR (Reg.SEC_MEM_SQUALL 0) 0x00010001, _, _, ({ unit := 0, restoreAt := none, running := true } : Slice), by decide +kernel, by decide +kernel, by decide +kernel, by decide +kernel, rfl, rfl, by decide +kernel⟩⟩

theorem test_witness_SelfTestAndJtag_2 :
    (∃ (t : Fin 7) (s : State), (s.thawed = false ∨ atOrAfter s.time ((s.dtype t).since + units (1000 * unitsPerMs * max 1 (s.getF (Reg.TST_TYPE_CTL t) 15 0))) = false)) ∧
    (∃ (t : Fin 7) (s : State) (p : Nat), s.thawed = true ∧ p = 1000 * unitsPerMs * max 1 (s.getF (Reg.TST_TYPE_CTL t) 15 0) ∧ atOrAfter s.time ((s.dtype t).since + units p) = true ∧ s.unitsLeft t = []) ∧
    (∃ (t : Fin 7) (s : State) (u : State) (p : Nat), s.thawed = true ∧ p = 1000 * unitsPerMs * max 1 (s.getF (Reg.TST_TYPE_CTL t) 15 0) ∧ atOrAfter s.time ((s.dtype t).since + units p) = true ∧ s.unitsLeft t ≠ [] ∧ u = s.setDtype t { s.dtype t with late := true }) ∧
    (∃ (w : Word) (s : State), fld w 29 28 = 1 ∧ fld w 21 16 ≤ 47 ∧ fld w 5 0 ≤ 31 ∧ s.getB (Reg.SEC_BRAM_RETIRED (fld w 21 16)) (fld w 5 0) = true ∧ s.tst.clean.contains (unitKey 1 (33 * fld w 21 16 + fld w 5 0)) = true) ∧
    (∃ (w : Word) (s : State), fld w 29 28 = 1 ∧ fld w 21 16 ≤ 47 ∧ fld w 5 0 ≤ 31 ∧ (s.getB (Reg.SEC_BRAM_RETIRED (fld w 21 16)) (fld w 5 0) = false ∨ s.tst.clean.contains (unitKey 1 (33 * fld w 21 16 + fld w 5 0)) = false)) ∧
    (∃ (w : Word) (s : State), fld w 29 28 = 2 ∧ fld w 21 16 ≤ 47 ∧ fld w 5 0 ≤ 31 ∧ s.getB (Reg.SEC_MUL_RETIRED (fld w 21 16)) (fld w 5 0) = true ∧ s.tst.clean.contains (unitKey 2 (33 * fld w 21 16 + fld w 5 0)) = true) ∧
    (∃ (w : Word) (s : State), fld w 29 28 = 2 ∧ fld w 21 16 ≤ 47 ∧ fld w 5 0 ≤ 31 ∧ (s.getB (Reg.SEC_MUL_RETIRED (fld w 21 16)) (fld w 5 0) = false ∨ s.tst.clean.contains (unitKey 2 (33 * fld w 21 16 + fld w 5 0)) = false)) ∧
    (∃ (w : Word) (s : State) (t : Nat) (i : Nat), (t = 1 ∨ t = 2) ∧ fld w 29 28 = t ∧ i = fld w 21 16 ∧ i ≤ 47 ∧ fld w 5 0 = 32 ∧ s.getB (spareReg t i) 29 = true ∧ s.tst.clean.contains (unitKey t (33 * i + 32)) = true) ∧
    (∃ (w : Word) (s : State) (t : Nat) (i : Nat), (t = 1 ∨ t = 2) ∧ fld w 29 28 = t ∧ i = fld w 21 16 ∧ i ≤ 47 ∧ fld w 5 0 = 32 ∧ (s.getB (spareReg t i) 29 = false ∨ s.tst.clean.contains (unitKey t (33 * i + 32)) = false)) ∧
    (∃ (w : Word) (s : State), ((fld w 29 28 ≠ 1 ∧ fld w 29 28 ≠ 2) ∨ 47 < fld w 21 16 ∨ 32 < fld w 5 0)) :=
  ⟨⟨0, State.reset, by decide +kernel⟩,
   ⟨6, wAt 0x100000000000000 (wFn (fun s => s.setDtype 6 { s.dtype 6 with done := [0] }) ((State.reset).setF Reg.DEV_START_STAT 4 2 5)), _, by decide +kernel, rfl, by decide +kernel, by decide +kernel⟩,
   ⟨1, wAt 0x100000000000000 ((State.reset).setF Reg.DEV_START_STAT 4 2 5), _, _, by decide +kernel, rfl, by decide +kernel, by decide +kernel, rfl⟩,
   ⟨0x10000000, wFn (fun s => { s with tst := { s.tst with clean := [unitKey 1 0] } }) ((State.reset).setB (Reg.SEC_BRAM_RETIRED 0) 0 true), by decide +kernel, by decide +kernel, by decide +kernel, by decide +kernel, by decide +kernel⟩,
   ⟨0x10000000, State.reset, by decide +kernel, by decide +kernel, by decide +kernel, Or.inl (by decide +kernel)⟩,
   ⟨0x20000000, wFn (fun s => { s with tst := { s.tst with clean := [unitKey 2 0] } }) ((State.reset).setB (Reg.SEC_MUL_RETIRED 0) 0 true), by decide +kernel, by decide +kernel, by decide +kernel, by decide +kernel, by decide +kernel⟩,
   ⟨0x20000000, wFn (fun s => { s with tst := { s.tst with clean := [unitKey 1 0] } }) ((State.reset).setB (Reg.SEC_BRAM_RETIRED 0) 0 true), by decide +kernel, by decide +kernel, by decide +kernel, by decide +kernel⟩,
   ⟨0x10000020, wFn (fun s => { s with tst := { s.tst with clean := [unitKey 1 32] } }) ((State.reset).setB (spareReg 1 0) 29 true), 1, 0, Or.inl rfl, (by decide +kernel), (by decide +kernel), by decide +kernel, by decide +kernel, by decide +kernel, by decide +kernel⟩,
   ⟨0x10000020, State.reset, 1, 0, Or.inl rfl, (by decide +kernel), (by decide +kernel), by decide +kernel, by decide +kernel, Or.inl (by decide +kernel)⟩,
   ⟨0, State.reset, by decide +kernel⟩⟩

theorem test_witness_SelfTestAndJtag_3 :
    (∃ (i : Byte) (s : State), (i = 1 ∨ i = 2 ∨ i = 0xFF)) ∧
    (∃ (i : Byte) (s : State), (i = 0 ∨ i = 3 ∨ i = 4 ∨ i = 0x20 ∨ i = 0x21) ∧ s.getB Reg.TST_SCAN 0 = true) ∧
    (∃ (i : Byte) (s : State), (i = 0 ∨ i = 3 ∨ i = 4 ∨ i = 0x20 ∨ i = 0x21) ∧ s.getB Reg.TST_SCAN 0 = false) ∧
    (∃ (i : Byte) (s : State), ((5 ≤ i.toNat ∧ i.toNat ≤ 0x1F) ∨ (0x22 ≤ i.toNat ∧ i.toNat ≤ 0xFE))) :=
  ⟨⟨1, State.reset, (by decide)⟩,
   ⟨0, (State.reset).setB Reg.TST_SCAN 0 true, (by decide), by decide +kernel⟩,
   ⟨0, (State.reset).setB Reg.TST_SCAN 0 false, (by decide), by decide +kernel⟩,
   ⟨5, State.reset, by decide +kernel⟩⟩

theorem test_witness_PacketsAndSessions :
    (∃ (s : State), s.cmd.rx = []) ∧
    (∃ (s : State) (p : RxPacket), nextRx s.cmd.rx = some p ∧ ((∀ x ∈ s.cmd.inflight, x.stage ≠ .queued))) ∧
    (∃ (s : State), s.cmd.inflight.any (fun x => x.stage == .queued) = true) ∧
    (∃ (s : State) (n : Fin 4) (p : RxPacket), (s.session n).state = 0 ∧ beAt p.bytes 1 1 = 1 ∧ beAt p.bytes 2 1 = n.val) ∧
    (∃ (s : State) (n : Fin 4) (p : RxPacket) (k : Packet), (s.session n).state ≠ 0 ∧ (s.session n).iface = p.iface ∧ (s.session n).mac = p.mac ∧ parsePacket (s.session n).v2 p.bytes = some k ∧ k.tag ≠ (hmacSha256 (s.session n).skey k.body).take 16) ∧
    (∃ (c : CmdRef) (s : State), ((∀ x ∈ s.cmd.inflight, x.stage ≠ .runWait))) ∧
    (∃ (c : CmdRef) (s : State) (x : Command), s.cmd.inflight.find? (fun x => x.stage == .runWait) = some x ∧ ((x.ref ≠ c ∨ s.quietUntil (x.stamp + units unitsPerUs) = false))) ∧
    (∃ (c : CmdRef) (s : State) (x : Command), s.cmd.inflight.find? (fun x => x.stage == .runWait) = some x ∧ x.ref = c ∧ s.quietUntil (x.stamp + units unitsPerUs) = true ∧ s.crossed x.stamp = true) ∧
    (∃ (c : CmdRef) (s : State) (x : Command) (k : Fin 4), s.cmd.inflight.find? (fun x => x.stage == .runWait) = some x ∧ x.ref = c ∧ s.quietUntil (x.stamp + units unitsPerUs) = true ∧ s.crossed x.stamp = false ∧ x.ref.session = some k ∧ x.mute = true) ∧
    (∃ (c : CmdRef) (s : State) (x : Command) (k : Fin 4), s.cmd.inflight.find? (fun x => x.stage == .runWait) = some x ∧ x.ref = c ∧ s.quietUntil (x.stamp + units unitsPerUs) = true ∧ s.crossed x.stamp = false ∧ x.ref.session = some k ∧ x.mute = false ∧ s.holder = none ∧ s.v2Takes x = true) :=
  ⟨⟨wFn (fun s => { s with cmd := { s.cmd with rx := [] } }) (State.reset), by decide +kernel⟩,
   ⟨wFn (fun s => { s with cmd := { s.cmd with rx := [{ bytes := [], iface := 0, mac := 0, vid := 0, stamp := 0 }] } }) (State.reset), ({ bytes := [], iface := 0, mac := 0, vid := 0, stamp := 0 } : RxPacket), by decide +kernel, by decide +kernel⟩,
   ⟨wCom (wCmd 0 0 []) State.reset, by decide +kernel⟩,
   ⟨wFn (fun s => s.setSession 0 { s.session 0 with state := 0 }) (State.reset), 0, ({ bytes := [0, 1, 0], iface := 0, mac := 0, vid := 0, stamp := 0 } : RxPacket), by decide +kernel, by decide +kernel, by decide +kernel⟩,
   ⟨(State.reset : State).setSession 0 { state := 2 }, 0, ({ bytes := (List.replicate 60 0), iface := 0, mac := 0, vid := 0, stamp := 0 } : RxPacket), _, by decide +kernel, by decide +kernel, by decide +kernel, rfl, by decide +kernel⟩,
   ⟨wRef, State.reset, by decide +kernel⟩,
   ⟨wRef, wCom ({ wCmd 0 0 [] with stage := .runWait } : Command) State.reset, ({ wCmd 0 0 [] with stage := .runWait } : Command), (by decide +kernel), Or.inr (by decide +kernel)⟩,
   ⟨wRef, wFn (fun s => { s with cmd := { s.cmd with stops := [0] } }) (wAt 0x100000000000000 (wCom ({ wCmd 0 0 [] with stage := .runWait } : Command) State.reset)), ({ wCmd 0 0 [] with stage := .runWait } : Command), (by decide +kernel), by decide +kernel, by decide +kernel, by decide +kernel⟩,
   ⟨wRef, wAt 0x100000000000000 (wCom ({ wCmd 0 0 [] with stage := .runWait, mute := true } : Command) State.reset), ({ wCmd 0 0 [] with stage := .runWait, mute := true } : Command), 0, (by decide +kernel), by decide +kernel, by decide +kernel, by decide +kernel, by decide +kernel, by decide +kernel⟩,
   ⟨wRef, (wAt 0x100000000000000 (wCom ({ wCmd 0 0 [] with stage := .runWait, v2 := true } : Command) State.reset)).setB Reg.CMD_CTL 12 true, ({ wCmd 0 0 [] with stage := .runWait, v2 := true } : Command), 0, (by decide +kernel), by decide +kernel, by decide +kernel, by decide +kernel, by decide +kernel, by decide +kernel, by decide +kernel, by decide +kernel⟩⟩

theorem test_witness_PacketsAndSessions_2 :
    (∃ (c : CmdRef) (s : State) (x : Command) (k : Fin 4), s.cmd.inflight.find? (fun x => x.stage == .runWait) = some x ∧ x.ref = c ∧ s.quietUntil (x.stamp + units unitsPerUs) = true ∧ s.crossed x.stamp = false ∧ x.ref.session = some k ∧ x.mute = false ∧ s.holder = some k.val) ∧
    (∃ (c : CmdRef) (s : State) (x : Command) (k : Fin 4), s.cmd.inflight.find? (fun x => x.stage == .runWait) = some x ∧ x.ref = c ∧ s.quietUntil (x.stamp + units unitsPerUs) = true ∧ s.crossed x.stamp = false ∧ x.ref.session = some k ∧ x.mute = false ∧ s.holder ≠ some k.val ∧ s.v2Takes x = false) ∧
    (∃ (b : List Byte) (s : State), s.svcUp = false) ∧
    (∃ (b : List Byte) (s : State) (v2 : Bool), s.svcUp = true ∧ s.getB Reg.CMD_CTL 11 = true ∧ v2 = (beAt b 0 1 == 2) ∧ headLen v2 ≤ b.length ∧ b.length = headLen v2 + lenField v2 b + 16) ∧
    (∃ (b : List Byte) (s : State) (v2 : Bool), s.svcUp = true ∧ s.getB Reg.CMD_CTL 11 = true ∧ v2 = (beAt b 0 1 == 2) ∧ (b.length < headLen v2 ∨ b.length ≠ headLen v2 + lenField v2 b + 16)) ∧
    (∃ (b : List Byte) (s : State), s.getB Reg.CMD_CTL 11 = false) ∧
    (∃ (s : State) (p : OutPacket) (l : List OutPacket), s.svcUp = true ∧ s.cmd.svcQueue = p :: l) ∧
    (∃ (s : State), s.svcUp = true ∧ s.cmd.svcQueue = []) ∧
    (∃ (k : Fin 4) (s : State), (s.session k).state = 2 ∧ s.quietUntil ((s.session k).lastPkt + units (1000 * unitsPerMs * max 1 (s.getF Reg.CMD_CTL 31 24))) = true) ∧
    (∃ (k : Fin 4) (s : State), (s.session k).state = 1 ∧ s.quietUntil ((s.session k).openedAt + units (1000 * unitsPerMs)) = true) :=
  ⟨⟨wRef, wFn (fun s => { s with cmd := { s.cmd with lease := some (0, 0) } }) (wAt 0x100000000000000 (wCom ({ wCmd 0 0 [] with stage := .runWait } : Command) State.reset)), ({ wCmd 0 0 [] with stage := .runWait } : Command), 0, (by decide +kernel), by decide +kernel, by decide +kernel, by decide +kernel, by decide +kernel, by decide +kernel, by decide +kernel⟩,
   ⟨wRef, wAt 0x100000000000000 (wCom ({ wCmd 0 0 [] with stage := .runWait } : Command) State.reset), ({ wCmd 0 0 [] with stage := .runWait } : Command), 0, (by decide +kernel), by decide +kernel, by decide +kernel, by decide +kernel, by decide +kernel, by decide +kernel, by decide +kernel, by decide +kernel⟩,
   ⟨[], State.reset, by decide +kernel⟩,
   ⟨(3 :: List.replicate 39 0), (wFn (fun s => { s with boot := { s.boot with supply := true } }) (State.reset)).setB Reg.CMD_CTL 11 true, _, by decide +kernel, by decide +kernel, rfl, by decide +kernel, by decide +kernel⟩,
   ⟨(3 :: List.replicate 30 0), (wFn (fun s => { s with boot := { s.boot with supply := true } }) (State.reset)).setB Reg.CMD_CTL 11 true, _, by decide +kernel, by decide +kernel, rfl, by decide +kernel⟩,
   ⟨[], (State.reset).setB Reg.CMD_CTL 11 false, by decide +kernel⟩,
   ⟨wFn (fun s => { s with cmd := { s.cmd with svcQueue := (({ bytes := [], iface := 0, mac := 0, vid := 0, isEvent := false } : OutPacket)) :: ([]) } }) (wFn (fun s => { s with boot := { s.boot with supply := true } }) (State.reset)), ({ bytes := [], iface := 0, mac := 0, vid := 0, isEvent := false } : OutPacket), [], by decide +kernel, by decide +kernel⟩,
   ⟨wFn (fun s => { s with cmd := { s.cmd with svcQueue := [] } }) (wFn (fun s => { s with boot := { s.boot with supply := true } }) (State.reset)), by decide +kernel, by decide +kernel⟩,
   ⟨0, wAt 0x100000000000000 (wFn (fun s => s.setSession 0 { s.session 0 with state := 2 }) (State.reset)), by decide +kernel, by decide +kernel⟩,
   ⟨0, wAt 0x100000000000000 (wFn (fun s => s.setSession 0 { s.session 0 with state := 1 }) (State.reset)), by decide +kernel, by decide +kernel⟩⟩

theorem test_witness_PacketsAndSessions_3 :
    (∃ (k : Fin 4) (s : State), ((s.session k).state ≠ 2 ∨ s.quietUntil ((s.session k).lastPkt + units (1000 * unitsPerMs * max 1 (s.getF Reg.CMD_CTL 31 24))) = false)) ∧
    (∃ (k : Fin 4) (s : State), ((s.session k).state ≠ 1 ∨ s.quietUntil ((s.session k).openedAt + units (1000 * unitsPerMs)) = false)) ∧
    (∃ (k : Fin 4) (s : State), ((s.session k).state ≠ 2 ∨ (s.session k).v2 = true)) ∧
    (∃ (k : Fin 4) (s : State), (s.session k).reports = []) ∧
    (∃ (k : Fin 4) (s : State) (e : EvEntry) (l : List EvEntry) (x : Session), s.session k = x ∧ x.reports.take 60 = e :: l ∧ x.state = 2 ∧ x.v2 = false) ∧
    (∃ (c : CmdRef) (s : State) (x : Command), s.turn c 0 0 = some x) ∧
    (∃ (c : CmdRef) (s : State) (x : Command), s.turn c 0 3 = some x) ∧
    (∃ (c : CmdRef) (s : State) (x : Command) (k : Fin 4), s.turn c 0 2 = some x ∧ x.ref.session = some k) ∧
    (∃ (c : CmdRef) (s : State) (u : State) (x : Command) (hk : List Byte) (nd : List Byte) (ks : List Byte) (bare : Bool) (k : Nat), s.turn c 0 1 = some x ∧ s.openKey x (beAt x.payload 0 1) = .ok (hk, bare) ∧ s.openSlot (beAt x.payload 1 1) = .ok k ∧ s.freshBytes 16 = (u, nd) ∧ ks = hmacSha256 hk (beBytes 5 0x415A2D534B ++ sliceB x.payload 4 16 ++ nd ++ beBytes 1 k)) ∧
    (∃ (c : CmdRef) (s : State) (x : Command) (e : Nat), s.turn c 0 1 = some x ∧ s.openKey x (beAt x.payload 0 1) = .error e) :=
  ⟨⟨0, wAt 0x100000000000000 State.reset, by decide +kernel⟩,
   ⟨0, wAt 0x100000000000000 State.reset, by decide +kernel⟩,
   ⟨0, State.reset, by decide +kernel⟩,
   ⟨0, wFn (fun s => s.setSession 0 { s.session 0 with reports := [] }) (State.reset), by decide +kernel⟩,
   ⟨0, (State.reset : State).setSession 0 { state := 2, reports := [⟨0, 0, 0⟩] }, ⟨0, 0, 0⟩, [], _, rfl, by decide +kernel, by decide +kernel, by decide +kernel⟩,
   ⟨wRef, wCom (wCmd 0 0 (List.replicate 24 0)) State.reset, (wCmd 0 0 (List.replicate 24 0)), by decide +kernel⟩,
   ⟨wRef, wCom (wCmd 0 3 (List.replicate 24 0)) State.reset, (wCmd 0 3 (List.replicate 24 0)), by decide +kernel⟩,
   ⟨wRef, wCom (wCmd 0 2 (List.replicate 24 0)) State.reset, (wCmd 0 2 (List.replicate 24 0)), 0, by decide +kernel, by decide +kernel⟩,
   ⟨wRef, wCom (wCmd 0 1 (7 :: List.replicate 23 0)) State.reset, _, (wCmd 0 1 (7 :: List.replicate 23 0)), _, _, _, _, _, by decide +kernel, rfl, rfl, rfl, rfl⟩,
   ⟨wRef, wCom (wCmd 0 1 (List.replicate 24 0)) State.reset, (wCmd 0 1 (List.replicate 24 0)), _, by decide +kernel, rfl⟩⟩

theorem test_witness_PacketsAndSessions_4 :
    (∃ (c : CmdRef) (s : State) (x : Command) (hk : List Byte) (bare : Bool) (e : Nat), s.turn c 0 1 = some x ∧ s.openKey x (beAt x.payload 0 1) = .ok (hk, bare) ∧ s.openSlot (beAt x.payload 1 1) = .error e) :=
  ⟨wRef, wCom (wCmd 0 1 ([7, 5, 0, 0, 0, 0, 0, 0, 0, 0, 0, 0, 0, 0, 0, 0, 0, 0, 0, 0, 0, 0, 0, 0])) State.reset, (wCmd 0 1 ([7, 5, 0, 0, 0, 0, 0, 0, 0, 0, 0, 0, 0, 0, 0, 0, 0, 0, 0, 0, 0, 0, 0, 0])), _, _, _, by decide +kernel, rfl, rfl⟩

theorem test_witness_RegistersAndAddresses :
    (∃ (c : CmdRef) (l : List Ecc) (s : State) (t : State) (x : Command) (d : List Byte), s.turn c 1 0 = some x ∧ 1 ≤ beAt x.payload 4 2 ∧ beAt x.payload 4 2 ≤ 256 ∧ addrOk (beAt x.payload 0 4) (beAt x.payload 4 2) = true ∧ s.readWords (beAt x.payload 4 2) (beAt x.payload 0 4) l s [] = (t, some d)) ∧
    (∃ (c : CmdRef) (l : List Ecc) (s : State) (t : State) (x : Command), s.turn c 1 0 = some x ∧ 1 ≤ beAt x.payload 4 2 ∧ beAt x.payload 4 2 ≤ 256 ∧ addrOk (beAt x.payload 0 4) (beAt x.payload 4 2) = true ∧ s.readWords (beAt x.payload 4 2) (beAt x.payload 0 4) l s [] = (t, none)) ∧
    (∃ (c : CmdRef) (l : List Ecc) (s : State) (x : Command), s.turn c 1 0 = some x ∧ (beAt x.payload 4 2 = 0 ∨ 256 < beAt x.payload 4 2)) ∧
    (∃ (c : CmdRef) (l : List Ecc) (s : State) (x : Command), s.turn c 1 0 = some x ∧ 1 ≤ beAt x.payload 4 2 ∧ beAt x.payload 4 2 ≤ 256 ∧ addrOk (beAt x.payload 0 4) (beAt x.payload 4 2) = false) ∧
    (∃ (c : CmdRef) (s : State) (x : Command) (n : Nat), s.turn c 1 1 = some x ∧ n = (x.payload.length - 4) / 4 ∧ addrOk (beAt x.payload 0 4) n = true) ∧
    (∃ (c : CmdRef) (s : State) (x : Command) (n : Nat), s.turn c 1 1 = some x ∧ n = (x.payload.length - 4) / 4 ∧ addrOk (beAt x.payload 0 4) n = false) ∧
    (∃ (c : CmdRef) (x : Ecc) (s : State) (t : State) (y : Command) (v : Word), s.turn c 1 2 = some y ∧ addrOk (beAt y.payload 0 4) 1 = true ∧ s.readReg (beAt y.payload 0 4) x = (t, v, true)) ∧
    (∃ (c : CmdRef) (x : Ecc) (s : State) (t : State) (y : Command) (v : Word), s.turn c 1 2 = some y ∧ addrOk (beAt y.payload 0 4) 1 = false) ∧
    (∃ (c : CmdRef) (x : Ecc) (s : State) (t : State) (y : Command) (v : Word), s.turn c 1 2 = some y ∧ addrOk (beAt y.payload 0 4) 1 = true ∧ s.readReg (beAt y.payload 0 4) x = (t, v, false)) ∧
    (∃ (c : CmdRef) (s : State) (x : Command) (n : Nat), s.turn c 2 0 = some x ∧ n = x.payload.length / 16 - x.offered ∧ n ≤ fifoDepth 80 - (s.fifo 80).length) :=
  ⟨⟨wRef, [], wCom (wCmd 1 0 ([0, 0, 0, 0, 0, 1, 0, 0, 0, 0, 0, 0, 0, 0, 0, 0, 0, 0, 0, 0, 0, 0, 0, 0])) State.reset, _, (wCmd 1 0 ([0, 0, 0, 0, 0, 1, 0, 0, 0, 0, 0, 0, 0, 0, 0, 0, 0, 0, 0, 0, 0, 0, 0, 0])), _, by decide +kernel, by decide +kernel, by decide +kernel, by decide +kernel, Prod.ext rfl rfl⟩,
   ⟨wRef, [.uncorrectable], (wCom (wCmd 1 0 ([64, 0, 0, 0, 0, 1, 0, 0, 0, 0, 0, 0, 0, 0, 0, 0, 0, 0, 0, 0, 0, 0, 0, 0])) State.reset).setF (Reg.PWR_DOM_STAT domNv) 2 0 2, _, (wCmd 1 0 ([64, 0, 0, 0, 0, 1, 0, 0, 0, 0, 0, 0, 0, 0, 0, 0, 0, 0, 0, 0, 0, 0, 0, 0])), by decide +kernel, by decide +kernel, by decide +kernel, by decide +kernel, Prod.ext rfl (by decide +kernel)⟩,
   ⟨wRef, [], wCom (wCmd 1 0 ([0, 0, 0, 0, 1, 1, 0, 0, 0, 0, 0, 0, 0, 0, 0, 0, 0, 0, 0, 0, 0, 0, 0, 0])) State.reset, (wCmd 1 0 ([0, 0, 0, 0, 1, 1, 0, 0, 0, 0, 0, 0, 0, 0, 0, 0, 0, 0, 0, 0, 0, 0, 0, 0])), by decide +kernel, by decide +kernel⟩,
   ⟨wRef, [], wCom (wCmd 1 0 ([0, 0, 0, 1, 0, 1, 0, 0, 0, 0, 0, 0, 0, 0, 0, 0, 0, 0, 0, 0, 0, 0, 0, 0])) State.reset, (wCmd 1 0 ([0, 0, 0, 1, 0, 1, 0, 0, 0, 0, 0, 0, 0, 0, 0, 0, 0, 0, 0, 0, 0, 0, 0, 0])), by decide +kernel, by decide +kernel, by decide +kernel, by decide +kernel⟩,
   ⟨wRef, wCom (wCmd 1 1 (List.replicate 24 0)) State.reset, (wCmd 1 1 (List.replicate 24 0)), _, by decide +kernel, rfl, by decide +kernel⟩,
   ⟨wRef, wCom (wCmd 1 1 ([0, 0, 0, 1, 0, 0, 0, 0, 0, 0, 0, 0, 0, 0, 0, 0, 0, 0, 0, 0, 0, 0, 0, 0])) State.reset, (wCmd 1 1 ([0, 0, 0, 1, 0, 0, 0, 0, 0, 0, 0, 0, 0, 0, 0, 0, 0, 0, 0, 0, 0, 0, 0, 0])), _, by decide +kernel, rfl, by decide +kernel⟩,
   ⟨wRef, .clean, wCom (wCmd 1 2 (List.replicate 24 0)) State.reset, _, (wCmd 1 2 (List.replicate 24 0)), _, by decide +kernel, by decide +kernel, rfl⟩,
   ⟨wRef, .clean, wCom (wCmd 1 2 ([0, 0, 0, 1, 0, 0, 0, 0, 0, 0, 0, 0, 0, 0, 0, 0, 0, 0, 0, 0, 0, 0, 0, 0])) State.reset, State.reset, (wCmd 1 2 ([0, 0, 0, 1, 0, 0, 0, 0, 0, 0, 0, 0, 0, 0, 0, 0, 0, 0, 0, 0, 0, 0, 0, 0])), 0, by decide +kernel, by decide +kernel⟩,
   ⟨wRef, .clean, (wCom (wCmd 1 2 ([64, 0, 0, 0, 0, 0, 0, 0, 0, 0, 0, 0, 0, 0, 0, 0, 0, 0, 0, 0, 0, 0, 0, 0])) State.reset).setF (Reg.PWR_DOM_STAT domNv) 2 0 1, _, (wCmd 1 2 ([64, 0, 0, 0, 0, 0, 0, 0, 0, 0, 0, 0, 0, 0, 0, 0, 0, 0, 0, 0, 0, 0, 0, 0])), _, by decide +kernel, by decide +kernel, rfl⟩,
   ⟨wRef, wCom (wCmd 2 0 (List.replicate 24 0)) State.reset, (wCmd 2 0 (List.replicate 24 0)), _, by decide +kernel, rfl, by decide +kernel⟩⟩

theorem test_witness_RegistersAndAddresses_2 :
    (∃ (c : CmdRef) (s : State) (x : Command) (k : Nat), s.turn c 2 0 = some x ∧ k = fifoDepth 80 - (s.fifo 80).length ∧ k < x.payload.length / 16 - x.offered ∧ 0 < k) ∧
    (∃ (c : CmdRef) (s : State) (x : Command) (k : Nat), s.turn c 2 0 = some x ∧ k = fifoDepth 80 - (s.fifo 80).length ∧ k < x.payload.length / 16 - x.offered ∧ k = 0) ∧
    (∃ (a : Word) (w : Word) (s : State), a.toNat < 0x10000000 ∧ regRow a.toNat = none) ∧
    (∃ (a : Word) (w : Word) (s : State) (r : RegRow) (i : List Nat), a.toNat < 0x10000000 ∧ regRow a.toNat = some (r, i) ∧ r.pair = 0 ∧ r.hook = .none) ∧
    (∃ (a : Word) (s : State), regRow a.toNat = none) ∧
    (∃ (a : Word) (s : State) (r : RegRow) (i : List Nat), regRow a.toNat = some (r, i) ∧ r.rc = 0) ∧
    (∃ (a : Word) (w : Word) (s : State), regRow a.toNat = none) ∧
    (∃ (a : Word) (w : Word) (s : State) (r : RegRow) (i : List Nat), regRow a.toNat = some (r, i) ∧ r.hook ≠ .evtRoute) ∧
    (∃ (a : Word) (s : State) (r : RegRow) (i : List Nat), regRow a.toNat = some (r, i) ∧ r.pair = 0 ∧ r.hook ≠ .capRec ∧ r.rc ≠ 0) ∧
    (∃ (a : Word) (w : Word) (s : State) (r : RegRow) (i : List Nat), regRow a.toNat = some (r, i) ∧ r.hook = .evtRoute ∧ sourceValid (fld w 8 0) = true) :=
  ⟨⟨wRef, (wCom (wCmd 2 0 (List.replicate 48 0)) State.reset : State).setFifo 80 (List.replicate 63 ⟨0, .config⟩), (wCmd 2 0 (List.replicate 48 0)), _, by decide +kernel, rfl, by decide +kernel, by decide +kernel⟩,
   ⟨wRef, (wCom (wCmd 2 0 (List.replicate 24 0)) State.reset : State).setFifo 80 (List.replicate 100 ⟨0, .config⟩), (wCmd 2 0 (List.replicate 24 0)), 0, by decide +kernel, rfl, by decide +kernel, by decide +kernel⟩,
   ⟨0, 0, State.reset, by decide +kernel, by decide +kernel⟩,
   ⟨0x100, 0, State.reset, _, _, by decide +kernel, rfl, by decide +kernel, by decide +kernel⟩,
   ⟨0, State.reset, by decide +kernel⟩,
   ⟨0x100, State.reset, _, _, rfl, by decide +kernel⟩,
   ⟨0, 0, State.reset, by decide +kernel⟩,
   ⟨0x100, 0, State.reset, _, _, rfl, by decide +kernel⟩,
   ⟨0x200100, State.reset, _, _, rfl, by decide +kernel, by decide +kernel, by decide +kernel⟩,
   ⟨0xB00200, 0, State.reset, _, _, rfl, by decide +kernel, by decide +kernel⟩⟩

theorem test_witness_RegistersAndAddresses_3 :
    (∃ (a : Word) (w : Word) (s : State) (r : RegRow) (i : List Nat), regRow a.toNat = some (r, i) ∧ r.hook = .evtRoute ∧ sourceValid (fld w 8 0) = false) ∧
    (∃ (ev : Fin 320) (w : Word) (s : State) (a : Nat), s.causeAddr ev = some a) ∧
    (∃ (ev : Fin 320) (w : Word) (s : State), s.causeAddr ev = none) ∧
    (∃ (s : State), s.evt.signals = []) ∧
    (∃ (s : State) (e : Nat) (j : Nat) (n : Nat) (l : List (Nat × Nat)), s.evt.signals = (e, j) :: l ∧ s.physOf e = some n ∧ s.domOn (domEngine n) = true) ∧
    (∃ (s : State) (e : Nat) (j : Nat) (n : Nat) (l : List (Nat × Nat)), s.evt.signals = (e, j) :: l ∧ s.physOf e = some n ∧ s.domOn (domEngine n) = false) :=
  ⟨⟨0xB00200, 159, State.reset, _, _, rfl, by decide +kernel, by decide +kernel⟩,
   ⟨64, 0, State.reset, _, rfl⟩,
   ⟨159, 0, State.reset, by decide +kernel⟩,
   ⟨wFn (fun s => { s with evt := { s.evt with signals := [] } }) (State.reset), by decide +kernel⟩,
   ⟨wFn (fun s => { s with evt := { s.evt with signals := (0, 0) :: ([]) } }) (State.reset), 0, 0, 0, [], by decide +kernel, by decide +kernel, by decide +kernel⟩,
   ⟨(wFn (fun s => { s with evt := { s.evt with signals := (0, 0) :: ([]) } }) (State.reset)).setF (Reg.PWR_DOM_STAT (domEngine 0)) 2 0 2, 0, 0, 0, [], by decide +kernel, by decide +kernel, by decide +kernel⟩⟩

theorem test_witness_EventsAndLease :
    (∃ (c : CmdRef) (s : State) (x : Command), s.turn c 2 6 = some x) ∧
    (∃ (c : CmdRef) (s : State) (x : Command) (d : Nat), s.turn c 7 1 = some x ∧ d = beAt x.payload 0 1 ∧ d ≤ 134) ∧
    (∃ (c : CmdRef) (s : State) (x : Command) (d : Nat), s.turn c 7 1 = some x ∧ d = beAt x.payload 0 1 ∧ 134 < d) ∧
    (∃ (c : CmdRef) (s : State) (x : Command) (k : Fin 4), s.turn c 8 0 = some x ∧ x.ref.session = some k ∧ x.mute = false) ∧
    (∃ (c : CmdRef) (s : State) (x : Command) (k : Fin 4), s.turn c 8 0 = some x ∧ x.ref.session = some k ∧ x.mute = true) ∧
    (∃ (c : CmdRef) (s : State) (x : Command) (e : Nat) (n : Nat), s.turn c 8 1 = some x ∧ e = beAt x.payload 0 2 ∧ n = beAt x.payload 2 1 ∧ 1 ≤ n ∧ n ≤ 64 ∧ e + n ≤ 320) ∧
    (∃ (c : CmdRef) (s : State) (x : Command) (e : Nat) (n : Nat), s.turn c 8 1 = some x ∧ e = beAt x.payload 0 2 ∧ n = beAt x.payload 2 1 ∧ (n = 0 ∨ 64 < n ∨ 320 < e + n)) ∧
    (∃ (c : CmdRef) (s : State) (x : Command) (a : Nat), s.turn c 8 2 = some x ∧ beAt x.payload 0 2 < 320 ∧ s.causeAddr (beAt x.payload 0 2) = some a) ∧
    (∃ (c : CmdRef) (s : State) (x : Command), s.turn c 8 2 = some x ∧ 320 ≤ beAt x.payload 0 2) ∧
    (∃ (c : CmdRef) (s : State) (x : Command), s.turn c 8 2 = some x ∧ beAt x.payload 0 2 < 320 ∧ s.causeAddr (beAt x.payload 0 2) = none) :=
  ⟨⟨wRef, wCom (wCmd 2 6 (List.replicate 24 0)) State.reset, (wCmd 2 6 (List.replicate 24 0)), by decide +kernel⟩,
   ⟨wRef, wCom (wCmd 7 1 (List.replicate 24 0)) State.reset, (wCmd 7 1 (List.replicate 24 0)), _, by decide +kernel, rfl, by decide +kernel⟩,
   ⟨wRef, wCom (wCmd 7 1 ([135, 0, 0, 0, 0, 0, 0, 0, 0, 0, 0, 0, 0, 0, 0, 0, 0, 0, 0, 0, 0, 0, 0, 0])) State.reset, (wCmd 7 1 ([135, 0, 0, 0, 0, 0, 0, 0, 0, 0, 0, 0, 0, 0, 0, 0, 0, 0, 0, 0, 0, 0, 0, 0])), _, by decide +kernel, rfl, by decide +kernel⟩,
   ⟨wRef, wCom (wCmd 8 0 (List.replicate 24 0)) State.reset, (wCmd 8 0 (List.replicate 24 0)), 0, by decide +kernel, by decide +kernel, by decide +kernel⟩,
   ⟨wRef, wCom ({ wCmd 8 0 (List.replicate 24 0) with mute := true }) State.reset, ({ wCmd 8 0 (List.replicate 24 0) with mute := true }), 0, by decide +kernel, by decide +kernel, by decide +kernel⟩,
   ⟨wRef, wCom (wCmd 8 1 ([0, 0, 1, 0, 0, 0, 0, 0, 0, 0, 0, 0, 0, 0, 0, 0, 0, 0, 0, 0, 0, 0, 0, 0])) State.reset, (wCmd 8 1 ([0, 0, 1, 0, 0, 0, 0, 0, 0, 0, 0, 0, 0, 0, 0, 0, 0, 0, 0, 0, 0, 0, 0, 0])), _, _, by decide +kernel, rfl, rfl, by decide +kernel, by decide +kernel, by decide +kernel⟩,
   ⟨wRef, wCom (wCmd 8 1 ([255, 255, 1, 0, 0, 0, 0, 0, 0, 0, 0, 0, 0, 0, 0, 0, 0, 0, 0, 0, 0, 0, 0, 0])) State.reset, (wCmd 8 1 ([255, 255, 1, 0, 0, 0, 0, 0, 0, 0, 0, 0, 0, 0, 0, 0, 0, 0, 0, 0, 0, 0, 0, 0])), _, _, by decide +kernel, rfl, rfl, (by decide +kernel)⟩,
   ⟨wRef, wCom (wCmd 8 2 ([0, 64, 0, 0, 0, 0, 0, 0, 0, 0, 0, 0, 0, 0, 0, 0, 0, 0, 0, 0, 0, 0, 0, 0])) State.reset, (wCmd 8 2 ([0, 64, 0, 0, 0, 0, 0, 0, 0, 0, 0, 0, 0, 0, 0, 0, 0, 0, 0, 0, 0, 0, 0, 0])), _, by decide +kernel, by decide +kernel, rfl⟩,
   ⟨wRef, wCom (wCmd 8 2 ([1, 64, 0, 0, 0, 0, 0, 0, 0, 0, 0, 0, 0, 0, 0, 0, 0, 0, 0, 0, 0, 0, 0, 0])) State.reset, (wCmd 8 2 ([1, 64, 0, 0, 0, 0, 0, 0, 0, 0, 0, 0, 0, 0, 0, 0, 0, 0, 0, 0, 0, 0, 0, 0])), by decide +kernel, by decide +kernel⟩,
   ⟨wRef, wCom (wCmd 8 2 ([0, 159, 0, 0, 0, 0, 0, 0, 0, 0, 0, 0, 0, 0, 0, 0, 0, 0, 0, 0, 0, 0, 0, 0])) State.reset, (wCmd 8 2 ([0, 159, 0, 0, 0, 0, 0, 0, 0, 0, 0, 0, 0, 0, 0, 0, 0, 0, 0, 0, 0, 0, 0, 0])), by decide +kernel, by decide +kernel, (by decide +kernel)⟩⟩

theorem test_witness_EventsAndLease_2 :
    (∃ (c : CmdRef) (s : State) (x : Command) (k : Fin 4), s.turn c 10 0 = some x ∧ x.ref.session = some k ∧ s.holder = none ∧ x.mute = false) ∧
    (∃ (c : CmdRef) (s : State) (x : Command) (k : Fin 4), s.turn c 10 0 = some x ∧ x.ref.session = some k ∧ s.holder = none ∧ x.mute = true) ∧
    (∃ (c : CmdRef) (s : State) (x : Command) (k : Fin 4), s.turn c 10 0 = some x ∧ x.ref.session = some k ∧ s.holder.isSome = true) ∧
    (∃ (c : CmdRef) (s : State) (x : Command), s.turn c 10 1 = some x) ∧
    (∃ (c : CmdRef) (s : State) (x : Command) (k : Fin 4), s.turn c 10 2 = some x ∧ x.ref.session = some k ∧ s.holder = some k.val) ∧
    (∃ (c : CmdRef) (s : State) (x : Command) (k : Fin 4), s.turn c 10 2 = some x ∧ x.ref.session = some k ∧ s.holder ≠ some k.val) ∧
    (∃ (c : CmdRef) (s : State) (x : Command), s.turn c 10 3 = some x) ∧
    (∃ (s : State), s.cmd.lease = none) ∧
    (∃ (s : State) (k : Nat) (t : DWord), s.cmd.lease = some (k, t) ∧ s.reached (t + units s.leaseTime) = false) ∧
    (∃ (s : State) (u : State) (k : Nat) (t : DWord), s.cmd.lease = some (k, t) ∧ s.reached (t + units s.leaseTime) = true ∧ u = { s with cmd := { s.cmd with lease := none } } ∧ bitOf (s.getR Reg.CMD_LEASE_CFG) 31 = false) :=
  ⟨⟨wRef, wCom (wCmd 10 0 (List.replicate 24 0)) State.reset, (wCmd 10 0 (List.replicate 24 0)), 0, by decide +kernel, by decide +kernel, by decide +kernel, by decide +kernel⟩,
   ⟨wRef, wCom ({ wCmd 10 0 (List.replicate 24 0) with mute := true }) State.reset, ({ wCmd 10 0 (List.replicate 24 0) with mute := true }), 0, by decide +kernel, by decide +kernel, by decide +kernel, by decide +kernel⟩,
   ⟨wRef, wFn (fun s => { s with cmd := { s.cmd with lease := some (0, 0) } }) (wCom (wCmd 10 0 (List.replicate 24 0)) State.reset), (wCmd 10 0 (List.replicate 24 0)), 0, by decide +kernel, by decide +kernel, by decide +kernel⟩,
   ⟨wRef, wCom (wCmd 10 1 (List.replicate 24 0)) State.reset, (wCmd 10 1 (List.replicate 24 0)), by decide +kernel⟩,
   ⟨wRef, wFn (fun s => { s with cmd := { s.cmd with lease := some (0, 0) } }) (wCom (wCmd 10 2 (List.replicate 24 0)) State.reset), (wCmd 10 2 (List.replicate 24 0)), 0, by decide +kernel, by decide +kernel, by decide +kernel⟩,
   ⟨wRef, wCom (wCmd 10 2 (List.replicate 24 0)) State.reset, (wCmd 10 2 (List.replicate 24 0)), 0, by decide +kernel, by decide +kernel, by decide +kernel⟩,
   ⟨wRef, wCom (wCmd 10 3 (List.replicate 24 0)) State.reset, (wCmd 10 3 (List.replicate 24 0)), by decide +kernel⟩,
   ⟨wFn (fun s => { s with cmd := { s.cmd with lease := none } }) (State.reset), by decide +kernel⟩,
   ⟨wFn (fun s => { s with cmd := { s.cmd with lease := some (0, 0) } }) (State.reset), 0, 0, by decide +kernel, by decide +kernel⟩,
   ⟨wAt 0x100000000000000 (wFn (fun s => { s with cmd := { s.cmd with lease := some (0, 0) } }) (State.reset)), _, 0, 0, by decide +kernel, by decide +kernel, rfl, (by decide +kernel)⟩⟩

theorem test_witness_EventsAndLease_3 :
    (∃ (s : State) (u : State) (k : Nat) (t : DWord), s.cmd.lease = some (k, t) ∧ s.reached (t + units s.leaseTime) = true ∧ u = { s with cmd := { s.cmd with lease := none } } ∧ bitOf (s.getR Reg.CMD_LEASE_CFG) 31 = true) :=
  ⟨(wAt 0x100000000000000 (wFn (fun s => { s with cmd := { s.cmd with lease := some (0, 0) } }) (State.reset))).setB Reg.CMD_LEASE_CFG 31 true, _, 0, 0, by decide +kernel, by decide +kernel, rfl, by decide +kernel⟩

theorem test_witness_HoldAndMaintenance :
    (∃ (c : CmdRef) (s : State) (x : Command), s.turn c 10 4 = some x ∧ (holdSpec x.payload).flags < 16) ∧
    (∃ (c : CmdRef) (s : State) (x : Command), s.turn c 10 4 = some x ∧ 16 ≤ (holdSpec x.payload).flags) ∧
    (∃ (s : State) (h : HoldSpec), h.flags = 0) ∧
    (∃ (s : State) (h : HoldSpec), h.flags = 4) ∧
    (∃ (c : CmdRef) (s : State) (u : State) (x : Command) (h : HoldSpec) (a : Nat) (b : Nat), s.turn c 10 5 = some x ∧ h = holdSpec x.payload ∧ s.applyFlags h = (u, a, b) ∧ h.flags < 16) ∧
    (∃ (c : CmdRef) (s : State) (u : State) (x : Command) (h : HoldSpec) (a : Nat) (b : Nat), s.turn c 10 5 = some x ∧ h = holdSpec x.payload ∧ s.applyFlags h = (u, a, b) ∧ 32 ≤ h.flags) ∧
    (∃ (c : CmdRef) (s : State) (u : State) (x : Command) (h : HoldSpec) (a : Nat) (b : Nat), s.turn c 10 5 = some x ∧ h = holdSpec x.payload ∧ s.applyFlags h = (u, a, b) ∧ 16 ≤ h.flags ∧ h.flags < 32) ∧
    (∃ (c : CmdRef) (s : State) (x : Command), s.turn c 15 2 = some x ∧ beAt x.payload 0 1 = 0 ∧ beAt x.payload 1 1 < 8 ∧ s.inServiceMode = false) ∧
    (∃ (c : CmdRef) (s : State) (x : Command), s.turn c 15 2 = some x ∧ beAt x.payload 0 1 = 0 ∧ beAt x.payload 1 1 < 8 ∧ s.inServiceMode = true ∧ x.iface = 2 ∧ vaultHas s.cfg.aes (beAt x.payload 1 1) = true) ∧
    (∃ (c : CmdRef) (s : State) (x : Command), s.turn c 15 2 = some x ∧ beAt x.payload 0 1 = 0 ∧ beAt x.payload 1 1 < 8 ∧ s.inServiceMode = true ∧ x.iface = 2 ∧ vaultHas s.cfg.aes (beAt x.payload 1 1) = false) :=
  ⟨⟨wRef, wCom (wCmd 10 4 (List.replicate 24 0)) State.reset, (wCmd 10 4 (List.replicate 24 0)), by decide +kernel, by decide +kernel⟩,
   ⟨wRef, wCom (wCmd 10 4 ([0, 0, 0, 16, 0, 0, 0, 0, 0, 0, 0, 0, 0, 0, 0, 0, 0, 0, 0, 0, 0, 0, 0, 0])) State.reset, (wCmd 10 4 ([0, 0, 0, 16, 0, 0, 0, 0, 0, 0, 0, 0, 0, 0, 0, 0, 0, 0, 0, 0, 0, 0, 0, 0])), by decide +kernel, by decide +kernel⟩,
   ⟨State.reset, ⟨0, 0, 0, 0, 0⟩, by decide +kernel⟩,
   ⟨State.reset, ⟨4, 0, 0, 0, 0⟩, by decide +kernel⟩,
   ⟨wRef, wCom (wCmd 10 5 (List.replicate 24 0)) State.reset, _, (wCmd 10 5 (List.replicate 24 0)), _, _, _, by decide +kernel, rfl, rfl, by decide +kernel⟩,
   ⟨wRef, wCom (wCmd 10 5 ([0, 0, 0, 32, 0, 0, 0, 0, 0, 0, 0, 0, 0, 0, 0, 0, 0, 0, 0, 0, 0, 0, 0, 0])) State.reset, _, (wCmd 10 5 ([0, 0, 0, 32, 0, 0, 0, 0, 0, 0, 0, 0, 0, 0, 0, 0, 0, 0, 0, 0, 0, 0, 0, 0])), _, _, _, by decide +kernel, rfl, rfl, by decide +kernel⟩,
   ⟨wRef, wCom (wCmd 10 5 ([0, 0, 0, 16, 0, 0, 0, 0, 0, 0, 0, 0, 0, 0, 0, 0, 0, 0, 0, 0, 0, 0, 0, 0])) State.reset, _, (wCmd 10 5 ([0, 0, 0, 16, 0, 0, 0, 0, 0, 0, 0, 0, 0, 0, 0, 0, 0, 0, 0, 0, 0, 0, 0, 0])), _, _, _, by decide +kernel, rfl, rfl, by decide +kernel, by decide +kernel⟩,
   ⟨wRef, wCom (wCmd 15 2 (List.replicate 24 0)) State.reset, (wCmd 15 2 (List.replicate 24 0)), by decide +kernel, by decide +kernel, by decide +kernel, by decide +kernel⟩,
   ⟨wRef, wFn (fun s => { s with cfg := { s.cfg with aes := [(0, [])] } }) ((wCom (wCmd 15 2 (List.replicate 24 0)) State.reset).setF Reg.DEV_START_STAT 4 2 6), (wCmd 15 2 (List.replicate 24 0)), by decide +kernel, by decide +kernel, by decide +kernel, by decide +kernel, by decide +kernel, by decide +kernel⟩,
   ⟨wRef, (wCom (wCmd 15 2 (List.replicate 24 0)) State.reset).setF Reg.DEV_START_STAT 4 2 6, (wCmd 15 2 (List.replicate 24 0)), by decide +kernel, by decide +kernel, by decide +kernel, by decide +kernel, by decide +kernel, by decide +kernel⟩⟩

theorem test_witness_HoldAndMaintenance_2 :
    (∃ (c : CmdRef) (s : State) (x : Command) (kind : Nat) (i : Nat), s.turn c 15 2 = some x ∧ kind = beAt x.payload 0 1 ∧ i = beAt x.payload 1 1 ∧ (3 < kind ∨ (kind ≠ 3 ∧ (if kind = 1 then 4 else 8) ≤ i))) ∧
    (∃ (c : CmdRef) (s : State) (x : Command) (kind : Nat) (i : Nat), s.turn c 15 2 = some x ∧ kind = beAt x.payload 0 1 ∧ i = beAt x.payload 1 1 ∧ kind ≤ 3 ∧ ((kind = 3 ∨ i < (if kind = 1 then 4 else 8))) ∧ (s.inServiceMode = false ∨ x.iface ≠ 2)) ∧
    (∃ (c : CmdRef) (s : State) (x : Command) (kind : Nat) (i : Nat), s.turn c 15 2 = some x ∧ kind = beAt x.payload 0 1 ∧ i = beAt x.payload 1 1 ∧ kind ≤ 3 ∧ ((kind = 3 ∨ i < (if kind = 1 then 4 else 8))) ∧ s.inServiceMode = true ∧ x.iface = 2) ∧
    (∃ (c : CmdRef) (s : State) (x : Command) (k : Nat), s.turn c 15 3 = some x ∧ k = (if s.boot.fwSlot = 0 then 1 else 0) ∧ s.boot.fwUp = none) ∧
    (∃ (c : CmdRef) (s : State) (x : Command) (k : Nat), s.turn c 15 3 = some x ∧ k = (if s.boot.fwSlot = 0 then 1 else 0) ∧ s.boot.fwUp.isSome = true) ∧
    (∃ (c : CmdRef) (s : State) (x : Command) (u : FwUpdate) (k : Nat), s.turn c 15 5 = some x ∧ s.boot.fwUp = some u ∧ k = (if s.boot.fwSlot = 0 then 1 else 0) ∧ (beAt x.payload 0 4 ≠ u.data.length ∨ u.total < (u.data ++ x.payload.drop 4).length)) ∧
    (∃ (c : CmdRef) (s : State) (x : Command) (u : FwUpdate) (k : Nat), s.turn c 15 5 = some x ∧ s.boot.fwUp = some u ∧ k = (if s.boot.fwSlot = 0 then 1 else 0) ∧ beAt x.payload 0 4 = u.data.length ∧ (u.data ++ x.payload.drop 4).length ≤ u.total) ∧
    (∃ (s : State) (u : FwUpdate), s.boot.fwUp = some u ∧ u.data.length < u.total ∧ (6400000000 : Int) ≤ tdiff s.time u.last) ∧
    (∃ (s : State), s.boot.fwUp = none) ∧
    (∃ (s : State) (u : FwUpdate), s.boot.fwUp = some u ∧ (u.total ≤ u.data.length ∨ tdiff s.time u.last < (6400000000 : Int))) :=
  ⟨⟨wRef, wCom (wCmd 15 2 ([4, 0, 0, 0, 0, 0, 0, 0, 0, 0, 0, 0, 0, 0, 0, 0, 0, 0, 0, 0, 0, 0, 0, 0])) State.reset, (wCmd 15 2 ([4, 0, 0, 0, 0, 0, 0, 0, 0, 0, 0, 0, 0, 0, 0, 0, 0, 0, 0, 0, 0, 0, 0, 0])), _, _, by decide +kernel, rfl, rfl, Or.inl (by decide +kernel)⟩,
   ⟨wRef, wCom (wCmd 15 2 (List.replicate 24 0)) State.reset, (wCmd 15 2 (List.replicate 24 0)), _, _, by decide +kernel, rfl, rfl, by decide +kernel, by decide +kernel, by decide +kernel⟩,
   ⟨wRef, (wCom (wCmd 15 2 (List.replicate 24 0)) State.reset).setF Reg.DEV_START_STAT 4 2 6, (wCmd 15 2 (List.replicate 24 0)), _, _, by decide +kernel, rfl, rfl, by decide +kernel, by decide +kernel, by decide +kernel, by decide +kernel⟩,
   ⟨wRef, wFn (fun s => { s with boot := { s.boot with fwUp := none } }) (wCom (wCmd 15 3 (List.replicate 24 0)) State.reset), (wCmd 15 3 (List.replicate 24 0)), _, by decide +kernel, rfl, by decide +kernel⟩,
   ⟨wRef, wFn (fun s => { s with boot := { s.boot with fwUp := some { total := 0, last := 0 } } }) (wCom (wCmd 15 3 (List.replicate 24 0)) State.reset), (wCmd 15 3 (List.replicate 24 0)), _, by decide +kernel, rfl, by decide +kernel⟩,
   ⟨wRef, wFn (fun s => { s with boot := { s.boot with fwUp := some (({ total := 100, last := 0 } : FwUpdate)) } }) (wCom (wCmd 15 5 ([0, 0, 0, 1, 0, 0, 0, 0, 0, 0, 0, 0, 0, 0, 0, 0, 0, 0, 0, 0, 0, 0, 0, 0])) State.reset), (wCmd 15 5 ([0, 0, 0, 1, 0, 0, 0, 0, 0, 0, 0, 0, 0, 0, 0, 0, 0, 0, 0, 0, 0, 0, 0, 0])), ({ total := 100, last := 0 } : FwUpdate), _, by decide +kernel, by decide +kernel, rfl, Or.inl (by decide +kernel)⟩,
   ⟨wRef, wFn (fun s => { s with boot := { s.boot with fwUp := some (({ total := 100, last := 0 } : FwUpdate)) } }) (wCom (wCmd 15 5 (List.replicate 24 0)) State.reset), (wCmd 15 5 (List.replicate 24 0)), ({ total := 100, last := 0 } : FwUpdate), _, by decide +kernel, by decide +kernel, rfl, by decide +kernel, by decide +kernel⟩,
   ⟨wAt 0x100000000000000 (wFn (fun s => { s with boot := { s.boot with fwUp := some (({ total := 100, last := 0 } : FwUpdate)) } }) (State.reset)), ({ total := 100, last := 0 } : FwUpdate), by decide +kernel, by decide +kernel, by decide +kernel⟩,
   ⟨wFn (fun s => { s with boot := { s.boot with fwUp := none } }) (State.reset), by decide +kernel⟩,
   ⟨wFn (fun s => { s with boot := { s.boot with fwUp := some (({ total := 100, last := 0 } : FwUpdate)) } }) (State.reset), ({ total := 100, last := 0 } : FwUpdate), by decide +kernel, Or.inr (by decide +kernel)⟩⟩

theorem test_witness_HoldAndMaintenance_3 :
    (∃ (c : CmdRef) (s : State) (x : Command) (ok : Bool), s.boot.fwUp = none ∧ s.turn c 15 5 = some x) ∧
    (∃ (c : CmdRef) (s : State) (x : Command) (ok : Bool), s.boot.fwUp = none ∧ s.turn c 15 6 = some x) ∧
    (∃ (c : CmdRef) (s : State) (t : State) (x : Command) (u : FwUpdate) (k : Nat), s.turn c 15 6 = some x ∧ s.boot.fwUp = some u ∧ k = (if s.boot.fwSlot = 0 then 1 else 0) ∧ t = ({ s with boot := { s.boot with fwUp := none } } : State).pendingReply x ∧ u.data.length ≠ u.total) ∧
    (∃ (c : CmdRef) (s : State) (t : State) (x : Command) (u : FwUpdate) (k : Nat), s.turn c 15 6 = some x ∧ s.boot.fwUp = some u ∧ k = (if s.boot.fwSlot = 0 then 1 else 0) ∧ t = ({ s with boot := { s.boot with fwUp := none } } : State).pendingReply x ∧ u.data.length = u.total) ∧
    (∃ (c : CmdRef) (s : State) (x : Command), s.turn c 15 4 = some x ∧ s.inServiceMode = false) ∧
    (∃ (c : CmdRef) (s : State) (u : State) (x : Command), s.turn c 15 4 = some x ∧ s.inServiceMode = true ∧ u = s.replyTo x csOK true []) :=
  ⟨⟨wRef, wFn (fun s => { s with boot := { s.boot with fwUp := none } }) (wCom (wCmd 15 5 (List.replicate 24 0)) State.reset), (wCmd 15 5 (List.replicate 24 0)), false, by decide +kernel, by decide +kernel⟩,
   ⟨wRef, wFn (fun s => { s with boot := { s.boot with fwUp := none } }) (wCom (wCmd 15 6 (List.replicate 24 0)) State.reset), (wCmd 15 6 (List.replicate 24 0)), false, by decide +kernel, by decide +kernel⟩,
   ⟨wRef, wFn (fun s => { s with boot := { s.boot with fwUp := some (({ total := 100, last := 0 } : FwUpdate)) } }) (wCom (wCmd 15 6 (List.replicate 24 0)) State.reset), _, (wCmd 15 6 (List.replicate 24 0)), ({ total := 100, last := 0 } : FwUpdate), _, by decide +kernel, by decide +kernel, rfl, rfl, by decide +kernel⟩,
   ⟨wRef, wFn (fun s => { s with boot := { s.boot with fwUp := some (({ total := 0, last := 0 } : FwUpdate)) } }) (wCom (wCmd 15 6 (List.replicate 24 0)) State.reset), _, (wCmd 15 6 (List.replicate 24 0)), ({ total := 0, last := 0 } : FwUpdate), _, by decide +kernel, by decide +kernel, rfl, rfl, by decide +kernel⟩,
   ⟨wRef, wCom (wCmd 15 4 (List.replicate 24 0)) State.reset, (wCmd 15 4 (List.replicate 24 0)), by decide +kernel, by decide +kernel⟩,
   ⟨wRef, (wCom (wCmd 15 4 (List.replicate 24 0)) State.reset).setF Reg.DEV_START_STAT 4 2 6, _, (wCmd 15 4 (List.replicate 24 0)), by decide +kernel, by decide +kernel, rfl⟩⟩

theorem test_witness_OrdersInEveryForm :
    (∃ (s : State) (t : Fin 16) (d : Delivered), s.due? 5 t 1 = some d) ∧
    (∃ (s : State) (t : Fin 16) (d : Delivered), s.due? 5 t 2 = some d) ∧
    (∃ (s : State) (c : CmdRef) (x : Command), s.turn c 2 2 = some x ∧ beAt x.payload 1 1 = 1 ∧ beAt x.payload 0 1 < 16) ∧
    (∃ (s : State) (c : CmdRef) (x : Command), s.turn c 2 2 = some x ∧ beAt x.payload 1 1 = 2 ∧ beAt x.payload 0 1 < 16) ∧
    (∃ (s : State) (c : CmdRef) (x : Command), s.turn c 2 2 = some x ∧ 2 < beAt x.payload 1 1) ∧
    (∃ (s : State) (c : CmdRef) (x : Command), s.turn c 2 2 = some x ∧ beAt x.payload 1 1 = 0 ∧ 16 ≤ beAt x.payload 0 1) ∧
    (∃ (s : State) (c : CmdRef) (x : Command), s.turn c 2 2 = some x ∧ beAt x.payload 1 1 = 1 ∧ 16 ≤ beAt x.payload 0 1) ∧
    (∃ (s : State) (c : CmdRef) (x : Command), s.turn c 2 2 = some x ∧ beAt x.payload 1 1 = 2 ∧ 16 ≤ beAt x.payload 0 1) ∧
    (∃ (n : Fin 68) (w : Word) (s : State), bitOf w 16 = true) ∧
    (∃ (n : Fin 68) (w : Word) (s : State), bitOf w 17 = true) :=
  ⟨⟨wDue (wAct 5 0 1 0) State.reset, 0, (wAct 5 0 1 0), by decide +kernel⟩,
   ⟨wDue (wAct 5 0 2 0) State.reset, 0, (wAct 5 0 2 0), by decide +kernel⟩,
   ⟨wCom (wCmd 2 2 ([0, 1, 0, 0, 0, 0, 0, 0, 0, 0, 0, 0, 0, 0, 0, 0, 0, 0, 0, 0, 0, 0, 0, 0])) State.reset, wRef, (wCmd 2 2 ([0, 1, 0, 0, 0, 0, 0, 0, 0, 0, 0, 0, 0, 0, 0, 0, 0, 0, 0, 0, 0, 0, 0, 0])), by decide +kernel, by decide +kernel, by decide +kernel⟩,
   ⟨wCom (wCmd 2 2 ([0, 2, 0, 0, 0, 0, 0, 0, 0, 0, 0, 0, 0, 0, 0, 0, 0, 0, 0, 0, 0, 0, 0, 0])) State.reset, wRef, (wCmd 2 2 ([0, 2, 0, 0, 0, 0, 0, 0, 0, 0, 0, 0, 0, 0, 0, 0, 0, 0, 0, 0, 0, 0, 0, 0])), by decide +kernel, by decide +kernel, by decide +kernel⟩,
   ⟨wCom (wCmd 2 2 ([0, 3, 0, 0, 0, 0, 0, 0, 0, 0, 0, 0, 0, 0, 0, 0, 0, 0, 0, 0, 0, 0, 0, 0])) State.reset, wRef, (wCmd 2 2 ([0, 3, 0, 0, 0, 0, 0, 0, 0, 0, 0, 0, 0, 0, 0, 0, 0, 0, 0, 0, 0, 0, 0, 0])), by decide +kernel, by decide +kernel⟩,
   ⟨wCom (wCmd 2 2 ([16, 0, 0, 0, 0, 0, 0, 0, 0, 0, 0, 0, 0, 0, 0, 0, 0, 0, 0, 0, 0, 0, 0, 0])) State.reset, wRef, (wCmd 2 2 ([16, 0, 0, 0, 0, 0, 0, 0, 0, 0, 0, 0, 0, 0, 0, 0, 0, 0, 0, 0, 0, 0, 0, 0])), by decide +kernel, by decide +kernel, by decide +kernel⟩,
   ⟨wCom (wCmd 2 2 ([16, 1, 0, 0, 0, 0, 0, 0, 0, 0, 0, 0, 0, 0, 0, 0, 0, 0, 0, 0, 0, 0, 0, 0])) State.reset, wRef, (wCmd 2 2 ([16, 1, 0, 0, 0, 0, 0, 0, 0, 0, 0, 0, 0, 0, 0, 0, 0, 0, 0, 0, 0, 0, 0, 0])), by decide +kernel, by decide +kernel, by decide +kernel⟩,
   ⟨wCom (wCmd 2 2 ([16, 2, 0, 0, 0, 0, 0, 0, 0, 0, 0, 0, 0, 0, 0, 0, 0, 0, 0, 0, 0, 0, 0, 0])) State.reset, wRef, (wCmd 2 2 ([16, 2, 0, 0, 0, 0, 0, 0, 0, 0, 0, 0, 0, 0, 0, 0, 0, 0, 0, 0, 0, 0, 0, 0])), by decide +kernel, by decide +kernel, by decide +kernel⟩,
   ⟨0, 0x10000, State.reset, by decide +kernel⟩,
   ⟨0, 0x20000, State.reset, by decide +kernel⟩⟩

theorem test_witness_OrdersInEveryForm_2 :
    (∃ (n : Fin 68) (w : Word) (s : State), bitOf w 18 = true) ∧
    (∃ (n : Fin 68) (m : Fin 16) (w : Word) (lo : Word) (s : State) (e : Nat), s.logicalOf n = some e ∧ s.pairHeld.find? (fun p => p.1 == Reg.ENG_MBOX n m) = some (Reg.ENG_MBOX n m, lo)) ∧
    (∃ (c : CmdRef) (s : State) (u : State) (t : State) (x : Command) (w : Word), s.turn c 8 3 = some x ∧ w = BitVec.ofNat 32 (beAt x.payload 8 1) ∧ (w = 0 ∨ 8 ≤ w.toNat)) ∧
    (∃ (c : CmdRef) (s : State) (u : State) (t : State) (x : Command) (w : Word), s.turn c 8 3 = some x ∧ w = BitVec.ofNat 32 (beAt x.payload 8 1) ∧ w.toNat < 8 ∧ u = (s.store Reg.TRC_CTL (BitVec.ofNat 32 (beAt x.payload 0 4))).store Reg.TRC_POST (BitVec.ofNat 32 (beAt x.payload 4 4)) ∧ t = (u.setB Reg.PRB_STAT 1 false).writeTrcCmd w ∧ t.getB Reg.PRB_STAT 1 = true ∧ bitOf w 0 = true) ∧
    (∃ (c : CmdRef) (s : State) (u : State) (t : State) (x : Command) (w : Word), s.turn c 8 3 = some x ∧ w = BitVec.ofNat 32 (beAt x.payload 8 1) ∧ w.toNat < 8 ∧ u = (s.store Reg.TRC_CTL (BitVec.ofNat 32 (beAt x.payload 0 4))).store Reg.TRC_POST (BitVec.ofNat 32 (beAt x.payload 4 4)) ∧ t = (u.setB Reg.PRB_STAT 1 false).writeTrcCmd w ∧ t.getB Reg.PRB_STAT 1 = false ∧ bitOf w 0 = true) ∧
    (∃ (c : CmdRef) (s : State) (u : State) (t : State) (x : Command) (w : Word), s.turn c 8 3 = some x ∧ w = BitVec.ofNat 32 (beAt x.payload 8 1) ∧ w.toNat < 8 ∧ u = (s.store Reg.TRC_CTL (BitVec.ofNat 32 (beAt x.payload 0 4))).store Reg.TRC_POST (BitVec.ofNat 32 (beAt x.payload 4 4)) ∧ t = (u.setB Reg.PRB_STAT 1 false).writeTrcCmd w ∧ t.getB Reg.PRB_STAT 1 = false ∧ bitOf w 1 = true) ∧
    (∃ (c : CmdRef) (s : State) (u : State) (t : State) (x : Command) (w : Word), s.turn c 8 3 = some x ∧ w = BitVec.ofNat 32 (beAt x.payload 8 1) ∧ w.toNat < 8 ∧ u = (s.store Reg.TRC_CTL (BitVec.ofNat 32 (beAt x.payload 0 4))).store Reg.TRC_POST (BitVec.ofNat 32 (beAt x.payload 4 4)) ∧ t = (u.setB Reg.PRB_STAT 1 false).writeTrcCmd w ∧ t.getB Reg.PRB_STAT 1 = false ∧ bitOf w 2 = true) ∧
    (∃ (c : CmdRef) (s : State) (t : State) (x : Command), s.turn c 3 4 = some x ∧ beAt x.payload 1 1 = 0 ∧ beAt x.payload 0 1 ≤ 3 ∧ s.stgRequest (.slot (beAt x.payload 0 1)) 0 { src := .slot 0, dest := none, cmd := some c } = (t, 0)) ∧
    (∃ (c : CmdRef) (s : State) (x : Command), s.turn c 3 4 = some x ∧ (beAt x.payload 1 1 ≠ 0 ∨ 3 < beAt x.payload 0 1)) ∧
    (∃ (c : CmdRef) (s : State) (x : Command), s.turn c 5 4 = some x) :=
  ⟨⟨0, 0x40000, State.reset, by decide +kernel⟩,
   ⟨0, 0, 0, 0, { (State.reset : State) with pairHeld := [(Reg.ENG_MBOX 0 0, 0)] }, 0, by decide +kernel, by decide +kernel⟩,
   ⟨wRef, wCom (wCmd 8 3 (List.replicate 24 0)) State.reset, State.reset, State.reset, (wCmd 8 3 (List.replicate 24 0)), _, by decide +kernel, rfl, Or.inl (by decide +kernel)⟩,
   ⟨wRef, (wCom (wCmd 8 3 ([0, 0, 0, 0, 0, 0, 0, 0, 1, 0, 0, 0, 0, 0, 0, 0, 0, 0, 0, 0, 0, 0, 0, 0])) State.reset).setF Reg.TRC_STAT 1 0 1, _, _, (wCmd 8 3 ([0, 0, 0, 0, 0, 0, 0, 0, 1, 0, 0, 0, 0, 0, 0, 0, 0, 0, 0, 0, 0, 0, 0, 0])), _, by decide +kernel, rfl, by decide +kernel, rfl, rfl, by decide +kernel, by decide +kernel⟩,
   ⟨wRef, wCom (wCmd 8 3 ([0, 0, 0, 0, 0, 0, 0, 0, 1, 0, 0, 0, 0, 0, 0, 0, 0, 0, 0, 0, 0, 0, 0, 0])) State.reset, _, _, (wCmd 8 3 ([0, 0, 0, 0, 0, 0, 0, 0, 1, 0, 0, 0, 0, 0, 0, 0, 0, 0, 0, 0, 0, 0, 0, 0])), _, by decide +kernel, rfl, by decide +kernel, rfl, rfl, by decide +kernel, by decide +kernel⟩,
   ⟨wRef, (wCom (wCmd 8 3 ([0, 0, 0, 0, 0, 0, 0, 0, 2, 0, 0, 0, 0, 0, 0, 0, 0, 0, 0, 0, 0, 0, 0, 0])) State.reset).setF Reg.TRC_STAT 1 0 1, _, _, (wCmd 8 3 ([0, 0, 0, 0, 0, 0, 0, 0, 2, 0, 0, 0, 0, 0, 0, 0, 0, 0, 0, 0, 0, 0, 0, 0])), _, by decide +kernel, rfl, by decide +kernel, rfl, rfl, by decide +kernel, by decide +kernel⟩,
   ⟨wRef, (wCom (wCmd 8 3 ([0, 0, 0, 0, 0, 0, 0, 0, 4, 0, 0, 0, 0, 0, 0, 0, 0, 0, 0, 0, 0, 0, 0, 0])) State.reset).setF Reg.TRC_STAT 1 0 1, _, _, (wCmd 8 3 ([0, 0, 0, 0, 0, 0, 0, 0, 4, 0, 0, 0, 0, 0, 0, 0, 0, 0, 0, 0, 0, 0, 0, 0])), _, by decide +kernel, rfl, by decide +kernel, rfl, rfl, by decide +kernel, by decide +kernel⟩,
   ⟨wRef, (wCom (wCmd 3 4 ([2, 0, 0, 0, 0, 0, 0, 0, 0, 0, 0, 0, 0, 0, 0, 0, 0, 0, 0, 0, 0, 0, 0, 0])) State.reset).setF (Reg.CFG_SLOT_STAT 2) 2 0 2, _, (wCmd 3 4 ([2, 0, 0, 0, 0, 0, 0, 0, 0, 0, 0, 0, 0, 0, 0, 0, 0, 0, 0, 0, 0, 0, 0, 0])), by decide +kernel, by decide +kernel, by decide +kernel, Prod.ext rfl (by decide +kernel)⟩,
   ⟨wRef, wCom (wCmd 3 4 ([4, 1, 0, 0, 0, 0, 0, 0, 0, 0, 0, 0, 0, 0, 0, 0, 0, 0, 0, 0, 0, 0, 0, 0])) State.reset, (wCmd 3 4 ([4, 1, 0, 0, 0, 0, 0, 0, 0, 0, 0, 0, 0, 0, 0, 0, 0, 0, 0, 0, 0, 0, 0, 0])), by decide +kernel, by decide +kernel⟩,
   ⟨wRef, wCom (wCmd 5 4 (List.replicate 24 0)) State.reset, (wCmd 5 4 (List.replicate 24 0)), by decide +kernel⟩⟩

theorem test_witness_OrdersInEveryForm_3 :
    (∃ (c : CmdRef) (s : State) (t : State) (x : Command) (st : Nat) (r : Nat), s.turn c 7 0 = some x ∧ beAt x.payload 1 1 = st ∧ beAt x.payload 0 1 ≤ 134 ∧ s.domReq (beAt x.payload 0 1) st = (t, r) ∧ st = 0) ∧
    (∃ (c : CmdRef) (s : State) (t : State) (x : Command) (st : Nat) (r : Nat), s.turn c 7 0 = some x ∧ beAt x.payload 1 1 = st ∧ beAt x.payload 0 1 ≤ 134 ∧ s.domReq (beAt x.payload 0 1) st = (t, r) ∧ st = 1) ∧
    (∃ (c : CmdRef) (s : State) (t : State) (x : Command) (st : Nat) (r : Nat), s.turn c 7 0 = some x ∧ beAt x.payload 1 1 = st ∧ beAt x.payload 0 1 ≤ 134 ∧ s.domReq (beAt x.payload 0 1) st = (t, r) ∧ st = 3) ∧
    (∃ (c : CmdRef) (s : State) (x : Command), s.turn c 7 0 = some x ∧ 3 < beAt x.payload 1 1) ∧
    (∃ (c : CmdRef) (s : State) (x : Command), s.turn c 7 0 = some x ∧ beAt x.payload 1 1 = 0 ∧ 134 < beAt x.payload 0 1) ∧
    (∃ (c : CmdRef) (s : State) (x : Command), s.turn c 15 0 = some x ∧ beAt x.payload 0 1 ≠ 1 ∧ beAt x.payload 0 1 ≠ 2) ∧
    (∃ (c : CmdRef) (s : State) (u : State) (t : State) (x : Command), s.turn c 15 0 = some x ∧ u = (s.replyTo x csOK true []).flushPorts ∧ beAt x.payload 0 1 = 1 ∧ t = u.resetNow false 4) ∧
    (∃ (c : CmdRef) (s : State) (u : State) (t : State) (x : Command), s.turn c 15 0 = some x ∧ u = (s.replyTo x csOK true []).flushPorts ∧ beAt x.payload 0 1 = 2 ∧ t = u.resetNow true 4) ∧
    (∃ (c : CmdRef) (s : State), s.turn c 2 1 = none) ∧
    (∃ (c : CmdRef) (s : State), s.turn c 2 4 = none) :=
  ⟨⟨wRef, wCom (wCmd 7 0 (List.replicate 24 0)) State.reset, _, (wCmd 7 0 (List.replicate 24 0)), 0, 0, by decide +kernel, by decide +kernel, by decide +kernel, Prod.ext rfl (by decide +kernel), by decide +kernel⟩,
   ⟨wRef, wCom (wCmd 7 0 ([0, 1, 0, 0, 0, 0, 0, 0, 0, 0, 0, 0, 0, 0, 0, 0, 0, 0, 0, 0, 0, 0, 0, 0])) State.reset, _, (wCmd 7 0 ([0, 1, 0, 0, 0, 0, 0, 0, 0, 0, 0, 0, 0, 0, 0, 0, 0, 0, 0, 0, 0, 0, 0, 0])), 1, _, by decide +kernel, by decide +kernel, by decide +kernel, Prod.ext rfl rfl, by decide +kernel⟩,
   ⟨wRef, wCom (wCmd 7 0 ([0, 3, 0, 0, 0, 0, 0, 0, 0, 0, 0, 0, 0, 0, 0, 0, 0, 0, 0, 0, 0, 0, 0, 0])) State.reset, _, (wCmd 7 0 ([0, 3, 0, 0, 0, 0, 0, 0, 0, 0, 0, 0, 0, 0, 0, 0, 0, 0, 0, 0, 0, 0, 0, 0])), 3, _, by decide +kernel, by decide +kernel, by decide +kernel, Prod.ext rfl rfl, by decide +kernel⟩,
   ⟨wRef, wCom (wCmd 7 0 ([0, 4, 0, 0, 0, 0, 0, 0, 0, 0, 0, 0, 0, 0, 0, 0, 0, 0, 0, 0, 0, 0, 0, 0])) State.reset, (wCmd 7 0 ([0, 4, 0, 0, 0, 0, 0, 0, 0, 0, 0, 0, 0, 0, 0, 0, 0, 0, 0, 0, 0, 0, 0, 0])), by decide +kernel, by decide +kernel⟩,
   ⟨wRef, wCom (wCmd 7 0 ([135, 0, 0, 0, 0, 0, 0, 0, 0, 0, 0, 0, 0, 0, 0, 0, 0, 0, 0, 0, 0, 0, 0, 0])) State.reset, (wCmd 7 0 ([135, 0, 0, 0, 0, 0, 0, 0, 0, 0, 0, 0, 0, 0, 0, 0, 0, 0, 0, 0, 0, 0, 0, 0])), by decide +kernel, by decide +kernel, by decide +kernel⟩,
   ⟨wRef, wCom (wCmd 15 0 (List.replicate 24 0)) State.reset, (wCmd 15 0 (List.replicate 24 0)), by decide +kernel, by decide +kernel, by decide +kernel⟩,
   ⟨wRef, wCom (wCmd 15 0 ([1, 0, 0, 0, 0, 0, 0, 0, 0, 0, 0, 0, 0, 0, 0, 0, 0, 0, 0, 0, 0, 0, 0, 0])) State.reset, _, _, (wCmd 15 0 ([1, 0, 0, 0, 0, 0, 0, 0, 0, 0, 0, 0, 0, 0, 0, 0, 0, 0, 0, 0, 0, 0, 0, 0])), by decide +kernel, rfl, by decide +kernel, rfl⟩,
   ⟨wRef, wCom (wCmd 15 0 ([2, 0, 0, 0, 0, 0, 0, 0, 0, 0, 0, 0, 0, 0, 0, 0, 0, 0, 0, 0, 0, 0, 0, 0])) State.reset, _, _, (wCmd 15 0 ([2, 0, 0, 0, 0, 0, 0, 0, 0, 0, 0, 0, 0, 0, 0, 0, 0, 0, 0, 0, 0, 0, 0, 0])), by decide +kernel, rfl, by decide +kernel, rfl⟩,
   ⟨wRef, State.reset, by decide +kernel⟩,
   ⟨wRef, State.reset, by decide +kernel⟩⟩

theorem test_witness_OrdersInEveryForm_4 :
    (∃ (c : CmdRef) (s : State), s.turn c 2 2 = none) ∧
    (∃ (c : CmdRef) (s : State), s.turn c 2 3 = none) ∧
    (∃ (c : CmdRef) (s : State), s.turn c 2 5 = none) ∧
    (∃ (c : CmdRef) (s : State), s.turn c 9 2 = none) ∧
    (∃ (c : CmdRef) (s : State), s.turn c 9 3 = none) ∧
    (∃ (c : CmdRef) (s : State), s.turn c 9 4 = none) ∧
    (∃ (c : CmdRef) (s : State), s.turn c 9 6 = none) ∧
    (∃ (c : CmdRef) (s : State), s.turn c 8 3 = none) ∧
    (∃ (c : CmdRef) (s : State), s.turn c 8 4 = none) ∧
    (∃ (c : CmdRef) (s : State), s.turn c 3 4 = none) :=
  ⟨⟨wRef, State.reset, by decide +kernel⟩,
   ⟨wRef, State.reset, by decide +kernel⟩,
   ⟨wRef, State.reset, by decide +kernel⟩,
   ⟨wRef, State.reset, by decide +kernel⟩,
   ⟨wRef, State.reset, by decide +kernel⟩,
   ⟨wRef, State.reset, by decide +kernel⟩,
   ⟨wRef, State.reset, by decide +kernel⟩,
   ⟨wRef, State.reset, by decide +kernel⟩,
   ⟨wRef, State.reset, by decide +kernel⟩,
   ⟨wRef, State.reset, by decide +kernel⟩⟩

theorem test_witness_OrdersInEveryForm_5 :
    (∃ (c : CmdRef) (s : State), s.turn c 3 0 = none) ∧
    (∃ (c : CmdRef) (s : State), s.turn c 3 1 = none) ∧
    (∃ (c : CmdRef) (s : State), s.turn c 3 2 = none) ∧
    (∃ (c : CmdRef) (s : State), s.turn c 3 3 = none) ∧
    (∃ (c : CmdRef) (s : State), s.turn c 3 5 = none) ∧
    (∃ (c : CmdRef) (s : State), s.turn c 3 6 = none) ∧
    (∃ (c : CmdRef) (s : State), s.turn c 3 7 = none) ∧
    (∃ (c : CmdRef) (s : State), s.turn c 4 0 = none) ∧
    (∃ (c : CmdRef) (s : State), s.turn c 4 1 = none) ∧
    (∃ (c : CmdRef) (s : State), s.turn c 4 2 = none) :=
  ⟨⟨wRef, State.reset, by decide +kernel⟩,
   ⟨wRef, State.reset, by decide +kernel⟩,
   ⟨wRef, State.reset, by decide +kernel⟩,
   ⟨wRef, State.reset, by decide +kernel⟩,
   ⟨wRef, State.reset, by decide +kernel⟩,
   ⟨wRef, State.reset, by decide +kernel⟩,
   ⟨wRef, State.reset, by decide +kernel⟩,
   ⟨wRef, State.reset, by decide +kernel⟩,
   ⟨wRef, State.reset, by decide +kernel⟩,
   ⟨wRef, State.reset, by decide +kernel⟩⟩

theorem test_witness_OrdersInEveryForm_6 :
    (∃ (c : CmdRef) (s : State), s.turn c 15 0 = none) ∧
    (∃ (c : CmdRef) (s : State), s.turn c 15 1 = none) ∧
    (∃ (c : CmdRef) (s : State), s.turn c 6 1 = none) ∧
    (∃ (c : CmdRef) (s : State), s.turn c 6 4 = none) ∧
    (∃ (c : CmdRef) (s : State), s.turn c 6 0 = none) ∧
    (∃ (c : CmdRef) (s : State), s.turn c 6 3 = none) ∧
    (∃ (c : CmdRef) (s : State) (fail : Option Nat), s.turn c 6 2 = none) ∧
    (∃ (c : CmdRef) (s : State), s.turn c 6 5 = none) ∧
    (∃ (c : CmdRef) (s : State), s.turn c 6 6 = none) ∧
    (∃ (c : CmdRef) (s : State), s.turn c 5 1 = none) :=
  ⟨⟨wRef, State.reset, by decide +kernel⟩,
   ⟨wRef, State.reset, by decide +kernel⟩,
   ⟨wRef, State.reset, by decide +kernel⟩,
   ⟨wRef, State.reset, by decide +kernel⟩,
   ⟨wRef, State.reset, by decide +kernel⟩,
   ⟨wRef, State.reset, by decide +kernel⟩,
   ⟨wRef, State.reset, none, by decide +kernel⟩,
   ⟨wRef, State.reset, by decide +kernel⟩,
   ⟨wRef, State.reset, by decide +kernel⟩,
   ⟨wRef, State.reset, by decide +kernel⟩⟩

theorem test_witness_OrdersInEveryForm_7 :
    (∃ (c : CmdRef) (s : State), s.turn c 5 2 = none) ∧
    (∃ (c : CmdRef) (s : State), s.turn c 5 3 = none) ∧
    (∃ (c : CmdRef) (s : State), s.turn c 5 4 = none) ∧
    (∃ (c : CmdRef) (s : State), s.turn c 5 0 = none) ∧
    (∃ (c : CmdRef) (s : State), s.turn c 5 5 = none) ∧
    (∃ (c : CmdRef) (s : State), s.turn c 0 0 = none) ∧
    (∃ (c : CmdRef) (s : State), s.turn c 0 1 = none) ∧
    (∃ (c : CmdRef) (s : State), s.turn c 0 2 = none) ∧
    (∃ (c : CmdRef) (s : State), s.turn c 0 3 = none) ∧
    (∃ (c : CmdRef) (s : State), s.turn c 1 1 = none) :=
  ⟨⟨wRef, State.reset, by decide +kernel⟩,
   ⟨wRef, State.reset, by decide +kernel⟩,
   ⟨wRef, State.reset, by decide +kernel⟩,
   ⟨wRef, State.reset, by decide +kernel⟩,
   ⟨wRef, State.reset, by decide +kernel⟩,
   ⟨wRef, State.reset, by decide +kernel⟩,
   ⟨wRef, State.reset, by decide +kernel⟩,
   ⟨wRef, State.reset, by decide +kernel⟩,
   ⟨wRef, State.reset, by decide +kernel⟩,
   ⟨wRef, State.reset, by decide +kernel⟩⟩

theorem test_witness_OrdersInEveryForm_8 :
    (∃ (c : CmdRef) (s : State) (ecc : Ecc), s.turn c 1 2 = none) ∧
    (∃ (c : CmdRef) (s : State), s.turn c 2 0 = none) ∧
    (∃ (c : CmdRef) (s : State), s.turn c 2 6 = none) ∧
    (∃ (c : CmdRef) (s : State), s.turn c 7 1 = none) ∧
    (∃ (c : CmdRef) (s : State), s.turn c 7 2 = none) ∧
    (∃ (c : CmdRef) (s : State), s.turn c 8 0 = none) ∧
    (∃ (c : CmdRef) (s : State), s.turn c 8 1 = none) ∧
    (∃ (c : CmdRef) (s : State), s.turn c 8 2 = none) ∧
    (∃ (c : CmdRef) (s : State), s.turn c 9 0 = none) ∧
    (∃ (c : CmdRef) (s : State), s.turn c 9 1 = none) :=
  ⟨⟨wRef, State.reset, .clean, by decide +kernel⟩,
   ⟨wRef, State.reset, by decide +kernel⟩,
   ⟨wRef, State.reset, by decide +kernel⟩,
   ⟨wRef, State.reset, by decide +kernel⟩,
   ⟨wRef, State.reset, by decide +kernel⟩,
   ⟨wRef, State.reset, by decide +kernel⟩,
   ⟨wRef, State.reset, by decide +kernel⟩,
   ⟨wRef, State.reset, by decide +kernel⟩,
   ⟨wRef, State.reset, by decide +kernel⟩,
   ⟨wRef, State.reset, by decide +kernel⟩⟩

theorem test_witness_OrdersInEveryForm_9 :
    (∃ (c : CmdRef) (s : State), s.turn c 9 5 = none) ∧
    (∃ (c : CmdRef) (s : State), s.turn c 10 0 = none) ∧
    (∃ (c : CmdRef) (s : State), s.turn c 10 1 = none) ∧
    (∃ (c : CmdRef) (s : State), s.turn c 10 2 = none) ∧
    (∃ (c : CmdRef) (s : State), s.turn c 10 3 = none) ∧
    (∃ (c : CmdRef) (s : State), s.turn c 10 4 = none) ∧
    (∃ (c : CmdRef) (s : State), s.turn c 10 5 = none) ∧
    (∃ (c : CmdRef) (s : State), s.turn c 15 2 = none) ∧
    (∃ (c : CmdRef) (s : State), s.turn c 15 3 = none) ∧
    (∃ (c : CmdRef) (s : State), s.turn c 15 5 = none) :=
  ⟨⟨wRef, State.reset, by decide +kernel⟩,
   ⟨wRef, State.reset, by decide +kernel⟩,
   ⟨wRef, State.reset, by decide +kernel⟩,
   ⟨wRef, State.reset, by decide +kernel⟩,
   ⟨wRef, State.reset, by decide +kernel⟩,
   ⟨wRef, State.reset, by decide +kernel⟩,
   ⟨wRef, State.reset, by decide +kernel⟩,
   ⟨wRef, State.reset, by decide +kernel⟩,
   ⟨wRef, State.reset, by decide +kernel⟩,
   ⟨wRef, State.reset, by decide +kernel⟩⟩

theorem test_witness_OrdersInEveryForm_10 :
    (∃ (c : CmdRef) (s : State) (ok : Bool), s.turn c 15 6 = none) ∧
    (∃ (c : CmdRef) (s : State), s.turn c 15 4 = none) ∧
    (∃ (c : CmdRef) (s : State), s.turn c 7 0 = none) ∧
    (∃ (c : CmdRef) (s : State) (l : List Ecc), s.regReadCmd c = none) :=
  ⟨⟨wRef, State.reset, false, by decide +kernel⟩,
   ⟨wRef, State.reset, by decide +kernel⟩,
   ⟨wRef, State.reset, by decide +kernel⟩,
   ⟨wRef, State.reset, [], by decide +kernel⟩⟩

end Sys2Proof.Machine.Tests
end

section
/-!
PROOF. What the register operations leave in the register table, field by field and count by count, and the obligation
RegisterReadBack.
-/
namespace Sys2Proof.Machine

/-! ### Registers read back -/

/-- A pair just written reads as the double word written (R7). -/
theorem State.getD_setD (s : State) (a : Nat) (d : DWord) (h : s.regsWf = true) : (s.setD a d).getD a = d := by
  have hlo : (s.setD a d).getR a = loW d := by
    unfold State.setD
    rw [State.getR_setR_ne _ _ _ _ (by omega), State.getR_setR _ _ _ h]
  have hhi : (s.setD a d).getR (a + 4) = hiW d := State.getR_setR _ _ _ (State.setR_wf _ _ _ h)
  rw [State.getD, hlo, hhi, pairW_loW_hiW]

/-- A register whose field was just written reads as its old word with the field replaced. -/
theorem State.getR_setF (s : State) (a hi lo v : Nat) (h : s.regsWf = true) :
    (s.setF a hi lo v).getR a = setFld (s.getR a) hi lo v :=
  State.getR_setR _ _ _ h

/-- Within the range reset, every register reads as its reset value. -/
theorem State.getR_resetRegs_in (s : State) {lo len a : Nat} (h : lo ≤ a ∧ a < lo + len) :
    (s.resetRegs lo len).getR a = regReset a :=
  tabGet_tabClear_in _ _ h

/-- A reset leaves every register outside its range. -/
theorem State.getR_resetRegs_out (s : State) {lo len a : Nat} (h : a < lo ∨ lo + len ≤ a) :
    (s.resetRegs lo len).getR a = s.getR a :=
  tabGet_tabClear_out _ _ h

/-! ### Saturating counts -/

/-- The field [31:0] of a register is the whole register. -/
theorem fld_whole (w : Word) : fld w 31 0 = w.toNat := Nat.mod_eq_of_lt w.isLt

/-- Writing the field [31:0] replaces the whole register. -/
theorem setFld_whole (w : Word) (v : Nat) : setFld w 31 0 v = BitVec.ofNat 32 v := by
  apply BitVec.eq_of_toNat_eq
  have hw : w.toNat % 4294967296 = w.toNat := Nat.mod_eq_of_lt w.isLt
  simp [setFld, hw]

/-- A 32-bit count goes to its successor, and stays where it is full. -/
theorem State.getR_incR (s : State) (a : Nat) (h : s.regsWf = true) :
    (s.incR a).getR a = BitVec.ofNat 32 (min ((s.getR a).toNat + 1) (2 ^ 32 - 1)) := by
  have hf : s.getF a 31 0 = (s.getR a).toNat := fld_whole _
  rw [State.incR, State.addF, State.getR_setF _ _ _ _ _ h, setFld_whole, hf, satAdd]

/-- A count that is not full counts one on. -/
theorem State.getR_incR_of_ne_max (s : State) (a : Nat) (h : s.regsWf = true) (hne : s.getR a ≠ 0xFFFFFFFF) :
    ((s.incR a).getR a).toNat = (s.getR a).toNat + 1 := by
  have hlt : (s.getR a).toNat + 1 < 2 ^ 32 := by bv_omega
  rw [State.getR_incR s a h, Nat.min_eq_left (by omega), BitVec.toNat_ofNat, Nat.mod_eq_of_lt hlt]

/-- A full count stays full. -/
theorem State.getR_incR_of_max (s : State) (a : Nat) (h : s.regsWf = true) (hmax : s.getR a = 0xFFFFFFFF) :
    (s.incR a).getR a = 0xFFFFFFFF := by
  rw [State.getR_incR s a h, hmax]
  rfl

/-! ### Cause registers -/

/-- Raising an event ORs its bits into its cause register (R491). -/
theorem State.getR_raise (s : State) {ev a : Nat} (bits : Nat) (h : s.regsWf = true) (ha : s.causeAddr ev = some a) :
    (s.raise ev bits).getR a = s.getR a ||| BitVec.ofNat 32 bits := by
  unfold State.raise
  rw [ha]
  exact State.getR_setR _ _ _ h

/-- Settles O6: each register operation writes its one key of the table (a pair two), and the canonical form reads back what is
written. The statement's words on events, which none of its clauses holds, are `State.getR_raise`. -/
theorem registerReadBack : Obligations.RegisterReadBack :=
  ⟨fun s a w h => ⟨s.getR_setR a w h, s.setR_wf a w h⟩,
   State.getR_setR_ne,
   fun s a d h => ⟨s.getD_setD a d h, s.setD_wf a d h⟩,
   State.getR_setF,
   fun s _ _ _ => ⟨fun h1 h2 => s.getR_resetRegs_in ⟨h1, h2⟩, s.getR_resetRegs_out⟩,
   State.getR_incR_of_ne_max,
   State.getR_incR_of_max⟩

end Sys2Proof.Machine
end

section
/-!
PROOF. What the register commands (R403), ACT_POST (R401), the accesses at addresses (R5, R500), the routing registers (R498),
the cause registers (R491) and the engine subscriptions (R496) answer, case by case, and the obligation RegistersAndAddresses.
-/
namespace Sys2Proof.Machine

/-! ### What runs for each command -/

theorem exec_regRead (c : CmdRef) (l : List Ecc) (s : State) : exec (.regRead c l) s = execRegRead c l s := rfl
theorem exec_regWrite (c : CmdRef) (s : State) : exec (.regWrite c) s = execRegWrite c s := rfl
theorem exec_regRmw (c : CmdRef) (e : Ecc) (s : State) : exec (.regRmw c e) s = execRegRmw c e s := rfl
theorem exec_actPost (c : CmdRef) (s : State) : exec (.actPost c) s = execActPost c s := rfl
theorem exec_registerWrite (a w : Word) (s : State) : exec (.registerWrite a w) s = .next (s.writeReg a.toNat w) := rfl
theorem exec_readClear (a : Word) (s : State) : exec (.readClear a) s = execReadClear a s := rfl
theorem exec_evtRouteWrite (a w : Word) (s : State) : exec (.evtRouteWrite a w) s = execEvtRouteWrite a w s := rfl
theorem exec_causeClear (ev : Fin 320) (w : Word) (s : State) : exec (.causeClear ev w) s = execCauseClear ev w s := rfl
theorem exec_subscriptionSignal (s : State) : exec .subscriptionSignal s = execSubscriptionSignal s := rfl

/-! ### REG_READ (R403) -/

section RegRead
variable {c : CmdRef} {l : List Ecc} {s t : State} {x : Command} {d : List Byte}

/-- A REG_READ whose turn has come is the one that is served. -/
theorem State.regReadCmd_of_turn (h : s.turn c 1 0 = some x) : s.regReadCmd c = some x := by
  simp [State.regReadCmd, h]

/-- A count outside 1 to 256 is answered BAD_PARAM. -/
theorem exec_regRead_badCount (h : s.turn c 1 0 = some x) (hn : beAt x.payload 4 2 = 0 ∨ 256 < beAt x.payload 4 2) :
    exec (.regRead c l) s = .next (s.replyTo x csBADPARAM true []) := by
  simp [exec_regRead, execRegRead, State.regReadCmd_of_turn h, hn]

section Count
variable (h : s.turn c 1 0 = some x) (h1 : 1 ≤ beAt x.payload 4 2) (h256 : beAt x.payload 4 2 ≤ 256)
include h h1 h256

/-- Words outside the address map are answered BAD_ADDR (R398). -/
theorem exec_regRead_badAddr (ha : addrOk (beAt x.payload 0 4) (beAt x.payload 4 2) = false) :
    exec (.regRead c l) s = .next (s.replyTo x csBADADDR true []) := by
  have hn : ¬ (beAt x.payload 4 2 = 0 ∨ 256 < beAt x.payload 4 2) := by omega
  simp [exec_regRead, execRegRead, State.regReadCmd_of_turn h, hn, ha]

/-- Words that can all be read at once are answered with STATUS OK. -/
theorem exec_regRead_served (ha : addrOk (beAt x.payload 0 4) (beAt x.payload 4 2) = true)
    (hr : s.readWords (beAt x.payload 4 2) (beAt x.payload 0 4) l s [] = (t, some d)) :
    exec (.regRead c l) s = .next (t.replyTo x csOK true d) := by
  have hn : ¬ (beAt x.payload 4 2 = 0 ∨ 256 < beAt x.payload 4 2) := by omega
  simp [exec_regRead, execRegRead, State.regReadCmd_of_turn h, hn, ha, hr]

/-- While one of the words has to wait, so does the command (R341). -/
theorem exec_regRead_waits (ha : addrOk (beAt x.payload 0 4) (beAt x.payload 4 2) = true)
    (hr : s.readWords (beAt x.payload 4 2) (beAt x.payload 0 4) l s [] = (t, none)) :
    exec (.regRead c l) s = .next (t.awaitReply x) := by
  have hn : ¬ (beAt x.payload 4 2 = 0 ∨ 256 < beAt x.payload 4 2) := by omega
  simp [exec_regRead, execRegRead, State.regReadCmd_of_turn h, hn, ha, hr]

end Count
end RegRead

/-! ### REG_WRITE and REG_RMW (R403) -/

section RegWrite
variable {c : CmdRef} {s : State} {x : Command} {n : Nat} (h : s.turn c 1 1 = some x) (hn : n = (x.payload.length - 4) / 4)
include h hn

theorem exec_regWrite_served (ha : addrOk (beAt x.payload 0 4) n = true) :
    exec (.regWrite c) s = .next ((s.writeWords c (x.payload.drop 4) n (beAt x.payload 0 4)).finish c csOK []) := by
  subst hn
  simp [exec_regWrite, execRegWrite, h, ha]

theorem exec_regWrite_badAddr (ha : addrOk (beAt x.payload 0 4) n = false) :
    exec (.regWrite c) s = .next (s.replyTo x csBADADDR true []) := by
  subst hn
  simp [exec_regWrite, execRegWrite, h, ha]

end RegWrite

section RegRmw
variable {c : CmdRef} {e : Ecc} {s t : State} {x : Command} {v : Word} (h : s.turn c 1 2 = some x)
include h

theorem exec_regRmw_badAddr (ha : addrOk (beAt x.payload 0 4) 1 = false) :
    exec (.regRmw c e) s = .next (s.replyTo x csBADADDR true []) := by
  simp [exec_regRmw, execRegRmw, h, ha]

theorem exec_regRmw_served (ha : addrOk (beAt x.payload 0 4) 1 = true)
    (hr : s.readReg (beAt x.payload 0 4) e = (t, v, true)) :
    exec (.regRmw c e) s = .next ((t.writeReg (beAt x.payload 0 4)
      ((v &&& ~~~(BitVec.ofNat 32 (beAt x.payload 4 4))) |||
        (BitVec.ofNat 32 (beAt x.payload 8 4) &&& BitVec.ofNat 32 (beAt x.payload 4 4)))).finish c csOK (beBytes 4 v.toNat)) := by
  simp [exec_regRmw, execRegRmw, h, ha, hr]

theorem exec_regRmw_waits (ha : addrOk (beAt x.payload 0 4) 1 = true)
    (hr : s.readReg (beAt x.payload 0 4) e = (t, v, false)) :
    exec (.regRmw c e) s = .next t := by
  simp [exec_regRmw, execRegRmw, h, ha, hr]

end RegRmw

/-! ### ACT_POST (R401) -/

section ActPost
variable {c : CmdRef} {s : State} {x : Command} {n k : Nat} (h : s.turn c 2 0 = some x)
include h

/-- An ACT_POST whose turn has come offers its records. -/
theorem exec_actPost_of_turn : exec (.actPost c) s = .next (s.offerPosts x) := by
  simp [exec_actPost, execActPost, h]

/-- Where the FIFO has room for every record left, all are offered and the offering ends. -/
theorem exec_actPost_all (hn : n = x.payload.length / 16 - x.offered) (hk : n ≤ fifoDepth 80 - (s.fifo 80).length) :
    exec (.actPost c) s = .next (((s.pushPosts x x.offered n).setCommand { x with
      offered := x.offered + n, since := some (if n = 0 then x.since.getD s.time else s.time), stage := .awaiting }).postsDone x.ref) := by
  subst hn
  rw [exec_actPost_of_turn h, State.offerPosts, Nat.min_eq_left hk]
  simp

section Full
variable (hk : k = fifoDepth 80 - (s.fifo 80).length) (hlt : k < x.payload.length / 16 - x.offered)
include hk hlt

/-- Where it has room for some, those are offered, and the others wait anew. -/
theorem exec_actPost_some (hpos : 0 < k) :
    exec (.actPost c) s = .next (((s.pushPosts x x.offered k).setCommand { x with
      offered := x.offered + k, since := some s.time }).postsDone x.ref) := by
  have hk0 : k ≠ 0 := by omega
  rw [exec_actPost_of_turn h, State.offerPosts, ← hk, Nat.min_eq_right hlt.le]
  simp [hk0, Nat.not_le.2 hlt]

/-- Where it is full, the offering ends once the record first in line has waited 100 us. -/
theorem exec_actPost_none (h0 : k = 0) :
    exec (.actPost c) s = .next ((s.setCommand { x with
      since := some (x.since.getD s.time),
      stage := if s.reached (x.since.getD s.time + units (100 * unitsPerUs)) then .awaiting else x.stage }).postsDone x.ref) := by
  subst h0
  rw [exec_actPost_of_turn h, State.offerPosts, ← hk, Nat.min_eq_right hlt.le]
  simp [State.pushPosts, Nat.not_le.2 hlt]

end Full
end ActPost

/-! ### Accesses at addresses (R5, R500) -/

section Address
variable {a : Nat} {s : State} {r : RegRow} {i : List Nat}

/-- Below the windows a reserved address ignores a write. -/
theorem State.writeReg_reserved (ha : a < 0x10000000) (hr : regRow a = none) (w : Word) : s.writeReg a w = s := by
  have h1 : ¬ 0x30000000 ≤ a := by omega
  have h2 : ¬ 0x40000000 ≤ a := by omega
  have h3 : ¬ 0x10000000 ≤ a := by omega
  simp [State.writeReg, h1, h2, h3, hr]

/-- Below the windows a register of the map takes a write by its row. -/
theorem State.writeReg_of_row (ha : a < 0x10000000) (hr : regRow a = some (r, i)) (w : Word) :
    s.writeReg a w = s.writeRow r a w := by
  have h1 : ¬ 0x30000000 ≤ a := by omega
  have h2 : ¬ 0x40000000 ≤ a := by omega
  have h3 : ¬ 0x10000000 ≤ a := by omega
  simp [State.writeReg, h1, h2, h3, hr]

/-- A write by the access codes stores what the row keeps of it. -/
theorem State.store_of_row (hr : regRow a = some (r, i)) (w : Word) : s.store a w = s.setR a (rowStore r (s.getR a) w) := by
  simp [State.store, hr]

/-- A 32-bit register without a hook takes a write by its access codes alone. -/
theorem State.writeRow_plain (hp : r.pair = 0) (hh : r.hook = .none) (w : Word) : s.writeRow r a w = s.store a w := by
  simp [State.writeRow, State.writeHook, hp, hh]

/-- A read of a 32-bit register with RC bits answers its value and clears them (R5). -/
theorem State.readRow_clears (hp : r.pair = 0) (hh : r.hook ≠ .capRec) (hc : r.rc ≠ 0) :
    s.readRow r a = (s.setR a (s.getR a &&& ~~~(BitVec.ofNat 32 r.rc)), s.regValue r a) := by
  simp [State.readRow, hp, hh, hc]

/-- A SUB or FAB register takes a write that names a source (R498). -/
theorem State.writeRoute_valid {w : Word} (hr : regRow a = some (r, i)) (hs : sourceValid (fld w 8 0) = true) :
    s.writeRoute a w = s.setR a (rowStore r (s.getR a) w) := by
  rw [State.writeRoute, if_pos hs, State.store_of_row hr]

/-- One that names none is not written, and sets the error bit of EVT.STAT (R498). -/
theorem State.writeRoute_invalid {w : Word} (hs : sourceValid (fld w 8 0) = false) :
    s.writeRoute a w = s.setB Reg.EVT_STAT 0 true := by
  simp [State.writeRoute, hs]

end Address

section AddressRows
variable {a w : Word} {s : State} {r : RegRow} {i : List Nat}

theorem exec_registerWrite_reserved (ha : a.toNat < 0x10000000) (hr : regRow a.toNat = none) :
    exec (.registerWrite a w) s = .next s := by
  rw [exec_registerWrite, State.writeReg_reserved ha hr]

theorem exec_registerWrite_plain (ha : a.toNat < 0x10000000) (hr : regRow a.toNat = some (r, i)) (hp : r.pair = 0)
    (hh : r.hook = .none) : exec (.registerWrite a w) s = .next (s.setR a.toNat (rowStore r (s.getR a.toNat) w)) := by
  rw [exec_registerWrite, State.writeReg_of_row ha hr, State.writeRow_plain hp hh, State.store_of_row hr]

theorem exec_readClear_reserved (hr : regRow a.toNat = none) : exec (.readClear a) s = .next s := by
  simp [exec_readClear, execReadClear, hr]

theorem exec_readClear_noRc (hr : regRow a.toNat = some (r, i)) (hc : r.rc = 0) : exec (.readClear a) s = .next s := by
  simp [exec_readClear, execReadClear, hr, hc]

theorem exec_readClear_clears (hr : regRow a.toNat = some (r, i)) (hp : r.pair = 0) (hh : r.hook ≠ .capRec) (hc : r.rc ≠ 0) :
    exec (.readClear a) s =
      .next { s.setR a.toNat (s.getR a.toNat &&& ~~~(BitVec.ofNat 32 r.rc)) with readData := s.regValue r a.toNat } := by
  simp [exec_readClear, execReadClear, hr, hc, State.readRow_clears hp hh hc]

theorem exec_evtRouteWrite_reserved (hr : regRow a.toNat = none) : exec (.evtRouteWrite a w) s = .next s := by
  simp [exec_evtRouteWrite, execEvtRouteWrite, hr]

theorem exec_evtRouteWrite_other (hr : regRow a.toNat = some (r, i)) (hh : r.hook ≠ .evtRoute) :
    exec (.evtRouteWrite a w) s = .next s := by
  simp [exec_evtRouteWrite, execEvtRouteWrite, hr, hh]

theorem exec_evtRouteWrite_route (hr : regRow a.toNat = some (r, i)) (hh : r.hook = .evtRoute) :
    exec (.evtRouteWrite a w) s = .next (s.writeRoute a.toNat w) := by
  simp [exec_evtRouteWrite, execEvtRouteWrite, hr, hh]

end AddressRows

/-! ### Causes (R491) and subscriptions (R496) -/

section Events
variable {ev : Fin 320} {w : Word} {s : State} {a e j n : Nat} {l : List (Nat × Nat)}

theorem exec_causeClear_of_addr (ha : s.causeAddr ev = some a) :
    exec (.causeClear ev w) s = .next (s.setR a (s.getR a &&& ~~~w)) := by
  simp [exec_causeClear, execCauseClear, ha]

theorem exec_causeClear_none (ha : s.causeAddr ev = none) : exec (.causeClear ev w) s = .next s := by
  simp [exec_causeClear, execCauseClear, ha]

theorem exec_subscriptionSignal_nil (h : s.evt.signals = []) : exec .subscriptionSignal s = .next s := by
  simp [exec_subscriptionSignal, execSubscriptionSignal, h]

section Fired
variable (h : s.evt.signals = (e, j) :: l) (hp : s.physOf e = some n)
include h hp

/-- The first fired subscription delivers its SIGNAL to an engine whose domain is ON. -/
theorem exec_subscriptionSignal_on (hd : s.domOn (domEngine n) = true) :
    exec .subscriptionSignal s = .next (({ s with evt := { s.evt with signals := l } } : State).setLeng e
      ((s.leng e).signal (BitVec.ofNat 32 (2 ^ j)))) := by
  simp [exec_subscriptionSignal, execSubscriptionSignal, h, hp, hd]

/-- It waits for a domain that is not ON, which is woken. -/
theorem exec_subscriptionSignal_off (hd : s.domOn (domEngine n) = false) :
    exec .subscriptionSignal s = .next (s.wake (domEngine n) 1) := by
  simp [exec_subscriptionSignal, execSubscriptionSignal, h, hp, hd]

end Fired
end Events

/-- Settles O57: each clause is one case of a row's answer above. -/
theorem registersAndAddresses : Obligations.RegistersAndAddresses :=
  ⟨fun _ _ _ _ _ _ => exec_regRead_served,
   fun _ _ _ _ _ => exec_regRead_waits,
   fun _ _ _ _ => exec_regRead_badCount,
   fun _ _ _ _ => exec_regRead_badAddr,
   fun _ _ _ _ h hn => ⟨exec_regWrite_served h hn, exec_regWrite_badAddr h hn⟩,
   fun _ _ _ _ _ _ => exec_regRmw_served,
   fun _ _ _ _ _ _ h => ⟨exec_regRmw_badAddr h, exec_regRmw_waits h⟩,
   fun _ _ _ _ => exec_actPost_all,
   fun _ _ _ _ h hk hlt => ⟨exec_actPost_some h hk hlt, exec_actPost_none h hk hlt⟩,
   exec_registerWrite,
   fun _ _ _ => exec_registerWrite_reserved,
   fun _ _ _ _ _ => exec_registerWrite_plain,
   fun _ _ => exec_readClear_reserved,
   fun _ _ _ _ => exec_readClear_noRc,
   fun _ _ _ => exec_evtRouteWrite_reserved,
   fun _ _ _ _ _ => exec_evtRouteWrite_other,
   fun _ _ _ _ => exec_readClear_clears,
   fun _ _ _ _ _ hr hh => by
     rw [exec_evtRouteWrite_route hr hh]
     exact ⟨fun hs => by rw [State.writeRoute_valid hr hs], fun hs => by rw [State.writeRoute_invalid hs]⟩,
   fun _ _ _ _ => exec_causeClear_of_addr,
   fun _ _ _ => exec_causeClear_none,
   fun _ => exec_subscriptionSignal_nil,
   fun _ _ _ _ _ h hp => ⟨exec_subscriptionSignal_on h hp, exec_subscriptionSignal_off h hp⟩⟩

end Sys2Proof.Machine
end

section
/-!
PROOF. What an ADPLL answers to a loss of lock, the end of a lock sequence and of a slew, and a write of its FCW and of its
control register (R20, R29–R34, R38–R43), case by case, and the obligations LocksAndLosses and FcwAndAdpllControl.
-/
namespace Sys2Proof.Machine

/-! ### What runs for each command -/

theorem exec_lossOfLock (n : Fin 8) (why : Fin 2) (s : State) : exec (.lossOfLock n why) s = execLossOfLock n why s := rfl
theorem exec_resFail (r : Fin 2) (s : State) : exec (.resFail r) s = execResFail r s := rfl
theorem exec_lockComplete (n : Fin 8) (s : State) : exec (.lockComplete n) s = execLockComplete n s := rfl
theorem exec_slewDone (n : Fin 8) (s : State) : exec (.slewDone n) s = execSlewDone n s := rfl
theorem exec_fcwWrite (n : Fin 8) (v : DWord) (s : State) : exec (.fcwWrite n v) s = .next (s.writeFcw n v) := rfl
theorem exec_adpllEnable (n : Fin 8) (w : Word) (s : State) : exec (.adpllEnable n w) s = .next (s.writePllCtl n w) := rfl
theorem exec_relock (n : Fin 8) (s : State) :
    exec (.relock n) s = .next (s.writePllCtl n (s.getR (Reg.CLK_ADPLL_CTL n) ||| 0x1000)) := rfl

/-! ### Loss of lock (R29, R42) -/

section Losses
variable {s u : State} {n why : Nat}

theorem exec_lossOfLock_locked {n : Fin 8} {why : Fin 2} (h : s.locked n = true) :
    exec (.lossOfLock n why) s = .next (s.loseLock n why) := by
  rw [exec_lossOfLock, execLossOfLock, if_pos h]

theorem exec_resFail_active {r : Fin 2} (h : s.getB Reg.CLK_RES_STAT r = false) :
    exec (.resFail r) s = .next (((s.setB Reg.CLK_RES_STAT r true).refLocked r).foldl (fun s n => s.loseLock n 2)
      (((s.setB Reg.CLK_RES_STAT r true).refLocked r).foldl
        (fun s n => (s.anchorDelays n s.time).setB (Reg.CLK_ADPLL_STAT n) 0 false) (s.setB Reg.CLK_RES_STAT r true))) := by
  rw [exec_resFail]
  exact if_neg (by simp [h])

theorem State.mem_refLocked {r : Nat} : n ∈ s.refLocked r ↔ n < 8 ∧ s.locked n = true ∧ s.refOf n = r := by
  simp [State.refLocked]

/-- A user ADPLL that loses lock is not part of the time-base pair: no member takes over. -/
theorem State.loseLock_user (hn : 2 ≤ n) (hu : u = ((((s.anchorDelays n s.time).raise (128 + n) (2 ^ why)).setB
      (Reg.CLK_ADPLL_STAT n) 0 false).addF (Reg.CLK_ADPLL_STAT n) 31 16 1).countLol n) :
    s.loseLock n why = ((u.leaveDco n (fun m => u.backupOf n m)).setB (Reg.CLK_ADPLL_STAT n) 3 false).startLock n := by
  simp only [State.loseLock, ← hu, if_neg (Nat.not_lt.2 hn)]

end Losses

/-! ### The end of a lock sequence (R32, R34, R43) -/

section Lock
variable {s : State} {n : Fin 8} {v : DWord}

/-- The lock of ADPLL `n` at the control word `v`, before its outputs return: a free band, LOCKED, LOCK_FCW and the word applied. -/
def State.lockAt (s : State) (n : Nat) (v : DWord) : State :=
  (((s.fresh.1.setF (Reg.CLK_ADPLL_STAT n) 13 8 s.fresh.2.toNat).setF (Reg.CLK_ADPLL_STAT n) 2 1 3).setB
    (Reg.CLK_ADPLL_STAT n) 0 true).setD (Reg.CLK_ADPLL_LOCK_FCW n) v

theorem exec_lockComplete_user (hn : 2 ≤ n.val) (hv : (s.pll n).latched = some v) (hr : s.refAlive n = true)
    (hl : s.lockReady n = true) :
    ∃ s1 s2 s3, exec (.lockComplete n) s = .next (if (s.pll n).laterFcw then s3.retune n (s.getD (Reg.CLK_ADPLL_FCW n)) v else s3) ∧
      (∃ s4, s4 = ((((List.range 6).filter (fun m =>
        s2.outSrc n m == .gated || (s2.outSrc n m != .own && s2.getB (Reg.CLK_ADPLL_OUT_BKP n m) 8))).foldl
          (fun s m => s.setOutSrc n m .own) s2)).raise (136 + n) 1 ∧ s3 = (s4.anchorDelays n s4.time).noteClamp n) ∧
      s1 = s.lockAt n v ∧
      s2 = (s1.setD (Reg.CLK_ADPLL_FCW_ACT n) v).setPll n { s1.pll n with latched := none, laterFcw := false } := by
  refine ⟨_, _, _, ?_, ⟨_, rfl, rfl⟩, rfl, rfl⟩
  rw [exec_lockComplete, execLockComplete, hv]
  simp only [hr, hl, if_neg (Nat.not_lt.2 hn)]
  rfl

theorem exec_lockComplete_not (h : (s.pll n).latched = none ∨ s.refAlive n = false ∨ s.lockReady n = false) :
    exec (.lockComplete n) s = .next s := by
  rw [exec_lockComplete, execLockComplete]
  cases hv : (s.pll n).latched with
  | none => rfl
  | some v => exact if_pos (by simpa [hv] using h)

theorem State.not_lockReady {n : Nat} (hrun : s.timeRuns = true)
    (h : atOrAfter s.time ((s.pll n).since + units (13280 * 64 + s.getF (Reg.CLK_ADPLL_LOCK_CFG n) 23 16 * 64000)) = false) :
    s.lockReady n = false := by
  rw [State.lockReady, hrun, show unitsPerUs = 64000 from rfl, h]
  rfl

theorem exec_slewDone_arrived (h3 : s.getB (Reg.CLK_ADPLL_STAT n) 3 = true) (h : s.fcwAct n = s.fcw (Reg.CLK_ADPLL_FCW n)) :
    exec (.slewDone n) s = .next
      (((s.setD (Reg.CLK_ADPLL_FCW_ACT n) (s.getD (Reg.CLK_ADPLL_FCW n))).setB (Reg.CLK_ADPLL_STAT n) 3 false).noteClamp n) := by
  rw [exec_slewDone, execSlewDone, if_pos (by simp [h3, h])]

end Lock

/-- Settles O15: each clause is one case of the command's answer above. -/
theorem locksAndLosses : Obligations.LocksAndLosses :=
  ⟨⟨fun _ _ _ => exec_lossOfLock_locked,
    fun _ _ => exec_resFail_active,
    fun _ _ _ => State.mem_refLocked,
    fun _ _ _ _ => State.loseLock_user⟩,
   fun _ _ _ => exec_lockComplete_user,
   fun _ _ => exec_lockComplete_not,
   fun _ _ => State.not_lockReady,
   fun _ _ => exec_slewDone_arrived,
   fun _ _ => rfl⟩

/-! ### A new FCW under the retune rules (R38, R39, R41) -/

section Retune
variable {s : State} {n : Nat} {v keep : DWord}

/-- `v` lies within 0.2 % of the FCW at the lock of ADPLL `n` (R38, R39). -/
def State.nearLock (s : State) (n : Nat) (v : DWord) : Prop :=
  (v.toNat - s.fcw (Reg.CLK_ADPLL_LOCK_FCW n) + (s.fcw (Reg.CLK_ADPLL_LOCK_FCW n) - v.toNat)) * 1000000 ≤
    2000 * s.fcw (Reg.CLK_ADPLL_LOCK_FCW n)

/-- An ADPLL that is not locked takes a word between floor and ceilings as it is. -/
theorem State.retune_unlocked (hl : s.locked n = false) (hc : s.aboveCeil n v.toNat = false) (hf : s.belowFloor n v.toNat = false) :
    s.retune n v keep = s.setD (Reg.CLK_ADPLL_FCW n) v := by
  simp [State.retune, hl, hc, hf]

section Locked
variable (hl : s.locked n = true)
include hl

/-- Near the lock value a locked ADPLL slews from the word applied now. -/
theorem State.retune_near (hd : s.nearLock n v) (hc : s.aboveCeil n v.toNat = false) (hf : s.belowFloor n v.toNat = false) :
    ∃ u, u = (s.noteClamp n).anchorDelays n s.time ∧
      s.retune n v keep = (((u.setPll n { u.pll n with slewFrom := BitVec.ofNat 64 (s.fcwAct n), slewAt := u.time }).setD
        (Reg.CLK_ADPLL_FCW n) v).setD (Reg.CLK_ADPLL_FCW_ACT n) (BitVec.ofNat 64 (s.fcwAct n))).setB (Reg.CLK_ADPLL_STAT n) 3
          (decide (s.fcwAct n ≠ v.toNat)) := by
  refine ⟨_, rfl, ?_⟩
  rw [State.nearLock] at hd
  simp [State.retune, hl, hc, hf, hd]

/-- Far from it, a new lock sequence starts where AUTO_RELOCK allows. -/
theorem State.retune_far (hd : ¬ s.nearLock n v) (ha : s.getB (Reg.CLK_ADPLL_CTL n) 11 = true) (hc : s.aboveCeil n v.toNat = false)
    (hf : s.belowFloor n v.toNat = false) : s.retune n v keep = (s.setD (Reg.CLK_ADPLL_FCW n) v).startLock n := by
  rw [State.nearLock] at hd
  simp [State.retune, hl, hc, hf, hd, ha]

/-- Far from it without AUTO_RELOCK, the word in force stays. -/
theorem State.retune_far_refused (hd : ¬ s.nearLock n v) (ha : s.getB (Reg.CLK_ADPLL_CTL n) 11 = false) :
    s.retune n v keep = (s.setD (Reg.CLK_ADPLL_FCW n) keep).setB (Reg.CLK_ADPLL_STAT n) 5 true := by
  rw [State.nearLock] at hd
  simp [State.retune, hl, hd, ha]

/-- Near it but above a ceiling or below the floor, the word in force stays. -/
theorem State.retune_outside (hd : s.nearLock n v) (h : s.aboveCeil n v.toNat = true ∨ s.belowFloor n v.toNat = true) :
    s.retune n v keep = (s.setD (Reg.CLK_ADPLL_FCW n) keep).setB (Reg.CLK_ADPLL_STAT n) 6 true := by
  rw [State.nearLock] at hd
  simp [State.retune, hl, hd, h]

end Locked
end Retune

/-! ### A write of an FCW (R20, R30, R34) -/

section Fcw
variable {s : State} {n : Nat} {v w : DWord}

/-- The FCW written: 40 bits of the double word. -/
theorem toNat_fcwWord (v : DWord) : (BitVec.ofNat 64 (v.toNat % 2 ^ 40)).toNat = v.toNat % 2 ^ 40 := by
  rw [BitVec.toNat_ofNat, Nat.mod_eq_of_lt (by omega)]

theorem State.writeFcw_pair (hn : n < 2) : s.writeFcw n v = s := by
  rw [State.writeFcw, if_pos hn]

section User
variable (hn : 2 ≤ n)
include hn

theorem State.writeFcw_outOfRange (h : v.toNat % 2 ^ 40 < 80 * 2 ^ 32 ∨ 160 * 2 ^ 32 < v.toNat % 2 ^ 40) :
    s.writeFcw n v = s.setB (Reg.CLK_ADPLL_STAT n) 5 true := by
  rw [State.writeFcw, if_neg (Nat.not_lt.2 hn), toNat_fcwWord, if_pos h]

variable (hw : w = BitVec.ofNat 64 (v.toNat % 2 ^ 40)) (hlo : 80 * 2 ^ 32 ≤ w.toNat) (hhi : w.toNat ≤ 160 * 2 ^ 32)
include hw hlo hhi

theorem State.writeFcw_latched (hp : (s.pll n).latched.isSome = true) :
    s.writeFcw n v = (s.setD (Reg.CLK_ADPLL_FCW n) w).setPll n { s.pll n with laterFcw := true } := by
  subst hw
  rw [State.writeFcw, if_neg (Nat.not_lt.2 hn), if_neg (by omega), if_pos hp]

/-- Outside a lock sequence, a word in range falls under the retune rules. -/
theorem State.writeFcw_retunes (hp : (s.pll n).latched = none) : s.writeFcw n v = s.retune n w (s.getD (Reg.CLK_ADPLL_FCW n)) := by
  subst hw
  rw [State.writeFcw, if_neg (Nat.not_lt.2 hn), if_neg (by omega), if_neg (by simp [hp])]

end User
end Fcw

/-! ### A write of ADPLL[n].CTL (R20, R32) -/

section Control
variable {s : State} {n : Nat} {w : Word}

/-- The RELOCK bit is set in what RELOCK writes. -/
theorem bitOf_or_relock (w : Word) : bitOf (w ||| 0x1000) 12 = true := by
  simp [bitOf, Nat.testBit_or, show Nat.testBit 4096 12 = true from rfl]

theorem State.writePllCtl_pair (hn : n < 2) : s.writePllCtl n w = s := by
  rw [State.writePllCtl, if_pos hn]

section User
variable (hn : 2 ≤ n)
include hn

/-- With EN 1 after the write, a rise of EN or RELOCK starts the lock sequence. -/
theorem State.writePllCtl_starts (hen : (s.store (Reg.CLK_ADPLL_CTL n) w).getB (Reg.CLK_ADPLL_CTL n) 0 = true)
    (h : s.getB (Reg.CLK_ADPLL_CTL n) 0 = false ∨ bitOf w 12 = true) :
    s.writePllCtl n w = (s.store (Reg.CLK_ADPLL_CTL n) w).startLock n := by
  simp [State.writePllCtl, Nat.not_lt.2 hn, hen, h]

/-- A fall of EN stops the ADPLL. -/
theorem State.writePllCtl_stops (hwas : s.getB (Reg.CLK_ADPLL_CTL n) 0 = true)
    (hen : (s.store (Reg.CLK_ADPLL_CTL n) w).getB (Reg.CLK_ADPLL_CTL n) 0 = false) :
    s.writePllCtl n w = (s.store (Reg.CLK_ADPLL_CTL n) w).pllOff n := by
  simp [State.writePllCtl, Nat.not_lt.2 hn, hwas, hen]

/-- Where EN stays as it was, only RELOCK with EN 1 does more than store. -/
theorem State.writePllCtl_keeps
    (hen : (s.store (Reg.CLK_ADPLL_CTL n) w).getB (Reg.CLK_ADPLL_CTL n) 0 = s.getB (Reg.CLK_ADPLL_CTL n) 0) :
    s.writePllCtl n w = if s.getB (Reg.CLK_ADPLL_CTL n) 0 && bitOf w 12 then (s.store (Reg.CLK_ADPLL_CTL n) w).startLock n
      else s.store (Reg.CLK_ADPLL_CTL n) w := by
  cases hwas : s.getB (Reg.CLK_ADPLL_CTL n) 0 with
  | true => simp [State.writePllCtl, Nat.not_lt.2 hn, hen, hwas]
  | false => simp [State.writePllCtl, Nat.not_lt.2 hn, hen, hwas]

end User
end Control

/-- Settles O16: a write of an FCW is refused, kept for later or retunes; a write of the control register starts, stops or only
stores. -/
theorem fcwAndAdpllControl : Obligations.FcwAndAdpllControl := by
  refine ⟨⟨fun n v s hn => ?_, fun n v s hn h => ?_, fun n v s hn hlo hhi hp => ?_, fun n v s hn hlo hhi hp hl hc hf => ?_,
      fun n v w s l hn hw hlo hhi hp hl e => ?_⟩,
    fun n w s hn => ⟨?_, ?_⟩, fun n w s hn hwas hen => ?_, fun n s hn hen => ?_, fun n s hn hwas hen => ?_, fun n w s hn hen => ?_,
    fun n w s hn hwas hen => ⟨_, rfl, ?_⟩⟩
  · rw [exec_fcwWrite, State.writeFcw_pair hn]
  · rw [exec_fcwWrite, State.writeFcw_outOfRange hn h]
  · rw [← toNat_fcwWord] at hlo hhi
    rw [exec_fcwWrite, State.writeFcw_latched hn rfl hlo hhi hp]
  · rw [← toNat_fcwWord] at hlo hhi hc hf
    rw [exec_fcwWrite, State.writeFcw_retunes hn rfl hlo hhi hp, State.retune_unlocked hl hc hf]
  · subst e
    rw [exec_fcwWrite, State.writeFcw_retunes hn hw hlo hhi hp]
    refine ⟨fun hd hc hf => ?_, fun hd ha hc hf => ?_, fun hd ha => ?_, fun hd h => ?_⟩
    · obtain ⟨u, hu, heq⟩ := State.retune_near (keep := s.getD (Reg.CLK_ADPLL_FCW n)) hl hd hc hf
      exact ⟨u, hu, by rw [heq]⟩
    · rw [State.retune_far hl (Nat.not_le.2 hd) ha hc hf]
    · rw [State.retune_far_refused hl (Nat.not_le.2 hd) ha]
    · rw [State.retune_outside hl hd h]
  · rw [exec_adpllEnable, State.writePllCtl_pair hn]
  · rw [exec_relock, State.writePllCtl_pair hn]
  · rw [exec_adpllEnable, State.writePllCtl_starts hn hen (.inl hwas)]
  · rw [exec_relock, State.writePllCtl_starts hn hen (.inr (bitOf_or_relock _))]
  · rw [exec_relock, State.writePllCtl_keeps hn (hen.trans hwas.symm), hwas]
    rfl
  · rw [exec_adpllEnable, State.writePllCtl_keeps hn hen]
  · rw [exec_adpllEnable, State.writePllCtl_stops hn hwas hen]
    rfl

end Sys2Proof.Machine
end

section
/-!
PROOF. What a clock output, a clock tree, a step of device time and CLK_TB_CTL answer (R20, R22, R25–R28, R35–R37, R44), case by
case, and the obligations ClockOutputs and StepsOfDeviceTime.
-/
namespace Sys2Proof.Machine

/-! ### What runs for each command -/

theorem exec_outputCtlWrite (n : Fin 8) (m : Fin 6) (w : Word) (s : State) :
    exec (.outputCtlWrite n m w) s = execOutputCtlWrite n m w s := rfl
theorem exec_gclkSrcWrite (k : Fin 32) (w : Word) (s : State) :
    exec (.gclkSrcWrite k w) s = .next (s.store (Reg.CLK_GCLK k) w).noteClamps := rfl
theorem exec_timeStep (v : Via) (s : State) : exec (.timeStep v) s = execTimeStep v s := rfl
theorem exec_timeStepApply (s : State) : exec .timeStepApply s = execTimeStepApply s := rfl
theorem exec_clkTbCtlWrite (w : Word) (s : State) : exec (.clkTbCtlWrite w) s = .next (s.writeTbCtl w) := rfl

/-! ### Outputs of the time-base pair (R20) -/

section PairOutputs
variable {s : State} {n m : Nat} {w : Word}

theorem exec_outputCtlWrite_pair {n : Fin 8} {m : Fin 6} (hn : n.val < 2) :
    exec (.outputCtlWrite n m w) s = .next (s.writeTbOut n m w) := by
  rw [exec_outputCtlWrite, execOutputCtlWrite, if_pos hn]

/-- A write of any other output of the pair is ignored. -/
theorem State.writeTbOut_other (h : ¬ (n = 0 ∧ m = 5)) : s.writeTbOut n m w = s := by
  rw [State.writeTbOut, if_neg h]

/-- OUT[5] takes EN and a legal DIV in both members. -/
theorem State.writeTbOut_legal (hlo : 10 ≤ fld w 11 0) (hhi : fld w 11 0 ≤ 1536) : s.writeTbOut 0 5 w =
    ((((s.setB (Reg.CLK_ADPLL_OUT_CTL 0 5) 31 (bitOf w 31)).setF (Reg.CLK_ADPLL_OUT_CTL 0 5) 11 0 (fld w 11 0)).setB
      (Reg.CLK_ADPLL_OUT_CTL 1 5) 31 (bitOf w 31)).setF (Reg.CLK_ADPLL_OUT_CTL 1 5) 11 0 (fld w 11 0)).noteClamps := by
  simp [State.writeTbOut, hlo, hhi]

/-- A DIV outside 10 to 1,536 is refused, and EN taken. -/
theorem State.writeTbOut_illegal (h : fld w 11 0 < 10 ∨ 1536 < fld w 11 0) : s.writeTbOut 0 5 w =
    (((s.setB (Reg.CLK_ADPLL_STAT 0) 7 true).setB (Reg.CLK_ADPLL_OUT_CTL 0 5) 31 (bitOf w 31)).setB
      (Reg.CLK_ADPLL_OUT_CTL 1 5) 31 (bitOf w 31)).noteClamps := by
  have hbad : ¬ (10 ≤ fld w 11 0 ∧ fld w 11 0 ≤ 1536) := by omega
  simp [State.writeTbOut, hbad]

end PairOutputs

/-! ### Outputs of a user ADPLL (R35–R37) -/

section UserOutputs
variable {s : State} {n m : Nat} {w old v : Word}

theorem exec_outputCtlWrite_user {n : Fin 8} {m : Fin 6} (hn : 2 ≤ n.val) :
    exec (.outputCtlWrite n m w) s = .next (s.writeOut n m w) := by
  rw [exec_outputCtlWrite, execOutputCtlWrite, if_neg (Nat.not_lt.2 hn)]

/-- A register write leaves what an ADPLL holds beside its registers. -/
theorem State.pll_setR (s : State) (a : Nat) (v : Word) (n : Nat) : (s.setR a v).pll n = s.pll n := by
  simp only [State.pll, State.setR]

/-- What an ADPLL holds beside its registers leaves its LOCKED bit. -/
theorem State.locked_setPll (s : State) (n k : Nat) (x : Adpll) : (s.setPll n x).locked k = s.locked k := by
  simp only [State.locked, State.getB, State.getR, State.setPll]

/-- The word that a write of `w` with EN 1 leaves in an output's register that held `old`, with this DIV and this PHASE. -/
def outWord (old w : Word) (div phase : Nat) : Word :=
  setBitOf (setBitOf (setFld (setFld (setFld old 11 0 div) 28 18 phase) 17 12 (fld w 17 12)) 30 (bitOf w 30)) 31 true

/-- An output that stays enabled keeps DIV and PHASE; a new DIV is an error, and a new fine delay starts from where the delay
stands. -/
theorem State.writeOut_enabled (ho : old = s.getR (Reg.CLK_ADPLL_OUT_CTL n m)) (hen : bitOf old 31 = true) (hw : bitOf w 31 = true)
    (hd : fld w 11 0 ≠ fld old 11 0) : s.writeOut n m w =
      ((if fld w 17 12 = fld old 17 12 then s.setB (Reg.CLK_ADPLL_STAT n) 7 true
        else (s.setB (Reg.CLK_ADPLL_STAT n) 7 true).anchorDelay n m (s.setB (Reg.CLK_ADPLL_STAT n) 7 true).time).setR
          (Reg.CLK_ADPLL_OUT_CTL n m) (outWord old w (fld old 11 0) (fld old 28 18))).noteClamp n := by
  by_cases hf : fld w 17 12 = fld old 17 12 <;> simp [State.writeOut, outWord, ← ho, hen, hw, hd, hf]

/-- A disabled output takes a legal DIV and PHASE, runs, and wakes its ADPLL. -/
theorem State.writeOut_enables (ho : old = s.getR (Reg.CLK_ADPLL_OUT_CTL n m)) (hen : bitOf old 31 = false) (hw : bitOf w 31 = true)
    (hd : fld w 11 0 = fld old 11 0 ∨ s.divOk n (divOf w) = true) (hp : fld w 28 18 < divOf (setFld old 11 0 (fld w 11 0))) :
    ∃ u, u = (s.setR (Reg.CLK_ADPLL_OUT_CTL n m) (outWord old w (fld w 11 0) (fld w 28 18))).setPll n
        { s.pll n with fdly := (s.pll n).fdly.filter (fun p => p.1 != m) } ∧
      s.writeOut n m w = ((u.setOutSrc n m (if u.locked n then .own else .gated)).wake (domPll n) 10).noteClamp n := by
  refine ⟨_, rfl, ?_⟩
  cases hl : (s.setR (Reg.CLK_ADPLL_OUT_CTL n m) (outWord old w (fld w 11 0) (fld w 28 18))).locked n <;>
  · rw [outWord] at hl
    simp [State.writeOut, outWord, ← ho, hen, hw, hd, hp, State.pll_setR, State.locked_setPll, hl]

end UserOutputs

/-- Settles O17: each clause is one case of a write of an output or of a tree. -/
theorem clockOutputs : Obligations.ClockOutputs := by
  refine ⟨fun n m w s hn h => ?_, fun w s hlo hhi => ?_, fun w s h => ?_, fun n m w s hn hen hw hd => ⟨_, rfl, ?_⟩,
    fun n m w old v s hn ho hen hw hd hp hv => ?_, exec_gclkSrcWrite⟩
  · rw [exec_outputCtlWrite_pair hn, State.writeTbOut_other h]
  · rw [exec_outputCtlWrite_pair (by decide)]
    exact congrArg _ (State.writeTbOut_legal hlo hhi)
  · rw [exec_outputCtlWrite_pair (by decide)]
    exact congrArg _ (State.writeTbOut_illegal h)
  · rw [exec_outputCtlWrite_user hn, State.writeOut_enabled rfl hen hw hd]
    rfl
  · subst hv
    rw [exec_outputCtlWrite_user hn]
    obtain ⟨u, hu, heq⟩ := State.writeOut_enables ho hen hw hd hp
    exact ⟨u, hu, congrArg _ heq⟩

/-! ### A step of device time (R26–R28) -/

section Steps
variable {s u : State} {d e : DWord} {c : Option CmdRef}

/-- GO asks for the step in CLK_TB_STEP. -/
theorem exec_timeStep_go {w : Word} (h : bitOf w 0 = true) : ∃ u, u = s.store Reg.CLK_TB_STEP_CTL w ∧
    exec (.timeStep (.reg w)) s = .next (u.askStep (u.getD Reg.CLK_TB_STEP) none) := by
  refine ⟨_, rfl, ?_⟩
  rw [exec_timeStep, execTimeStep, State.writeStepCtl, if_pos h]

theorem exec_timeStep_cmd {c : CmdRef} {x : Command} (h : s.turn c 2 5 = some x) : exec (.timeStep (.cmd c)) s =
    .next ((s.askStep (BitVec.ofNat 64 (beNat x.payload)) (some c)).awaitReply x) := by
  simp only [exec_timeStep, execTimeStep, h]

/-- No command waits for the step before it. -/
theorem State.askStep_free (h : ∀ e x, s.clk.step ≠ some (e, some x)) :
    s.askStep d c = { s with clk := { s.clk with step := some (d, c) } } := by
  unfold State.askStep
  split
  next e x hs => exact absurd hs (h e x)
  next => rfl

/-- The command that waits for a step not yet taken is answered BUSY. -/
theorem State.askStep_replaces {x : CmdRef} (h : s.clk.step = some (e, some x)) (hu : u = s.finish x csBUSY []) :
    s.askStep d c = { u with clk := { u.clk with step := some (d, c) } } := by
  subst hu
  simp only [State.askStep, h]

/-- The step asked for is taken up. -/
def State.stepTaken (s : State) : State := { s with clk := { s.clk with step := none } }

section Due
variable (hs : s.clk.step = some (d, none)) (hrun : s.timeRuns = true)
include hs hrun

/-- The tick of a step asked for by GO: a Front that is armed, or DEGRADED, refuses it. -/
theorem exec_timeStepApply_due : exec .timeStepApply s =
    if s.frontArmed || s.degraded then .next (s.stepTaken.setB Reg.CLK_TB_STEP_CTL 1 true)
    else .next (s.stepTaken.stepTo (s.time + d)) := by
  simp only [exec_timeStepApply, execTimeStepApply, hs]
  exact if_neg (by simp [hrun])

theorem exec_timeStepApply_applied (hf : s.frontArmed = false) (hd : s.degraded = false) :
    exec .timeStepApply s = .next (s.stepTaken.stepTo (s.time + d)) := by
  rw [exec_timeStepApply_due hs hrun, if_neg (by simp [hf, hd])]

theorem exec_timeStepApply_refused (h : s.frontArmed = true ∨ s.degraded = true) :
    exec .timeStepApply s = .next (s.stepTaken.setB Reg.CLK_TB_STEP_CTL 1 true) := by
  rw [exec_timeStepApply_due hs hrun, if_pos (by simpa using h)]

end Due
end Steps

/-! ### CLK_TB_CTL and holdover (R22, R25) -/

section TimeBase
variable {s : State} {w : Word}

/-- Outside MODE GPTP the source port and the grandmaster stay. -/
theorem State.updateSource_of_ne (h : s.tbMode ≠ 1) : s.updateSource = s := by
  rw [State.updateSource, if_pos h]

/-- A write that leaves MODE at FREE and SL_MASTER as it was is only stored. -/
theorem State.writeTbCtl_stored (hm : (s.store Reg.CLK_TB_CTL w).isMaster = bitOf (s.getR Reg.CLK_TB_CTL) 4)
    (ht : (s.store Reg.CLK_TB_CTL w).tbMode = fld (s.getR Reg.CLK_TB_CTL) 1 0) (h0 : (s.store Reg.CLK_TB_CTL w).tbMode = 0) :
    s.writeTbCtl w = s.store Reg.CLK_TB_CTL w := by
  have hsync : ¬ ((s.store Reg.CLK_TB_CTL w).isMaster && (s.store Reg.CLK_TB_CTL w).tbMode == 2) = true := by simp [h0]
  have hsrc := State.updateSource_of_ne (s := s.store Reg.CLK_TB_CTL w) (by omega)
  simp only [State.writeTbCtl, if_neg hsync, if_pos ht, hsrc, if_pos hm]

theorem State.enterHoldover_of_not (h : s.getB Reg.CLK_TB_STAT 3 = false) :
    s.enterHoldover = ((s.setB Reg.CLK_TB_STAT 3 true).setB Reg.CLK_TB_STAT 2 false).raise 125 1 := by
  rw [State.enterHoldover, if_neg (by simp [h])]

end TimeBase

/-- Settles O18: each clause is one case of a step asked for, of its tick, of a write of CLK_TB_CTL or of holdover. -/
theorem stepsOfDeviceTime : Obligations.StepsOfDeviceTime :=
  ⟨⟨fun _ _ => exec_timeStep_go,
    fun _ _ _ => exec_timeStep_cmd,
    fun _ _ _ => State.askStep_free,
    fun _ _ _ _ _ _ => State.askStep_replaces,
    fun _ _ hs hrun hf hd => ⟨_, rfl, exec_timeStepApply_applied hs hrun hf hd⟩,
    fun _ _ => exec_timeStepApply_refused⟩,
   exec_clkTbCtlWrite,
   fun _ _ hm ht h0 => by rw [exec_clkTbCtlWrite, State.writeTbCtl_stored hm ht h0],
   fun _ => State.enterHoldover_of_not⟩

end Sys2Proof.Machine
end

section
/-!
PROOF. What a sync lane does with its state, its messages and its timers, and when holdover begins (R25, R28, R79, R296,
R368–R373), case by case, and the obligation SyncLinks.
-/
namespace Sys2Proof.Machine

/-! ### What runs for each command -/

theorem exec_laneUp (l : Fin 8) (s : State) : exec (.laneUp l) s = execLaneUp l s := rfl
theorem exec_laneDown (l : Fin 8) (s : State) : exec (.laneDown l) s = execLaneDown l s := rfl
theorem exec_hello (m : LaneMsg) (master : Option (Fin 16)) (hops : Fin 8) (st : BitVec 16) (chosen : Bool) (s : State) :
    exec (.hello m master hops st chosen) s = execHello m master hops st chosen s := rfl
theorem exec_time (m : LaneMsg) (t : DWord) (step : Bool) (s : State) : exec (.time m t step) s = execTime m t step s := rfl
theorem exec_delayReq (m : LaneMsg) (s : State) : exec (.delayReq m) s = execDelayReq m s := rfl
theorem exec_delayResp (m : LaneMsg) (t2 t3 : DWord) (s : State) : exec (.delayResp m t2 t3) s = execDelayResp m t2 t3 s := rfl
theorem exec_action (m : LaneMsg) (dst : Fin 16) (w : QWord) (s : State) : exec (.action m dst w) s = execAction m dst w s := rfl
theorem exec_delayMeasureTimer (l : Fin 8) (s : State) : exec (.delayMeasureTimer l) s = execDelayMeasureTimer l s := rfl
theorem exec_timeSendTimer (s : State) : exec .timeSendTimer s = execTimeSendTimer s := rfl
theorem exec_holdover (s : State) : exec .holdover s = execHoldover s := rfl

/-! ### A lane comes up or fails (R368, R369) -/

section Lanes
variable {s : State} {l : Fin 8}

theorem exec_laneUp_trained (he : s.getB (Reg.NET_SL_CTL l) 0 = true) (hd : s.domOn (domLane l) = true)
    (hu : (s.lane l).up = false) (hi : s.laneState l ≠ 6) :
    exec (.laneUp l) s = .next ((((s.setLane l { up := true }).raise (150 + l) 1).setF (Reg.NET_SL_STAT l) 3 0 5).sendHello l) := by
  rw [exec_laneUp]
  exact if_pos (by simp [he, hd, hu, hi])

theorem exec_laneUp_up (hu : (s.lane l).up = true) : exec (.laneUp l) s = .next s := by
  rw [exec_laneUp]
  exact if_neg (by simp [hu])

theorem exec_laneDown_up (hu : (s.lane l).up = true) : exec (.laneDown l) s = .next ((s.raise (150 + l) 2).loseLane l 1) := by
  rw [exec_laneDown, execLaneDown, if_pos hu]

theorem exec_laneDown_down (hu : (s.lane l).up = false) : exec (.laneDown l) s = .next s := by
  rw [exec_laneDown, execLaneDown, if_neg (by simp [hu])]

end Lanes

/-! ### A message that is not used (R370) -/

section Unused
variable {m : LaneMsg} {s : State} {master : Option (Fin 16)} {hops : Fin 8} {st : BitVec 16} {chosen step : Bool} {t t3 : DWord}
  {dst : Fin 16} {w : QWord}

/-- No message arrives on a lane that is not up, or ISOLATED. -/
theorem exec_message_notCarried (hc : s.carries m.lane.val = false) :
    exec (.hello m master hops st chosen) s = .next s ∧ exec (.time m t step) s = .next s ∧ exec (.delayReq m) s = .next s ∧
      exec (.delayResp m t t3) s = .next s ∧ exec (.action m dst w) s = .next s := by
  have hn : (!s.carries m.lane.val) = true := by simp [hc]
  exact ⟨if_pos hn, if_pos hn, if_pos hn, if_pos hn, if_pos hn⟩

variable (hc : s.carries m.lane.val = true)
include hc

theorem exec_message_badCrc (hok : m.ok = false) :
    exec (.hello m master hops st chosen) s = .next (s.badCrc m.lane) ∧ exec (.time m t step) s = .next (s.badCrc m.lane) ∧
      exec (.delayReq m) s = .next (s.badCrc m.lane) ∧ exec (.delayResp m t t3) s = .next (s.badCrc m.lane) ∧
      exec (.action m dst w) s = .next (s.badCrc m.lane) := by
  simp [exec_hello, execHello, exec_time, execTime, exec_delayReq, execDelayReq, exec_delayResp, execDelayResp, exec_action,
    execAction, hc, hok]

end Unused

section Messages
variable {m : LaneMsg} {s : State} (hc : s.carries m.lane.val = true) (hok : m.ok = true)
include hc hok

/-! ### HELLO (R368) -/

section Hello
variable {master : Option (Fin 16)} {hops : Fin 8} {st : BitVec 16} {chosen : Bool}

theorem exec_hello_own (hs : m.src.val = s.station) :
    exec (.hello m master hops st chosen) s = .next ((s.raise (150 + m.lane.val) 8).loseLane m.lane.val 6) := by
  simp [exec_hello, execHello, hc, hok, hs]

theorem exec_hello_neighbour (hs : m.src.val ≠ s.station) : exec (.hello m master hops st chosen) s =
    .next (((s.setLane m.lane.val ({ s.lane m.lane.val with
      master := master.map (·.val), hops := hops, reach := st.toNat ||| 2 ^ m.src.val, chosen := chosen } : Lane)).setF
        (Reg.NET_SL_STAT m.lane.val) 7 3 (m.src.val * 2 + 1)).updateTree true) := by
  simp [exec_hello, execHello, hc, hok, hs]

end Hello

/-! ### TIME and the delay (R28, R296, R372) -/

/-- TIME of the upstream lane of a slave in MODE SYNC starts device time, steps it, or disciplines it. -/
theorem exec_time_upstream {t now : DWord} {step : Bool} (hl : s.laneState m.lane.val = 3) (ho : s.otherMaster m.lane.val = false)
    (hm : s.tbMode = 2) (hnow : now = t + units (s.laneDelay m.lane.val)) :
    exec (.time m t step) s = .next (if s.timeRuns then (if step then s.followStep now else s.servo (tdiff now s.time))
      else (s.startTime now).servo 0) := by
  subst hnow
  have htree : s.treeLane m.lane.val = true := by simp [State.treeLane, hl]
  cases hr : s.timeRuns <;> cases step <;> simp [exec_time, execTime, hc, hok, htree, ho, hm, hl, hr]

/-- A DELAY_REQ is answered with its arrival and the answer's departure. -/
theorem exec_delayReq_answered {n : Nat} (hn : n = tabGet (fun _ => 0) s.net.slSeq 3) : exec (.delayReq m) s =
    .next { s with net := { s.net with
      slSeq := tabPut (fun _ => 0) s.net.slSeq 3 ((n + 1) % 65536),
      slSent := s.net.slSent ++ [(m.lane.val, { typ := 3, src := s.station, dst := 0, seq := n, spec := 0, payload := [s.time, s.time] })] } } := by
  simp [exec_delayReq, execDelayReq, State.newMsg, State.sendMsg, hc, hok, hn]

theorem exec_delayResp_measured {t1 t2 t3 : DWord} (h : (s.lane m.lane.val).reqAt = some t1) :
    exec (.delayResp m t2 t3) s = .next ((s.setLane m.lane.val { s.lane m.lane.val with reqAt := none }).setR (Reg.NET_SL_DELAY m.lane.val)
      (BitVec.ofNat 32 ((tdiff s.time t1 - tdiff t3 t2).toNat * 1000 / 128 / 5 * 5))) := by
  simp [exec_delayResp, execDelayResp, hc, hok, h]

/-! ### ACTION (R79, R373) -/

section Action
variable {dst : Fin 16} {w : QWord}

theorem exec_action_offTree (ht : s.treeLane m.lane.val = false) : exec (.action m dst w) s = .next s := by
  simp [exec_action, execAction, hc, hok, ht]

section Tree
variable (ht : s.treeLane m.lane.val = true)
include ht

/-- An action for this station is posted where port 82 has room. -/
theorem exec_action_own (hd : dst.val = s.station) :
    exec (.action m dst w) s = .next (if s.fifoRoom 82 then s.postInner (decodeRec w) m.src else s) := by
  cases hf : s.fifoRoom 82 <;> simp [exec_action, execAction, hc, hok, ht, hd, hf]

variable (hd : dst.val ≠ s.station)
include hd

/-- One for another station goes on along another tree lane. -/
theorem exec_action_forwarded {k : Nat} (hr : s.routeLane dst = some k) (hk : k ≠ m.lane.val) (hkt : s.treeLane k = true) :
    exec (.action m dst w) s = .next (s.sendMsg k
      { typ := 5, src := m.src, dst := dst, seq := m.seq.toNat, payload := [BitVec.ofNat 64 (w.toNat >>> 64), BitVec.ofNat 64 w.toNat] }) := by
  simp [exec_action, execAction, hc, hok, ht, hd, hr, hk, hkt]

/-- Without one it is lost. -/
theorem exec_action_noRoute (h : ∀ k, s.routeLane dst = some k → k = m.lane.val ∨ s.treeLane k = false) :
    exec (.action m dst w) s = .next s := by
  cases hr : s.routeLane dst with
  | none => simp [exec_action, execAction, hc, hok, ht, hd, hr]
  | some k =>
    have hk : ¬ (k ≠ m.lane.val ∧ s.treeLane k = true) := by rcases h k hr with h | h <;> simp [h]
    simp [exec_action, execAction, hc, hok, ht, hd, hr, hk]

end Tree
end Action
end Messages

/-! ### Timers (R372) -/

section Timers
variable {s : State} {l : Fin 8}

theorem exec_delayMeasureTimer_asks (ht : s.treeLane l = true) (hc : s.carries l = true) :
    exec (.delayMeasureTimer l) s = .next (s.askDelay l) := by
  rw [exec_delayMeasureTimer, execDelayMeasureTimer, if_pos (by simp [ht, hc])]

theorem exec_delayMeasureTimer_not (h : s.treeLane l = false ∨ s.carries l = false) : exec (.delayMeasureTimer l) s = .next s := by
  rw [exec_delayMeasureTimer, execDelayMeasureTimer, if_neg (by rcases h with h | h <;> simp [h])]

theorem exec_timeSendTimer_sends (hr : s.timeRuns = true)
    (h : s.isMaster = true ∨ (s.tbMode = 2 ∧ s.getB Reg.CLK_TB_STAT 2 = true)) : exec .timeSendTimer s = .next (s.sendTime 0) := by
  rw [exec_timeSendTimer, execTimeSendTimer, if_pos (by simpa [hr] using h)]

theorem exec_timeSendTimer_not (h : s.timeRuns = false ∨ (s.isMaster = false ∧ (s.tbMode ≠ 2 ∨ s.getB Reg.CLK_TB_STAT 2 = false))) :
    exec .timeSendTimer s = .next s := by
  rw [exec_timeSendTimer, execTimeSendTimer, if_neg]
  rcases h with h | ⟨hm, h | h⟩
  · simp [h]
  · simp [hm, h]
  · simp [hm, h]

/-! ### Holdover (R25) -/

/-- Holdover does not begin while sync messages come in time, nor twice. -/
theorem exec_holdover_not (h : s.syncLost = false ∨ s.getB Reg.CLK_TB_STAT 3 = true) : exec .holdover s = .next s := by
  rw [exec_holdover, execHoldover, if_pos h]

section Lost
variable (hl : s.syncLost = true) (h3 : s.getB Reg.CLK_TB_STAT 3 = false)
include hl h3

theorem exec_holdover_sync (hm : s.tbMode = 2) (hs : s.isMaster = false) : exec .holdover s = .next s.enterHoldover := by
  rw [exec_holdover, execHoldover, if_neg (by simp [hl, h3]), if_pos ⟨hm, hs⟩]

theorem exec_holdover_gptp (hm : s.tbMode = 1) : exec .holdover s = .next (s.enterHoldover.raise 146 4) := by
  rw [exec_holdover, execHoldover, if_neg (by simp [hl, h3]), if_neg (by omega), if_pos hm]

/-- A master, and MODE FREE, have no source to lose. -/
theorem exec_holdover_noSource (h : s.tbMode = 2 ∧ s.isMaster = true ∨ s.tbMode ≠ 1 ∧ s.tbMode ≠ 2) : exec .holdover s = .next s := by
  rw [exec_holdover, execHoldover, if_neg (by simp [hl, h3])]
  rcases h with ⟨hm, hs⟩ | ⟨h1, h2⟩
  · rw [if_neg (by simp [hs]), if_neg (by omega)]
  · rw [if_neg (by simp [h2]), if_neg h1]

end Lost
end Timers

/-- Settles O42: each clause is one case of a lane's, a message's or a timer's answer above. -/
theorem syncLinks : Obligations.SyncLinks := by
  refine ⟨fun _ _ => exec_laneUp_trained, fun _ _ h => ⟨exec_laneUp_up h, exec_laneDown_up h⟩, fun _ _ => exec_laneDown_down,
    fun _ _ _ _ _ _ _ _ _ _ _ hc hok u hu => ?_, fun _ _ _ _ _ _ hc hok => exec_hello_own hc hok,
    fun _ _ _ _ _ _ hc hok => exec_hello_neighbour hc hok,
    fun m s t step hc hok hl ho hm now hnow => ?_,
    fun _ _ _ hc hok => exec_delayReq_answered hc hok, fun _ _ _ _ _ hc hok => exec_delayResp_measured hc hok,
    fun _ _ => ⟨exec_delayMeasureTimer_asks, exec_delayMeasureTimer_not⟩,
    fun _ => exec_timeSendTimer_sends, fun _ => exec_timeSendTimer_not,
    fun _ _ _ _ hc hok ht hd hf => ?_, fun _ _ _ _ _ hc hok ht hd => exec_action_forwarded hc hok ht hd, fun m dst w s hc hok h => ?_,
    fun _ _ _ _ _ _ _ _ _ _ _ => exec_message_notCarried, fun _ => rfl,
    fun _ hl h3 => ⟨exec_holdover_sync hl h3, exec_holdover_gptp hl h3, exec_holdover_noSource hl h3⟩,
    fun _ => exec_holdover_not, fun _ => State.enterHoldover_of_not⟩
  · subst hu
    rw [← State.badCrc]
    exact exec_message_badCrc hc hok
  · refine ⟨fun hr => ?_, fun hr => ?_, fun hr => ?_⟩
    · rw [exec_time_upstream hc hok hl ho hm hnow, if_neg (by simp [hr])]
    · rw [exec_time_upstream hc hok hl ho hm hnow, if_pos hr, if_pos rfl, State.followStep]
    · rw [exec_time_upstream hc hok hl ho hm hnow, if_pos hr, if_neg (by decide)]
  · rw [exec_action_own hc hok ht hd, if_pos hf]
  · cases ht : s.treeLane m.lane.val with
    | false => exact exec_action_offTree hc hok ht
    | true =>
      rcases h with h | ⟨hd, hf⟩ | ⟨hd, hk⟩
      · simp [ht] at h
      · rw [exec_action_own hc hok ht hd, if_neg (by simp [hf])]
      · exact exec_action_noRoute hc hok ht hd hk

end Sys2Proof.Machine
end

section
/-!
PROOF. What a tick, a pass of the dispatch and an insertion do to the calendar (R51, R55, R56, R211, R296), case by case, and the
obligation TicksAndTheCalendar.
-/
namespace Sys2Proof.Machine

/-! ### The tick (R55, R296) -/

section Tick
variable {s : State}

theorem exec_schedulerTick (s : State) : exec .schedulerTick s = execSchedulerTick s := rfl

theorem exec_schedulerTick_running (h : s.timeRuns = true) : exec .schedulerTick s = .next
    ({ s with time := s.time + 160, act := { s.act with inserted := 0 } } : State).dispatchTick.remoteReports.serveMails :=
  if_pos h

theorem exec_schedulerTick_stopped (h : s.timeRuns = false) :
    exec .schedulerTick s = .next ({ s with act := { s.act with inserted := 0 } } : State).serveMails :=
  if_neg (by simp [h])

end Tick

/-! ### A pass of the dispatch (R55, R56) -/

/-- What a pass does with the first entry: it keeps it and goes on, in some state, with the same slots; or the entry, which is then
one of the pass's own, leaves the calendar, and the pass goes on with no more slots. -/
theorem dispatch_cons (front : Bool) (e : CalEntry) (l : List CalEntry) (n : Nat) (s : State) :
    (∃ t, (dispatch front (e :: l) n s).2 = (e :: (dispatch front l n t).2.1, (dispatch front l n t).2.2)) ∨
    ((e.act.kind == 6) = front ∧ ∃ m t, m ≤ n ∧ dispatch front (e :: l) n s = dispatch front l m t) := by
  rw [dispatch]
  dsimp only
  split_ifs with hstay
  · exact .inl ⟨_, rfl⟩
  all_goals
    have hown : (e.act.kind == 6) = front := by_contra fun h => hstay (.inr (.inl h))
  · exact .inr ⟨hown, _, _, Nat.sub_le n 1, rfl⟩
  · exact .inl ⟨_, rfl⟩
  · exact .inr ⟨hown, _, _, le_refl n, rfl⟩
  · exact .inr ⟨hown, _, _, Nat.sub_le n 1, rfl⟩
  · exact .inr ⟨hown, _, _, Nat.sub_le n 1, rfl⟩

/-- What stays keeps its order. -/
theorem dispatch_sublist (front : Bool) (l : List CalEntry) (n : Nat) (s : State) : (dispatch front l n s).2.1.Sublist l := by
  induction l generalizing n s with
  | nil => exact List.Sublist.slnil
  | cons e l ih =>
    rcases dispatch_cons front e l n s with ⟨t, h⟩ | ⟨-, m, t, -, h⟩
    · rw [h]
      exact (ih n t).cons_cons e
    · rw [h]
      exact (ih m t).cons e

/-- A pass gives no slot back. -/
theorem dispatch_slots_le (front : Bool) (l : List CalEntry) (n : Nat) (s : State) : (dispatch front l n s).2.2 ≤ n := by
  induction l generalizing n s with
  | nil => exact le_refl n
  | cons e l ih =>
    rcases dispatch_cons front e l n s with ⟨t, h⟩ | ⟨-, m, t, hm, h⟩
    · rw [h]
      exact ih n t
    · rw [h]
      exact (ih m t).trans hm

/-- The Fronts' pass leaves all other entries, the others' pass the Fronts. -/
theorem dispatch_keeps_other (front : Bool) (l : List CalEntry) (n : Nat) (s : State) :
    (dispatch front l n s).2.1.filter (fun e => (e.act.kind == 6) != front) = l.filter (fun e => (e.act.kind == 6) != front) := by
  induction l generalizing n s with
  | nil => rfl
  | cons e l ih =>
    rcases dispatch_cons front e l n s with ⟨t, h⟩ | ⟨hown, m, t, -, h⟩
    · rw [h, List.filter_cons, List.filter_cons, ih n t]
    · rw [h, ih m t, List.filter_cons_of_neg (by simp [hown])]

/-! ### Insertion (R55) -/

/-- A record enters before the first entry due after it, so behind those due at the same time. -/
theorem calInsert_split (l : List CalEntry) (e : CalEntry) : ∃ a b, l = a ++ b ∧ calInsert l e = a ++ e :: b ∧
    (∀ x ∈ a, before e.act.due x.act.due = false) ∧ (∀ x, b.head? = some x → before e.act.due x.act.due = true) := by
  induction l with
  | nil => exact ⟨[], [], rfl, rfl, by simp, by simp⟩
  | cons y l ih =>
    cases hy : before e.act.due y.act.due with
    | true => exact ⟨[], y :: l, rfl, by simp [calInsert, hy], by simp, by simpa using hy⟩
    | false =>
      obtain ⟨a, b, rfl, hins, ha, hb⟩ := ih
      exact ⟨y :: a, b, rfl, by simp [calInsert, hy, hins], by simpa [hy] using ha, hb⟩

/-- Settles O10: each clause is what the tick, one pass of the dispatch, by induction on the calendar, or an insertion does. -/
theorem ticksAndTheCalendar : Obligations.TicksAndTheCalendar :=
  ⟨⟨fun _ => exec_schedulerTick_running, fun _ => exec_schedulerTick_stopped⟩,
   fun front l n s => ⟨dispatch_sublist front l n s, dispatch_slots_le front l n s, dispatch_keeps_other front l n s⟩,
   calInsert_split⟩

end Sys2Proof.Machine
end

section
/-!
PROOF. What the service of a port's FIFO, the check of a record, a pre-wake request and a cancel do (R51, R52, R63, R65, R81, R82),
case by case, and the obligation PostsPrewakesAndCancels.
-/
namespace Sys2Proof.Machine

/-! ### The service of a FIFO (R51) -/

section Service
variable {s : State} {p : Nat}

theorem exec_postAccept (s : State) : exec .postAccept s = execPostAccept s := rfl

theorem exec_postAccept_idle (h : s.nextPort = none ∨ ∃ p, s.nextPort = some p ∧ s.fifo p = []) :
    exec .postAccept s = .next s := by
  rcases h with hp | ⟨p, hp, hf⟩
  · simp only [exec_postAccept, execPostAccept, hp]
  · simp only [exec_postAccept, execPostAccept, hp, hf]

/-- The record at the head leaves the FIFO and is taken; what its port then has waiting goes on. -/
theorem exec_postAccept_served {r : PortRec} {l : List PortRec} {u : State} (hp : s.nextPort = some p) (hf : s.fifo p = r :: l)
    (hu : u = (((s.setFifo p l).portServed p).takeRecord p r).1.postsDoneOf r.owner) : exec .postAccept s =
      .next (if 64 ≤ p ∧ p < 80 then u.servePosts (p - 64) u.fab.posts.length else if p = 80 then u.offerOn else u) := by
  simp only [exec_postAccept, execPostAccept, hp, hf, hu]

end Service

/-! ### The check of a record (R52) -/

section Status
variable {s : State} {p : Nat} {a : ActRec}

theorem State.postStatus_notThawed (ht : s.thawed = false) : s.postStatus p a = 9 := by
  simp [State.postStatus, ht]

variable (ht : s.thawed = true)
include ht

theorem State.postStatus_reservedKind (hk : 9 ≤ a.kind) : s.postStatus p a = 3 := by
  have h3 : recStatus p a = 3 := by simp [recStatus, hk]
  simp [State.postStatus, ht, h3]

variable (h0 : recStatus p a = 0)
include h0

theorem State.postStatus_tooFar (hd : 2 ^ 62 < tdiff a.due s.time) : s.postStatus p a = 8 := by
  rw [State.postStatus, if_neg (by simp [ht]), if_neg (by simp [h0]), if_pos hd]

theorem State.postStatus_overQuota (hd : tdiff a.due s.time ≤ 2 ^ 62) (hq : s.quota p ≤ s.used p) : s.postStatus p a = 2 := by
  rw [State.postStatus, if_neg (by simp [ht]), if_neg (by simp [h0]), if_neg (Int.not_lt.2 hd), if_pos hq]

end Status

/-! ### Pre-wakes and cancels (R63, R65, R81) -/

section Cancel
variable {s : State} {w : Word}

theorem exec_prewakeRequest (s : State) : exec .prewakeRequest s = execPrewakeRequest s := rfl

theorem exec_prewakeRequest_due {k d : Nat} (h : s.firstPrewake = some (k, d)) :
    exec .prewakeRequest s = .next (s.sendPrewake k d) := by
  simp only [exec_prewakeRequest, execPrewakeRequest, h]

theorem exec_actCancel (v : Via) (s : State) : exec (.actCancel v) s = execActCancel v s := rfl

theorem exec_actCancel_noGo (h : bitOf w 0 = false) :
    exec (.actCancel (.reg w)) s = .next (s.setR Reg.ACT_CANCEL (w &&& 0xFFFFFFF8)) := by
  rw [exec_actCancel, execActCancel, State.writeActCancel, if_neg (by simp [h])]

theorem exec_actCancel_go (h : bitOf w 0 = true) :
    exec (.actCancel (.reg w)) s = .next ((s.setR Reg.ACT_CANCEL (w &&& 0xFFFFFFF8)).hostCancel w).1 := by
  rw [exec_actCancel, execActCancel, State.writeActCancel, if_pos h]

theorem exec_actCancel_cmd {c : CmdRef} {x : Command} (h : s.turn c 2 1 = some x) : exec (.actCancel (.cmd c)) s =
    .next ((s.hostCancel (BitVec.ofNat 32 (beNat x.payload))).1.replyTo x csOK true
      (beBytes 2 (s.hostCancel (BitVec.ofNat 32 (beNat x.payload))).2)) := by
  simp only [exec_actCancel, execActCancel, h]

/-- Wakes requested again leave the calendar and the action units. -/
theorem State.refreshPrewakes_act (l : List Nat) (s : State) : (l.foldl (fun s d => s.refreshPrewake d) s).act = s.act := by
  induction l generalizing s with
  | nil => rfl
  | cons d l ih => rw [List.foldl_cons, ih, State.refreshPrewake_act]

/-- A withdrawal takes from the calendar what it selects, and that alone. -/
theorem State.withdraw_cal (s : State) (out : CalEntry → Bool) :
    (s.withdraw out).act.cal = s.act.cal.filter (fun e => !out e) := by
  rw [State.withdraw, State.refreshPrewakes_act]

theorem State.hostCancel_cal (s : State) (w : Word) : (s.hostCancel w).1.act.cal = s.act.cal.filter (fun e =>
    !cancelMatch (fld w 23 16) (fld w 31 24) (fld w 7 4) (fld w 14 8) (bitOf w 3) (bitOf w 15) e) := by
  rw [State.hostCancel, State.setF_act]
  exact s.withdraw_cal _

/-- The count of a cancel is that of the entries removed. -/
theorem State.hostCancel_count (s : State) (w : Word) :
    (s.hostCancel w).2 + (s.hostCancel w).1.act.cal.length = s.act.cal.length := by
  rw [State.hostCancel_cal, List.length_eq_length_filter_add (l := s.act.cal) (fun e =>
    cancelMatch (fld w 23 16) (fld w 31 24) (fld w 7 4) (fld w 14 8) (bitOf w 3) (bitOf w 15) e)]
  rfl

/-- No cancel matches a Front entry. -/
theorem cancelMatch_front {e : CalEntry} (tag mask kind port : Nat) (ka pa : Bool) (h : e.act.kind = 6) :
    cancelMatch tag mask kind port ka pa e = false := by
  simp [cancelMatch, h]

end Cancel

/-- Settles O11: each clause is one case of the service of a FIFO, of the check of a record or of a cancel. -/
theorem postsPrewakesAndCancels : Obligations.PostsPrewakesAndCancels := by
  refine ⟨⟨fun s p r l hp hf => ?_, fun _ => exec_postAccept_idle, fun _ _ => ⟨rfl, rfl⟩, fun _ _ _ => State.postStatus_notThawed,
      fun _ _ _ => State.postStatus_reservedKind, fun _ _ _ => State.postStatus_tooFar, fun _ _ _ => State.postStatus_overQuota⟩,
    fun _ _ _ => exec_prewakeRequest_due, fun _ _ => exec_actCancel_noGo, fun _ _ => exec_actCancel_go,
    fun _ _ _ => exec_actCancel_cmd, fun s w => ⟨s.hostCancel_cal w, s.hostCancel_count w⟩,
    fun tag mask kind port ka pa _ => cancelMatch_front tag mask kind port ka pa⟩
  refine ⟨_, _, _, exec_postAccept_served hp hf rfl, rfl, rfl, fun h1 h2 => if_pos ⟨h1, h2⟩, fun h => ?_, fun h => ?_⟩
  · rw [if_neg (by omega), if_pos h]
    rfl
  · rw [if_neg (by omega), if_neg (by omega)]
    rfl

end Sys2Proof.Machine
end

section
/-!
PROOF. What a launch cell does at the instants of its edges (R48, R59, R84), case by case, and the obligation LaunchCells.
-/
namespace Sys2Proof.Machine

/-! ### What runs for each command -/

theorem exec_driveLow (p : Fin 1152) (s : State) : exec (.driveLow p) s = .next (s.launchStep 0 p) := rfl
theorem exec_driveHigh (p : Fin 1152) (s : State) : exec (.driveHigh p) s = .next (s.launchStep 1 p) := rfl
theorem exec_toggle (p : Fin 1152) (s : State) : exec (.toggle p) s = .next (s.launchStep 2 p) := rfl
theorem exec_release (p : Fin 1152) (s : State) : exec (.release p) s = .next (s.launchStep 3 p) := rfl
theorem exec_pulseHigh (p : Fin 1152) (s : State) : exec (.pulseHigh p) s = .next (s.launchStep 4 p) := rfl
theorem exec_pulseLow (p : Fin 1152) (s : State) : exec (.pulseLow p) s = .next (s.launchStep 5 p) := rfl
theorem exec_pulseTrailingEdge (p : Fin 1152) (s : State) : exec (.pulseTrailingEdge p) s = execPulseTrailingEdge p s := rfl

/-! ### Leading edges (R48, R59) -/

section Leading
variable {s : State} {p : Nat} {e : LaunchEntry}

/-- The leading edge placed next, at its instant, with no trailing edge and no Front before it. -/
theorem State.launchStep_due (hn : (s.cell p).next = some e) (hr : s.reached e.due = true) (hf : s.afterFront e.due = false)
    (hl : (s.cell p).leadFirst e = true) : s.launchStep e.op p = (s.setCell p ((s.cell p).launch e)).noteHold p := by
  simp [State.launchStep, hn, hr, hf, hl]

end Leading

section Launch
variable {c : LaunchCell} {e : LaunchEntry}

theorem LaunchCell.launch_low (h : e.op = 0) : c.launch e = { queue := c.queue.erase e, out := false, drive := true } := by
  simp only [LaunchCell.launch, h]

theorem LaunchCell.launch_high (h : e.op = 1) : c.launch e = { queue := c.queue.erase e, out := true, drive := true } := by
  simp only [LaunchCell.launch, h]

theorem LaunchCell.launch_toggle (h : e.op = 2) : c.launch e = { queue := c.queue.erase e, out := !c.out, drive := true } := by
  simp only [LaunchCell.launch, h]

theorem LaunchCell.launch_release (h : e.op = 3) : c.launch e = { queue := c.queue.erase e, out := c.out, drive := false } := by
  simp only [LaunchCell.launch, h]

theorem LaunchCell.launch_pulseHigh (h : e.op = 4) :
    c.launch e = { queue := c.queue.replace e { e with lead := some e.due }, out := true, drive := true } := by
  simp [LaunchCell.launch, h]

theorem LaunchCell.launch_pulseLow (h : e.op = 5) :
    c.launch e = { queue := c.queue.replace e { e with lead := some e.due }, out := false, drive := true } := by
  simp [LaunchCell.launch, h]

end Launch

/-! ### Trailing edges (R59) -/

/-- The earliest trailing edge, at its instant, with no leading edge and no Front before it. -/
theorem exec_pulseTrailingEdge_due {p : Fin 1152} {s : State} {e : LaunchEntry} {t : DWord}
    (he : firstTrail (s.cell p).queue = some e) (ht : e.trail = some t) (hr : s.reached t = true) (hf : s.afterFront t = false)
    (hl : ∀ x, (s.cell p).next = some x → before x.due t = false) : exec (.pulseTrailingEdge p) s =
      .next ((s.setCell p { queue := (s.cell p).queue.erase e, out := e.op == 5, drive := (s.cell p).drive }).noteHold p) := by
  cases hn : (s.cell p).next with
  | none => simp [exec_pulseTrailingEdge, execPulseTrailingEdge, he, ht, hr, hf, hn]
  | some x => simp [exec_pulseTrailingEdge, execPulseTrailingEdge, he, ht, hr, hf, hn, hl x hn]

/-- Settles O12: the leading edge is placed, and the cell is left as its operation leaves it; so is the trailing edge. -/
theorem launchCells : Obligations.LaunchCells := by
  refine ⟨fun p s e hn hr hf hl => ?_, fun _ _ _ _ => exec_pulseTrailingEdge_due⟩
  have hstep := State.launchStep_due hn hr hf hl
  refine ⟨fun h => ?_, fun h => ?_, fun h => ?_, fun h => ?_, fun h => ?_, fun h => ?_⟩
  · rw [exec_driveLow, ← h, hstep, LaunchCell.launch_low h]
  · rw [exec_driveHigh, ← h, hstep, LaunchCell.launch_high h]
  · rw [exec_toggle, ← h, hstep, LaunchCell.launch_toggle h]
  · rw [exec_release, ← h, hstep, LaunchCell.launch_release h]
  · rw [exec_pulseHigh, ← h, hstep, LaunchCell.launch_pulseHigh h]
  · rw [exec_pulseLow, ← h, hstep, LaunchCell.launch_pulseLow h]

end Sys2Proof.Machine
end

section
/-!
PROOF. What a capture cell, a capture ring and a counter of kind 0x7 do (R48, R73–R77), case by case, and the obligation
CaptureCellsAndCounters.
-/
namespace Sys2Proof.Machine

/-! ### What runs for each command -/

theorem exec_disarm (p : Fin 1152) (s : State) : exec (.disarm p) s = .next (s.armStep 0 p (fun _ => none)) := rfl
theorem exec_armRise (p : Fin 1152) (s : State) : exec (.armRise p) s = .next (s.armStep 1 p (armEdges true false)) := rfl
theorem exec_armFall (p : Fin 1152) (s : State) : exec (.armFall p) s = .next (s.armStep 2 p (armEdges false true)) := rfl
theorem exec_armBoth (p : Fin 1152) (s : State) : exec (.armBoth p) s = .next (s.armStep 3 p (armEdges true true)) := rfl
theorem exec_winRise (p : Fin 1152) (s : State) : exec (.winRise p) s = .next (s.armStep 5 p (armWindow true false)) := rfl
theorem exec_winFall (p : Fin 1152) (s : State) : exec (.winFall p) s = .next (s.armStep 6 p (armWindow false true)) := rfl
theorem exec_winBoth (p : Fin 1152) (s : State) : exec (.winBoth p) s = .next (s.armStep 7 p (armWindow true true)) := rfl
theorem exec_captureEdge (p : Fin 1152) (ed : Edge) (q : Fin 40) (s : State) :
    exec (.captureEdge p ed q) s = execCaptureEdge p ed q s := rfl
theorem exec_windowClose (p : Fin 1152) (s : State) : exec (.windowClose p) s = execWindowClose p s := rfl
theorem exec_capRead (v : ReadVia) (s : State) : exec (.capRead v) s = execCapRead v s := rfl
theorem exec_raise (n : Fin 16) (s : State) : exec (.raise n) s = .next (s.counterStep 0 n (fun c _ => c)) := rfl
theorem exec_add (n : Fin 16) (s : State) : exec (.add n) s = .next (s.counterStep 1 n (fun c d => c + d)) := rfl
theorem exec_countDown (n : Fin 16) (s : State) :
    exec (.countDown n) s = .next (s.counterStep 2 n (fun c d => if c.toNat ≤ d.toNat then 0 else c - d)) := rfl
theorem exec_load (n : Fin 16) (s : State) : exec (.load n) s = .next (s.counterStep 3 n (fun _ d => d)) := rfl

/-! ### Arming (R74) -/

/-- The action that waits replaces the arming in force, and leaves the delivered ones. -/
theorem State.armStep_due {s : State} {op p : Nat} {d : Delivered} (arm : Delivered → Option Arming) (h : s.due? 3 p op = some d) :
    s.armStep op p arm = (s.taken d).setCap p { s.capCell p with arm := arm d } := by
  simp only [State.armStep, h]

/-! ### Edges and windows (R73–R75) -/

section Edges
variable {p : Fin 1152} {s : State} {a : Arming}

section Taken
variable {ed : Edge} {q : Fin 40} (ha : (s.capCell p).arm = some a)
  (ht : a.takes (ed == .rising) (s.time + units (4 * q.val)) = true)
include ha ht

/-- An edge that the arming takes, and that follows none by less than 2.5 ns, is recorded. -/
theorem exec_captureEdge_records (hl : ∀ l, (s.capCell p).lastEdge = some l → 160 ≤ tdiff (s.time + units (4 * q.val)) l) :
    exec (.captureEdge p ed q) s = .next ((s.setCap p
      { arm := a.after, lastEdge := some (s.time + units (4 * q.val)), ovf := false }).ringWrite
        a.ring (s.time + units (4 * q.val)) 1 p (if ed = .rising then 1 else 2) (s.capCell p).ovf a.late a.tag) := by
  cases he : (s.capCell p).lastEdge with
  | none => simp [exec_captureEdge, execCaptureEdge, ha, ht, he]
  | some l => simp [exec_captureEdge, execCaptureEdge, ha, ht, he, unitsPerTick, Int.not_lt.2 (hl l he)]

/-- One that does only marks the next record. -/
theorem exec_captureEdge_tooSoon {l : DWord} (he : (s.capCell p).lastEdge = some l)
    (hl : tdiff (s.time + units (4 * q.val)) l < 160) :
    exec (.captureEdge p ed q) s = .next (s.setCap p { s.capCell p with ovf := true }) := by
  simp [exec_captureEdge, execCaptureEdge, ha, ht, he, unitsPerTick, hl]

end Taken

theorem exec_windowClose_missed {t : DWord} (ha : (s.capCell p).arm = some a) (hc : a.close = some t) (hr : s.reached t = true) :
    exec (.windowClose p) s = .next ((s.setCap p { s.capCell p with arm := none, ovf := false }).ringWrite
      a.ring t 2 p 0 (s.capCell p).ovf a.late a.tag) := by
  simp only [exec_windowClose, execWindowClose, ha, hc, if_pos hr]

end Edges

/-! ### CAP_READ (R77) -/

theorem exec_capRead_cmd {c : CmdRef} {s : State} {x : Command} {r n : Nat} (h : s.turn c 2 4 = some x) (hr : r = beAt x.payload 0 1)
    (hn : n = beAt x.payload 1 1) (hr4 : r < 4) (h1 : 1 ≤ n) (h64 : n ≤ 64) : exec (.capRead (.cmd c)) s =
      .next ((s.setRing r { s.ring r with recs := (s.ring r).recs.drop n }).replyTo x csOK true
        (((s.ring r).recs.take n).flatMap (fun q => beBytes 16 q.toNat))) := by
  subst hr hn
  simp only [exec_capRead, execCapRead, h]
  exact if_neg (by omega)

/-! ### Counters (R48) -/

section Counters
variable {s : State} {n : Nat} {d : Delivered} {op : Nat} {f : Word → Word → Word}

/-- The action that waits at a counter gives it its new value; RAISE, and COUNT_DOWN from another value to 0, raise EV123. -/
theorem State.counterStep_due (h : s.due? 7 n op = some d) : s.counterStep op n f =
    (if op = 0 ∨ (op = 2 ∧ s.getR (Reg.ACT_CNT n) ≠ 0 ∧ f (s.getR (Reg.ACT_CNT n)) d.act.data = 0)
      then ((s.taken d).setR (Reg.ACT_CNT n) (f (s.getR (Reg.ACT_CNT n)) d.act.data)).raise 123 (2 ^ n)
      else (s.taken d).setR (Reg.ACT_CNT n) (f (s.getR (Reg.ACT_CNT n)) d.act.data)) := by
  simp only [State.counterStep, h]

theorem exec_raise_due {n : Fin 16} (h : s.due? 7 n 0 = some d) :
    exec (.raise n) s = .next (((s.taken d).setR (Reg.ACT_CNT n) (s.getR (Reg.ACT_CNT n))).raise 123 (2 ^ n.val)) := by
  rw [exec_raise, State.counterStep_due h, if_pos (.inl rfl)]

theorem exec_add_due {n : Fin 16} (h : s.due? 7 n 1 = some d) :
    exec (.add n) s = .next ((s.taken d).setR (Reg.ACT_CNT n) (s.getR (Reg.ACT_CNT n) + d.act.data)) := by
  rw [exec_add, State.counterStep_due h, if_neg (by simp)]

theorem exec_countDown_ends {n : Fin 16} (h : s.due? 7 n 2 = some d) (hle : (s.getR (Reg.ACT_CNT n)).toNat ≤ d.act.data.toNat)
    (h0 : s.getR (Reg.ACT_CNT n) ≠ 0) :
    exec (.countDown n) s = .next (((s.taken d).setR (Reg.ACT_CNT n) 0).raise 123 (2 ^ n.val)) := by
  rw [exec_countDown, State.counterStep_due h, if_pos (.inr ⟨rfl, h0, if_pos hle⟩), if_pos hle]

theorem exec_countDown_goesOn {n : Fin 16} (h : s.due? 7 n 2 = some d) (hlt : d.act.data.toNat < (s.getR (Reg.ACT_CNT n)).toNat) :
    exec (.countDown n) s = .next ((s.taken d).setR (Reg.ACT_CNT n) (s.getR (Reg.ACT_CNT n) - d.act.data)) := by
  have hne : s.getR (Reg.ACT_CNT n) - d.act.data ≠ 0 := by bv_omega
  rw [exec_countDown, State.counterStep_due h, if_neg (Nat.not_le.2 hlt), if_neg (by simpa using fun _ => hne)]

theorem exec_load_due {n : Fin 16} (h : s.due? 7 n 3 = some d) :
    exec (.load n) s = .next ((s.taken d).setR (Reg.ACT_CNT n) d.act.data) := by
  rw [exec_load, State.counterStep_due h, if_neg (by simp)]

end Counters

/-- Settles O13: each clause is one case of an arming, an edge, a window, CAP_READ or a counter. -/
theorem captureCellsAndCounters : Obligations.CaptureCellsAndCounters := by
  refine ⟨fun p s d => ⟨fun h => ?_, fun h => ?_, fun h => ?_, fun h => ?_, fun h => ?_, fun h => ?_, fun h => ?_⟩,
    ⟨fun _ _ _ _ _ => exec_captureEdge_records, fun _ _ _ _ _ _ ha ht he => exec_captureEdge_tooSoon ha ht he,
     fun _ _ _ _ => exec_windowClose_missed, fun _ _ => rfl, fun _ _ _ h => exec_capRead_cmd h rfl rfl⟩,
    fun _ _ _ => ⟨exec_raise_due, exec_add_due, exec_countDown_ends, exec_countDown_goesOn, exec_load_due⟩⟩
  · rw [exec_disarm, State.armStep_due _ h]
  · rw [exec_armRise, State.armStep_due _ h]
    rfl
  · rw [exec_armFall, State.armStep_due _ h]
    rfl
  · rw [exec_armBoth, State.armStep_due _ h]
    rfl
  · rw [exec_winRise, State.armStep_due _ h]
    rfl
  · rw [exec_winFall, State.armStep_due _ h]
    rfl
  · rw [exec_winBoth, State.armStep_due _ h]
    rfl

end Sys2Proof.Machine
end

section
/-!
PROOF. What a cycle table does with its orders, at its boundaries, with its entries and with writes of its admin copy (R66, R68–R72),
case by case, and the obligation CycleTables.
-/
namespace Sys2Proof.Machine

/-! ### What runs for each command -/

theorem exec_ctStart (v : CtVia) (s : State) : exec (.ctStart v) s = .next (s.ctOrder 0 v State.ctStart) := rfl
theorem exec_ctStop (v : CtVia) (s : State) : exec (.ctStop v) s = .next (s.ctOrder 1 v State.ctStop) := rfl
theorem exec_ctSwap (v : CtVia) (s : State) : exec (.ctSwap v) s = .next (s.ctOrder 2 v State.ctSwap) := rfl
theorem exec_ctEntryPost (t : Fin 16) (s : State) : exec (.ctEntryPost t) s = execCtEntryPost t s := rfl
theorem exec_ctStopBoundary (t : Fin 16) (s : State) : exec (.ctStopBoundary t) s = execCtStopBoundary t s := rfl
theorem exec_ctSwapBoundary (t : Fin 16) (s : State) : exec (.ctSwapBoundary t) s = execCtSwapBoundary t s := rfl
theorem exec_ctCopybackDone (t : Fin 16) (s : State) : exec (.ctCopybackDone t) s = execCtCopybackDone t s := rfl
theorem exec_ctPeriodBoundary (t : Fin 16) (s : State) : exec (.ctPeriodBoundary t) s = execCtPeriodBoundary t s := rfl
theorem exec_ctWrite (c : CmdRef) (s : State) : exec (.ctWrite c) s = execCtWrite c s := rfl

/-! ### The forms of an order (R68, R399) -/

section Order
variable {s : State} {op : Nat} {f : State → Nat → DWord → State}

/-- By the register the commanded time is CMD_TIME. -/
theorem State.ctOrder_reg {t : Fin 16} : s.ctOrder op (.reg t) f = f s t (s.getD (Reg.ACT_CT_CMD_TIME t)) := rfl

/-- By an action it is the action's DUE, however late it came. -/
theorem State.ctOrder_action {t : Fin 16} {d : Delivered} (h : s.due? 5 t op = some d) :
    s.ctOrder op (.action t) f = f (s.taken d) t d.act.due := by
  simp only [State.ctOrder, h]

section Cmd
variable {c : CmdRef} {x : Command} (h : s.turn c 2 2 = some x)
include h

/-- By the command it is the command's T. -/
theorem State.ctOrder_cmd (hop : beAt x.payload 1 1 = op) (h2 : op ≤ 2) (ht : beAt x.payload 0 1 < 16) :
    s.ctOrder op (.cmd c) f = (f s (beAt x.payload 0 1) (BitVec.ofNat 64 (beAt x.payload 2 8))).replyTo x csOK true [] := by
  simp only [State.ctOrder, h]
  rw [if_neg (by omega), if_neg (by omega), if_neg (by omega)]

theorem State.ctOrder_cmd_badOp (h2 : 2 < beAt x.payload 1 1) : s.ctOrder op (.cmd c) f = s.replyTo x csBADPARAM true [] := by
  simp only [State.ctOrder, h, if_pos h2]

theorem State.ctOrder_cmd_badTable (hop : beAt x.payload 1 1 = op) (h2 : op ≤ 2) (ht : 16 ≤ beAt x.payload 0 1) :
    s.ctOrder op (.cmd c) f = s.replyTo x csBADPARAM true [] := by
  simp only [State.ctOrder, h]
  rw [if_neg (by omega), if_neg (by omega), if_pos ht]

end Cmd

theorem State.ctOrder_noTurn {c : CmdRef} (h : s.turn c 2 2 = none) : s.ctOrder op (.cmd c) f = s := by
  simp only [State.ctOrder, h]

end Order

/-! ### START (R68) -/

section Start
variable {s : State} {t : Nat} {T : DWord}

theorem State.ctStart_running (h : s.tblRuns t = true) : s.ctStart t T = s.setB (Reg.ACT_CT_STAT t) 4 true := by
  rw [State.ctStart, if_pos h, State.tblCmdErr]

variable (h : s.tblRuns t = false)
include h

theorem State.ctStart_invalid (hv : s.admValid t = false) :
    s.ctStart t T = (s.setB (Reg.ACT_CT_STAT t) 3 true).raise 120 (2 ^ t) := by
  rw [State.ctStart, if_neg (by simp [h]), if_pos (by simp [hv]), State.tblEntryErr]

theorem State.ctStart_valid (hv : s.admValid t = true) : s.ctStart t T =
    ((((s.copyAdm t).setD (Reg.ACT_CT_BASE t) T).setR (Reg.ACT_CT_PERIODS t) 0).setF (Reg.ACT_CT_STAT t) 2 0 1).setTbl t
      { s.tbl t with
        cursorBase := T, cursorIdx := 0, skipBefore := laterOf T s.time, swapAt := none, stopAt := none } := by
  rw [State.ctStart, if_neg (by simp [h]), if_neg (by simp [hv])]
  rfl

end Start

/-! ### STOP and SWAP (R68, R70, R72) -/

section StopSwap
variable {s : State} {t : Nat} {T b : DWord}

theorem State.ctStop_idle (h : s.tblRuns t = false) : s.ctStop t T = s.setB (Reg.ACT_CT_STAT t) 4 true := by
  rw [State.ctStop, if_pos (by simp [h]), State.tblCmdErr]

theorem State.ctSwap_idle (h : s.tblRuns t = false) : s.ctSwap t T = s.setB (Reg.ACT_CT_STAT t) 4 true := by
  rw [State.ctSwap, if_pos (by simp [h]), State.tblCmdErr]

theorem boundaryAt_base {base t : DWord} (p : Nat) (h : tdiff t base ≤ 0) : boundaryAt base t p = base := if_pos h

variable (hr : s.tblRuns t = true) (hs : (s.tbl t).swapAt = none)
include hr hs

/-- A STOP with no swap pending ends the table at the first boundary at or after its time. -/
theorem State.ctStop_noSwap (hb : b = boundaryAt (s.getD (Reg.ACT_CT_BASE t)) T (s.opPeriod t)) : s.ctStop t T =
    ((s.withdrawFrom t b).setTbl t { (s.tbl t).rewind b with stopAt := some b }).setB (Reg.ACT_CT_STAT t) 1 true := by
  simp [State.ctStop, hr, hs, hb]

/-- A SWAP of a valid admin copy takes the first boundary 2 us from now or later, and not before its time. -/
theorem State.ctSwap_valid (hstop : (s.tbl t).stopAt = none) (hv : s.admValid t = true)
    (hb : b = boundaryAt (s.getD (Reg.ACT_CT_BASE t)) (laterOf T (s.time + 128000)) (s.opPeriod t)) : s.ctSwap t T =
    (((s.withdraw (ofAdmin t)).withdrawFrom t b).setTbl t { (s.tbl t).rewind b with swapAt := some b }).setB
      (Reg.ACT_CT_STAT t) 2 true := by
  have h2us : units (2 * unitsPerUs) = 128000 := rfl
  simp [State.ctSwap, hr, hs, hstop, hv, hb, h2us]

end StopSwap

/-! ### Boundaries (R68, R70–R72) -/

section Boundaries
variable {t : Fin 16} {s : State} {b : DWord}

theorem exec_ctStopBoundary_reached (hb : (s.tbl t).stopAt = some b) (hs : (s.tbl t).swapAt = none) (hr : s.reached b = true) :
    exec (.ctStopBoundary t) s = .next (((s.addF (Reg.ACT_CT_PERIODS t) 31 0 (s.periodsTo t b)).setF (Reg.ACT_CT_STAT t) 2 0 0).setTbl t
      { s.tbl t with stopAt := none }) := by
  simp only [exec_ctStopBoundary, execCtStopBoundary, hb, hs, if_pos hr]

theorem exec_ctSwapBoundary_reached {s1 s2 : State} (hb : (s.tbl t).swapAt = some b) (hr : s.reached b = true)
    (h1 : s1 = ((s.addF (Reg.ACT_CT_PERIODS t) 31 0 (s.periodsTo t b)).copyAdm t).setD (Reg.ACT_CT_BASE t) b)
    (h2 : s2 = { s1 with act := { s1.act with
      cal := s1.act.cal.map (fun e => if ofAdmin t e then { e with owner := .table t.val false } else e) } }) :
    exec (.ctSwapBoundary t) s = .next (((s2.setB (Reg.ACT_CT_STAT t) 2 false).setTbl t
      { (if atOrAfter (s.tbl t).cursorBase b then s.tbl t else { s.tbl t with cursorBase := b, cursorIdx := 0 } : CycTable) with
        swapAt := none, copyBack := true }).raise 119 (2 ^ t.val)) := by
  subst h1 h2
  simp only [exec_ctSwapBoundary, execCtSwapBoundary, hb, if_pos hr]

/-- At a boundary that is neither a stop's nor a swap's, BASE advances by the period and PERIODS counts it. -/
theorem exec_ctPeriodBoundary_reached (hrun : s.tblRuns t = true) (hb : b = s.getD (Reg.ACT_CT_BASE t) + units (s.opPeriod t))
    (hr : s.reached b = true) (hstop : (s.tbl t).stopAt ≠ some b) (hswap : (s.tbl t).swapAt ≠ some b) :
    exec (.ctPeriodBoundary t) s = .next ((s.setD (Reg.ACT_CT_BASE t) b).incR (Reg.ACT_CT_PERIODS t)) := by
  subst hb
  rw [exec_ctPeriodBoundary]
  exact if_pos (by simp [hrun, hr, hstop, hswap])

theorem exec_ctCopybackDone_held (h : (s.tbl t).copyBack = true) : exec (.ctCopybackDone t) s =
    .next ((s.tbl t).held.foldl (fun s p => s.setR p.1 p.2) (s.setTbl t { s.tbl t with copyBack := false, held := [] })) := by
  rw [exec_ctCopybackDone, execCtCopybackDone, if_pos h, applyHeld_foldl]

end Boundaries

/-! ### Entries (R68, R69) -/

section Entries
variable {t : Fin 16} {s : State} {w : QWord} {adm : Bool} {x : CycTable}

/-- The next entry of a running table is due within AHEAD of its DUE, before the boundary of a STOP. -/
theorem State.tblDue_of_next {t : Nat} (hr : s.tblRuns t = true) (hn : s.tblNext t = some (w, adm, x))
    (hstop : ∀ b, x.stopAt = some b → atOrAfter (decodeRec w).due b = false)
    (ha : tdiff (decodeRec w).due s.time ≤ (s.ahead : Nat)) : s.tblDue t = some (w, adm, x) := by
  cases hx : x.stopAt with
  | none => simp [State.tblDue, hr, hn, hx, ha]
  | some b => simp [State.tblDue, hr, hn, hx, ha, hstop b hx]

variable (hd : s.tblDue t = some (w, adm, x))
include hd

theorem exec_ctEntryPost_skipped (hb : before (decodeRec w).due x.skipBefore = true) :
    exec (.ctEntryPost t) s = .next (s.setTbl t x) := by
  simp only [exec_ctEntryPost, execCtEntryPost, hd, if_pos hb]

theorem exec_ctEntryPost_posted (hb : before (decodeRec w).due x.skipBefore = false) (hp : s.nextPort = some 81) :
    exec (.ctEntryPost t) s = .next (((s.portServed 81).setTbl t x).takeRecord 81 ⟨w, .table t.val adm⟩).1 := by
  simp [exec_ctEntryPost, execCtEntryPost, hd, hb, hp]

theorem exec_ctEntryPost_waits (hb : before (decodeRec w).due x.skipBefore = false) (hp : s.nextPort ≠ some 81) :
    exec (.ctEntryPost t) s = .next s := by
  simp [exec_ctEntryPost, execCtEntryPost, hd, hb, hp]

end Entries

/-! ### Writes of the admin copy (R66, R71) -/

theorem exec_ctWrite_entries {c : CmdRef} {s : State} {x : Command} (h : s.turn c 2 3 = some x) (ht : beAt x.payload 0 1 < 16)
    (hn : beAt x.payload 1 2 + (x.payload.length - 3) / 16 ≤ 256)
    (hz : ∀ i, i < (x.payload.length - 3) / 16 → beAt x.payload (3 + 16 * i) 3 = 0) : exec (.ctWrite c) s =
      .next ((writeEntries (beAt x.payload 0 1) ((x.payload.length - 3) / 16) (beAt x.payload 1 2) (x.payload.drop 3) s).replyTo x
        csOK true []) := by
  have hgood : (List.range ((x.payload.length - 3) / 16)).any (fun i => beAt x.payload (3 + 16 * i) 3 != 0) = false := by
    simpa using hz
  simp only [exec_ctWrite, execCtWrite, h, hgood]
  exact if_neg (by simp; omega)

section Admin
variable {s : State} {t a : Nat} {w : Word}

/-- While a swap is pending the admin copy is not written. -/
theorem State.writeAdm_swapping (h : (s.tbl t).swapAt.isSome = true) : s.writeAdm t a w = s.setB (Reg.ACT_CT_STAT t) 4 true := by
  rw [State.writeAdm, if_pos h, State.tblCmdErr]

variable (hs : (s.tbl t).swapAt = none)
include hs

theorem State.writeAdm_free (hc : (s.tbl t).copyBack = false) : s.writeAdm t a w = s.setR a w := by
  rw [State.writeAdm, if_neg (by simp [hs]), if_neg (by simp [hc])]

/-- During the copy-back a write is held. -/
theorem State.writeAdm_held (hc : (s.tbl t).copyBack = true) :
    s.writeAdm t a w = s.setTbl t { s.tbl t with held := (s.tbl t).held ++ [(a, w)] } := by
  rw [State.writeAdm, if_neg (by simp [hs]), if_pos hc]

end Admin

/-- Settles O14: each clause is one case of an order, a boundary, an entry or a write of the admin copy. -/
theorem cycleTables : Obligations.CycleTables := by
  refine ⟨⟨fun _ _ _ => State.ctStart_running, fun _ _ _ => State.ctStart_invalid, fun s t hr hv => ?_, fun s t d hd => ?_,
      fun s c x h hop ht => ?_⟩,
    ⟨fun s t b hr hs hb => ?_, fun s t b hr hstop hs hv hb => ?_, fun _ _ _ h => ⟨State.ctStop_idle h, State.ctSwap_idle h⟩,
      fun _ _ p => boundaryAt_base p⟩,
    ⟨fun _ _ _ => exec_ctStopBoundary_reached, fun _ _ _ _ _ => exec_ctSwapBoundary_reached,
      fun _ _ hrun => exec_ctPeriodBoundary_reached hrun rfl⟩,
    ⟨fun t s w adm x hr hn hstop ha => ?_, fun _ _ => exec_ctCopybackDone_held, fun _ _ _ => exec_ctWrite_entries,
      fun _ _ _ _ => ⟨State.writeAdm_free, State.writeAdm_held, State.writeAdm_swapping⟩⟩⟩
  · rw [exec_ctStart, State.ctOrder_reg, State.ctStart_valid hr hv]
  · rw [exec_ctStart, State.ctOrder_action hd]
  · rw [exec_ctStart, State.ctOrder_cmd h hop (by decide) ht]
  · rw [exec_ctStop, State.ctOrder_reg, State.ctStop_noSwap hr hs hb]
  · rw [exec_ctSwap, State.ctOrder_reg, State.ctSwap_valid hr hs hstop hv hb]
  · have hd := State.tblDue_of_next hr hn hstop ha
    exact ⟨exec_ctEntryPost_skipped hd, exec_ctEntryPost_posted hd, exec_ctEntryPost_waits hd⟩

end Sys2Proof.Machine
end

section
/-!
PROOF. What an engine does with its triggers and its commands, and a sector's port with its strobes (R48, R91–R96, R111, R112, R144,
R207, R399), case by case, and the obligation EngineTriggersAndCommands.
-/
namespace Sys2Proof.Machine

/-! ### What runs for each command -/

theorem exec_cycle (e : Fin 64) (s : State) : exec (.cycle e) s = execCycle e s := rfl
theorem exec_signal (e : Fin 64) (s : State) : exec (.signal e) s = execSignal e s := rfl
theorem exec_strobe (t : Fin 384) (s : State) : exec (.strobe t) s = execStrobe t s := rfl
theorem exec_engRun (c : CmdRef) (s : State) : exec (.engRun c) s = execEngRun c s := rfl
theorem exec_engHold (c : CmdRef) (s : State) : exec (.engHold c) s = execEngHold c s := rfl
theorem exec_engStat (c : CmdRef) (s : State) : exec (.engStat c) s = execEngStat c s := rfl
theorem exec_mboxWrite (v : MboxVia) (s : State) : exec (.mboxWrite v) s = execMboxWrite v s := rfl

/-! ### CYCLE (R91–R93) -/

section Cycle
variable {s : State} {n e : Nat} {data : Word} {t : DWord}

/-- The trigger that is due reaches the engine's holder, where its domain is ON. -/
theorem exec_cycle_due {e : Fin 64} {d : Delivered} (hd : s.due? 1 e 0 = some d) (hp : s.physOf e = some n)
    (ho : s.domOn (domEngine n) = true) : exec (.cycle e) s = .next ((s.taken d).cycleAt n e d.act.data (laterOf d.act.due d.at_)) := by
  simp only [exec_cycle, execCycle, hd, hp, if_pos ho]
  rfl

theorem exec_cycle_none {e : Fin 64} (hd : s.due? 1 e 0 = none) : exec (.cycle e) s = .next s := by
  simp only [exec_cycle, execCycle, hd]

theorem State.cycleAt_notEnabled (h : s.getB (Reg.ENG_CTL n) 0 = false) : s.cycleAt n e data t = s := by
  rw [State.cycleAt, if_pos (by simp [h])]

variable (hrun : s.getB (Reg.ENG_CTL n) 0 = true) (hmig : (s.leng e).mig = none)
include hrun hmig

/-- A waiting engine starts its cycle. -/
theorem State.cycleAt_waiting (hst : s.engState n = 2) : s.cycleAt n e data t = s.boundary n e data t := by
  rw [State.cycleAt, if_neg (by simp [hrun]), if_neg (by simp [hmig]), if_pos hst]

/-- A running one, with no trigger latched, latches it with OVERRUN. -/
theorem State.cycleAt_running (hst : s.engState n = 3) (h3 : s.getB (Reg.ENG_CTL n) 3 = false) (hl : (s.leng e).latched = none) :
    s.cycleAt n e data t =
      ((s.setLeng e { s.leng e with latched := some (data, t) }).setB (Reg.ENG_STAT n) 6 true).raise e 0x10 := by
  rw [State.cycleAt, if_neg (by simp [hrun]), if_neg (by simp [hmig]), if_neg (by omega), if_pos (by simp [State.inCycle, hst]),
    if_neg (by simp [h3]), if_neg (by simp [hl])]

end Cycle

/-! ### SIGNAL (R92, R144) -/

theorem exec_signal_due {e : Fin 64} {s : State} {d : Delivered} (h : s.due? 1 e 1 = some d) : exec (.signal e) s =
    .next ((s.taken d).setLeng e { (s.taken d).leng e with
      core := { ((s.taken d).leng e).core with tflags := ((s.taken d).leng e).core.tflags ||| d.act.data }
      signals := ((s.taken d).leng e).signals ||| d.act.data }) := by
  simp only [exec_signal, execSignal, h]
  rfl

/-! ### STROBE (R207) -/

section Strobe
variable {t : Fin 384} {s v : State} {d : Delivered} {l : List Delivered}

theorem exec_strobe_none (h : s.strobesDue t = []) : exec (.strobe t) s = .next s := by
  simp only [exec_strobe, execStrobe, h, List.reverse_nil]

theorem State.loseStrobe_eq (s : State) (t : Nat) (d : Delivered) :
    s.loseStrobe t d = ((s.taken d).setB (Reg.SEC_STB_OVR (t / 8)) (t % 8) true).raise (64 + t / 8) 4 := rfl

variable (hs : (s.strobesDue t).reverse = d :: l) (hv : v = l.foldl (fun s d => s.loseStrobe t d) s)
include hs hv

/-- The last strobe that is due is presented, once its clock's edge comes and no Front holds it back. -/
theorem exec_strobe_presented (hr : v.strobeRuns t = true) (hq : v.quietAt (t.val / 8) (d.instant + 160) = false)
    (hf : v.quietFor (t.val / 8) = false) (hc : v.boot.clear = false) (he : v.reached (d.instant + 160) = true) : ∃ u,
      u = (v.taken d).setR (Reg.SEC_STB_DATA (t.val / 8) (t.val % 8)) d.act.data ∧
      exec (.strobe t) s = .next (u.setSector (t.val / 8) { u.sector (t.val / 8) with
        stb := if (u.sector (t.val / 8)).stb.contains (t.val % 8) then (u.sector (t.val / 8)).stb
               else (u.sector (t.val / 8)).stb ++ [t.val % 8] }) := by
  have htick : units unitsPerTick = 160 := rfl
  refine ⟨_, rfl, ?_⟩
  simp only [exec_strobe, execStrobe, hs, ← hv, htick]
  exact if_pos (by rw [hr, hq, hf, hc, he]; rfl)

/-- Until then it waits; those that it replaces are lost all the same. -/
theorem exec_strobe_waits (h : v.strobeRuns t = false ∨ v.quietAt (t.val / 8) (d.instant + 160) = true ∨
      v.quietFor (t.val / 8) = true ∨ v.boot.clear = true ∨ v.reached (d.instant + 160) = false) :
    exec (.strobe t) s = .next v := by
  have htick : units unitsPerTick = 160 := rfl
  simp only [exec_strobe, execStrobe, hs, ← hv, htick]
  exact if_neg (by rcases h with h | h | h | h | h <;> rw [h] <;> simp)

end Strobe

/-! ### The engine commands (R96, R111, R112, R399) -/

section Commands
variable {c : CmdRef} {s : State} {x : Command}

theorem exec_engRun_of_turn (h : s.turn c 9 0 = some x) : exec (.engRun c) s =
    .next ((s.overMask (beNat x.payload) (fun s n => s.setB (Reg.ENG_CTL n) 0 true)).replyTo x csOK true []) := by
  simp only [exec_engRun, execEngRun, h]

theorem exec_engHold_of_turn (h : s.turn c 9 1 = some x) : exec (.engHold c) s =
    .next ((s.overMask (beNat x.payload) (fun s n => s.clearRun n)).replyTo x csOK true []) := by
  have heta : (fun (s : State) n => s.clearRun n) = State.clearRun := funext fun _ => funext fun _ => rfl
  rw [heta]
  simp only [exec_engHold, execEngHold, h]

/-- ENG_STAT answers four registers of the engine's holder. -/
theorem exec_engStat_held {n : Nat} (h : s.turn c 9 5 = some x) (he : beAt x.payload 0 1 < 64)
    (hp : s.physOf (beAt x.payload 0 1) = some n) : exec (.engStat c) s =
      .next (s.replyTo x csOK true (beBytes 4 (s.getR (Reg.ENG_MAP n)).toNat ++ (beBytes 4 (s.engStatRead n).toNat ++
        (beBytes 4 (s.getR (Reg.ENG_CAUSE n)).toNat ++ beBytes 4 (s.getR (Reg.ENG_LOST n)).toNat)))) := by
  have ho : s.orderHolder (beAt x.payload 0 1) = some n := by rw [State.orderHolder, if_pos he, hp]
  simp [exec_engStat, execEngStat, h, ho]

section Mailbox
variable (h : s.turn c 9 6 = some x)
include h

theorem exec_mboxWrite_badParam (hb : 64 ≤ beAt x.payload 0 1 ∨ 16 ≤ beAt x.payload 1 1) :
    exec (.mboxWrite (.cmd c)) s = .next (s.replyTo x csBADPARAM true []) := by
  simp only [exec_mboxWrite, execMboxWrite, h, if_pos hb]

variable {r : State × Option Nat} (he : beAt x.payload 0 1 < 64) (hm : beAt x.payload 1 1 < 16)
  (hr : r = s.mailWrite (beAt x.payload 0 1) (beAt x.payload 1 1) (BitVec.ofNat 64 (beAt x.payload 2 8)) (.host (some c)))
include he hm hr

/-- The write is made as by the register; its reply waits while the write is held for a wake. -/
theorem exec_mboxWrite_cmd : exec (.mboxWrite (.cmd c)) s =
    .next (if r.2.isSome || (s.physOf (beAt x.payload 0 1)).isNone then r.1.replyTo x csOK true [] else r.1.awaitReply x) := by
  simp only [exec_mboxWrite, execMboxWrite, h, hr]
  exact if_neg (by omega)

theorem exec_mboxWrite_written (hw : r.2.isSome = true ∨ s.physOf (beAt x.payload 0 1) = none) :
    exec (.mboxWrite (.cmd c)) s = .next (r.1.replyTo x csOK true []) := by
  rw [exec_mboxWrite_cmd h he hm hr, if_pos (by rcases hw with hw | hw <;> simp [hw])]

theorem exec_mboxWrite_waits (hw : r.2 = none) (hp : (s.physOf (beAt x.payload 0 1)).isSome = true) :
    exec (.mboxWrite (.cmd c)) s = .next (r.1.awaitReply x) := by
  rw [exec_mboxWrite_cmd h he hm hr, if_neg (by simpa [hw, Option.isSome_iff_ne_none] using hp)]

end Mailbox
end Commands

/-- Settles O29: each clause is one case of a trigger's, a strobe's or a command's answer above. -/
theorem engineTriggersAndCommands : Obligations.EngineTriggersAndCommands :=
  ⟨⟨fun _ _ _ _ => exec_cycle_due, fun _ _ => exec_cycle_none, fun _ _ _ _ _ => State.cycleAt_waiting,
    fun _ _ _ _ _ => State.cycleAt_running, fun _ _ _ _ _ => State.cycleAt_notEnabled, fun _ _ _ => exec_signal_due,
    fun _ _ _ _ _ hs hv => ⟨exec_strobe_presented hs hv, exec_strobe_waits hs hv⟩, fun _ _ => exec_strobe_none,
    State.loseStrobe_eq⟩,
   fun _ _ _ => exec_engRun_of_turn, fun _ _ _ => exec_engHold_of_turn, fun _ _ _ _ => exec_engStat_held,
   fun _ _ _ h he hm => ⟨_, rfl, exec_mboxWrite_written h he hm rfl, exec_mboxWrite_waits h he hm rfl⟩,
   fun _ _ _ => exec_mboxWrite_badParam⟩

end Sys2Proof.Machine
end

section
/-!
PROOF. What a device does with the notices of a Front, with the Front action and at the ends of the quiet tick and of the crossing
hold (R84, R277, R278, R280, R282–R284, R288, R290), case by case, and the obligation FrontNoticesAndSwitch.
-/
namespace Sys2Proof.Machine

/-! ### What runs for each command -/

theorem exec_notice (m : LaneMsg) (seq : BitVec 16) (dir : Bool) (tf d : DWord) (part : BitVec 16) (s : State) :
    exec (.notice m seq dir tf d part) s = execNotice m seq dir tf d part s := rfl
theorem exec_noticeExpiry (st : Fin 16) (s : State) : exec (.noticeExpiry st) s = .next { s with front := { s.front with
    notices := s.front.notices.filter (fun n => !(n.station == st.val && atOrAfter s.time (n.d + units unitsPerUs))) } } := rfl
theorem exec_front (s : State) : exec .front s = .next (s.frontStep 0) := rfl
theorem exec_frontBack (s : State) : exec .frontBack s = .next (s.frontStep 1) := rfl
theorem exec_quietEnd (s : State) : exec .quietEnd s = execQuietEnd s := rfl
theorem exec_crossingHoldEnd (s : State) : exec .crossingHoldEnd s = execCrossingHoldEnd s := rfl

/-! ### Notices (R277, R278, R280) -/

theorem Front.agrees_iff (f : Front) (n : FrontNotice) :
    f.agrees n = true ↔ n.seq = f.seq ∧ n.dir = f.dir ∧ n.tf = f.tf ∧ n.d = f.d ∧ n.part = f.part := by
  simp [Front.agrees, and_assoc]

section Notice
variable {m : LaneMsg} {seq part : BitVec 16} {dir : Bool} {tf d : DWord} {s : State}

theorem exec_notice_badCrc (hok : m.ok = false) : exec (.notice m seq dir tf d part) s =
    .next ((s.incR (Reg.NET_SL_CRC_ERR m.lane.val)).raise (150 + m.lane.val) 4) := by
  rw [exec_notice]
  exact if_pos (by simp [hok])

variable (hok : m.ok = true)
include hok

/-- A notice off the tree, and one's own that comes back, are not used. -/
theorem exec_notice_ignored (h : s.treeLane m.lane.val = false ∨ m.src.val = s.station) :
    exec (.notice m seq dir tf d part) s = .next s := by
  rw [exec_notice, execNotice, if_neg (by simp [hok]), if_pos (by rcases h with h | h <;> simp [h])]

section Used
variable {u v : State} {n : FrontNotice} (ht : s.treeLane m.lane.val = true) (hs : m.src.val ≠ s.station)
  (hn : n = ⟨m.src, seq.toNat, dir.toNat, tf, d, part.toNat⟩)
  (hu : u = s.closeVote.flood (some m.lane.val)
    { typ := 6, src := m.src, seq := m.seq.toNat, payload := [tf, d, BitVec.ofNat 64 (part.toNat <<< 32 + dir.toNat <<< 16 + seq.toNat)] })
  (hv : v = (if before u.time (d + units unitsPerUs) then
    { u with front := { u.front with notices := u.front.notices.filter (fun k => k.station != m.src.val) ++ [n] } } else u))
include ht hs hn hu hv

/-- Any other is passed on and kept, and then held against the Front of this device. -/
theorem exec_notice_kept : exec (.notice m seq dir tf d part) s =
    if v.front.scope ≠ 1 ∨ (v.frontState ≠ 1 ∧ v.frontState ≠ 2) then .next v
    else if seq.toNat ≠ v.front.seq then .next (v.frontCancel 16)
    else if v.front.agrees n then .next (v.setB Reg.CFG_FRONT_NOTICE m.src.val true).tryVote
    else .next (v.frontCancel 4) := by
  have hcrc : ¬ (!m.ok) = true := by simp [hok]
  have huse : ¬ (!s.treeLane m.lane.val || m.src.val == s.station) = true := by simp [ht, hs]
  simp only [exec_notice, execNotice, if_neg hcrc, if_neg huse, ← hn, ← hu, ← hv]

/-- Only an armed cabinet Front is compared. -/
theorem exec_notice_noFront (h : v.front.scope ≠ 1 ∨ (v.frontState ≠ 1 ∧ v.frontState ≠ 2)) :
    exec (.notice m seq dir tf d part) s = .next v := by
  rw [exec_notice_kept hok ht hs hn hu hv, if_pos h]

variable (h1 : v.front.scope = 1) (hst : v.frontState = 1 ∨ v.frontState = 2)
include h1 hst

theorem exec_notice_otherSeq (hq : seq.toNat ≠ v.front.seq) :
    exec (.notice m seq dir tf d part) s = .next (v.frontCancel 16) := by
  rw [exec_notice_kept hok ht hs hn hu hv, if_neg (by omega), if_pos hq]

variable (hq : seq.toNat = v.front.seq)
include hq

theorem exec_notice_agrees (ha : v.front.agrees n = true) :
    exec (.notice m seq dir tf d part) s = .next (v.setB Reg.CFG_FRONT_NOTICE m.src.val true).tryVote := by
  rw [exec_notice_kept hok ht hs hn hu hv, if_neg (by omega), if_neg (by omega), if_pos ha]

theorem exec_notice_disagrees (ha : v.front.agrees n = false) :
    exec (.notice m seq dir tf d part) s = .next (v.frontCancel 4) := by
  rw [exec_notice_kept hok ht hs hn hu hv, if_neg (by omega), if_neg (by omega), if_neg (by simp [ha])]

end Used
end Notice

/-! ### The Front action (R84, R282) -/

section Step
variable {s : State} {op : Nat}

theorem State.frontStep_taken {d : Delivered} (hd : s.due? 6 0 op = some d) (hst : s.frontState = 3)
    (hb : s.actsBefore s.front.tf = false) : s.frontStep op = (s.taken d).takeFront := by
  simp only [State.frontStep, hd]
  exact if_pos ⟨hst, hb⟩

theorem State.frontStep_none (hd : s.due? 6 0 op = none) : s.frontStep op = s := by
  simp only [State.frontStep, hd]

/-- No Front is taken before it is COMMITTED, nor before what takes effect before TF has. -/
theorem State.frontStep_waits (h : s.frontState ≠ 3 ∨ s.actsBefore s.front.tf = true) : s.frontStep op = s := by
  cases hd : s.due? 6 0 op with
  | none => exact State.frontStep_none hd
  | some d =>
    simp only [State.frontStep, hd]
    exact if_neg (by rcases h with h | h <;> simp [h])

end Step

/-! ### The ends of the quiet tick and of the crossing hold (R283, R288, R290) -/

section Ends
variable {s : State}

theorem exec_quietEnd_ends (hq : s.front.quiet = true) (ht : atOrAfter s.time (s.front.tf + 160) = true) :
    exec .quietEnd s = .next { s with front := { s.front with quiet := false } } := by
  rw [exec_quietEnd]
  exact if_pos (Bool.and_eq_true_iff.2 ⟨hq, ht⟩)

theorem exec_quietEnd_not (h : s.front.quiet = false ∨ atOrAfter s.time (s.front.tf + 160) = false) :
    exec .quietEnd s = .next s := by
  have htick : units unitsPerTick = 160 := rfl
  rw [exec_quietEnd, execQuietEnd, htick]
  exact if_neg (by rcases h with h | h <;> rw [h] <;> simp)

theorem exec_crossingHoldEnd_ends (ho : s.front.holdOver = false) (hr : s.reached (s.front.tf + 512) = true) :
    exec .crossingHoldEnd s = .next ({ s with front := { s.front with holdOver := true, held := [] } } : State).frontComplete := by
  rw [exec_crossingHoldEnd]
  exact if_pos (Bool.and_eq_true_iff.2 ⟨by rw [ho]; rfl, hr⟩)

theorem exec_crossingHoldEnd_not (h : s.front.holdOver = true ∨ s.reached (s.front.tf + 512) = false) :
    exec .crossingHoldEnd s = .next s := by
  have h8ns : units 512 = 512 := rfl
  rw [exec_crossingHoldEnd, execCrossingHoldEnd, h8ns]
  exact if_neg (by rcases h with h | h <;> rw [h] <;> simp)

end Ends

/-- Settles O41: each clause is one case of a notice, of the Front action or of an end. -/
theorem frontNoticesAndSwitch : Obligations.FrontNoticesAndSwitch := by
  refine ⟨fun _ _ _ _ _ _ _ => exec_notice_badCrc, fun _ _ _ _ _ _ _ => exec_notice_ignored,
    fun _ _ _ _ _ _ _ _ _ _ hok ht hs hn hu hv => ⟨exec_notice_noFront hok ht hs hn hu hv, fun h1 hst =>
      ⟨exec_notice_otherSeq hok ht hs hn hu hv h1 hst, exec_notice_agrees hok ht hs hn hu hv h1 hst,
       exec_notice_disagrees hok ht hs hn hu hv h1 hst⟩⟩,
    Front.agrees_iff, exec_noticeExpiry, fun _ _ hst hb => ⟨fun hd => ?_, fun hd => ?_⟩, fun _ h => ⟨?_, ?_⟩,
    fun _ => ⟨fun hd => ?_, fun hd => ?_⟩, fun _ => exec_quietEnd_ends, fun _ => exec_quietEnd_not,
    fun _ => exec_crossingHoldEnd_ends, fun _ => exec_crossingHoldEnd_not⟩
  · rw [exec_front, State.frontStep_taken hd hst hb]
  · rw [exec_frontBack, State.frontStep_taken hd hst hb]
  · rw [exec_front, State.frontStep_waits h]
  · rw [exec_frontBack, State.frontStep_waits h]
  · rw [exec_front, State.frontStep_none hd]
  · rw [exec_frontBack, State.frontStep_none hd]

end Sys2Proof.Machine
end

section
/-!
PROOF. What the forms of an order answer that its family's statement does not name (R110, R111, R217, R260, R305, R346, R433), and a
command whose turn has not come (R382, R393), case by case, and the obligation OrdersInEveryForm.
-/
namespace Sys2Proof.Machine

/-! ### What runs for each command -/

theorem exec_migrate_reg (n : Fin 68) (w : Word) (s : State) : exec (.migrate (.reg n w)) s = .next (s.engOrder n 16 w) := rfl
theorem exec_haltClr_reg (n : Fin 68) (w : Word) (s : State) : exec (.haltClr (.reg n w)) s = .next (s.engOrder n 17 w) := rfl
theorem exec_reinstate_reg (n : Fin 68) (w : Word) (s : State) : exec (.reinstate (.reg n w)) s = .next (s.engOrder n 18 w) := rfl
theorem exec_mboxWrite_reg (n : Fin 68) (m : Fin 16) (w : Word) (s : State) :
    exec (.mboxWrite (.reg n m w)) s = .next (s.mailboxHi n m w) := rfl
theorem exec_trcArm_cmd (c : CmdRef) (s : State) : exec (.trcArm (.cmd c)) s = .next (s.trcCommand c 0) := rfl
theorem exec_trcStop_cmd (c : CmdRef) (s : State) : exec (.trcStop (.cmd c)) s = .next (s.trcCommand c 1) := rfl
theorem exec_trcForce_cmd (c : CmdRef) (s : State) : exec (.trcForce (.cmd c)) s = .next (s.trcCommand c 2) := rfl
theorem exec_stagingGo (v : Via) (s : State) : exec (.stagingGo v) s = execStagingGo v s := rfl
theorem exec_nvResume (v : Via) (s : State) : exec (.nvResume v) s = execNvResume v s := rfl
theorem exec_domReqOn (v : ViaN) (s : State) : exec (.domReqOn v) s = .next (s.powerReq v 0) := rfl
theorem exec_domReqRet (v : ViaN) (s : State) : exec (.domReqRet v) s = .next (s.powerReq v 1) := rfl
theorem exec_domReqOff (v : ViaN) (s : State) : exec (.domReqOff v) s = .next (s.powerReq v 2) := rfl
theorem exec_domainReset (v : ViaN) (s : State) : exec (.domainReset v) s = .next (s.powerReq v 3) := rfl
theorem exec_coldReset (v : Via) (s : State) : exec (.coldReset v) s = .next (s.resetRow v 1) := rfl
theorem exec_warmReset (v : Via) (s : State) : exec (.warmReset v) s = .next (s.resetRow v 2) := rfl

/-! ### CTL and mailboxes of an engine by register (R110, R111) -/

section Engine
variable {s : State}

/-- A write of ENG[n].CTL with an order's bit set. -/
theorem State.engOrder_set {n bit : Nat} {w : Word} (hn : n < 68) (hb : bitOf w bit = true) :
    s.engOrder n bit w = s.writeEngCtl n w := if_pos ⟨hn, hb⟩

/-- A write of a mailbox's _HI commits with the _LO held for it, which it uses up. -/
theorem State.mailboxHi_pair {n m e : Nat} {w lo : Word} (he : s.logicalOf n = some e)
    (hp : s.pairHeld.find? (fun p => p.1 == Reg.ENG_MBOX n m) = some (Reg.ENG_MBOX n m, lo)) : s.mailboxHi n m w =
      (({ s with pairHeld := tabErase s.pairHeld (Reg.ENG_MBOX n m) } : State).mailWrite e m (pairW lo w) (.host none)).1 := by
  simp only [State.mailboxHi, he, hp, Option.map_some, Option.getD_some]

end Engine

/-! ### TRC_CMD (R217) -/

section Trace
variable {c : CmdRef} {s u t : State} {x : Command} {w : Word} {bit : Nat}

theorem State.trcCommand_noTurn (h : s.turn c 8 3 = none) : s.trcCommand c bit = s := by
  simp only [State.trcCommand, h]

variable (h : s.turn c 8 3 = some x) (hw : w = BitVec.ofNat 32 (beAt x.payload 8 1))
include h hw

theorem State.trcCommand_badParam (hb : w = 0 ∨ 8 ≤ w.toNat) : s.trcCommand c bit = s.replyTo x csBADPARAM true [] := by
  simp only [State.trcCommand, h, ← hw, if_pos hb]

variable (h8 : w.toNat < 8)
  (hu : u = (s.store Reg.TRC_CTL (BitVec.ofNat 32 (beAt x.payload 0 4))).store Reg.TRC_POST (BitVec.ofNat 32 (beAt x.payload 4 4)))
  (ht : t = (u.setB Reg.PRB_STAT 1 false).writeTrcCmd w) (hb : bitOf w bit = true)
include h8 hu ht hb

/-- The settings are stored and the orders given; whether one was ignored shows in PRB_STAT and in the reply. -/
theorem State.trcCommand_ordered : s.trcCommand c bit = (t.setB Reg.PRB_STAT 1 (t.getB Reg.PRB_STAT 1 || u.getB Reg.PRB_STAT 1)).replyTo x
    (if t.getB Reg.PRB_STAT 1 then csBUSY else csOK) true [] := by
  have hne : w ≠ 0 := by
    rintro rfl
    simp [bitOf] at hb
  have hok : ¬ (w = 0 ∨ 8 ≤ w.toNat) := not_or.2 ⟨hne, Nat.not_le.2 h8⟩
  simp only [State.trcCommand, h, ← hw, if_neg hok, if_pos hb, ← hu, ← ht]

theorem State.trcCommand_ignored (hi : t.getB Reg.PRB_STAT 1 = true) :
    s.trcCommand c bit = (t.setB Reg.PRB_STAT 1 true).replyTo x csBUSY true [] := by
  rw [State.trcCommand_ordered h hw h8 hu ht hb, hi, Bool.true_or, if_pos rfl]

theorem State.trcCommand_taken (hi : t.getB Reg.PRB_STAT 1 = false) :
    s.trcCommand c bit = (t.setB Reg.PRB_STAT 1 (u.getB Reg.PRB_STAT 1)).replyTo x csOK true [] := by
  rw [State.trcCommand_ordered h hw h8 hu ht hb, hi, Bool.false_or, if_neg (by decide)]

end Trace

/-! ### STG_FROM_SLOT and NV_RESUME (R260, R346) -/

section SlotNv
variable {c : CmdRef} {s : State} {x : Command}

section Slot
variable (h : s.turn c 3 4 = some x)
include h

theorem exec_stagingGo_taken {t : State} (h0 : beAt x.payload 1 1 = 0) (h3 : beAt x.payload 0 1 ≤ 3)
    (hr : s.stgRequest (.slot (beAt x.payload 0 1)) 0 { src := .slot 0, dest := none, cmd := some c } = (t, 0)) :
    exec (.stagingGo (.cmd c)) s = .next (t.pendingReply x) := by
  have hok : ¬ (beAt x.payload 1 1 ≠ 0 ∨ 3 < beAt x.payload 0 1) := by omega
  simp only [exec_stagingGo, execStagingGo, h, if_neg hok, hr, if_true]

theorem exec_stagingGo_badParam (hb : beAt x.payload 1 1 ≠ 0 ∨ 3 < beAt x.payload 0 1) :
    exec (.stagingGo (.cmd c)) s = .next (s.replyTo x csBADPARAM true []) := by
  simp only [exec_stagingGo, execStagingGo, h, if_pos hb]

end Slot

theorem exec_nvResume_of_turn (h : s.turn c 5 4 = some x) :
    exec (.nvResume (.cmd c)) s = .next (s.nvCmdResume.replyTo x csOK true []) := by
  simp only [exec_nvResume, execNvResume, h]

end SlotNv

/-! ### PWR_REQ (R433) -/

section Power
variable {c : CmdRef} {s : State} {x : Command} {st : Nat}

theorem State.powerReq_noTurn (h : s.turn c 7 0 = none) : s.powerReq (.cmd c) st = s := by
  simp only [State.powerReq, h]

variable (h : s.turn c 7 0 = some x)
include h

theorem State.powerReq_badState (h3 : 3 < beAt x.payload 1 1) : s.powerReq (.cmd c) st = s.replyTo x csBADPARAM true [] := by
  simp only [State.powerReq, h, if_pos h3]

variable (hst : beAt x.payload 1 1 = st) (h3 : st ≤ 3)
include hst h3

theorem State.powerReq_badDomain (hd : 134 < beAt x.payload 0 1) :
    s.powerReq (.cmd c) st = s.replyTo x (csOf 7 pwrBADDOMAIN) true (beBytes 1 pwrBADDOMAIN) := by
  simp only [State.powerReq, h]
  rw [if_neg (by omega), if_neg (by omega), if_pos hd]

/-- The reply holds the status of the request. -/
theorem State.powerReq_answered {t : State} {r : Nat} (hd : beAt x.payload 0 1 ≤ 134) (hr : s.domReq (beAt x.payload 0 1) st = (t, r)) :
    s.powerReq (.cmd c) st = t.replyTo x (if r = 0 then csOK else csOf 7 r) true (beBytes 1 r) := by
  simp only [State.powerReq, h, hr]
  rw [if_neg (by omega), if_neg (by omega), if_neg (by omega)]

end Power

/-! ### RESET (R305) -/

section Resets
variable {c : CmdRef} {s u t : State} {x : Command} {kind : Nat}

theorem State.resetRow_noTurn (h : s.turn c 15 0 = none) : s.resetRow (.cmd c) kind = s := by
  simp only [State.resetRow, h]

variable (h : s.turn c 15 0 = some x)
include h

theorem State.resetRow_badParam (h1 : beAt x.payload 0 1 ≠ 1) (h2 : beAt x.payload 0 1 ≠ 2) :
    s.resetRow (.cmd c) kind = s.replyTo x csBADPARAM true [] := by
  simp only [State.resetRow, h, if_pos (And.intro h1 h2)]

/-- The reply goes out before the reset, which keeps the service port's queue. -/
theorem State.resetRow_of_kind (hu : u = (s.replyTo x csOK true []).flushPorts) (hk : beAt x.payload 0 1 = kind)
    (hkind : kind = 1 ∨ kind = 2) (ht : t = u.resetNow (kind == 2) 4) :
    s.resetRow (.cmd c) kind = { t with cmd := { t.cmd with svcQueue := u.cmd.svcQueue } } := by
  simp only [State.resetRow, h, ← hu, ← ht]
  rw [if_neg (by omega), if_neg (by omega)]

end Resets

/-! ### A command whose turn has not come (R382, R393) -/

/-- A row that serves the command in its turn does nothing while there is none. A row's `exec` unfolds to this match, so the lemma
serves every row that waits for its turn itself. -/
theorem next_of_noTurn {turn : Option Command} {s : State} {f : Command → Out} (h : turn = none) :
    (match (generalizing := false) turn with
      | none => .next s
      | some x => f x) = (.next s : Out) := by
  rw [h]

/-- Settles O60: each clause is one case of a form's answer above, or of a row whose turn has not come: of a row that waits for its
turn itself, or through the function that several forms share. -/
theorem ordersInEveryForm : Obligations.OrdersInEveryForm := by
  refine ⟨⟨fun s t d => ⟨fun hd => ?_, fun hd => ?_⟩,
      fun s c x h => ⟨fun hop ht => ?_, fun hop ht => ?_, fun h2 => ?_, fun hop ht => ?_, fun hop ht => ?_, fun hop ht => ?_⟩,
      fun n w s => ⟨fun hb => ?_, fun hb => ?_, fun hb => ?_⟩,
      fun n m w lo s e he hp => ?_,
      fun c s u t x w h hw => ⟨fun hb => ?_, fun h8 hu ht => ⟨fun hi hb => ?_, fun hi =>
        ⟨fun hb => ?_, fun hb => ?_, fun hb => ?_⟩⟩⟩,
      fun _ _ _ _ h => exec_stagingGo_taken h, fun _ _ _ => exec_stagingGo_badParam, fun _ _ _ => exec_nvResume_of_turn,
      fun c s t x st r h hst hd hr => ⟨fun h0 => ?_, fun h1 => ?_, fun h3 => ?_⟩, fun c s x h h3 => ?_, fun c s x h h0 hd => ?_,
      fun c s x h h1 h2 => ?_, fun c s u t x h hu => ⟨fun hk ht => ?_, fun hk ht => ?_⟩⟩,
    fun c s => ⟨next_of_noTurn, next_of_noTurn, fun h => ⟨?_, ?_, ?_⟩, next_of_noTurn, next_of_noTurn, next_of_noTurn, next_of_noTurn,
      next_of_noTurn, next_of_noTurn, fun h => ⟨?_, ?_, ?_⟩, next_of_noTurn, next_of_noTurn, next_of_noTurn, next_of_noTurn,
      next_of_noTurn, next_of_noTurn, next_of_noTurn, next_of_noTurn, next_of_noTurn, next_of_noTurn, next_of_noTurn,
      next_of_noTurn, fun h => ⟨?_, ?_⟩, next_of_noTurn, next_of_noTurn, next_of_noTurn, next_of_noTurn, next_of_noTurn,
      fun h _ => next_of_noTurn h, next_of_noTurn, next_of_noTurn, next_of_noTurn, next_of_noTurn, next_of_noTurn, next_of_noTurn,
      next_of_noTurn, next_of_noTurn, next_of_noTurn, next_of_noTurn, next_of_noTurn, next_of_noTurn, next_of_noTurn,
      fun h _ => next_of_noTurn h, next_of_noTurn, next_of_noTurn, next_of_noTurn, next_of_noTurn, next_of_noTurn, next_of_noTurn,
      next_of_noTurn, next_of_noTurn, next_of_noTurn, next_of_noTurn, next_of_noTurn, next_of_noTurn, next_of_noTurn,
      next_of_noTurn, next_of_noTurn, next_of_noTurn, next_of_noTurn, next_of_noTurn, next_of_noTurn,
      fun h _ => next_of_noTurn h, next_of_noTurn, fun h => ⟨?_, ?_, ?_, ?_⟩, fun _ => next_of_noTurn⟩⟩
  · rw [exec_ctStop, State.ctOrder_action hd]
  · rw [exec_ctSwap, State.ctOrder_action hd]
  · rw [exec_ctStop, State.ctOrder_cmd h hop (by decide) ht]
  · rw [exec_ctSwap, State.ctOrder_cmd h hop (by decide) ht]
  · rw [exec_ctStart, State.ctOrder_cmd_badOp h h2]
  · rw [exec_ctStart, State.ctOrder_cmd_badTable h hop (by decide) ht]
  · rw [exec_ctStop, State.ctOrder_cmd_badTable h hop (by decide) ht]
  · rw [exec_ctSwap, State.ctOrder_cmd_badTable h hop (by decide) ht]
  · rw [exec_migrate_reg, State.engOrder_set n.isLt hb]
  · rw [exec_haltClr_reg, State.engOrder_set n.isLt hb]
  · rw [exec_reinstate_reg, State.engOrder_set n.isLt hb]
  · rw [exec_mboxWrite_reg, State.mailboxHi_pair he hp]
  · rw [exec_trcArm_cmd, State.trcCommand_badParam h hw hb]
  · rw [exec_trcArm_cmd, State.trcCommand_ignored h hw h8 hu ht hb hi]
  · rw [exec_trcArm_cmd, State.trcCommand_taken h hw h8 hu ht hb hi]
  · rw [exec_trcStop_cmd, State.trcCommand_taken h hw h8 hu ht hb hi]
  · rw [exec_trcForce_cmd, State.trcCommand_taken h hw h8 hu ht hb hi]
  · subst h0
    rw [exec_domReqOn, State.powerReq_answered h hst (by decide) hd hr]
  · subst h1
    rw [exec_domReqRet, State.powerReq_answered h hst (by decide) hd hr]
  · subst h3
    rw [exec_domainReset, State.powerReq_answered h hst (by decide) hd hr]
  · rw [exec_domReqOn, State.powerReq_badState h h3]
  · rw [exec_domReqOn, State.powerReq_badDomain h h0 (by decide) hd]
  · rw [exec_coldReset, State.resetRow_badParam h h1 h2]
  · rw [exec_coldReset, State.resetRow_of_kind h hu hk (.inl rfl) ht]
  · rw [exec_warmReset, State.resetRow_of_kind h hu hk (.inr rfl) ht]
  · rw [exec_ctStart, State.ctOrder_noTurn h]
  · rw [exec_ctStop, State.ctOrder_noTurn h]
  · rw [exec_ctSwap, State.ctOrder_noTurn h]
  · rw [exec_trcArm_cmd, State.trcCommand_noTurn h]
  · rw [exec_trcStop_cmd, State.trcCommand_noTurn h]
  · rw [exec_trcForce_cmd, State.trcCommand_noTurn h]
  · rw [exec_coldReset, State.resetRow_noTurn h]
  · rw [exec_warmReset, State.resetRow_noTurn h]
  · rw [exec_domReqOn, State.powerReq_noTurn h]
  · rw [exec_domReqRet, State.powerReq_noTurn h]
  · rw [exec_domReqOff, State.powerReq_noTurn h]
  · rw [exec_domainReset, State.powerReq_noTurn h]

end Sys2Proof.Machine
end

section
/-!
PROOF. What holds of an engine right after reset (R86, R95, R123), what it does with a CYCLE that meets a running cycle (R93, R94) and
while RUN_EN is 0 (R96), and the obligations ResetState, OverrunPolicyDiscards and RunEnableOff.
-/
namespace Sys2Proof.Machine

/-! ### The register table at reset -/

/-- At reset no register is listed, so that each reads as the register map gives it. -/
theorem State.getR_reset (a : Nat) : State.reset.getR a = regReset a := rfl

/-! What the register map gives, looked up for each element of an array of registers. -/

theorem regReset_engMap_home : ∀ n : Fin 64, regReset (Reg.ENG_MAP n) = BitVec.ofNat 32 (2 ^ 31 + n) := by decide +kernel
theorem regReset_engMap_lee : ∀ n : Fin 68, 64 ≤ n.val → regReset (Reg.ENG_MAP n) = 0 := by decide +kernel
theorem regReset_engStat_home : ∀ n : Fin 64, regReset (Reg.ENG_STAT n) = 2 := by decide +kernel
theorem regReset_engStat_lee : ∀ n : Fin 68, 64 ≤ n.val → regReset (Reg.ENG_STAT n) = 6 := by decide +kernel
theorem regReset_engCtl : ∀ n : Fin 68, regReset (Reg.ENG_CTL n) = 4 := by decide +kernel
theorem regReset_engCyc : ∀ n : Fin 68, regReset (Reg.ENG_CYC n) = 2000000 := by decide +kernel
theorem regReset_memSweep : ∀ i : Fin 48, regReset (Reg.SEC_MEM_SWEEP i) = 0x80000064 := by decide +kernel

/-- A MAP word whose VALID is set names its logical engine (R86). -/
theorem engMap_valid {n : Nat} (h : n < 64) :
    bitOf (BitVec.ofNat 32 (2 ^ 31 + n)) 31 = true ∧ fld (BitVec.ofNat 32 (2 ^ 31 + n)) 5 0 = n := by
  have hw : (BitVec.ofNat 32 (2 ^ 31 + n)).toNat = 2 ^ 31 + n := by
    rw [BitVec.toNat_ofNat]
    omega
  have hbit : n.testBit 31 = false := Nat.testBit_lt_two_pow (by omega)
  refine ⟨?_, ?_⟩
  · rw [bitOf, hw, Nat.testBit_two_pow_add_eq, hbit]
    rfl
  · rw [fld, hw, Nat.shiftRight_zero]
    omega

/-- Each of the engines 0 to 63 holds the logical engine of its own number, between cycles (R86). -/
theorem reset_engine_atHome (n : Fin 64) : State.reset.logicalOf n = some n.val ∧ State.reset.engState n = 2 := by
  obtain ⟨hvalid, hname⟩ := engMap_valid n.isLt
  refine ⟨?_, ?_⟩
  · rw [State.logicalOf, State.getB, State.getF, State.getR_reset, regReset_engMap_home, if_pos hvalid, hname]
  · rw [State.engState, State.getF, State.getR_reset, regReset_engStat_home]
    rfl

/-- The lee engines are SPARE (R86). -/
theorem reset_lee_spare (n : Fin 68) (h : 64 ≤ n.val) : State.reset.logicalOf n = none ∧ State.reset.engState n = 6 := by
  refine ⟨?_, ?_⟩
  · rw [State.logicalOf, State.getB, State.getR_reset, regReset_engMap_lee n h]
    rfl
  · rw [State.engState, State.getF, State.getR_reset, regReset_engStat_lee n h]
    rfl

/-- PERIOD is 31.25 us (R95). -/
theorem reset_period (n : Fin 68) : State.reset.period n = 2000000 := by
  rw [State.period, State.getF, State.getR_reset, regReset_engCyc]
  rfl

theorem reset_lead : State.reset.lead = 64 * 64 := by decide +kernel
theorem reset_ahead : State.reset.ahead = 8 * unitsPerUs := by decide +kernel

/-- Settles O5: every store is empty at reset, and the registers that the statement names are looked up in the register map. -/
theorem resetState : Obligations.ResetState := by
  refine ⟨rfl, rfl, rfl, rfl, rfl, State.getR_reset, reset_engine_atHome, reset_lee_spare, fun n => ?_, fun i => ?_, reset_lead,
    reset_ahead, reset_period⟩
  · rw [State.getR_reset, regReset_engCtl]
  · rw [State.getR_reset, regReset_memSweep]

/-! ### A CYCLE in a running cycle (R94) -/

/-- An engine that runs or retries a cycle does not wait for one. -/
theorem State.engState_ne_two_of_inCycle {s : State} {n : Nat} (h : s.inCycle n = true) : s.engState n ≠ 2 := by
  intro h2
  simp [State.inCycle, h2] at h

/-- With OVR_POL 1 a trigger that meets a running cycle is lost, with TRIG_OVR. -/
theorem State.cycleAt_discarded {s : State} {n e : Nat} {data : Word} {t : DWord} (hrun : s.getB (Reg.ENG_CTL n) 0 = true)
    (hmig : (s.leng e).mig = none) (hin : s.inCycle n = true) (hpol : s.getB (Reg.ENG_CTL n) 3 = true) :
    s.cycleAt n e data t = (s.loseCycle n e).raise e 0x10 := by
  rw [State.cycleAt, if_neg (by simp [hrun]), if_neg (by simp [hmig]), if_neg (State.engState_ne_two_of_inCycle hin), if_pos hin,
    if_pos hpol]

/-- Settles O7: taking the trigger leaves the engine and its registers, and the running cycle discards it. -/
theorem overrunPolicyDiscards : Obligations.OverrunPolicyDiscards := by
  intro e s u d n hd hp ho hrun hmig hin hpol hu
  rw [exec_cycle_due hd hp ho, State.cycleAt_discarded (s := s.taken d) hrun hmig hin hpol, hu]
  rfl

/-! ### RUN_EN cleared (R96) -/

theorem exec_runEnClear (n : Fin 68) (s : State) :
    exec (.runEnClear n) s = .next (if s.getB (Reg.ENG_CTL n) 0 then s.clearRun n else s) := rfl

theorem exec_runEnClear_set {n : Fin 68} {s : State} (h : s.getB (Reg.ENG_CTL n) 0 = true) :
    exec (.runEnClear n) s = .next (s.clearRun n) := by
  rw [exec_runEnClear, if_pos h]

theorem exec_runEnClear_clear {n : Fin 68} {s : State} (h : s.getB (Reg.ENG_CTL n) 0 = false) :
    exec (.runEnClear n) s = .next s := by
  rw [exec_runEnClear, if_neg (by simp [h])]

/-- A write of a bit of CTL or STAT leaves which logical engine is held. -/
theorem State.logicalOf_setB {s : State} {a n i : Nat} {b : Bool} (h : Reg.ENG_MAP n ≠ a) :
    (s.setB a i b).logicalOf n = s.logicalOf n := by
  unfold State.logicalOf State.getB State.getF
  rw [State.getR_setB_ne _ _ _ _ _ h]

theorem engMap_ne_engCtl (n : Nat) : Reg.ENG_MAP n ≠ Reg.ENG_CTL n := by simp [Reg.ENG_MAP, Reg.ENG_CTL]
theorem engMap_ne_engStat (n : Nat) : Reg.ENG_MAP n ≠ Reg.ENG_STAT n := by simp [Reg.ENG_MAP, Reg.ENG_STAT]
theorem engCtl_ne_engStat (n : Nat) : Reg.ENG_CTL n ≠ Reg.ENG_STAT n := by simp [Reg.ENG_CTL, Reg.ENG_STAT]
theorem engLost_ne_engCtl (n : Nat) : Reg.ENG_LOST n ≠ Reg.ENG_CTL n := by simp [Reg.ENG_LOST, Reg.ENG_CTL]
theorem engLost_ne_engStat (n : Nat) : Reg.ENG_LOST n ≠ Reg.ENG_STAT n := by simp [Reg.ENG_LOST, Reg.ENG_STAT]

section ClearRun
variable {s u : State} {n : Nat} (hu : u = (s.setB (Reg.ENG_CTL n) 0 false).setB (Reg.ENG_STAT n) 6 false)
include hu

/-- Clearing RUN_EN and PEND_TRIG leaves which logical engine is held. -/
theorem State.logicalOf_clearRun : u.logicalOf n = s.logicalOf n := by
  rw [hu, State.logicalOf_setB (engMap_ne_engStat n), State.logicalOf_setB (engMap_ne_engCtl n)]

theorem State.clearRun_held {e : Nat} (he : s.logicalOf n = some e) :
    s.clearRun n = u.setLeng e { u.leng e with latched := none } := by
  have hheld : u.logicalOf n = some e := (State.logicalOf_clearRun hu).trans he
  rw [State.clearRun, ← hu]
  simp only [hheld]

theorem State.clearRun_free (he : s.logicalOf n = none) : s.clearRun n = u := by
  have hfree : u.logicalOf n = none := (State.logicalOf_clearRun hu).trans he
  rw [State.clearRun, ← hu]
  simp only [hfree]

theorem State.getB_runEn_clearRun (h : s.regsWf = true) : u.getB (Reg.ENG_CTL n) 0 = false := by
  rw [hu, State.getB, State.getR_setB_ne _ _ _ _ _ (engCtl_ne_engStat n)]
  exact State.getB_setB_false _ _ _ h

theorem State.getB_pendTrig_clearRun (h : s.regsWf = true) : u.getB (Reg.ENG_STAT n) 6 = false := by
  rw [hu]
  exact State.getB_setB_false _ _ _ (State.setB_wf _ _ _ _ h)

/-- The trigger that is dropped is not counted. -/
theorem State.getR_engLost_clearRun : u.getR (Reg.ENG_LOST n) = s.getR (Reg.ENG_LOST n) := by
  rw [hu, State.getR_setB_ne _ _ _ _ _ (engLost_ne_engStat n), State.getR_setB_ne _ _ _ _ _ (engLost_ne_engCtl n)]

end ClearRun

/-- Settles O8: the CYCLE is ignored, the SIGNAL is not, and clearing RUN_EN drops what is latched. -/
theorem runEnableOff : Obligations.RunEnableOff := by
  refine ⟨fun e s d n hd hp ho hrun => ?_, fun _ _ _ => exec_signal_due, fun n s u e hrun he hu => ⟨?_, fun h =>
    ⟨State.getB_runEn_clearRun hu h, State.getB_pendTrig_clearRun hu h, State.getR_engLost_clearRun hu⟩⟩⟩
  · rw [exec_cycle_due hd hp ho, State.cycleAt_notEnabled (s := s.taken d) hrun]
  · rw [exec_runEnClear_set hrun, State.clearRun_held hu he]

end Sys2Proof.Machine
end

section
/-!
PROOF. What an engine's loads and stores do (R89, R97, R131), case by case, and the obligation EngineLoadsAndStores.
-/
namespace Sys2Proof.Machine

/-! ### What runs for each command -/

section Rows
variable {n : Fin 68} {e : Nat} {s : State} {w : Word}

theorem exec_ld_issues (h : Issues s n e w .ld) (ecc : Ecc) :
    exec (.ld n ecc) s = .next ((s.issue n e w).load 8 ecc (fun x v => x.setRd (BitVec.ofNat 64 v))) :=
  congrArg Host.Outcome.next (h.engRun _)

theorem exec_ldw_issues (h : Issues s n e w .ldw) (ecc : Ecc) :
    exec (.ldw n ecc) s = .next ((s.issue n e w).load 4 ecc (fun x v => x.setRd (BitVec.ofNat 64 v))) :=
  congrArg Host.Outcome.next (h.engRun _)

theorem exec_ldws_issues (h : Issues s n e w .ldws) (ecc : Ecc) :
    exec (.ldws n ecc) s = .next ((s.issue n e w).load 4 ecc (fun x v => x.setRd (dw (sextInt 32 v)))) :=
  congrArg Host.Outcome.next (h.engRun _)

theorem exec_st_issues (h : Issues s n e w .st) : exec (.st n) s = .next ((s.issue n e w).store 8) :=
  congrArg Host.Outcome.next (h.engRun _)

theorem exec_stw_issues (h : Issues s n e w .stw) : exec (.stw n) s = .next ((s.issue n e w).store 4) :=
  congrArg Host.Outcome.next (h.engRun _)

end Rows

/-! ### Loads (R131) -/

section Load
variable {x : EngX} {a len : Nat} {f : EngX → Nat → State} (ha : a = x.ea)
include ha

theorem EngX.load_misaddressed (h : a % len ≠ 0 ∨ 0x18000 ≤ a) (ecc : Ecc) : x.load len ecc f = x.exc 3 := by
  subst ha
  exact if_pos h

variable (hal : a % len = 0)
include hal

theorem EngX.load_uncorrectable (h : a < 0x18000) :
    x.load len .uncorrectable f = ({ x with s := x.s.raise x.e 0x2000 } : EngX).exc 3 := by
  subst ha
  exact if_neg (by omega)

theorem EngX.load_ram (h : a < 0x10000) : x.load len .clean f = f x (leNat (ramBytes x.c.dram a len)) := by
  subst ha
  have hok : ¬ (x.ea % len ≠ 0 ∨ 0x18000 ≤ x.ea) := by omega
  simp only [EngX.load, if_neg hok, EngX.eccRead, if_pos h]

end Load

/-! ### Stores (R97, R131) -/

section Store
variable {x : EngX} {a len : Nat} (ha : a = x.ea)
include ha

theorem EngX.store_misaddressed (h : a % len ≠ 0 ∨ 0x10000 ≤ a) : x.store len = x.exc 3 := by
  subst ha
  exact if_pos h

theorem EngX.store_logged (hal : a % len = 0) (h : a < 0x10000) :
    x.store len = x.s.putLogged x.n x.e ((x.c.logLine (a / 32)).write a (leBytes len x.rd.toNat)) := by
  subst ha
  exact if_neg (by omega)

end Store

/-- Settles O23: each clause is one case of a load or of a store at the address that the instruction names. -/
theorem engineLoadsAndStores : Obligations.EngineLoadsAndStores := by
  rintro n e s w x a rfl ha
  refine ⟨fun h hal hr => ?_, fun h hal hr => ?_, fun h hal hr => ?_, fun h hbad ecc => ?_, fun h hal hlt => ?_,
    fun h hal hr => ?_, fun h hal hr => ?_, fun h hbad => ?_⟩
  · rw [exec_ld_issues h, EngX.load_ram ha hal hr]
    rfl
  · rw [exec_ldw_issues h, EngX.load_ram ha hal hr]
    rfl
  · rw [exec_ldws_issues h, EngX.load_ram ha hal hr]
    rfl
  · rw [exec_ld_issues h, EngX.load_misaddressed ha hbad]
  · rw [exec_ld_issues h, EngX.load_uncorrectable ha hal hlt]
    rfl
  · rw [exec_st_issues h, EngX.store_logged ha hal hr]
    rfl
  · rw [exec_stw_issues h, EngX.store_logged ha hal hr]
    rfl
  · rw [exec_st_issues h, EngX.store_misaddressed ha hbad]

end Sys2Proof.Machine
end

section
/-!
PROOF. What an engine's POST, CANCEL and SEND do (R51, R99, R140, R141, R145), case by case, and the obligation EnginePostsAndSends.
-/
namespace Sys2Proof.Machine

/-! ### Effects and inputs outside a retry (R100, R101) -/

/-- An effect that leaves takes its number with it, and the register waits for the status. -/
theorem EngX.asked_go {x : EngX} {f : Effect} {c : LEng} {k : Nat} (h : x.release f = .go c k) (act : State → Nat → State) :
    x.asked f act =
      act (x.s.putLogged x.n x.e { c with efPend := c.efPend ++ [(fRD x.w, k)], efWait := c.efWait ++ [k] }) k := by
  simp only [EngX.asked, h]

/-- Only a retry replays inputs. -/
theorem EngX.replay?_live {x : EngX} (h : x.retry = false) : x.replay? = none := by
  simp [EngX.replay?, h]

/-! ### POST (R140) -/

section Post
variable {x : EngX} {due : DWord} {c : LEng} {k : Nat} (hgo : x.release (.post due x.rb) = .go c k)
include hgo

theorem EngX.post_sent (hr : x.s.fifoRoom x.e = true) : x.post due =
    (x.s.putLogged x.n x.e { c with efPend := c.efPend ++ [(fRD x.w, k)], efWait := c.efWait ++ [k] }).fifoPush x.e
      (BitVec.ofNat 128 (due.toNat <<< 64 + x.rb.toNat)) (.engine x.e k) := by
  simp only [EngX.post, hgo, if_pos hr, EngX.asked_go hgo]

theorem EngX.post_stalls (hr : x.s.fifoRoom x.e = false) : x.post due = x.s.putLogged x.n x.e (x.stalled (.post due)) := by
  simp [EngX.post, hgo, hr]

end Post

/-! ### The instruction that issues is of its engine (R124) -/

theorem State.issue_s (s : State) (n e : Nat) (w : Word) : (s.issue n e w).s = s := rfl
theorem State.issue_n (s : State) (n e : Nat) (w : Word) : (s.issue n e w).n = n := rfl
theorem State.issue_e (s : State) (n e : Nat) (w : Word) : (s.issue n e w).e = e := rfl
theorem State.issue_w (s : State) (n e : Nat) (w : Word) : (s.issue n e w).w = w := rfl

theorem exec_post (n : Fin 68) (s : State) : exec (.post n) s = execPost n s := rfl

section Rows
variable {n : Fin 68} {e : Nat} {s : State} {w : Word}

section PostRow
variable (h : Issues s n e w .post)
include h

theorem exec_post_atRa (hm : fMOD w = 0) : exec (.post n) s = .next ((s.issue n e w).post (s.issue n e w).ra) := by
  simp only [exec_post, execPost, h.engRunW, State.issue_e, State.issue_w, h.flows, hm]

theorem exec_post_atCyct (hm : fMOD w = 1) :
    exec (.post n) s = .next ((s.issue n e w).post ((s.issue n e w).core.cyct + (s.issue n e w).ra)) := by
  simp only [exec_post, execPost, h.engRunW, State.issue_e, State.issue_w, h.flows, hm]

/-- NOW is an input: outside a retry it is read from the device time and logged. -/
theorem exec_post_atNow (hm : 2 ≤ fMOD w) (hlive : (s.issue n e w).retry = false) : exec (.post n) s =
    .next (({ s.issue n e w with c := (s.issue n e w).logIn { status := s.time } } : EngX).post (s.time + (s.issue n e w).ra)) := by
  obtain ⟨m, hm⟩ := Nat.exists_eq_add_of_le' hm
  simp only [exec_post, execPost, h.engRunW, State.issue_e, State.issue_w, h.flows, hm, EngX.replay?_live hlive]

end PostRow

/-! ### CANCEL (R141) -/

section CancelRow
variable (h : Issues s n e w .cancel)
include h

theorem exec_cancel_illegal (hw : 2 ^ 21 ≤ (s.issue n e w).ra.toNat) : exec (.cancel n) s = .next ((s.issue n e w).exc 1) := by
  refine (congrArg Host.Outcome.next (h.engRun _)).trans ?_
  simp only [if_pos hw]

/-- A CANCEL acts on the engine's own port, and its status is on its way at once. -/
theorem exec_cancel_sent {u : State} {c : LEng} {k m : Nat} {r : State × Nat} (hm : m = (s.issue n e w).ra.toNat) (hw : m < 2 ^ 21)
    (hgo : (s.issue n e w).release (.cancel (s.issue n e w).ra) = .go c k)
    (hu : u = s.putLogged n e { c with efPend := c.efPend ++ [(fRD w, k)], efWait := c.efWait ++ [k] })
    (hr : r = u.cancel (nbits m 7 0) (nbits m 15 8) (nbits m 19 16) e (m.testBit 20) false) :
    exec (.cancel n) s = .next (r.1.engStatus e k r.2) := by
  subst hm hr hu
  refine (congrArg Host.Outcome.next (h.engRun _)).trans ?_
  simp only [if_neg (Nat.not_le.2 hw), EngX.asked_go hgo]
  rfl

end CancelRow

/-! ### SEND (R145) -/

section SendRow
variable (h : Issues s n e w .send)
include h

theorem exec_send_illegal (hw : 2 ^ 10 ≤ (s.issue n e w).ra.toNat) : exec (.send n) s = .next ((s.issue n e w).exc 1) := by
  refine (congrArg Host.Outcome.next (h.engRun _)).trans ?_
  simp only [if_pos hw]

/-- A SEND writes the mailbox; while the write is held for a wake it has no status (R112). -/
theorem exec_send_sent {u : State} {c : LEng} {k m : Nat} {r : State × Option Nat} (hm : m = (s.issue n e w).ra.toNat) (hw : m < 2 ^ 10)
    (hgo : (s.issue n e w).release (.send (m / 16) (m % 16) (s.issue n e w).rb) = .go c k)
    (hu : u = s.putLogged n e { c with efPend := c.efPend ++ [(fRD w, k)], efWait := c.efWait ++ [k] })
    (hr : r = u.mailWrite (m / 16) (m % 16) (s.issue n e w).rb (.engine e k)) :
    exec (.send n) s = .next (r.2.elim r.1 (r.1.engStatus e k)) := by
  subst hm hu
  have hr' : (s.putLogged n e { c with efPend := c.efPend ++ [(fRD w, k)], efWait := c.efWait ++ [k] }).mailWrite
    ((s.issue n e w).ra.toNat / 16) ((s.issue n e w).ra.toNat % 16) (s.issue n e w).rb (.engine e k) = r := hr.symm
  refine (congrArg Host.Outcome.next (h.engRun _)).trans ?_
  simp only [if_neg (Nat.not_le.2 hw), EngX.asked_go hgo, State.issue_s, State.issue_n, State.issue_e, State.issue_w, hr']
  cases r.2 <;> rfl

end SendRow
end Rows

/-- Settles O25: each clause is one case of a POST, of a CANCEL or of a SEND whose effect leaves. -/
theorem enginePostsAndSends : Obligations.EnginePostsAndSends := by
  rintro n e s u w x c k rfl rfl
  refine ⟨fun h hm hgo hr => ?_, fun h hm hgo hr => ?_, fun h hm hlive y hy hgo hr => ?_, fun h hm hgo hr => ?_,
    fun h hw hgo => ?_, exec_cancel_illegal, fun h hw hgo => ⟨fun st hst => ?_, fun hst => ?_⟩, exec_send_illegal⟩
  · rw [exec_post_atRa h hm, EngX.post_sent hgo hr]
    rfl
  · rw [exec_post_atRa h hm, EngX.post_stalls hgo hr]
    rfl
  · subst hy
    rw [exec_post_atNow h hm hlive, EngX.post_sent hgo hr]
    rfl
  · rw [exec_post_atCyct h hm, EngX.post_sent hgo hr]
    rfl
  · rw [exec_cancel_sent h rfl hw hgo rfl rfl]
  · rw [exec_send_sent h rfl hw hgo rfl rfl, hst, Option.elim_some]
  · rw [exec_send_sent h rfl hw hgo rfl rfl, hst, Option.elim_none]

end Sys2Proof.Machine
end

section
/-!
PROOF. What an engine's waits and receives do when they issue, and what ends a stalled instruction (R113, R114, R143, R144, R146, R147,
R156), case by case, and the obligation EngineWaitsAndStalls.
-/
namespace Sys2Proof.Machine

/-- A word that is zero-extended is 0 only where it was. -/
theorem zextWord_eq_zero (v : Word) : (BitVec.ofNat 64 v.toNat : DWord) = 0 ↔ v = 0 := by bv_omega

/-! ### Waits that issue (R143, R144) -/

section Issuing
variable {n : Fin 68} {e : Nat} {s : State} {w : Word} {x : EngX} (hx : x = s.issue n e w) (hlive : x.retry = false)
include hx

/-- TFCLR clears the flags that ra names. -/
theorem exec_tfclr_clears (h : Issues s n e w .tfclr) : exec (.tfclr n) s =
    .next (s.setLeng e { x.c with core := { x.core with tflags := x.core.tflags &&& ~~~(loW x.ra) } }) := by
  subst hx
  exact congrArg Host.Outcome.next (h.engRun _)

include hlive

section Waitt
variable (h : Issues s n e w .waitt) {t : DWord} (ht : t = if fMOD w = 0 then x.ra else x.core.cyct + x.ra)
include h ht

/-- A WAITT is judged by its instant when it issues. -/
theorem exec_waitt_live : exec (.waitt n) s = .next (
    if !before s.time t then x.statusIn s stPAST
    else if before (x.core.cyct + units x.period) t then x.statusIn s stBEYOND
    else x.stall (.waitt t)) := by
  subst hx ht
  refine (congrArg Host.Outcome.next (h.engRun _)).trans ?_
  simp only [EngX.replay?_live hlive]
  rfl

theorem exec_waitt_past (hp : before s.time t = false) : exec (.waitt n) s = .next (x.statusIn s stPAST) := by
  rw [exec_waitt_live hx hlive h ht, if_pos (by simp [hp])]

variable (hp : before s.time t = true)
include hp

theorem exec_waitt_beyond (hb : before (x.core.cyct + units x.period) t = true) :
    exec (.waitt n) s = .next (x.statusIn s stBEYOND) := by
  rw [exec_waitt_live hx hlive h ht, if_neg (by simp [hp]), if_pos hb]

theorem exec_waitt_stalls (hb : before (x.core.cyct + units x.period) t = false) :
    exec (.waitt n) s = .next (x.stall (.waitt t)) := by
  rw [exec_waitt_live hx hlive h ht, if_neg (by simp [hp]), if_neg (by simp [hb])]

end Waitt

section Waitf
variable (h : Issues s n e w .waitf) {m v : Word} (hm : m = loW x.ra) (hv : v = x.core.tflags &&& m)
include h hm hv

/-- A WAITF looks at the flags under its mask when it issues. -/
theorem exec_waitf_live : exec (.waitf n) s = .next (
    if v ≠ 0 then x.flagsIn (fRD w) (BitVec.ofNat 64 v.toNat) stOK
    else if fIMM w = 0 then x.flagsIn (fRD w) 0 stTIMEOUT
    else x.stall (.waitf (fRD w) m)) := by
  subst hx hm hv
  refine (congrArg Host.Outcome.next (h.engRunW _ _)).trans ?_
  simp only [EngX.replay?_live hlive, ne_eq, zextWord_eq_zero]
  rfl

theorem exec_waitf_met (h0 : v ≠ 0) : exec (.waitf n) s = .next (x.flagsIn (fRD w) (BitVec.ofNat 64 v.toNat) stOK) := by
  rw [exec_waitf_live hx hlive h hm hv, if_pos h0]

variable (h0 : v = 0)
include h0

theorem exec_waitf_polls (hi : fIMM w = 0) : exec (.waitf n) s = .next (x.flagsIn (fRD w) 0 stTIMEOUT) := by
  rw [exec_waitf_live hx hlive h hm hv, if_neg (by simp [h0]), if_pos hi]

theorem exec_waitf_stalls (hi : fIMM w ≠ 0) : exec (.waitf n) s = .next (x.stall (.waitf (fRD w) m)) := by
  rw [exec_waitf_live hx hlive h hm hv, if_neg (by simp [h0]), if_neg hi]

end Waitf

/-! ### Mailboxes (R146) -/

section Recv
variable (h : Issues s n e w .recv)
include h

/-- A RECV looks at its mailbox when it issues. -/
theorem exec_recv_live : exec (.recv n) s = .next (
    if s.boxFull n (fRA w) then
      x.liveIn (s.setB (Reg.ENG_MBOX_STAT n) (fRA w) false) { status := 0, value := some (x.c.box (fRA w)) }
        (fun c => c.withCore ((c.core.setG (fRD w) (x.c.box (fRA w))).status 0))
    else if fIMM w = 0 then x.statusIn (s.raise e 0x100) stTIMEOUT
    else x.stall (.recv (fRD w) (fRA w))) := by
  subst hx
  refine (congrArg Host.Outcome.next (h.engRunW _ _)).trans ?_
  simp only [EngX.replay?_live hlive]
  rfl

theorem exec_recv_full (hf : s.boxFull n (fRA w) = true) : exec (.recv n) s =
    .next (x.liveIn (s.setB (Reg.ENG_MBOX_STAT n) (fRA w) false) { status := 0, value := some (x.c.box (fRA w)) }
      (fun c => c.withCore ((c.core.setG (fRD w) (x.c.box (fRA w))).status 0))) := by
  rw [exec_recv_live hx hlive h, if_pos hf]

variable (hf : s.boxFull n (fRA w) = false)
include hf

theorem exec_recv_polls (hi : fIMM w = 0) : exec (.recv n) s = .next (x.statusIn (s.raise e 0x100) stTIMEOUT) := by
  rw [exec_recv_live hx hlive h, if_neg (by simp [hf]), if_pos hi]

theorem exec_recv_stalls (hi : fIMM w ≠ 0) : exec (.recv n) s = .next (x.stall (.recv (fRD w) (fRA w))) := by
  rw [exec_recv_live hx hlive h, if_neg (by simp [hf]), if_neg hi]

end Recv

/-- A PEEK takes the value of a full mailbox and leaves it full. -/
theorem exec_peek_full (h : Issues s n e w .peek) (hf : s.boxFull n (fRA w) = true) : exec (.peek n) s =
    .next (x.liveIn s { status := 0, value := some (x.c.box (fRA w)) }
      (fun c => c.withCore ((c.core.setG (fRD w) (x.c.box (fRA w))).status 0))) := by
  subst hx
  refine (congrArg Host.Outcome.next (h.engRun _)).trans ?_
  have hf' : s.boxFull n (fRA (s.issue n e w).w) = true := hf
  simp only [EngX.input, EngX.replay?_live hlive, if_pos hf']
  rfl

/-- A RECVM takes the first full mailbox of its mask. -/
theorem exec_recvm_full (h : Issues s n e w .recvm) {m : Nat}
    (hm : (bitsSet 16 (x.ra.toNat % 65536)).find? (fun m => s.boxFull n m) = some m) : exec (.recvm n) s =
      .next (x.liveIn (s.setB (Reg.ENG_MBOX_STAT n) m false) { status := BitVec.ofNat 64 (256 * m), value := some (x.c.box m) }
        (fun c => c.withCore (c.core.receivedAny (fRD w) { status := BitVec.ofNat 64 (256 * m), value := some (x.c.box m) }))) := by
  subst hx
  refine (congrArg Host.Outcome.next (h.engRunW _ _)).trans ?_
  simp only [EngX.replay?_live hlive, hm]
  rfl

end Issuing

/-! ### What ends a stall -/

/-- A wait of `k` engine clocks, each 320/3 units, is over (log entry 194). -/
theorem LEng.waited_eq (c : LEng) (now : DWord) (k : Nat) :
    c.waited now k = decide (((320 * k : Nat) : Int) ≤ 3 * tdiff now c.stallAt) := rfl

theorem exec_waitTimeout (n : Fin 68) (s : State) : exec (.waitTimeout n) s = execWaitTimeout n s := rfl
theorem exec_bpAck (n : Fin 68) (v : DWord) (s : State) : exec (.bpAck n v) s = execBpAck n v s := rfl
theorem exec_bpTimeout (n : Fin 68) (s : State) : exec (.bpTimeout n) s = execBpTimeout n s := rfl

/-! What a stalled instruction works on is what its engine holds. -/

theorem State.resume_e (s : State) (n e : Nat) : (s.resume n e).e = e := rfl
theorem State.resume_tflags (s : State) (n e : Nat) : (s.resume n e).c.core.tflags = (s.leng e).core.tflags := rfl
theorem State.resume_waited (s : State) (n e : Nat) (now : DWord) (k : Nat) :
    (s.resume n e).c.waited now k = (s.leng e).waited now k := rfl

section Stalled
variable {n : Fin 68} {e : Nat} {s : State} {x : EngX} (hx : x = s.resume n e)
include hx

/-- The instant of a WAITT ends it (R143). -/
theorem exec_waittWake_reached {t : DWord} (h : Stalls s n e (.waitt t)) (hr : s.reached t = true) :
    exec (.waittWake n) s = .next (x.statusIn s stOK) := by
  subst hx
  refine (congrArg Host.Outcome.next (h.waiting _)).trans ?_
  simp only [if_pos hr]

/-! #### WAIT_TIMEOUT (R113, R144) -/

section Timeout
variable {rd : Nat} (hw : (s.leng e).waited s.time (fIMM (s.wordAt e)) = true)
include hw

theorem exec_waitTimeout_flags {m : Word} (h : Stalls s n e (.waitf rd m)) (h0 : (s.leng e).core.tflags &&& m = 0) :
    exec (.waitTimeout n) s = .next (x.flagsIn rd 0 stTIMEOUT) := by
  subst hx
  simp only [exec_waitTimeout, execWaitTimeout, h.waiting, State.resume_e, State.resume_waited, hw, Bool.not_true,
    Bool.false_eq_true, if_false, State.resume_tflags, h0, if_true]

theorem exec_waitTimeout_recv {m : Nat} (h : Stalls s n e (.recv rd m)) (h0 : s.boxFull n m = false) :
    exec (.waitTimeout n) s = .next (x.statusIn (s.raise e 0x100) stTIMEOUT) := by
  subst hx
  simp only [exec_waitTimeout, execWaitTimeout, h.waiting, State.resume_e, State.resume_waited, hw, Bool.not_true,
    Bool.false_eq_true, if_false, h0]

theorem exec_waitTimeout_recvm {m : Nat} (h : Stalls s n e (.recvm rd m))
    (h0 : ∀ i < 16, m.testBit i = true → s.boxFull n i = false) :
    exec (.waitTimeout n) s = .next (x.statusIn (s.raise e 0x100) stTIMEOUT) := by
  subst hx
  have h0' : (bitsSet 16 m).any (fun i => s.boxFull n i) = false := by simpa [bitsSet] using h0
  simp only [exec_waitTimeout, execWaitTimeout, h.waiting, State.resume_e, State.resume_waited, hw, Bool.not_true,
    Bool.false_eq_true, if_false, h0']

end Timeout

/-! #### Bay ports (R114, R147) -/

section Bay
variable {st : Stall} (h : Stalls s n e st) (hb : st.bay.isSome = true)
include h hb

omit hx in
theorem Stalls.bayStalled : s.bayStalled n = true := by
  simpa [State.bayStalled, h.holds, h.stalled] using hb

/-- An acknowledge of a live interface ends the transfer. -/
theorem exec_bpAck_live {v : DWord} (hl : s.bayLive e st = true) :
    exec (.bpAck n v) s = .next (x.bayEnd s st stOK v) := by
  subst hx
  simp only [exec_bpAck, execBpAck, if_pos (h.bayStalled hb), h.waiting, State.resume_e, hl, if_true]

omit hb in
/-- The bound of a transfer ends it once its sector is awake. -/
theorem exec_bpTimeout_due {p sec : Nat} (hb : st.bay = some (p, sec)) (hw : (s.leng e).waited s.time (s.bpTmo n) = true)
    (hd : s.domOn sec = true) : exec (.bpTimeout n) s = .next (x.bayEnd (s.raise e 0x400) st stTIMEOUT 0) := by
  subst hx
  have hd' : (st.bay.any fun b => s.domOn (domSector b.2)) = true := by rw [hb]; exact hd
  simp only [exec_bpTimeout, execBpTimeout, if_pos (h.bayStalled (by simp [hb])), h.waiting, State.resume_e, State.resume_waited,
    hw, hd', Bool.and_true, if_true]

end Bay

end Stalled

/-- A status that a drain does not get is a mismatch (R156; log entry 49). -/
theorem exec_drainTimeout_due {n : Fin 68} {e k : Nat} {s : State} (h : Stalls s n e .drain) (hw : (s.leng e).waited s.time 65535 = true)
    (hk : k ∈ (s.leng e).efWait) (hh : s.statusHeld e k = false) : exec (.drainTimeout n) s = .next (s.mismatch n e 0) := by
  have hany : ((s.leng e).efWait.any fun k => !s.statusHeld e k) = true := List.any_eq_true.2 ⟨k, hk, by simp [hh]⟩
  exact (congrArg Host.Outcome.next (h.waiting _)).trans (congrArg Host.Outcome.next (if_pos ⟨rfl, hw, hany⟩))

/-- Settles O26: each clause is one case of a wait that issues, or of what ends a stall. -/
theorem engineWaitsAndStalls : Obligations.EngineWaitsAndStalls := by
  refine ⟨fun n e s w x hx hlive => ⟨fun h hm hp => ?_, fun h hm hp hb => ?_, fun t h ht => exec_waitt_beyond hx hlive h ht,
      fun h h0 => exec_waitf_met hx hlive h rfl rfl h0, fun h h0 hi => ?_, fun h h0 hi => exec_waitf_polls hx hlive h rfl rfl h0 hi,
      exec_tfclr_clears hx, exec_recv_full hx hlive, fun h hf hi => ?_, exec_recv_polls hx hlive, exec_peek_full hx hlive,
      fun m h => exec_recvm_full hx hlive h⟩,
    fun n e s x hx => ⟨fun t => exec_waittWake_reached hx, fun rd m h hw => exec_waitTimeout_flags hx hw h,
      fun rd m h hw => exec_waitTimeout_recv hx hw h, fun rd m h hw => exec_waitTimeout_recvm hx hw h, fun rd p sec v h hl => ?_,
      fun p sec k v h hl => ?_, fun rd p sec h hw hd => ?_, fun k => exec_drainTimeout_due, fun c k => c.waited_eq s.time k⟩⟩
  · exact exec_waitt_past hx hlive h (if_pos hm).symm hp
  · rw [exec_waitt_stalls hx hlive h (if_pos hm).symm hp hb, hx]
    rfl
  · rw [exec_waitf_stalls hx hlive h rfl rfl h0 hi, hx]
    rfl
  · rw [exec_recv_stalls hx hlive h hf hi, hx]
    rfl
  · rw [exec_bpAck_live hx h rfl hl, hx]
    rfl
  · rw [exec_bpAck_live hx h rfl hl, hx]
    rfl
  · rw [exec_bpTimeout_due hx h rfl hw hd, hx]
    rfl

end Sys2Proof.Machine
end

section
/-!
PROOF. What an engine's bay-port transfers and requests do when they issue (R89, R147, R153), case by case, and the obligation
EngineBayPortsAndRequests.
-/
namespace Sys2Proof.Machine

/-! ### Bay ports (R147) -/

section BayRows
variable {n : Fin 68} {e : Nat} {s : State} {w : Word} {x : EngX} (hx : x = s.issue n e w)
include hx

/-- A read of an attached port wakes the sector and stalls. -/
theorem exec_bprd_attached {sec : Nat} (h : Issues s n e w .bprd) (hlive : x.retry = false)
    (hp : s.baySector e (fRA w) = some sec) :
    exec (.bprd n) s = .next (({ x with s := s.wake sec 1 } : EngX).stall (.bayRead (fRD w) (fRA w) sec)) := by
  subst hx
  refine (congrArg Host.Outcome.next (h.engRun _)).trans ?_
  simp only [EngX.replay?_live hlive, State.issue_e, State.issue_w, hp]
  rfl

theorem exec_bprd_noPort (h : Issues s n e w .bprd) (hlive : x.retry = false) (hp : s.baySector e (fRA w) = none) :
    exec (.bprd n) s = .next (x.statusIn (s.raise e 0x400) stNOPORT) := by
  subst hx
  refine (congrArg Host.Outcome.next (h.engRun _)).trans ?_
  simp only [EngX.replay?_live hlive, State.issue_e, State.issue_w, hp]

section Bpwr
variable (h : Issues s n e w .bpwr) {c : LEng} {k : Nat} (hgo : x.release (.bayWrite (fRA w) x.rd) = .go c k)
include h hgo

theorem exec_bpwr_noPort (hp : s.baySector e (fRA w) = none) : exec (.bpwr n) s =
    .next ((s.raise e 0x400).putLogged n e ((c.takeStatus k (BitVec.ofNat 64 stNOPORT)).withCore (c.core.status stNOPORT))) := by
  subst hx
  refine (congrArg Host.Outcome.next (h.engRun _)).trans ?_
  simp only [State.issue_e, State.issue_w, hgo, hp]
  rfl

/-- A write to an attached port leaves with its number, wakes the sector and stalls. -/
theorem exec_bpwr_attached {sec : Nat} (hp : s.baySector e (fRA w) = some sec) (hk : c.efWait.contains k = false) :
    exec (.bpwr n) s = .next ((s.putLogged n e { c with
      pc := (s.leng e).pc, stall := some (.bayWrite (fRA w) sec k), stallAt := s.time, efWait := c.efWait ++ [k] }).wake sec 1) := by
  subst hx
  refine (congrArg Host.Outcome.next (h.engRun _)).trans ?_
  simp only [State.issue_e, State.issue_w, hgo, hp, hk]
  rfl

end Bpwr
end BayRows

/-! ### Requests (R153) -/

section Request
variable {x : EngX} {mode a : Nat} (ha : a = x.ra.toNat)
include ha

/-- A block that is not aligned, or not in data RAM, is MEMORY (R89). -/
theorem EngX.request_misaddressed (h : a % 16 ≠ 0 ∨ 0x10000 ≤ a) (ecc : Ecc) : x.request mode ecc = x.exc 3 := by
  subst ha
  exact if_pos h

variable (hal : a % 16 = 0) (hlt : a < 0x10000)
include hal hlt

theorem EngX.request_uncorrectable : x.request mode .uncorrectable = ({ x with s := x.s.raise x.e 0x2000 } : EngX).exc 3 := by
  subst ha
  exact if_neg (by omega)

/-- The request of a block that can be read leaves for its arbiter, which answers whether it is accepted. -/
theorem EngX.request_sent {blk data : List Byte} {c : LEng} {k : Nat} {u : State} {r : State × Nat} (hblk : blk = ramBytes x.c.dram a 16)
    (hdata : data = if mode = 1 ∨ mode = 4 ∨ mode = 5 then bufferBytes x.c.dram (leNat (sliceB blk 10 2)) (leNat (sliceB blk 8 2))
      else if mode = 2 then [] else sliceB blk 10 2)
    (hgo : x.release (.request mode a blk data) = .go c k)
    (hu : u = x.s.putLogged x.n x.e { c with efPend := c.efPend ++ [(fRD x.w, k)], efWait := c.efWait ++ [k] })
    (hr : r = u.submit mode (leNat (blk.take 8)) (leNat (sliceB blk 8 2)) data (leNat (sliceB blk 12 1)) (.engine x.e a)) :
    x.request mode .clean = r.1.engStatus x.e k r.2 := by
  subst ha hblk hdata hu hr
  have hok : ¬ (x.ra.toNat % 16 ≠ 0 ∨ 0x10000 ≤ x.ra.toNat) := by omega
  simp only [EngX.request, if_neg hok, EngX.eccRead, EngX.asked_go hgo]

end Request

section RequestRows
variable {n : Fin 68} {e : Nat} {s : State} {w : Word}

theorem exec_rqNvRead_issues (h : Issues s n e w .rqNvRead) (ecc : Ecc) :
    exec (.rqNvRead n ecc) s = .next ((s.issue n e w).request 0 ecc) := congrArg Host.Outcome.next (h.engRun _)
theorem exec_rqNvProgram_issues (h : Issues s n e w .rqNvProgram) (ecc : Ecc) :
    exec (.rqNvProgram n ecc) s = .next ((s.issue n e w).request 1 ecc) := congrArg Host.Outcome.next (h.engRun _)
theorem exec_rqNvErase_issues (h : Issues s n e w .rqNvErase) (ecc : Ecc) :
    exec (.rqNvErase n ecc) s = .next ((s.issue n e w).request 2 ecc) := congrArg Host.Outcome.next (h.engRun _)
theorem exec_rqPrmRead_issues (h : Issues s n e w .rqPrmRead) (ecc : Ecc) :
    exec (.rqPrmRead n ecc) s = .next ((s.issue n e w).request 3 ecc) := congrArg Host.Outcome.next (h.engRun _)
theorem exec_rqPrmWrite_issues (h : Issues s n e w .rqPrmWrite) (ecc : Ecc) :
    exec (.rqPrmWrite n ecc) s = .next ((s.issue n e w).request 4 ecc) := congrArg Host.Outcome.next (h.engRun _)
theorem exec_rqTrunkTransmit_issues (h : Issues s n e w .rqTrunk) (ecc : Ecc) :
    exec (.rqTrunkTransmit n ecc) s = .next ((s.issue n e w).request 5 ecc) := congrArg Host.Outcome.next (h.engRun _)

end RequestRows

/-- Settles O27: each clause is one case of a transfer, or of a request by its row's mode. -/
theorem engineBayPortsAndRequests : Obligations.EngineBayPortsAndRequests := by
  rintro n e s u w x c k a blk hx hu ha hblk
  refine ⟨fun sec h hlive hp => ?_, exec_bprd_noPort hx, fun h hgo => exec_bpwr_noPort hx h hgo,
    fun sec h hgo => exec_bpwr_attached hx h hgo,
    fun h hbad ecc => ?_, fun h hal hlt => ?_, fun hal hlt mode data hdata hgo r hr => ?_⟩
  · rw [exec_bprd_attached hx h hlive hp, hx]
    rfl
  · rw [exec_rqNvRead_issues h, ← hx, EngX.request_misaddressed ha hbad]
  · rw [exec_rqNvRead_issues h, ← hx, EngX.request_uncorrectable ha hal hlt, hx]
    rfl
  · subst hx
    have hsent : (s.issue n e w).request mode .clean = r.1.engStatus e k r.2 :=
      EngX.request_sent ha hal hlt hblk hdata hgo hu hr
    refine ⟨?_, ?_, ?_, ?_, ?_, ?_⟩ <;> rintro rfl h
    · rw [exec_rqNvRead_issues h, hsent]
    · rw [exec_rqNvProgram_issues h, hsent]
    · rw [exec_rqNvErase_issues h, hsent]
    · rw [exec_rqPrmRead_issues h, hsent]
    · rw [exec_rqPrmWrite_issues h, hsent]
    · rw [exec_rqTrunkTransmit_issues h, hsent]

end Sys2Proof.Machine
end

section
/-!
PROOF. What an engine's faults do and what the host orders of it (R96, R101, R107–R110, R118, R123), case by case, and the obligation
EngineFaultsAndOrders.
-/
namespace Sys2Proof.Machine

/-! ### What runs for each command -/

theorem exec_lockstepMismatch (n : Fin 68) (bit : Fin 64) (s : State) :
    exec (.lockstepMismatch n bit) s = execLockstepMismatch n bit s := rfl
theorem exec_engineWatchdog (n : Fin 68) (s : State) : exec (.engineWatchdog n) s = execEngineWatchdog n s := rfl
theorem exec_migrate (v : ViaN) (s : State) : exec (.migrate v) s = execMigrate v s := rfl
theorem exec_haltClr (v : ViaN) (s : State) : exec (.haltClr v) s = execHaltClr v s := rfl
theorem exec_reinstate (v : ViaN) (s : State) : exec (.reinstate v) s = execReinstate v s := rfl

/-! ### Faults in a cycle (R101, R118) -/

section Faults
variable {n : Fin 68} {s : State} {e : Nat} (he : s.logicalOf n = some e) (hin : s.inCycle n = true)
include he hin

theorem exec_lockstepMismatch_inCycle (bit : Fin 64) (ho : s.domOn (domEngine n) = true) :
    exec (.lockstepMismatch n bit) s = .next (s.mismatch n e bit) := by
  simp only [exec_lockstepMismatch, execLockstepMismatch, he, hin, ho, Bool.and_true, if_true]

/-- The watchdog's share of PERIOD has passed since the boundary. -/
theorem exec_engineWatchdog_due (hw : ((s.wdtLim n * s.period n : Nat) : Int) ≤ 100 * tdiff s.time (s.leng e).bound) :
    exec (.engineWatchdog n) s = .next ((s.raise e 0x40).abandon n e) := by
  simp only [exec_engineWatchdog, execEngineWatchdog, he, hin, hw, decide_true, Bool.and_true, if_true]

end Faults

/-! ### MIGRATE, HALT_CLR and REINSTATE (R107, R109, R110) -/

section Orders
variable {s : State} {n m e : Nat} {c : Option CmdRef} (he : s.logicalOf n = some e)
include he

/-- A MIGRATE to a SPARE engine is taken while no migration is under way. -/
theorem State.migrate_taken (hm : m < 68) (hs : s.engState m = 6) (hg : (s.leng e).mig = none) :
    s.migrate n m c = (s.startMigration n m e { target := m, cmd := c }, true) := by
  simp only [State.migrate, he]
  exact if_pos ⟨hm, hs, hg⟩

theorem State.migrate_notSpare (hs : s.engState m ≠ 6) :
    s.migrate n m c = (s.setB (Reg.ENG_STAT n) 9 true, false) := by
  simp only [State.migrate, he]
  exact if_neg fun h => hs h.2.1

/-- HALT_CLR goes on from the checkpoint of a halted engine. -/
theorem State.haltClr_halted (hs : s.engState n = 5) :
    s.haltClr n = ((s.setLeng e { (s.leng e).restored with failHalt := false }).setEngState n 2, true) := by
  simp only [State.haltClr, he, if_pos hs]

theorem State.haltClr_notHalted (hs : s.engState n ≠ 5) : s.haltClr n = (s.setB (Reg.ENG_STAT n) 9 true, false) := by
  simp only [State.haltClr, he, if_neg hs]
  rfl

end Orders

/-- REINSTATE takes a RETIRED engine that a Drizzle pass has found clean. -/
theorem State.reinstate_clean {s : State} {n : Nat} (hs : s.engState n = 7) (he : s.logicalOf n = none)
    (hc : s.tst.clean.contains (unitKey 0 n) = true) : s.reinstate n = (((s.setEngState n 6).resolveLog 0 n).freeTarget n, true) :=
  if_pos ⟨hs, by rw [he]; rfl, hc⟩

/-! ### The same orders by command (R110) -/

section Commands
variable {c : CmdRef} {s : State} {x : Command}

/-- A MIGRATE that is taken is answered at its switch. -/
theorem exec_migrate_cmd_taken {n : Nat} (h : s.turn c 9 2 = some x) (hn : s.orderHolder (beAt x.payload 0 1) = some n)
    (hm : beAt x.payload 1 1 < 68) (hr : ((s.pendingReply x).migrate n (beAt x.payload 1 1) (some c)).2 = true) :
    exec (.migrate (.cmd c)) s = .next ((s.pendingReply x).migrate n (beAt x.payload 1 1) (some c)).1 := by
  simp only [exec_migrate, execMigrate, h, hn, if_neg (Nat.not_le.2 hm), if_pos hr]

theorem exec_haltClr_cmd_taken {n : Nat} (h : s.turn c 9 3 = some x) (hn : s.orderHolder (beAt x.payload 0 1) = some n)
    (hr : (s.haltClr n).2 = true) : exec (.haltClr (.cmd c)) s = .next ((s.haltClr n).1.replyTo x csOK true []) := by
  simp only [exec_haltClr, execHaltClr, h, hn, if_pos hr]

theorem exec_reinstate_cmd_taken (h : s.turn c 9 4 = some x) (hn : beAt x.payload 0 1 < 68)
    (hr : (s.reinstate (beAt x.payload 0 1)).2 = true) :
    exec (.reinstate (.cmd c)) s = .next ((s.reinstate (beAt x.payload 0 1)).1.replyTo x csOK true []) := by
  simp only [exec_reinstate, execReinstate, h, if_neg (Nat.not_le.2 hn), if_pos hr]

end Commands

/-- Settles O30: each clause is one case of a fault or of an order. -/
theorem engineFaultsAndOrders : Obligations.EngineFaultsAndOrders := by
  refine ⟨fun _ bit _ _ he hin => exec_lockstepMismatch_inCycle he hin bit, fun _ _ _ => exec_engineWatchdog_due,
    fun n s hrun he _ => ?_, fun _ _ => exec_runEnClear_clear, fun _ _ _ _ _ => State.migrate_taken,
    fun _ _ _ _ _ => State.migrate_notSpare, fun _ _ _ => State.haltClr_halted, fun _ _ _ => State.haltClr_notHalted,
    fun _ _ => State.reinstate_clean, fun _ _ _ _ => exec_migrate_cmd_taken, fun _ _ _ _ => exec_haltClr_cmd_taken,
    fun _ _ _ => exec_reinstate_cmd_taken⟩
  rw [exec_runEnClear_set hrun, State.clearRun_free rfl he]

end Sys2Proof.Machine
end

section
/-!
PROOF. What reaches an engine's memories from outside (R89, R99, R107, R116, R117, R142), case by case, and the obligation
EngineMemoriesFromOutside.
-/
namespace Sys2Proof.Machine

/-! ### What runs for each command -/

theorem exec_dataRamHostWrite (n : Fin 68) (k : Fin 16384) (w : Word) (s : State) :
    exec (.dataRamHostWrite n k w) s = .next (s.hostRam n (4 * k) (leBytes 4 w.toNat)) := rfl
theorem exec_farFlush (n : Fin 68) (s : State) : exec (.farFlush n) s = .next (s.farFlush n) := rfl
theorem exec_effectStatusReturn (n : Fin 68) (s : State) : exec (.effectStatusReturn n) s = execEffectStatusReturn n s := rfl
theorem exec_migrationCopyDone (e : Fin 64) (s : State) : exec (.migrationCopyDone e) s = execMigrationCopyDone e s := rfl

/-! ### Host writes (R89, R433) -/

section HostRam
variable {s : State} {n a e : Nat} {b : List Byte} (he : s.logicalOf n = some e)
include he

/-- In a cycle a host write waits for the cycle's end. -/
theorem State.hostRam_inCycle (hin : s.inCycle n = true) :
    s.hostRam n a b = s.setLeng e { s.leng e with hostW := (s.leng e).hostW ++ [(a, b)] } := by
  simp only [State.hostRam, he, if_pos hin]

variable (hin : s.inCycle n = false)
include hin

theorem State.hostRam_written (ho : s.domOn (domEngine n) = true) :
    s.hostRam n a b = (s.setLeng e ((s.leng e).write a b)).touch (domEngine n) := by
  simp only [State.hostRam, he, hin, Bool.false_eq_true, if_false, if_pos ho]

/-- A domain that is not ON is woken for it. -/
theorem State.hostRam_wakes (ho : s.domOn (domEngine n) = false) :
    s.hostRam n a b = (s.setLeng e { s.leng e with hostW := (s.leng e).hostW ++ [(a, b)] }).wake (domEngine n) 1 := by
  simp only [State.hostRam, he, hin, ho, Bool.false_eq_true, if_false]

end HostRam

/-! ### FLUSH (R116, R117) -/

theorem exec_farFlush_outside {n : Fin 68} {s : State} {e : Nat} (he : s.logicalOf n = some e) (hf : (s.leng e).inFar = false) :
    exec (.farFlush n) s = .next (s.setLeng e { s.leng e with far := [] }) := by
  simp only [exec_farFlush, State.farFlush, he, hf, Bool.false_eq_true, if_false]

/-! ### Statuses that come back (R99, R142) -/

section Status
variable {n : Fin 68} {s : State} {e k : Nat} {v : DWord} {l : List (Nat × DWord)} (he : s.logicalOf n = some e)
  (hret : (s.leng e).ret = (k, v) :: l)
include he hret

theorem exec_effectStatusReturn_taken (hk : k ∈ (s.leng e).efWait) : exec (.effectStatusReturn n) s =
    .next (s.putLogged n e (({ s.leng e with ret := l } : LEng).takeStatus k v)) := by
  simp only [exec_effectStatusReturn, execEffectStatusReturn, he, hret, if_pos (List.contains_iff_mem.2 hk)]

/-- A status that nothing waits for is dropped. -/
theorem exec_effectStatusReturn_dropped (hk : k ∉ (s.leng e).efWait) :
    exec (.effectStatusReturn n) s = .next (s.setLeng e { s.leng e with ret := l }) := by
  simp only [exec_effectStatusReturn, execEffectStatusReturn, he, hret, if_neg (mt List.contains_iff_mem.1 hk)]

end Status

/-! ### The first copy of a migration (R107) -/

section Copy
variable {e : Fin 64} {s : State} {g : Migration} {n : Nat} (hg : (s.leng e).mig = some g) (hn : s.physOf e = some n)
  (hw : g.waits = false) (hc : g.copied = false) (hf : g.failed = false) (ht : s.domOn (domEngine g.target) = true)
  (ho : s.domOn (domEngine n) = true)
include hg hn hw hc hf ht ho

/-- At most 512 lines written meanwhile are left to the switch. -/
theorem exec_migrationCopyDone_ready (hd : g.dirty.length ≤ 512) : exec (.migrationCopyDone e) s =
    .next (s.setLeng e { s.leng e with mig := some { g with copied := true, passing := [] } }) := by
  simp [exec_migrationCopyDone, execMigrationCopyDone, hg, hn, hw, hc, hf, ht, ho, Nat.not_lt.2 hd]

/-- More of them are a further pass. -/
theorem exec_migrationCopyDone_again (hd : 512 < g.dirty.length) : exec (.migrationCopyDone e) s =
    .next (s.setLeng e { s.leng e with mig := some { g with copied := true, passing := g.dirty, dirty := [] } }) := by
  simp [exec_migrationCopyDone, execMigrationCopyDone, hg, hn, hw, hc, hf, ht, ho, hd]

end Copy

/-- Settles O31: each clause is one case of a host write, of a flush, of a status or of a copy. -/
theorem engineMemoriesFromOutside : Obligations.EngineMemoriesFromOutside := by
  refine ⟨fun n k w s e he hin => ?_, fun n k w s e he hin ho => ?_, fun n k w s e he hin ho => ?_, fun _ _ _ => exec_farFlush_outside,
    fun _ _ _ _ _ _ => exec_effectStatusReturn_taken, fun _ _ _ _ _ _ => exec_effectStatusReturn_dropped,
    fun _ _ _ _ => exec_migrationCopyDone_ready, fun _ _ _ _ => exec_migrationCopyDone_again⟩
  · rw [exec_dataRamHostWrite, State.hostRam_inCycle he hin]
  · rw [exec_dataRamHostWrite, State.hostRam_written he hin ho]
  · rw [exec_dataRamHostWrite, State.hostRam_wakes he hin ho]

end Sys2Proof.Machine
end

section
/-!
PROOF. What the pulses of the user NV array and the line fills of far code do (R116, R337, R338, R341, R344–R346), case by case, and the
obligation NvPulsesAndFarLines.
-/
namespace Sys2Proof.Machine

/-! ### What runs for each command -/

theorem exec_nvProgramStep (b : Bool) (s : State) : exec (.nvProgramStep b) s = execNvProgramStep b s := rfl
theorem exec_eraseSegmentEnd (s : State) : exec .eraseSegmentEnd s = execEraseSegmentEnd s := rfl
theorem exec_nvErasePulse (b : Bool) (s : State) : exec (.nvErasePulse b) s = execNvErasePulse b s := rfl
theorem exec_nvResumeIdle (s : State) : exec .nvResumeIdle s = execNvResumeIdle s := rfl
theorem exec_farLineFill (n : Fin 68) (x y : Ecc) (s : State) : exec (.farLineFill n x y) s = execFarLineFill n x y s := rfl

/-! ### Program steps (R337, R345) -/

section Program
variable {s : State} {p : NvProg} {q : ArbReq}

theorem exec_nvProgramStep_none {b : Bool} (hp : s.nv.prog = none) : exec (.nvProgramStep b) s = .next s := by
  simp only [exec_nvProgramStep, execNvProgramStep, hp]

variable (hp : s.nv.prog = some p) (hq : (s.arbiter 0).busy = some q)
include hp hq

/-- A code word that has not begun, or that a warning holds, takes no pulse. -/
theorem exec_nvProgramStep_held {b : Bool} (h : p.waits = true ∨ s.getB Reg.NVC_STAT 11 = true) :
    exec (.nvProgramStep b) s = .next s := by
  have hh : (p.waits || s.getB Reg.NVC_STAT holdWarn) = true := by simpa [holdWarn] using h
  simp only [exec_nvProgramStep, execNvProgramStep, hp, hq, if_pos hh]

variable (hw : p.waits = false) (hh : s.getB Reg.NVC_STAT 11 = false)
include hw hh

omit hp hq in
/-- A word that has begun, and that no warning holds, takes its step. -/
theorem NvProg.not_waits_or_held : ¬ (p.waits || s.getB Reg.NVC_STAT holdWarn) = true := by
  simpa [holdWarn] using ⟨hw, hh⟩

/-- A step that verifies stores the word. -/
theorem exec_nvProgramStep_pass : exec (.nvProgramStep true) s = .next (({ s with nv := { s.nv with
    cells := nvPut s.nv.cells p.addr p.data, marks := tabPut (fun _ => 0) s.nv.marks (p.addr / 32) 3 } } : State).nvWordDone q 0) := by
  simp only [exec_nvProgramStep, execNvProgramStep, hp, hq, if_neg (NvProg.not_waits_or_held hw hh), if_true]

/-- One that fails goes on below its limit, where a warning stops it. -/
theorem exec_nvProgramStep_goesOn {u : State} (hlt : p.step + 1 < max 1 (min 16 (s.getF Reg.NVC_CTL 12 8)))
    (hu : u = { s with nv := { s.nv with prog := some { p with step := p.step + 1, readOk := p.readAsk, readAsk := false } } }) :
    exec (.nvProgramStep false) s = .next (if s.nv.warnAsk then u.nvWarnStop else u) := by
  subst hu
  simp only [exec_nvProgramStep, execNvProgramStep, hp, hq, if_neg (NvProg.not_waits_or_held hw hh), Bool.false_eq_true, if_false,
    if_neg (Nat.not_le.2 hlt)]

/-- The last step's failure is that of the word. -/
theorem exec_nvProgramStep_fails (hle : max 1 (min 16 (s.getF Reg.NVC_CTL 12 8)) ≤ p.step + 1) : exec (.nvProgramStep false) s =
    .next (((s.raise 177 1).nvFault (p.addr / 32 / 128) 10).nvWordDone q 0x44) := by
  simp only [exec_nvProgramStep, execNvProgramStep, hp, hq, if_neg (NvProg.not_waits_or_held hw hh), Bool.false_eq_true, if_false,
    if_pos hle]
  rfl

end Program

/-! ### Erase segments and pulses (R338, R341, R344, R345) -/

section Erase
variable {s : State} {e : NvErase}

theorem exec_eraseSegmentEnd_none (he : s.nv.erase = none) : exec .eraseSegmentEnd s = .next s := by
  simp only [exec_eraseSegmentEnd, execEraseSegmentEnd, he]

theorem exec_nvErasePulse_none {b : Bool} (he : s.nv.erase = none) : exec (.nvErasePulse b) s = .next s := by
  simp only [exec_nvErasePulse, execNvErasePulse, he]

theorem exec_nvResumeIdle_none (he : s.nv.erase = none) : exec .nvResumeIdle s = .next s := by
  simp only [exec_nvResumeIdle, execNvResumeIdle, he]

variable (he : s.nv.erase = some e)
include he

/-- The idle time after the last read of the bank ends a read suspension. -/
theorem exec_nvResumeIdle_ends (hst : e.stopped = true) (hr : s.getB Reg.NVC_STAT 9 = true)
    (ht : atOrAfter s.time (e.lastRead + units (unitsPerUs * max 1 (s.getF Reg.NVC_CTL 23 16))) = true) :
    exec .nvResumeIdle s = .next (s.nvRelease 9 1) := by
  simp only [exec_nvResumeIdle, execNvResumeIdle, he, holdRead, hst, hr, ht, Bool.and_true, if_true]

/-- An erase that is suspended, or whose last segment has not ended, has no verify. -/
theorem exec_nvErasePulse_notDue {b : Bool} (h : e.stopped = true ∨ e.seg ≠ 8) : exec (.nvErasePulse b) s = .next s := by
  have hh : (e.stopped || e.seg != 8) = true := by simpa using h
  simp only [exec_nvErasePulse, execNvErasePulse, he, if_pos hh]

variable (hst : e.stopped = false)
include hst

theorem exec_eraseSegmentEnd_counts (hseg : e.seg < 8) : exec .eraseSegmentEnd s =
    .next ({ s with nv := { s.nv with erase := some { e with seg := e.seg + 1 } } } : State).nvAsked.nvBegin.nvShow := by
  have hh : ¬ (e.stopped || decide (8 ≤ e.seg)) = true := by simpa [hst] using hseg
  simp only [exec_eraseSegmentEnd, execEraseSegmentEnd, he, if_neg hh]

variable (hseg : e.seg = 8)
include hseg

omit he in
/-- The verify of the last segment is due. -/
theorem NvErase.not_stopped_or_early : ¬ (e.stopped || e.seg != 8) = true := by simp [hst, hseg]

/-- A verify that passes ends the erase, on a spare row where the sector's own is to be retired. -/
theorem exec_nvErasePulse_pass : exec (.nvErasePulse true) s = .next (s.nvErased { e with pulses := e.pulses + 1, seg := 0 } true
    (s.getB (Reg.NVC_SST e.sector) 28 && decide (0 < s.getF (Reg.NVC_BANK_STAT (e.sector / 2048)) 22 16))) := by
  simp only [exec_nvErasePulse, execNvErasePulse, he, if_neg (NvErase.not_stopped_or_early hst hseg), if_true]

/-- One that fails takes a further pulse, up to twelve, where a warning stops it. -/
theorem exec_nvErasePulse_goesOn {u : State} (hlt : e.pulses < 11)
    (hu : u = { s with nv := { s.nv with erase := some { e with pulses := e.pulses + 1, seg := 0 } } }) :
    exec (.nvErasePulse false) s = .next (if e.warnAsk then u.nvWarnStop else u) := by
  subst hu
  have hmore : ¬ 12 ≤ e.pulses + 1 := by omega
  simp only [exec_nvErasePulse, execNvErasePulse, he, if_neg (NvErase.not_stopped_or_early hst hseg), Bool.false_eq_true, if_false,
    if_neg hmore]

/-- The twelfth failure ends the erase, on a spare row where one is left. -/
theorem exec_nvErasePulse_fails (hle : 11 ≤ e.pulses) : exec (.nvErasePulse false) s =
    .next (s.nvErased { e with pulses := e.pulses + 1, seg := 0 } (decide (0 < s.getF (Reg.NVC_BANK_STAT (e.sector / 2048)) 22 16))
      (decide (0 < s.getF (Reg.NVC_BANK_STAT (e.sector / 2048)) 22 16))) := by
  have hlast : 12 ≤ e.pulses + 1 := by omega
  simp only [exec_nvErasePulse, execNvErasePulse, he, if_neg (NvErase.not_stopped_or_early hst hseg), Bool.false_eq_true, if_false,
    if_pos hlast]

end Erase

/-! ### Far lines (R116, R346) -/

section Far
variable {n : Fin 68} {x y : Ecc} {s u t : State} {e line st i : Nat} {b : Bool}

theorem exec_farLineFill_free (he : s.logicalOf n = none) : exec (.farLineFill n x y) s = .next s := by
  simp only [exec_farLineFill, execFarLineFill, he]

variable (he : s.logicalOf n = some e) (hs : (s.leng e).stall = some (.farFill line))
include he hs

/-- While the line's bank is under a pulse, the fetch waits. -/
theorem exec_farLineFill_waits (hn : s.nvServe (line / 2 ^ 17) = (u, false)) : exec (.farLineFill n x y) s = .next u := by
  simp only [exec_farLineFill, execFarLineFill, he, hs, hn, Bool.not_false, Bool.true_or, if_true]

variable (hn : s.nvServe (line / 2 ^ 17) = (u, true)) (hin : s.inCycle n = true)
  (hr : u.nvReadWords (2 * line) 2 0 [x, y] = (t, st, i, b))
include hn hin hr

/-- A word of the line that cannot be used raises FETCH. -/
theorem exec_farLineFill_bad (hst : st ≠ 0) : exec (.farLineFill n x y) s =
    .next (((t.setLeng e { t.leng e with stall := none }).raise e 0x800).takeExc n e 2 (t.leng e).pc) := by
  simp only [exec_farLineFill, execFarLineFill, he, hs, hn, hin, hr, Bool.not_true, Bool.or_false, Bool.false_eq_true, if_false,
    if_pos hst]

/-- A good line enters its set in front of the others; a full set loses the one least recently used. -/
theorem exec_farLineFill_good (hst : st = 0) : exec (.farLineFill n x y) s = .next ((t.setLeng e { t.leng e with
    stall := none
    far := ⟨line, (List.range 16).map (fun i => BitVec.ofNat 32 (leNat (sliceB (s.nvBytes (64 * line) 64) (4 * i) 4)))⟩ ::
      (t.leng e).far.filter (fun l => some l.line != (let set := (t.leng e).far.filter (fun l => l.line % 16 == line % 16)
        if 4 ≤ set.length then set.getLast?.map (fun l => l.line) else none)) }).incR (Reg.ENG_FAR_MISS n)) := by
  have hok : ¬ st ≠ 0 := not_not.2 hst
  simp only [exec_farLineFill, execFarLineFill, he, hs, hn, hin, hr, Bool.not_true, Bool.or_false, Bool.false_eq_true, if_false,
    if_neg hok]

end Far

/-- Settles O52: each clause is one case of a pulse or of a line fill. -/
theorem nvPulsesAndFarLines : Obligations.NvPulsesAndFarLines := by
  refine ⟨fun _ _ _ => exec_nvProgramStep_pass, fun s u p q hp hq hw hh hlt hu => ⟨fun ha => ?_, fun ha => ?_⟩,
    fun _ _ _ _ hp hq => exec_nvProgramStep_held hp hq, fun _ _ _ => exec_nvProgramStep_fails, fun _ _ => exec_nvProgramStep_none,
    fun _ _ => exec_eraseSegmentEnd_counts,
    fun _ _ he => ⟨exec_eraseSegmentEnd_none he, exec_nvErasePulse_none he, exec_nvResumeIdle_none he⟩,
    fun _ _ => exec_nvErasePulse_pass, fun s u e he hst hseg hlt hu => ⟨fun ha => ?_, fun ha => ?_⟩,
    fun _ _ => exec_nvErasePulse_fails, fun _ _ _ he => exec_nvErasePulse_notDue he, fun _ _ => exec_nvResumeIdle_ends, fun _ _ _ _ => exec_farLineFill_free,
    fun _ _ _ _ _ _ _ => exec_farLineFill_waits, fun _ _ _ _ _ _ _ _ _ _ _ he hs hn hin hr =>
      ⟨exec_farLineFill_bad he hs hn hin hr, exec_farLineFill_good he hs hn hin hr⟩⟩
  · rw [exec_nvProgramStep_goesOn hp hq hw hh hlt hu, if_neg (by simp [ha])]
  · rw [exec_nvProgramStep_goesOn hp hq hw hh hlt hu, if_pos ha]
  · rw [exec_nvErasePulse_goesOn he hst hseg hlt hu, if_neg (by simp [ha])]
  · rw [exec_nvErasePulse_goesOn he hst hseg hlt hu, if_pos ha]

end Sys2Proof.Machine
end

section
/-!
PROOF. What an engine's integer instructions do and its special registers (R127, R129, R133, R135), case by case, and the
obligations AluFunctionsAndFlags and EngineImmediatesAndSpecialRegisters.
-/
namespace Sys2Proof.Machine

/-! ### Rows that never stall (R124) -/

/-- A row answers with what it does to the instruction that issues. -/
theorem Issues.next_engRun {s : State} {n e : Nat} {w : Word} {row : EngRow} (h : Issues s n e w row) (f : EngX → State) :
    (Host.Outcome.next (s.engRun row n f) : Out) = .next (f (s.issue n e w)) :=
  congrArg Host.Outcome.next (h.engRun f)

/-- A word that is no instruction is ILLEGAL, whichever row asks (R133, R138). -/
theorem State.engRun_illegal {s : State} {n e : Nat} {w : Word} (row : EngRow) (f : EngX → State) (he : s.logicalOf n = some e)
    (hin : s.inCycle n = true) (ho : s.domOn (domEngine n) = true) (hs : (s.leng e).stall = none) (hw : s.fetch e = .word w)
    (hi : insRow w = none) : s.engRun row n f =
      (s.setLeng e { (s.leng e).usedFar with issued := (s.leng e).issued + 1, stall := none }).takeExc n e 1 (s.leng e).pc := by
  simp only [State.engRun, State.engRunW, he, hin, ho, hs, hw, hi, Bool.and_self, if_true, Option.isSome_none,
    Bool.false_eq_true, if_false]

/-! ### Results of the ALU (R129, R135) -/

/-- ADD: C is the carry out of bit 63, V is signed overflow. -/
theorem addRes_noCarry (a b : DWord) : addRes a b false = ⟨some (a + b), some (a + b).msb, some (decide (a + b = 0)),
    some (decide (2 ^ 64 ≤ a.toNat + b.toNat)), some (decide (a.toInt + b.toInt ≠ (a + b).toInt))⟩ := by
  have hr : BitVec.ofNat 64 (a.toNat + b.toNat) = a + b := BitVec.eq_of_toNat_eq (by simp)
  simp [addRes, resNZ, sgn, hr]

/-- SUB: C is 1 where no borrow occurred, V is signed overflow. -/
theorem subRes_noBorrow (a b : DWord) : subRes a b false = ⟨some (a - b), some (a - b).msb, some (decide (a - b = 0)),
    some (decide (b.toNat ≤ a.toNat)), some (decide (a.toInt - b.toInt ≠ (a - b).toInt))⟩ := by
  simp [subRes, resNZ, sgn]

/-- A shift by 0 gives the operand, and shifts out no bit. -/
theorem shiftFn_left_zero (a : DWord) : shiftFn 0 a 0 = shiftRes a 0 (a.getLsbD 64) := by simp [shiftFn]

/-- A division by 0 gives 0, a remainder by 0 the dividend, and both set V. -/
theorem divRes_zero (kind : Nat) (a : DWord) : divRes kind a 0 = resNZV (if kind < 2 then 0 else a) true := if_pos rfl

/-- Every division has a result. -/
theorem divRes_val_isSome (kind : Nat) (a b : DWord) : (divRes kind a b).val.isSome = true := by
  unfold divRes
  split
  · rfl
  · split <;> rfl

/-- The functions without a result are those that always write their flags: CMP and TST. -/
theorem aluFn_val_isSome {fn : Nat} {a b : DWord} {f : Nzcv} {r : AluRes} (h : aluFn fn a b f = some r) :
    r.val.isSome = !aluAlwaysFlags fn := by
  unfold aluFn at h
  split at h
  case h_27 | h_28 | h_29 | h_30 => exact Option.some.inj h ▸ divRes_val_isSome _ a b
  case h_33 => cases h
  all_goals exact Option.some.inj h ▸ rfl

/-! #### What a core takes of a result -/

section Core
variable (k : EngCore) (d : Nat) {r : AluRes}

theorem EngCore.alu_value {v : DWord} (hv : r.val = some v) : k.alu d r false = k.setG d v := by
  simp [EngCore.alu, hv]

theorem EngCore.alu_valueFlags {v : DWord} (hv : r.val = some v) : k.alu d r true = { k.setG d v with
    flagN := r.n.getD k.flagN, flagZ := r.z.getD k.flagZ, flagC := r.c.getD k.flagC, flagV := r.v.getD k.flagV } := by
  simp [EngCore.alu, hv, EngCore.setG]

theorem EngCore.alu_flags (hv : r.val = none) : k.alu d r true = { k with
    flagN := r.n.getD k.flagN, flagZ := r.z.getD k.flagZ, flagC := r.c.getD k.flagC, flagV := r.v.getD k.flagV } := by
  simp [EngCore.alu, hv]

end Core

/-! ### ALU (R135) -/

section Alu
variable {n : Fin 68} {e : Nat} {s : State} {w : Word} {x : EngX} (hx : x = s.issue n e w) (h : Issues s n e w .alu)
include hx h

theorem exec_alu_sel (hf : fFN w = 0x16) :
    exec (.alu n) s = .next (x.setRd (if condHolds (fMOD w) x.core.nzcv then x.ra else x.rb)) := by
  subst hx
  exact (h.next_engRun _).trans (congrArg Host.Outcome.next (if_pos hf))

variable {r : AluRes} (hf : fFN w ≠ 0x16) (hr : aluFn (fFN w) x.ra x.rb x.core.nzcv = some r)
include hf hr

/-- A function's result goes to rd; its flags are written under S, and those of CMP and TST always. -/
theorem exec_alu_fn :
    exec (.alu n) s = .next (x.put (x.core.alu (fRD w) r (bitOf w 10 || aluAlwaysFlags (fFN w)))) := by
  subst hx
  refine (h.next_engRun _).trans ?_
  simp only [State.issue_w, if_neg hf, hr]

/-- Of the functions with a result S alone decides on the flags. -/
theorem exec_alu_value {v : DWord} (hv : r.val = some v) :
    exec (.alu n) s = .next (x.put (x.core.alu (fRD w) r (bitOf w 10))) := by
  have hn : aluAlwaysFlags (fFN w) = false := by simpa [hv] using aluFn_val_isSome hr
  rw [exec_alu_fn hx h hf hr, hn, Bool.or_false]

/-- A function without a result writes its flags, and nothing else. -/
theorem exec_alu_flags (hv : r.val = none) : exec (.alu n) s = .next (x.put (x.core.alu (fRD w) r true)) := by
  have ha : aluAlwaysFlags (fFN w) = true := by simpa [hv] using aluFn_val_isSome hr
  rw [exec_alu_fn hx h hf hr, ha, Bool.or_true]

end Alu

/-- Settles O21: each clause is one case of an ALU word, or one function's result. -/
theorem aluFunctionsAndFlags : Obligations.AluFunctionsAndFlags := by
  refine ⟨fun n e s w x hx h => ⟨fun r v hf hr hv hS => ?_, fun r v hf hr hv hS => ?_, fun hf => ?_, fun r hf hr hv => ?_⟩,
    fun n e s w c he hin ho hs hw hi hc => ?_,
    fun a b f => ⟨congrArg some (addRes_noCarry a b), congrArg some (subRes_noBorrow a b), rfl, rfl, rfl, rfl, fun h0 => ?_,
      fun h0 => ⟨divRes 0 a b, rfl, ?_⟩, fun h0 => ⟨divRes 2 a b, rfl, ?_⟩, rfl⟩⟩
  · rw [exec_alu_value hx h hf hr hv, hS, EngCore.alu_value _ _ hv, hx]
    rfl
  · rw [exec_alu_value hx h hf hr hv, hS, EngCore.alu_valueFlags _ _ hv, hx]
    rfl
  · rw [exec_alu_sel hx h hf, hx]
    rfl
  · rw [exec_alu_flags hx h hf hr hv, EngCore.alu_flags _ _ hv, hx]
    rfl
  · rw [hc]
    exact congrArg Host.Outcome.next (State.engRun_illegal .alu _ he hin ho hs hw hi)
  · refine ⟨shiftFn 0 a (b.toNat % 64), rfl, ?_⟩
    rw [h0, shiftFn_left_zero]
    exact ⟨rfl, rfl, rfl⟩
  · rw [h0, divRes_zero]
    exact ⟨rfl, rfl⟩
  · rw [h0, divRes_zero]
    exact ⟨rfl, rfl⟩

/-! ### Immediates (R133) -/

section Immediates
variable {n : Fin 68} {e : Nat} {s : State} {w : Word} {x : EngX} (hx : x = s.issue n e w)
include hx

theorem exec_cmpi_issues (h : Issues s n e w .cmpi) : exec (.cmpi n) s =
    .next (x.put (x.core.alu 0 { subRes x.ra (immS w) false with val := none } true)) := by
  subst hx
  exact h.next_engRun _

/-- SHI writes the shifted value, and no flag. -/
theorem exec_shi_issues (h : Issues s n e w .shi) {v : DWord} (hv : (shiftFn (fld w 7 6) x.ra (fld w 5 0)).val = some v) :
    exec (.shi n) s = .next (x.setRd v) := by
  subst hx
  refine (h.next_engRun _).trans ?_
  rw [State.issue_w, EngCore.alu_value _ _ hv]
  rfl

end Immediates

/-! ### Special registers (R127) -/

section Special
variable {n : Fin 68} {e : Nat} {s : State} {w : Word} {x : EngX} (hx : x = s.issue n e w) (h : Issues s n e w .mfs)
include hx h

/-- NOW, TFLAGS and MBFULL are inputs: outside a retry they are read as they stand and logged (R100). -/
theorem exec_mfs_input (hlive : x.retry = false) {i : Nat} {v : DWord} (hi : fRA w = i) (hin : i = 3 ∨ i = 5 ∨ i = 14)
    (hv : x.specialIn i = v) : exec (.mfs n) s = .next (s.putLogged n e
      { x.logIn { status := v } with core := (x.logIn { status := v }).core.setG (fRD w) v }) := by
  subst hx hi hv
  refine (h.next_engRun _).trans ?_
  simp only [State.issue_w, if_pos hin, EngX.input, EngX.replay?_live hlive]
  rfl

theorem exec_mfs_special (hin : ¬ (fRA w = 3 ∨ fRA w = 5 ∨ fRA w = 14)) :
    exec (.mfs n) s = .next (x.setRd (x.special (fRA w))) := by
  subst hx
  exact (h.next_engRun _).trans (congrArg Host.Outcome.next (if_neg hin))

end Special

/-- Settles O20: each clause is one row, or one special register of MFS or MTS. -/
theorem engineImmediatesAndSpecialRegisters : Obligations.EngineImmediatesAndSpecialRegisters := by
  constructor <;> rintro n e s w x rfl
  · refine ⟨fun h => h.next_engRun _, fun h => h.next_engRun _, fun h => h.next_engRun _, fun h => h.next_engRun _,
      fun h => h.next_engRun _, fun h => h.next_engRun _, fun h => ?_, fun h hk => ?_, fun h hk => ?_, fun h => h.next_engRun _, rfl⟩
    · rw [exec_cmpi_issues rfl h, subRes_noBorrow, EngCore.alu_flags _ _ rfl]
      rfl
    · exact exec_shi_issues rfl h (hk.symm ▸ rfl)
    · exact exec_shi_issues rfl h (hk.symm ▸ rfl)
  · refine ⟨fun h hi hlive => ?_, fun h hi hlive v hv => ?_, fun h hi hlive v hv => ?_, fun v h hv => ?_, ?_⟩
    · exact exec_mfs_input rfl h hlive hi (by decide) rfl
    · exact exec_mfs_input rfl h hlive hi (by decide) hv.symm
    · exact exec_mfs_input rfl h hlive hi (by decide) hv.symm
    · have hin : ¬ (fRA w = 3 ∨ fRA w = 5 ∨ fRA w = 14) := by omega
      have hval : v = (s.issue n e w).special (fRA w) := by
        rcases hv with ⟨hi, hv⟩ | ⟨hi, hv⟩ | ⟨hi, hv⟩ | ⟨hi, hv⟩ | ⟨hi, hv⟩ | ⟨hi, hv⟩ | ⟨hi, hv⟩ | ⟨hi, hv⟩ | ⟨hi, hv⟩ |
          ⟨hi, hv⟩ | ⟨hi, hv⟩ | ⟨hi, hv⟩ | ⟨hi, hv⟩
        all_goals
          rw [hi, hv]
          rfl
      rw [hval]
      exact exec_mfs_special rfl h hin
    · refine ⟨?_, ?_, ?_, ?_, ?_⟩
      all_goals
        intro h hd
        refine (h.next_engRun _).trans ?_
        simp only [State.issue_w, hd]
        rfl

end Sys2Proof.Machine
end

section
/-!
PROOF. What a floating-point result does to its engine (R130, R136), case by case, and the obligation FloatingPointResults.
-/
namespace Sys2Proof.Machine

/-! ### Results (R130) -/

section Result
variable (x : EngX) {r : FpuRes} {k : EngCore} (hk : k = { x.core with fpcsr := setFld x.core.fpcsr 4 0 (fld x.core.fpcsr 4 0 ||| r.exc) })
include hk

/-- An enabled exception raises FP, with its sticky bit set. -/
theorem EngX.fp_enabled (hen : fld x.core.fpcsr 20 16 &&& r.exc ≠ 0) :
    x.fp r = ({ x with c := x.c.withCore k } : EngX).exc 4 := by
  subst hk
  exact if_pos hen

variable (hen : fld x.core.fpcsr 20 16 &&& r.exc = 0)
include hen

theorem EngX.fp_value {v : Nat} (hv : r.val = some v) (hf : r.flags = none) :
    x.fp r = x.put (k.setG (fRD x.w) (BitVec.ofNat 64 v)) := by
  subst hk
  simp only [EngX.fp, if_neg (not_not.2 hen), hv, hf]

theorem EngX.fp_flags {f : Nzcv} (hv : r.val = none) (hf : r.flags = some f) :
    x.fp r = x.put { k with flagN := f.n, flagZ := f.z, flagC := f.c, flagV := f.v } := by
  subst hk
  simp only [EngX.fp, if_neg (not_not.2 hen), hv, hf]

end Result

/-! ### FPU and FMA (R136) -/

section Rows
variable {n : Fin 68} {e : Nat} {s : State} {w : Word} {x : EngX} (hx : x = s.issue n e w) {r : FpuRes}
include hx

theorem exec_fpu_issues (h : Issues s n e w .fpu) (hr : fpuFn (fFN w) (fpEnv x.core.fpcsr) x.ra x.rb = some r) :
    exec (.fpu n) s = .next (x.fp r) := by
  subst hx
  refine (h.next_engRun _).trans ?_
  simp only [State.issue_w, hr]

theorem exec_fma_issues (h : Issues s n e w .fma)
    (hr : fmaFn (fFN w) (fpEnv x.core.fpcsr) x.ra x.rb (x.g (fMOD w)) = r) : exec (.fma n) s = .next (x.fp r) := by
  subst hx hr
  exact h.next_engRun _

end Rows

/-- Settles O22: each clause is one case of a result, of the FPU or of the FMA. -/
theorem floatingPointResults : Obligations.FloatingPointResults := by
  refine fun n e s w x k r hx hk => ⟨fun v hv hf h hr hen => ?_, fun h hr hen => ?_, fun f hv hf h hr hen => ?_,
    fun v hv hf h hr hen => ?_, fun h hr hen => ?_⟩
  · rw [exec_fpu_issues hx h hr, x.fp_value hk hen hv hf, hx]
    rfl
  · rw [exec_fpu_issues hx h hr, x.fp_enabled hk hen]
    rfl
  · rw [exec_fpu_issues hx h hr, x.fp_flags hk hen hv hf, hx]
    rfl
  · rw [exec_fma_issues hx h hr, x.fp_value hk hen hv hf, hx]
    rfl
  · rw [exec_fma_issues hx h hr, x.fp_enabled hk hen]
    rfl

end Sys2Proof.Machine
end

section
/-!
PROOF. Where an engine's branches, jumps, calls and returns go (R133, R155), case by case, and the obligation EngineControlFlow.
-/
namespace Sys2Proof.Machine

/-! ### Targets -/

section Goto
variable {x : EngX} {t : Int} (k : EngCore)

/-- A target outside the program is FETCH. -/
theorem EngX.goto_negative (ht : t < 0) : x.goto t k = x.exc 2 := if_pos (Or.inl ht)

variable (hn : x.c.inFar = false)
include hn

theorem EngX.goto_beyond (ht : 8192 ≤ t) : x.goto t k = x.exc 2 := by
  refine if_pos (Or.inr ?_)
  rwa [hn]

theorem EngX.goto_inside (h0 : 0 ≤ t) (ht : t < 8192) : x.goto t k = x.done { x.c with pc := t.toNat, core := k } := by
  refine if_neg ?_
  rw [hn, if_neg Bool.false_ne_true]
  omega

omit k

theorem EngX.notFar_near (f : State) : x.notFar f = f := by
  simp only [EngX.notFar, hn, Bool.false_eq_true, if_false]

/-- A jump of the program that stays in its store goes there. -/
theorem EngX.notFar_goto {a : Nat} (k : EngCore) (ha : a < 8192) : x.notFar (x.goto a k) = x.done { x.c with pc := a, core := k } := by
  rw [EngX.notFar_near hn, EngX.goto_inside k hn (Int.natCast_nonneg a) (by exact_mod_cast ha), Int.toNat_natCast]

end Goto

theorem EngX.notFar_far {x : EngX} (hf : x.c.inFar = true) (f : State) : x.notFar f = x.exc 1 := if_pos hf

/-! ### What runs for each command -/

section Rows
variable {n : Fin 68} {e : Nat} {s : State} {w : Word} {x : EngX} (hx : x = s.issue n e w)
include hx

section Bcc
variable (h : Issues s n e w .bcc)
include h

theorem exec_bcc_taken (hc : condHolds (fCOND w) x.core.nzcv = true) :
    exec (.bcc n) s = .next (x.goto ((s.leng e).pc + sextInt 16 (fIMM w)) x.core) := by
  subst hx
  exact (h.next_engRun _).trans (congrArg Host.Outcome.next (if_pos hc))

theorem exec_bcc_goesOn (hc : condHolds (fCOND w) x.core.nzcv = false) : exec (.bcc n) s = .next (x.done x.c) := by
  subst hx
  exact (h.next_engRun _).trans (congrArg Host.Outcome.next (if_neg (Bool.eq_false_iff.1 hc)))

end Bcc

theorem exec_jmp_issues (h : Issues s n e w .jmp) : exec (.jmp n) s = .next (x.notFar (x.goto (fTARGET w) x.core)) := by
  subst hx
  exact h.next_engRun _

theorem exec_call_issues (h : Issues s n e w .call) : exec (.call n) s =
    .next (x.notFar (x.goto (fTARGET w) { x.core with lr := BitVec.ofNat 64 ((s.leng e).pc + 1) })) := by
  subst hx
  exact h.next_engRun _

theorem exec_jr_issues (h : Issues s n e w .jr) : exec (.jr n) s = .next (x.notFar (x.goto x.ra.toNat x.core)) := by
  subst hx
  exact h.next_engRun _

theorem exec_ret_issues (h : Issues s n e w .ret) : exec (.ret n) s = .next (x.notFar (x.goto x.core.lr.toNat x.core)) := by
  subst hx
  exact h.next_engRun _

/-- FRET leaves far code. -/
theorem exec_fret_far (h : Issues s n e w .fret) (hf : x.c.inFar = true) (hl : x.core.lr.msb = false) :
    exec (.fret n) s = .next (x.done { x.c with inFar := false, pc := x.core.lr.toNat % 8192 }) := by
  subst hx
  refine (h.next_engRun _).trans ?_
  simp only [hf, hl, Bool.not_true, Bool.or_false, Bool.false_eq_true, if_false]

/-- FCALL enters far code, where it is enabled and the offset is a word of the window. -/
theorem exec_fcall_near (h : Issues s n e w .fcall) (hen : s.getB (Reg.ENG_FAR_CTL n) 0 = true) (ha : x.ra.toNat % 4 = 0)
    (hlt : x.ra.toNat < 2 ^ 26) (hn : x.c.inFar = false) : exec (.fcall n) s = .next (x.done { x.c with
      inFar := true, farBank := x.ra.toNat / 2 ^ 23, pc := x.ra.toNat / 4,
      core := { x.core with lr := BitVec.ofNat 64 ((s.leng e).pc + 1) } }) := by
  subst hx
  refine (h.next_engRun _).trans ?_
  simp only [State.issue_s, State.issue_n, hen, ha, hn, Nat.not_le.2 hlt, Bool.not_true, bne_self_eq_false, decide_false, Bool.or_false,
    Bool.false_eq_true, if_false]
  rfl

end Rows

/-- Settles O24: each clause is one case of where a row's target leads. -/
theorem engineControlFlow : Obligations.EngineControlFlow := by
  refine fun n e s w x hx => ⟨fun h hc => ?_, fun h hc hn h0 ht => ?_, fun h hc ht => ?_, fun h hn => ?_, fun h hn => ?_,
    fun h hn ht => ?_, fun h hn ht => ?_, fun h hn hm => ?_, fun hf => ⟨fun h => ?_, fun h => ?_, fun h => ?_⟩, fun h hf hl => ?_,
    fun h hen ha hlt hn => ?_⟩
  · rw [exec_bcc_goesOn hx h hc, hx]
    rfl
  · rw [exec_bcc_taken hx h hc, EngX.goto_inside _ hn h0 ht, hx]
    rfl
  · rw [exec_bcc_taken hx h hc, EngX.goto_negative _ ht]
  · rw [exec_jmp_issues hx h, EngX.notFar_goto hn _ (fTARGET_lt w), hx]
    rfl
  · rw [exec_call_issues hx h, EngX.notFar_goto hn _ (fTARGET_lt w), hx]
    rfl
  · rw [exec_jr_issues hx h, EngX.notFar_goto hn _ ht, hx]
    rfl
  · rw [exec_ret_issues hx h, EngX.notFar_goto hn _ ht, hx]
    rfl
  · have hlr : 2 ^ 63 ≤ x.core.lr.toNat := BitVec.le_toNat_of_msb_true hm
    rw [exec_ret_issues hx h, EngX.notFar_near hn, EngX.goto_beyond _ hn (by omega)]
  · rw [exec_jmp_issues hx h, EngX.notFar_far hf]
  · rw [exec_call_issues hx h, EngX.notFar_far hf]
  · rw [exec_jr_issues hx h, EngX.notFar_far hf]
  · rw [exec_fret_far hx h hf hl, hx]
    rfl
  · rw [exec_fcall_near hx h hen ha hlt hn, hx]
    rfl

end Sys2Proof.Machine
end

section
/-!
PROOF. What an engine's motion-unit instructions do and its log and checkpoint instructions (R148–R154, R156, R157–R173), case by
case, and the obligation EngineMotionAndLog.
-/
namespace Sys2Proof.Machine

/-- A read without an ECC error goes on (R89). -/
theorem EngX.eccRead_clean (x : EngX) (f : EngX → State) : x.eccRead .clean f = f x := rfl

/-- An effect that leaves the engine is carried out on the state that has logged it (R101). -/
theorem EngX.effect_go {x : EngX} {f : Effect} {c : LEng} {k : Nat} (h : x.release f = .go c k) (act : State → State) :
    x.effect f act = act (x.s.putLogged x.n x.e c) := by
  simp only [EngX.effect, h]

/-- The speed that a CAM STEP gives (R167): the slope of the table times the master's. -/
def EngCore.camSpeed (k : EngCore) (v : CamVal) : Nat := dToS (dMul (fOfRat fD v.slopeNum v.slopeDen) (sToD (k.unitS 1 2)))

section Rows
variable {n : Fin 68} {e : Nat} {s : State} {w : Word} {x : EngX} (hx : x = s.issue n e w)
include hx

/-! ### Unit registers (R148) -/

section Uwr
variable (h : Issues s n e w .uwr)
include h

theorem exec_uwr_internal (hu : fld w 10 8 < 5) :
    exec (.uwr n) s = .next (x.put (x.core.writeUnit (fld w 10 8) (fld w 7 0) x.ra)) := by
  subst hx
  exact (h.next_engRun _).trans (congrArg Host.Outcome.next (if_pos hu))

/-- A write of units 5 and 6 is an effect. -/
theorem exec_uwr_effect (hu : 5 ≤ fld w 10 8) : exec (.uwr n) s = .next
    (x.effect (.unitWrite (fld w 10 8) (fld w 7 0) x.ra) fun s => s.axisWrite e (fld w 10 8) (fld w 7 0) x.ra) := by
  subst hx
  exact (h.next_engRun _).trans (congrArg Host.Outcome.next (if_neg (Nat.not_lt.2 hu)))

end Uwr

theorem exec_urd_internal (h : Issues s n e w .urd) (hu : fld w 10 8 ≠ 6) :
    exec (.urd n) s = .next (x.setRd (x.unitValue (fld w 10 8) (fld w 7 0))) := by
  subst hx
  exact (h.next_engRun _).trans (congrArg Host.Outcome.next (if_pos hu))

/-! ### CAM (R150, R162–R167) -/

section Engage
variable (h : Issues s n e w .engage) (ecc : Ecc) {t : Nat}
include h

/-- An absolute ENGAGE takes its table without an offset; one that is not loaded is UNIT. -/
theorem exec_engage_absolute (ht : x.ra.toNat < 8) : exec (.engage n ecc) s = .next (
    if !(s.activeDesc e x.ra.toNat).valid then x.exc 5
    else x.put (((x.core.setUnit 1 8 0).setUnit 1 9 (BitVec.ofNat 64 (128 + x.ra.toNat))).status stOK)) := by
  subst hx
  refine (h.next_engRun _).trans ?_
  simp only [Nat.mod_eq_of_lt ht, Nat.sub_self, ne_eq, not_true_eq_false, false_and, if_false, State.issue_e,
    if_pos (Nat.lt_trans ht (by decide : 8 < 256))]

/-- A relative ENGAGE takes the offset that makes rb the position of its table. -/
theorem exec_engage_relative (hr : x.ra.toNat = 256 + t) (ht : t < 8) (hv : (s.activeDesc e t).valid = true) :
    exec (.engage n .clean) s = .next (x.put (((x.core.setUnit 1 8
      (x.rb - camOut (s.activeDesc e t) (s.camAt e (s.activeDesc e t) (x.core.unit 1 1)))).setUnit 1 9
        (BitVec.ofNat 64 (128 + t))).status stOK)) := by
  subst hx
  refine (h.next_engRun _).trans ?_
  have hm : (256 + t) % 8 = t := by omega
  have hd : ¬ (256 + t - t ≠ 0 ∧ 256 + t - t ≠ 256) := by omega
  simp only [hr, hm, if_neg hd, State.issue_e, hv, Bool.not_true, Bool.false_eq_true, if_false,
    if_neg (Nat.not_lt.2 (Nat.le_add_right 256 t)), EngX.eccRead_clean]

end Engage

section CamStep
variable (h : Issues s n e w .camStep)
include h

theorem exec_camStep_disengaged (ecc : Ecc) (he : (x.core.unit 1 9).toNat.testBit 7 = false) :
    exec (.camStep n ecc) s = .next (x.put (x.core.status stBADPARAM)) := by
  subst hx
  refine (h.next_engRun _).trans ?_
  simp only [he, Bool.not_false, Bool.true_or, if_true]

/-- A CAM STEP of an engaged unit gives the position and the speed of its table at the master's. -/
theorem exec_camStep_engaged {d : CamDesc} {v : CamVal} {out : DWord} (he : (x.core.unit 1 9).toNat.testBit 7 = true)
    (hk : nbits (x.core.unit 1 0).toNat 7 6 ≠ 3) (hd : d = s.activeDesc e ((x.core.unit 1 9).toNat % 8)) (hv : d.valid = true)
    (hc : v = s.camAt e d (x.core.unit 1 1)) (ho : out = camOut d v + x.core.unit 1 8) :
    exec (.camStep n .clean) s = .next (x.put { (((((x.core.status stOK).setUnit 1 0xA out).setUnit 1 0xB
      (BitVec.ofNat 64 (x.core.camSpeed v))).setG (fRD w) out).setZ (v.k != x.core.camK)) with camK := v.k }) := by
  subst hx ho hc hd
  refine (h.next_engRun _).trans ?_
  simp only [he, beq_eq_false_iff_ne.2 hk, Bool.not_true, Bool.or_self, Bool.false_eq_true, if_false, State.issue_e, hv,
    EngX.eccRead_clean]
  rfl

end CamStep

theorem exec_cami_loaded (h : Issues s n e w .cami) {d : CamDesc} (hd : d = s.activeDesc e (fld w 2 0)) (hv : d.valid = true) :
    exec (.cami n .clean) s = .next (x.put ((x.core.setG (fRD w) (s.camAt e d x.ra).value).setZ
      (d.cyclic && (s.camAt e d x.ra).k != 0))) := by
  subst hx hd
  refine (h.next_engRun _).trans ?_
  simp only [State.issue_e, State.issue_w, hv, Bool.not_true, Bool.false_eq_true, if_false, EngX.eccRead_clean]

/-! ### LOOP, BIQ and PWM (R151, R152, R173) -/

theorem exec_loopx_enabled (h : Issues s n e w .loopx) (hon : x.core.loopOn (fld w 1 0) = true) {r : EngCore × Nat × Bool}
    (hr : r = x.core.loopx (fld w 1 0) x.ra x.rb x.period) :
    exec (.loopx n) s = .next (x.put ((r.1.setG (fRD w) (BitVec.ofNat 64 r.2.1)).setZ r.2.2)) := by
  subst hx hr
  refine (h.next_engRun _).trans ?_
  simp only [State.issue_w, hon, Bool.not_true, Bool.false_eq_true, if_false]

theorem exec_loopx_notEnabled (h : Issues s n e w .loopx) (hon : x.core.loopOn (fld w 1 0) = false) :
    exec (.loopx n) s = .next (x.exc 5) := by
  subst hx
  refine (h.next_engRun _).trans ?_
  simp only [State.issue_w, hon, Bool.not_false, if_true]

theorem exec_biqx_enabled (h : Issues s n e w .biqx) (hen : (x.core.unit 3 0x20).getLsbD 0 = true) :
    exec (.biqx n) s = .next (x.put ((x.core.biqx (x.ra.toNat % 2 ^ 32)).1.setG (fRD w)
      (BitVec.ofNat 64 (x.core.biqx (x.ra.toNat % 2 ^ 32)).2))) := by
  subst hx
  refine (h.next_engRun _).trans ?_
  simp only [State.issue_w, hen, Bool.not_true, Bool.false_eq_true, if_false]

/-- APPLY sets its status and is an effect. -/
theorem exec_apply_issues (h : Issues s n e w .apply) : exec (.apply n) s =
    .next (({ x with c := { x.c with core := x.core.status stOK } } : EngX).effect (.unitCmd 5 0)
      fun s => s.setLeng e { s.leng e with axis := (s.leng e).axis.apply s.time }) := by
  subst hx
  exact h.next_engRun _

/-! ### Checkpoint hints (R154) -/

section Prelog
variable (h : Issues s n e w .prelog)
include h

theorem exec_prelog_misaddressed (ha : 0x10000 ≤ x.ra.toNat) : exec (.prelog n) s = .next (x.exc 3) := by
  subst hx
  exact (h.next_engRun _).trans (congrArg Host.Outcome.next (if_pos ha))

/-- The lines of a PRELOG that are not logged yet are logged where all of them have room. -/
theorem exec_prelog_logs (ha : x.ra.toNat < 0x10000) {new : List Nat}
    (hnew : new = ((List.range ((x.ra.toNat + 64 * fRB w - 1) / 32 + 1 - x.ra.toNat / 32)).map (fun i => x.ra.toNat / 32 + i)).filter
      (fun l => decide (l < 2048) && !x.c.undo.any (fun u => u.1 == l)))
    (hroom : x.c.undo.length + new.length ≤ 256) :
    exec (.prelog n) s = .next (s.putLogged n e (new.foldl LEng.logLine x.c)) := by
  subst hx hnew
  exact (h.next_engRun _).trans (congrArg Host.Outcome.next
    ((if_neg (Nat.not_le.2 ha)).trans (if_neg (Nat.not_lt.2 hroom))))

end Prelog

/-! ### The end of a cycle (R104, R156) -/

section Cend
variable (h : Issues s n e w .cend) (hm : x.overMargin = false)
include h hm

/-- A CEND in its margin ends the cycle, or drains the statuses that are still out. -/
theorem exec_cend_inMargin : exec (.cend n) s = .next (if x.c.efWait = [] then x.endCycle else x.stall .drain) := by
  subst hx
  refine (congrArg Host.Outcome.next (h.engRunW _ _)).trans ?_
  simp only [hm, Bool.and_false, Bool.false_eq_true, if_false]
  rfl

theorem exec_cend_ends (hw : x.c.efWait = []) : exec (.cend n) s = .next x.endCycle := by
  rw [exec_cend_inMargin hx h hm, if_pos hw]

theorem exec_cend_drains (hw : x.c.efWait ≠ []) : exec (.cend n) s = .next (x.stall .drain) := by
  rw [exec_cend_inMargin hx h hm, if_neg hw]

end Cend
end Rows

/-- Settles O28: each clause is one case of a row; where the row has one case only, it is the row itself. -/
theorem engineMotionAndLog : Obligations.EngineMotionAndLog := by
  constructor <;> rintro n e s w x rfl
  · refine ⟨exec_uwr_internal rfl, exec_urd_internal rfl, fun h => h.next_engRun _, fun h => h.next_engRun _,
      fun h => h.next_engRun _, fun h => h.next_engRun _, fun ecc h ht hv => ?_, fun ecc h ht hv => ?_,
      fun t d h hr ht hd hv => ?_, fun h => h.next_engRun _, fun ecc h => exec_camStep_disengaged rfl h ecc,
      fun d v out h he hk hd hv hc ho => ⟨_, exec_camStep_engaged rfl h he hk hd hv hc ho⟩, fun h => h.next_engRun _,
      fun d h hd hv => exec_cami_loaded rfl h hd hv⟩
    · rw [exec_engage_absolute rfl h ecc ht, hv]
      rfl
    · rw [exec_engage_absolute rfl h ecc ht, hv]
      rfl
    · subst hd
      exact exec_engage_relative rfl h hr ht hv
  · refine ⟨fun h => h.next_engRun _, fun h => h.next_engRun _, fun r h hon hr => exec_loopx_enabled rfl h hon hr,
      exec_loopx_notEnabled rfl, fun r h hen hr => ?_, fun r h hr => ?_, fun c k u y h hy hgo hu => ?_, fun c k u h hu hgo hu' => ?_,
      exec_prelog_misaddressed rfl, fun new h ha hnew hroom => exec_prelog_logs rfl h ha hnew hroom, fun h => h.next_engRun _,
      fun h => h.next_engRun _, fun h hw hm => exec_cend_ends rfl h hm hw, fun h hw hm => exec_cend_drains rfl h hm hw⟩
    · subst hr
      exact exec_biqx_enabled rfl h hen
    · subst hr
      exact h.next_engRun _
    · subst hy hu
      rw [exec_apply_issues rfl h, EngX.effect_go hgo]
      rfl
    · subst hu'
      rw [exec_uwr_effect rfl h hu, EngX.effect_go hgo]
      rfl

end Sys2Proof.Machine
end

section
/-!
PROOF. What the inputs of an axis I/O block do: levels and counts of the encoder, the index, SSI frames and delta-sigma samples (R175,
R177–R179), case by case, and the obligation AxisInputs.
-/
namespace Sys2Proof.Machine

/-! ### What runs for each command -/

theorem exec_quadratureCount (e : Fin 64) (ha hb : BitVec 16) (s : State) :
    exec (.quadratureCount e ha hb) s = execQuadratureCount e ha hb s := rfl
theorem exec_indexEdge (e : Fin 64) (high : Bool) (s : State) : exec (.indexEdge e high) s = execIndexEdge e high s := rfl
theorem exec_ssiFrameEnd (e : Fin 64) (bits : Nat) (low : Bool) (s : State) :
    exec (.ssiFrameEnd e bits low) s = execSsiFrameEnd e bits low s := rfl
theorem exec_dsSample (e : Fin 64) (k : Fin 4) (bits : List Bool) (s : State) :
    exec (.dsSample e k bits) s = execDsSample e k bits s := rfl
theorem exec_dsClklost (e : Fin 64) (s : State) : exec (.dsClklost e) s = execDsClklost e s := rfl

/-! ### Accepted levels (R175) -/

/-- The low `f + 1` bits of a word are the least or the greatest number of that width just where all of them are alike. -/
theorem lowBits_eq_iff {w f : Nat} {h : BitVec w} {c : Bool} :
    h.toNat % 2 ^ (f + 1) = (if c then 2 ^ (f + 1) - 1 else 0) ↔ ∀ i, i ≤ f → h.getLsbD i = c := by
  have hbits : ∀ i, (if c then 2 ^ (f + 1) - 1 else 0).testBit i = (decide (i < f + 1) && c) := fun i => by
    cases c <;> simp [Nat.testBit_two_pow_sub_one]
  constructor
  · intro heq i hi
    have hbit := Nat.testBit_mod_two_pow h.toNat (f + 1) i
    rw [heq, hbits, BitVec.testBit_toNat] at hbit
    simpa [Nat.lt_succ_of_le hi] using hbit.symm
  · intro hall
    refine Nat.eq_of_testBit_eq fun i => ?_
    rw [Nat.testBit_mod_two_pow, hbits, BitVec.testBit_toNat]
    by_cases hi : i < f + 1
    · rw [hall i (Nat.le_of_lt_succ hi)]
    · simp only [hi, decide_false, Bool.false_and]

section Accepted
variable {x : AxisIo} {h : BitVec 16} {old : Bool}

theorem AxisIo.accepted_low (hall : ∀ i, i ≤ x.fieldOf 0 5 2 → h.getLsbD i = false) : x.accepted h old = false :=
  if_pos (lowBits_eq_iff.2 hall)

theorem AxisIo.accepted_high (hall : ∀ i, i ≤ x.fieldOf 0 5 2 → h.getLsbD i = true) : x.accepted h old = true := by
  have hn : h.toNat % 2 ^ (x.fieldOf 0 5 2 + 1) = 2 ^ (x.fieldOf 0 5 2 + 1) - 1 := lowBits_eq_iff.2 hall
  have hlt : 1 < 2 ^ (x.fieldOf 0 5 2 + 1) := Nat.one_lt_two_pow (Nat.succ_ne_zero _)
  rw [AxisIo.accepted, if_neg (by omega), if_pos (by omega)]

/-- A level that was not stable is not taken. -/
theorem AxisIo.accepted_unstable (hhigh : ∃ i, i ≤ x.fieldOf 0 5 2 ∧ h.getLsbD i = true)
    (hlow : ∃ i, i ≤ x.fieldOf 0 5 2 ∧ h.getLsbD i = false) : x.accepted h old = old := by
  obtain ⟨i, hi, hit⟩ := hhigh
  obtain ⟨j, hj, hjf⟩ := hlow
  have h0 : h.toNat % 2 ^ (x.fieldOf 0 5 2 + 1) ≠ 0 := fun hn =>
    Bool.false_ne_true ((lowBits_eq_iff.1 hn i hi).symm.trans hit)
  have h1 : h.toNat % 2 ^ (x.fieldOf 0 5 2 + 1) ≠ 2 ^ (x.fieldOf 0 5 2 + 1) - 1 := fun hn =>
    Bool.false_ne_true (hjf.symm.trans (lowBits_eq_iff.1 hn j hj))
  rw [AxisIo.accepted, if_neg h0, if_neg (by omega)]

end Accepted

/-! ### Quadrature counts (R175) -/

/-- The steps from the place of the levels `a` and `b` in the sequence to that of `a'` and `b'`. -/
def quadStep (a b a' b' : Bool) : Nat := (quadPlace a' b' + 4 - quadPlace a b) % 4

theorem quadStep_same : ∀ a b, quadStep a b a b = 0 := by decide
theorem quadStep_a : ∀ a b a', a' ≠ a → quadStep a b a' b = if a' != b then 1 else 3 := by decide
theorem quadStep_b : ∀ a b b', b' ≠ b → quadStep a b a b' = if b' == a then 1 else 3 := by decide
theorem quadStep_both : ∀ a b a' b', a' ≠ a → b' ≠ b → quadStep a b a' b' = 2 := by decide

/-- A step forward counts up, unless DIR turns it round; one backward counts down. -/
theorem AxisIo.countBy_eq (x : AxisIo) (up : Bool) (t : DWord) : x.countBy (if up then 1 else -1) t =
    { x with count := if up != (x.reg 0).getLsbD 7 then x.count + 1 else x.count - 1, changed := t } := by
  have hneg : dw (-1) = -1 := rfl
  have hpos : dw 1 = 1 := rfl
  simp only [AxisIo.countBy, BitVec.sub_eq_add_neg]
  cases up <;> cases (x.reg 0).getLsbD 7 <;> simp [hneg, hpos]

section Quadrature
variable {e : Fin 64} {ha hb : BitVec 16} {s : State} {x : AxisIo} {a b : Bool}

theorem exec_quadratureCount_otherMode (hm : (s.leng e).axis.encMode ≠ 1) : exec (.quadratureCount e ha hb) s = .next s := by
  rw [exec_quadratureCount, execQuadratureCount, if_pos hm]

variable (hx : x = (s.leng e).axis) (hm : x.encMode = 1) (hA : a = x.accepted ha x.a) (hB : b = x.accepted hb x.b)
include hx hm hA hB

theorem exec_quadratureCount_rests (hq : quadStep x.a x.b a b = 0) : exec (.quadratureCount e ha hb) s = .next s := by
  subst hx hA hB
  rw [quadStep] at hq
  simp only [exec_quadratureCount, execQuadratureCount, if_neg (not_not.2 hm), hq]

/-- One accepted change counts, with the place of the levels. -/
theorem exec_quadratureCount_counts {up : Bool} (hq : quadStep x.a x.b a b = if up then 1 else 3) :
    exec (.quadratureCount e ha hb) s = .next (s.setAxis e { x with
      a := a, b := b, count := if up != (x.reg 0).getLsbD 7 then x.count + 1 else x.count - 1, changed := s.time }) := by
  have hcount := congrArg (fun y => (.next (s.setAxis e y) : Out)) (AxisIo.countBy_eq { x with a := a, b := b } up s.time)
  subst hx hA hB
  rw [quadStep] at hq
  cases up <;> simp only [exec_quadratureCount, execQuadratureCount, if_neg (not_not.2 hm), hq] <;> exact hcount

/-- Both levels changed at once are an illegal transition. -/
theorem exec_quadratureCount_illegal (hq : quadStep x.a x.b a b = 2) : exec (.quadratureCount e ha hb) s =
    .next (s.setAxis e (({ x with a := a, b := b } : AxisIo).setReg 0xA (BitVec.ofNat 64 ((x.reg 0xA).toNat % 65536 +
      65536 * satAdd 16 (nbits (x.reg 0xA).toNat 31 16) 1)))) := by
  subst hx hA hB
  rw [quadStep] at hq
  simp only [exec_quadratureCount, execQuadratureCount, if_neg (not_not.2 hm), hq]
  rfl

end Quadrature

/-! ### The index (R177) -/

section Index
variable {e : Fin 64} {high : Bool} {s : State} {x : AxisIo}

theorem exec_indexEdge_gated (hg : ((s.leng e).axis.reg 0).getLsbD 6 = true) : exec (.indexEdge e false) s = .next s :=
  if_pos (by rw [hg]; rfl)

/-- An index edge that is taken records the count, which an armed HOME sets first. -/
theorem exec_indexEdge_taken (hx : x = (s.leng e).axis) (hg : (x.reg 0).getLsbD 6 = false ∨ high = true) {y : AxisIo}
    (hy : y = if (x.reg 8).getLsbD 0 then ({ x with count := x.reg 9, changed := s.time } : AxisIo).setReg 8 0 else x) :
    exec (.indexEdge e high) s = .next (s.setAxis e (((y.setReg 6 y.count).setReg 7 s.time).setBit 0xA 0 true)) := by
  subst hx hy
  exact if_neg (by rcases hg with h | h <;> rw [h] <;> simp)

end Index

/-! ### SSI frames (R178) -/

section Ssi
variable {e : Fin 64} {bits v : Nat} {low : Bool} {s : State} {x : AxisIo} {t0 t1 : DWord}

theorem exec_ssiFrameEnd_notDue (h : (s.leng e).axis.ssiRun = none ∨ s.ssiEnd (s.leng e).axis = none ∨
    ∃ t, s.ssiEnd (s.leng e).axis = some t ∧ s.reached t = false) : exec (.ssiFrameEnd e bits low) s = .next s := by
  rw [exec_ssiFrameEnd, execSsiFrameEnd]
  rcases h with h | h | ⟨t, ht, hr⟩
  · simp only [h]
  · cases hrun : (s.leng e).axis.ssiRun <;> simp only [h]
  · cases hrun : (s.leng e).axis.ssiRun <;> simp [ht, hr]

variable (hx : x = (s.leng e).axis) (hrun : x.ssiRun = some t0) (hend : s.ssiEnd x = some t1) (hr : s.reached t1 = true)
include hx hrun hend hr

/-- A frame whose line is high after its last bit ends with an error. -/
theorem exec_ssiFrameEnd_error : exec (.ssiFrameEnd e bits false) s =
    .next (s.setAxis e ((({ x with ssiRun := none } : AxisIo).setBit 0xA 2 true).setBit 0xA 1 false)) := by
  subst hx
  simp only [exec_ssiFrameEnd, execSsiFrameEnd, hrun, hend, hr, Bool.false_eq_true, if_true, if_false]

variable (hv : v = if (x.reg 0).getLsbD 14 then grayDecode x.ssiBits (bits % 2 ^ x.ssiBits) else bits % 2 ^ x.ssiBits)
include hv

theorem exec_ssiFrameEnd_first (hl : x.ssiLast = none) : exec (.ssiFrameEnd e bits true) s = .next (s.setAxis e
    (({ x with ssiRun := none, count := BitVec.ofNat 64 v, ssiLast := some v, ssiAt := t0 } : AxisIo).setBit 0xA 1 true)) := by
  subst hx hv
  simp only [exec_ssiFrameEnd, execSsiFrameEnd, hrun, hend, hr, hl, if_true]

theorem exec_ssiFrameEnd_later {u : Nat} (hl : x.ssiLast = some u) : exec (.ssiFrameEnd e bits true) s = .next (s.setAxis e
    (({ x with ssiRun := none, count := x.count + dw (sextInt x.ssiBits (v + 2 ^ x.ssiBits - u)), ssiLast := some v, ssiAt := t0 }
      : AxisIo).setBit 0xA 1 true)) := by
  subst hx hv
  simp only [exec_ssiFrameEnd, execSsiFrameEnd, hrun, hend, hr, hl, if_true]

end Ssi

/-! ### Delta-sigma inputs (R179) -/

section DeltaSigma
variable {e : Fin 64} {s : State}

/-- The clock counts as lost while it is external, or while its output does not run. -/
theorem exec_dsClklost_lost (h : ((s.leng e).axis.reg 0x10).getLsbD 13 = true ∨ s.dsClock (s.leng e).axis = false) :
    exec (.dsClklost e) s = .next (s.setAxis e { ((s.leng e).axis.setReg 0x1A 0x10) with dsCount := [] }) :=
  if_neg (by rcases h with h | h <;> simp [h])

theorem exec_dsClklost_derived (hext : ((s.leng e).axis.reg 0x10).getLsbD 13 = false) (hc : s.dsClock (s.leng e).axis = true) :
    exec (.dsClklost e) s = .next s :=
  if_pos (by rw [hext, hc]; rfl)

variable {k : Fin 4} {bits : List Bool} {x y : AxisIo} {n : Nat}

theorem exec_dsSample_not (h : ((s.leng e).axis.reg 0x10).getLsbD k.val = false ∨ s.dsClock (s.leng e).axis = false ∨
    s.dsPaced (s.leng e).axis k = false) : exec (.dsSample e k bits) s = .next s :=
  if_pos (by rcases h with h | h | h <;> simp [h])

/-- A sample is valid from the fourth on. -/
theorem exec_dsSample_taken (hx : x = (s.leng e).axis) (hen : (x.reg 0x10).getLsbD k.val = true) (hc : s.dsClock x = true)
    (hp : s.dsPaced x k = true) (hn : n = tabGet (fun _ => 0) x.dsCount k)
    (hy : y = (({ x with
      dsNew := tabInsert x.dsNew k (BitVec.ofNat 64 (fOfRat fS (2 * (sinc3 x.osr bits : Nat) - (x.osr ^ 3 : Nat)) (x.osr ^ 3)), s.time),
      dsCount := tabPut (fun _ => 0) x.dsCount k (min (n + 1) 4) } : AxisIo).setBit 0x1A 4 false)) :
    exec (.dsSample e k bits) s = .next (s.setAxis e (if 3 < n + 1 then y.setBit 0x1A k true else y)) := by
  subst hx hn hy
  exact if_neg (by simp [hen, hc, hp])

end DeltaSigma

/-- Settles O32: each clause is one case of a level, a count, an index edge, an SSI frame or a delta-sigma sample. -/
theorem axisInputs : Obligations.AxisInputs := by
  refine ⟨⟨fun x h old _ => ⟨AxisIo.accepted_high, AxisIo.accepted_low, AxisIo.accepted_unstable⟩, ?_,
      fun _ _ _ _ => exec_quadratureCount_otherMode⟩,
    ⟨fun e high s x hx hg => ⟨fun harm => ?_, fun harm => ?_⟩, fun _ _ => exec_indexEdge_gated,
      fun e bits v s x t0 t1 hx hrun hend hr hv => ⟨exec_ssiFrameEnd_first hx hrun hend hr hv,
        fun _ => exec_ssiFrameEnd_later hx hrun hend hr hv, exec_ssiFrameEnd_error hx hrun hend hr⟩,
      fun _ _ _ _ => exec_ssiFrameEnd_notDue⟩,
    ⟨fun e k bits s x y n hx hen hc hp hn hy => ⟨fun hlt => ?_, fun hle => ?_⟩, fun _ _ _ _ => exec_dsSample_not,
      fun _ _ => exec_dsClklost_lost, fun _ _ => exec_dsClklost_derived⟩⟩
  · intro e ha hb s x a b dir hx hm hA hB hdir
    subst hdir
    refine ⟨fun h1 h2 => ?_, fun h1 h2 => ?_, fun h1 h2 => ?_, fun h1 h2 => ?_⟩
    · exact exec_quadratureCount_rests hx hm hA hB (by rw [h1, h2, quadStep_same])
    · rw [exec_quadratureCount_counts hx hm hA hB (up := a != x.b) (by rw [h2]; exact quadStep_a _ _ _ h1), h2]
    · rw [exec_quadratureCount_counts hx hm hA hB (up := b == x.a) (by rw [h1]; exact quadStep_b _ _ _ h2), h1]
    · exact exec_quadratureCount_illegal hx hm hA hB (quadStep_both _ _ _ _ h1 h2)
  · rw [exec_indexEdge_taken hx hg rfl, harm]
    rfl
  · rw [exec_indexEdge_taken hx hg rfl, harm]
    rfl
  · rw [exec_dsSample_taken hx hen hc hp hn hy, if_neg (by omega)]
  · rw [exec_dsSample_taken hx hen hc hp hn hy, if_pos (by omega)]

end Sys2Proof.Machine
end

section
/-!
PROOF. What the outputs of an axis I/O block and the analog converters do (R172–R174, R182–R185), case by case, and the obligation
AxisOutputs.
-/
namespace Sys2Proof.Machine

/-! ### What runs for each command -/

theorem exec_pwmWriteApply (e : Fin 64) (s : State) : exec (.pwmWriteApply e) s = execPwmWriteApply e s := rfl
theorem exec_pwmEdge (e : Fin 64) (k : Fin 6) (s : State) : exec (.pwmEdge e k) s = execPwmEdge e k s := rfl
theorem exec_convert (c : Fin 4) (s : State) : exec (.convert c) s = execConvert c s := rfl
theorem exec_sequence (c : Fin 4) (s : State) : exec (.sequence c) s = execSequence c s := rfl
theorem exec_adcResult (c : Fin 4) (v : BitVec 16) (s : State) : exec (.adcResult c v) s = execAdcResult c v s := rfl

/-! ### PWM (R172–R174) -/

section Pwm
variable {e : Fin 64} {s : State}

theorem exec_pwmWriteApply_reached {t : DWord} (hn : (s.leng e).axis.nextApply = some t) (hr : s.reached t = true) :
    exec (.pwmWriteApply e) s = .next (s.setAxis e ((s.leng e).axis.applied t (s.halted e))) := by
  simp only [exec_pwmWriteApply, execPwmWriteApply, hn, if_pos hr]

theorem exec_pwmWriteApply_not
    (h : (s.leng e).axis.nextApply = none ∨ ∃ t, (s.leng e).axis.nextApply = some t ∧ s.reached t = false) :
    exec (.pwmWriteApply e) s = .next s := by
  rw [exec_pwmWriteApply, execPwmWriteApply]
  obtain h | ⟨t, ht, hr⟩ := h
  · simp only [h]
  · simp only [ht, hr, Bool.false_eq_true, if_false]

variable {k : Fin 6}

theorem exec_pwmEdge_none (h : s.nextEdge e k = none) : exec (.pwmEdge e k) s = .next s := by
  simp only [exec_pwmEdge, execPwmEdge, h]

/-- The next edge of an output enters the launch cells of its pins, and is the output's last level. -/
theorem exec_pwmEdge_delivers {u : State} {t : DWord} {v : Nat} (h : s.nextEdge e k = some (t, v))
    (hu : u = (pinsOf s.cfg.active e k).foldl (fun s p => s.setCell p
      { s.cell p with queue := launchInsert (s.cell p).queue ⟨if v = 2 then 3 else v, t, 0, none⟩ }) s) :
    exec (.pwmEdge e k) s =
      .next (u.setAxis e { (u.leng e).axis with pwmOut := tabPut (fun _ => 3) (u.leng e).axis.pwmOut k v }) := by
  subst hu
  simp only [exec_pwmEdge, execPwmEdge, h]

end Pwm

/-! ### Actions at a converter (R182–R184) -/

section Convert
variable {c : Fin 4} {s : State} {d : Delivered}

theorem exec_convert_due (h : s.due? 4 c 0 = some d) : exec (.convert c) s = .next (s.convert c d [fld d.act.data 5 0]) := by
  simp only [exec_convert, execConvert, h]

theorem exec_convert_none (h : s.due? 4 c 0 = none) : exec (.convert c) s = .next s := by
  simp only [exec_convert, execConvert, h]

theorem exec_sequence_due (h : s.due? 4 c 1 = some d) :
    exec (.sequence c) s = .next (s.convert c d (s.seqCodes (fld d.act.data 3 0))) := by
  simp only [exec_sequence, execSequence, h]

theorem exec_sequence_none (h : s.due? 4 c 1 = none) : exec (.sequence c) s = .next s := by
  simp only [exec_sequence, execSequence, h]

end Convert

section Converter
variable {c : Nat} {s u : State} {d : Delivered} {codes : List Nat}

/-- An action in the busy time is discarded whole. -/
theorem State.convert_collides {b : DWord} (hu : u = s.taken d) (hb : u.adcUntil c = some b) (hlt : before d.instant b = true) :
    s.convert c d codes = u.incR (Reg.ANA_ADC_COLL c) := by
  subst hu
  exact if_pos (by rw [hb, Option.any_some, hlt])

/-- A free converter is busy for the slots of all entries, and samples those that name a channel. -/
theorem State.convert_free (hu : u = (s.taken d).touch domAdc)
    (hb : ∀ b, (s.taken d).adcUntil c = some b → before d.instant b = false) :
    s.convert c d codes = { u with eng := { u.eng with
      adcBusy := tabInsert u.eng.adcBusy c (d.instant + units (12800 * codes.length))
      adcRun := u.eng.adcRun ++ (((List.range codes.length).zip codes).filter (fun p => decide (p.2 < 48))).map
        (fun p => (c, p.2, d.late, d.instant + units (12800 * p.1))) } } := by
  subst hu
  refine if_neg (Bool.eq_false_iff.1 ?_)
  cases hn : (s.taken d).adcUntil c with
  | none => rfl
  | some b => exact hb b hn

end Converter

/-! ### Results (R185) -/

section Result
variable {c : Fin 4} {v : BitVec 16} {s u : State} {code : Nat} {late : Bool} {t : DWord}

theorem exec_adcResult_not (h : s.eng.adcRun.find? (fun r => r.1 == c.val) = none ∨
    ∃ r, s.eng.adcRun.find? (fun r => r.1 == c.val) = some r ∧ s.reached r.2.2.2 = false) :
    exec (.adcResult c v) s = .next s := by
  rw [exec_adcResult, execAdcResult]
  obtain h | ⟨r, hf, hr⟩ := h
  · simp only [h]
  · simp only [hf, hr, Bool.not_false, if_true]

variable (hf : s.eng.adcRun.find? (fun r => r.1 == c.val) = some (c.val, code, late, t)) (hr : s.reached t = true)
  (hu : u = ({ s with eng := { s.eng with adcRun := s.eng.adcRun.erase (c.val, code, late, t) } } : State).setR (Reg.ANA_ADC_RES code)
    (BitVec.ofNat 32 (late.toNat <<< 30 + code <<< 16 + v.toNat)))
include hf hr hu

theorem exec_adcResult_unrouted (hen : bitOf (u.getR (Reg.ANA_ADC_ROUTE code)) 31 = false) : exec (.adcResult c v) s = .next u := by
  subst hu
  simp only [exec_adcResult, execAdcResult, hf, hr, hen, Bool.not_true, Bool.false_eq_true, if_false]

/-- A routed result is also that of its slot, with NEW set. -/
theorem exec_adcResult_routed {e m : Nat} (hen : bitOf (u.getR (Reg.ANA_ADC_ROUTE code)) 31 = true)
    (he : e = fld (u.getR (Reg.ANA_ADC_ROUTE code)) 13 8) (hm : m = fld (u.getR (Reg.ANA_ADC_ROUTE code)) 2 0) :
    exec (.adcResult c v) s = .next (u.setAxis e { (u.leng e).axis with
      adc := tabPut (fun _ => 0) (u.leng e).axis.adc m
        ((BitVec.ofNat 32 (late.toNat <<< 30 + code <<< 16 + v.toNat)) ||| 0x80000000) }) := by
  subst hu he hm
  simp only [exec_adcResult, execAdcResult, hf, hr, hen, Bool.not_true, Bool.false_eq_true, if_true, if_false]

end Result

/-- Settles O33: each clause is one case of a PWM write, an edge, a conversion or a result. -/
theorem axisOutputs : Obligations.AxisOutputs := by
  refine ⟨⟨fun e s x t hx hn hr => ?_, fun _ _ => exec_pwmWriteApply_not, fun _ _ => rfl, fun _ _ _ _ _ _ => exec_pwmEdge_delivers,
      fun _ _ _ => exec_pwmEdge_none⟩,
    ⟨fun _ _ _ => exec_convert_due, fun _ _ _ => exec_sequence_due, fun _ _ _ _ _ _ => State.convert_collides,
      fun _ _ _ _ _ => State.convert_free, fun _ _ => exec_convert_none, fun _ _ => exec_sequence_none, fun _ _ => rfl,
      fun c v s u code late t hf hr hu => ⟨exec_adcResult_unrouted hf hr hu, fun _ _ => exec_adcResult_routed hf hr hu⟩,
      fun _ _ _ => exec_adcResult_not⟩⟩
  subst hx
  exact exec_pwmWriteApply_reached hn hr

end Sys2Proof.Machine
end

section
/-!
PROOF. What the fabric's port interfaces ask for (R203, R210–R212, R361) and what contention on a segment does (R200, R201), case by
case, and the obligation FabricPorts.
-/
namespace Sys2Proof.Machine

/-! ### What runs for each command -/

theorem exec_fabricPost (i : Fin 48) (w : QWord) (s : State) : exec (.fabricPost i w) s = execFabricPost i w s := rfl
theorem exec_fabricCancel (i : Fin 48) (w : QWord) (s : State) : exec (.fabricCancel i w) s = execFabricCancel i w s := rfl
theorem exec_fabricMboxWrite (i : Fin 48) (e : Fin 64) (m : Fin 16) (v : DWord) (s : State) :
    exec (.fabricMboxWrite i e m v) s = execFabricMboxWrite i e m v s := rfl
theorem exec_fabricRequest (i : Fin 48) (op : Fin 6) (addr : Word) (len : Nat) (data : List Byte) (lock : BitVec 7) (s : State) :
    exec (.fabricRequest i op addr len data lock) s = execFabricRequest i op addr len data lock s := rfl
theorem exec_eventPortPulse (i : Fin 48) (u : Fin 64) (w : Word) (s : State) :
    exec (.eventPortPulse i u w) s = execEventPortPulse i u w s := rfl
theorem exec_contention (i : Fin 48) (seg : Fin 2048) (drv : Byte) (s : State) :
    exec (.contention i seg drv) s = execContention i seg drv s := rfl

/-! ### Interfaces, by their regional clock (R203, R210–R212, R361) -/

section Interface
variable {i : Fin 48} {s : State}

theorem exec_fabricPost_live {w : QWord} (h : s.ifaceLive i 8 = true) :
    exec (.fabricPost i w) s = .next (s.presentPost i false w) := by
  rw [exec_fabricPost, execFabricPost, if_pos h]

theorem exec_fabricCancel_live {w : QWord} (h : s.ifaceLive i 8 = true) :
    exec (.fabricCancel i w) s = .next (s.presentPost i true w) := by
  rw [exec_fabricCancel, execFabricCancel, if_pos h]

theorem exec_fabricPost_not {w : QWord} (h : s.ifaceLive i 8 = false) : exec (.fabricPost i w) s = .next s := by
  rw [exec_fabricPost, execFabricPost, if_neg (Bool.eq_false_iff.1 h)]

theorem exec_fabricCancel_not {w : QWord} (h : s.ifaceLive i 8 = false) : exec (.fabricCancel i w) s = .next s := by
  rw [exec_fabricCancel, execFabricCancel, if_neg (Bool.eq_false_iff.1 h)]

section Mail
variable {e : Fin 64} {m : Fin 16} {v : DWord}

theorem exec_fabricMboxWrite_live (h : s.ifaceLive i 9 = true) : exec (.fabricMboxWrite i e m v) s =
    .next { s with fab := { s.fab with mails := s.fab.mails ++ [(i.val, e.val, m.val, v)] } } := by
  rw [exec_fabricMboxWrite, execFabricMboxWrite, if_pos h]

theorem exec_fabricMboxWrite_not (h : s.ifaceLive i 9 = false) : exec (.fabricMboxWrite i e m v) s = .next s := by
  rw [exec_fabricMboxWrite, execFabricMboxWrite, if_neg (Bool.eq_false_iff.1 h)]

end Mail

section Request
variable {op : Fin 6} {addr : Word} {len : Nat} {data : List Byte} {lock : BitVec 7}

theorem exec_fabricRequest_live {t : State} {r : Nat} (h : s.ifaceLive i 11 = true)
    (hs : s.submit op addr.toNat len data lock.toNat (.fabric i) = (t, r)) : exec (.fabricRequest i op addr len data lock) s =
      .next (if r = 0 then t else { t with fab := { t.fab with answers := t.fab.answers ++ [(i.val, r, [])] } }) := by
  simp only [exec_fabricRequest, execFabricRequest, h, hs, Bool.not_true, Bool.false_eq_true, if_false, apply_ite Host.Outcome.next]

theorem exec_fabricRequest_not (h : s.ifaceLive i 11 = false) :
    exec (.fabricRequest i op addr len data lock) s = .next s := by
  rw [exec_fabricRequest, execFabricRequest, h, if_pos Bool.not_false]

end Request

section Event
variable {u : Fin 64} {w : Word}

theorem exec_eventPortPulse_live (h : s.ifaceLive i 10 = true) :
    exec (.eventPortPulse i u w) s = .next (s.raise (256 + u) w.toNat) := by
  rw [exec_eventPortPulse, execEventPortPulse, if_pos h]

theorem exec_eventPortPulse_not (h : s.ifaceLive i 10 = false) : exec (.eventPortPulse i u w) s = .next s := by
  rw [exec_eventPortPulse, execEventPortPulse, if_neg (Bool.eq_false_iff.1 h)]

end Event
end Interface

/-! ### What a sector presents first -/

section First
variable {α : Type} {i j : Nat} {v : α} {l : List (Nat × α)}

@[simp] theorem firstOf_nil : firstOf ([] : List (Nat × α)) i = none := rfl

@[simp] theorem firstOf_cons_self : firstOf ((i, v) :: l) i = some v := by simp [firstOf]

theorem firstOf_cons_ne (h : i ≠ j) : firstOf ((i, v) :: l) j = firstOf l j := by simp [firstOf, h]

@[simp] theorem dropFirst_cons_self : dropFirst ((i, v) :: l) i = l := if_pos rfl

end First

/-! ### The turn of a group's sectors (R210, R211) -/

theorem find?_cons_ite {α : Type} (p : α → Bool) (a : α) (l : List α) :
    (a :: l).find? p = if p a then some a else l.find? p := by
  rw [List.find?_cons]
  cases p a <;> rfl

theorem nextSector_eq (g last : Nat) (ready : Nat → Bool) : nextSector g last ready =
    if ready (3 * g + (last + 1) % 3) then some (3 * g + (last + 1) % 3)
    else if ready (3 * g + (last + 2) % 3) then some (3 * g + (last + 2) % 3)
    else if ready (3 * g + (last + 3) % 3) then some (3 * g + (last + 3) % 3) else none := by
  simp only [nextSector, List.map_cons, List.map_nil, find?_cons_ite, List.find?_nil]

/-- Every sector of a group has its turn, so one that alone is ready is served whatever was served last. -/
theorem nextSector_only {i last : Nat} {ready : Nat → Bool} (h : ∀ j, ready j = true → j = i) :
    nextSector (i / 3) last ready = if ready i then some i else none := by
  cases hn : nextSector (i / 3) last ready with
  | none =>
    have hmem : i ∈ [1, 2, 3].map (fun k => 3 * (i / 3) + (last + k) % 3) := by
      simp only [List.map_cons, List.map_nil, List.mem_cons, List.not_mem_nil]
      omega
    rw [if_neg (List.find?_eq_none.1 hn i hmem)]
  | some j =>
    have hj : ready j = true := List.find?_some hn
    rw [← h j hj, if_pos hj]

/-! ### Records and cancels of a sector (R210) -/

section Post
variable {s u : State} {i : Nat} {w : QWord} {l : List (Nat × Bool × QWord)}

/-- The one sector that presents something is the only one that can be ready. -/
theorem State.postReady_alone {j : Nat} {p : Bool × QWord} (hp : s.fab.posts = [(i, p)]) (hj : s.postReady j = true) : j = i := by
  by_contra hne
  have hnone : firstOf s.fab.posts j = none := by rw [hp, firstOf_cons_ne (Ne.symm hne), firstOf_nil]
  simp [State.postReady, hnone] at hj

theorem State.presentPost_alone {c : Bool} (hp : s.fab.posts = [])
    (hu : u = { s with fab := { s.fab with posts := [(i, c, w)] } }) :
    s.presentPost i c w = if u.postReady i then u.takePost i else u := by
  have hposts : u.fab.posts = [(i, c, w)] := by rw [hu]
  have hone : s.presentPost i c w = u.servePosts (i / 3) 1 := by rw [State.presentPost, hp, hu]; rfl
  rw [hone, State.servePosts, nextSector_only (fun j => State.postReady_alone hposts)]
  by_cases hr : u.postReady i = true
  · rw [if_pos hr, if_pos hr]; rfl
  · rw [if_neg hr, if_neg hr]

section Record
variable (hp : s.fab.posts = (i, false, w) :: l)
include hp

theorem State.postReady_record : s.postReady i = s.fifoRoom (64 + i / 3) := by
  simp only [State.postReady, hp, firstOf_cons_self]

theorem State.takePost_record
    (hu : u = { s with fab := { s.fab with posts := l, postRr := tabPut (fun _ => 2) s.fab.postRr (i / 3) (i % 3) } }) :
    s.takePost i = u.fifoPush (64 + i / 3) w (.fabric i) := by
  simp only [State.takePost, hp, firstOf_cons_self, dropFirst_cons_self, Bool.false_eq_true, if_false, hu]

end Record

section Cancel
variable (hp : s.fab.posts = (i, true, w) :: l)
include hp

theorem State.postReady_cancel : s.postReady i = true ↔ ∀ r ∈ s.fifo (64 + i / 3), r.owner ≠ .fabric i := by
  simp only [State.postReady, hp, firstOf_cons_self, Bool.not_eq_true', List.any_eq_false, beq_iff_eq, ne_eq]

/-- A cancel gives back the count of what it removed. -/
theorem State.takePost_cancel {v : State} {n : Nat}
    (hu : u = { s with fab := { s.fab with posts := l, postRr := tabPut (fun _ => 2) s.fab.postRr (i / 3) (i % 3) } })
    (hv : (v, n) = (if w.toNat / 2 ^ 21 ≠ 0 then (u, 0)
      else u.cancel (nbits w.toNat 7 0) (nbits w.toNat 15 8) (nbits w.toNat 19 16) (64 + i / 3) (w.toNat.testBit 20) false)) :
    s.takePost i = { v with act := { v.act with fabStatus := v.act.fabStatus ++ [(i, n)] } } := by
  have htake : s.takePost i = u.fabricCancel i w := by
    simp only [State.takePost, hp, firstOf_cons_self, dropFirst_cons_self, if_true, hu]
  rw [htake, State.fabricCancel, ← hv]

end Cancel
end Post

/-! ### Mailbox writes of a sector (R211) -/

section Mail
variable {s u : State} {i e m : Nat} {v : DWord} {l : List (Nat × Nat × Nat × DWord)}

/-- A group that made a write less than 4 ns ago makes none. -/
theorem State.serveMail_early {g : Nat} {t : DWord} (hf : s.fab.mailAt.find? (fun p => p.1 == g) = some (g, t))
    (ht : before s.time (t + 256) = true) : s.serveMail g = s := by
  have hdue : atOrAfter s.time (t + units 256) = false := by
    have hb : before s.time (t + units 256) = true := ht
    rw [atOrAfter, hb, Bool.not_true]
  simp only [State.serveMail, hf, hdue, Bool.not_false, if_true]

variable (hm : s.fab.mails = (i, e, m, v) :: l)
  (hu : u = { s with fab := { s.fab with mails := l, mailRr := tabPut (fun _ => 2) s.fab.mailRr (i / 3) (i % 3),
                                         mailAt := tabInsert s.fab.mailAt (i / 3) s.time } })
include hm hu

theorem State.takeMail_status {r : State} {st : Nat} (hr : u.mailWrite e m v (.fabric i) = (r, some st)) :
    s.takeMail i = { r with fab := { r.fab with mailSt := r.fab.mailSt ++ [(i, st)] } } := by
  simp only [State.takeMail, hm, firstOf_cons_self, dropFirst_cons_self, ← hu, hr]

theorem State.takeMail_open {r : State} (hr : u.mailWrite e m v (.fabric i) = (r, none)) : s.takeMail i = r := by
  simp only [State.takeMail, hm, firstOf_cons_self, dropFirst_cons_self, ← hu, hr]

end Mail

/-! ### Contention (R200, R201) -/

section Contention
variable {i : Fin 48} {seg : Fin 2048} {drv : Byte} {s u : State}

theorem exec_contention_not (h : segmentExists i seg = false ∨ s.sectorLive i = false) :
    exec (.contention i seg drv) s = .next s := by
  rw [exec_contention, execContention]
  obtain h | h := h
  · rw [h, Bool.not_false, Bool.true_or, if_pos rfl]
  · rw [h, Bool.not_false, Bool.or_true, if_pos rfl]

variable (hx : segmentExists i seg = true) (hl : s.sectorLive i = true)
  (hu : u = (((s.addF (Reg.SEC_CONT_CNT i) 15 0 1).setR (Reg.SEC_CONT_INFO i)
    (BitVec.ofNat 32 (2 ^ 31 + drv.toNat <<< 12 + seg.val))).setD (Reg.SEC_CONT_TIME i) s.time).raise (64 + i) 1)
include hx hl hu

/-- Every detection is recorded and counted; the segment is disconnected unless it is already. -/
theorem exec_contention_detected : exec (.contention i seg drv) s =
    .next ((if (u.sector i).disc.contains seg.val then u else u.disconnect i seg).sectorFault i (selectAddr i seg) 6) := by
  rw [exec_contention, execContention, hx, hl, if_neg (by decide)]
  dsimp only
  rw [State.setR_time, State.addF_time, ← hu]

theorem exec_contention_again (hd : (u.sector i).disc.contains seg.val = true) :
    exec (.contention i seg drv) s = .next (u.sectorFault i (selectAddr i seg) 6) := by
  rw [exec_contention_detected hx hl hu, if_pos hd]

theorem exec_contention_first (hd : (u.sector i).disc.contains seg.val = false) :
    exec (.contention i seg drv) s = .next ((u.disconnect i seg).sectorFault i (selectAddr i seg) 6) := by
  rw [exec_contention_detected hx hl hu, if_neg (Bool.eq_false_iff.1 hd)]

end Contention

/-- A disconnected segment's scrub goes ahead of the others that wait. -/
theorem State.disconnect_eq {s v : State} {i seg : Nat} (hv : v = s.setSector i { s.sector i with disc := (s.sector i).disc ++ [seg] }) :
    s.disconnect i seg =
      ({ v with cfg := { v.cfg with rewrites := (false, selectAddr i seg, true) :: v.cfg.rewrites } } : State).useCrypto.noteDisc i := by
  rw [hv, State.disconnect]

/-- Settles O34: each clause is one case of an interface's command, of its group's service or of a contention. -/
theorem fabricPorts : Obligations.FabricPorts :=
  ⟨⟨fun _ _ _ h => ⟨exec_fabricPost_live h, exec_fabricCancel_live h⟩, fun _ _ _ h => ⟨exec_fabricPost_not h, exec_fabricCancel_not h⟩,
    fun _ _ _ _ _ => State.presentPost_alone, fun _ _ _ _ _ hp hu => ⟨State.postReady_record hp, State.takePost_record hp hu⟩,
    fun _ _ _ _ _ _ _ hp hu hv => ⟨State.postReady_cancel hp, State.takePost_cancel hp hu hv⟩, nextSector_eq,
    fun _ _ _ _ _ => ⟨exec_fabricMboxWrite_live, exec_fabricMboxWrite_not⟩, fun _ _ _ => State.serveMail_early,
    fun _ _ _ _ _ _ _ hm hu => ⟨fun _ _ => State.takeMail_status hm hu, fun _ => State.takeMail_open hm hu⟩,
    fun _ _ _ _ _ _ _ _ _ => exec_fabricRequest_live, fun _ _ _ _ _ _ _ => exec_fabricRequest_not,
    fun _ _ _ _ => ⟨exec_eventPortPulse_live, exec_eventPortPulse_not⟩⟩,
   ⟨fun _ _ _ _ _ hx hl hu => ⟨exec_contention_again hx hl hu, exec_contention_first hx hl hu⟩, fun _ _ _ _ => State.disconnect_eq,
    fun _ _ _ _ => exec_contention_not, fun _ _ => rfl⟩⟩

end Sys2Proof.Machine
end

section
/-!
PROOF. What an edge of a global clock tree does to the fabric, case by case (R189, R192, R203–R205, R223–R226, R230, R237).
-/
namespace Sys2Proof.Machine

/-! ### Sectors written one after another -/

section Sectors
variable {s : State} {i : Nat} {f : Nat → Sector} {l : List Nat}

theorem State.sector_setSector_same (x : Sector) (hw : tabWf (fun _ => ({} : Sector)) s.fab.sectors = true) :
    (s.setSector i x).sector i = x := tabGet_tabPut_same _ _ _ _ hw

theorem State.sector_setSector_ne {j : Nat} (x : Sector) (h : j ≠ i) : (s.setSector i x).sector j = s.sector j :=
  tabGet_tabPut_ne _ _ _ h

/-- Each listed sector holds its new content, and every other what it held. -/
theorem sector_foldl_setSector (hw : tabWf (fun _ => ({} : Sector)) s.fab.sectors = true) :
    (l.foldl (fun r i => r.setSector i (f i)) s).sector i = if i ∈ l then f i else s.sector i := by
  induction l generalizing s with
  | nil => rfl
  | cons j l ih =>
    rw [List.foldl_cons, ih (tabWf_tabPut _ _ _ _ hw)]
    by_cases hl : i ∈ l
    · rw [if_pos hl, if_pos (List.mem_cons_of_mem _ hl)]
    · rw [if_neg hl]
      by_cases hj : i = j
      · rw [hj, State.sector_setSector_same _ hw, if_pos List.mem_cons_self]
      · rw [State.sector_setSector_ne _ hj, if_neg (List.not_mem_cons_of_ne_of_not_mem hj hl)]

theorem foldl_setSector_frame : l.foldl (fun r i => r.setSector i (f i)) s =
    { s with fab := (l.foldl (fun r i => r.setSector i (f i)) s).fab } := by
  induction l generalizing s with
  | nil => rfl
  | cons j l ih => exact ih

end Sectors

/-! ### An edge of a tree (R203) -/

section Edge
variable {s : State} {t i : Nat}

theorem exec_samplingEdge (t : Fin 32) (v : DWord) (q : Fin 160) (s : State) : exec (.samplingEdge t v q) s = .next
    ((if fld s.fab.trace.ctl 22 18 = t.val then s.trcSample (s.probeValues t v) (s.time + BitVec.ofNat 64 q.val) else s).treeEdge t) :=
  rfl

/-- Every sector that runs takes the edge from the levels just before it, and no other does. -/
theorem State.treeEdge_sector (hw : tabWf (fun _ => ({} : Sector)) s.fab.sectors = true) (hi : i < 48) :
    (s.treeEdge t).sector i = if s.sectorLive i then s.sectorEdge t i else s.sector i := by
  have hfold : (s.treeEdge t).sector i =
      (((List.range 48).filter s.sectorLive).foldl (fun r i => r.setSector i (s.sectorEdge t i)) s).sector i := rfl
  rw [hfold, sector_foldl_setSector hw]
  simp only [List.mem_filter, List.mem_range, hi, true_and]

/-- An edge touches the fabric and the event pulses that its sectors see. -/
theorem State.treeEdge_frame : s.treeEdge t = { s with fab := (s.treeEdge t).fab, evt := (s.treeEdge t).evt } := by
  unfold State.treeEdge
  dsimp only
  rw [foldl_setSector_frame]

theorem State.clocks_iff {j : Nat} : s.clocks t i j = true ↔ s.sectorLive i = true ∧ s.getB (Reg.SEC_RCLK_GATE i) j = true ∧
    s.getB (Reg.SEC_RCLK i j) 7 = true ∧ s.getF (Reg.SEC_RCLK i j) 4 0 = t := by
  simp only [State.clocks, State.rclkRuns, Bool.and_eq_true, beq_iff_eq, and_assoc]

end Edge

/-! ### Block RAM ports (R223–R226) -/

section Bram
variable {s : State} {i k p : Nat} {x : Sector}

/-- The output register takes the read data whether or not the port is enabled; a disabled port does nothing else. -/
theorem State.bramEdge_disabled (h : s.bramIn i k p 0 1 = 0) : s.bramEdge i k p x =
    { x with bramOut := tabPut (fun _ => 0) x.bramOut (2 * k + p) (tabGet (fun _ => 0) x.bramRd (2 * k + p)) } := by
  rw [State.bramEdge]
  exact if_pos h

@[simp] theorem State.bramEdge_ffs : (s.bramEdge i k p x).ffs = x.ffs := by
  unfold State.bramEdge
  dsimp only
  split <;> rfl

end Bram

/-! ### Multipliers (R230, R237) -/

section Mul
variable {s : State} {i k : Nat} {x : Sector}

theorem State.mulEdge_rst (h : s.mulInputs i k 1 1 = 1) : s.mulEdge i k x =
    { x with mulP := tabPut (fun _ => 0) x.mulP k 0, mulOvf := x.mulOvf.filter (fun r => r != k),
             mulIn := x.mulIn.filter (fun r => r.1 / 3 != k) } := by
  rw [State.mulEdge]
  exact if_pos h

theorem State.mulEdge_kept (hr : s.mulInputs i k 1 1 ≠ 1) (hc : s.mulInputs i k 0 1 = 0) : s.mulEdge i k x = x := by
  rw [State.mulEdge]
  exact (if_neg hr).trans (if_pos hc)

/-- An edge changes the multiplier's own registers alone. -/
theorem State.mulEdge_frame : s.mulEdge i k x =
    { x with mulP := (s.mulEdge i k x).mulP, mulOvf := (s.mulEdge i k x).mulOvf, mulIn := (s.mulEdge i k x).mulIn } := by
  by_cases hr : s.mulInputs i k 1 1 = 1
  · rw [State.mulEdge_rst hr]
  by_cases hc : s.mulInputs i k 0 1 = 0
  · rw [State.mulEdge_kept hr hc]
  · simp only [State.mulEdge, if_neg hr, if_neg hc]

theorem State.mulEdge_eq : s.mulEdge i k x =
    if s.mulInputs i k 1 1 = 1 then
      { x with mulP := tabPut (fun _ => 0) x.mulP k 0, mulOvf := x.mulOvf.filter (fun r => r != k),
               mulIn := x.mulIn.filter (fun r => r.1 / 3 != k) }
    else if s.mulInputs i k 0 1 = 0 then x
    else { x with mulP := (s.mulEdge i k x).mulP, mulOvf := (s.mulEdge i k x).mulOvf, mulIn := (s.mulEdge i k x).mulIn } := by
  split
  case isTrue hr => exact State.mulEdge_rst hr
  case isFalse hr =>
    split
    case isTrue hc => exact State.mulEdge_kept hr hc
    case isFalse => exact State.mulEdge_frame

@[simp] theorem State.mulEdge_ffs : (s.mulEdge i k x).ffs = x.ffs := by rw [State.mulEdge_frame]

end Mul

/-! ### Registers (R189, R192, R204, R205, R213) -/

theorem foldl_ffs {f : Sector → Nat → Sector} (h : ∀ x k, (f x k).ffs = x.ffs) (l : List Nat) (x : Sector) :
    (l.foldl f x).ffs = x.ffs := by
  induction l generalizing x with
  | nil => rfl
  | cons k l ih => rw [List.foldl_cons, ih, h]

section Registers
variable {s : State} {t i b f : Nat} {x : Sector}

@[simp] theorem State.bramsNext_ffs : (s.bramsNext t i x).ffs = x.ffs := by
  refine foldl_ffs (fun x k => ?_) _ _
  dsimp only
  split <;> split <;> simp only [State.bramEdge_ffs]

@[simp] theorem State.mulsNext_ffs : (s.mulsNext t i x).ffs = x.ffs := by
  refine foldl_ffs (fun x k => ?_) _ _
  split
  · exact State.mulEdge_ffs
  · rfl

theorem State.sectorEdge_ffs : (s.sectorEdge t i).ffs = (List.range 24576).filter (s.registerNext t i) := by
  rw [State.sectorEdge, State.mulsNext_ffs, State.bramsNext_ffs]

theorem State.sectorEdge_register (hf : f < 24576) : (s.sectorEdge t i).ffs.contains f = s.registerNext t i f := by
  rw [State.sectorEdge_ffs, Bool.eq_iff_iff, List.contains_iff_mem, List.mem_filter, List.mem_range]
  exact and_iff_right hf

/-- A bay has 48 register indices: two for each of its 16 slots, and then its 16 macrocells. -/
theorem State.registerNext_ff (hf : f < 32) : s.registerNext t i (48 * b + f) =
    s.ffNext s.level i b (f / 2) (f % 2 == 1) (s.clocks t i (s.quarterOf i b (f / 8)).clk.toNat) := by
  have hbay : (48 * b + f) / 48 = b := by omega
  have hidx : (48 * b + f) % 48 = f := by omega
  simp only [State.registerNext, hbay, hidx, if_pos hf]

theorem State.registerNext_cell (hf : f < 16) : s.registerNext t i (48 * b + 32 + f) =
    s.cellNext s.level i b f (s.clocks t i (s.cellOf i b f).clk.toNat) := by
  have hbay : (48 * b + 32 + f) / 48 = b := by omega
  have hidx : (48 * b + 32 + f) % 48 = 32 + f := by omega
  simp only [State.registerNext, hbay, hidx, if_neg (Nat.not_lt.2 (Nat.le_add_right 32 f)), Nat.add_sub_cancel_left]

end Registers

section SlotFf
variable (a v q d e ce : Bool)

theorem slotFf_sr_edge : slotFf a v q d true ce true = v := if_pos (by rw [Bool.or_true, Bool.and_self])
theorem slotFf_sr_async : slotFf true v q d e ce true = v := if_pos (by rw [Bool.true_or, Bool.and_self])
theorem slotFf_loads : slotFf a v q d true true false = d := rfl
theorem slotFf_no_ce : slotFf a v q d true false false = q := rfl
theorem slotFf_no_edge : slotFf a v q d false ce false = q := rfl
theorem slotFf_sr_waits : slotFf false v q d false ce true = q := rfl

end SlotFf

section CellReg
variable {m : BitVec 2} (hm : m ≠ 0) (p o r e ce pre : Bool)
include hm

theorem cellReg_clr : cellReg m p o r e ce true pre = false := by rw [cellReg, if_neg hm, if_pos rfl]
theorem cellReg_pre : cellReg m p o r e ce false true = true := by rw [cellReg, if_neg hm, if_neg Bool.false_ne_true, if_pos rfl]
theorem cellReg_keeps (h : (e && ce) = false) : cellReg m p o r e ce false false = r := by
  rw [cellReg, if_neg hm, if_neg Bool.false_ne_true, if_neg Bool.false_ne_true, h, if_neg Bool.false_ne_true]

end CellReg

theorem cellReg_d (p o r : Bool) : cellReg 1 p o r true true false false = xor o p := rfl
theorem cellReg_t (p o r : Bool) : cellReg 2 p o r true true false false = xor r (xor o p) := rfl

end Sys2Proof.Machine
end

section
/-!
PROOF. What the probes show and where a probe pin may lie, case by case (R213–R215).
-/
namespace Sys2Proof.Machine

/-! ### Probe pins (R215) -/

section Pin
variable {c : Fin 64} {w : Word} {s : State}

theorem exec_prbPinWrite (c : Fin 64) (w : Word) (s : State) : exec (.prbPinWrite c w) s = .next (s.writePrbPin c w) := rfl

/-- Another channel that has the pin, as the model looks for it. -/
theorem State.prbPin_taken_iff {c p : Nat} :
    ((List.range 64).any (fun d => d != c && s.getB (Reg.TST_PRB_PIN d) 31 && s.getF (Reg.TST_PRB_PIN d) 10 0 == p)) = true ↔
      ∃ d, d < 64 ∧ d ≠ c ∧ s.getB (Reg.TST_PRB_PIN d) 31 = true ∧ s.getF (Reg.TST_PRB_PIN d) 10 0 = p := by
  simp only [List.any_eq_true, List.mem_range, Bool.and_eq_true, bne_iff_ne, beq_iff_eq, and_assoc]

theorem exec_prbPinWrite_refused (h : 1152 ≤ fld w 10 0 ∨ (s.pin (fld w 10 0)).spare = false ∨
    ∃ d, d < 64 ∧ d ≠ c.val ∧ s.getB (Reg.TST_PRB_PIN d) 31 = true ∧ s.getF (Reg.TST_PRB_PIN d) 10 0 = fld w 10 0) :
    exec (.prbPinWrite c w) s = .next (s.setB Reg.PRB_STAT 0 true) := by
  rw [exec_prbPinWrite, State.writePrbPin]
  refine congrArg _ (if_pos ?_)
  rw [Bool.or_eq_true, State.prbPin_taken_iff, Bool.or_eq_true, decide_eq_true_iff, Bool.not_eq_true', or_assoc]
  exact h

/-- A pin that no other channel has is stored if it is spare. -/
theorem exec_prbPinWrite_untaken (hp : fld w 10 0 < 1152)
    (hd : ∀ d, d < 64 → d ≠ c.val → s.getB (Reg.TST_PRB_PIN d) 31 = true → s.getF (Reg.TST_PRB_PIN d) 10 0 ≠ fld w 10 0) :
    exec (.prbPinWrite c w) s =
      .next (if (s.pin (fld w 10 0)).spare then s.store (Reg.TST_PRB_PIN c) w else s.setB Reg.PRB_STAT 0 true) := by
  cases hs : (s.pin (fld w 10 0)).spare with
  | false => exact exec_prbPinWrite_refused (.inr (.inl hs))
  | true =>
    rw [exec_prbPinWrite, State.writePrbPin, if_pos rfl]
    refine congrArg _ (if_neg ?_)
    rw [Bool.or_eq_true, State.prbPin_taken_iff, hs, Bool.not_true, Bool.or_false, decide_eq_true_iff]
    rintro (h | ⟨d, h64, hne, hen, heq⟩)
    · exact Nat.not_le.2 hp h
    · exact hd d h64 hne hen heq

end Pin

/-! ### Channels (R213, R214) -/

section Channel
variable {s : State} {i b f k : Nat}

theorem State.probeLive_iff {c : Nat} : s.probeLive c = true ↔ s.getB (Reg.TST_PRB_SEL c) 31 = true ∧
    s.getF (Reg.TST_PRB_SEL c) 20 15 < 48 ∧ s.getF (Reg.TST_PRB_SEL c) 14 0 < 28928 ∧
    s.domOn (domSector (s.getF (Reg.TST_PRB_SEL c) 20 15)) = true := by
  simp only [State.probeLive, State.getB, State.getF, Bool.and_eq_true, decide_eq_true_iff, and_assoc]

theorem State.probeBit_ff (hb : b < 512) (hf : f < 32) :
    s.probeBit i (48 * b + f) = s.ffNext s.level i b (f / 2) (f % 2 == 1) false := by
  have hlt : 48 * b + f < 24576 := by omega
  have hbay : (48 * b + f) / 48 = b := by omega
  have hidx : (48 * b + f) % 48 = f := by omega
  simp only [State.probeBit, if_pos hlt, hbay, hidx, if_pos hf]

theorem State.probeBit_cell (hb : b < 512) (hf : f < 16) :
    s.probeBit i (48 * b + 32 + f) = s.cellNext s.level i b f false := by
  have hlt : 48 * b + 32 + f < 24576 := by omega
  have hbay : (48 * b + 32 + f) / 48 = b := by omega
  have hidx : (48 * b + 32 + f) % 48 = 32 + f := by omega
  simp only [State.probeBit, if_pos hlt, hbay, hidx, if_neg (Nat.not_lt.2 (Nat.le_add_right 32 f)), Nat.add_sub_cancel_left]

/-- A block RAM role has 72 probe indices. -/
theorem State.probeBit_bram (hk : k < 32) (hb : b < 72) : s.probeBit i (24576 + 72 * k + b) =
    ((s.bramOf i k).a.outReg && (tabGet (fun _ => 0) (s.sector i).bramOut (2 * k)).testBit b) := by
  have hge : ¬ 24576 + 72 * k + b < 24576 := by omega
  have hlt : 24576 + 72 * k + b < 26880 := by omega
  have hrole : (24576 + 72 * k + b - 24576) / 72 = k := by omega
  have hbit : (24576 + 72 * k + b - 24576) % 72 = b := by omega
  simp only [State.probeBit, if_neg hge, if_pos hlt, hrole, hbit]

/-- A multiplier role has 64. -/
theorem State.probeBit_mul (hk : k < 32) (hb : b < 64) : s.probeBit i (26880 + 64 * k + b) =
    (tabGet (fun _ => (0 : DWord)) (s.sector i).mulP k).toNat.testBit b := by
  have hff : ¬ 26880 + 64 * k + b < 24576 := by omega
  have hge : ¬ 26880 + 64 * k + b < 26880 := by omega
  have hlt : 26880 + 64 * k + b < 28928 := by omega
  have hrole : (26880 + 64 * k + b - 26880) / 64 = k := by omega
  have hbit : (26880 + 64 * k + b - 26880) % 64 = b := by omega
  simp only [State.probeBit, if_neg hff, if_neg hge, if_pos hlt, hrole, hbit]

end Channel

end Sys2Proof.Machine
end

section
/-!
PROOF. What the trace buffer does with its orders, its samples and its reads, case by case (R216–R218), and the obligation
ProbesAndTrace.
-/
namespace Sys2Proof.Machine

/-! ### What runs for each command -/

theorem exec_trcArm_reg (w : Word) (s : State) : exec (.trcArm (.reg w)) s = .next (s.trcOrder (.reg w) 0) := rfl
theorem exec_trcStop_reg (w : Word) (s : State) : exec (.trcStop (.reg w)) s = .next (s.trcOrder (.reg w) 1) := rfl
theorem exec_trcForce_reg (w : Word) (s : State) : exec (.trcForce (.reg w)) s = .next (s.trcOrder (.reg w) 2) := rfl
theorem exec_traceTrigger (s : State) : exec .traceTrigger s = execTraceTrigger s := rfl
theorem exec_traceDone (s : State) : exec .traceDone s = execTraceDone s := rfl
theorem exec_trcRead (c : CmdRef) (s : State) : exec (.trcRead c) s = execTrcRead c s := rfl

/-! ### Orders (R217) -/

section Orders
variable {s u : State} {w : Word} {bit : Nat}

theorem State.trcOrder_set (h : bitOf w bit = true) : s.trcOrder (.reg w) bit = s.writeTrcCmd w := if_pos h

theorem State.trcOrder_clear (h : bitOf w bit = false) : s.trcOrder (.reg w) bit = s := if_neg (Bool.eq_false_iff.1 h)

theorem State.writeTrcCmd_arm (h0 : bitOf w 0 = true) (h1 : bitOf w 1 = false) (h2 : bitOf w 2 = false) :
    s.writeTrcCmd w = s.trcArm := by
  simp only [State.writeTrcCmd, h0, h1, h2, Bool.false_eq_true, if_true, if_false]

theorem State.writeTrcCmd_stop (h0 : bitOf w 0 = false) (h1 : bitOf w 1 = true) (h2 : bitOf w 2 = false) :
    s.writeTrcCmd w = s.trcStop := by
  simp only [State.writeTrcCmd, h0, h1, h2, Bool.false_eq_true, if_true, if_false]

theorem State.writeTrcCmd_force (h0 : bitOf w 0 = false) (h1 : bitOf w 1 = false) (h2 : bitOf w 2 = true) :
    s.writeTrcCmd w = s.trcForce := by
  simp only [State.writeTrcCmd, h0, h1, h2, Bool.false_eq_true, if_true, if_false]

theorem State.trcArm_ignored (h : s.trcState = 1 ∨ s.trcState = 2 ∨ 4 ≤ s.getF Reg.TRC_CTL 16 14) :
    s.trcArm = s.setB Reg.PRB_STAT 1 true := if_pos h

/-- ARM takes the settings, and the next sample is the first. -/
theorem State.trcArm_arms (h1 : s.trcState ≠ 1) (h2 : s.trcState ≠ 2) (hsrc : s.getF Reg.TRC_CTL 16 14 < 4)
    (hu : u = s.setTrace { ctl := s.getR Reg.TRC_CTL, post := min 16384 (s.getF Reg.TRC_POST 14 0), mask := s.getD Reg.TRC_MASK,
                           val := s.getD Reg.TRC_VAL, time := s.getD Reg.TRC_TIME }) :
    s.trcArm = (({ u with evt := { u.evt with
      trigEv := if s.getF Reg.TRC_CTL 16 14 = 3 then some (256 + s.getF Reg.TRC_CTL 13 8) else none, trigSeen := false } } : State).setR
        Reg.TRC_STAT 1).setR Reg.TRC_OLDEST 0 := by
  have hok : ¬ (s.trcState = 1 ∨ s.trcState = 2 ∨ 4 ≤ s.getF Reg.TRC_CTL 16 14) := by omega
  rw [hu, State.trcArm, if_neg hok]
  rfl

/-- The orders of the command are those of the register, by the command's own lemma. -/
theorem State.trcCommand_of_bit {c : CmdRef} {t : State} {x : Command} (h : s.turn c 8 3 = some x) (h8 : beAt x.payload 8 1 < 8)
    (hb : (beAt x.payload 8 1).testBit bit = true)
    (hu : u = (s.store Reg.TRC_CTL (BitVec.ofNat 32 (beAt x.payload 0 4))).store Reg.TRC_POST (BitVec.ofNat 32 (beAt x.payload 4 4)))
    (ht : t = (u.setB Reg.PRB_STAT 1 false).writeTrcCmd (BitVec.ofNat 32 (beAt x.payload 8 1))) :
    s.trcCommand c bit = (t.setB Reg.PRB_STAT 1 (t.getB Reg.PRB_STAT 1 || u.getB Reg.PRB_STAT 1)).replyTo x
      (if t.getB Reg.PRB_STAT 1 then csBUSY else csOK) true [] := by
  have hw : (BitVec.ofNat 32 (beAt x.payload 8 1)).toNat = beAt x.payload 8 1 := by
    rw [BitVec.toNat_ofNat]
    omega
  refine State.trcCommand_ordered h rfl ?_ hu ht ?_
  · rw [hw]; exact h8
  · rw [bitOf, hw]; exact hb

end Orders

/-! ### Samples (R216, R217) -/

/-- A sample is due in mode 0, and in mode 1 where a value has changed. -/
theorem sampleDue_iff {b : Bool} {o : Option DWord} {v : DWord} : (!b || o != some v) = true ↔ b = false ∨ o ≠ some v := by
  rw [Bool.or_eq_true, Bool.not_eq_true', bne_iff_ne]

section Samples
variable {s u : State} {v t : DWord}

/-- An armed buffer tests the trigger at each edge, and stores one that meets it in either mode. -/
theorem State.trcSample_armed (h1 : s.trcState = 1) (hh : s.fab.trace.hit = false)
    (hu : u = if bitOf s.fab.trace.ctl 17 = false ∨ s.fab.trace.lastV ≠ some v ∨ s.trcHit v t = true then s.trcStore v t else s) :
    s.trcSample v t = u.setTrace { u.fab.trace with hit := s.trcHit v t } := by
  have hif : u = if (!bitOf s.fab.trace.ctl 17 || s.fab.trace.lastV != some v || s.trcHit v t) = true then s.trcStore v t else s := by
    rw [hu]
    refine if_congr ?_ rfl rfl
    rw [Bool.or_eq_true, sampleDue_iff, or_assoc]
  simp only [State.trcSample, h1, hh, Bool.false_eq_true, if_false, ← hif]

theorem State.trcSample_triggered (h2 : s.trcState = 2) (hl : s.fab.trace.left ≠ 0)
    (hd : bitOf s.fab.trace.ctl 17 = false ∨ s.fab.trace.lastV ≠ some v) (hu : u = s.trcStore v t) :
    s.trcSample v t = u.setTrace { u.fab.trace with left := s.fab.trace.left - 1 } := by
  have hstored := sampleDue_iff.2 hd
  simp only [State.trcSample, h2, hstored, hl, Bool.true_eq_false, or_self, if_false, hu]

/-- An edge that the buffer does not take: in IDLE and DONE, once the trigger has been met, and after the trigger where no sample
is still to come or no value has changed. -/
theorem State.trcSample_not (h : s.trcState = 0 ∨ s.trcState = 3 ∨ (s.trcState = 1 ∧ s.fab.trace.hit = true) ∨
    (s.trcState = 2 ∧ (s.fab.trace.left = 0 ∨ (bitOf s.fab.trace.ctl 17 = true ∧ s.fab.trace.lastV = some v)))) :
    s.trcSample v t = s := by
  obtain h0 | h3 | ⟨h1, hh⟩ | ⟨h2, hl | ⟨hc, hv⟩⟩ := h
  · simp only [State.trcSample, h0]
  · simp only [State.trcSample, h3]
  · simp only [State.trcSample, h1, hh, if_true]
  · simp only [State.trcSample, h2, hl, true_or, if_true]
  · have hstored : (!bitOf s.fab.trace.ctl 17 || s.fab.trace.lastV != some v) = false := by
      rw [hc, hv, Bool.not_true, bne_self_eq_false, Bool.or_self]
    simp only [State.trcSample, h2, hstored, or_true, if_true]

/-! ### The trigger and the end (R217) -/

theorem exec_traceTrigger_hit (h1 : s.trcState = 1) (hh : s.fab.trace.hit = true) : exec .traceTrigger s =
    .next (((s.setF Reg.TRC_STAT 1 0 2).setF Reg.TRC_TRIG 13 0 ((s.fab.trace.next + 16383) % 16384)).setTrace
      { s.fab.trace with hit := false, left := s.fab.trace.post }) := by
  rw [exec_traceTrigger, execTraceTrigger, if_pos ⟨h1, hh⟩]

theorem exec_traceTrigger_not (h : s.trcState ≠ 1 ∨ s.fab.trace.hit = false) : exec .traceTrigger s = .next s := by
  have hno : ¬ (s.trcState = 1 ∧ s.fab.trace.hit = true) := by
    rintro ⟨h1, hh⟩
    exact h.elim (absurd h1) fun hf => Bool.false_ne_true (hf.symm.trans hh)
  rw [exec_traceTrigger, execTraceTrigger, if_neg hno]

theorem exec_traceDone_ends (h2 : s.trcState = 2) (hl : s.fab.trace.left = 0) : exec .traceDone s =
    .next (if bitOf s.fab.trace.ctl 23 then (s.setF Reg.TRC_STAT 1 0 3).raise (256 + fld s.fab.trace.ctl 29 24) 0x80000000
           else s.setF Reg.TRC_STAT 1 0 3) := by
  rw [exec_traceDone, execTraceDone, if_pos ⟨h2, hl⟩]

theorem exec_traceDone_not (h : s.trcState ≠ 2 ∨ s.fab.trace.left ≠ 0) : exec .traceDone s = .next s := by
  rw [exec_traceDone, execTraceDone, if_neg (not_and_or.2 h)]

end Samples

/-! ### Reads (R218) -/

section Reads
variable {c : CmdRef} {s : State} {x : Command} (h : s.turn c 8 4 = some x)
include h

theorem exec_trcRead_ok (hf : beAt x.payload 0 2 < 16384) (h1 : 1 ≤ beAt x.payload 2 1) (h90 : beAt x.payload 2 1 ≤ 90) :
    exec (.trcRead c) s = .next (s.replyTo x csOK true ((List.range (beAt x.payload 2 1)).flatMap (fun i => (List.range 4).flatMap
      (fun k => beBytes 4 (s.trcWord (beAt x.payload 0 2 + i) k).toNat)))) := by
  have hok : ¬ (16384 ≤ beAt x.payload 0 2 ∨ beAt x.payload 2 1 = 0 ∨ 90 < beAt x.payload 2 1) := by omega
  simp only [exec_trcRead, execTrcRead, h, if_neg hok]

theorem exec_trcRead_badParam (hb : 16384 ≤ beAt x.payload 0 2 ∨ beAt x.payload 2 1 = 0 ∨ 90 < beAt x.payload 2 1) :
    exec (.trcRead c) s = .next (s.replyTo x csBADPARAM true []) := by
  simp only [exec_trcRead, execTrcRead, h, if_pos hb]

end Reads

/-- The window reads zero while the buffer is written. -/
theorem State.trcWord_running {s : State} {i k : Nat} (h : s.trcState = 1 ∨ s.trcState = 2) : s.trcWord i k = 0 := if_pos h

/-- Settles O36: each clause is one case of an edge, of a probe, or of an order, a sample or a read of the trace. -/
theorem probesAndTrace : Obligations.ProbesAndTrace := by
  refine ⟨⟨exec_samplingEdge, fun s t i hw hi => ⟨fun hl => ?_, fun hl => ?_⟩, fun s t => ?_,
      fun _ _ _ _ => State.sectorEdge_register, fun _ _ _ _ _ => State.registerNext_ff, fun _ _ _ _ _ => State.registerNext_cell,
      fun _ _ _ _ => State.clocks_iff,
      fun a v q d e ce => ⟨slotFf_sr_edge a v q d ce, slotFf_sr_async v q d e ce, slotFf_loads a v q d, slotFf_no_ce a v q d,
        slotFf_no_edge a v q d ce, slotFf_sr_waits v q d ce⟩,
      fun p o r e ce pre m hm => ⟨cellReg_clr hm p o r e ce pre, cellReg_pre hm p o r e ce, cellReg_keeps hm p o r false ce rfl,
        cellReg_keeps hm p o r e false (Bool.and_false e)⟩,
      fun p o r => ⟨cellReg_d p o r, cellReg_t p o r⟩, fun _ _ _ _ _ => State.bramEdge_disabled, fun _ _ _ _ => State.mulEdge_eq⟩,
    ⟨fun _ _ _ => exec_prbPinWrite_refused, fun _ _ _ => exec_prbPinWrite_untaken, fun _ _ => rfl, fun _ _ => State.probeLive_iff,
      fun _ _ _ _ => State.probeBit_ff, fun _ _ _ _ => State.probeBit_cell, fun _ _ _ _ => State.probeBit_bram,
      fun _ _ _ _ => State.probeBit_mul⟩,
    ⟨fun w s => ⟨fun h => ?_, fun h => ?_, fun h => ?_, fun h => ?_, fun h => ?_, fun h => ?_⟩,
      fun _ _ _ _ _ _ => State.trcCommand_of_bit, fun c s => ⟨exec_trcArm_cmd c s, exec_trcStop_cmd c s, exec_trcForce_cmd c s⟩,
      fun _ _ => State.writeTrcCmd_arm, fun _ _ => State.writeTrcCmd_stop, fun _ _ => State.writeTrcCmd_force,
      fun _ => State.trcArm_ignored, fun _ _ => State.trcArm_arms, fun _ => rfl, fun _ => rfl,
      fun _ _ _ h1 hh => ⟨_, rfl, State.trcSample_armed h1 hh rfl⟩, fun _ _ _ _ => State.trcSample_triggered,
      fun _ _ _ => State.trcSample_not, fun _ => exec_traceTrigger_hit, fun _ => exec_traceTrigger_not, fun _ => exec_traceDone_ends,
      fun _ => exec_traceDone_not, fun _ _ _ => exec_trcRead_ok, fun _ _ _ => exec_trcRead_badParam,
      fun _ _ _ => State.trcWord_running⟩⟩
  · rw [State.treeEdge_sector hw hi, if_pos hl]
  · rw [State.treeEdge_sector hw hi, if_neg (Bool.eq_false_iff.1 hl)]
  · rw [State.treeEdge_frame]
    exact ⟨rfl, rfl, rfl, rfl⟩
  · rw [exec_trcArm_reg, State.trcOrder_set h]
  · rw [exec_trcStop_reg, State.trcOrder_set h]
  · rw [exec_trcForce_reg, State.trcOrder_set h]
  · rw [exec_trcArm_reg, State.trcOrder_clear h]
  · rw [exec_trcStop_reg, State.trcOrder_clear h]
  · rw [exec_trcForce_reg, State.trcOrder_clear h]

end Sys2Proof.Machine
end

section
/-!
PROOF. What the errors of block RAMs and multipliers do (R227–R229, R232, R239), case by case.
-/
namespace Sys2Proof.Machine

/-! ### What runs for each command -/

theorem exec_bramEccError (i : Fin 48) (k : Fin 33) (p : Fin 2) (word : Fin 512) (bit : Fin 72) (ue : Bool) (s : State) :
    exec (.bramEccError i k p word bit ue) s = execBramEccError i k p word bit ue s := rfl
theorem exec_memSweepRead (i : Fin 48) (k : Fin 33) (e : Ecc) (bit : Fin 72) (s : State) :
    exec (.memSweepRead i k e bit) s = execMemSweepRead i k e bit s := rfl
theorem exec_residueMismatch (i : Fin 48) (k : Fin 33) (s : State) : exec (.residueMismatch i k) s = execResidueMismatch i k s := rfl

/-! ### An error found at a read (R227, R229) -/

section EccError
variable {i : Fin 48} {k : Fin 33} {p : Fin 2} {word : Fin 512} {bit : Fin 72} {ue : Bool} {s : State}

/-- A block of a domain that is ON finds an error where its ECC is on. -/
theorem exec_bramEccError_on (hd : s.domOn (domSector i) = true) : exec (.bramEccError i k p word bit ue) s =
    .next (if s.eccOn i k then (if ue then s.bramBad i k p word else s).bramError i k word bit ue else s) := by
  rw [exec_bramEccError, execBramEccError, hd, Bool.true_and, apply_ite Host.Outcome.next]

theorem exec_bramEccError_off (h : s.domOn (domSector i) = false ∨ s.eccOn i k = false) :
    exec (.bramEccError i k p word bit ue) s = .next s := by
  rw [exec_bramEccError, execBramEccError, if_neg (Bool.eq_false_iff.1 (Bool.and_eq_false_iff.2 h))]

end EccError

/-! ### What an error leaves (R227, R232, R239) -/

section BramError
variable {s : State} {i k word bit role : Nat}

/-- A single-bit error is held with its bit. -/
theorem State.bramError_corrected (h : s.memRole 1 i k = some role) : s.bramError i k word bit false =
    (((s.addF (Reg.SEC_MEM_CE_CNT i) 15 0 1).memInfo i false false (k == 32) role bit word).raise (64 + i) 16).memFault 1 i k
      (BitVec.ofNat 32 word) 3 bit := by
  simp only [State.bramError, h, Bool.false_eq_true, if_false]

/-- An uncorrectable one has no bit to be held with. -/
theorem State.bramError_uncorrectable (h : s.memRole 1 i k = some role) : s.bramError i k word bit true =
    (((s.addF (Reg.SEC_MEM_UE_CNT i) 15 0 1).memInfo i true false (k == 32) role 127 word).raise (64 + i) 32).memFault 1 i k
      (BitVec.ofNat 32 word) 4 255 := by
  simp only [State.bramError, h, if_true]

theorem State.bramError_unserved {ue : Bool} (h : s.memRole 1 i k = none) : s.bramError i k word bit ue = s := by
  simp only [State.bramError, h]

/-- What the squall window finds lasting goes to the unit of its kind. -/
theorem State.memFault_of_count {t : State} {kind cause : Nat} {addr : Word} {l : Bool}
    (h : s.countFault kind (memUnit i k) (squallCfg (s.getR (Reg.SEC_MEM_SQUALL i))) = (t, l)) : s.memFault kind i k addr cause bit =
      if l then (if kind = 1 then t.bramLasting i k addr cause bit else t.mulLasting i k addr cause bit) else t := by
  rw [State.memFault, h]

end BramError

/-! ### The sweep (R228) -/

/-- The sweep has read the next word of block `k`: it goes on to the one after it, and waits from now on. -/
def State.swept (s : State) (i k : Nat) : State :=
  s.setSector i { s.sector i with
    sweep := tabPut (fun _ => 0) (s.sector i).sweep k ((tabGet (fun _ => 0) (s.sector i).sweep k + 1) % 512),
    sweepAt := tabInsert (s.sector i).sweepAt k s.time }

/-- What the check of the word `w` that the sweep has read leaves. -/
def State.sweepCheck (s : State) (i k w bit : Nat) : Ecc → State
  | .clean => s
  | .corrected => s.bramError i k w bit false
  | .uncorrectable => s.bramError i k w bit true

section Sweep
variable {i : Fin 48} {k : Fin 33} {e : Ecc} {bit : Fin 72} {s : State}

theorem exec_memSweepRead_due (hen : s.getB (Reg.SEC_MEM_SWEEP i) 31 = true) (hd : s.domOn (domSector i) = true)
    (hdue : s.sweepDue i k = true) : exec (.memSweepRead i k e bit) s =
      .next (if s.eccOn i k then (s.swept i k).sweepCheck i k (tabGet (fun _ => 0) (s.sector i).sweep k) bit e else s) := by
  rw [exec_memSweepRead, execMemSweepRead, hen, hd, hdue, Bool.and_true, Bool.true_and, Bool.true_and, apply_ite Host.Outcome.next]
  cases e <;> rfl

theorem exec_memSweepRead_not (h : s.getB (Reg.SEC_MEM_SWEEP i) 31 = false ∨ s.domOn (domSector i) = false ∨ s.eccOn i k = false ∨
    s.sweepDue i k = false) : exec (.memSweepRead i k e bit) s = .next s := by
  rw [exec_memSweepRead, execMemSweepRead, if_neg]
  simpa only [Bool.not_eq_true, Bool.and_eq_false_iff, or_assoc] using h

end Sweep

/-! ### Wrong products (R232) -/

section Residue
variable {i : Fin 48} {k : Fin 33} {s : State}

theorem exec_residueMismatch_served {role : Nat} (hd : s.domOn (domSector i) = true) (hr : s.memRole 2 i k = some role) :
    exec (.residueMismatch i k) s = .next (((s.addF (Reg.SEC_MUL_ERR_CNT i) 15 0 1).memInfo i false true (k.val == 32) role 0 0).memFault
      2 i k 0xFFFFFFFF 5 255) := by
  simp only [exec_residueMismatch, execResidueMismatch, hd, hr, if_true]

theorem exec_residueMismatch_not (h : s.domOn (domSector i) = false ∨ s.memRole 2 i k = none) :
    exec (.residueMismatch i k) s = .next s := by
  have hnone : (if s.domOn (domSector i) then s.memRole 2 i k else none) = none := by
    obtain hd | hr := h
    · rw [hd, if_neg Bool.false_ne_true]
    · rw [hr, ite_self]
  simp only [exec_residueMismatch, execResidueMismatch, hnone]

end Residue

end Sys2Proof.Machine
end

section
/-!
PROOF. What MEM_REPAIR, the end of a copy and the end of an initialisation do, case by case (R234–R237, R240), and the obligations
MemRepairRefusals and MemoriesAndSpares.
-/
namespace Sys2Proof.Machine

/-! ### What runs for each command -/

theorem exec_memMove (i : Fin 48) (w : Word) (s : State) : exec (.memMove i w) s = execMemMove i w s := rfl
theorem exec_memReturn (i : Fin 48) (w : Word) (s : State) : exec (.memReturn i w) s = execMemReturn i w s := rfl
theorem exec_bramCopyDone (i : Fin 48) (e : List (Fin 512 × Fin 72 × Bool)) (s : State) :
    exec (.bramCopyDone i e) s = execBramCopyDone i e s := rfl
theorem exec_bramInitDone (i : Fin 48) (k : Fin 32) (s : State) : exec (.bramInitDone i k) s = execBramInitDone i k s := rfl

/-! ### The orders of MEM_REPAIR (R240) -/

/-- The kind whose spare a word of MEM_REPAIR orders: 1 block RAM, 2 multiplier. -/
def repairKind (w : Word) : Nat := if bitOf w 8 then 2 else 1

/-- The register with the retired home blocks of a kind. -/
def retiredReg (kind i : Nat) : Nat := if kind = 1 then Reg.SEC_BRAM_RETIRED i else Reg.SEC_MUL_RETIRED i

theorem repairKind_bram {w : Word} (h : bitOf w 8 = false) : repairKind w = 1 := if_neg (Bool.eq_false_iff.1 h)
theorem repairKind_mul {w : Word} (h : bitOf w 8 = true) : repairKind w = 2 := if_pos h

theorem spareReg_repairKind (w : Word) (i : Nat) :
    spareReg (repairKind w) i = if bitOf w 8 then Reg.SEC_SPARE_MUL i else Reg.SEC_SPARE_BRAM i := by
  cases h : bitOf w 8 <;> simp [repairKind, spareReg, h]

theorem retiredReg_repairKind (w : Word) (i : Nat) :
    retiredReg (repairKind w) i = if bitOf w 8 then Reg.SEC_MUL_RETIRED i else Reg.SEC_BRAM_RETIRED i := by
  cases h : bitOf w 8 <;> simp [repairKind, retiredReg, h]

/-- A Drizzle slice holds the spare of the kind in sector `i`. -/
def State.spareHeld (s : State) (kind i : Nat) : Prop := ∃ sl, s.memSlice kind i = some sl ∧ sl.heldBy.isSome = true

/-- The spare of the kind takes no role: USED, COPYING, FAULTY, or held. -/
def State.moveBarred (s : State) (kind i : Nat) : Prop :=
  s.getB (spareReg kind i) 31 = true ∨ s.getB (spareReg kind i) 30 = true ∨ s.getB (spareReg kind i) 29 = true ∨ s.spareHeld kind i

/-- The spare of the kind gives `role` not back: it does not serve it, is COPYING or held, or the home block is retired. -/
def State.returnBarred (s : State) (kind i role : Nat) : Prop :=
  s.getB (spareReg kind i) 31 = false ∨ s.getB (spareReg kind i) 30 = true ∨ s.getF (spareReg kind i) 4 0 ≠ role ∨
    s.getB (retiredReg kind i) role = true ∨ s.spareHeld kind i

section Barred
variable {s : State} {kind i role : Nat}

theorem State.spareHeld_iff : (s.memSlice kind i).any (fun sl => sl.heldBy.isSome) = true ↔ s.spareHeld kind i := by
  rw [Option.any_eq_true, State.spareHeld]

theorem State.not_spareHeld (h : ∀ sl, s.memSlice kind i = some sl → sl.heldBy = none) : ¬ s.spareHeld kind i := by
  rintro ⟨sl, hsl, hheld⟩
  rw [h sl hsl] at hheld
  exact Bool.false_ne_true hheld

theorem State.not_moveBarred (h31 : s.getB (spareReg kind i) 31 = false) (h30 : s.getB (spareReg kind i) 30 = false)
    (h29 : s.getB (spareReg kind i) 29 = false) (hs : ∀ sl, s.memSlice kind i = some sl → sl.heldBy = none) :
    ¬ s.moveBarred kind i := by
  simp [State.moveBarred, h31, h30, h29, State.not_spareHeld hs]

theorem State.not_returnBarred (h31 : s.getB (spareReg kind i) 31 = true) (h30 : s.getB (spareReg kind i) 30 = false)
    (hs : ∀ sl, s.memSlice kind i = some sl → sl.heldBy = none) (hrole : s.getF (spareReg kind i) 4 0 = role)
    (hret : s.getB (retiredReg kind i) role = false) : ¬ s.returnBarred kind i role := by
  simp [State.returnBarred, h31, h30, hrole, hret, State.not_spareHeld hs]

/-- The check of a MOVE. -/
theorem State.moveBarred_iff : (s.getB (spareReg kind i) 30 || (s.memSlice kind i).any (fun sl => sl.heldBy.isSome) ||
    s.getB (spareReg kind i) 31 || s.getB (spareReg kind i) 29) = true ↔ s.moveBarred kind i := by
  rw [State.moveBarred, ← State.spareHeld_iff]
  simp only [Bool.or_eq_true]
  tauto

/-- The check of a RETURN. -/
theorem State.returnBarred_iff : (s.getB (spareReg kind i) 30 || (s.memSlice kind i).any (fun sl => sl.heldBy.isSome) ||
    !s.getB (spareReg kind i) 31 || s.getF (spareReg kind i) 4 0 != role || s.getB (retiredReg kind i) role) = true ↔
      s.returnBarred kind i role := by
  rw [State.returnBarred, ← State.spareHeld_iff]
  simp only [Bool.or_eq_true, Bool.not_eq_true', bne_iff_ne]
  tauto

end Barred

/-- A field of one bit is that bit. -/
theorem fld_bit (w : Word) (i : Nat) : fld w i i = (bitOf w i).toNat := by
  rw [fld, bitOf, Nat.toNat_testBit, Nat.shiftRight_eq_div_pow, Nat.add_sub_cancel_left, Nat.pow_one]

section Orders
variable {s : State} {i : Nat} {w : Word}

theorem State.writeMemRepair_move_refused (hcmd : fld w 31 30 = 1) (h : s.moveBarred (repairKind w) i) :
    s.writeMemRepair i w = s.setB (Reg.SEC_MEM_STAT i) 0 true := by
  simp only [State.writeMemRepair, hcmd]
  exact if_pos (State.moveBarred_iff.2 h)

theorem State.writeMemRepair_move (hcmd : fld w 31 30 = 1) (h : ¬ s.moveBarred (repairKind w) i) :
    s.writeMemRepair i w =
      if repairKind w = 1 then s.bramStart i { role := fld w 4 0, toSpare := true } else s.mulMove i (fld w 4 0) false := by
  simp only [State.writeMemRepair, hcmd]
  exact if_neg (mt State.moveBarred_iff.1 h)

theorem State.writeMemRepair_return_refused (hcmd : fld w 31 30 = 2) (h : s.returnBarred (repairKind w) i (fld w 4 0)) :
    s.writeMemRepair i w = s.setB (Reg.SEC_MEM_STAT i) 0 true := by
  simp only [State.writeMemRepair, hcmd]
  exact if_pos (State.returnBarred_iff.2 h)

theorem State.writeMemRepair_return (hcmd : fld w 31 30 = 2) (h : ¬ s.returnBarred (repairKind w) i (fld w 4 0)) :
    s.writeMemRepair i w = if repairKind w = 1 then s.bramStart i { role := fld w 4 0, toSpare := false } else s.mulReturn i := by
  simp only [State.writeMemRepair, hcmd]
  exact if_neg (mt State.returnBarred_iff.1 h)

theorem State.writeMemRepair_reserved (hcmd : fld w 31 30 = 3) : s.writeMemRepair i w = s.setB (Reg.SEC_MEM_STAT i) 0 true := by
  simp only [State.writeMemRepair, hcmd]

/-- A copy that MEM_REPAIR starts: COPYING alone tells of it. -/
theorem State.bramStart_ordered (role : Nat) (toSpare : Bool) : s.bramStart i { role := role, toSpare := toSpare } =
    (s.setSector i { s.sector i with move := some { role := role, toSpare := toSpare } }).setB (Reg.SEC_SPARE_BRAM i) 30 true := rfl

/-- A multiplier role that MEM_REPAIR moves to a spare that is not FAULTY. -/
theorem State.mulMove_ordered {role : Nat} (h : s.getB (Reg.SEC_SPARE_MUL i) 29 = false) : s.mulMove i role false =
    (s.setR (Reg.SEC_SPARE_MUL i) (BitVec.ofNat 32 (2 ^ 31 + role))).raise (64 + i) 64 := by
  have hbit : s.getF (Reg.SEC_SPARE_MUL i) 29 29 = 0 := by
    rw [State.getF, fld_bit, ← State.getB, h, Bool.toNat_false]
  rw [State.mulMove, hbit, Nat.zero_shiftLeft, Nat.add_zero, if_neg Bool.false_ne_true]

end Orders

/-! ### The commands of MEM_REPAIR -/

section Commands
variable {i : Fin 48} {w : Word} {s : State}

theorem exec_memMove_ordered (h : fld w 31 30 = 1) : exec (.memMove i w) s = .next (s.writeMemRepair i w) := by
  rw [exec_memMove, execMemMove, if_pos h]

theorem exec_memMove_other (h : fld w 31 30 ≠ 1) : exec (.memMove i w) s = .next s := by
  rw [exec_memMove, execMemMove, if_neg h]

theorem exec_memReturn_ordered (h : fld w 31 30 = 2) : exec (.memReturn i w) s = .next (s.writeMemRepair i w) := by
  rw [exec_memReturn, execMemReturn, if_pos h]

theorem exec_memReturn_other (h : fld w 31 30 ≠ 2) : exec (.memReturn i w) s = .next s := by
  rw [exec_memReturn, execMemReturn, if_neg h]

theorem exec_memMove_refused (hcmd : fld w 31 30 = 1) (h : s.moveBarred (repairKind w) i) :
    exec (.memMove i w) s = .next (s.setB (Reg.SEC_MEM_STAT i) 0 true) := by
  rw [exec_memMove_ordered hcmd, State.writeMemRepair_move_refused hcmd h]

theorem exec_memReturn_refused (hcmd : fld w 31 30 = 2) (h : s.returnBarred (repairKind w) i (fld w 4 0)) :
    exec (.memReturn i w) s = .next (s.setB (Reg.SEC_MEM_STAT i) 0 true) := by
  rw [exec_memReturn_ordered hcmd, State.writeMemRepair_return_refused hcmd h]

theorem exec_memMove_bram (hcmd : fld w 31 30 = 1) (h8 : bitOf w 8 = false) (h : ¬ s.moveBarred 1 i) :
    exec (.memMove i w) s = .next ((s.setSector i { s.sector i with
      move := some { role := fld w 4 0, toSpare := true } }).setB (Reg.SEC_SPARE_BRAM i) 30 true) := by
  have hk := repairKind_bram h8
  rw [exec_memMove_ordered hcmd, State.writeMemRepair_move hcmd (hk ▸ h), if_pos hk, State.bramStart_ordered]

theorem exec_memMove_mul (hcmd : fld w 31 30 = 1) (h8 : bitOf w 8 = true) (h29 : s.getB (Reg.SEC_SPARE_MUL i) 29 = false)
    (h : ¬ s.moveBarred 2 i) : exec (.memMove i w) s =
      .next ((s.setR (Reg.SEC_SPARE_MUL i) (BitVec.ofNat 32 (2 ^ 31 + fld w 4 0))).raise (64 + i) 64) := by
  have hk := repairKind_mul h8
  have hne : repairKind w ≠ 1 := by omega
  rw [exec_memMove_ordered hcmd, State.writeMemRepair_move hcmd (hk ▸ h), if_neg hne, State.mulMove_ordered h29]

theorem exec_memReturn_bram (hcmd : fld w 31 30 = 2) (h8 : bitOf w 8 = false) (h : ¬ s.returnBarred 1 i (fld w 4 0)) :
    exec (.memReturn i w) s = .next ((s.setSector i { s.sector i with
      move := some { role := fld w 4 0, toSpare := false } }).setB (Reg.SEC_SPARE_BRAM i) 30 true) := by
  have hk := repairKind_bram h8
  rw [exec_memReturn_ordered hcmd, State.writeMemRepair_return hcmd (hk ▸ h), if_pos hk, State.bramStart_ordered]

theorem exec_memReturn_mul (hcmd : fld w 31 30 = 2) (h8 : bitOf w 8 = true) (h : ¬ s.returnBarred 2 i (fld w 4 0)) :
    exec (.memReturn i w) s = .next ((s.setB (Reg.SEC_SPARE_MUL i) 31 false).setF (Reg.SEC_SPARE_MUL i) 4 0 0) := by
  have hk := repairKind_mul h8
  have hne : repairKind w ≠ 1 := by omega
  rw [exec_memReturn_ordered hcmd, State.writeMemRepair_return hcmd (hk ▸ h), if_neg hne, State.mulReturn]

end Commands

/-! ### A write of the register (R240) -/

/-- MEM_REPAIR is a 32-bit register with its own write in the register map. -/
theorem regRow_memRepair : ∀ i : Fin 48, ∃ r n, regRow (Reg.SEC_MEM_REPAIR i) = some (r, n) ∧ r.pair = 0 ∧
    r.hook = .memRepair := by
  have h : ∀ i : Fin 48, (regRow (Reg.SEC_MEM_REPAIR i)).any (fun p => p.1.pair == 0 && p.1.hook == .memRepair) = true := by
    decide +kernel
  intro i
  obtain ⟨⟨r, n⟩, hrow, hr⟩ := (Option.any_eq_true _ _).1 (h i)
  rw [Bool.and_eq_true, beq_iff_eq, beq_iff_eq] at hr
  exact ⟨r, n, hrow, hr⟩

/-- The index of a sector's register. -/
theorem idx_memRepair (i : Nat) : idx (Reg.SEC_MEM_REPAIR i) 0x20000000 0x100000 = i := by
  rw [idx, Reg.SEC_MEM_REPAIR]
  omega

theorem State.writeReg_memRepair (i : Fin 48) (w : Word) (s : State) :
    s.writeReg (Reg.SEC_MEM_REPAIR i) w = s.writeMemRepair i w := by
  obtain ⟨r, n, hrow, hp, hh⟩ := regRow_memRepair i
  have ha : Reg.SEC_MEM_REPAIR i = 0x20001028 + i * 0x100000 := rfl
  have hi := i.isLt
  have h1 : ¬ (0x30000000 ≤ Reg.SEC_MEM_REPAIR i ∧ Reg.SEC_MEM_REPAIR i < 0x30400000) := by omega
  have h2 : ¬ (0x40000000 ≤ Reg.SEC_MEM_REPAIR i ∧ Reg.SEC_MEM_REPAIR i < 0x44000000) := by omega
  have h3 : ¬ (0x10000000 ≤ Reg.SEC_MEM_REPAIR i ∧ Reg.SEC_MEM_REPAIR i < 0x11100000 ∧ 0x8000 ≤ Reg.SEC_MEM_REPAIR i % 0x40000) := by
    omega
  rw [State.writeReg, if_neg h1, if_neg h2, if_neg h3]
  simp only [hrow, State.writeRow, State.writeHook, hp, hh, idx_memRepair]

theorem exec_registerWrite_memRepair (i : Fin 48) (w : Word) (s : State) :
    exec (.registerWrite (BitVec.ofNat 32 (Reg.SEC_MEM_REPAIR i)) w) s = .next (s.writeMemRepair i w) := by
  have ha : (BitVec.ofNat 32 (Reg.SEC_MEM_REPAIR i)).toNat = Reg.SEC_MEM_REPAIR i := by
    have hi := i.isLt
    rw [BitVec.toNat_ofNat, Reg.SEC_MEM_REPAIR]
    omega
  rw [exec_registerWrite, ha, State.writeReg_memRepair]

/-- Settles O9: each refusal is one of the checks of MOVE or RETURN, and CMD 3 is none of the orders. -/
theorem memRepairRefusals : Obligations.MemRepairRefusals := by
  rintro i w s u spare retired rfl hspare hretired
  rw [← spareReg_repairKind] at hspare
  rw [← retiredReg_repairKind] at hretired
  subst hspare hretired
  refine ⟨fun hcmd h => exec_memMove_refused hcmd ?_, fun hcmd h => exec_memReturn_refused hcmd ?_, fun hcmd => ?_⟩
  · obtain h31 | h29 | h30 := h
    · exact .inl h31
    · exact .inr (.inr (.inl h29))
    · exact .inr (.inl h30)
  · obtain h31 | hrole | hret | h30 := h
    · exact .inl h31
    · exact .inr (.inr (.inl hrole))
    · exact .inr (.inr (.inr (.inl hret)))
    · exact .inr (.inl h30)
  · rw [exec_registerWrite_memRepair, State.writeMemRepair_reserved hcmd]

/-! ### The end of a copy (R234, R236) -/

section CopyDone
variable {i : Fin 48} {e : List (Fin 512 × Fin 72 × Bool)} {s t : State} {m m' : BramMove}

/-- The errors that the copy found are handled first; where they leave it to complete, it does. -/
theorem exec_bramCopyDone_copying (hm : (s.sector i).move = some m)
    (ht : t = if s.eccOn i m.from_ then e.foldl (fun s e => s.bramError i m.from_ e.1 e.2.1 e.2.2) s else s)
    (hm' : (t.sector i).move = some m') : exec (.bramCopyDone i e) s = .next (t.bramDone i m') := by
  simp only [exec_bramCopyDone, execBramCopyDone, hm, ← ht, hm']

theorem exec_bramCopyDone_clean (hm : (s.sector i).move = some m) : exec (.bramCopyDone i []) s = .next (s.bramDone i m) :=
  exec_bramCopyDone_copying hm (by rw [List.foldl_nil, ite_self]) hm

theorem exec_bramCopyDone_idle (hm : (s.sector i).move = none) : exec (.bramCopyDone i e) s = .next s := by
  simp only [exec_bramCopyDone, execBramCopyDone, hm]

end CopyDone

/-- Sector `i` no longer copies. -/
def State.copyEnded (s : State) (i : Nat) : State :=
  (s.setSector i { s.sector i with move := none }).setB (Reg.SEC_SPARE_BRAM i) 30 false

section Done
variable {s : State} {i : Nat} {m : BramMove} (hz : m.drizzle = false)
include hz

/-- A copy to the spare leaves the role there. -/
theorem State.bramDone_toSpare (ht : m.toSpare = true) (hf : m.fault = false) : s.bramDone i m =
    ((((s.copyEnded i).setB (Reg.SEC_SPARE_BRAM i) 31 true).setF (Reg.SEC_SPARE_BRAM i) 4 0 m.role).raise (64 + i) 64) := by
  simp only [State.bramDone, ht, hf, hz, State.copyEnded, Bool.false_eq_true, if_true, if_false]

/-- Where a fault has caused it, the home block is retired. -/
theorem State.bramDone_toSpare_fault (ht : m.toSpare = true) (hf : m.fault = true) : s.bramDone i m =
    (((((s.copyEnded i).setB (Reg.SEC_SPARE_BRAM i) 31 true).setF (Reg.SEC_SPARE_BRAM i) 4 0 m.role).setB (Reg.SEC_BRAM_RETIRED i) m.role
      true).raise (64 + i) 64) := by
  simp only [State.bramDone, ht, hf, hz, State.copyEnded, Bool.false_eq_true, if_true, if_false]

/-- A copy back leaves the spare free, where no role waits for it. -/
theorem State.bramDone_home {u : State} (ht : m.toSpare = false)
    (hu : u = ((s.copyEnded i).setB (Reg.SEC_SPARE_BRAM i) 31 false).setF (Reg.SEC_SPARE_BRAM i) 4 0 0)
    (hn : (u.sector i).nextMove = none) : s.bramDone i m = u := by
  rw [State.copyEnded] at hu
  simp only [State.bramDone, ht, hz, ← hu, hn, Bool.false_eq_true, false_and, if_false]

end Done

/-! ### The end of an initialisation (R237) -/

section InitDone
variable {i : Fin 48} {k : Fin 32} {s : State}

theorem exec_bramInitDone_busy (h : s.getB (Reg.SEC_MEM_INIT_BUSY i) k = true) :
    exec (.bramInitDone i k) s = .next (s.setB (Reg.SEC_MEM_INIT_BUSY i) k false).frontComplete := by
  rw [exec_bramInitDone, execBramInitDone, if_pos h]

theorem exec_bramInitDone_not (h : s.getB (Reg.SEC_MEM_INIT_BUSY i) k = false) : exec (.bramInitDone i k) s = .next s := by
  rw [exec_bramInitDone, execBramInitDone, if_neg (Bool.eq_false_iff.1 h)]

end InitDone

/-- Settles O37: each clause is one case of an error, of an order of MEM_REPAIR, or of the end of a copy or of an initialisation. -/
theorem memoriesAndSpares : Obligations.MemoriesAndSpares :=
  ⟨⟨fun _ _ _ _ _ _ hd => ⟨exec_bramEccError_on hd, exec_bramEccError_on hd⟩, fun _ _ _ _ _ _ _ => exec_bramEccError_off,
      fun _ _ _ _ _ _ h => ⟨State.bramError_corrected h, State.bramError_uncorrectable h⟩, fun _ _ _ _ _ _ => State.bramError_unserved,
      fun _ _ _ _ _ _ _ _ => rfl, fun _ _ _ _ _ _ _ _ _ => State.memFault_of_count,
      fun _ _ _ _ _ hen hd hdue hu =>
        hu ▸ ⟨exec_memSweepRead_due hen hd hdue, exec_memSweepRead_due hen hd hdue, exec_memSweepRead_due hen hd hdue⟩,
      fun _ _ _ _ _ => exec_memSweepRead_not, fun _ _ _ _ => exec_residueMismatch_served, fun _ _ _ => exec_residueMismatch_not⟩,
    fun _ _ _ hcmd h8 h31 h30 h29 hs => exec_memMove_bram hcmd h8 (State.not_moveBarred h31 h30 h29 hs),
    fun _ _ _ hcmd h8 h31 h30 h29 hs => exec_memMove_mul hcmd h8 h29 (State.not_moveBarred h31 h30 h29 hs),
    fun _ _ _ _ hk hcmd h => exec_memMove_refused hcmd (by subst hk; exact h),
    fun _ _ _ hcmd h8 h31 h30 hs hrole hret => exec_memReturn_bram hcmd h8 (State.not_returnBarred h31 h30 hs hrole hret),
    fun _ _ _ hcmd h8 h31 h30 hs hrole hret => exec_memReturn_mul hcmd h8 (State.not_returnBarred h31 h30 hs hrole hret),
    fun _ _ _ _ hk hcmd h => exec_memReturn_refused hcmd (by subst hk; exact h),
    fun _ _ _ => ⟨exec_memMove_other, exec_memReturn_other⟩,
    fun _ _ _ => exec_bramCopyDone_clean, fun _ _ _ _ _ _ => exec_bramCopyDone_copying, fun _ _ _ => exec_bramCopyDone_idle,
    fun _ _ _ ht hf hz => State.bramDone_toSpare hz ht hf, fun _ _ _ ht hf hz => State.bramDone_toSpare_fault hz ht hf,
    fun _ _ _ _ ht hz => State.bramDone_home hz ht,
    fun _ _ _ => exec_bramInitDone_busy, fun _ _ _ => exec_bramInitDone_not⟩

end Sys2Proof.Machine
end

section
/-!
PROOF. Of all rows, VAULT_PROV alone touches the vault and the eFuses, and it only adds to them (R254, R402); no row touches the
queue: one lemma per row, through the lemmas of Laws/Firm1–6 and Laws/Vault, and the obligation VaultOnlyGains.
-/
namespace Sys2Proof.Machine

/-! ### What a row answers -/

/-- The row answers a next state with the queue, the vault and the eFuses of `s`. -/
def AnswersFirm (s : State) (o : Out) : Prop := ∃ t, o = .next t ∧ t.firm = s.firm

/-- The row answers a next state with the queue of `s`, and with its vault, of which nothing is lost. -/
def KeepsVault (s : State) (o : Out) : Prop :=
  ∃ t, o = .next t ∧ t.pending = s.pending ∧ vaultKept s t ∧ (s.vaultWf = true → t.vaultWf = true)

@[simp] theorem answersFirm_next (s t : State) : AnswersFirm s (.next t) ↔ t.firm = s.firm := by
  refine ⟨?_, fun h => ⟨t, rfl, h⟩⟩
  rintro ⟨u, ⟨⟩, hu⟩
  exact hu

@[simp] theorem answersFirm_ite (s : State) (p : Prop) [Decidable p] (a b : Out) :
    AnswersFirm s (if p then a else b) ↔ if p then AnswersFirm s a else AnswersFirm s b := by
  split <;> rfl

/-- What keeps the queue and the vault as they are loses nothing. -/
theorem AnswersFirm.keepsVault {s : State} {o : Out} (h : AnswersFirm s o) : KeepsVault s o := by
  obtain ⟨t, ho, ht⟩ := h
  obtain ⟨hp, hk, hw⟩ := kept_of_firm_eq ht
  exact ⟨t, ho, hp, hk s (vaultKept_refl s), hw⟩

/-- What is done after the vault has gained, and leaves it, loses nothing of it. -/
theorem keepsVault_next_of_firm {s t u : State} (h : KeepsVault s (.next t)) (hu : u.firm = t.firm) : KeepsVault s (.next u) := by
  obtain ⟨_, ⟨⟩, hp, hk, hw⟩ := h
  obtain ⟨hp', hk', hw'⟩ := kept_of_firm_eq hu
  exact ⟨u, rfl, hp'.trans hp, hk' s hk, hw' ∘ hw⟩

theorem keepsVault_ite {s : State} {p : Prop} [Decidable p] {a b : Out} (ha : KeepsVault s a) (hb : KeepsVault s b) :
    KeepsVault s (if p then a else b) := by
  split
  · exact ha
  · exact hb

section Engine
variable {s : State} {row : EngRow} {n : Nat} {resume : Stall → Bool}

/-- An engine row leaves the queue and the vault where what it does in the engine's state does. -/
theorem answersFirm_engRunW {f : EngX → State} (h : ∀ x, x.s = s → (f x).firm = s.firm) :
    AnswersFirm s (.next (s.engRunW row n resume f)) :=
  (answersFirm_next _ _).2 (s.engRunW_firm row n resume f h)

theorem answersFirm_engRun {f : EngX → State} (h : ∀ x, x.s = s → (f x).firm = s.firm) :
    AnswersFirm s (.next (s.engRun row n f)) :=
  (answersFirm_next _ _).2 (s.engRun_firm row n f h)

theorem answersFirm_waiting {f : EngX → Stall → State} (h : ∀ x st, x.s = s → (f x st).firm = s.firm) :
    AnswersFirm s (.next (s.waiting n f)) :=
  (answersFirm_next _ _).2 (s.waiting_firm n f h)

end Engine

/-! ### The rows of Machine/Clock -/

theorem execFcwWrite_firm (n : Fin 8) (v : DWord) (s : State) : AnswersFirm s (execFcwWrite n v s) := by simp [execFcwWrite]
theorem execSlewDone_firm (n : Fin 8) (s : State) : AnswersFirm s (execSlewDone n s) := by simp [execSlewDone]
theorem execLossOfLock_firm (n : Fin 8) (why : Fin 2) (s : State) : AnswersFirm s (execLossOfLock n why s) := by simp [execLossOfLock]
theorem execResFail_firm (r : Fin 2) (s : State) : AnswersFirm s (execResFail r s) := by simp [execResFail]
theorem execLockComplete_firm (n : Fin 8) (s : State) : AnswersFirm s (execLockComplete n s) := by
  unfold execLockComplete
  split <;> simp
theorem execAdpllEnable_firm (n : Fin 8) (w : Word) (s : State) : AnswersFirm s (execAdpllEnable n w s) := by simp [execAdpllEnable]
theorem execRelock_firm (n : Fin 8) (s : State) : AnswersFirm s (execRelock n s) := by simp [execRelock]
theorem execOutputCtlWrite_firm (n : Fin 8) (m : Fin 6) (w : Word) (s : State) : AnswersFirm s (execOutputCtlWrite n m w s) := by
  simp [execOutputCtlWrite]
theorem execGclkSrcWrite_firm (k : Fin 32) (w : Word) (s : State) : AnswersFirm s (execGclkSrcWrite k w s) := by simp [execGclkSrcWrite]
theorem execClkTbCtlWrite_firm (w : Word) (s : State) : AnswersFirm s (execClkTbCtlWrite w s) := by simp [execClkTbCtlWrite]
theorem execTimeStep_firm (v : Via) (s : State) : AnswersFirm s (execTimeStep v s) := by
  unfold execTimeStep
  (repeat' split) <;> simp
theorem execTimeStepApply_firm (s : State) : AnswersFirm s (execTimeStepApply s) := by
  unfold execTimeStepApply
  split <;> simp

/-! ### The rows of Machine/EngineRun -/

theorem execEffectStatusReturn_firm (n : Fin 68) (s : State) : AnswersFirm s (execEffectStatusReturn n s) := by
  unfold execEffectStatusReturn
  dsimp only
  (repeat' split) <;> simp

/-! ### The rows of Machine/Images -/

theorem execImageHeader_firm (s : State) : AnswersFirm s (execImageHeader s) := by
  unfold execImageHeader
  split <;> simp
theorem execFrame_firm (wr : Bool) (s : State) : AnswersFirm s (execFrame wr s) := by
  unfold execFrame
  split <;> simp
theorem execStagingGo_firm (v : Via) (s : State) : AnswersFirm s (execStagingGo v s) := by
  unfold execStagingGo
  (repeat' split) <;> simp
theorem execStgBegin_firm (c : CmdRef) (s : State) : AnswersFirm s (execStgBegin c s) := by
  unfold execStgBegin
  split <;> simp
theorem execStgData_firm (c : CmdRef) (s : State) : AnswersFirm s (execStgData c s) := by
  unfold execStgData
  (repeat' split) <;> simp
theorem execStgEnd_firm (c : CmdRef) (s : State) : AnswersFirm s (execStgEnd c s) := by
  unfold execStgEnd
  (repeat' split) <;> simp
theorem execStgAbort_firm (v : Via) (s : State) : AnswersFirm s (execStgAbort v s) := by
  unfold execStgAbort
  (repeat' split) <;> simp
theorem execHostStreamGap_firm (s : State) : AnswersFirm s (execHostStreamGap s) := by
  unfold execHostStreamGap
  split <;> simp
theorem execSlotErase_firm (c : CmdRef) (s : State) : AnswersFirm s (execSlotErase c s) := by
  unfold execSlotErase
  split <;> simp
theorem execSlotEraseDone_firm (k : Fin 4) (s : State) : AnswersFirm s (execSlotEraseDone k s) := by
  unfold execSlotEraseDone
  split <;> simp
theorem execSlotStat_firm (c : CmdRef) (s : State) : AnswersFirm s (execSlotStat c s) := by
  unfold execSlotStat
  split <;> simp
theorem execBcast_firm (m : LaneMsg) (first last : Bool) (words : List DWord) (s : State) :
    AnswersFirm s (execBcast m first last words s) := by simp [execBcast]

/-! ### The rows of Machine/Key -/

theorem execKeyInsertion_firm (k : KeyChip) (s : State) : AnswersFirm s (execKeyInsertion k s) := by simp [execKeyInsertion]
theorem execKeyRemoval_firm (s : State) : AnswersFirm s (execKeyRemoval s) := by simp [execKeyRemoval]
theorem execKeyDiscovery_firm (s : State) : AnswersFirm s (execKeyDiscovery s) := by
  unfold execKeyDiscovery
  split <;> simp
theorem execKeyVoltageRetry_firm (s : State) : AnswersFirm s (execKeyVoltageRetry s) := by simp [execKeyVoltageRetry]
theorem execKeyOvercurrent_firm (s : State) : AnswersFirm s (execKeyOvercurrent s) := by simp [execKeyOvercurrent]
theorem execKeySelect_firm (v : Via) (s : State) : AnswersFirm s (execKeySelect v s) := by
  unfold execKeySelect
  (repeat' split) <;> simp
theorem execKeyRescan_firm (v : Via) (s : State) : AnswersFirm s (execKeyRescan v s) := by
  unfold execKeyRescan
  (repeat' split) <;> simp
theorem execKeyStat_firm (c : CmdRef) (s : State) : AnswersFirm s (execKeyStat c s) := by
  unfold execKeyStat
  split <;> simp
theorem execKeyRead_firm (c : CmdRef) (s : State) : AnswersFirm s (execKeyRead c s) := by
  unfold execKeyRead
  (repeat' split) <;> simp
theorem execSettingsLoad_firm (fail : Option Nat) (s : State) : AnswersFirm s (execSettingsLoad fail s) := by
  unfold execSettingsLoad
  dsimp only
  (repeat' split) <;> simp
theorem execKeyWb_firm (v : Via) (fail : Option Nat) (s : State) : AnswersFirm s (execKeyWb v fail s) := by
  unfold execKeyWb
  (repeat' split) <;> simp
theorem execWbPeriodExpiry_firm (fail : Option Nat) (s : State) : AnswersFirm s (execWbPeriodExpiry fail s) := by simp [execWbPeriodExpiry]
theorem execPrmWindowWrite_firm (k : Fin 1048576) (w : Word) (s : State) : AnswersFirm s (execPrmWindowWrite k w s) := by
  simp [execPrmWindowWrite]
theorem execPrmRead_firm (c : CmdRef) (s : State) : AnswersFirm s (execPrmRead c s) := by
  unfold execPrmRead
  split <;> simp
theorem execPrmWrite_firm (c : CmdRef) (s : State) : AnswersFirm s (execPrmWrite c s) := by
  unfold execPrmWrite
  split <;> simp

/-! ### The rows of Machine/Links -/

theorem execLaneUp_firm (l : Fin 8) (s : State) : AnswersFirm s (execLaneUp l s) := by simp [execLaneUp]
theorem execLaneDown_firm (l : Fin 8) (s : State) : AnswersFirm s (execLaneDown l s) := by simp [execLaneDown]
theorem execHello_firm (m : LaneMsg) (master : Option (Fin 16)) (hops : Fin 8) (stations : BitVec 16) (chosen : Bool) (s : State) :
    AnswersFirm s (execHello m master hops stations chosen s) := by simp [execHello]
theorem execTime_firm (m : LaneMsg) (t : DWord) (step : Bool) (s : State) : AnswersFirm s (execTime m t step s) := by simp [execTime]
theorem execDelayReq_firm (m : LaneMsg) (s : State) : AnswersFirm s (execDelayReq m s) := by simp [execDelayReq]
theorem execDelayResp_firm (m : LaneMsg) (t2 t3 : DWord) (s : State) : AnswersFirm s (execDelayResp m t2 t3 s) := by
  unfold execDelayResp
  dsimp only
  (repeat' split) <;> simp
theorem execDelayMeasureTimer_firm (l : Fin 8) (s : State) : AnswersFirm s (execDelayMeasureTimer l s) := by simp [execDelayMeasureTimer]
theorem execTimeSendTimer_firm (s : State) : AnswersFirm s (execTimeSendTimer s) := by simp [execTimeSendTimer]
theorem execAction_firm (m : LaneMsg) (dst : Fin 16) (w : QWord) (s : State) : AnswersFirm s (execAction m dst w s) := by
  unfold execAction
  (repeat' split) <;> simp
theorem execHoldover_firm (s : State) : AnswersFirm s (execHoldover s) := by simp [execHoldover]

/-! ### The rows of Machine/Fab -/

theorem execContention_firm (i : Fin 48) (seg : Fin 2048) (drv : Byte) (s : State) : AnswersFirm s (execContention i seg drv s) := by
  rw [← exec_contention]
  by_cases h : segmentExists i seg = true ∧ s.sectorLive i = true
  · rw [exec_contention_detected h.1 h.2 rfl, answersFirm_next, State.sectorFault_firm]
    split
    · rw [State.raise_firm, State.setD_firm, State.setR_firm, State.addF_firm]
    · rw [State.disconnect_firm, State.raise_firm, State.setD_firm, State.setR_firm, State.addF_firm]
  · rw [exec_contention_not (by rw [not_and_or] at h; simpa using h), answersFirm_next]
theorem execScrubRead_firm (ce : Fin 65) (bad : Bool) (s : State) : AnswersFirm s (execScrubRead ce bad s) := by
  unfold execScrubRead
  (repeat' split) <;> simp
theorem execScrubRewriteDone_firm (src : Bool) (s : State) : AnswersFirm s (execScrubRewriteDone src s) := by
  unfold execScrubRewriteDone
  split <;> simp
theorem execFabricPost_firm (i : Fin 48) (w : QWord) (s : State) : AnswersFirm s (execFabricPost i w s) := by simp [execFabricPost]
theorem execFabricCancel_firm (i : Fin 48) (w : QWord) (s : State) : AnswersFirm s (execFabricCancel i w s) := by simp [execFabricCancel]
theorem execFabricMboxWrite_firm (i : Fin 48) (e : Fin 64) (m : Fin 16) (v : DWord) (s : State) :
    AnswersFirm s (execFabricMboxWrite i e m v s) := by simp [execFabricMboxWrite]
theorem execFabricRequest_firm (i : Fin 48) (op : Fin 6) (addr : Word) (len : Nat) (data : List Byte) (lock : BitVec 7) (s : State) :
    AnswersFirm s (execFabricRequest i op addr len data lock s) := by simp [execFabricRequest]
theorem execEventPortPulse_firm (i : Fin 48) (u : Fin 64) (w : Word) (s : State) : AnswersFirm s (execEventPortPulse i u w s) := by
  simp [execEventPortPulse]
theorem execPrbPinWrite_firm (c : Fin 64) (w : Word) (s : State) : AnswersFirm s (execPrbPinWrite c w s) := by simp [execPrbPinWrite]
theorem execTrcArm_firm (v : Via) (s : State) : AnswersFirm s (execTrcArm v s) := by simp [execTrcArm]
theorem execTrcStop_firm (v : Via) (s : State) : AnswersFirm s (execTrcStop v s) := by simp [execTrcStop]
theorem execTrcForce_firm (v : Via) (s : State) : AnswersFirm s (execTrcForce v s) := by simp [execTrcForce]
theorem execSamplingEdge_firm (t : Fin 32) (v : DWord) (q : Fin 160) (s : State) : AnswersFirm s (execSamplingEdge t v q s) := by
  simp [execSamplingEdge]
theorem execTraceTrigger_firm (s : State) : AnswersFirm s (execTraceTrigger s) := by simp [execTraceTrigger]
theorem execTraceDone_firm (s : State) : AnswersFirm s (execTraceDone s) := by simp [execTraceDone]
theorem execTrcRead_firm (c : CmdRef) (s : State) : AnswersFirm s (execTrcRead c s) := by
  unfold execTrcRead
  split <;> simp

/-! ### The rows of Machine/Mem -/

theorem execBramEccError_firm (i : Fin 48) (k : Fin 33) (p : Fin 2) (word : Fin 512) (bit : Fin 72) (ue : Bool) (s : State) :
    AnswersFirm s (execBramEccError i k p word bit ue s) := by simp [execBramEccError]
theorem execMemSweepRead_firm (i : Fin 48) (k : Fin 33) (ecc : Ecc) (bit : Fin 72) (s : State) :
    AnswersFirm s (execMemSweepRead i k ecc bit s) := by
  unfold execMemSweepRead
  (repeat' split) <;> simp
theorem execResidueMismatch_firm (i : Fin 48) (k : Fin 33) (s : State) : AnswersFirm s (execResidueMismatch i k s) := by
  unfold execResidueMismatch
  split <;> simp
theorem execMemMove_firm (i : Fin 48) (w : Word) (s : State) : AnswersFirm s (execMemMove i w s) := by simp [execMemMove]
theorem execMemReturn_firm (i : Fin 48) (w : Word) (s : State) : AnswersFirm s (execMemReturn i w s) := by simp [execMemReturn]
theorem execBramCopyDone_firm (i : Fin 48) (errs : List (Fin 512 × Fin 72 × Bool)) (s : State) :
    AnswersFirm s (execBramCopyDone i errs s) := by
  unfold execBramCopyDone
  dsimp only
  (repeat' split) <;> simp
theorem execBramInitDone_firm (i : Fin 48) (k : Fin 32) (s : State) : AnswersFirm s (execBramInitDone i k s) := by simp [execBramInitDone]

/-! ### The rows of Machine/PowerRows -/

theorem execDomReqOn_firm (v : ViaN) (s : State) : AnswersFirm s (execDomReqOn v s) := by simp [execDomReqOn]
theorem execDomReqRet_firm (v : ViaN) (s : State) : AnswersFirm s (execDomReqRet v s) := by simp [execDomReqRet]
theorem execDomReqOff_firm (v : ViaN) (s : State) : AnswersFirm s (execDomReqOff v s) := by simp [execDomReqOff]
theorem execDomainReset_firm (v : ViaN) (s : State) : AnswersFirm s (execDomainReset v s) := by simp [execDomainReset]
theorem execIdleTimeout_firm (d : Fin 135) (s : State) : AnswersFirm s (execIdleTimeout d s) := by simp [execIdleTimeout]
theorem execWakeRequest_firm (d : Fin 135) (src : Fin 16) (s : State) : AnswersFirm s (execWakeRequest d src s) := by simp [execWakeRequest]
theorem execEntryDone_firm (d : Fin 135) (s : State) : AnswersFirm s (execEntryDone d s) := by
  unfold execEntryDone
  dsimp only
  (repeat' split) <;> simp
theorem execWakeDone_firm (d : Fin 135) (r : Retention) (s : State) : AnswersFirm s (execWakeDone d r s) := by
  unfold execWakeDone
  (repeat' split) <;> simp
theorem execColdRestoreDone_firm (d : Fin 135) (s : State) : AnswersFirm s (execColdRestoreDone d s) := by
  unfold execColdRestoreDone
  dsimp only
  (repeat' split) <;> simp

/-! ### The rows of Machine/Reset -/

theorem execPowerUp_firm (vin : BitVec 16) (s : State) : AnswersFirm s (execPowerUp vin s) := by
  unfold execPowerUp
  dsimp only
  (repeat' split) <;> simp
theorem execSupplyBelowReset_firm (s : State) : AnswersFirm s (execSupplyBelowReset s) := by simp [execSupplyBelowReset]
theorem execResetNAssert_firm (s : State) : AnswersFirm s (execResetNAssert s) := by simp [execResetNAssert]
theorem execResetNRelease_firm (s : State) : AnswersFirm s (execResetNRelease s) := by simp [execResetNRelease]
theorem execColdReset_firm (v : Via) (s : State) : AnswersFirm s (execColdReset v s) := by simp [execColdReset]
theorem execWarmReset_firm (v : Via) (s : State) : AnswersFirm s (execWarmReset v s) := by simp [execWarmReset]
theorem execManagementWatchdog_firm (s : State) : AnswersFirm s (execManagementWatchdog s) := by simp [execManagementWatchdog]
theorem execGaspSectorErase_firm (s : State) : AnswersFirm s (execGaspSectorErase s) := by simp [execGaspSectorErase]

/-! ### The rows of Machine/Nv -/

theorem execNvProgram_firm (v : Via) (s : State) : AnswersFirm s (execNvProgram v s) := by
  unfold execNvProgram
  (repeat' split) <;> simp
theorem execNvErase_firm (v : Via) (s : State) : AnswersFirm s (execNvErase v s) := by
  unfold execNvErase
  (repeat' split) <;> simp
theorem execNvSuspend_firm (v : Via) (s : State) : AnswersFirm s (execNvSuspend v s) := by
  unfold execNvSuspend
  (repeat' split) <;> simp
theorem execNvResume_firm (v : Via) (s : State) : AnswersFirm s (execNvResume v s) := by
  unfold execNvResume
  (repeat' split) <;> simp
theorem execNvRead_firm (c : CmdRef) (s : State) : AnswersFirm s (execNvRead c s) := by
  unfold execNvRead
  split <;> simp
theorem execNvStat_firm (c : CmdRef) (s : State) : AnswersFirm s (execNvStat c s) := by
  unfold execNvStat
  split <;> simp
theorem execNvWindowRead_firm (k : Fin 16777216) (ecc : Ecc) (s : State) : AnswersFirm s (execNvWindowRead k ecc s) := by
  simp [execNvWindowRead]
theorem execNvWindowWrite_firm (_k : Fin 16777216) (_w : Word) (s : State) : AnswersFirm s (execNvWindowWrite _k _w s) := by
  simp [execNvWindowWrite]
theorem execFarLineFill_firm (n : Fin 68) (ecc ecc2 : Ecc) (s : State) : AnswersFirm s (execFarLineFill n ecc ecc2 s) := by
  unfold execFarLineFill
  (repeat' split) <;> simp
theorem execNvProgramStep_firm (pass : Bool) (s : State) : AnswersFirm s (execNvProgramStep pass s) := by
  unfold execNvProgramStep
  split <;> simp
theorem execEraseSegmentEnd_firm (s : State) : AnswersFirm s (execEraseSegmentEnd s) := by
  unfold execEraseSegmentEnd
  split <;> simp
theorem execNvErasePulse_firm (pass : Bool) (s : State) : AnswersFirm s (execNvErasePulse pass s) := by
  unfold execNvErasePulse
  split <;> simp
theorem execNvResumeIdle_firm (s : State) : AnswersFirm s (execNvResumeIdle s) := by
  unfold execNvResumeIdle
  split <;> simp

/-! ### The rows of Machine/Arbiters -/

theorem execGrantDecision_firm (r : Fin 5) (s : State) : AnswersFirm s (execGrantDecision r s) := by
  unfold execGrantDecision
  dsimp only
  (repeat' split) <;> simp
theorem execBackoffExpiry_firm (r : Fin 5) (q : Fin 83) (s : State) : AnswersFirm s (execBackoffExpiry r q s) := by simp [execBackoffExpiry]
theorem execBeatComplete_firm (r : Fin 5) (ecc : List Ecc) (s : State) : AnswersFirm s (execBeatComplete r ecc s) := by
  unfold execBeatComplete
  (repeat' split) <;> simp
theorem execLockGapExpiry_firm (r : Fin 5) (s : State) : AnswersFirm s (execLockGapExpiry r s) := by
  unfold execLockGapExpiry
  dsimp only
  (repeat' split) <;> simp
theorem execLongWait_firm (r : Fin 5) (s : State) : AnswersFirm s (execLongWait r s) := by simp [execLongWait]
theorem execArbModeWrite_firm (r : Fin 5) (w : Word) (s : State) : AnswersFirm s (execArbModeWrite r w s) := by simp [execArbModeWrite]

/-! ### The rows of Machine/AxisRows -/

theorem execPwmWriteApply_firm (e : Fin 64) (s : State) : AnswersFirm s (execPwmWriteApply e s) := by
  unfold execPwmWriteApply
  dsimp only
  (repeat' split) <;> simp
theorem execPwmEdge_firm (e : Fin 64) (k : Fin 6) (s : State) : AnswersFirm s (execPwmEdge e k s) := by
  unfold execPwmEdge
  split <;> simp
theorem execQuadratureCount_firm (e : Fin 64) (ha hb : BitVec 16) (s : State) : AnswersFirm s (execQuadratureCount e ha hb s) := by
  unfold execQuadratureCount
  dsimp only
  (repeat' split) <;> simp
theorem execIndexEdge_firm (e : Fin 64) (high : Bool) (s : State) : AnswersFirm s (execIndexEdge e high s) := by simp [execIndexEdge]
theorem execSsiFrameEnd_firm (e : Fin 64) (bits : Nat) (low : Bool) (s : State) : AnswersFirm s (execSsiFrameEnd e bits low s) := by
  unfold execSsiFrameEnd
  dsimp only
  (repeat' split) <;> simp
theorem execDsSample_firm (e : Fin 64) (k : Fin 4) (bits : List Bool) (s : State) : AnswersFirm s (execDsSample e k bits s) := by
  simp [execDsSample]
theorem execDsClklost_firm (e : Fin 64) (s : State) : AnswersFirm s (execDsClklost e s) := by simp [execDsClklost]
theorem execConvert_firm (c : Fin 4) (s : State) : AnswersFirm s (execConvert c s) := by
  unfold execConvert
  split <;> simp
theorem execSequence_firm (c : Fin 4) (s : State) : AnswersFirm s (execSequence c s) := by
  unfold execSequence
  split <;> simp
theorem execAdcResult_firm (c : Fin 4) (v : BitVec 16) (s : State) : AnswersFirm s (execAdcResult c v s) := by
  unfold execAdcResult
  split <;> simp

/-! ### The rows of Machine/EngineIsa -/

theorem execAlu_firm (n : Fin 68) (s : State) : AnswersFirm s (execAlu n s) := by
  refine answersFirm_engRun fun x hx => ?_
  subst hx
  (repeat' split) <;> simp
theorem execAddi_firm (n : Fin 68) (s : State) : AnswersFirm s (execAddi n s) := answersFirm_engRun fun x hx => by simp [hx]
theorem execAndi_firm (n : Fin 68) (s : State) : AnswersFirm s (execAndi n s) := answersFirm_engRun fun x hx => by simp [hx]
theorem execOri_firm (n : Fin 68) (s : State) : AnswersFirm s (execOri n s) := answersFirm_engRun fun x hx => by simp [hx]
theorem execXori_firm (n : Fin 68) (s : State) : AnswersFirm s (execXori n s) := answersFirm_engRun fun x hx => by simp [hx]
theorem execShi_firm (n : Fin 68) (s : State) : AnswersFirm s (execShi n s) := answersFirm_engRun fun x hx => by simp [hx]
theorem execLdi_firm (n : Fin 68) (s : State) : AnswersFirm s (execLdi n s) := answersFirm_engRun fun x hx => by simp [hx]
theorem execInsh_firm (n : Fin 68) (s : State) : AnswersFirm s (execInsh n s) := answersFirm_engRun fun x hx => by simp [hx]
theorem execCmpi_firm (n : Fin 68) (s : State) : AnswersFirm s (execCmpi n s) := answersFirm_engRun fun x hx => by simp [hx]
theorem execNop_firm (n : Fin 68) (s : State) : AnswersFirm s (execNop n s) := answersFirm_engRun fun x hx => by simp [hx]
theorem execFpu_firm (n : Fin 68) (s : State) : AnswersFirm s (execFpu n s) := answersFirm_engRun fun x hx => by split <;> simp [hx]
theorem execFma_firm (n : Fin 68) (s : State) : AnswersFirm s (execFma n s) := answersFirm_engRun fun x hx => by simp [hx]
theorem execLd_firm (n : Fin 68) (ecc : Ecc) (s : State) : AnswersFirm s (execLd n ecc s) := answersFirm_engRun fun x hx => by simp [hx]
theorem execLdw_firm (n : Fin 68) (ecc : Ecc) (s : State) : AnswersFirm s (execLdw n ecc s) := answersFirm_engRun fun x hx => by simp [hx]
theorem execLdws_firm (n : Fin 68) (ecc : Ecc) (s : State) : AnswersFirm s (execLdws n ecc s) := answersFirm_engRun fun x hx => by simp [hx]
theorem execSt_firm (n : Fin 68) (s : State) : AnswersFirm s (execSt n s) := answersFirm_engRun fun x hx => by simp [hx]
theorem execStw_firm (n : Fin 68) (s : State) : AnswersFirm s (execStw n s) := answersFirm_engRun fun x hx => by simp [hx]
theorem execBcc_firm (n : Fin 68) (s : State) : AnswersFirm s (execBcc n s) := answersFirm_engRun fun x hx => by simp [hx]
theorem execJmp_firm (n : Fin 68) (s : State) : AnswersFirm s (execJmp n s) := answersFirm_engRun fun x hx => by simp [hx]
theorem execCall_firm (n : Fin 68) (s : State) : AnswersFirm s (execCall n s) := answersFirm_engRun fun x hx => by simp [hx]
theorem execJr_firm (n : Fin 68) (s : State) : AnswersFirm s (execJr n s) := answersFirm_engRun fun x hx => by simp [hx]
theorem execRet_firm (n : Fin 68) (s : State) : AnswersFirm s (execRet n s) := answersFirm_engRun fun x hx => by simp [hx]
theorem execFret_firm (n : Fin 68) (s : State) : AnswersFirm s (execFret n s) := answersFirm_engRun fun x hx => by simp [hx]
theorem execFcall_firm (n : Fin 68) (s : State) : AnswersFirm s (execFcall n s) := answersFirm_engRun fun x hx => by simp [hx]
theorem execMfs_firm (n : Fin 68) (s : State) : AnswersFirm s (execMfs n s) := answersFirm_engRun fun x hx => by simp [hx]
theorem execMts_firm (n : Fin 68) (s : State) : AnswersFirm s (execMts n s) := answersFirm_engRun fun x hx => by split <;> simp [hx]

/-! ### The rows of Machine/EngineAct -/

theorem execPost_firm (n : Fin 68) (s : State) : AnswersFirm s (execPost n s) := by
  refine answersFirm_engRunW fun x hx => ?_
  subst hx
  (repeat' split) <;> simp
theorem execCancel_firm (n : Fin 68) (s : State) : AnswersFirm s (execCancel n s) := answersFirm_engRun fun x hx => by simp [hx]
theorem execWaitt_firm (n : Fin 68) (s : State) : AnswersFirm s (execWaitt n s) := by
  refine answersFirm_engRun fun x hx => ?_
  subst hx
  (repeat' split) <;> simp
theorem execWaittWake_firm (n : Fin 68) (s : State) : AnswersFirm s (execWaittWake n s) :=
  answersFirm_waiting fun _ _ _ => by split <;> simp
theorem execWaitf_firm (n : Fin 68) (s : State) : AnswersFirm s (execWaitf n s) := by
  refine answersFirm_engRunW fun x hx => ?_
  subst hx
  dsimp only
  (repeat' split) <;> simp
theorem execTfclr_firm (n : Fin 68) (s : State) : AnswersFirm s (execTfclr n s) := answersFirm_engRun fun x hx => by simp [hx]
theorem execSend_firm (n : Fin 68) (s : State) : AnswersFirm s (execSend n s) := by
  refine answersFirm_engRun fun x hx => ?_
  subst hx
  dsimp only
  split
  · simp
  · exact EngX.asked_firm _ _ _ fun s k => by split <;> simp
theorem execRecv_firm (n : Fin 68) (s : State) : AnswersFirm s (execRecv n s) := by
  refine answersFirm_engRunW fun x hx => ?_
  subst hx
  dsimp only
  (repeat' split) <;> simp
theorem execPeek_firm (n : Fin 68) (s : State) : AnswersFirm s (execPeek n s) := answersFirm_engRun fun x hx => by simp [hx]
theorem execRecvm_firm (n : Fin 68) (s : State) : AnswersFirm s (execRecvm n s) := by
  refine answersFirm_engRunW fun x hx => ?_
  subst hx
  dsimp only
  (repeat' split) <;> simp
theorem execWaitTimeout_firm (n : Fin 68) (s : State) : AnswersFirm s (execWaitTimeout n s) := by
  refine answersFirm_waiting fun x st hx => ?_
  subst hx
  (repeat' split) <;> simp
theorem execBprd_firm (n : Fin 68) (s : State) : AnswersFirm s (execBprd n s) := by
  refine answersFirm_engRun fun x hx => ?_
  subst hx
  dsimp only
  (repeat' split) <;> simp
theorem execBpwr_firm (n : Fin 68) (s : State) : AnswersFirm s (execBpwr n s) := by
  refine answersFirm_engRun fun x hx => ?_
  subst hx
  dsimp only
  (repeat' split) <;> simp
theorem execBpAck_firm (n : Fin 68) (v : DWord) (s : State) : AnswersFirm s (execBpAck n v s) := by
  unfold execBpAck
  split
  · refine answersFirm_waiting fun x st hx => ?_
    split <;> simp
  · simp
theorem execBpTimeout_firm (n : Fin 68) (s : State) : AnswersFirm s (execBpTimeout n s) := by
  unfold execBpTimeout
  split
  · refine answersFirm_waiting fun x st hx => ?_
    split <;> simp
  · simp
theorem execRqNvRead_firm (n : Fin 68) (ecc : Ecc) (s : State) : AnswersFirm s (execRqNvRead n ecc s) :=
  answersFirm_engRun fun x hx => by simp [hx]
theorem execRqNvProgram_firm (n : Fin 68) (ecc : Ecc) (s : State) : AnswersFirm s (execRqNvProgram n ecc s) :=
  answersFirm_engRun fun x hx => by simp [hx]
theorem execRqNvErase_firm (n : Fin 68) (ecc : Ecc) (s : State) : AnswersFirm s (execRqNvErase n ecc s) :=
  answersFirm_engRun fun x hx => by simp [hx]
theorem execRqPrmRead_firm (n : Fin 68) (ecc : Ecc) (s : State) : AnswersFirm s (execRqPrmRead n ecc s) :=
  answersFirm_engRun fun x hx => by simp [hx]
theorem execRqPrmWrite_firm (n : Fin 68) (ecc : Ecc) (s : State) : AnswersFirm s (execRqPrmWrite n ecc s) :=
  answersFirm_engRun fun x hx => by simp [hx]
theorem execRqTrunkTransmit_firm (n : Fin 68) (ecc : Ecc) (s : State) : AnswersFirm s (execRqTrunkTransmit n ecc s) :=
  answersFirm_engRun fun x hx => by simp [hx]
theorem execPrelog_firm (n : Fin 68) (s : State) : AnswersFirm s (execPrelog n s) := answersFirm_engRun fun x hx => by simp [hx]
theorem execCkhNoretry_firm (n : Fin 68) (s : State) : AnswersFirm s (execCkhNoretry n s) := answersFirm_engRun fun x hx => by simp [hx]
theorem execLogfree_firm (n : Fin 68) (s : State) : AnswersFirm s (execLogfree n s) := answersFirm_engRun fun x hx => by simp [hx]
theorem execCend_firm (n : Fin 68) (s : State) : AnswersFirm s (execCend n s) := by
  refine answersFirm_engRunW fun x hx => ?_
  subst hx
  dsimp only
  (repeat' split) <;> simp
theorem execDrainTimeout_firm (n : Fin 68) (s : State) : AnswersFirm s (execDrainTimeout n s) := answersFirm_waiting fun _ _ _ => by simp

/-! ### The rows of Machine/EngineUnits -/

theorem execUwr_firm (n : Fin 68) (s : State) : AnswersFirm s (execUwr n s) := answersFirm_engRun fun x hx => by simp [hx]
theorem execUrd_firm (n : Fin 68) (s : State) : AnswersFirm s (execUrd n s) := answersFirm_engRun fun x hx => by split <;> simp [hx]
theorem execTrjGo_firm (n : Fin 68) (s : State) : AnswersFirm s (execTrjGo n s) := answersFirm_engRun fun x hx => by simp [hx]
theorem execTrjStop_firm (n : Fin 68) (s : State) : AnswersFirm s (execTrjStop n s) := answersFirm_engRun fun x hx => by simp [hx]
theorem execQstop_firm (n : Fin 68) (s : State) : AnswersFirm s (execQstop n s) := answersFirm_engRun fun x hx => by simp [hx]
theorem execTrjStep_firm (n : Fin 68) (s : State) : AnswersFirm s (execTrjStep n s) := answersFirm_engRun fun x hx => by simp [hx]
theorem execEngage_firm (n : Fin 68) (ecc : Ecc) (s : State) : AnswersFirm s (execEngage n ecc s) :=
  answersFirm_engRun fun x hx => by simp [hx]
theorem execDisengage_firm (n : Fin 68) (s : State) : AnswersFirm s (execDisengage n s) := answersFirm_engRun fun x hx => by simp [hx]
theorem execCamStep_firm (n : Fin 68) (ecc : Ecc) (s : State) : AnswersFirm s (execCamStep n ecc s) :=
  answersFirm_engRun fun x hx => by simp [hx]
theorem execVmset_firm (n : Fin 68) (s : State) : AnswersFirm s (execVmset n s) := answersFirm_engRun fun x hx => by simp [hx]
theorem execCami_firm (n : Fin 68) (ecc : Ecc) (s : State) : AnswersFirm s (execCami n ecc s) := answersFirm_engRun fun x hx => by simp [hx]
theorem execLoopReset_firm (n : Fin 68) (s : State) : AnswersFirm s (execLoopReset n s) := answersFirm_engRun fun x hx => by simp [hx]
theorem execBiqReset_firm (n : Fin 68) (s : State) : AnswersFirm s (execBiqReset n s) := answersFirm_engRun fun x hx => by simp [hx]
theorem execLoopx_firm (n : Fin 68) (s : State) : AnswersFirm s (execLoopx n s) := answersFirm_engRun fun x hx => by simp [hx]
theorem execBiqx_firm (n : Fin 68) (s : State) : AnswersFirm s (execBiqx n s) := answersFirm_engRun fun x hx => by simp [hx]
theorem execLimx_firm (n : Fin 68) (s : State) : AnswersFirm s (execLimx n s) := answersFirm_engRun fun x hx => by simp [hx]
theorem execApply_firm (n : Fin 68) (s : State) : AnswersFirm s (execApply n s) := answersFirm_engRun fun x hx => by simp [hx]

/-! ### The rows of Machine/EngineRows -/

theorem execCycle_firm (e : Fin 64) (s : State) : AnswersFirm s (execCycle e s) := by
  unfold execCycle
  split <;> simp
theorem execSignal_firm (e : Fin 64) (s : State) : AnswersFirm s (execSignal e s) := by
  unfold execSignal
  split <;> simp
theorem execStrobe_firm (t : Fin 384) (s : State) : AnswersFirm s (execStrobe t s) := by
  unfold execStrobe
  split <;> simp
theorem execLockstepMismatch_firm (n : Fin 68) (bit : Fin 64) (s : State) : AnswersFirm s (execLockstepMismatch n bit s) := by
  unfold execLockstepMismatch
  split <;> simp
theorem execEngineWatchdog_firm (n : Fin 68) (s : State) : AnswersFirm s (execEngineWatchdog n s) := by
  unfold execEngineWatchdog
  split <;> simp
theorem execRunEnClear_firm (n : Fin 68) (s : State) : AnswersFirm s (execRunEnClear n s) := by simp [execRunEnClear]
theorem execMigrate_firm (v : ViaN) (s : State) : AnswersFirm s (execMigrate v s) := by
  unfold execMigrate
  (repeat' split) <;> simp
theorem execHaltClr_firm (v : ViaN) (s : State) : AnswersFirm s (execHaltClr v s) := by
  unfold execHaltClr
  (repeat' split) <;> simp
theorem execReinstate_firm (v : ViaN) (s : State) : AnswersFirm s (execReinstate v s) := by
  unfold execReinstate
  (repeat' split) <;> simp
theorem execEngRun_firm (c : CmdRef) (s : State) : AnswersFirm s (execEngRun c s) := by
  unfold execEngRun
  split <;> simp
theorem execEngHold_firm (c : CmdRef) (s : State) : AnswersFirm s (execEngHold c s) := by
  unfold execEngHold
  split <;> simp
theorem execEngStat_firm (c : CmdRef) (s : State) : AnswersFirm s (execEngStat c s) := by
  unfold execEngStat
  (repeat' split) <;> simp
theorem execDataRamHostWrite_firm (n : Fin 68) (k : Fin 16384) (w : Word) (s : State) : AnswersFirm s (execDataRamHostWrite n k w s) := by
  simp [execDataRamHostWrite]
theorem execFarFlush_firm (n : Fin 68) (s : State) : AnswersFirm s (execFarFlush n s) := by simp [execFarFlush]
theorem execMboxWrite_firm (v : MboxVia) (s : State) : AnswersFirm s (execMboxWrite v s) := by
  unfold execMboxWrite
  (repeat' split) <;> simp
theorem execMigrationCopyDone_firm (e : Fin 64) (s : State) : AnswersFirm s (execMigrationCopyDone e s) := by
  unfold execMigrationCopyDone
  split <;> simp

/-! ### The rows of Machine/Front -/

theorem execFrontArm_firm (v : Via) (s : State) : AnswersFirm s (execFrontArm v s) := by
  unfold execFrontArm
  (repeat' split) <;> simp
theorem execFrontCancel_firm (v : Via) (s : State) : AnswersFirm s (execFrontCancel v s) := by
  unfold execFrontCancel
  (repeat' split) <;> simp
theorem execFrontStat_firm (c : CmdRef) (s : State) : AnswersFirm s (execFrontStat c s) := by
  unfold execFrontStat
  split <;> simp
theorem execVerifyDone_firm (bad : List (BitVec 32 × Bool)) (s : State) : AnswersFirm s (execVerifyDone bad s) := by simp [execVerifyDone]
theorem execNotice_firm (m : LaneMsg) (seq : BitVec 16) (dir : Bool) (tf d : DWord) (part : BitVec 16) (s : State) :
    AnswersFirm s (execNotice m seq dir tf d part s) := by simp [execNotice]
theorem execNoticeExpiry_firm (st : Fin 16) (s : State) : AnswersFirm s (execNoticeExpiry st s) := by simp [execNoticeExpiry]
theorem execVoteClose_firm (s : State) : AnswersFirm s (execVoteClose s) := by simp [execVoteClose]
theorem execFrontCommit_firm (line : Bool) (s : State) : AnswersFirm s (execFrontCommit line s) := by simp [execFrontCommit]
theorem execDoneHoldEnd_firm (s : State) : AnswersFirm s (execDoneHoldEnd s) := by
  unfold execDoneHoldEnd
  split <;> simp
theorem execFront_firm (s : State) : AnswersFirm s (execFront s) := by simp [execFront]
theorem execFrontBack_firm (s : State) : AnswersFirm s (execFrontBack s) := by simp [execFrontBack]
theorem execQuietEnd_firm (s : State) : AnswersFirm s (execQuietEnd s) := by simp [execQuietEnd]
theorem execCrossingHoldEnd_firm (s : State) : AnswersFirm s (execCrossingHoldEnd s) := by simp [execCrossingHoldEnd]

/-! ### The rows of Machine/LinePower -/

theorem execAuxSet_firm (v : ViaN) (s : State) : AnswersFirm s (execAuxSet v s) := by
  unfold execAuxSet
  (repeat' split) <;> simp
theorem execAuxSoftStartDone_firm (k : Fin 8) (s : State) : AnswersFirm s (execAuxSoftStartDone k s) := by simp [execAuxSoftStartDone]
theorem execAuxStartTimeout_firm (k : Fin 8) (s : State) : AnswersFirm s (execAuxStartTimeout k s) := by simp [execAuxStartTimeout]
theorem execAuxFuseTrip_firm (k : Fin 8) (s : State) : AnswersFirm s (execAuxFuseTrip k s) := by simp [execAuxFuseTrip]
theorem execAuxBudgetCheck_firm (sum : Nat) (s : State) : AnswersFirm s (execAuxBudgetCheck sum s) := by
  unfold execAuxBudgetCheck
  split <;> simp
theorem execAuxStaggerOn_firm (s : State) : AnswersFirm s (execAuxStaggerOn s) := by
  unfold execAuxStaggerOn
  split <;> simp
theorem execSupplyWarning_firm (s : State) : AnswersFirm s (execSupplyWarning s) := by simp [execSupplyWarning]
theorem execClearLevelRise_firm (s : State) : AnswersFirm s (execClearLevelRise s) := by simp [execClearLevelRise]
theorem execClearLevelFall_firm (s : State) : AnswersFirm s (execClearLevelFall s) := by simp [execClearLevelFall]
theorem execWarningClear_firm (s : State) : AnswersFirm s (execWarningClear s) := by simp [execWarningClear]
theorem execPortPowerLoss_firm (p : Fin 2) (s : State) : AnswersFirm s (execPortPowerLoss p s) := by simp [execPortPowerLoss]
theorem execPortPowerReturn_firm (p : Fin 2) (s : State) : AnswersFirm s (execPortPowerReturn p s) := by simp [execPortPowerReturn]
theorem execPortOvervoltage_firm (p : Fin 2) (s : State) : AnswersFirm s (execPortOvervoltage p s) := by simp [execPortOvervoltage]
theorem execOvervoltageReconnect_firm (p : Fin 2) (s : State) : AnswersFirm s (execOvervoltageReconnect p s) := by
  simp [execOvervoltageReconnect]
theorem execIntakeCurrentLimit_firm (p : Fin 2) (s : State) : AnswersFirm s (execIntakeCurrentLimit p s) := by simp [execIntakeCurrentLimit]
theorem execPowerMeasure_firm (m : PowerSample) (s : State) : AnswersFirm s (execPowerMeasure m s) := by simp [execPowerMeasure]
theorem execThermalRead_firm (t : List (BitVec 16)) (s : State) : AnswersFirm s (execThermalRead t s) := by simp [execThermalRead]

/-! ### The rows of Machine/Tables -/

theorem execCtStart_firm (v : CtVia) (s : State) : AnswersFirm s (execCtStart v s) := by
  simp [execCtStart, State.ctOrder_firm]
theorem execCtStop_firm (v : CtVia) (s : State) : AnswersFirm s (execCtStop v s) := by
  simp [execCtStop, State.ctOrder_firm]
theorem execCtSwap_firm (v : CtVia) (s : State) : AnswersFirm s (execCtSwap v s) := by
  simp [execCtSwap, State.ctOrder_firm]
theorem execCtEntryPost_firm (t : Fin 16) (s : State) : AnswersFirm s (execCtEntryPost t s) := by
  unfold execCtEntryPost
  split <;> simp
theorem execCtStopBoundary_firm (t : Fin 16) (s : State) : AnswersFirm s (execCtStopBoundary t s) := by
  unfold execCtStopBoundary
  dsimp only
  (repeat' split) <;> simp
theorem execCtSwapBoundary_firm (t : Fin 16) (s : State) : AnswersFirm s (execCtSwapBoundary t s) := by
  unfold execCtSwapBoundary
  dsimp only
  (repeat' split) <;> simp
theorem execCtCopybackDone_firm (t : Fin 16) (s : State) : AnswersFirm s (execCtCopybackDone t s) := by simp [execCtCopybackDone]
theorem execCtPeriodBoundary_firm (t : Fin 16) (s : State) : AnswersFirm s (execCtPeriodBoundary t s) := by simp [execCtPeriodBoundary]
theorem execCtWrite_firm (c : CmdRef) (s : State) : AnswersFirm s (execCtWrite c s) := by
  unfold execCtWrite
  split <;> simp

/-! ### The rows of Machine/Sched -/

theorem execSchedulerTick_firm (s : State) : AnswersFirm s (execSchedulerTick s) := by simp [execSchedulerTick]
theorem execPostAccept_firm (s : State) : AnswersFirm s (execPostAccept s) := by
  unfold execPostAccept
  (repeat' split) <;> simp
theorem execPrewakeRequest_firm (s : State) : AnswersFirm s (execPrewakeRequest s) := by
  unfold execPrewakeRequest
  split <;> simp
theorem execActCancel_firm (v : Via) (s : State) : AnswersFirm s (execActCancel v s) := by
  unfold execActCancel
  (repeat' split) <;> simp
theorem execDriveLow_firm (p : Fin 1152) (s : State) : AnswersFirm s (execDriveLow p s) := by simp [execDriveLow]
theorem execDriveHigh_firm (p : Fin 1152) (s : State) : AnswersFirm s (execDriveHigh p s) := by simp [execDriveHigh]
theorem execToggle_firm (p : Fin 1152) (s : State) : AnswersFirm s (execToggle p s) := by simp [execToggle]
theorem execRelease_firm (p : Fin 1152) (s : State) : AnswersFirm s (execRelease p s) := by simp [execRelease]
theorem execPulseHigh_firm (p : Fin 1152) (s : State) : AnswersFirm s (execPulseHigh p s) := by simp [execPulseHigh]
theorem execPulseLow_firm (p : Fin 1152) (s : State) : AnswersFirm s (execPulseLow p s) := by simp [execPulseLow]
theorem execPulseTrailingEdge_firm (p : Fin 1152) (s : State) : AnswersFirm s (execPulseTrailingEdge p s) := by
  unfold execPulseTrailingEdge
  dsimp only
  (repeat' split) <;> simp
theorem execDisarm_firm (p : Fin 1152) (s : State) : AnswersFirm s (execDisarm p s) := by simp [execDisarm]
theorem execArmRise_firm (p : Fin 1152) (s : State) : AnswersFirm s (execArmRise p s) := by simp [execArmRise]
theorem execArmFall_firm (p : Fin 1152) (s : State) : AnswersFirm s (execArmFall p s) := by simp [execArmFall]
theorem execArmBoth_firm (p : Fin 1152) (s : State) : AnswersFirm s (execArmBoth p s) := by simp [execArmBoth]
theorem execWinRise_firm (p : Fin 1152) (s : State) : AnswersFirm s (execWinRise p s) := by simp [execWinRise]
theorem execWinFall_firm (p : Fin 1152) (s : State) : AnswersFirm s (execWinFall p s) := by simp [execWinFall]
theorem execWinBoth_firm (p : Fin 1152) (s : State) : AnswersFirm s (execWinBoth p s) := by simp [execWinBoth]
theorem execCaptureEdge_firm (p : Fin 1152) (ed : Edge) (q : Fin 40) (s : State) : AnswersFirm s (execCaptureEdge p ed q s) := by
  unfold execCaptureEdge
  dsimp only
  (repeat' split) <;> simp
theorem execWindowClose_firm (p : Fin 1152) (s : State) : AnswersFirm s (execWindowClose p s) := by
  unfold execWindowClose
  dsimp only
  (repeat' split) <;> simp
theorem execCapRead_firm (v : ReadVia) (s : State) : AnswersFirm s (execCapRead v s) := by
  unfold execCapRead
  (repeat' split) <;> simp
theorem execRaise_firm (n : Fin 16) (s : State) : AnswersFirm s (execRaise n s) := by simp [execRaise]
theorem execAdd_firm (n : Fin 16) (s : State) : AnswersFirm s (execAdd n s) := by simp [execAdd]
theorem execCountDown_firm (n : Fin 16) (s : State) : AnswersFirm s (execCountDown n s) := by simp [execCountDown]
theorem execLoad_firm (n : Fin 16) (s : State) : AnswersFirm s (execLoad n s) := by simp [execLoad]

/-! ### The rows of Machine/SelfTest -/

theorem execPassPeriodExpiry_firm (t : Fin 7) (s : State) : AnswersFirm s (execPassPeriodExpiry t s) := by simp [execPassPeriodExpiry]
theorem execDrizzleSliceStart_firm (t : Fin 7) (s : State) : AnswersFirm s (execDrizzleSliceStart t s) := by
  unfold execDrizzleSliceStart
  dsimp only
  (repeat' split) <;> simp
theorem execSliceEnd_firm (t : Fin 7) (pass : Bool) (addr : Word) (bit : Fin 128) (s : State) :
    AnswersFirm s (execSliceEnd t pass addr bit s) := by
  unfold execSliceEnd
  split <;> simp
theorem execTstReinstate_firm (w : Word) (s : State) : AnswersFirm s (execTstReinstate w s) := by simp [execTstReinstate]
theorem execJtagInstruction_firm (i : Byte) (s : State) : AnswersFirm s (execJtagInstruction i s) := by simp [execJtagInstruction]
theorem execTestLogicReset_firm (s : State) : AnswersFirm s (execTestLogicReset s) := by simp [execTestLogicReset]

/-! ### The rows of Machine/Startup -/

theorem execBaseLoad_firm (s : State) : AnswersFirm s (execBaseLoad s) := by
  unfold execBaseLoad
  dsimp only
  (repeat' split) <;> simp
theorem execTimeWaitExpiry_firm (s : State) : AnswersFirm s (execTimeWaitExpiry s) := by simp [execTimeWaitExpiry]
theorem execDoneReleasePoint_firm (s : State) : AnswersFirm s (execDoneReleasePoint s) := by simp [execDoneReleasePoint]
theorem execDoneSample_firm (line : Bool) (s : State) : AnswersFirm s (execDoneSample line s) := by simp [execDoneSample]
theorem execThaw_firm (s : State) : AnswersFirm s (execThaw s) := by
  unfold execThaw
  split <;> simp
theorem execServiceEnter_firm (c : CmdRef) (s : State) : AnswersFirm s (execServiceEnter c s) := by
  unfold execServiceEnter
  split <;> simp
theorem execStartupWrite_firm (c : CmdRef) (s : State) : AnswersFirm s (execStartupWrite c s) := by
  unfold execStartupWrite
  split <;> simp

/-! ### The rows of Machine/Trunk -/

theorem execPeerDelayExchange_firm (p : Fin 2) (delay : Word) (s : State) : AnswersFirm s (execPeerDelayExchange p delay s) := by
  simp [execPeerDelayExchange]
theorem execPdelayReqInterval_firm (p : Fin 2) (s : State) : AnswersFirm s (execPdelayReqInterval p s) := by simp [execPdelayReqInterval]
theorem execLinkUp_firm (p : Fin 2) (s : State) : AnswersFirm s (execLinkUp p s) := by simp [execLinkUp]
theorem execLinkDown_firm (p : Fin 2) (s : State) : AnswersFirm s (execLinkDown p s) := by simp [execLinkDown]
theorem execWakeFrame_firm (p : Fin 2) (f : List Byte) (s : State) : AnswersFirm s (execWakeFrame p f s) := by simp [execWakeFrame]
theorem execLineEnergy_firm (p : Fin 2) (s : State) : AnswersFirm s (execLineEnergy p s) := by simp [execLineEnergy]
theorem execFrameTransmit_firm (p : Fin 2) (s : State) : AnswersFirm s (execFrameTransmit p s) := by
  unfold execFrameTransmit
  split <;> simp
theorem execGclChange_firm (p : Fin 2) (w : Word) (s : State) : AnswersFirm s (execGclChange p w s) := by simp [execGclChange]
theorem execGclChangeBoundary_firm (p : Fin 2) (s : State) : AnswersFirm s (execGclChangeBoundary p s) := by
  unfold execGclChangeBoundary
  dsimp only
  (repeat' split) <;> simp
theorem execGateIntervalEnd_firm (p : Fin 2) (s : State) : AnswersFirm s (execGateIntervalEnd p s) := by simp [execGateIntervalEnd]
theorem execFrameReceive_firm (p : Fin 2) (f : List Byte) (good : Bool) (s : State) : AnswersFirm s (execFrameReceive p f good s) := by
  simp [execFrameReceive]
theorem execRecoveryReset_firm (i : Fin 64) (s : State) : AnswersFirm s (execRecoveryReset i s) := by simp [execRecoveryReset]
theorem execLatentErrorTest_firm (s : State) : AnswersFirm s (execLatentErrorTest s) := by simp [execLatentErrorTest]

/-! ### The rows of Machine/RegAccess -/

theorem execRegisterWrite_firm (a : Word) (w : Word) (s : State) : AnswersFirm s (execRegisterWrite a w s) := by simp [execRegisterWrite]
theorem execReadClear_firm (a : Word) (s : State) : AnswersFirm s (execReadClear a s) := by
  unfold execReadClear
  split <;> simp
theorem execEvtRouteWrite_firm (a : Word) (w : Word) (s : State) : AnswersFirm s (execEvtRouteWrite a w s) := by
  unfold execEvtRouteWrite
  split <;> simp
theorem execCauseClear_firm (ev : Fin 320) (w : Word) (s : State) : AnswersFirm s (execCauseClear ev w s) := by
  unfold execCauseClear
  split <;> simp
theorem execSubscriptionSignal_firm (s : State) : AnswersFirm s (execSubscriptionSignal s) := by
  unfold execSubscriptionSignal
  (repeat' split) <;> simp

/-! ### The rows of Machine/Cmd -/

theorem execSessionTimeout_firm (k : Fin 4) (s : State) : AnswersFirm s (execSessionTimeout k s) := by simp [execSessionTimeout]
theorem execOpeningTimeout_firm (k : Fin 4) (s : State) : AnswersFirm s (execOpeningTimeout k s) := by simp [execOpeningTimeout]
theorem execCommand_firm (s : State) : AnswersFirm s (execCommand s) := by
  unfold execCommand
  split <;> simp
theorem execRunCommandStart_firm (c : CmdRef) (s : State) : AnswersFirm s (execRunCommandStart c s) := by
  unfold execRunCommandStart
  (repeat' split) <;> simp
theorem execSvcWrite_firm (b : List Byte) (s : State) : AnswersFirm s (execSvcWrite b s) := by simp [execSvcWrite]
theorem execSvcRead_firm (s : State) : AnswersFirm s (execSvcRead s) := by
  unfold execSvcRead
  (repeat' split) <;> simp
theorem execSvcStatus_firm (s : State) : AnswersFirm s (execSvcStatus s) := by simp [execSvcStatus]
theorem execEventReport_firm (k : Fin 4) (s : State) : AnswersFirm s (execEventReport k s) := by
  unfold execEventReport
  dsimp only
  (repeat' split) <;> simp

/-! ### The rows of Machine/CmdRows -/

theorem execIdentify_firm (c : CmdRef) (s : State) : AnswersFirm s (execIdentify c s) := by
  unfold execIdentify
  split <;> simp
theorem execSessionOpen_firm (c : CmdRef) (s : State) : AnswersFirm s (execSessionOpen c s) := by
  unfold execSessionOpen
  dsimp only
  (repeat' split) <;> simp
theorem execSessionClose_firm (c : CmdRef) (s : State) : AnswersFirm s (execSessionClose c s) := by
  unfold execSessionClose
  (repeat' split) <;> simp
theorem execPing_firm (c : CmdRef) (s : State) : AnswersFirm s (execPing c s) := by
  unfold execPing
  split <;> simp
theorem execRegRead_firm (c : CmdRef) (ecc : List Ecc) (s : State) : AnswersFirm s (execRegRead c ecc s) := by
  unfold execRegRead
  dsimp only
  (repeat' split) <;> simp
  all_goals
    rename_i h
    exact (congrArg (fun r => r.1.firm) h).symm.trans (s.readWords_firm _ _ _ _ _ rfl)
theorem execRegWrite_firm (c : CmdRef) (s : State) : AnswersFirm s (execRegWrite c s) := by
  unfold execRegWrite
  split <;> simp
theorem execRegRmw_firm (c : CmdRef) (ecc : Ecc) (s : State) : AnswersFirm s (execRegRmw c ecc s) := by
  unfold execRegRmw
  split <;> simp
theorem execActPost_firm (c : CmdRef) (s : State) : AnswersFirm s (execActPost c s) := by
  unfold execActPost
  split <;> simp
theorem execTimeRead_firm (c : CmdRef) (s : State) : AnswersFirm s (execTimeRead c s) := by
  unfold execTimeRead
  split <;> simp
theorem execPwrStat_firm (c : CmdRef) (s : State) : AnswersFirm s (execPwrStat c s) := by
  unfold execPwrStat
  split <;> simp
theorem execEvtSubscribe_firm (c : CmdRef) (s : State) : AnswersFirm s (execEvtSubscribe c s) := by
  unfold execEvtSubscribe
  (repeat' split) <;> simp
theorem execEvtRead_firm (c : CmdRef) (s : State) : AnswersFirm s (execEvtRead c s) := by
  unfold execEvtRead
  split <;> simp
theorem execEvtAck_firm (c : CmdRef) (s : State) : AnswersFirm s (execEvtAck c s) := by
  unfold execEvtAck
  dsimp only
  (repeat' split) <;> simp
theorem execLeaseAcquire_firm (c : CmdRef) (s : State) : AnswersFirm s (execLeaseAcquire c s) := by
  unfold execLeaseAcquire
  (repeat' split) <;> simp
theorem execLeaseRenew_firm (c : CmdRef) (s : State) : AnswersFirm s (execLeaseRenew c s) := by
  unfold execLeaseRenew
  split <;> simp
theorem execLeaseRelease_firm (c : CmdRef) (s : State) : AnswersFirm s (execLeaseRelease c s) := by
  unfold execLeaseRelease
  split <;> simp
theorem execLeaseStat_firm (c : CmdRef) (s : State) : AnswersFirm s (execLeaseStat c s) := by
  unfold execLeaseStat
  split <;> simp
theorem execHold_firm (c : CmdRef) (s : State) : AnswersFirm s (execHold c s) := by
  unfold execHold
  split <;> simp
theorem execStop_firm (c : CmdRef) (s : State) : AnswersFirm s (execStop c s) := by
  unfold execStop
  split <;> simp
theorem execLeaseLapse_firm (s : State) : AnswersFirm s (execLeaseLapse s) := by
  unfold execLeaseLapse
  split <;> simp
theorem execFwBegin_firm (c : CmdRef) (s : State) : AnswersFirm s (execFwBegin c s) := by
  unfold execFwBegin
  split <;> simp
theorem execFwData_firm (c : CmdRef) (s : State) : AnswersFirm s (execFwData c s) := by
  unfold execFwData
  (repeat' split) <;> simp
theorem execFwDataGap_firm (s : State) : AnswersFirm s (execFwDataGap s) := by
  unfold execFwDataGap
  split <;> simp
theorem execFwEnd_firm (c : CmdRef) (ok : Bool) (s : State) : AnswersFirm s (execFwEnd c ok s) := by
  unfold execFwEnd
  (repeat' split) <;> simp
theorem execTestUnlock_firm (c : CmdRef) (s : State) : AnswersFirm s (execTestUnlock c s) := by
  unfold execTestUnlock
  split <;> simp

/-! ### VAULT_PROV -/

/-- Provisioning only adds to the vault and the eFuses. -/
theorem State.provision_keepsVault (s : State) (kind i : Nat) (v : List Byte) : KeepsVault s (.next (s.provision kind i v).1) := by
  obtain ⟨hk, hw, hp⟩ := s.provision_kept kind i v
  exact ⟨_, rfl, hp, hk, hw⟩

/-- VAULT_PROV provisions, and its reply leaves the vault and the eFuses. -/
theorem execVaultProv_keepsVault (c : CmdRef) (s : State) : KeepsVault s (execVaultProv c s) := by
  have same : ∀ t : State, t.firm = s.firm → KeepsVault s (.next t) := fun t ht => ((answersFirm_next s t).2 ht).keepsVault
  unfold execVaultProv
  split
  · exact same s rfl
  · rename_i x _
    exact keepsVault_ite (same _ (by simp)) <| keepsVault_ite (same _ (by simp)) <| keepsVault_ite (same _ (by simp)) <|
      keepsVault_next_of_firm (s.provision_keepsVault (beAt x.payload 0 1) (beAt x.payload 1 1) (x.payload.drop 2)) (by simp)

/-! ### Every row -/

/-- Every other row leaves the queue, the vault and the eFuses as they are. -/
theorem exec_firm : ∀ (c : Instr) (s : State), (∀ r, c ≠ .vaultProv r) → AnswersFirm s (exec c s)
  | .schedulerTick, _, _ => execSchedulerTick_firm ..
  | .postAccept, _, _ => execPostAccept_firm ..
  | .prewakeRequest, _, _ => execPrewakeRequest_firm ..
  | .actCancel .., _, _ => execActCancel_firm ..
  | .driveLow .., _, _ => execDriveLow_firm ..
  | .driveHigh .., _, _ => execDriveHigh_firm ..
  | .toggle .., _, _ => execToggle_firm ..
  | .release .., _, _ => execRelease_firm ..
  | .pulseHigh .., _, _ => execPulseHigh_firm ..
  | .pulseLow .., _, _ => execPulseLow_firm ..
  | .pulseTrailingEdge .., _, _ => execPulseTrailingEdge_firm ..
  | .cycle .., _, _ => execCycle_firm ..
  | .signal .., _, _ => execSignal_firm ..
  | .strobe .., _, _ => execStrobe_firm ..
  | .disarm .., _, _ => execDisarm_firm ..
  | .armRise .., _, _ => execArmRise_firm ..
  | .armFall .., _, _ => execArmFall_firm ..
  | .armBoth .., _, _ => execArmBoth_firm ..
  | .winRise .., _, _ => execWinRise_firm ..
  | .winFall .., _, _ => execWinFall_firm ..
  | .winBoth .., _, _ => execWinBoth_firm ..
  | .captureEdge .., _, _ => execCaptureEdge_firm ..
  | .windowClose .., _, _ => execWindowClose_firm ..
  | .capRead .., _, _ => execCapRead_firm ..
  | .convert .., _, _ => execConvert_firm ..
  | .sequence .., _, _ => execSequence_firm ..
  | .adcResult .., _, _ => execAdcResult_firm ..
  | .ctStart .., _, _ => execCtStart_firm ..
  | .ctStop .., _, _ => execCtStop_firm ..
  | .ctSwap .., _, _ => execCtSwap_firm ..
  | .ctEntryPost .., _, _ => execCtEntryPost_firm ..
  | .ctStopBoundary .., _, _ => execCtStopBoundary_firm ..
  | .ctSwapBoundary .., _, _ => execCtSwapBoundary_firm ..
  | .ctCopybackDone .., _, _ => execCtCopybackDone_firm ..
  | .ctWrite .., _, _ => execCtWrite_firm ..
  | .raise .., _, _ => execRaise_firm ..
  | .add .., _, _ => execAdd_firm ..
  | .countDown .., _, _ => execCountDown_firm ..
  | .load .., _, _ => execLoad_firm ..
  | .action .., _, _ => execAction_firm ..
  | .front, _, _ => execFront_firm ..
  | .frontBack, _, _ => execFrontBack_firm ..
  | .holdover, _, _ => execHoldover_firm ..
  | .clkTbCtlWrite .., _, _ => execClkTbCtlWrite_firm ..
  | .timeStep .., _, _ => execTimeStep_firm ..
  | .timeStepApply, _, _ => execTimeStepApply_firm ..
  | .resFail .., _, _ => execResFail_firm ..
  | .lossOfLock .., _, _ => execLossOfLock_firm ..
  | .lockComplete .., _, _ => execLockComplete_firm ..
  | .timeWaitExpiry, _, _ => execTimeWaitExpiry_firm ..
  | .adpllEnable .., _, _ => execAdpllEnable_firm ..
  | .relock .., _, _ => execRelock_firm ..
  | .fcwWrite .., _, _ => execFcwWrite_firm ..
  | .slewDone .., _, _ => execSlewDone_firm ..
  | .outputCtlWrite .., _, _ => execOutputCtlWrite_firm ..
  | .gclkSrcWrite .., _, _ => execGclkSrcWrite_firm ..
  | .runEnClear .., _, _ => execRunEnClear_firm ..
  | .lockstepMismatch .., _, _ => execLockstepMismatch_firm ..
  | .migrationCopyDone .., _, _ => execMigrationCopyDone_firm ..
  | .migrate .., _, _ => execMigrate_firm ..
  | .haltClr .., _, _ => execHaltClr_firm ..
  | .reinstate .., _, _ => execReinstate_firm ..
  | .engineWatchdog .., _, _ => execEngineWatchdog_firm ..
  | .dataRamHostWrite .., _, _ => execDataRamHostWrite_firm ..
  | .mboxWrite .., _, _ => execMboxWrite_firm ..
  | .farFlush .., _, _ => execFarFlush_firm ..
  | .farLineFill .., _, _ => execFarLineFill_firm ..
  | .effectStatusReturn .., _, _ => execEffectStatusReturn_firm ..
  | .drainTimeout .., _, _ => execDrainTimeout_firm ..
  | .waitTimeout .., _, _ => execWaitTimeout_firm ..
  | .waittWake .., _, _ => execWaittWake_firm ..
  | .bpAck .., _, _ => execBpAck_firm ..
  | .bpTimeout .., _, _ => execBpTimeout_firm ..
  | .alu .., _, _ => execAlu_firm ..
  | .addi .., _, _ => execAddi_firm ..
  | .andi .., _, _ => execAndi_firm ..
  | .ori .., _, _ => execOri_firm ..
  | .xori .., _, _ => execXori_firm ..
  | .shi .., _, _ => execShi_firm ..
  | .ldi .., _, _ => execLdi_firm ..
  | .insh .., _, _ => execInsh_firm ..
  | .cmpi .., _, _ => execCmpi_firm ..
  | .nop .., _, _ => execNop_firm ..
  | .fpu .., _, _ => execFpu_firm ..
  | .fma .., _, _ => execFma_firm ..
  | .ld .., _, _ => execLd_firm ..
  | .ldw .., _, _ => execLdw_firm ..
  | .ldws .., _, _ => execLdws_firm ..
  | .st .., _, _ => execSt_firm ..
  | .stw .., _, _ => execStw_firm ..
  | .bcc .., _, _ => execBcc_firm ..
  | .jmp .., _, _ => execJmp_firm ..
  | .call .., _, _ => execCall_firm ..
  | .jr .., _, _ => execJr_firm ..
  | .ret .., _, _ => execRet_firm ..
  | .fret .., _, _ => execFret_firm ..
  | .fcall .., _, _ => execFcall_firm ..
  | .post .., _, _ => execPost_firm ..
  | .cancel .., _, _ => execCancel_firm ..
  | .waitt .., _, _ => execWaitt_firm ..
  | .waitf .., _, _ => execWaitf_firm ..
  | .tfclr .., _, _ => execTfclr_firm ..
  | .send .., _, _ => execSend_firm ..
  | .recv .., _, _ => execRecv_firm ..
  | .peek .., _, _ => execPeek_firm ..
  | .recvm .., _, _ => execRecvm_firm ..
  | .bprd .., _, _ => execBprd_firm ..
  | .bpwr .., _, _ => execBpwr_firm ..
  | .uwr .., _, _ => execUwr_firm ..
  | .urd .., _, _ => execUrd_firm ..
  | .trjGo .., _, _ => execTrjGo_firm ..
  | .trjStop .., _, _ => execTrjStop_firm ..
  | .qstop .., _, _ => execQstop_firm ..
  | .trjStep .., _, _ => execTrjStep_firm ..
  | .engage .., _, _ => execEngage_firm ..
  | .disengage .., _, _ => execDisengage_firm ..
  | .camStep .., _, _ => execCamStep_firm ..
  | .vmset .., _, _ => execVmset_firm ..
  | .loopReset .., _, _ => execLoopReset_firm ..
  | .biqReset .., _, _ => execBiqReset_firm ..
  | .apply .., _, _ => execApply_firm ..
  | .pwmWriteApply .., _, _ => execPwmWriteApply_firm ..
  | .cami .., _, _ => execCami_firm ..
  | .loopx .., _, _ => execLoopx_firm ..
  | .biqx .., _, _ => execBiqx_firm ..
  | .limx .., _, _ => execLimx_firm ..
  | .mfs .., _, _ => execMfs_firm ..
  | .mts .., _, _ => execMts_firm ..
  | .cend .., _, _ => execCend_firm ..
  | .prelog .., _, _ => execPrelog_firm ..
  | .ckhNoretry .., _, _ => execCkhNoretry_firm ..
  | .logfree .., _, _ => execLogfree_firm ..
  | .rqNvRead .., _, _ => execRqNvRead_firm ..
  | .rqNvProgram .., _, _ => execRqNvProgram_firm ..
  | .rqNvErase .., _, _ => execRqNvErase_firm ..
  | .rqPrmRead .., _, _ => execRqPrmRead_firm ..
  | .rqPrmWrite .., _, _ => execRqPrmWrite_firm ..
  | .rqTrunkTransmit .., _, _ => execRqTrunkTransmit_firm ..
  | .quadratureCount .., _, _ => execQuadratureCount_firm ..
  | .indexEdge .., _, _ => execIndexEdge_firm ..
  | .ssiFrameEnd .., _, _ => execSsiFrameEnd_firm ..
  | .dsSample .., _, _ => execDsSample_firm ..
  | .dsClklost .., _, _ => execDsClklost_firm ..
  | .contention .., _, _ => execContention_firm ..
  | .scrubRewriteDone .., _, _ => execScrubRewriteDone_firm ..
  | .fabricCancel .., _, _ => execFabricCancel_firm ..
  | .fabricMboxWrite .., _, _ => execFabricMboxWrite_firm ..
  | .fabricRequest .., _, _ => execFabricRequest_firm ..
  | .eventPortPulse .., _, _ => execEventPortPulse_firm ..
  | .prbPinWrite .., _, _ => execPrbPinWrite_firm ..
  | .trcArm .., _, _ => execTrcArm_firm ..
  | .trcStop .., _, _ => execTrcStop_firm ..
  | .trcForce .., _, _ => execTrcForce_firm ..
  | .traceTrigger, _, _ => execTraceTrigger_firm ..
  | .traceDone, _, _ => execTraceDone_firm ..
  | .trcRead .., _, _ => execTrcRead_firm ..
  | .bramEccError .., _, _ => execBramEccError_firm ..
  | .memSweepRead .., _, _ => execMemSweepRead_firm ..
  | .residueMismatch .., _, _ => execResidueMismatch_firm ..
  | .memMove .., _, _ => execMemMove_firm ..
  | .memReturn .., _, _ => execMemReturn_firm ..
  | .bramCopyDone .., _, _ => execBramCopyDone_firm ..
  | .bramInitDone .., _, _ => execBramInitDone_firm ..
  | .stagingGo .., _, _ => execStagingGo_firm ..
  | .imageHeader, _, _ => execImageHeader_firm ..
  | .frame .., _, _ => execFrame_firm ..
  | .stgBegin .., _, _ => execStgBegin_firm ..
  | .stgData .., _, _ => execStgData_firm ..
  | .stgEnd .., _, _ => execStgEnd_firm ..
  | .stgAbort .., _, _ => execStgAbort_firm ..
  | .hostStreamGap, _, _ => execHostStreamGap_firm ..
  | .slotErase .., _, _ => execSlotErase_firm ..
  | .slotEraseDone .., _, _ => execSlotEraseDone_firm ..
  | .slotStat .., _, _ => execSlotStat_firm ..
  | .serviceEnter .., _, _ => execServiceEnter_firm ..
  | .scrubRead .., _, _ => execScrubRead_firm ..
  | .bcast .., _, _ => execBcast_firm ..
  | .frontArm .., _, _ => execFrontArm_firm ..
  | .frontCancel .., _, _ => execFrontCancel_firm ..
  | .frontStat .., _, _ => execFrontStat_firm ..
  | .verifyDone .., _, _ => execVerifyDone_firm ..
  | .notice .., _, _ => execNotice_firm ..
  | .noticeExpiry .., _, _ => execNoticeExpiry_firm ..
  | .voteClose, _, _ => execVoteClose_firm ..
  | .frontCommit .., _, _ => execFrontCommit_firm ..
  | .doneHoldEnd, _, _ => execDoneHoldEnd_firm ..
  | .quietEnd, _, _ => execQuietEnd_firm ..
  | .crossingHoldEnd, _, _ => execCrossingHoldEnd_firm ..
  | .powerUp .., _, _ => execPowerUp_firm ..
  | .baseLoad, _, _ => execBaseLoad_firm ..
  | .resetNAssert, _, _ => execResetNAssert_firm ..
  | .resetNRelease, _, _ => execResetNRelease_firm ..
  | .coldReset .., _, _ => execColdReset_firm ..
  | .warmReset .., _, _ => execWarmReset_firm ..
  | .managementWatchdog, _, _ => execManagementWatchdog_firm ..
  | .doneReleasePoint, _, _ => execDoneReleasePoint_firm ..
  | .doneSample .., _, _ => execDoneSample_firm ..
  | .thaw, _, _ => execThaw_firm ..
  | .supplyBelowReset, _, _ => execSupplyBelowReset_firm ..
  | .gaspSectorErase, _, _ => execGaspSectorErase_firm ..
  | .startupWrite .., _, _ => execStartupWrite_firm ..
  | .keyInsertion .., _, _ => execKeyInsertion_firm ..
  | .keyRemoval, _, _ => execKeyRemoval_firm ..
  | .keyDiscovery, _, _ => execKeyDiscovery_firm ..
  | .keyVoltageRetry, _, _ => execKeyVoltageRetry_firm ..
  | .keyOvercurrent, _, _ => execKeyOvercurrent_firm ..
  | .keySelect .., _, _ => execKeySelect_firm ..
  | .keyRescan .., _, _ => execKeyRescan_firm ..
  | .keyStat .., _, _ => execKeyStat_firm ..
  | .keyRead .., _, _ => execKeyRead_firm ..
  | .settingsLoad .., _, _ => execSettingsLoad_firm ..
  | .keyWb .., _, _ => execKeyWb_firm ..
  | .wbPeriodExpiry .., _, _ => execWbPeriodExpiry_firm ..
  | .prmWindowWrite .., _, _ => execPrmWindowWrite_firm ..
  | .prmRead .., _, _ => execPrmRead_firm ..
  | .prmWrite .., _, _ => execPrmWrite_firm ..
  | .nvProgram .., _, _ => execNvProgram_firm ..
  | .nvErase .., _, _ => execNvErase_firm ..
  | .nvSuspend .., _, _ => execNvSuspend_firm ..
  | .nvResume .., _, _ => execNvResume_firm ..
  | .nvRead .., _, _ => execNvRead_firm ..
  | .nvStat .., _, _ => execNvStat_firm ..
  | .nvWindowRead .., _, _ => execNvWindowRead_firm ..
  | .nvWindowWrite k w, s, _ => execNvWindowWrite_firm k w s
  | .nvProgramStep .., _, _ => execNvProgramStep_firm ..
  | .nvErasePulse .., _, _ => execNvErasePulse_firm ..
  | .nvResumeIdle, _, _ => execNvResumeIdle_firm ..
  | .frameReceive .., _, _ => execFrameReceive_firm ..
  | .peerDelayExchange .., _, _ => execPeerDelayExchange_firm ..
  | .linkUp .., _, _ => execLinkUp_firm ..
  | .linkDown .., _, _ => execLinkDown_firm ..
  | .gclChange .., _, _ => execGclChange_firm ..
  | .gclChangeBoundary .., _, _ => execGclChangeBoundary_firm ..
  | .gateIntervalEnd .., _, _ => execGateIntervalEnd_firm ..
  | .frameTransmit .., _, _ => execFrameTransmit_firm ..
  | .recoveryReset .., _, _ => execRecoveryReset_firm ..
  | .latentErrorTest, _, _ => execLatentErrorTest_firm ..
  | .wakeFrame .., _, _ => execWakeFrame_firm ..
  | .lineEnergy .., _, _ => execLineEnergy_firm ..
  | .hello .., _, _ => execHello_firm ..
  | .time .., _, _ => execTime_firm ..
  | .delayReq .., _, _ => execDelayReq_firm ..
  | .delayResp .., _, _ => execDelayResp_firm ..
  | .delayMeasureTimer .., _, _ => execDelayMeasureTimer_firm ..
  | .timeSendTimer, _, _ => execTimeSendTimer_firm ..
  | .laneDown .., _, _ => execLaneDown_firm ..
  | .command, _, _ => execCommand_firm ..
  | .runCommandStart .., _, _ => execRunCommandStart_firm ..
  | .svcWrite .., _, _ => execSvcWrite_firm ..
  | .svcRead, _, _ => execSvcRead_firm ..
  | .svcStatus, _, _ => execSvcStatus_firm ..
  | .sessionTimeout .., _, _ => execSessionTimeout_firm ..
  | .openingTimeout .., _, _ => execOpeningTimeout_firm ..
  | .leaseLapse, _, _ => execLeaseLapse_firm ..
  | .eventReport .., _, _ => execEventReport_firm ..
  | .identify .., _, _ => execIdentify_firm ..
  | .sessionOpen .., _, _ => execSessionOpen_firm ..
  | .sessionClose .., _, _ => execSessionClose_firm ..
  | .ping .., _, _ => execPing_firm ..
  | .regRead .., _, _ => execRegRead_firm ..
  | .regWrite .., _, _ => execRegWrite_firm ..
  | .regRmw .., _, _ => execRegRmw_firm ..
  | .actPost .., _, _ => execActPost_firm ..
  | .timeRead .., _, _ => execTimeRead_firm ..
  | .pwrStat .., _, _ => execPwrStat_firm ..
  | .auxSet .., _, _ => execAuxSet_firm ..
  | .evtSubscribe .., _, _ => execEvtSubscribe_firm ..
  | .evtRead .., _, _ => execEvtRead_firm ..
  | .evtAck .., _, _ => execEvtAck_firm ..
  | .engRun .., _, _ => execEngRun_firm ..
  | .engHold .., _, _ => execEngHold_firm ..
  | .engStat .., _, _ => execEngStat_firm ..
  | .leaseAcquire .., _, _ => execLeaseAcquire_firm ..
  | .leaseRenew .., _, _ => execLeaseRenew_firm ..
  | .leaseRelease .., _, _ => execLeaseRelease_firm ..
  | .leaseStat .., _, _ => execLeaseStat_firm ..
  | .hold .., _, _ => execHold_firm ..
  | .stop .., _, _ => execStop_firm ..
  | .vaultProv r, _, h => absurd rfl (h r)
  | .fwBegin .., _, _ => execFwBegin_firm ..
  | .fwData .., _, _ => execFwData_firm ..
  | .fwDataGap, _, _ => execFwDataGap_firm ..
  | .fwEnd .., _, _ => execFwEnd_firm ..
  | .testUnlock .., _, _ => execTestUnlock_firm ..
  | .grantDecision .., _, _ => execGrantDecision_firm ..
  | .backoffExpiry .., _, _ => execBackoffExpiry_firm ..
  | .beatComplete .., _, _ => execBeatComplete_firm ..
  | .lockGapExpiry .., _, _ => execLockGapExpiry_firm ..
  | .arbModeWrite .., _, _ => execArbModeWrite_firm ..
  | .domReqOn .., _, _ => execDomReqOn_firm ..
  | .domReqRet .., _, _ => execDomReqRet_firm ..
  | .domReqOff .., _, _ => execDomReqOff_firm ..
  | .domainReset .., _, _ => execDomainReset_firm ..
  | .idleTimeout .., _, _ => execIdleTimeout_firm ..
  | .wakeRequest .., _, _ => execWakeRequest_firm ..
  | .entryDone .., _, _ => execEntryDone_firm ..
  | .wakeDone .., _, _ => execWakeDone_firm ..
  | .coldRestoreDone .., _, _ => execColdRestoreDone_firm ..
  | .supplyWarning, _, _ => execSupplyWarning_firm ..
  | .clearLevelRise, _, _ => execClearLevelRise_firm ..
  | .warningClear, _, _ => execWarningClear_firm ..
  | .portPowerLoss .., _, _ => execPortPowerLoss_firm ..
  | .portPowerReturn .., _, _ => execPortPowerReturn_firm ..
  | .portOvervoltage .., _, _ => execPortOvervoltage_firm ..
  | .overvoltageReconnect .., _, _ => execOvervoltageReconnect_firm ..
  | .intakeCurrentLimit .., _, _ => execIntakeCurrentLimit_firm ..
  | .powerMeasure .., _, _ => execPowerMeasure_firm ..
  | .auxSoftStartDone .., _, _ => execAuxSoftStartDone_firm ..
  | .auxStartTimeout .., _, _ => execAuxStartTimeout_firm ..
  | .auxFuseTrip .., _, _ => execAuxFuseTrip_firm ..
  | .auxBudgetCheck .., _, _ => execAuxBudgetCheck_firm ..
  | .auxStaggerOn, _, _ => execAuxStaggerOn_firm ..
  | .thermalRead .., _, _ => execThermalRead_firm ..
  | .drizzleSliceStart .., _, _ => execDrizzleSliceStart_firm ..
  | .sliceEnd .., _, _ => execSliceEnd_firm ..
  | .passPeriodExpiry .., _, _ => execPassPeriodExpiry_firm ..
  | .tstReinstate .., _, _ => execTstReinstate_firm ..
  | .jtagInstruction .., _, _ => execJtagInstruction_firm ..
  | .testLogicReset, _, _ => execTestLogicReset_firm ..
  | .causeClear .., _, _ => execCauseClear_firm ..
  | .subscriptionSignal, _, _ => execSubscriptionSignal_firm ..
  | .evtRouteWrite .., _, _ => execEvtRouteWrite_firm ..
  | .readClear .., _, _ => execReadClear_firm ..
  | .registerWrite .., _, _ => execRegisterWrite_firm ..
  | .fabricPost .., _, _ => execFabricPost_firm ..
  | .samplingEdge .., _, _ => execSamplingEdge_firm ..
  | .eraseSegmentEnd, _, _ => execEraseSegmentEnd_firm ..
  | .pdelayReqInterval .., _, _ => execPdelayReqInterval_firm ..
  | .laneUp .., _, _ => execLaneUp_firm ..
  | .clearLevelFall, _, _ => execClearLevelFall_firm ..
  | .ctPeriodBoundary .., _, _ => execCtPeriodBoundary_firm ..
  | .pwmEdge .., _, _ => execPwmEdge_firm ..
  | .longWait .., _, _ => execLongWait_firm ..

/-- No row loses anything of the vault. -/
theorem exec_keepsVault (c : Instr) (s : State) : KeepsVault s (exec c s) := by
  by_cases h : ∃ r, c = .vaultProv r
  · obtain ⟨r, rfl⟩ := h
    exact execVaultProv_keepsVault r s
  · exact (exec_firm c s (not_exists.1 h)).keepsVault

/-- Settles O3: a step is a row's answer to the queue's front, or nothing. -/
theorem vaultOnlyGains : Obligations.VaultOnlyGains := by
  intro s t h
  unfold step at h
  split at h
  · cases h
    exact ⟨vaultKept_refl s, id⟩
  · rename_i c l _
    obtain ⟨u, hu, _, hk, hw⟩ := exec_keepsVault c { s with pending := l }
    rw [hu] at h
    cases h
    exact ⟨hk, hw⟩

end Sys2Proof.Machine
end

section
/-!
PROOF. What the header, the frames and the broadcast chunks of an image under way do (R256–R259, R264, R370, R375), case by case,
and the obligation ImagesUnderWay.
-/
namespace Sys2Proof.Machine

/-! ### What runs for each command -/

theorem exec_imageHeader (s : State) : exec .imageHeader s = execImageHeader s := rfl
theorem exec_frame (wr : Bool) (s : State) : exec (.frame wr) s = execFrame wr s := rfl
theorem exec_bcast (m : LaneMsg) (first last : Bool) (words : List DWord) (s : State) :
    exec (.bcast m first last words) s = execBcast m first last words s := rfl

/-- A header that is there is not the empty one. -/
theorem isEmpty_eq_false_of_ne_nil {h : Header} (hh : h ≠ []) : List.isEmpty h = false :=
  Bool.eq_false_iff.2 (mt List.isEmpty_iff.1 hh)

/-! ### IMAGE_HEADER (R256, R263) -/

section ImageHeader
variable {s : State} {g : Staging} {h : List Byte}

theorem exec_imageHeader_awaited (hg : s.cfg.staging = some g) (hh : g.header = []) (hw : s.warned = false) :
    exec .imageHeader s = .next (s.headerStep g) := by
  simp only [exec_imageHeader, execImageHeader, hg, hh, hw]
  rfl

theorem exec_imageHeader_not (h : s.cfg.staging = none ∨ s.warned = true ∨ ∃ g, s.cfg.staging = some g ∧ g.header ≠ []) :
    exec .imageHeader s = .next s := by
  rw [exec_imageHeader, execImageHeader]
  split
  · next g hg =>
    refine if_neg ?_
    rw [Bool.and_eq_true, Bool.not_eq_true']
    rintro ⟨he, hw⟩
    obtain h | h | ⟨g', h, hh⟩ := h
    · cases hg.symm.trans h
    · exact absurd (h.symm.trans hw) (by decide)
    · cases hg.symm.trans h
      exact hh (List.isEmpty_iff.1 he)
  · rfl

theorem State.headerStep_waits (hb : s.nextBytes g 4096 = none) : s.headerStep g = s := by
  simp only [State.headerStep, hb]

theorem State.headerStep_short (hb : s.nextBytes g 4096 = some h) (hl : h.length < 4096) : s.headerStep g = s.endLoad 22 0 := by
  simp only [State.headerStep, hb, if_pos hl]

section Whole
variable (hb : s.nextBytes g 4096 = some h) (hl : 4096 ≤ h.length)
include hb hl

/-- A second image of an entry for this station is refused (R264). -/
theorem State.headerStep_second (h2 : g.second = true) (hs : (Header.stations h).testBit s.station = true)
    (hn : (s.noteTaken g h).station = s.station) : s.headerStep g = (s.noteTaken g h).endLoad 13 0 := by
  simp only [State.headerStep, hb, if_neg (Nat.not_lt.2 hl), h2, hn, hs, Bool.and_self, if_true]

variable (h2 : g.second = false)
include h2

/-- The first header check that fails gives the status; 12 passes the image over where its entry has others. -/
theorem State.headerStep_checkFails (h12 : (s.headerCheck h g.kinds false).1 ≠ 12) (h0 : (s.headerCheck h g.kinds false).1 ≠ 0) :
    s.headerStep g = (s.noteTaken g h).endLoad (s.headerCheck h g.kinds false).1 (s.headerCheck h g.kinds false).2 := by
  simp only [State.headerStep, hb, if_neg (Nat.not_lt.2 hl), h2, Bool.false_and, if_neg h12, if_pos h0]
  rfl

/-- From a slot an image that passes has its slot WRITING and the set LOADING, and its frames follow. -/
theorem State.headerStep_fromSlot {k j : Nat} {t : State} (h0 : (s.headerCheck h g.kinds false).1 = 0) (hsrc : g.src = .slot k)
    (hd : g.dest = some j) (hn : g.n < Header.frames h)
    (ht : t = if g.storeOnly then s.slotBegin j h else (s.slotBegin j h).setBegin g h) :
    s.headerStep g = { t with cfg := { t.cfg with staging := some { g with header := h, off := g.off + 4096 } } } := by
  have htaken : s.noteTaken g h = s := by simp only [State.noteTaken, hsrc]
  simp only [State.headerStep, hb, if_neg (Nat.not_lt.2 hl), h2, htaken, h0]
  simp only [Bool.false_and, hd, ← ht, Staging.consume, hsrc, State.forwardTo, State.loadTail, Staging.hdr, if_pos hn]
  rfl

end Whole
end ImageHeader

/-! ### FRAME (R257, R258, R263, R265) -/

section Frame
variable {wr : Bool} {s : State} {g : Staging} {f p : List Byte} {st : Nat}

theorem exec_frame_taken (hg : s.cfg.staging = some g) (hh : g.header ≠ []) (hw : s.warned = false)
    (hd : g.storeOnly = true ∨ ∀ d ∈ s.stgDomains, s.domOn d = true) : exec (.frame wr) s = .next (s.frameStep g wr) := by
  have hon : (g.storeOnly || s.stgDomains.all (fun d => s.domOn d)) = true := by
    rw [Bool.or_eq_true, List.all_eq_true]
    exact hd
  simp only [exec_frame, execFrame, hg, isEmpty_eq_false_of_ne_nil hh, hw, hon]
  rfl

theorem exec_frame_not (h : s.cfg.staging = none ∨ s.warned = true ∨ ∃ g, s.cfg.staging = some g ∧ (g.header = [] ∨
    (g.storeOnly = false ∧ ∃ d ∈ s.stgDomains, s.domOn d = false))) : exec (.frame wr) s = .next s := by
  rw [exec_frame, execFrame]
  split
  · next g hg =>
    refine if_neg ?_
    simp only [Bool.and_eq_true, Bool.not_eq_true', Bool.or_eq_true, List.all_eq_true]
    rintro ⟨⟨he, hw⟩, hon⟩
    obtain h | h | ⟨g', h, hh | ⟨hst, d, hd, hoff⟩⟩ := h
    · cases hg.symm.trans h
    · exact absurd (h.symm.trans hw) (by decide)
    · cases hg.symm.trans h
      exact Bool.eq_false_iff.1 he (List.isEmpty_iff.2 hh)
    · cases hg.symm.trans h
      obtain hon | hon := hon
      · exact absurd (hon.symm.trans hst) (by decide)
      · exact absurd ((hon d hd).symm.trans hoff) (by decide)
  · rfl

theorem State.frameStep_allIn (hn : g.hdr.frames ≤ g.n) : s.frameStep g wr = s.loadTail g := if_pos hn

section More
variable (hn : g.n < g.hdr.frames)
include hn

theorem State.frameStep_waits (hb : s.nextBytes g 520 = none) : s.frameStep g wr = s := by
  simp only [State.frameStep, if_neg (Nat.not_le.2 hn), hb]

variable (hb : s.nextBytes g 520 = some f)
include hb

theorem State.frameStep_short (hl : f.length < 520) : s.frameStep g wr = s.endLoad 22 0 := by
  simp only [State.frameStep, if_neg (Nat.not_le.2 hn), hb, if_pos hl]

variable (hl : 520 ≤ f.length) (hp : p = s.plainFrame g.header g.n f) (hst : st = s.frameCheck g.header g.pins g.last p)
include hl hp hst

theorem State.frameStep_checkFails (h0 : st ≠ 0) : s.frameStep g wr = s.endLoad st (beAt p 0 4) := by
  simp only [State.frameStep, if_neg (Nat.not_le.2 hn), hb, if_neg (Nat.not_lt.2 hl), ← hp, ← hst, if_pos h0]

/-- A frame whose write to the slot does not verify ends the load, the staged planes then zero up to it (R248, R259). -/
theorem State.frameStep_notVerified (h0 : st = 0) (hd : g.dest.isSome = true) : s.frameStep g false = (if g.storeOnly then s else
    { s with cfg := { s.cfg with staged := s.zeroFill g (beAt p 0 4) } }).endLoad 26 (beAt p 0 4) := by
  simp only [State.frameStep, if_neg (Nat.not_le.2 hn), hb, if_neg (Nat.not_lt.2 hl), ← hp, ← hst, h0, hd]
  rfl

/-- A frame that passes goes to the slot and the plane, and the end is checked. -/
theorem State.frameStep_put {g' : Staging} (h0 : st = 0) (hw : wr = true ∨ g.dest = none)
    (hg : (s.putFrame g f p).cfg.staging = some g') : s.frameStep g wr = (s.putFrame g f p).loadTail g' := by
  have hok : (g.dest.isSome && !wr) = false := by
    obtain rfl | hd := hw
    · exact Bool.and_false _
    · rw [hd]
      rfl
  simp only [State.frameStep, if_neg (Nat.not_le.2 hn), hb, if_neg (Nat.not_lt.2 hl), ← hp, ← hst, h0, hok, hg]
  rfl

end More
end Frame

/-! ### BCAST (R264, R370, R375) -/

section Bcast
variable {m : LaneMsg} {first last : Bool} {ws : List DWord} {s : State}

theorem exec_bcast_badCrc (hm : m.ok = false) : exec (.bcast m first last ws) s =
    .next ((s.incR (Reg.NET_SL_CRC_ERR m.lane.val)).raise (150 + m.lane.val) 4) := by
  rw [exec_bcast, execBcast, hm]
  rfl

variable (hm : m.ok = true)
include hm

theorem exec_bcast_ignored (h : s.treeLane m.lane.val = false ∨ m.src.val = s.station) :
    exec (.bcast m first last ws) s = .next s := by
  have hi : (!s.treeLane m.lane.val || m.src.val == s.station) = true := by
    obtain h | h := h <;> simp [h]
  simp only [exec_bcast, execBcast, hm, hi]
  rfl

/-- Another chunk is forwarded, a gap in its numbers is noted, and it is fed to the staging; the last one ends its entry. -/
theorem exec_bcast_fed {u v x y : State} (ht : s.treeLane m.lane.val = true) (hs : m.src.val ≠ s.station)
    (hu : u = s.flood (some m.lane.val)
      { typ := 7, src := m.src.val, seq := m.seq.toNat, spec := first.toNat + 2 * last.toNat, payload := ws })
    (hv : v = if tabGet (fun _ => 0) u.net.bcastSeq m.src.val ≠ 0 ∧ tabGet (fun _ => 0) u.net.bcastSeq m.src.val - 1 ≠ m.seq.toNat
      then u.bcastGap m.src.val else u)
    (hx : x = { v with net := { v.net with bcastSeq := tabInsert v.net.bcastSeq m.src.val ((m.seq.toNat + 1) % 65536 + 1) } })
    (hy : y = (if first then x.bcastFirst m.src.val m.lane.val else x).bcastFeed m.src.val (ws.flatMap (fun w => beBytes 8 w.toNat)) last) :
    exec (.bcast m first last ws) s =
      .next (if last then { y with cfg := { y.cfg with taken := y.cfg.taken.filter (fun t => t != m.src.val) } } else y) := by
  have hi : (!s.treeLane m.lane.val || m.src.val == s.station) = false := by simp [ht, hs]
  have hv' : v = if (decide (tabGet (fun _ => 0) u.net.bcastSeq m.src.val ≠ 0) &&
      tabGet (fun _ => 0) u.net.bcastSeq m.src.val - 1 != m.seq.toNat) = true then u.bcastGap m.src.val else u := by
    rw [hv]
    simp
  simp only [exec_bcast, execBcast, hm, hi, ← hu, ← hv', ← hx, ← hy]
  cases last <;> rfl

end Bcast

/-- Settles O39: each clause is one case of a header, of a frame or of a broadcast chunk. -/
theorem imagesUnderWay : Obligations.ImagesUnderWay :=
  ⟨fun _ _ => exec_imageHeader_awaited, fun _ => exec_imageHeader_not,
    fun _ _ => ⟨State.headerStep_waits, fun _ => State.headerStep_short⟩,
    fun _ _ _ hb hl => ⟨State.headerStep_second hb hl, State.headerStep_checkFails hb hl⟩,
    fun _ _ _ _ _ _ hb hl h2 h0 hsrc hd hn => State.headerStep_fromSlot hb hl h2 h0 hsrc hd hn,
    fun _ _ _ => exec_frame_taken, fun _ _ => exec_frame_not, fun _ _ _ => State.frameStep_allIn,
    fun _ _ _ hn => ⟨State.frameStep_waits hn, fun _ => State.frameStep_short hn⟩,
    fun _ _ _ _ _ _ hn hb hl hp hst => ⟨State.frameStep_checkFails hn hb hl hp hst, State.frameStep_notVerified hn hb hl hp hst,
      fun _ => State.frameStep_put hn hb hl hp hst⟩,
    fun _ _ _ _ _ => exec_bcast_badCrc, fun _ _ _ _ _ => exec_bcast_ignored,
    fun _ _ _ _ _ _ _ _ _ hm => exec_bcast_fed hm⟩

end Sys2Proof.Machine
end

section
/-!
PROOF. What the continuous readback and the rewriting of a frame do (R268, R269), case by case, and the obligation Readback.
-/
namespace Sys2Proof.Machine

/-! ### What runs for each command -/

theorem exec_scrubRead (ce : Fin 65) (bad : Bool) (s : State) : exec (.scrubRead ce bad) s = execScrubRead ce bad s := rfl
theorem exec_scrubRewriteDone (src : Bool) (s : State) : exec (.scrubRewriteDone src) s = execScrubRewriteDone src s := rfl

/-! ### SCRUB_READ (R268) -/

section Read
variable {ce : Fin 65} {bad : Bool} {s u v : State} {n a : Nat} {st : Bool}

theorem exec_scrubRead_not (h : s.getB Reg.CFG_SCRUB_CTL 31 = false ∨ s.scrubDue = false ∨ s.scrubNext 200 s.cfg.scrubAt = none) :
    exec (.scrubRead ce bad) s = .next s := by
  rw [exec_scrubRead, execScrubRead]
  obtain h | h | h := h
  · rw [h, Bool.not_false, Bool.true_or, if_pos rfl]
  · rw [h, Bool.not_false, Bool.or_true, if_pos rfl]
  · rw [h]
    exact ite_self _

variable (hon : s.getB Reg.CFG_SCRUB_CTL 31 = true) (hdue : s.scrubDue = true) (hn : s.scrubNext 200 s.cfg.scrubAt = some (n, st, a))
  (hu : u = { s with cfg := { s.cfg with scrubAt := n + 1, scrubStaged := st, scrubTime := s.time } })
  (hv : v = if ce.val = 0 then u else (u.addF Reg.CFG_SCRUB_CE 31 0 ce).raise 162 2)
include hon hdue hn hu hv

/-- The corrected words of the frame read are counted; the frame waits to be rewritten where it is bad, or where a segment of it
waits for a scrub that has failed. -/
theorem exec_scrubRead_frame : exec (.scrubRead ce bad) s = .next (if bad || v.stillDisc st a then v.askRewrite st a else v) := by
  simp only [exec_scrubRead, execScrubRead, hon, hdue, hn, ← hu, ← hv]
  rfl

theorem exec_scrubRead_asks (h : bad = true ∨ v.stillDisc st a = true) : exec (.scrubRead ce bad) s = .next (v.askRewrite st a) := by
  rw [exec_scrubRead_frame hon hdue hn hu hv, if_pos (Bool.or_eq_true_iff.2 h)]

theorem exec_scrubRead_good (hb : bad = false) (hd : v.stillDisc st a = false) : exec (.scrubRead ce bad) s = .next v := by
  rw [exec_scrubRead_frame hon hdue hn hu hv, hb, hd, Bool.or_self, if_neg Bool.false_ne_true]

end Read

/-! ### The rewriting of a frame (R201, R268, R269) -/

section Rewrite
variable {s u v : State} {st src : Bool} {a : Nat} (hu : u = s.setR Reg.CFG_SCRUB_LAST (BitVec.ofNat 32 a))
include hu

/-- A frame whose source fails is left as it is, and counted (R269). -/
theorem State.rewriteFrame_failed (h : src = false ∨ u.sourceFrame st a = none) : s.rewriteFrame st a src =
    (if fClass a = 0 then ((u.incR Reg.CFG_SCRUB_SRC_ERR).raise 162 4).noteDisc (fSector a)
      else (u.incR Reg.CFG_SCRUB_SRC_ERR).raise 162 4, false) := by
  have hsrc : (if src = true then u.sourceFrame st a else none) = none := by
    obtain rfl | h := h
    · exact if_neg Bool.false_ne_true
    · rw [h, ite_self]
  simp only [State.rewriteFrame, ← hu, hsrc]

/-- A frame with a good source is rewritten from it in its plane. -/
theorem State.rewriteFrame_done {f : List Byte} (hs : src = true) (hf : u.sourceFrame st a = some f)
    (hv : v = { u with cfg := { u.cfg with active := if st then u.cfg.active else planePut u.cfg.active a f,
                                           staged := if st then planePut u.cfg.staged a f else u.cfg.staged } }) :
    s.rewriteFrame st a src = (((v.incR Reg.CFG_SCRUB_FIX).raise 162 1).sectorRewritten st a, true) := by
  simp only [State.rewriteFrame, ← hu, hs, if_true, hf, ← hv]

end Rewrite

section Done
variable {s u : State} {st src b : Bool} {a : Nat} {l : List (Bool × Nat × Bool)}

theorem exec_scrubRewriteDone_none (h : s.cfg.rewrites = []) : exec (.scrubRewriteDone src) s = .next s := by
  simp only [exec_scrubRewriteDone, execScrubRewriteDone, h]

/-- The first frame of the list leaves it and is rewritten. -/
theorem exec_scrubRewriteDone_first (h : s.cfg.rewrites = (st, a, b) :: l) (hu : u = { s with cfg := { s.cfg with rewrites := l } }) :
    exec (.scrubRewriteDone src) s = .next (u.rewriteFrame st a src).1 := by
  simp only [exec_scrubRewriteDone, execScrubRewriteDone, h, ← hu]

end Done

/-- Settles O35: each clause is one case of a read frame, or of the rewriting of the first frame that waits. -/
theorem readback : Obligations.Readback :=
  ⟨fun _ _ _ => exec_scrubRead_not, fun _ => rfl,
    fun _ _ _ _ _ _ _ _ hon hdue hn hu hv => ⟨exec_scrubRead_asks hon hdue hn hu hv, exec_scrubRead_good hon hdue hn hu hv⟩,
    fun _ _ => exec_scrubRewriteDone_none,
    fun _ _ _ _ _ _ _ h hu =>
      ⟨fun hf => by rw [exec_scrubRewriteDone_first h rfl, State.rewriteFrame_failed hu hf],
       fun _ _ hs hf hv => by rw [exec_scrubRewriteDone_first h rfl, State.rewriteFrame_done hu hs hf hv]⟩,
    fun _ _ _ _ _ hu hv => by rw [State.sectorRewritten, hv, hu]⟩

end Sys2Proof.Machine
end

section
/-!
PROOF. What the requests for stagings, the host's stream, its end and its aborts, the erases of slots and SLOT_STAT answer (R244,
R245, R256, R260–R263, R270, R399, R404), case by case, and the obligation StagingsAndSlots.
-/
namespace Sys2Proof.Machine

/-! ### What runs for each command -/

theorem exec_stgAbort (v : Via) (s : State) : exec (.stgAbort v) s = execStgAbort v s := rfl
theorem exec_stgBegin (c : CmdRef) (s : State) : exec (.stgBegin c) s = execStgBegin c s := rfl
theorem exec_stgData (c : CmdRef) (s : State) : exec (.stgData c) s = execStgData c s := rfl
theorem exec_stgEnd (c : CmdRef) (s : State) : exec (.stgEnd c) s = execStgEnd c s := rfl
theorem exec_hostStreamGap (s : State) : exec .hostStreamGap s = execHostStreamGap s := rfl
theorem exec_slotErase (c : CmdRef) (s : State) : exec (.slotErase c) s = execSlotErase c s := rfl
theorem exec_slotEraseDone (k : Fin 4) (s : State) : exec (.slotEraseDone k) s = execSlotEraseDone k s := rfl
theorem exec_slotStat (c : CmdRef) (s : State) : exec (.slotStat c) s = execSlotStat c s := rfl

/-! ### CFG_STG_CTL (R260, R263) -/

section Ctl
variable {w : Word} {s u : State}

theorem exec_stagingGo_reg : exec (.stagingGo (.reg w)) s = if bitOf w 0 then .next (s.writeStgCtl w) else .next s := rfl
theorem exec_stgAbort_reg : exec (.stgAbort (.reg w)) s = if bitOf w 1 then .next (s.writeStgCtl w) else .next s := rfl

section Write
variable (hu : u = s.store Reg.CFG_STG_CTL w)
include hu

theorem State.writeStgCtl_go (h1 : bitOf w 1 = false) (h0 : bitOf w 0 = true) : s.writeStgCtl w = u.stagingGo := by
  simp only [State.writeStgCtl, h1, h0, ← hu, Bool.false_eq_true, if_false, if_true]

theorem State.writeStgCtl_abort (h1 : bitOf w 1 = true) (h0 : bitOf w 0 = false) : s.writeStgCtl w = u.endLoad 27 0 := by
  simp only [State.writeStgCtl, h1, h0, ← hu, Bool.false_eq_true, if_false, if_true]

theorem State.writeStgCtl_both (h1 : bitOf w 1 = true) (h0 : bitOf w 0 = true) : s.writeStgCtl w = (u.endLoad 27 0).stagingGo := by
  simp only [State.writeStgCtl, h1, h0, ← hu, if_true]

end Write

/-- A request is refused BUSY while a staging or a Front is under way. -/
theorem State.stagingGo_busy (h : s.cfg.staging.isSome = true ∨ s.frontBusy = true) :
    s.stagingGo = (s.setF Reg.CFG_STG_STAT 12 8 13).raise 160 32 := by
  rw [State.stagingGo, if_pos h]
  rfl

/-- Neither a staging nor a Front is under way. -/
theorem State.not_underWay (hg : s.cfg.staging = none) (hf : s.frontBusy = false) : ¬ (s.cfg.staging.isSome = true ∨ s.frontBusy = true) := by
  simp [hg, hf]

section Free
variable (hg : s.cfg.staging = none) (hf : s.frontBusy = false)
include hg hf

theorem State.stagingGo_badParam (h : 2 ≤ s.getF Reg.CFG_STG_CTL 31 30 ∨ s.getF Reg.CFG_STG_CTL 29 28 = 1) :
    s.stagingGo = (s.setF Reg.CFG_STG_STAT 12 8 4).raise 160 32 := by
  rw [State.stagingGo, if_neg (State.not_underWay hg hf)]
  exact if_pos h

variable (hd : s.getF Reg.CFG_STG_CTL 29 28 ≠ 1)
include hd

theorem State.stagingGo_slot (h : s.getF Reg.CFG_STG_CTL 31 30 = 0) :
    s.stagingGo = (s.stgRequest (.slot (s.getF Reg.CFG_STG_CTL 27 26)) 0 { src := .slot 0, dest := none }).1 := by
  have hok : ¬ (2 ≤ s.getF Reg.CFG_STG_CTL 31 30 ∨ s.getF Reg.CFG_STG_CTL 29 28 = 1) := by omega
  rw [State.stagingGo, if_neg (State.not_underWay hg hf)]
  exact (if_neg hok).trans (if_pos h)

theorem State.stagingGo_key {a : Nat} (h : s.getF Reg.CFG_STG_CTL 31 30 = 1) (ha : a = (s.getD Reg.CFG_STG_KEY).toNat) :
    s.stagingGo = (s.stgRequest (.key a) (s.getF Reg.CFG_STG_CTL 29 28)
      { src := .key a, dest := none, storeOnly := s.getB Reg.CFG_STG_CTL 5, forward := s.getB Reg.CFG_STG_CTL 4,
        len := s.keyImageLen a }).1 := by
  have hok : ¬ (2 ≤ s.getF Reg.CFG_STG_CTL 31 30 ∨ s.getF Reg.CFG_STG_CTL 29 28 = 1) := by omega
  have h0 : ¬ s.getF Reg.CFG_STG_CTL 31 30 = 0 := by omega
  rw [State.stagingGo, if_neg (State.not_underWay hg hf), ha]
  exact (if_neg hok).trans (if_neg h0)

end Free
end Ctl

/-! ### A request from a slot (R260, R261) -/

section Slot
variable {s : State} {k : Nat} {g : Staging} (hg : s.cfg.staging = none) (hf : s.frontBusy = false)
include hg hf

theorem State.stgRequest_slot_startup (hk : k < 2) :
    s.stgRequest (.slot k) 0 g = ((s.setF Reg.CFG_STG_STAT 12 8 4).raise 160 32, 4) := by
  rw [State.stgRequest, if_neg (State.not_underWay hg hf)]
  exact if_pos hk

theorem State.stgRequest_slot_busy (hk : 2 ≤ k) (h : s.slotState k ≠ 2 ∨ ∃ e ∈ s.cfg.erasing, e.1 = k) :
    s.stgRequest (.slot k) 0 g = ((s.setF Reg.CFG_STG_STAT 12 8 14).raise 160 32, 14) := by
  have hb : s.slotState k ≠ 2 ∨ s.cfg.erasing.any (fun e => e.1 == k) = true := by simpa using h
  rw [State.stgRequest, if_neg (State.not_underWay hg hf)]
  exact (if_neg (Nat.not_lt.2 hk)).trans (if_pos hb)

theorem State.stgRequest_slot_begins (hk : 2 ≤ k) (hv : s.slotState k = 2) (he : ∀ e ∈ s.cfg.erasing, e.1 ≠ k)
    (hst : g.storeOnly = false) :
    s.stgRequest (.slot k) 0 g = (((({ s.useCrypto with cfg := { s.cfg with
      staging := some { g with src := .slot k, dest := none } } } : State).setB Reg.CFG_STG_STAT 3 true).setF
      Reg.CFG_STG_STAT 31 13 0).streamTake 2, 0) := by
  have hb : ¬ (s.slotState k ≠ 2 ∨ s.cfg.erasing.any (fun e => e.1 == k) = true) := by
    rintro (h | h)
    · exact h hv
    · obtain ⟨e, hmem, hk⟩ := List.any_eq_true.1 h
      exact he e hmem (beq_iff_eq.1 hk)
  rw [State.stgRequest, if_neg (State.not_underWay hg hf)]
  refine (if_neg (Nat.not_lt.2 hk)).trans ((if_neg hb).trans ?_)
  simp only [hst]
  rfl

end Slot

/-! ### STG_BEGIN, STG_DATA, STG_END and STG_ABORT (R263, R404) -/

section Host
variable {c : CmdRef} {s t u : State} {x : Command} {g : Staging} {h : HostStream} {st : Nat}

theorem exec_stagingGo_answered (ht : s.turn c 3 4 = some x) (h0 : beAt x.payload 1 1 = 0) (h3 : beAt x.payload 0 1 ≤ 3)
    (hr : s.stgRequest (.slot (beAt x.payload 0 1)) 0 { src := .slot 0, dest := none, cmd := some c } = (t, st)) :
    exec (.stagingGo (.cmd c)) s = .next (if st = 0 then t.pendingReply x else t.replyTo x (csOf 2 st) true (beBytes 1 st)) := by
  have hok : ¬ (beAt x.payload 1 1 ≠ 0 ∨ 3 < beAt x.payload 0 1) := by omega
  simp only [exec_stagingGo, execStagingGo, ht, if_neg hok, hr]
  split <;> rfl

section Begin
variable (ht : s.turn c 3 0 = some x)
include ht

theorem exec_stgBegin_badParam (hb : beAt x.payload 0 1 = 1 ∨ 5 < beAt x.payload 0 1 ∨ 1 < beAt x.payload 1 1) :
    exec (.stgBegin c) s = .next (s.replyTo x csBADPARAM true []) := by
  simp only [exec_stgBegin, execStgBegin, ht, if_pos hb]

variable (h1 : beAt x.payload 0 1 ≠ 1) (h5 : beAt x.payload 0 1 ≤ 5) (hs : beAt x.payload 1 1 ≤ 1)
  (hr : s.stgRequest .host (beAt x.payload 0 1) { src := .host, dest := none, storeOnly := beAt x.payload 1 1 == 1 } = (t, st))
include h1 h5 hs hr

theorem exec_stgBegin_begun (h0 : st = 0) : exec (.stgBegin c) s =
    .next (({ t with cfg := { t.cfg with host := some { total := beAt x.payload 2 4, last := t.time } } } : State).replyTo x csOK true []) := by
  have hok : ¬ (beAt x.payload 0 1 = 1 ∨ 5 < beAt x.payload 0 1 ∨ 1 < beAt x.payload 1 1) := by omega
  have hst : ¬ st ≠ 0 := not_not.2 h0
  simp only [exec_stgBegin, execStgBegin, ht, if_neg hok, hr, if_neg hst]

theorem exec_stgBegin_refused (h0 : st ≠ 0) : exec (.stgBegin c) s = .next (t.replyTo x (csOf 2 st) true []) := by
  have hok : ¬ (beAt x.payload 0 1 = 1 ∨ 5 < beAt x.payload 0 1 ∨ 1 < beAt x.payload 1 1) := by omega
  simp only [exec_stgBegin, execStgBegin, ht, if_neg hok, hr, if_pos h0]

end Begin

section Data
variable (ht : s.turn c 3 1 = some x)
include ht

/-- Data that no stream takes, or that comes out of order, is refused. -/
theorem exec_stgData_badParam (hb : s.cfg.staging = none ∨ s.cfg.host = none ∨ ∃ g h, s.cfg.staging = some g ∧ s.cfg.host = some h ∧
    (g.src ≠ .host ∨ h.closed = true ∨ h.result.isSome ∨ beAt x.payload 0 4 ≠ h.next)) :
    exec (.stgData c) s = .next (s.replyTo x csBADPARAM true []) := by
  simp only [exec_stgData, execStgData, ht]
  split
  · next g h hg hh =>
    refine if_pos ?_
    obtain hb | hb | ⟨g', h', hg', hh', hb⟩ := hb
    · cases hg.symm.trans hb
    · cases hh.symm.trans hb
    · cases hg.symm.trans hg'
      cases hh.symm.trans hh'
      exact hb
  · rfl

variable (hg : s.cfg.staging = some g) (hh : s.cfg.host = some h) (hsrc : g.src = .host) (hcl : h.closed = false)
  (hres : h.result = none) (hnext : beAt x.payload 0 4 = h.next)
  (hu : u = { s with cfg := { s.cfg with
    staging := some { g with stream := g.stream ++ x.payload.drop 4, ended := decide (h.total ≤ h.next + (x.payload.drop 4).length) },
    host := some { h with next := h.next + (x.payload.drop 4).length, last := s.time } } })
include hg hh hsrc hcl hres hnext hu

/-- The next bytes of the stream are taken; their reply is withheld while slot writes are suspended (R389). -/
theorem exec_stgData_taken : exec (.stgData c) s = .next (if u.warned then u.awaitReply x else u.replyTo x csOK true []) := by
  have hok : ¬ (g.src ≠ .host ∨ h.closed = true ∨ h.result.isSome = true ∨ beAt x.payload 0 4 ≠ h.next) := by
    simp [hsrc, hcl, hres, hnext]
  simp only [exec_stgData, execStgData, ht, hg, hh, if_neg hok, ← hu]

theorem exec_stgData_answered (hw : u.warned = false) : exec (.stgData c) s = .next (u.replyTo x csOK true []) := by
  rw [exec_stgData_taken ht hg hh hsrc hcl hres hnext hu, hw, if_neg Bool.false_ne_true]

theorem exec_stgData_withheld (hw : u.warned = true) : exec (.stgData c) s = .next (u.awaitReply x) := by
  rw [exec_stgData_taken ht hg hh hsrc hcl hres hnext hu, hw, if_pos rfl]

end Data

section End
variable (ht : s.turn c 3 2 = some x)
include ht

theorem exec_stgEnd_over {n a : Nat} (hh : s.cfg.host = some h) (hres : h.result = some (st, n, a)) : exec (.stgEnd c) s =
    .next (s.replyTo x (csOf (if st = 0 then 0 else 2) st) true (beBytes 1 st ++ beBytes 4 n ++ beBytes 4 a)) := by
  simp only [exec_stgEnd, execStgEnd, ht, hh, hres, loadReply, if_true]

theorem exec_stgEnd_waits (hh : s.cfg.host = some h) (hres : h.result = none) : exec (.stgEnd c) s =
    .next (({ s with cfg := { s.cfg with host := some { h with closed := true },
                                         staging := s.cfg.staging.map (fun g => { g with cmd := some c }) } } : State).pendingReply x) := by
  simp only [exec_stgEnd, execStgEnd, ht, hh, hres]

theorem exec_stgEnd_noStream (hh : s.cfg.host = none) : exec (.stgEnd c) s =
    .next (s.replyTo x (csOf (if s.getF Reg.CFG_STG_STAT 12 8 = 0 then 0 else 2) (s.getF Reg.CFG_STG_STAT 12 8)) true
      (beBytes 1 (s.getF Reg.CFG_STG_STAT 12 8) ++ beBytes 4 (s.getF Reg.CFG_STG_STAT 31 13) ++
        beBytes 4 (s.getR Reg.CFG_STG_ERR_ADDR).toNat)) := by
  simp only [exec_stgEnd, execStgEnd, ht, hh, loadReply, if_true]

end End

theorem exec_stgAbort_cmd (ht : s.turn c 3 3 = some x) :
    exec (.stgAbort (.cmd c)) s = .next ((s.endLoad 27 0).replyTo x csOK true []) := by
  simp only [exec_stgAbort, execStgAbort, ht]

/-! ### HOST_STREAM_GAP (R404) -/

theorem exec_hostStreamGap_ends (hg : s.cfg.staging = some g) (hh : s.cfg.host = some h) (hsrc : g.src = .host)
    (hn : h.next < h.total) (ht : (6400000000 : Int) ≤ tdiff s.time h.last) : exec .hostStreamGap s = .next (s.endLoad 22 0) := by
  simp only [exec_hostStreamGap, execHostStreamGap, hg, hh]
  exact if_pos ⟨hsrc, hn, ht⟩

theorem exec_hostStreamGap_not (hg : s.cfg.staging = some g) (hh : s.cfg.host = some h)
    (hno : g.src ≠ .host ∨ h.total ≤ h.next ∨ tdiff s.time h.last < 6400000000) : exec .hostStreamGap s = .next s := by
  simp only [exec_hostStreamGap, execHostStreamGap, hg, hh]
  refine if_neg ?_
  rintro ⟨hsrc, hn, ht⟩
  obtain hno | hno | hno := hno
  · exact hno hsrc
  · exact absurd hn (Nat.not_lt.2 hno)
  · exact absurd ht (Int.not_le.2 hno)

/-- Where no image is under way there is nothing to end. -/
theorem exec_hostStreamGap_idle (hg : s.cfg.staging = none) : exec .hostStreamGap s = .next s ∧ s.endLoad 27 0 = s := by
  simp only [exec_hostStreamGap, execHostStreamGap, State.endLoad, hg, and_self]

end Host

/-! ### Slots (R244, R245, R270, R399) -/

section Slots
variable {c : CmdRef} {s u : State} {x : Command}

/-- What refuses an erase. -/
theorem State.eraseRefused_iff (s : State) (k : Nat) : s.eraseRefused k = true ↔ s.actSrc k = true ∨ s.stgSrc k = true ∨
    s.slotState k = 1 ∨ (k < 2 ∧ s.inServiceMode = false) ∨ (∃ e ∈ s.cfg.erasing, e.1 = k) ∨
    ∃ g, s.cfg.staging = some g ∧ (g.dest = some k ∨ g.src = .slot k) := by
  simp [State.eraseRefused, or_assoc, Option.any_eq_true]

section Erase
variable (ht : s.turn c 3 5 = some x)
include ht

theorem exec_slotErase_badParam (h3 : 3 < beAt x.payload 0 1) : exec (.slotErase c) s = .next (s.replyTo x csBADPARAM true []) := by
  simp only [exec_slotErase, execSlotErase, ht, if_pos h3]

variable (h3 : beAt x.payload 0 1 ≤ 3)
include h3

theorem exec_slotErase_refused (hr : s.eraseRefused (beAt x.payload 0 1) = true) :
    exec (.slotErase c) s = .next (s.replyTo x (csOf 2 14) true []) := by
  simp only [exec_slotErase, execSlotErase, ht, if_neg (Nat.not_lt.2 h3), hr, if_true]

theorem exec_slotErase_waits (hr : s.eraseRefused (beAt x.payload 0 1) = false) : exec (.slotErase c) s =
    .next (({ s with cfg := { s.cfg with erasing := s.cfg.erasing ++ [(beAt x.payload 0 1, some c)] } } : State).pendingReply x) := by
  simp only [exec_slotErase, execSlotErase, ht, if_neg (Nat.not_lt.2 h3), hr, Bool.false_eq_true, if_false]

end Erase

section EraseDone
variable {k : Fin 4} {e : Nat × Option CmdRef}

theorem exec_slotEraseDone_none (h : s.cfg.erasing.find? (fun e => e.1 == k.val) = none) : exec (.slotEraseDone k) s = .next s := by
  simp only [exec_slotEraseDone, execSlotEraseDone, h]

variable (h : s.cfg.erasing.find? (fun e => e.1 == k.val) = some e)
  (hu : u = { s with cfg := { s.cfg with erasing := s.cfg.erasing.erase e, slots := tabErase s.cfg.slots k } })
include h hu

/-- The slot's image is gone, it is EMPTY, and its registers are at reset. -/
theorem exec_slotEraseDone_found : exec (.slotEraseDone k) s =
    .next (((u.setSlotState k 0).resetRegs (Reg.CFG_SLOT_STAT k) 0x20).finishOpt e.2 csOK []) := by
  simp only [exec_slotEraseDone, execSlotEraseDone, h, State.clearSlot, ← hu]

theorem exec_slotEraseDone_empty (h0 : s.slotState k = 0) :
    exec (.slotEraseDone k) s = .next ((u.resetRegs (Reg.CFG_SLOT_STAT k) 0x20).finishOpt e.2 csOK []) := by
  have hu0 : u.slotState k = 0 := by
    rw [hu]
    exact h0
  rw [exec_slotEraseDone_found h hu, State.setSlotState, if_pos hu0]

theorem exec_slotEraseDone_changed (h0 : s.slotState k ≠ 0) : exec (.slotEraseDone k) s =
    .next ((((u.setF (Reg.CFG_SLOT_STAT k) 2 0 0).raise 161 (2 ^ k.val)).resetRegs (Reg.CFG_SLOT_STAT k) 0x20).finishOpt e.2 csOK []) := by
  have hu0 : u.slotState k ≠ 0 := by
    rw [hu]
    exact h0
  rw [exec_slotEraseDone_found h hu, State.setSlotState, if_neg hu0]

end EraseDone

section Stat
variable (ht : s.turn c 3 6 = some x)
include ht

theorem exec_slotStat_of_slot (h3 : beAt x.payload 0 1 ≤ 3) : exec (.slotStat c) s = .next (s.replyTo x csOK true
    ((List.range 8).flatMap (fun i => beBytes 4 (s.getR (Reg.CFG_SLOT_STAT (beAt x.payload 0 1) + 4 * i)).toNat))) := by
  simp only [exec_slotStat, execSlotStat, ht, if_neg (Nat.not_lt.2 h3)]

theorem exec_slotStat_badParam (h3 : 3 < beAt x.payload 0 1) : exec (.slotStat c) s = .next (s.replyTo x csBADPARAM true []) := by
  simp only [exec_slotStat, execSlotStat, ht, if_pos h3]

end Stat
end Slots

/-- Settles O38: each clause is one case of a request, of the host's stream, of an end or of a slot. -/
theorem stagingsAndSlots : Obligations.StagingsAndSlots :=
  ⟨⟨fun _ _ => ⟨fun h => exec_stagingGo_reg.trans (if_pos h), fun h => exec_stagingGo_reg.trans (if_neg (Bool.eq_false_iff.1 h)),
        fun h => exec_stgAbort_reg.trans (if_pos h), fun h => exec_stgAbort_reg.trans (if_neg (Bool.eq_false_iff.1 h))⟩,
      fun _ _ _ hu => ⟨State.writeStgCtl_go hu, State.writeStgCtl_abort hu, State.writeStgCtl_both hu⟩,
      fun _ => State.stagingGo_busy, fun _ => State.stagingGo_badParam,
      fun _ hg hf h hd => State.stagingGo_slot hg hf hd h, fun _ _ hg hf h hd => State.stagingGo_key hg hf hd h,
      fun _ _ _ => State.stgRequest_slot_begins,
      fun _ _ _ hg hf => ⟨State.stgRequest_slot_startup hg hf, State.stgRequest_slot_busy hg hf⟩,
      fun _ _ _ _ _ ht => ⟨exec_stagingGo_badParam ht, exec_stagingGo_answered ht⟩,
      fun _ _ _ _ _ ht h1 h5 hs hr => ⟨exec_stgBegin_begun ht h1 h5 hs hr, exec_stgBegin_refused ht h1 h5 hs hr⟩,
      fun _ _ _ => exec_stgBegin_badParam,
      fun _ _ _ _ _ _ ht hg hh hsrc hcl hres hnext hu => ⟨exec_stgData_answered ht hg hh hsrc hcl hres hnext hu,
        exec_stgData_withheld ht hg hh hsrc hcl hres hnext hu⟩,
      fun _ _ _ => exec_stgData_badParam,
      fun _ _ _ _ ht hh => ⟨fun _ _ _ => exec_stgEnd_over ht hh, exec_stgEnd_waits ht hh⟩,
      fun _ _ _ => exec_stgEnd_noStream, fun _ _ _ => exec_stgAbort_cmd,
      fun _ _ _ hg hh => ⟨exec_hostStreamGap_ends hg hh, exec_hostStreamGap_not hg hh⟩, fun _ => exec_hostStreamGap_idle⟩,
    fun _ _ _ ht => ⟨exec_slotErase_badParam ht, exec_slotErase_refused ht, exec_slotErase_waits ht⟩,
    State.eraseRefused_iff,
    fun _ _ _ _ h hu => ⟨exec_slotEraseDone_empty h hu, exec_slotEraseDone_changed h hu⟩,
    fun _ _ => exec_slotEraseDone_none,
    fun _ _ _ ht => ⟨exec_slotStat_of_slot ht, exec_slotStat_badParam ht⟩⟩

end Sys2Proof.Machine
end

section
/-!
PROOF. What the arming, the cancelling, the verification, the vote and the commit of a Front do (R268, R273–R281, R399), case by case,
and the obligation FrontArmAndVote.
-/
namespace Sys2Proof.Machine

/-! ### What runs for each command -/

theorem exec_frontArm (v : Via) (s : State) : exec (.frontArm v) s = execFrontArm v s := rfl
theorem exec_frontCancel (v : Via) (s : State) : exec (.frontCancel v) s = execFrontCancel v s := rfl
theorem exec_frontStat (c : CmdRef) (s : State) : exec (.frontStat c) s = execFrontStat c s := rfl
theorem exec_verifyDone (bad : List (BitVec 32 × Bool)) (s : State) : exec (.verifyDone bad) s = execVerifyDone bad s := rfl
theorem exec_voteClose (s : State) : exec .voteClose s = .next s.closeVote := rfl
theorem exec_frontCommit (line : Bool) (s : State) : exec (.frontCommit line) s = execFrontCommit line s := rfl
theorem exec_doneHoldEnd (s : State) : exec .doneHoldEnd s = execDoneHoldEnd s := rfl

/-! ### An arm (R274, R275, R278) -/

section Arm
variable {s : State} {f : Front}

theorem State.arm_refused (h : s.armCheck f ≠ 0) :
    s.arm f = ((s.setF Reg.CFG_FRONT_STAT 7 4 (s.armCheck f)).raise 164 2, s.armCheck f) := if_pos h

/-- An armed Front: its fields, STATE and SEQ shown, this station's notice, and EV164. -/
def State.armed (s : State) (f : Front) : State :=
  (((({ s with front := { s.front with seq := f.seq, dir := f.dir, scope := f.scope, part := f.part, tf := f.tf, d := f.d,
                                       verified := false } } : State).setF Reg.CFG_FRONT_STAT 7 4 0).setF
    Reg.CFG_FRONT_STAT 31 16 f.seq).setF Reg.CFG_FRONT_STAT 2 0 1).raise 164 1

/-- The armed Front with its own notice held and its record posted on port 83. -/
def State.armPosted (s : State) (f : Front) : State :=
  ((s.armed f).setR Reg.CFG_FRONT_NOTICE (BitVec.ofNat 32 (2 ^ (s.armed f).station))).fifoPush 83 (encodeRec
    { due := f.tf, kind := 6, inner := 6, tgt := 0, op := f.dir, tag := 0xFF, station := 0, data := BitVec.ofNat 32 f.seq }) .config

/-- The units of the staged set are then held ON, and their slices given up. -/
def State.armHeld (s : State) (f : Front) : State :=
  ((s.armPosted f).stgDomains.foldl (fun s d => s.holdAndWake d Machine.holdFront 7) (s.armPosted f)).abortStaged

theorem State.arm_accepted (h : s.armCheck f = 0) :
    s.arm f = (if f.scope = 1 then (s.armHeld f).armCabinet else s.armHeld f, 0) := if_neg (not_not.2 h)

end Arm

/-! ### CFG_FRONT_CTL, FRONT_ARM, FRONT_CANCEL and FRONT_STAT (R273, R280, R281, R399) -/

section Ctl
variable {w : Word} {s u v : State}

theorem exec_frontArm_reg : exec (.frontArm (.reg w)) s = if bitOf w 0 then .next (s.writeFrontCtl w) else .next s := rfl
theorem exec_frontCancel_reg : exec (.frontCancel (.reg w)) s = if bitOf w 1 then .next (s.writeFrontCtl w) else .next s := rfl

variable (hu : u = s.store Reg.CFG_FRONT_CTL w) (hv : v = if bitOf w 1 then u.hostFrontCancel.1 else u)
include hu hv

theorem State.writeFrontCtl_noArm (h : bitOf w 0 = false) : s.writeFrontCtl w = v := by
  simp only [State.writeFrontCtl, ← hu, ← hv, h, Bool.false_eq_true, if_false]

theorem State.writeFrontCtl_arm (h : bitOf w 0 = true) : s.writeFrontCtl w = (v.arm
    { seq := fld w 31 16, dir := fld w 4 4, scope := fld w 5 5, part := v.getF Reg.CFG_FRONT_PART 15 0,
      tf := v.getD Reg.CFG_FRONT_TIME, d := v.getD Reg.CFG_FRONT_DL }).1 := by
  simp only [State.writeFrontCtl, ← hu, ← hv, h, if_true]

end Ctl

section Commands
variable {c : CmdRef} {s t : State} {x : Command} {st : Nat}

section Arm
variable (hx : s.turn c 4 0 = some x)
include hx

theorem exec_frontArm_badParam (h : 1 < beAt x.payload 20 1 ∨ 1 < beAt x.payload 21 1) :
    exec (.frontArm (.cmd c)) s = .next (s.replyTo x csBADPARAM true []) := by
  simp only [exec_frontArm, execFrontArm, hx, if_pos h]

theorem exec_frontArm_answered (h20 : beAt x.payload 20 1 ≤ 1) (h21 : beAt x.payload 21 1 ≤ 1)
    (ha : s.arm
      { seq := beAt x.payload 18 2, dir := beAt x.payload 20 1, scope := beAt x.payload 21 1, part := beAt x.payload 16 2,
        tf := BitVec.ofNat 64 (beAt x.payload 0 8), d := BitVec.ofNat 64 (beAt x.payload 8 8) } = (t, st)) :
    exec (.frontArm (.cmd c)) s = .next (t.replyTo x (if st = 0 then csOK else csOf 3 st) true (beBytes 1 st)) := by
  have hok : ¬ (1 < beAt x.payload 20 1 ∨ 1 < beAt x.payload 21 1) := by omega
  simp only [exec_frontArm, execFrontArm, hx, if_neg hok, ha]

end Arm

theorem exec_frontCancel_cmd (hx : s.turn c 4 1 = some x) : exec (.frontCancel (.cmd c)) s =
    .next (s.hostFrontCancel.1.replyTo x (if s.hostFrontCancel.2 then csTOOLATE else csOK) true []) := by
  simp only [exec_frontCancel, execFrontCancel, hx]

theorem exec_frontStat_of_turn (hx : s.turn c 4 2 = some x) : exec (.frontStat c) s =
    .next (s.replyTo x csOK true (beBytes 4 (s.getR Reg.CFG_FRONT_STAT).toNat ++ beBytes 4 (s.getR Reg.CFG_FRONT_NOTICE).toNat ++
      beBytes 8 (s.getD Reg.CFG_FRONT_LAST).toNat)) := by
  simp only [exec_frontStat, execFrontStat, hx]

end Commands

/-! ### A cancel, and the close of the vote (R279–R281) -/

section Cancel
variable {s u v w x : State} {n k : Nat}

theorem State.hostFrontCancel_tooLate (hu : u = s.closeVote) (h : u.frontState = 3 ∨ u.frontState = 4 ∨
    ((u.frontState = 1 ∨ u.frontState = 2) ∧ atOrAfter u.time u.front.d = true)) : s.hostFrontCancel = (u, true) := by
  subst hu
  exact if_pos h

theorem State.hostFrontCancel_cancels (hu : u = s.closeVote) (h3 : u.frontState ≠ 3) (h4 : u.frontState ≠ 4)
    (hd : (u.frontState = 1 ∨ u.frontState = 2) → atOrAfter u.time u.front.d = false) :
    s.hostFrontCancel = (u.frontCancel 1, false) := by
  subst hu
  refine if_neg ?_
  rintro (h | h | ⟨h, ha⟩)
  · exact h3 h
  · exact h4 h
  · exact absurd (ha.symm.trans (hd h)) (by decide)

theorem State.voteClosed_iff : s.voteClosed = true ↔ s.frontState = 1 ∧ atOrAfter s.time (s.front.d - 64000) = true := by
  rw [State.voteClosed, Bool.and_eq_true, beq_iff_eq]
  rfl

theorem State.closeVote_eq : s.closeVote = if s.frontState = 1 ∧ atOrAfter s.time (s.front.d - 64000) = true
    then s.frontCancel ((if s.front.verified then 0 else 2) + (if s.noticesHeld then 0 else 4)) else s :=
  ite_congr (propext State.voteClosed_iff) (fun _ => rfl) fun _ => rfl

/-- Where no Front is armed there is none to cancel. -/
theorem State.frontCancel_none (h1 : s.frontState ≠ 1) (h2 : s.frontState ≠ 2) : s.frontCancel n = s := if_pos ⟨h1, h2⟩

/-- An armed Front loses its records wherever they wait; the causes are left and the cancel is counted. -/
theorem State.frontCancel_armed (h : s.frontState = 1 ∨ s.frontState = 2) (hk : k = if s.voteClosed then s.voteCauses else n)
    (hu : u = { s with act := { s.act with cal := s.act.cal.filter (fun e => !(e.act.kind == 6)),
                                           delivered := s.act.delivered.filter (fun d => !(d.act.kind == 6)) } })
    (hv : v = u.setFifo 83 ((u.fifo 83).filter (fun r => !((decodeRec r.word).kind == 6))))
    (hw : w = (((((v.setF Reg.CFG_FRONT_STAT 2 0 0).setF Reg.CFG_FRONT_STAT 12 8 (k % 32)).addF Reg.CFG_FRONT_CANCELS 15 0 1).raise 163
      k).releaseHold Machine.holdFront (List.range 116)).dropDue)
    (hx : x = if w.front.scope == 1 && (s.frontState == 1 || before w.time (w.front.d - units unitsPerUs)) then
      { w with front := { w.front with doneUntil := some w.front.d } } else w) :
    s.frontCancel n = if x.front.scope = 1 then x.driveDone else x := by
  have hno : ¬ (s.frontState ≠ 1 ∧ s.frontState ≠ 2) := by omega
  rw [State.frontCancel, hx, hw, hv, hu, hk]
  exact if_neg hno

end Cancel

/-! ### Verification (R268, R276) -/

section Verify
variable {bad : List (BitVec 32 × Bool)} {s t u v : State} {ok r : Bool}

theorem exec_verifyDone_not (hu : u = s.closeVote)
    (h : u.frontState ≠ 1 ∨ u.front.verified = true ∨ u.stgDomains.all (fun d => u.domOn d) = false) :
    exec (.verifyDone bad) s = .next u := by
  subst hu
  exact if_pos h

/-- Once the units are ON the frames that do not match are rewritten; the device votes, or a rewrite that fails cancels. -/
theorem exec_verifyDone_of_on (hu : u = s.closeVote) (h1 : u.frontState = 1) (hver : u.front.verified = false)
    (hon : u.stgDomains.all (fun d => u.domOn d) = true) (hf : bad.foldl State.verifyFrame (u, true) = (v, ok)) :
    exec (.verifyDone bad) s =
      .next (if ok then ({ v.raise 168 1 with front := { v.front with verified := true } } : State).tryVote else v.frontCancel 2) := by
  have hno : ¬ (u.frontState ≠ 1 ∨ u.front.verified = true ∨ u.stgDomains.all (fun d => u.domOn d) = false) := by
    simp [h1, hver, hon]
  simp only [exec_verifyDone, execVerifyDone, ← hu, if_neg hno, hf]
  cases ok <;> rfl

theorem State.verifyFrame_staged {a : BitVec 32} {src : Bool} (h : s.stagedFrame a.toNat = true)
    (hr : s.rewriteFrame true a.toNat src = (t, r)) :
    State.verifyFrame (s, ok) (a, src) = (if r then t.raise 168 2 else t, ok && r) := by
  simp only [State.verifyFrame, h, if_true, hr]

end Verify

/-! ### The vote and the commit (R277, R279, R280) -/

section Vote
variable {s : State} {line : Bool}

section Voted
variable (h1 : s.frontState = 1) (hver : s.front.verified = true) (hn : s.noticesHeld = true)
  (hb : before s.time (s.front.d - 64000) = true)
include h1 hver hn hb

/-- A verified device that holds the notices before the vote closes is VOTED. -/
theorem State.tryVote_votes : s.tryVote =
    if s.front.scope = 1 then (s.setF Reg.CFG_FRONT_STAT 2 0 2).driveDone else s.setF Reg.CFG_FRONT_STAT 2 0 2 :=
  if_pos ⟨h1, hver, hn, hb⟩

end Voted

theorem State.tryVote_not (h : s.frontState ≠ 1 ∨ s.front.verified = false ∨ s.noticesHeld = false ∨
    before s.time (s.front.d - 64000) = false) : s.tryVote = s := by
  refine if_neg ?_
  rintro ⟨h1, hver, hn, hb⟩
  obtain h | h | h | h := h
  · exact h h1
  · exact absurd (hver.symm.trans h) (by decide)
  · exact absurd (hn.symm.trans h) (by decide)
  · exact absurd (hb.symm.trans h) (by decide)

theorem exec_frontCommit_not (h : s.frontState ≠ 2 ∨ atOrAfter s.time s.front.d = false) : exec (.frontCommit line) s = .next s := by
  refine if_neg ?_
  rintro ⟨h2, hd⟩
  obtain h | h := h
  · exact h h2
  · exact absurd (hd.symm.trans h) (by decide)

section Due
variable (h2 : s.frontState = 2) (hd : atOrAfter s.time s.front.d = true)
include h2 hd

theorem exec_frontCommit_due : exec (.frontCommit line) s =
    if s.front.scope = 1 ∧ (line && s.getB Reg.DEV_START_STAT 0) = false then .next (s.frontCancel 8)
    else .next ((s.setF Reg.CFG_FRONT_STAT 2 0 3).raise 165 1) :=
  if_pos ⟨h2, hd⟩

theorem exec_frontCommit_commits (h : s.front.scope ≠ 1 ∨ (line = true ∧ s.getB Reg.DEV_START_STAT 0 = true)) :
    exec (.frontCommit line) s = .next ((s.setF Reg.CFG_FRONT_STAT 2 0 3).raise 165 1) := by
  rw [exec_frontCommit_due h2 hd, if_neg]
  rintro ⟨hs, hl⟩
  obtain h | ⟨hline, hdone⟩ := h
  · exact h hs
  · rw [hline, hdone] at hl
    exact absurd hl (by decide)

/-- A cabinet Front whose DONE is low at D cancels. -/
theorem exec_frontCommit_low (hs : s.front.scope = 1) (h : line = false ∨ s.getB Reg.DEV_START_STAT 0 = false) :
    exec (.frontCommit line) s = .next (s.frontCancel 8) := by
  rw [exec_frontCommit_due h2 hd, if_pos ⟨hs, Bool.and_eq_false_iff.2 h⟩]

end Due

/-! ### The end of a hold of DONE (R280) -/

theorem exec_doneHoldEnd_none (h : s.front.doneUntil = none) : exec .doneHoldEnd s = .next s := by
  simp only [exec_doneHoldEnd, execDoneHoldEnd, h]

section Held
variable {d : DWord} (hd : s.front.doneUntil = some d)
include hd

theorem exec_doneHoldEnd_released (h : atOrAfter s.time (d + 64000) = true) :
    exec .doneHoldEnd s = .next ({ s with front := { s.front with doneUntil := none } } : State).driveDone := by
  simp only [exec_doneHoldEnd, execDoneHoldEnd, hd]
  exact if_pos h

theorem exec_doneHoldEnd_early (h : atOrAfter s.time (d + 64000) = false) : exec .doneHoldEnd s = .next s := by
  simp only [exec_doneHoldEnd, execDoneHoldEnd, hd]
  exact if_neg (Bool.eq_false_iff.1 h)

end Held
end Vote

/-- Settles O40: each clause is one case of an arm, of a cancel, of the verification, of the vote or of the commit. -/
theorem frontArmAndVote : Obligations.FrontArmAndVote :=
  ⟨⟨fun _ _ => State.arm_refused,
      fun s u f h hu => by
        subst hu
        rw [State.arm_accepted h]
        exact ⟨rfl, s.armPosted f, s.armHeld f, rfl, rfl, rfl⟩,
      fun _ _ _ _ hu hv => ⟨State.writeFrontCtl_noArm hu hv, State.writeFrontCtl_arm hu hv⟩,
      fun _ _ => ⟨fun h => exec_frontArm_reg.trans (if_pos h), fun h => exec_frontArm_reg.trans (if_neg (Bool.eq_false_iff.1 h)),
        fun h => exec_frontCancel_reg.trans (if_pos h), fun h => exec_frontCancel_reg.trans (if_neg (Bool.eq_false_iff.1 h))⟩,
      fun _ _ _ _ _ hx => exec_frontArm_answered hx, fun _ _ _ hx => exec_frontArm_badParam hx, fun _ _ _ => exec_frontCancel_cmd,
      fun _ _ hu => ⟨State.hostFrontCancel_tooLate hu, State.hostFrontCancel_cancels hu⟩,
      fun _ => State.closeVote_eq, fun _ _ => State.frontCancel_none, fun _ _ _ _ _ _ _ => State.frontCancel_armed,
      fun _ _ _ => exec_frontStat_of_turn⟩,
    fun _ _ _ hu => ⟨exec_verifyDone_not hu, fun h1 hver hon _ _ => exec_verifyDone_of_on hu h1 hver hon⟩,
    fun _ _ _ _ _ _ => State.verifyFrame_staged,
    fun _ h1 hver hn hb => ⟨fun hs => (State.tryVote_votes h1 hver hn hb).trans (if_neg hs),
      fun hs => (State.tryVote_votes h1 hver hn hb).trans (if_pos hs)⟩,
    fun _ => State.tryVote_not, exec_voteClose,
    fun _ _ h2 hd => ⟨exec_frontCommit_commits h2 hd, exec_frontCommit_low h2 hd⟩,
    fun _ _ => exec_frontCommit_not,
    fun _ _ hd => ⟨exec_doneHoldEnd_released hd, exec_doneHoldEnd_early hd⟩, fun _ => exec_doneHoldEnd_none⟩

end Sys2Proof.Machine
end

section
/-!
PROOF. What a start-up does from the load of BASE to Thaw, and what SERVICE_ENTER and STARTUP_WRITE do (R244, R266, R267, R295–R297,
R302, R303), case by case, and the obligation StartupToThaw.
-/
namespace Sys2Proof.Machine

/-! ### What runs for each command -/

theorem exec_baseLoad (s : State) : exec .baseLoad s = execBaseLoad s := rfl
theorem exec_timeWaitExpiry (s : State) : exec .timeWaitExpiry s = execTimeWaitExpiry s := rfl
theorem exec_doneReleasePoint (s : State) : exec .doneReleasePoint s = execDoneReleasePoint s := rfl
theorem exec_doneSample (line : Bool) (s : State) : exec (.doneSample line) s = execDoneSample line s := rfl
theorem exec_thaw (s : State) : exec .thaw s = execThaw s := rfl
theorem exec_serviceEnter (c : CmdRef) (s : State) : exec (.serviceEnter c) s = execServiceEnter c s := rfl
theorem exec_startupWrite (c : CmdRef) (s : State) : exec (.startupWrite c) s = execStartupWrite c s := rfl

/-! ### BASE_LOAD (R266, R267) -/

section BaseLoad
variable {s u : State} {p : List (Nat × List Byte)} {b g : Nat × Nat}

theorem exec_baseLoad_not (h : s.boot.running = false ∨ s.phase ≠ 2) : exec .baseLoad s = .next s := by
  refine if_pos ?_
  rw [Bool.or_eq_true, Bool.not_eq_true', bne_iff_ne]
  exact h

/-- A slot that is not VALID holds no image to load. -/
theorem State.wholeLoad_notValid {k : Nat} (h : s.slotState k ≠ 2) : s.wholeLoad k = .error (14, 0) := if_pos h

variable (hr : s.boot.running = true) (hp : s.phase = 2)
include hr hp

theorem not_idleLoad : ¬ (!s.boot.running || s.phase != 2) = true := by
  simp [hr, hp]

theorem exec_baseLoad_base (h0 : s.wholeLoad 0 = .ok p) : exec .baseLoad s = .next (s.imageUp 0 p) := by
  rw [exec_baseLoad, execBaseLoad, if_neg (not_idleLoad hr hp), h0]

variable (h0 : s.wholeLoad 0 = .error b) (hu : u = s.setF Reg.CFG_BOOT 31 27 b.1)
include h0 hu

/-- Where BASE fails its status is left and GOLDEN is loaded, with EV175. -/
theorem exec_baseLoad_golden (h1 : u.wholeLoad 1 = .ok p) : exec .baseLoad s = .next ((u.imageUp 1 p).raise 175 1) := by
  subst hu
  rw [exec_baseLoad, execBaseLoad, if_neg (not_idleLoad hr hp), h0]
  simp only [h1]

/-- Where both fail the device enters SERVICE. -/
theorem exec_baseLoad_service (h1 : u.wholeLoad 1 = .error g) :
    exec .baseLoad s = .next (((u.setF Reg.CFG_BOOT 26 22 g.1).enterService.setB Reg.DEV_FAULT_SRC 0 true).raise 175 2) := by
  subst hu
  rw [exec_baseLoad, execBaseLoad, if_neg (not_idleLoad hr hp), h0]
  simp only [h1]

end BaseLoad

/-! ### TIME_WAIT_EXPIRY (R296) -/

section TimeWait
variable {s : State}

theorem exec_timeWaitExpiry_starts (hr : s.boot.running = true) (hm : s.tbMode = 2) (hi : s.isMaster = false)
    (ht : s.timeRuns = false) (hl : s.locked 0 = true ∨ s.locked 1 = true) :
    exec .timeWaitExpiry s = .next ((s.startTime 0).setB Reg.DEV_FAULT_SRC 2 true) :=
  if_pos ⟨hr, hm, hi, ht, Bool.or_eq_true_iff.2 hl⟩

theorem exec_timeWaitExpiry_not (h : s.boot.running = false ∨ s.tbMode ≠ 2 ∨ s.isMaster = true ∨ s.timeRuns = true ∨
    (s.locked 0 = false ∧ s.locked 1 = false)) : exec .timeWaitExpiry s = .next s := by
  refine if_neg ?_
  rintro ⟨hr, hm, hi, ht, hl⟩
  obtain h | h | h | h | ⟨h0, h1⟩ := h
  · exact absurd (hr.symm.trans h) (by decide)
  · exact h hm
  · exact absurd (hi.symm.trans h) (by decide)
  · exact absurd (ht.symm.trans h) (by decide)
  · rw [h0, h1] at hl
    exact absurd hl (by decide)

end TimeWait

/-! ### DONE (R297, R302) -/

section Done
variable {s u : State} {line : Bool}

theorem State.ready_iff : s.ready = true ↔ s.phase = 4 ∧ s.timeRuns = true ∧ s.freeGasp.isSome = true := by
  rw [State.ready, Bool.and_eq_true, Bool.and_eq_true, beq_iff_eq, and_assoc]

theorem exec_doneReleasePoint_released (hr : s.boot.running = true) (hd : s.ready = true) (hp : s.msPhase 12800000 = true) :
    exec .doneReleasePoint s = .next (s.setB Reg.DEV_START_STAT 0 true) := by
  rw [exec_doneReleasePoint, execDoneReleasePoint, hr, hd, hp]
  rfl

theorem exec_doneReleasePoint_not (h : s.boot.running = false ∨ s.ready = false ∨ s.msPhase 12800000 = false) :
    exec .doneReleasePoint s = .next s := by
  refine if_neg ?_
  rw [Bool.and_eq_true, Bool.and_eq_true]
  rintro ⟨⟨hr, hd⟩, hp⟩
  obtain h | h | h := h
  · exact absurd (hr.symm.trans h) (by decide)
  · exact absurd (hd.symm.trans h) (by decide)
  · exact absurd (hp.symm.trans h) (by decide)

/-- What a sample of DONE that names Thaw has seen. -/
theorem doneSample_iff : (s.boot.running && s.phase == 4 && s.msPhase 32000000 && line && s.getB Reg.DEV_START_STAT 0 &&
      s.boot.thawAt.isNone) = true ↔
    s.boot.running = true ∧ s.phase = 4 ∧ s.msPhase 32000000 = true ∧ line = true ∧ s.getB Reg.DEV_START_STAT 0 = true ∧
      s.boot.thawAt = none := by
  simp only [Bool.and_eq_true, beq_iff_eq, Option.isNone_iff_eq_none, and_assoc]

/-- A high sample names the next millisecond as Thaw. -/
theorem exec_doneSample_high (hr : s.boot.running = true) (hp : s.phase = 4) (hm : s.msPhase 32000000 = true)
    (hd : s.getB Reg.DEV_START_STAT 0 = true) (ht : s.boot.thawAt = none) (hu : u = s.setB Reg.DEV_START_STAT 1 true) :
    exec (.doneSample true) s =
      .next { u with boot := { s.boot with thawAt := some (units ((s.time.toNat / unitsPerMs + 1) * unitsPerMs)) } } := by
  subst hu
  exact if_pos (doneSample_iff.2 ⟨hr, hp, hm, rfl, hd, ht⟩)

theorem exec_doneSample_low : exec (.doneSample false) s = .next s := by
  refine if_neg (mt doneSample_iff.1 ?_)
  rintro ⟨-, -, -, ⟨⟩, -⟩

theorem exec_doneSample_not (h : s.boot.running = false ∨ s.phase ≠ 4 ∨ s.msPhase 32000000 = false ∨
    s.getB Reg.DEV_START_STAT 0 = false ∨ s.boot.thawAt.isSome = true) : exec (.doneSample line) s = .next s := by
  refine if_neg (mt doneSample_iff.1 ?_)
  rintro ⟨hr, hp, hm, -, hd, ht⟩
  obtain h | h | h | h | h := h
  · exact absurd (hr.symm.trans h) (by decide)
  · exact h hp
  · exact absurd (hm.symm.trans h) (by decide)
  · exact absurd (hd.symm.trans h) (by decide)
  · rw [ht] at h
    exact absurd h (by decide)

end Done

/-! ### THAW (R303) -/

section Thaw
variable {s u v w : State} {t : DWord}

theorem exec_thaw_not (h : s.boot.thawAt = none ∨ s.boot.running = false ∨ ∃ t, s.boot.thawAt = some t ∧ s.reached t = false) :
    exec .thaw s = .next s := by
  rw [exec_thaw, execThaw]
  split
  · rfl
  · next t ht =>
    refine if_pos ?_
    rw [Bool.or_eq_true, Bool.not_eq_true', Bool.not_eq_true']
    obtain h | h | ⟨t', h, hn⟩ := h
    · cases ht.symm.trans h
    · exact .inl h
    · cases ht.symm.trans h
      exact .inr hn

/-- At its instant Thaw ends the global clear, and selects a key that is present where AUTO_STAGE asks for it. -/
theorem exec_thaw_reached (ht : s.boot.thawAt = some t) (hr : s.boot.running = true) (hre : s.reached t = true)
    (hu : u = { s with boot := { s.boot with running := false, clear := false, thawAt := none, warns := 0 } })
    (hv : v = ((((List.range 48).foldl (fun s i => s.thawSector i) (((List.range 32).foldl (fun s k => s.store (Reg.CLK_GCLK k)
      (decoded u.globalFrames 0 (fun f => Config.gclkOf f k))) u).noteClamps)).setF Reg.DEV_START_STAT 4 2 5).setD
        Reg.DEV_THAW_TIME t).arbModes 0)
    (hw : w = (List.range 7).foldl (fun s d => s.setDtype d { s.dtype d with since := t }) v) :
    exec .thaw s = .next (if w.getB Reg.KEY_CTL 6 && w.key.chip.isSome then
      (if w.key.discover then { w with key := { w.key with auto := true } } else w.keySelect none none) else w) := by
  simp only [exec_thaw, execThaw, ht, hr, hre, ← hu, ← hv, ← hw]
  rw [apply_ite Host.Outcome.next, apply_ite Host.Outcome.next]
  rfl

end Thaw

/-! ### SERVICE_ENTER and STARTUP_WRITE (R244, R295) -/

section Commands
variable {c : CmdRef} {s : State} {x : Command} {w : Word}

/-- The format stops, every sector's registers are cleared, the pins return to Frost, and the device is in SERVICE. -/
theorem exec_serviceEnter_of_turn (hx : s.turn c 3 7 = some x) : exec (.serviceEnter c) s =
    .next ((let u := (List.range 48).foldl (fun s i => (s.setSector i { s.sector i with
        ffs := [], mulP := [], mulOvf := [], mulIn := [], stb := [], evp := [], reqSeen := [] }).setB (Reg.SEC_STAT i) 1 false) s.stopFormat
      (if u.boot.frost then u.enterFrost else u).enterService).replyTo x csOK true []) := by
  simp only [exec_serviceEnter, execServiceEnter, hx]

variable (hx : s.turn c 15 1 = some x) (hw : w = BitVec.ofNat 32 (beAt x.payload 0 4))
include hx hw

theorem exec_startupWrite_badParam (h : w &&& ~~~(0xFF000F1F : Word) ≠ 0 ∨ fld w 1 0 = 3 ∨ fld w 3 2 = 3) :
    exec (.startupWrite c) s = .next (s.replyTo x csBADPARAM true []) := by
  simp only [exec_startupWrite, execStartupWrite, hx, ← hw, if_pos h]

theorem exec_startupWrite_written (h0 : w &&& ~~~(0xFF000F1F : Word) = 0) (h1 : fld w 1 0 ≠ 3) (h3 : fld w 3 2 ≠ 3) :
    exec (.startupWrite c) s = .next (((s.pendingReply x).setR Reg.DEV_STARTUP w).finish c csOK []) := by
  have hok : ¬ (w &&& ~~~(0xFF000F1F : Word) ≠ 0 ∨ fld w 1 0 = 3 ∨ fld w 3 2 = 3) := by
    simp only [h0, h1, h3, ne_eq, not_true_eq_false, or_self, not_false_eq_true]
  simp only [exec_startupWrite, execStartupWrite, hx, ← hw, if_neg hok]

end Commands

/-- Settles O44: each clause is one case of the load, of device time's start, of DONE, of Thaw or of a command. -/
theorem startupToThaw : Obligations.StartupToThaw :=
  ⟨fun _ _ => exec_baseLoad_base, fun _ _ _ _ hr hp h0 hu => exec_baseLoad_golden hr hp h0 hu,
    fun _ _ _ _ hr hp h0 hu => exec_baseLoad_service hr hp h0 hu, fun _ _ => State.wholeLoad_notValid,
    fun _ => exec_baseLoad_not, fun _ => exec_timeWaitExpiry_starts, fun _ => exec_timeWaitExpiry_not,
    fun _ => exec_doneReleasePoint_released, fun _ => exec_doneReleasePoint_not, fun _ => State.ready_iff,
    fun _ _ hr hp hm hd ht hu => ⟨exec_doneSample_high hr hp hm hd ht hu, exec_doneSample_low⟩,
    fun _ _ => exec_doneSample_not, fun _ => exec_thaw_not, fun _ _ _ _ _ => exec_thaw_reached,
    fun _ _ _ => exec_serviceEnter_of_turn, fun _ _ _ _ hx hw => exec_startupWrite_written hx hw,
    fun _ _ _ _ hx hw => exec_startupWrite_badParam hx hw⟩

end Sys2Proof.Machine
end

section
/-!
PROOF. What HOLD and STOP, VAULT_PROV, the firmware commands and TEST_UNLOCK answer (R254, R350, R396, R397, R402, R487), case by case,
and the obligation HoldAndMaintenance.
-/
namespace Sys2Proof.Machine

/-! ### What runs for each command -/

theorem exec_hold (c : CmdRef) (s : State) : exec (.hold c) s = execHold c s := rfl
theorem exec_stop (c : CmdRef) (s : State) : exec (.stop c) s = execStop c s := rfl
theorem exec_vaultProv (c : CmdRef) (s : State) : exec (.vaultProv c) s = execVaultProv c s := rfl
theorem exec_fwBegin (c : CmdRef) (s : State) : exec (.fwBegin c) s = execFwBegin c s := rfl
theorem exec_fwData (c : CmdRef) (s : State) : exec (.fwData c) s = execFwData c s := rfl
theorem exec_fwDataGap (s : State) : exec .fwDataGap s = execFwDataGap s := rfl
theorem exec_fwEnd (c : CmdRef) (ok : Bool) (s : State) : exec (.fwEnd c ok) s = execFwEnd c ok s := rfl
theorem exec_testUnlock (c : CmdRef) (s : State) : exec (.testUnlock c) s = execTestUnlock c s := rfl

/-! ### HOLD (R396) -/

section Hold
variable {c : CmdRef} {s : State} {x : Command} {h : HoldSpec}

/-- Without a flag nothing is done. -/
theorem State.applyFlags_zero (hf : h.flags = 0) : s.applyFlags h = (s, 0, 0) := by
  simp only [State.applyFlags, hf, Nat.zero_testBit, Bool.false_eq_true, if_false]

/-- FLAGS [2] alone clears RUN_EN of the engines named. -/
theorem State.applyFlags_engines (hf : h.flags = 4) : s.applyFlags h = (s.overMask h.engines State.clearRun, 0, 0) := by
  simp [State.applyFlags, hf, Nat.testBit]

theorem State.applyHold_of_flags {t : State} {a b : Nat} (hf : s.applyFlags h = (t, a, b)) :
    s.applyHold h = (t.raise 242 h.code, a, b) := by
  rw [State.applyHold, hf]

variable (hx : s.turn c 10 4 = some x)
include hx

theorem exec_hold_applied (hf : (holdSpec x.payload).flags < 16) :
    exec (.hold c) s = .next ((s.applyHold (holdSpec x.payload)).1.replyTo x csOK true
      (holdReply (s.applyHold (holdSpec x.payload)).2.1 (s.applyHold (holdSpec x.payload)).2.2)) := by
  simp only [exec_hold, execHold, hx, if_neg (Nat.not_le.2 hf)]

theorem exec_hold_badParam (hf : 16 ≤ (holdSpec x.payload).flags) : exec (.hold c) s = .next (s.replyTo x csBADPARAM true []) := by
  simp only [exec_hold, execHold, hx, if_pos hf]

end Hold

/-! ### STOP (R397) -/

section Stop
variable {c : CmdRef} {s u : State} {x : Command} {h : HoldSpec} {a b : Nat}

/-- The bit above every bit of a number below 16, and the highest bit of one from 16 to 31. -/
theorem testBit_four_of_lt {n : Nat} (hn : n < 16) : n.testBit 4 = false := Nat.testBit_lt_two_pow hn

theorem testBit_four_of_ge {n : Nat} (h16 : 16 ≤ n) (h32 : n < 32) : n.testBit 4 = true := by
  rw [Nat.testBit_eq_decide_div_mod_eq, decide_eq_true_eq]
  omega

variable (hx : s.turn c 10 5 = some x) (hh : h = holdSpec x.payload)
include hx hh

theorem exec_stop_badParam (h32 : 32 ≤ h.flags) : exec (.stop c) s = .next (s.replyTo x csBADPARAM true []) := by
  simp only [exec_stop, execStop, hx, ← hh, if_pos h32]

variable (hf : s.applyFlags h = (u, a, b))
include hf

theorem exec_stop_applied (h32 : h.flags < 32) : exec (.stop c) s =
    .next ((((if h.flags.testBit 4 then u.overMask h.engines State.stopEngine else u).raise 243 h.code).endLease 8).replyTo x csOK true
      (holdReply a b)) := by
  simp only [exec_stop, execStop, hx, ← hh, if_neg (Nat.not_le.2 h32), hf]

theorem exec_stop_noEngines (h16 : h.flags < 16) :
    exec (.stop c) s = .next (((u.raise 243 h.code).endLease 8).replyTo x csOK true (holdReply a b)) := by
  rw [exec_stop_applied hx hh hf (by omega), testBit_four_of_lt h16, if_neg Bool.false_ne_true]

/-- FLAGS [4] stops the engines named. -/
theorem exec_stop_engines (h16 : 16 ≤ h.flags) (h32 : h.flags < 32) : exec (.stop c) s =
    .next ((((u.overMask h.engines State.stopEngine).raise 243 h.code).endLease 8).replyTo x csOK true (holdReply a b)) := by
  rw [exec_stop_applied hx hh hf h32, testBit_four_of_ge h16 h32, if_pos rfl]

end Stop

/-! ### VAULT_PROV (R254, R402) -/

section Vault
variable {c : CmdRef} {s : State} {x : Command} {kind i : Nat} (hx : s.turn c 15 2 = some x) (hk : kind = beAt x.payload 0 1)
  (hi : i = beAt x.payload 1 1)
include hx hk hi

theorem exec_vaultProv_badParam (hb : 3 < kind ∨ (kind ≠ 3 ∧ (if kind = 1 then 4 else 8) ≤ i)) :
    exec (.vaultProv c) s = .next (s.replyTo x csBADPARAM true []) := by
  subst hk hi
  simp only [exec_vaultProv, execVaultProv, hx, if_pos hb]

variable (h3 : kind ≤ 3) (hok : kind = 3 ∨ i < (if kind = 1 then 4 else 8))
include h3 hok

theorem exec_vaultProv_notService (h : s.inServiceMode = false ∨ x.iface ≠ 2) :
    exec (.vaultProv c) s = .next (s.replyTo x csNOTSERVICE true []) := by
  have hb : ¬ (3 < kind ∨ (kind ≠ 3 ∧ (if kind = 1 then 4 else 8) ≤ i)) := by omega
  subst hk hi
  simp only [exec_vaultProv, execVaultProv, hx, if_neg hb, if_pos h]

/-- In SERVICE over the service port the key is provisioned, or refused with its status. -/
theorem exec_vaultProv_served (hs : s.inServiceMode = true) (hp : x.iface = 2) : exec (.vaultProv c) s = .next
    (if (s.provision kind i (x.payload.drop 2)).2 ≠ 0 then s.replyTo x (s.provision kind i (x.payload.drop 2)).2 true []
     else ((s.provision kind i (x.payload.drop 2)).1.pendingReply x).finish c csOK []) := by
  have hb : ¬ (3 < kind ∨ (kind ≠ 3 ∧ (if kind = 1 then 4 else 8) ≤ i)) := by omega
  have hn : ¬ (s.inServiceMode = false ∨ x.iface ≠ 2) := by simp [hs, hp]
  subst hk hi
  simp only [exec_vaultProv, execVaultProv, hx, if_neg hb, if_neg hn]
  exact (apply_ite Host.Outcome.next _ _ _).symm

end Vault

section Aes
variable {c : CmdRef} {s : State} {x : Command} (hx : s.turn c 15 2 = some x) (h0 : beAt x.payload 0 1 = 0)
  (h8 : beAt x.payload 1 1 < 8)

/-- A key that the vault has is not provisioned again. -/
theorem State.provision_aes_busy {i : Nat} {v : List Byte} (h : vaultHas s.cfg.aes i = true) : s.provision 0 i v = (s, csBUSY) := if_pos h

theorem State.provision_aes_new {i : Nat} {v : List Byte} (h : vaultHas s.cfg.aes i = false) :
    s.provision 0 i v = ({ s with cfg := { s.cfg with aes := tabInsert s.cfg.aes i v } }, 0) := if_neg (Bool.eq_false_iff.1 h)

include hx h0 h8

theorem exec_vaultProv_aes_notService (hs : s.inServiceMode = false) :
    exec (.vaultProv c) s = .next (s.replyTo x csNOTSERVICE true []) :=
  exec_vaultProv_notService hx h0.symm rfl (by decide) (.inr h8) (.inl hs)

variable (hs : s.inServiceMode = true) (hp : x.iface = 2)
include hs hp

theorem exec_vaultProv_aes_busy (hv : vaultHas s.cfg.aes (beAt x.payload 1 1) = true) :
    exec (.vaultProv c) s = .next (s.replyTo x csBUSY true []) := by
  rw [exec_vaultProv_served hx h0.symm rfl (by decide) (.inr h8) hs hp, State.provision_aes_busy hv]
  rfl

theorem exec_vaultProv_aes_new (hv : vaultHas s.cfg.aes (beAt x.payload 1 1) = false) :
    exec (.vaultProv c) s = .next ((({ s with cfg := { s.cfg with
      aes := tabInsert s.cfg.aes (beAt x.payload 1 1) (x.payload.drop 2) } } : State).pendingReply x).finish c csOK []) := by
  rw [exec_vaultProv_served hx h0.symm rfl (by decide) (.inr h8) hs hp, State.provision_aes_new hv]
  rfl

end Aes

/-! ### FW_BEGIN, FW_DATA, FW_DATA_GAP and FW_END (R350, R399) -/

section Firmware
variable {c : CmdRef} {s t : State} {x : Command} {u : FwUpdate} {k : Nat}

section Begin
variable (hx : s.turn c 15 3 = some x)
include hx

theorem exec_fwBegin_busy (h : s.boot.fwUp.isSome = true) : exec (.fwBegin c) s = .next (s.replyTo x csBUSY true []) := by
  simp only [exec_fwBegin, execFwBegin, hx, if_pos h]

/-- An update begins in the slot that did not start, which is bootable no longer. -/
theorem exec_fwBegin_begun (hk : k = if s.boot.fwSlot = 0 then 1 else 0) (h : s.boot.fwUp = none) :
    exec (.fwBegin c) s = .next (({ s with boot := { s.boot with
      fwUp := some { total := beAt x.payload 0 4, last := s.time }, fwMem := tabErase s.boot.fwMem k,
      fwBoot := s.boot.fwBoot.filter (fun j => j != k) } } : State).replyTo x csOK true []) := by
  subst hk
  simp only [exec_fwBegin, execFwBegin, hx, h]
  rfl

end Begin

section Data
variable (hx : s.turn c 15 5 = some x)
include hx

theorem exec_fwData_none (hu : s.boot.fwUp = none) : exec (.fwData c) s = .next (s.replyTo x csBADPARAM true []) := by
  simp only [exec_fwData, execFwData, hx, hu]

variable (hu : s.boot.fwUp = some u)
include hu

theorem exec_fwData_badParam (h : beAt x.payload 0 4 ≠ u.data.length ∨ u.total < (u.data ++ x.payload.drop 4).length) :
    exec (.fwData c) s = .next (s.replyTo x csBADPARAM true []) := by
  simp only [exec_fwData, execFwData, hx, hu, if_pos h]

theorem exec_fwData_taken (hk : k = if s.boot.fwSlot = 0 then 1 else 0) (h : beAt x.payload 0 4 = u.data.length)
    (hl : (u.data ++ x.payload.drop 4).length ≤ u.total) : exec (.fwData c) s =
    .next (({ s with boot := { s.boot with
      fwUp := some { u with data := u.data ++ x.payload.drop 4, last := s.time },
      fwMem := tabInsert s.boot.fwMem k (u.data ++ x.payload.drop 4) } } : State).replyTo x csOK true []) := by
  have hok : ¬ (beAt x.payload 0 4 ≠ u.data.length ∨ u.total < (u.data ++ x.payload.drop 4).length) := by omega
  subst hk
  simp only [exec_fwData, execFwData, hx, hu, if_neg hok]
  rfl

end Data

theorem exec_fwDataGap_idle (hu : s.boot.fwUp = none) : exec .fwDataGap s = .next s := by
  simp only [exec_fwDataGap, execFwDataGap, hu]

theorem exec_fwDataGap_ends (hu : s.boot.fwUp = some u) (hl : u.data.length < u.total) (ht : (6400000000 : Int) ≤ tdiff s.time u.last) :
    exec .fwDataGap s = .next { s with boot := { s.boot with fwUp := none } } := by
  simp only [exec_fwDataGap, execFwDataGap, hu]
  exact if_pos ⟨hl, ht⟩

theorem exec_fwDataGap_not (hu : s.boot.fwUp = some u) (h : u.total ≤ u.data.length ∨ tdiff s.time u.last < (6400000000 : Int)) :
    exec .fwDataGap s = .next s := by
  simp only [exec_fwDataGap, execFwDataGap, hu]
  refine if_neg ?_
  rintro ⟨hl, ht⟩
  obtain h | h := h
  · exact absurd hl (Nat.not_lt.2 h)
  · exact absurd ht (Int.not_le.2 h)

section End
variable (hx : s.turn c 15 6 = some x)
include hx

theorem exec_fwEnd_none {ok : Bool} (hu : s.boot.fwUp = none) : exec (.fwEnd c ok) s = .next (s.replyTo x csBADPARAM true []) := by
  simp only [exec_fwEnd, execFwEnd, hx, hu]

variable (hu : s.boot.fwUp = some u) (ht : t = ({ s with boot := { s.boot with fwUp := none } } : State).pendingReply x)
include hu ht

/-- An update that is not whole, or whose content does not pass, is not verified. -/
theorem exec_fwEnd_fails {ok : Bool} (h : ¬ (ok = true ∧ u.data.length = u.total)) :
    exec (.fwEnd c ok) s = .next (t.finish c csOK (beBytes 1 Config.fwFailed.toNat)) := by
  simp only [exec_fwEnd, execFwEnd, hx, hu, if_neg h, ← ht]

/-- A verified update makes its slot bootable. -/
theorem exec_fwEnd_bootable (hk : k = if s.boot.fwSlot = 0 then 1 else 0) (h : u.data.length = u.total) : exec (.fwEnd c true) s =
    .next (({ t with boot := { t.boot with fwBoot := k :: t.boot.fwBoot } } : State).finish c csOK (beBytes 1 0)) := by
  subst hk
  simp only [exec_fwEnd, execFwEnd, hx, hu, ← ht]
  exact if_pos ⟨trivial, h⟩

end End
end Firmware

/-! ### TEST_UNLOCK (R487) -/

section Unlock
variable {c : CmdRef} {s u : State} {x : Command} (hx : s.turn c 15 4 = some x)
include hx

theorem exec_testUnlock_notService (h : s.inServiceMode = false) :
    exec (.testUnlock c) s = .next (s.replyTo x csNOTSERVICE true []) := by
  simp only [exec_testUnlock, execTestUnlock, hx, if_pos h]

/-- After the reply the loaded keys are zeroised, every session closes, and the arbiters go into TEST. -/
theorem exec_testUnlock_unlocks (h : s.inServiceMode = true) (hu : u = s.replyTo x csOK true []) :
    exec (.testUnlock c) s = .next (((((List.range 4).foldl (fun s k => if (s.session k).state = 0 then s else s.closeSession k false)
      ({ u with tst := { u.tst with zeroised := true } } : State)).setF Reg.TST_SCAN 1 0 3).arbModes 2).raise 223 3) := by
  have hno : ¬ s.inServiceMode = false := ne_of_eq_of_ne h (by decide)
  simp only [exec_testUnlock, execTestUnlock, hx, if_neg hno, ← hu]

end Unlock

/-- Settles O59: each clause is one case of HOLD, of STOP, of a vault key, of a firmware update or of TEST_UNLOCK. -/
theorem holdAndMaintenance : Obligations.HoldAndMaintenance :=
  ⟨fun _ _ _ hx => ⟨exec_hold_applied hx, exec_hold_badParam hx⟩,
    fun _ _ hf => State.applyHold_of_flags (State.applyFlags_zero hf),
    fun _ _ hf => State.applyHold_of_flags (State.applyFlags_engines hf),
    fun _ _ _ _ _ _ _ hx hh hf => ⟨exec_stop_noEngines hx hh hf, exec_stop_badParam hx hh, exec_stop_engines hx hh hf⟩,
    fun _ _ _ hx h0 h8 => ⟨exec_vaultProv_aes_notService hx h0 h8, exec_vaultProv_aes_busy hx h0 h8, exec_vaultProv_aes_new hx h0 h8⟩,
    fun _ _ _ _ _ hx hk hi => ⟨exec_vaultProv_badParam hx hk hi, fun h3 hok =>
      ⟨exec_vaultProv_notService hx hk hi h3 hok, exec_vaultProv_served hx hk hi h3 hok⟩⟩,
    fun _ _ _ _ hx hk => ⟨exec_fwBegin_begun hx hk, exec_fwBegin_busy hx⟩,
    fun _ _ _ _ _ hx hu hk => ⟨exec_fwData_badParam hx hu, exec_fwData_taken hx hu hk⟩,
    fun _ _ => exec_fwDataGap_ends, fun _ => exec_fwDataGap_idle, fun _ _ => exec_fwDataGap_not,
    fun _ _ _ _ hu => ⟨fun hx => exec_fwData_none hx hu, fun hx => exec_fwEnd_none hx hu⟩,
    fun _ _ _ _ _ _ hx hu hk ht => ⟨fun h => exec_fwEnd_fails hx hu ht fun hok => h hok.2, exec_fwEnd_bootable hx hu ht hk,
      exec_fwEnd_fails hx hu ht fun hok => Bool.false_ne_true hok.1⟩,
    fun _ _ _ hx => exec_testUnlock_notService hx, fun _ _ _ _ hx => exec_testUnlock_unlocks hx⟩

end Sys2Proof.Machine
end

section
/-!
PROOF. What a reset keeps, what each of its sources does, and the last-gasp area (R294, R305–R307, R310, R311), case by case, and the
obligation ResetsAndSupply.
-/
namespace Sys2Proof.Machine

/-! ### What runs for each command -/

theorem exec_powerUp (vin : BitVec 16) (s : State) : exec (.powerUp vin) s = execPowerUp vin s := rfl
theorem exec_supplyBelowReset (s : State) : exec .supplyBelowReset s = execSupplyBelowReset s := rfl
theorem exec_resetNAssert (s : State) :
    exec .resetNAssert s = .next (({ s with boot := { s.boot with resetN := true } } : State).afterReset false) := rfl
theorem exec_resetNRelease (s : State) : exec .resetNRelease s = execResetNRelease s := rfl
theorem exec_managementWatchdog (s : State) : exec .managementWatchdog s = .next (s.resetNow true 3) := rfl
theorem exec_gaspSectorErase (s : State) : exec .gaspSectorErase s = execGaspSectorErase s := rfl

/-! ### The device as a reset leaves it (R305) -/

section AfterReset
variable (s : State) (warm : Bool)

@[simp] theorem State.resetRegs_time (lo len : Nat) : (s.resetRegs lo len).time = s.time := rfl
@[simp] theorem State.resetRegs_cfg (lo len : Nat) : (s.resetRegs lo len).cfg = s.cfg := rfl
@[simp] theorem State.resetRegs_act (lo len : Nat) : (s.resetRegs lo len).act = s.act := rfl
@[simp] theorem State.resetRegs_pending (lo len : Nat) : (s.resetRegs lo len).pending = s.pending := rfl
@[simp] theorem State.resetRegs_tst (lo len : Nat) : (s.resetRegs lo len).tst = s.tst := rfl

@[simp] theorem State.abandonNv_time : s.abandonNv.time = s.time := by rw [State.abandonNv_eq]
@[simp] theorem State.abandonNv_cfg : s.abandonNv.cfg = s.cfg := by rw [State.abandonNv_eq]
@[simp] theorem State.abandonNv_pending : s.abandonNv.pending = s.pending := by rw [State.abandonNv_eq]
@[simp] theorem State.abandonNv_tst : s.abandonNv.tst = s.tst := by rw [State.abandonNv_eq]

/-- Device time is kept by a warm reset and starts from zero after a cold one. -/
theorem State.afterReset_time : (s.afterReset warm).time = if warm then s.time else 0 := by
  cases warm <;> simp [State.afterReset]

/-- Of the configuration the slots, the vault and its settings stay. -/
theorem State.afterReset_cfg : (s.afterReset warm).cfg =
    { slots := s.cfg.slots, aes := s.cfg.aes, pub := s.cfg.pub, hk := s.cfg.hk, requireEnc := s.cfg.requireEnc,
      minSvn := s.cfg.minSvn } := by
  cases warm <;> simp [State.afterReset]

/-- Of the calendar and the action units nothing stays. -/
theorem State.afterReset_act : (s.afterReset warm).act = {} := by
  cases warm <;> simp [State.afterReset]

theorem State.afterReset_pending : (s.afterReset warm).pending = s.pending := by
  cases warm <;> simp [State.afterReset]

theorem State.afterReset_rlog : (s.afterReset warm).tst.rlog = s.tst.rlog := by
  cases warm <;> simp [State.afterReset]

end AfterReset

/-! ### A reset of a powered device, and the register that orders it (R306) -/

section ResetNow
variable {s : State} {w : Word} {warm : Bool} {source kind : Nat}

section Held
variable (h : s.boot.supply = false ∨ s.boot.resetN = true)
include h

/-- Without supply, and under RESET_N, no other source acts. -/
theorem State.resetNow_held : s.resetNow warm source = s := by
  refine if_pos ?_
  rw [Bool.or_eq_true, Bool.not_eq_true']
  exact h

theorem State.writeResetCtl_held : s.writeResetCtl w = s := by
  unfold State.writeResetCtl
  split
  · rfl
  · split
    · exact State.resetNow_held h
    · exact State.resetNow_held h
    · rfl

theorem State.resetRow_reg_held : s.resetRow (.reg w) kind = s := by
  rw [State.resetRow, State.writeResetCtl_held h, ite_self]

end Held

theorem State.resetNow_powered (hs : s.boot.supply = true) (hr : s.boot.resetN = false) :
    s.resetNow warm source = (s.afterReset warm).beginStart source warm := by
  refine if_neg ?_
  rw [hs, hr]
  decide

theorem State.resetRow_reg_otherKind (h : fld w 1 0 ≠ kind) : s.resetRow (.reg w) kind = s := if_neg h

theorem State.resetRow_reg_noKey (h : fld w 31 16 ≠ 0x5A3C) : s.resetRow (.reg w) kind = s := by
  rw [State.resetRow, State.writeResetCtl, if_pos h, ite_self]

section Keyed
variable (hk : fld w 31 16 = 0x5A3C)
include hk

theorem State.resetRow_reg_cold (h : fld w 1 0 = 1) : s.resetRow (.reg w) 1 = s.resetNow false 5 := by
  simp only [State.resetRow, State.writeResetCtl, h, hk, ne_eq, not_true_eq_false, if_true, if_false]

theorem State.resetRow_reg_warm (h : fld w 1 0 = 2) : s.resetRow (.reg w) 2 = s.resetNow true 5 := by
  simp only [State.resetRow, State.writeResetCtl, h, hk, ne_eq, not_true_eq_false, if_true, if_false]

end Keyed
end ResetNow

/-! ### The supply (R294, R310) -/

section Supply
variable {s u : State} {vin : BitVec 16}

theorem exec_powerUp_not (h : s.boot.supply = true ∨ vin.toNat ≤ 3300) : exec (.powerUp vin) s = .next s := if_pos h

section Rises
variable (hs : s.boot.supply = false) (hv : 3300 < vin.toNat) (hu : u = (s.afterReset false).setF Reg.ANA_IN_STAT 15 0 vin.toNat)
include hs hv hu

/-- The supply is there, and GASP_NEW shows a record that was written at its fall; start-up begins unless RESET_N holds it. -/
theorem exec_powerUp_rises : exec (.powerUp vin) s = .next
    (if u.boot.resetN then ({ u with boot := { u.boot with supply := true, gaspNew := false } } : State).setB
        Reg.DEV_RESET_STAT 8 s.boot.gaspNew
     else (({ u with boot := { u.boot with supply := true, gaspNew := false } } : State).setB
        Reg.DEV_RESET_STAT 8 s.boot.gaspNew).beginStart (if s.boot.gaspNew then 1 else 0) false) := by
  have hno : ¬ (s.boot.supply = true ∨ vin.toNat ≤ 3300) := by simp [hs, hv]
  rw [exec_powerUp, execPowerUp, if_neg hno, apply_ite Host.Outcome.next]
  subst hu
  rfl

theorem exec_powerUp_starts (hr : u.boot.resetN = false) : exec (.powerUp vin) s =
    .next ((({ u with boot := { u.boot with supply := true, gaspNew := false } } : State).setB
      Reg.DEV_RESET_STAT 8 s.boot.gaspNew).beginStart (if s.boot.gaspNew then 1 else 0) false) := by
  rw [exec_powerUp_rises hs hv hu, hr, if_neg Bool.false_ne_true]

theorem exec_powerUp_underResetN (hr : u.boot.resetN = true) : exec (.powerUp vin) s =
    .next (({ u with boot := { u.boot with supply := true, gaspNew := false } } : State).setB
      Reg.DEV_RESET_STAT 8 s.boot.gaspNew) := by
  rw [exec_powerUp_rises hs hv hu, if_pos hr]

end Rises

theorem exec_supplyBelowReset_unpowered (hs : s.boot.supply = false) : exec .supplyBelowReset s = .next s := by
  rw [exec_supplyBelowReset, execSupplyBelowReset, hs]
  rfl

section Falls
variable (hs : s.boot.supply = true)
include hs

/-- The last-gasp record goes to the lowest pre-erased slot. -/
theorem exec_supplyBelowReset_recorded {k : Nat} (hg : s.freeGasp = some k) : exec .supplyBelowReset s =
    .next (({ s with boot := { s.boot with
      supply := false, gasp := tabInsert s.boot.gasp k s.gaspRecord, gaspNew := true } } : State).afterReset false) := by
  simp only [exec_supplyBelowReset, execSupplyBelowReset, hs, hg, Bool.not_true, Bool.false_eq_true, if_false]

/-- Without a pre-erased slot no record is left. -/
theorem exec_supplyBelowReset_full (hg : s.freeGasp = none) : exec .supplyBelowReset s =
    .next (({ s with boot := { s.boot with supply := false } } : State).afterReset false) := by
  simp only [exec_supplyBelowReset, execSupplyBelowReset, hs, hg, Bool.not_true, Bool.false_eq_true, if_false]

end Falls
end Supply

/-! ### RESET_N (R307) -/

section ResetN
variable {s : State}

theorem exec_resetNRelease_not (h : s.boot.resetN = false) : exec .resetNRelease s = .next s := by
  rw [exec_resetNRelease, execResetNRelease, h]
  rfl

variable (h : s.boot.resetN = true)
include h

theorem exec_resetNRelease_starts (hs : s.boot.supply = true) : exec .resetNRelease s =
    .next (({ s with boot := { s.boot with resetN := false } } : State).beginStart 2 false) := by
  simp only [exec_resetNRelease, execResetNRelease, h, hs, Bool.not_true, Bool.false_eq_true, if_true, if_false]

theorem exec_resetNRelease_unpowered (hs : s.boot.supply = false) :
    exec .resetNRelease s = .next { s with boot := { s.boot with resetN := false } } := by
  simp only [exec_resetNRelease, execResetNRelease, h, hs, Bool.not_true, Bool.false_eq_true, if_false]

end ResetN

/-! ### The command RESET on a powered device (R306) -/

section ResetCommand
variable {c : CmdRef} {s u t : State} {x : Command} (hx : s.turn c 15 0 = some x) (hu : u = (s.replyTo x csOK true []).flushPorts)
  (hs : u.boot.supply = true) (hr : u.boot.resetN = false)
include hx hu hs hr

theorem exec_coldReset_ordered (hk : beAt x.payload 0 1 = 1) (ht : t = (u.afterReset false).beginStart 4 false) :
    exec (.coldReset (.cmd c)) s = .next { t with cmd := { t.cmd with svcQueue := u.cmd.svcQueue } } := by
  rw [exec_coldReset, State.resetRow_of_kind hx hu hk (.inl rfl) (ht.trans (State.resetNow_powered hs hr).symm)]

theorem exec_warmReset_ordered (hk : beAt x.payload 0 1 = 2) (ht : t = (u.afterReset true).beginStart 4 true) :
    exec (.warmReset (.cmd c)) s = .next { t with cmd := { t.cmd with svcQueue := u.cmd.svcQueue } } := by
  rw [exec_warmReset, State.resetRow_of_kind hx hu hk (.inr rfl) (ht.trans (State.resetNow_powered hs hr).symm)]

end ResetCommand

/-! ### The sectors of the last-gasp area (R311) -/

section Gasp
variable {s : State}

section Thawed
variable {n : Nat} (hd : s.thawed = true) (hn : n = ((newestGasp s.boot.gasp).map (fun p => p.1 / 64)).getD 0)
include hd hn

/-- From Thaw the older sector is erased where it is full. -/
theorem exec_gaspSectorErase_older (h : 64 ≤ (s.boot.gasp.filter (fun p => p.1 / 64 == 1 - n)).length) : exec .gaspSectorErase s =
    .next { s with boot := { s.boot with gasp := s.boot.gasp.filter (fun p => p.1 / 64 != 1 - n) } } := by
  rw [exec_gaspSectorErase, execGaspSectorErase]
  simp only [hd, ← hn, h, decide_true, if_true]

variable (h : (s.boot.gasp.filter (fun p => p.1 / 64 == 1 - n)).length < 64)
include h

/-- The newer one is erased where it alone is full. -/
theorem exec_gaspSectorErase_newer (h' : 64 ≤ (s.boot.gasp.filter (fun p => p.1 / 64 == n)).length) : exec .gaspSectorErase s =
    .next { s with boot := { s.boot with gasp := s.boot.gasp.filter (fun p => p.1 / 64 != n) } } := by
  rw [exec_gaspSectorErase, execGaspSectorErase]
  simp only [hd, ← hn, Nat.not_le.2 h, h', decide_true, decide_false, Bool.false_eq_true, if_true, if_false]

theorem exec_gaspSectorErase_neitherFull (h' : (s.boot.gasp.filter (fun p => p.1 / 64 == n)).length < 64) :
    exec .gaspSectorErase s = .next s := by
  rw [exec_gaspSectorErase, execGaspSectorErase]
  simp only [hd, ← hn, Nat.not_le.2 h, Nat.not_le.2 h', decide_false, Bool.false_eq_true, if_true, if_false]

end Thawed

section Starting
variable (hd : s.thawed = false)
include hd

theorem exec_gaspSectorErase_notNeeded (h : s.boot.running = false ∨ s.freeGasp ≠ none) : exec .gaspSectorErase s = .next s := by
  have hno : ¬ (s.boot.running = true ∧ s.freeGasp = none) := by
    rintro ⟨hr, hf⟩
    exact h.elim (fun h => absurd (hr.symm.trans h) (by decide)) (fun h => h hf)
  rw [exec_gaspSectorErase, execGaspSectorErase]
  simp only [hd, hno, Bool.false_eq_true, if_false]

/-- A start-up that finds no pre-erased slot erases the sector without the newest record. -/
theorem exec_gaspSectorErase_starting (hr : s.boot.running = true) (hf : s.freeGasp = none) : exec .gaspSectorErase s =
    .next { s with boot := { s.boot with
      gasp := s.boot.gasp.filter (fun p => p.1 / 64 != 1 - ((newestGasp s.boot.gasp).map (fun p => p.1 / 64)).getD 0) } } := by
  rw [exec_gaspSectorErase, execGaspSectorErase]
  simp only [hd, hr, hf, and_self, Bool.false_eq_true, if_true, if_false]

end Starting
end Gasp

/-- Settles O43: each clause is one case of the supply, of RESET_N, of a reset's source, of what a reset keeps, or of the last-gasp
area. -/
theorem resetsAndSupply : Obligations.ResetsAndSupply := by
  refine ⟨fun _ _ => exec_powerUp_not, fun _ _ _ hs hv hu => ⟨exec_powerUp_starts hs hv hu, exec_powerUp_underResetN hs hv hu⟩,
    fun _ _ hs => exec_supplyBelowReset_recorded hs, fun _ => exec_supplyBelowReset_full, fun _ => exec_supplyBelowReset_unpowered,
    exec_resetNAssert, fun _ => exec_resetNRelease_starts, fun _ => exec_resetNRelease_unpowered, fun _ => exec_resetNRelease_not,
    fun _ _ h => ⟨?_, ?_, ?_⟩,
    fun _ _ _ _ hx hu hs hr _ => ⟨exec_coldReset_ordered hx hu hs hr, exec_warmReset_ordered hx hu hs hr⟩,
    fun _ _ _ hx h1 h2 => ⟨?_, ?_⟩, fun _ _ hk h hs hr => ?_, fun _ _ hk h hs hr => ?_, fun _ _ h => ?_, fun _ _ h => ?_,
    fun _ _ h => ⟨?_, ?_⟩, fun _ hs hr => ?_,
    fun s warm => ⟨s.afterReset_time warm, ?_, ?_, ?_, ?_, ?_, ?_, ?_, by rw [State.afterReset_act],
      s.afterReset_pending warm, s.afterReset_rlog warm⟩,
    fun _ _ hd hn => ⟨exec_gaspSectorErase_older hd hn, exec_gaspSectorErase_newer hd hn, exec_gaspSectorErase_neitherFull hd hn⟩,
    fun _ => exec_gaspSectorErase_notNeeded, fun _ => exec_gaspSectorErase_starting⟩
  · rw [exec_coldReset, State.resetRow_reg_held h]
  · rw [exec_warmReset, State.resetRow_reg_held h]
  · rw [exec_managementWatchdog, State.resetNow_held h]
  · rw [exec_coldReset, State.resetRow_badParam hx h1 h2]
  · rw [exec_warmReset, State.resetRow_badParam hx h1 h2]
  · rw [exec_coldReset, State.resetRow_reg_cold hk h, State.resetNow_powered hs hr]
  · rw [exec_warmReset, State.resetRow_reg_warm hk h, State.resetNow_powered hs hr]
  · rw [exec_coldReset, State.resetRow_reg_otherKind h]
  · rw [exec_warmReset, State.resetRow_reg_otherKind h]
  · rw [exec_coldReset, State.resetRow_reg_noKey h]
  · rw [exec_warmReset, State.resetRow_reg_noKey h]
  · rw [exec_managementWatchdog, State.resetNow_powered hs hr]
  all_goals rw [State.afterReset_cfg]

end Sys2Proof.Machine
end

section
/-!
PROOF. What an insertion, a discovery, a removal and an overcurrent do to the recipe key's port, and what SELECT, RESCAN, KEY_STAT and
KEY_READ answer (R313–R321, R324, R329, R399), case by case, and the obligation RecipeKeyPort.
-/
namespace Sys2Proof.Machine

/-! ### What runs for each command -/

theorem exec_keyInsertion (k : KeyChip) (s : State) : exec (.keyInsertion k) s = execKeyInsertion k s := rfl
theorem exec_keyRemoval (s : State) : exec .keyRemoval s = execKeyRemoval s := rfl
theorem exec_keyDiscovery (s : State) : exec .keyDiscovery s = execKeyDiscovery s := rfl
theorem exec_keyVoltageRetry (s : State) : exec .keyVoltageRetry s = execKeyVoltageRetry s := rfl
theorem exec_keyOvercurrent (s : State) : exec .keyOvercurrent s = execKeyOvercurrent s := rfl
theorem exec_keySelect (v : Via) (s : State) : exec (.keySelect v) s = execKeySelect v s := rfl
theorem exec_keyRescan (v : Via) (s : State) : exec (.keyRescan v) s = execKeyRescan v s := rfl
theorem exec_keyStat (c : CmdRef) (s : State) : exec (.keyStat c) s = execKeyStat c s := rfl
theorem exec_keyRead (c : CmdRef) (s : State) : exec (.keyRead c) s = execKeyRead c s := rfl

/-! ### Insertion and removal (R313, R324, R329) -/

section Presence
variable {s u v : State} {k j : KeyChip}

theorem exec_keyInsertion_begins (hk : s.key.chip = none)
    (hu : u = ({ s with key := { s.key with chip := some k } } : State).raise 192 1) :
    exec (.keyInsertion k) s = .next (u.keyDiscover (s.thawed && s.getB Reg.KEY_CTL 6)) := by
  simp only [exec_keyInsertion, execKeyInsertion, hk, Option.isSome_none, Bool.false_eq_true, if_false, hu]
  rfl

theorem exec_keyInsertion_present (hk : s.key.chip = some j) : exec (.keyInsertion k) s = .next s := by
  simp only [exec_keyInsertion, execKeyInsertion, hk, Option.isSome_some, if_true]

theorem exec_keyRemoval_noKey (hk : s.key.chip = none) : exec .keyRemoval s = .next s := by
  simp only [exec_keyRemoval, execKeyRemoval, hk, Option.isNone_none, if_true]

/-- The commands that wait on the key are answered NO_KEY. -/
theorem exec_keyRemoval_removed (hk : s.key.chip = some k) (hu : u = { s.dropDue with key := { s.dropDue.key with
      chip := none, retry := false, discover := false, auto := false, goldOk := false, due := none, bound := [], dirty := [], journal := none,
      wbDue := false, wbCmd := none, rescan := none } })
    (hv : v = (((u.addF Reg.KEY_WB_LOST 15 0 s.key.dirty.length).raise 193 1).raise 197 2).keyGone.cutStaging) :
    exec .keyRemoval s = .next ((v.finishOpt s.key.wbCmd (csOf 6 1) (beBytes 2 0)).finishOpt s.key.rescan (csOf 6 1)
      (beBytes 4 (v.getR Reg.KEY_STAT).toNat)) := by
  simp only [exec_keyRemoval, execKeyRemoval, hk, Option.isNone_some, Bool.false_eq_true, if_false, hv, hu, ksNOKEY]

end Presence

/-! ### Discovery and the supply (R314, R315, R317, R319) -/

section Discovery
variable {s u v : State} {k : KeyChip}

theorem exec_keyDiscovery_noKey (hk : s.key.chip = none) : exec .keyDiscovery s = .next s := by
  simp only [exec_keyDiscovery, execKeyDiscovery, hk]

theorem exec_keyDiscovery_not (hk : s.key.chip = some k)
    (h : s.key.discover = false ∨ s.key.retry = true ∨ s.getB Reg.KEY_STAT 10 = true ∨ s.domOn domKey = false) :
    exec .keyDiscovery s = .next s := by
  simp only [exec_keyDiscovery, execKeyDiscovery, hk]
  refine if_pos ?_
  simpa only [Bool.or_eq_true, Bool.not_eq_true', or_assoc] using h

section Runs
variable {good : Bool} (hk : s.key.chip = some k) (hd : s.key.discover = true) (hr : s.key.retry = false)
  (hoc : s.getB Reg.KEY_STAT 10 = false) (hon : s.domOn domKey = true) (hu : u = (if s.getB Reg.KEY_STAT 4 then s else s.keyPower))
  (hg : good = (if u.getB Reg.KEY_STAT 5 then k.sfdp33 else k.sfdp18))
include hk hd hr hoc hon hu hg

/-- SFDP read at the supply's voltage decides between an end of discovery, one more voltage and the directories. -/
theorem exec_keyDiscovery_runs : exec .keyDiscovery s = .next
    (if good then
      (if 2 ^ 29 < k.size then u.keyError 2
       else ((u.setR Reg.KEY_SIZE (BitVec.ofNat 32 k.size)).setF Reg.KEY_STAT 7 6 (if k.octal then 2 else 1)).keyDirectory k)
     else if u.getF Reg.KEY_CTL 5 4 = 2 ∧ u.getB Reg.KEY_STAT 5 = false then
      { u.setB Reg.KEY_STAT 4 false with key := { u.key with retry := true } }
     else u.keyError 1) := by
  simp only [exec_keyDiscovery, execKeyDiscovery, hk, hd, hr, hoc, hon, ← hu, ← hg, Bool.not_true, Bool.or_false, Bool.false_eq_true,
    if_false, Bool.and_eq_true, beq_iff_eq, Bool.not_eq_true']
  cases good
  · exact (apply_ite Host.Outcome.next _ _ _).symm
  · exact (apply_ite Host.Outcome.next _ _ _).symm

theorem exec_keyDiscovery_secondVoltage (hno : good = false) (hv : u.getF Reg.KEY_CTL 5 4 = 2) (h5 : u.getB Reg.KEY_STAT 5 = false) :
    exec .keyDiscovery s = .next { u.setB Reg.KEY_STAT 4 false with key := { u.key with retry := true } } := by
  rw [exec_keyDiscovery_runs hk hd hr hoc hon hu hg, if_neg (ne_true_of_eq_false hno), if_pos ⟨hv, h5⟩]

theorem exec_keyDiscovery_noSfdp (hno : good = false) (h : u.getF Reg.KEY_CTL 5 4 ≠ 2 ∨ u.getB Reg.KEY_STAT 5 = true) :
    exec .keyDiscovery s = .next (u.keyError 1) := by
  have hlast : ¬ (u.getF Reg.KEY_CTL 5 4 = 2 ∧ u.getB Reg.KEY_STAT 5 = false) := by
    rintro ⟨hv, h5⟩
    exact h.elim (fun h => h hv) (ne_true_of_eq_false h5)
  rw [exec_keyDiscovery_runs hk hd hr hoc hon hu hg, if_neg (ne_true_of_eq_false hno), if_neg hlast]

theorem exec_keyDiscovery_unsupported (hok : good = true) (h : 2 ^ 29 < k.size) : exec .keyDiscovery s = .next (u.keyError 2) := by
  rw [exec_keyDiscovery_runs hk hd hr hoc hon hu hg, if_pos hok, if_pos h]

theorem exec_keyDiscovery_directory (hok : good = true) (h : k.size ≤ 2 ^ 29) : exec .keyDiscovery s =
    .next (((u.setR Reg.KEY_SIZE (BitVec.ofNat 32 k.size)).setF Reg.KEY_STAT 7 6 (if k.octal then 2 else 1)).keyDirectory k) := by
  rw [exec_keyDiscovery_runs hk hd hr hoc hon hu hg, if_pos hok, if_neg (Nat.not_lt.2 h)]

end Runs

theorem exec_keyVoltageRetry_due (h : s.key.retry = true) : exec .keyVoltageRetry s =
    .next { (s.setB Reg.KEY_STAT 5 true).setB Reg.KEY_STAT 4 true with key := { s.key with retry := false } } := if_pos h

theorem exec_keyVoltageRetry_not (h : s.key.retry = false) : exec .keyVoltageRetry s = .next s := if_neg (ne_true_of_eq_false h)

theorem exec_keyOvercurrent_noKey (hk : s.key.chip = none) : exec .keyOvercurrent s = .next s := by
  simp only [exec_keyOvercurrent, execKeyOvercurrent, hk, Option.isSome_none, Bool.false_and, Bool.false_eq_true, if_false]

theorem exec_keyOvercurrent_off (h : s.getB Reg.KEY_STAT 4 = false) : exec .keyOvercurrent s = .next s := by
  simp only [exec_keyOvercurrent, execKeyOvercurrent, h, Bool.and_false, Bool.false_eq_true, if_false]

/-- The supply goes off and stays off, and a RESCAN under way is answered NOT_READY. -/
theorem exec_keyOvercurrent_switchesOff (hk : s.key.chip = some k) (h : s.getB Reg.KEY_STAT 4 = true)
    (hu : u = (((s.setB Reg.KEY_STAT 4 false).setB Reg.KEY_STAT 10 true).setF Reg.KEY_STAT 7 6 0).setF Reg.KEY_STAT 2 0 4)
    (hv : v = (({ u with key := { u.key with
      discover := false, retry := false, auto := false, rescan := none } } : State).raise 195 8).cutStaging) :
    exec .keyOvercurrent s = .next (v.finishOpt s.key.rescan (csOf 6 2) (beBytes 4 (v.getR Reg.KEY_STAT).toNat)) := by
  simp only [exec_keyOvercurrent, execKeyOvercurrent, hk, h, Option.isSome_some, Bool.and_self, if_true, hv, hu, ksNOTREADY]

end Discovery

/-! ### KEY_CMD, one bit at a time (R331) -/

section KeyCmd
variable {s : State} {w : Word} {f : Option Nat}

/-- SELECT goes to the selection also while a key operation runs, with CMD_ERR. -/
theorem State.writeKeyCmd_select (h0 : bitOf w 0 = true) (h1 : bitOf w 1 = false) (h2 : bitOf w 2 = false) :
    s.writeKeyCmd w f =
      (if s.keyBusy then s.setB Reg.KEY_STAT 14 true else s).keySelect (some (s.getR Reg.KEY_FMT_ID).toNat) none := by
  simp only [State.writeKeyCmd, h0, h1, h2, Bool.false_eq_true, if_true, if_false]

theorem State.writeKeyCmd_wb (h0 : bitOf w 0 = false) (h1 : bitOf w 1 = true) (h2 : bitOf w 2 = false) :
    s.writeKeyCmd w f = if s.keyBusy then s.setB Reg.KEY_STAT 14 true else s.askWriteBack none f := by
  simp only [State.writeKeyCmd, h0, h1, h2, Bool.false_eq_true, if_true, if_false]

theorem State.writeKeyCmd_rescan (h0 : bitOf w 0 = false) (h1 : bitOf w 1 = false) (h2 : bitOf w 2 = true) :
    s.writeKeyCmd w f = if s.keyBusy = true ∨ s.key.discover = true then s.setB Reg.KEY_STAT 14 true
      else if s.key.chip.isSome = true ∧ s.getB Reg.KEY_STAT 10 = false then s.keyDiscover false else s := by
  simp only [State.writeKeyCmd, h0, h1, h2, Bool.false_eq_true, if_true, if_false, Bool.or_eq_true, Bool.and_eq_true, Bool.not_eq_true']

end KeyCmd

/-! ### SELECT (R320) -/

section Select
variable {s : State} {w : Word} {c : CmdRef} {x : Command}

theorem exec_keySelect_cmd (hx : s.turn c 6 1 = some x) :
    exec (.keySelect (.cmd c)) s = .next ((s.pendingReply x).keySelect (some (beAt x.payload 0 4)) (some c)) := by
  simp only [exec_keySelect, execKeySelect, hx]

section Register
variable (h0 : bitOf w 0 = true) (h1 : bitOf w 1 = false) (h2 : bitOf w 2 = false)
include h0 h1 h2

theorem exec_keySelect_reg : exec (.keySelect (.reg w)) s =
    .next ((if s.keyBusy then s.setB Reg.KEY_STAT 14 true else s).keySelect (some (s.getR Reg.KEY_FMT_ID).toNat) none) := by
  simp only [exec_keySelect, execKeySelect, if_pos h0, State.writeKeyCmd_select h0 h1 h2]

theorem exec_keySelect_reg_free (hb : s.keyBusy = false) :
    exec (.keySelect (.reg w)) s = .next (s.keySelect (some (s.getR Reg.KEY_FMT_ID).toNat) none) := by
  rw [exec_keySelect_reg h0 h1 h2, if_neg (ne_true_of_eq_false hb)]

theorem exec_keySelect_reg_busy (hb : s.keyBusy = true) : exec (.keySelect (.reg w)) s =
    .next ((s.setB Reg.KEY_STAT 14 true).keySelect (some (s.getR Reg.KEY_FMT_ID).toNat) none) := by
  rw [exec_keySelect_reg h0 h1 h2, if_pos hb]

end Register

variable {f : Option Nat} {d : Option CmdRef} {k : KeyChip}

theorem State.keySelect_noKey (hk : s.key.chip = none) : s.keySelect f d =
    ((s.setF Reg.KEY_FMT_STAT 31 24 1).raise 195 16).finishOpt d (csOf 6 1) (beBytes 1 1) := by
  simp only [State.keySelect, hk]

theorem State.keySelect_notReady (hk : s.key.chip = some k) (h3 : s.keyState ≠ 3) : s.keySelect f d =
    ((s.setF Reg.KEY_FMT_STAT 31 24 2).raise 195 16).finishOpt d (csOf 6 2) (beBytes 1 2) := by
  simp only [State.keySelect, hk, if_pos h3]

end Select

/-! ### RESCAN (R319) -/

section Rescan
variable {s u : State} {w : Word} {c : CmdRef} {x : Command} {k : KeyChip}

section Register
variable (h0 : bitOf w 0 = false) (h1 : bitOf w 1 = false) (h2 : bitOf w 2 = true)
include h0 h1 h2

theorem exec_keyRescan_reg : exec (.keyRescan (.reg w)) s =
    .next (if s.keyBusy = true ∨ s.key.discover = true then s.setB Reg.KEY_STAT 14 true
      else if s.key.chip.isSome = true ∧ s.getB Reg.KEY_STAT 10 = false then s.keyDiscover false else s) := by
  simp only [exec_keyRescan, execKeyRescan, if_pos h2, State.writeKeyCmd_rescan h0 h1 h2]

theorem exec_keyRescan_reg_busy (h : s.keyBusy = true ∨ s.key.discover = true) :
    exec (.keyRescan (.reg w)) s = .next (s.setB Reg.KEY_STAT 14 true) := by
  rw [exec_keyRescan_reg h0 h1 h2, if_pos h]

variable (hb : s.keyBusy = false) (hd : s.key.discover = false)
include hb hd

theorem exec_keyRescan_reg_discovers (hk : s.key.chip = some k) (hoc : s.getB Reg.KEY_STAT 10 = false) :
    exec (.keyRescan (.reg w)) s = .next (s.keyDiscover false) := by
  rw [exec_keyRescan_reg h0 h1 h2, if_neg (by simp [hb, hd]), if_pos ⟨by rw [hk]; rfl, hoc⟩]

/-- Without a key, or with its supply switched off by an overcurrent, nothing is done. -/
theorem exec_keyRescan_reg_dead (h : s.key.chip = none ∨ s.getB Reg.KEY_STAT 10 = true) :
    exec (.keyRescan (.reg w)) s = .next s := by
  have hno : ¬ (s.key.chip.isSome = true ∧ s.getB Reg.KEY_STAT 10 = false) := by
    rintro ⟨hk, hoc⟩
    exact h.elim (Option.ne_none_iff_isSome.2 hk) (ne_true_of_eq_false hoc)
  rw [exec_keyRescan_reg h0 h1 h2, if_neg (by simp [hb, hd]), if_neg hno]

end Register

section Command
variable (hx : s.turn c 6 4 = some x)
include hx

theorem exec_keyRescan_noKey (hk : s.key.chip = none) :
    exec (.keyRescan (.cmd c)) s = .next (s.replyTo x (csOf 6 1) true (beBytes 4 (s.getR Reg.KEY_STAT).toNat)) := by
  simp only [exec_keyRescan, execKeyRescan, hx, hk, Option.isNone_none, if_true, ksNOKEY]

variable (hk : s.key.chip = some k)
include hk

theorem exec_keyRescan_overcurrent (hoc : s.getB Reg.KEY_STAT 10 = true) :
    exec (.keyRescan (.cmd c)) s = .next (s.replyTo x (csOf 6 2) true (beBytes 4 (s.getR Reg.KEY_STAT).toNat)) := by
  simp only [exec_keyRescan, execKeyRescan, hx, hk, hoc, Option.isNone_some, Bool.false_eq_true, if_true, if_false, ksNOTREADY]

variable (hoc : s.getB Reg.KEY_STAT 10 = false)
include hoc

theorem exec_keyRescan_busy (h : s.keyBusy = true ∨ s.key.discover = true) :
    exec (.keyRescan (.cmd c)) s = .next (s.replyTo x (csOf 6 ksBUSY) true (beBytes 4 (s.getR Reg.KEY_STAT).toNat)) := by
  simp only [exec_keyRescan, execKeyRescan, hx, hk, hoc, Option.isNone_some, Bool.false_eq_true, if_false, Bool.or_eq_true, if_pos h]

/-- Discovery begins, and the command is answered at its end. -/
theorem exec_keyRescan_discovers (hb : s.keyBusy = false) (hd : s.key.discover = false) (hu : u = (s.pendingReply x).keyDiscover false) :
    exec (.keyRescan (.cmd c)) s = .next { u with key := { u.key with rescan := some c } } := by
  simp only [exec_keyRescan, execKeyRescan, hx, hk, hoc, hb, hd, hu, Option.isNone_some, Bool.or_false, Bool.false_eq_true, if_false]

end Command
end Rescan

/-! ### Requests of a command to an arbiter (R399) -/

section Request
variable {s t : State} {x : Command} {op addr len r : Nat} {data : List Byte}

/-- A request that its arbiter takes is answered when its last beat completes. -/
theorem State.hostRequest_taken (h : s.submit op addr len data 0 (.host x.ref) = (t, 0)) :
    s.hostRequest x op addr len data = t.awaitReply x := by
  simp only [State.hostRequest, h, if_true]

theorem State.hostRequest_refused (h : s.submit op addr len data 0 (.host x.ref) = (t, r)) (hr : r ≠ 0) :
    s.hostRequest x op addr len data = t.replyTo x (csOf (if r < 0x40 then 5 else 4) r) true [] := by
  simp only [State.hostRequest, h, if_neg hr]

end Request

/-! ### KEY_STAT and KEY_READ (R316, R399) -/

section Reads
variable {s t : State} {c : CmdRef} {x : Command} {k : KeyChip}

theorem exec_keyStat_answers (hx : s.turn c 6 0 = some x) : exec (.keyStat c) s =
    .next (s.replyTo x csOK true (beBytes 4 (s.getR Reg.KEY_STAT).toNat ++ beBytes 4 (s.getR Reg.KEY_FMT_STAT).toNat ++
      beBytes 8 (s.getD Reg.KEY_ID).toNat)) := by
  simp only [exec_keyStat, execKeyStat, hx]

variable (hx : s.turn c 6 3 = some x)
include hx

theorem exec_keyRead_noKey (hk : s.key.chip = none) : exec (.keyRead c) s = .next (s.replyTo x (csOf 6 1) true []) := by
  simp only [exec_keyRead, execKeyRead, hx, hk, ksNOKEY]

variable (hk : s.key.chip = some k)
include hk

theorem exec_keyRead_badParam (h : beAt x.payload 4 2 = 0 ∨ 1024 < beAt x.payload 4 2) :
    exec (.keyRead c) s = .next (s.replyTo x csBADPARAM true []) := by
  simp only [exec_keyRead, execKeyRead, hx, hk, if_pos h]

variable (h1 : 1 ≤ beAt x.payload 4 2) (h2 : beAt x.payload 4 2 ≤ 1024)
include h1 h2

/-- What a read of a permitted length depends on: the key's state, then its size. -/
theorem exec_keyRead_inRange : exec (.keyRead c) s = .next
    (if s.keyState ≠ 3 then s.replyTo x (csOf 6 2) true []
     else if k.size < beAt x.payload 0 4 + beAt x.payload 4 2 then s.replyTo x csBADADDR true []
     else s.hostRequest x 6 (beAt x.payload 0 4) (beAt x.payload 4 2) []) := by
  have hok : ¬ (beAt x.payload 4 2 = 0 ∨ 1024 < beAt x.payload 4 2) := by omega
  simp only [exec_keyRead, execKeyRead, hx, hk, if_neg hok, ksNOTREADY, apply_ite Host.Outcome.next]

theorem exec_keyRead_notReady (h3 : s.keyState ≠ 3) : exec (.keyRead c) s = .next (s.replyTo x (csOf 6 2) true []) := by
  rw [exec_keyRead_inRange hx hk h1 h2, if_pos h3]

variable (h3 : s.keyState = 3)
include h3

theorem exec_keyRead_badAddr (h : k.size < beAt x.payload 0 4 + beAt x.payload 4 2) :
    exec (.keyRead c) s = .next (s.replyTo x csBADADDR true []) := by
  rw [exec_keyRead_inRange hx hk h1 h2, if_neg (not_not.2 h3), if_pos h]

theorem exec_keyRead_taken (h : beAt x.payload 0 4 + beAt x.payload 4 2 ≤ k.size)
    (hs : s.submit 6 (beAt x.payload 0 4) (beAt x.payload 4 2) [] 0 (.host x.ref) = (t, 0)) :
    exec (.keyRead c) s = .next (t.awaitReply x) := by
  rw [exec_keyRead_inRange hx hk h1 h2, if_neg (not_not.2 h3), if_neg (Nat.not_lt.2 h), State.hostRequest_taken hs]

end Reads

/-- Settles O49: each clause is one case of the port's rows, of a bit of KEY_CMD, or of a command's refusals in their order. -/
theorem recipeKeyPort : Obligations.RecipeKeyPort :=
  ⟨fun _ _ _ => exec_keyInsertion_begins, fun _ _ _ => exec_keyInsertion_present,
    fun _ hk => ⟨exec_keyRemoval_noKey hk, exec_keyDiscovery_noKey hk, exec_keyOvercurrent_noKey hk⟩,
    fun _ _ _ _ => exec_keyRemoval_removed, fun _ _ => exec_keyDiscovery_not,
    fun _ _ _ _ hk hd hr hoc hon hu hg => ⟨exec_keyDiscovery_secondVoltage hk hd hr hoc hon hu hg,
      exec_keyDiscovery_noSfdp hk hd hr hoc hon hu hg, exec_keyDiscovery_unsupported hk hd hr hoc hon hu hg,
      exec_keyDiscovery_directory hk hd hr hoc hon hu hg⟩,
    fun _ => exec_keyVoltageRetry_due, fun _ => exec_keyVoltageRetry_not, fun _ _ _ _ => exec_keyOvercurrent_switchesOff,
    fun _ => exec_keyOvercurrent_off, fun _ _ _ => exec_keySelect_cmd, fun _ _ => exec_keySelect_reg_free,
    fun _ _ => exec_keySelect_reg_busy, fun _ _ => State.keySelect_noKey, fun _ _ _ => State.keySelect_notReady,
    fun _ _ _ h0 h1 h2 => exec_keyRescan_reg_discovers h0 h1 h2,
    fun _ _ _ _ _ hx hk hoc => exec_keyRescan_discovers hx hk hoc,
    fun _ _ h0 h1 h2 => ⟨exec_keyRescan_reg_busy h0 h1 h2, exec_keyRescan_reg_dead h0 h1 h2⟩,
    fun _ _ _ _ hx hk => ⟨exec_keyRescan_overcurrent hx hk, exec_keyRescan_busy hx hk⟩,
    fun _ _ _ => exec_keyRescan_noKey, fun _ _ _ => exec_keyStat_answers, fun _ _ _ => exec_keyRead_noKey,
    fun _ _ _ _ hx hk => ⟨exec_keyRead_badParam hx hk, fun h1 h2 =>
      ⟨exec_keyRead_notReady hx hk h1 h2, exec_keyRead_badAddr hx hk h1 h2⟩⟩,
    fun _ _ _ _ _ => exec_keyRead_taken⟩

end Sys2Proof.Machine
end

section
/-!
PROOF. When a settings load and a write-back run, what an unsigned settings area loads, and how the parameter store is written and read
(R322–R329, R399), case by case, and the obligation SettingsAndWriteBack.
-/
namespace Sys2Proof.Machine

/-! ### What runs for each command -/

theorem exec_settingsLoad (f : Option Nat) (s : State) : exec (.settingsLoad f) s = execSettingsLoad f s := rfl
theorem exec_keyWb (v : Via) (f : Option Nat) (s : State) : exec (.keyWb v f) s = execKeyWb v f s := rfl
theorem exec_wbPeriodExpiry (f : Option Nat) (s : State) : exec (.wbPeriodExpiry f) s = execWbPeriodExpiry f s := rfl
theorem exec_prmWindowWrite (k : Fin 1048576) (w : Word) (s : State) : exec (.prmWindowWrite k w) s = execPrmWindowWrite k w s := rfl
theorem exec_prmRead (c : CmdRef) (s : State) : exec (.prmRead c) s = execPrmRead c s := rfl
theorem exec_prmWrite (c : CmdRef) (s : State) : exec (.prmWrite c) s = execPrmWrite c s := rfl

/-! ### The settings load (R323, R324) -/

section Settings
variable {f : Option Nat} {s u : State} {e : Nat} {k j : KeyChip}

/-- A load waits for the key, and for the end of what else uses its port. -/
theorem exec_settingsLoad_waits (h : s.key.chip = none ∨ s.key.sel.isSome = true ∨ s.keyStaging = true ∨ s.warned = true ∨ s.keyLive = false) :
    exec (.settingsLoad f) s = .next s := by
  rw [exec_settingsLoad, execSettingsLoad]
  split
  case h_1 hk =>
    refine if_pos ?_
    simpa only [hk, reduceCtorEq, false_or, Bool.or_eq_true, Bool.not_eq_true', or_assoc] using h
  case h_2 => rfl

theorem exec_settingsLoad_notDue (hd : s.key.due = none) : exec (.settingsLoad f) s = .next s := by
  simp only [exec_settingsLoad, execSettingsLoad, hd]

section Due
variable (hd : s.key.due = some (e, false)) (hk : s.key.chip = some k) (hsel : s.key.sel = none) (hst : s.keyStaging = false)
  (hw : s.warned = false) (hl : s.keyLive = true)
include hd hk hsel hst hw hl

theorem exec_settingsLoad_clean (hc : s.key.dirty = []) :
    exec (.settingsLoad f) s = .next (({ s with key := { s.key with due := none } } : State).loadSettings k e) := by
  simp only [exec_settingsLoad, execSettingsLoad, hd, hk, hsel, hst, hw, hl, hc, Option.isSome_none, Bool.not_true, Bool.or_false,
    Bool.false_eq_true, List.isEmpty_nil, if_true, if_false]

/-- The dirty blocks of the binding that the load replaces are written back first. -/
theorem exec_settingsLoad_dirty (hc : s.key.dirty ≠ [])
    (hu : u = { (s.writeBack f).1 with key := { (s.writeBack f).1.key with due := none } }) (hj : u.key.chip = some j) :
    exec (.settingsLoad f) s = .next (u.loadSettings j e) := by
  subst hu
  simp only [exec_settingsLoad, execSettingsLoad, hd, hk, hsel, hst, hw, hl, List.isEmpty_eq_false_iff.2 hc, Option.isSome_none,
    Bool.not_true, Bool.or_false, Bool.false_eq_true, if_false, show (s.writeBack f).1.key.chip = some j from hj]

end Due

/-- A settings area that must be signed and is not loads nothing. -/
theorem State.loadSettings_unsigned (ha : k.be (e + 0x28) 4 ≠ 0) (hs : s.settingsSigned k e = false) :
    s.loadSettings k e = s.raise 196 8 := if_pos ⟨ha, hs⟩

end Settings

/-! ### The write-back (R326, R329) -/

section WriteBack
variable {f : Option Nat} {s t : State} {c : CmdRef} {d : Option CmdRef} {x : Command} {k : KeyChip} {w : Word} {n : Nat}

section Free
variable (hst : s.keyStaging = false) (hw : s.warned = false) (hwb : s.writeBack f = (t, n))
include hst hw hwb

theorem State.askWriteBack_runs : s.askWriteBack d f =
    ({ t with key := { t.key with wbDue := false, wbCmd := none } } : State).finishOpt d csOK (beBytes 2 n) := by
  simp only [State.askWriteBack, hst, hw, hwb, Bool.or_false, Bool.false_eq_true, if_false]

/-- A write-back that no command asked for answers none. -/
theorem State.askWriteBack_uncommanded : s.askWriteBack none f = { t with key := { t.key with wbDue := false, wbCmd := none } } :=
  State.askWriteBack_runs hst hw hwb

end Free

section Command
variable (hx : s.turn c 6 2 = some x)
include hx

theorem exec_keyWb_noKey (hk : s.key.chip = none) : exec (.keyWb (.cmd c) f) s = .next (s.replyTo x (csOf 6 1) true (beBytes 2 0)) := by
  simp only [exec_keyWb, execKeyWb, hx, hk, Option.isNone_none, if_true, ksNOKEY]

variable (hk : s.key.chip = some k)
include hk

theorem exec_keyWb_busy (h : s.keyBusy = true ∨ s.key.wbCmd.isSome = true) :
    exec (.keyWb (.cmd c) f) s = .next (s.replyTo x (csOf 6 ksBUSY) true (beBytes 2 0)) := by
  simp only [exec_keyWb, execKeyWb, hx, hk, Option.isNone_some, Bool.false_eq_true, if_false, if_pos h]

theorem exec_keyWb_asked (hb : s.keyBusy = false) (hc : s.key.wbCmd = none) :
    exec (.keyWb (.cmd c) f) s = .next ((s.pendingReply x).askWriteBack (some c) f) := by
  simp only [exec_keyWb, execKeyWb, hx, hk, hb, hc, Option.isNone_some, Option.isSome_none, Bool.false_eq_true, or_self, if_false]

end Command

section Register
variable (h0 : bitOf w 0 = false) (h1 : bitOf w 1 = true) (h2 : bitOf w 2 = false)
include h0 h1 h2

theorem exec_keyWb_reg : exec (.keyWb (.reg w) f) s =
    .next (if s.keyBusy then s.setB Reg.KEY_STAT 14 true else s.askWriteBack none f) := by
  simp only [exec_keyWb, execKeyWb, if_pos h1, State.writeKeyCmd_wb h0 h1 h2]

theorem exec_keyWb_reg_busy (hb : s.keyBusy = true) : exec (.keyWb (.reg w) f) s = .next (s.setB Reg.KEY_STAT 14 true) := by
  rw [exec_keyWb_reg h0 h1 h2, if_pos hb]

theorem exec_keyWb_reg_runs (hb : s.keyBusy = false) (hst : s.keyStaging = false) (hw : s.warned = false) (hwb : s.writeBack f = (t, n)) :
    exec (.keyWb (.reg w) f) s = .next { t with key := { t.key with wbDue := false, wbCmd := none } } := by
  rw [exec_keyWb_reg h0 h1 h2, if_neg (ne_true_of_eq_false hb), State.askWriteBack_uncommanded hst hw hwb]

end Register

section Waiting
variable (hd : s.key.wbDue = true)
include hd

theorem exec_wbPeriodExpiry_waits (h : s.keyStaging = true ∨ s.warned = true) : exec (.wbPeriodExpiry f) s = .next s := by
  obtain h | h := h <;>
    simp only [exec_wbPeriodExpiry, execWbPeriodExpiry, State.waitingWriteBack, hd, h, Bool.not_true, Bool.and_false, Bool.false_and,
      Bool.false_eq_true, if_true, if_false]

theorem exec_wbPeriodExpiry_resumes (hst : s.keyStaging = false) (hw : s.warned = false) :
    exec (.wbPeriodExpiry f) s = .next (s.askWriteBack s.key.wbCmd f) := by
  simp only [exec_wbPeriodExpiry, execWbPeriodExpiry, State.waitingWriteBack, hd, hst, hw, Bool.not_false, Bool.and_self, if_true]

end Waiting

section Period
variable (hd : s.key.wbDue = false)
include hd

theorem exec_wbPeriodExpiry_runs (ha : s.getB Reg.KEY_CTL 2 = true) (hc : s.key.dirty ≠ []) (hb : s.keyBusy = false)
    (ht : atOrAfter s.time (s.key.wbAt + units (unitsPerMs * max 1 (s.getF Reg.KEY_WB_PERIOD 15 0))) = true)
    (hst : s.keyStaging = false) (hw : s.warned = false) (hwb : s.writeBack f = (t, n)) :
    exec (.wbPeriodExpiry f) s = .next { t with key := { t.key with wbDue := false, wbCmd := none } } := by
  simp only [exec_wbPeriodExpiry, execWbPeriodExpiry, hd, ha, List.isEmpty_eq_false_iff.2 hc, hb, ht, Bool.not_false, Bool.and_self,
    Bool.false_eq_true, if_true, if_false, State.askWriteBack_uncommanded hst hw hwb]

theorem exec_wbPeriodExpiry_not (h : s.key.dirty = [] ∨ s.getB Reg.KEY_CTL 2 = false ∨ s.keyBusy = true ∨
    atOrAfter s.time (s.key.wbAt + units (unitsPerMs * max 1 (s.getF Reg.KEY_WB_PERIOD 15 0))) = false) :
    exec (.wbPeriodExpiry f) s = .next s := by
  obtain h | h | h | h := h <;>
    simp only [exec_wbPeriodExpiry, execWbPeriodExpiry, hd, h, List.isEmpty_nil, Bool.not_true, Bool.and_false, Bool.false_and,
      Bool.false_eq_true, if_false]

end Period
end WriteBack

/-! ### The parameter store (R325, R399) -/

@[simp] theorem leBytes_length (n v : Nat) : (leBytes n v).length = n := by
  induction n generalizing v with
  | zero => rfl
  | succ n ih => rw [leBytes, List.length_cons, ih]

section Store
variable {s t : State} {c : CmdRef} {x : Command} {a r : Nat} {data : List Byte}

/-- A write that is not empty reaches the store, and the bound blocks that it touches become dirty. -/
theorem State.prmWrite_of_ne_nil (h : data ≠ []) : s.prmWrite a data = { s with key := { s.key with
      prm := prmPut s.key.prm a data,
      dirty := ((blocksOf a data.length).filter (fun b => s.key.bound.contains b)).foldl addBlock s.key.dirty } } :=
  if_neg (ne_true_of_eq_false (List.isEmpty_eq_false_iff.2 h))

theorem exec_prmWindowWrite_stores (k : Fin 1048576) (w : Word) (s : State) : exec (.prmWindowWrite k w) s =
    .next { s with key := { s.key with
      prm := prmPut s.key.prm (4 * k.val) (leBytes 4 w.toNat),
      dirty := ((blocksOf (4 * k.val) 4).filter (fun b => s.key.bound.contains b)).foldl addBlock s.key.dirty } } := by
  have hne : leBytes 4 w.toNat ≠ [] := List.ne_nil_of_length_eq_add_one (leBytes_length 4 w.toNat)
  rw [exec_prmWindowWrite, execPrmWindowWrite, State.prmWrite_of_ne_nil hne, leBytes_length]

section Read
variable (hx : s.turn c 6 5 = some x)
include hx

theorem exec_prmRead_badParam (h : beAt x.payload 4 2 < 4 ∨ 1024 < beAt x.payload 4 2) :
    exec (.prmRead c) s = .next (s.replyTo x csBADPARAM true []) := by
  simp only [exec_prmRead, execPrmRead, hx, if_pos h]

theorem exec_prmRead_taken (h4 : 4 ≤ beAt x.payload 4 2) (h1024 : beAt x.payload 4 2 ≤ 1024)
    (hs : s.submit 3 (beAt x.payload 0 4) (beAt x.payload 4 2) [] 0 (.host x.ref) = (t, 0)) :
    exec (.prmRead c) s = .next (t.awaitReply x) := by
  have hok : ¬ (beAt x.payload 4 2 < 4 ∨ 1024 < beAt x.payload 4 2) := by omega
  simp only [exec_prmRead, execPrmRead, hx, if_neg hok, State.hostRequest_taken hs]

end Read

section Write
variable (hx : s.turn c 6 6 = some x)
include hx

theorem exec_prmWrite_taken
    (hs : s.submit 4 (beAt x.payload 0 4) (x.payload.drop 4).length (x.payload.drop 4) 0 (.host x.ref) = (t, 0)) :
    exec (.prmWrite c) s = .next (t.awaitReply x) := by
  simp only [exec_prmWrite, execPrmWrite, hx, State.hostRequest_taken hs]

/-- A refusal of the arbiter's own is a status of domain 0x05. -/
theorem exec_prmWrite_refused (hr : r ≠ 0) (h40 : r < 0x40)
    (hs : s.submit 4 (beAt x.payload 0 4) (x.payload.drop 4).length (x.payload.drop 4) 0 (.host x.ref) = (t, r)) :
    exec (.prmWrite c) s = .next (t.replyTo x (csOf 5 r) true []) := by
  simp only [exec_prmWrite, execPrmWrite, hx, State.hostRequest_refused hs hr, if_pos h40]

end Write
end Store

/-- Settles O50: each clause is one case of a settings load, of a write-back asked for or due, or of an access to the store. -/
theorem settingsAndWriteBack : Obligations.SettingsAndWriteBack :=
  ⟨fun _ _ => exec_settingsLoad_notDue, fun _ _ _ _ => exec_settingsLoad_clean, fun _ _ _ _ _ _ => exec_settingsLoad_dirty,
    fun _ _ => exec_settingsLoad_waits, fun _ _ _ => State.loadSettings_unsigned, fun _ _ _ _ => exec_keyWb_noKey,
    fun _ _ _ _ _ => exec_keyWb_busy, fun _ _ _ => exec_keyWb_reg_busy, fun _ _ _ _ _ => exec_keyWb_asked,
    fun _ _ _ _ _ h0 h1 h2 => exec_keyWb_reg_runs h0 h1 h2, fun _ _ _ _ => exec_wbPeriodExpiry_runs,
    fun _ _ => exec_wbPeriodExpiry_not, fun _ _ hd => ⟨exec_wbPeriodExpiry_waits hd, exec_wbPeriodExpiry_resumes hd⟩,
    exec_prmWindowWrite_stores, fun _ _ _ _ => exec_prmRead_taken, fun _ _ _ => exec_prmRead_badParam,
    fun _ _ _ _ => exec_prmWrite_taken, fun _ _ _ _ _ => exec_prmWrite_refused⟩

end Sys2Proof.Machine
end

section
/-!
PROOF. A step is a row's answer to the queue's front, and every row answers a next state with the queue as it found it: both are read
off `exec_keepsVault`, the lemma behind VaultOnlyGains. Every row keeps the canonical form of the register table, one lemma per row
through the lemmas of Laws/Canon1–6: the obligations StepServesTheFrontCommand, EveryCommandCompletes and RegistersStayCanonical.
-/
namespace Sys2Proof.Machine

/-! ### The queue -/

/-- A step with something queued is the front command's, with the queue's rest. -/
theorem step_of_pending {s : State} {c : Instr} {l : List Instr} (h : s.pending = c :: l) : step s = exec c { s with pending := l } := by
  simp only [step, h]

/-- A step with nothing queued changes nothing. -/
theorem step_of_idle {s : State} (h : s.pending = []) : step s = .next s := by
  simp only [step, h]

/-- Every row answers a next state with the queue as it found it. -/
theorem exec_completes (c : Instr) (s : State) : ∃ t, exec c s = .next t ∧ t.pending = s.pending := by
  obtain ⟨t, ht, hp, _, _⟩ := exec_keepsVault c s
  exact ⟨t, ht, hp⟩

/-- Settles O1: the two cases of a step. -/
theorem stepServesTheFrontCommand : Obligations.StepServesTheFrontCommand :=
  ⟨fun _ _ _ => step_of_pending, fun _ => step_of_idle⟩

/-- Settles O2: by the row at the queue's front, or with nothing queued. -/
theorem everyCommandCompletes : Obligations.EveryCommandCompletes := by
  refine ⟨exec_completes, fun s => ?_⟩
  match h : s.pending with
  | [] => exact ⟨s, step_of_idle h, h⟩
  | c :: l =>
    obtain ⟨t, ht, hp⟩ := exec_completes c { s with pending := l }
    exact ⟨t, (step_of_pending h).trans ht, hp⟩

/-! ### What a row answers -/

/-- The row answers a next state, whose register table is canonical. -/
inductive AnswersWf : Out → Prop where
  | of {t : State} : t.regsWf = true → AnswersWf (.next t)

@[simp] theorem answersWf_next (t : State) : AnswersWf (.next t) ↔ t.regsWf = true :=
  ⟨fun h => by cases h; assumption, .of⟩

@[simp] theorem answersWf_ite (p : Prop) [Decidable p] (a b : Out) (ha : AnswersWf a) (hb : AnswersWf b) :
    AnswersWf (if p then a else b) := by
  split <;> assumption

section Rows
variable {s : State} (hw : s.regsWf = true)
include hw

theorem answersWf_engRunW {row : EngRow} {n : Nat} {resume : Stall → Bool} {f : EngX → State}
    (h : ∀ x, x.s.regsWf = true → (f x).regsWf = true) : AnswersWf (.next (s.engRunW row n resume f)) :=
  (answersWf_next _).2 (s.engRunW_wf row n resume f (fun x hx => h x (hx ▸ hw)) hw)

theorem answersWf_engRun {row : EngRow} {n : Nat} {f : EngX → State}
    (h : ∀ x, x.s.regsWf = true → (f x).regsWf = true) : AnswersWf (.next (s.engRun row n f)) :=
  (answersWf_next _).2 (s.engRun_wf row n f (fun x hx => h x (hx ▸ hw)) hw)

theorem answersWf_waiting {n : Nat} {f : EngX → Stall → State}
    (h : ∀ x st, x.s.regsWf = true → (f x st).regsWf = true) : AnswersWf (.next (s.waiting n f)) :=
  (answersWf_next _).2 (s.waiting_wf n f (fun x st hx => h x st (hx ▸ hw)) hw)

/-! ### The rows of Machine/Clock -/

theorem execFcwWrite_wf (n : Fin 8) (v : DWord) : AnswersWf (execFcwWrite n v s) := by simp [hw, execFcwWrite]
theorem execSlewDone_wf (n : Fin 8) : AnswersWf (execSlewDone n s) := by
  unfold execSlewDone
  grind [answersWf_next, State.setD_wf, State.setB_wf, State.noteClamp_wf]
theorem execLossOfLock_wf (n : Fin 8) (why : Fin 2) : AnswersWf (execLossOfLock n why s) := by simp [hw, execLossOfLock]
theorem execResFail_wf (r : Fin 2) : AnswersWf (execResFail r s) := by
  unfold execResFail
  refine answersWf_ite _ _ _ (.of hw) (.of (foldl_wf _ _ _ (foldl_wf _ _ _ ?_ ?_) ?_))
  · exact State.setB_wf _ _ _ _ hw
  · exact fun u n hu => State.setB_wf _ _ _ _ (State.anchorDelays_wf _ _ _ hu)
  · exact fun u n hu => State.loseLock_wf _ _ _ hu
theorem execLockComplete_wf (n : Fin 8) : AnswersWf (execLockComplete n s) := by
  have back : ∀ (u : State) (m : Nat), u.regsWf = true → (u.setOutSrc n m .own).regsWf = true := fun u m => State.setOutSrc_wf u n m _
  unfold execLockComplete
  split <;>
    grind [answersWf_next, foldl_wf, State.fresh_wf, State.setF_wf, State.setB_wf, State.setD_wf, State.setPll_wf, State.raise_wf,
      State.pairLock_wf, State.anchorDelays_wf, State.noteClamp_wf, State.retune_wf]
theorem execAdpllEnable_wf (n : Fin 8) (w : Word) : AnswersWf (execAdpllEnable n w s) := by simp [hw, execAdpllEnable]
theorem execRelock_wf (n : Fin 8) : AnswersWf (execRelock n s) := by simp [hw, execRelock]
theorem execOutputCtlWrite_wf (n : Fin 8) (m : Fin 6) (w : Word) : AnswersWf (execOutputCtlWrite n m w s) := by
  simp [hw, execOutputCtlWrite]
theorem execGclkSrcWrite_wf (k : Fin 32) (w : Word) : AnswersWf (execGclkSrcWrite k w s) := by simp [hw, execGclkSrcWrite]
theorem execClkTbCtlWrite_wf (w : Word) : AnswersWf (execClkTbCtlWrite w s) := by simp [hw, execClkTbCtlWrite]
theorem execTimeStep_wf (v : Via) : AnswersWf (execTimeStep v s) := by
  unfold execTimeStep
  (repeat' split) <;> simp [hw]
theorem execTimeStepApply_wf : AnswersWf (execTimeStepApply s) := by
  unfold execTimeStepApply
  split <;> grind [answersWf_next, wf_mk, wf_fold, State.setB_wf, State.finishOpt_wf, State.stepTo_wf]

/-! ### The rows of Machine/EngineRun -/

theorem execEffectStatusReturn_wf (n : Fin 68) : AnswersWf (execEffectStatusReturn n s) := by
  unfold execEffectStatusReturn
  dsimp only
  (repeat' split) <;> simp [hw]

/-! ### The rows of Machine/Images -/

theorem execImageHeader_wf : AnswersWf (execImageHeader s) := by
  unfold execImageHeader
  split <;> simp [hw]
theorem execFrame_wf (wr : Bool) : AnswersWf (execFrame wr s) := by
  unfold execFrame
  split <;> simp [hw]
theorem execStagingGo_wf (v : Via) : AnswersWf (execStagingGo v s) := by
  unfold execStagingGo
  (repeat' split) <;> grind [answersWf_next, State.writeStgCtl_wf, State.replyTo_wf, State.stgRequest_wf, State.pendingReply_wf]
theorem execStgBegin_wf (c : CmdRef) : AnswersWf (execStgBegin c s) := by
  unfold execStgBegin
  split <;> grind [answersWf_next, State.replyTo_wf, wf_mk, wf_fold, State.stgRequest_wf]
theorem execStgData_wf (c : CmdRef) : AnswersWf (execStgData c s) := by
  unfold execStgData
  (repeat' split) <;> simp [hw]
theorem execStgEnd_wf (c : CmdRef) : AnswersWf (execStgEnd c s) := by
  unfold execStgEnd
  (repeat' split) <;> simp [hw]
theorem execStgAbort_wf (v : Via) : AnswersWf (execStgAbort v s) := by
  unfold execStgAbort
  (repeat' split) <;> simp [hw]
theorem execHostStreamGap_wf : AnswersWf (execHostStreamGap s) := by
  unfold execHostStreamGap
  split <;> simp [hw]
theorem execSlotErase_wf (c : CmdRef) : AnswersWf (execSlotErase c s) := by
  unfold execSlotErase
  split <;> grind [answersWf_next, State.replyTo_wf, wf_mk, wf_fold, State.pendingReply_wf]
theorem execSlotEraseDone_wf (k : Fin 4) : AnswersWf (execSlotEraseDone k s) := by
  unfold execSlotEraseDone
  split <;> simp [hw]
theorem execSlotStat_wf (c : CmdRef) : AnswersWf (execSlotStat c s) := by
  unfold execSlotStat
  split <;> simp [hw]
theorem execBcast_wf (m : LaneMsg) (first last : Bool) (words : List DWord) : AnswersWf (execBcast m first last words s) := by
  unfold execBcast
  grind [answersWf_next, State.badCrc_wf, wf_mk, wf_fold, State.flood_wf, State.bcastGap_wf, State.bcastFirst_wf, State.bcastFeed_wf]

/-! ### The rows of Machine/Key -/

theorem execKeyInsertion_wf (k : KeyChip) : AnswersWf (execKeyInsertion k s) := by
  unfold execKeyInsertion
  grind [answersWf_next, wf_mk, wf_fold, State.raise_wf, State.keyDiscover_wf]
theorem execKeyRemoval_wf : AnswersWf (execKeyRemoval s) := by
  unfold execKeyRemoval
  grind [answersWf_next, wf_mk, wf_fold, State.dropDue_wf, State.addF_wf, State.raise_wf, State.keyGone_wf, State.cutStaging_wf,
    State.finishOpt_wf]
theorem execKeyDiscovery_wf : AnswersWf (execKeyDiscovery s) := by
  unfold execKeyDiscovery
  split <;>
    grind [answersWf_next, wf_mk, wf_fold, State.keyPower_wf, State.setB_wf, State.keyError_wf, State.setR_wf, State.setF_wf,
      State.keyDirectory_wf]
theorem execKeyVoltageRetry_wf : AnswersWf (execKeyVoltageRetry s) := by
  unfold execKeyVoltageRetry
  grind [answersWf_next, wf_mk, wf_fold, State.setB_wf]
theorem execKeyOvercurrent_wf : AnswersWf (execKeyOvercurrent s) := by
  unfold execKeyOvercurrent
  grind [answersWf_next, wf_mk, wf_fold, State.setB_wf, State.setF_wf, State.raise_wf, State.cutStaging_wf, State.finishOpt_wf]
theorem execKeySelect_wf (v : Via) : AnswersWf (execKeySelect v s) := by
  unfold execKeySelect
  (repeat' split) <;> simp [hw]
theorem execKeyRescan_wf (v : Via) : AnswersWf (execKeyRescan v s) := by
  unfold execKeyRescan
  (repeat' split) <;> simp [hw]
theorem execKeyStat_wf (c : CmdRef) : AnswersWf (execKeyStat c s) := by
  unfold execKeyStat
  split <;> simp [hw]
theorem execKeyRead_wf (c : CmdRef) : AnswersWf (execKeyRead c s) := by
  unfold execKeyRead
  (repeat' split) <;> grind [answersWf_next, State.replyTo_wf, State.hostRequest_wf]
theorem execSettingsLoad_wf (fail : Option Nat) : AnswersWf (execSettingsLoad fail s) := by
  unfold execSettingsLoad
  dsimp only
  (repeat' split) <;> simp [hw]
theorem execKeyWb_wf (v : Via) (fail : Option Nat) : AnswersWf (execKeyWb v fail s) := by
  unfold execKeyWb
  (repeat' split) <;> simp [hw]
theorem execWbPeriodExpiry_wf (fail : Option Nat) : AnswersWf (execWbPeriodExpiry fail s) := by
  unfold execWbPeriodExpiry
  grind [answersWf_next, State.waitingWriteBack_wf, State.askWriteBack_wf]
theorem execPrmWindowWrite_wf (k : Fin 1048576) (w : Word) : AnswersWf (execPrmWindowWrite k w s) := by
  simp [hw, execPrmWindowWrite]
theorem execPrmRead_wf (c : CmdRef) : AnswersWf (execPrmRead c s) := by
  unfold execPrmRead
  split <;> simp [hw]
theorem execPrmWrite_wf (c : CmdRef) : AnswersWf (execPrmWrite c s) := by
  unfold execPrmWrite
  split <;> simp [hw]

/-! ### The rows of Machine/Links -/

theorem execLaneUp_wf (l : Fin 8) : AnswersWf (execLaneUp l s) := by
  unfold execLaneUp
  grind [answersWf_next, State.setLane_wf, State.raise_wf, State.setF_wf, State.sendHello_wf]
theorem execLaneDown_wf (l : Fin 8) : AnswersWf (execLaneDown l s) := by
  unfold execLaneDown
  grind [answersWf_next, State.raise_wf, State.loseLane_wf]
theorem execHello_wf (m : LaneMsg) (master : Option (Fin 16)) (hops : Fin 8) (stations : BitVec 16) (chosen : Bool) :
    AnswersWf (execHello m master hops stations chosen s) := by
  unfold execHello
  grind [answersWf_next, State.badCrc_wf, State.raise_wf, State.loseLane_wf, State.setLane_wf, State.setF_wf, State.updateTree_wf]
theorem execTime_wf (m : LaneMsg) (t : DWord) (step : Bool) : AnswersWf (execTime m t step s) := by
  unfold execTime
  grind [answersWf_next, State.badCrc_wf, State.raise_wf, State.startTime_wf, State.servo_wf, State.followStep_wf]
theorem execDelayReq_wf (m : LaneMsg) : AnswersWf (execDelayReq m s) := by
  unfold execDelayReq
  grind [answersWf_next, State.badCrc_wf, State.newMsg_wf, State.sendMsg_wf]
theorem execDelayResp_wf (m : LaneMsg) (t2 t3 : DWord) : AnswersWf (execDelayResp m t2 t3 s) := by
  unfold execDelayResp
  dsimp only
  (repeat' split) <;> simp [hw]
theorem execDelayMeasureTimer_wf (l : Fin 8) : AnswersWf (execDelayMeasureTimer l s) := by simp [hw, execDelayMeasureTimer]
theorem execTimeSendTimer_wf : AnswersWf (execTimeSendTimer s) := by simp [hw, execTimeSendTimer]
theorem execAction_wf (m : LaneMsg) (dst : Fin 16) (w : QWord) : AnswersWf (execAction m dst w s) := by
  unfold execAction
  (repeat' split) <;> grind [answersWf_next, State.badCrc_wf, State.postInner_wf, State.sendMsg_wf]
theorem execHoldover_wf : AnswersWf (execHoldover s) := by
  unfold execHoldover
  grind [answersWf_next, State.enterHoldover_wf, State.raise_wf]

/-! ### The rows of Machine/Fab -/

theorem execContention_wf (i : Fin 48) (seg : Fin 2048) (drv : Byte) : AnswersWf (execContention i seg drv s) := by
  rw [← exec_contention]
  by_cases h : segmentExists i seg = true ∧ s.sectorLive i = true
  · rw [exec_contention_detected h.1 h.2 rfl, answersWf_next]
    refine State.sectorFault_wf _ _ _ _ ?_
    split <;> grind [State.raise_wf, State.setD_wf, State.setR_wf, State.addF_wf, State.disconnect_wf]
  · rw [exec_contention_not (by rw [not_and_or] at h; simpa using h), answersWf_next]
    exact hw
theorem execScrubRead_wf (ce : Fin 65) (bad : Bool) : AnswersWf (execScrubRead ce bad s) := by
  unfold execScrubRead
  (repeat' split) <;> grind [answersWf_next, wf_mk, wf_fold, State.askRewrite_wf, State.addF_wf, State.raise_wf]
theorem execScrubRewriteDone_wf (src : Bool) : AnswersWf (execScrubRewriteDone src s) := by
  unfold execScrubRewriteDone
  split <;> simp [hw]
theorem execFabricPost_wf (i : Fin 48) (w : QWord) : AnswersWf (execFabricPost i w s) := by simp [hw, execFabricPost]
theorem execFabricCancel_wf (i : Fin 48) (w : QWord) : AnswersWf (execFabricCancel i w s) := by simp [hw, execFabricCancel]
theorem execFabricMboxWrite_wf (i : Fin 48) (e : Fin 64) (m : Fin 16) (v : DWord) :
    AnswersWf (execFabricMboxWrite i e m v s) := by simp [hw, execFabricMboxWrite]
theorem execFabricRequest_wf (i : Fin 48) (op : Fin 6) (addr : Word) (len : Nat) (data : List Byte) (lock : BitVec 7) :
    AnswersWf (execFabricRequest i op addr len data lock s) := by
  unfold execFabricRequest
  grind [answersWf_next, State.submit_wf, wf_mk, wf_fold]
theorem execEventPortPulse_wf (i : Fin 48) (u : Fin 64) (w : Word) : AnswersWf (execEventPortPulse i u w s) := by
  simp [hw, execEventPortPulse]
theorem execPrbPinWrite_wf (c : Fin 64) (w : Word) : AnswersWf (execPrbPinWrite c w s) := by simp [hw, execPrbPinWrite]
theorem execTrcArm_wf (v : Via) : AnswersWf (execTrcArm v s) := by simp [hw, execTrcArm]
theorem execTrcStop_wf (v : Via) : AnswersWf (execTrcStop v s) := by simp [hw, execTrcStop]
theorem execTrcForce_wf (v : Via) : AnswersWf (execTrcForce v s) := by simp [hw, execTrcForce]
theorem execSamplingEdge_wf (t : Fin 32) (v : DWord) (q : Fin 160) : AnswersWf (execSamplingEdge t v q s) := by
  unfold execSamplingEdge
  grind [answersWf_next, State.trcSample_wf, State.treeEdge_wf]
theorem execTraceTrigger_wf : AnswersWf (execTraceTrigger s) := by
  unfold execTraceTrigger
  grind [answersWf_next, State.setF_wf, State.setTrace_wf]
theorem execTraceDone_wf : AnswersWf (execTraceDone s) := by
  unfold execTraceDone
  grind [answersWf_next, State.setF_wf, State.raise_wf]
theorem execTrcRead_wf (c : CmdRef) : AnswersWf (execTrcRead c s) := by
  unfold execTrcRead
  split <;> simp [hw]

/-! ### The rows of Machine/Mem -/

theorem execBramEccError_wf (i : Fin 48) (k : Fin 33) (p : Fin 2) (word : Fin 512) (bit : Fin 72) (ue : Bool) :
    AnswersWf (execBramEccError i k p word bit ue s) := by
  unfold execBramEccError
  grind [answersWf_next, State.bramBad_wf, State.bramError_wf]
theorem execMemSweepRead_wf (i : Fin 48) (k : Fin 33) (ecc : Ecc) (bit : Fin 72) : AnswersWf (execMemSweepRead i k ecc bit s) := by
  unfold execMemSweepRead
  (repeat' split) <;> simp [hw]
theorem execResidueMismatch_wf (i : Fin 48) (k : Fin 33) : AnswersWf (execResidueMismatch i k s) := by
  unfold execResidueMismatch
  split <;> grind [answersWf_next, State.addF_wf, State.memInfo_wf, State.memFault_wf]
theorem execMemMove_wf (i : Fin 48) (w : Word) : AnswersWf (execMemMove i w s) := by simp [hw, execMemMove]
theorem execMemReturn_wf (i : Fin 48) (w : Word) : AnswersWf (execMemReturn i w s) := by simp [hw, execMemReturn]
theorem execBramCopyDone_wf (i : Fin 48) (errs : List (Fin 512 × Fin 72 × Bool)) : AnswersWf (execBramCopyDone i errs s) := by
  have counted : ∀ (m : BramMove) (u : State), u.regsWf = true →
      (errs.foldl (fun u e => u.bramError i m.from_ e.1 e.2.1 e.2.2) u).regsWf = true :=
    fun m u hu => foldl_wf _ _ _ hu fun u e => u.bramError_wf _ _ _ _ _
  unfold execBramCopyDone
  dsimp only
  (repeat' split) <;> simp [hw, counted]
theorem execBramInitDone_wf (i : Fin 48) (k : Fin 32) : AnswersWf (execBramInitDone i k s) := by
  unfold execBramInitDone
  grind [answersWf_next, State.setB_wf, State.frontComplete_wf]

/-! ### The rows of Machine/PowerRows -/

theorem execDomReqOn_wf (v : ViaN) : AnswersWf (execDomReqOn v s) := by simp [hw, execDomReqOn]
theorem execDomReqRet_wf (v : ViaN) : AnswersWf (execDomReqRet v s) := by simp [hw, execDomReqRet]
theorem execDomReqOff_wf (v : ViaN) : AnswersWf (execDomReqOff v s) := by simp [hw, execDomReqOff]
theorem execDomainReset_wf (v : ViaN) : AnswersWf (execDomainReset v s) := by simp [hw, execDomainReset]
theorem execIdleTimeout_wf (d : Fin 135) : AnswersWf (execIdleTimeout d s) := by simp [hw, execIdleTimeout]
theorem execWakeRequest_wf (d : Fin 135) (src : Fin 16) : AnswersWf (execWakeRequest d src s) := by simp [hw, execWakeRequest]
theorem execEntryDone_wf (d : Fin 135) : AnswersWf (execEntryDone d s) := by
  unfold execEntryDone
  dsimp only
  (repeat' split) <;>
    grind [answersWf_next, State.setDomX_wf, State.setF_wf, State.endMaskedLocks_wf, State.setLeng_wf, State.setB_wf,
      State.startWake_wf, State.raise_wf, State.loseLane_wf, State.setLane_wf, wf_mk, wf_fold, State.actKept_wf]
theorem execWakeDone_wf (d : Fin 135) (r : Retention) : AnswersWf (execWakeDone d r s) := by
  unfold execWakeDone
  (repeat' split) <;> simp [hw]
theorem execColdRestoreDone_wf (d : Fin 135) : AnswersWf (execColdRestoreDone d s) := by
  unfold execColdRestoreDone
  dsimp only
  (repeat' split) <;>
    grind [answersWf_next, State.coldContent_wf, State.raise_wf, State.domUp_wf, State.setLeng_wf, State.retireLasting_wf,
      State.afterTrans_wf]

/-! ### The rows of Machine/Reset -/

theorem execPowerUp_wf (vin : BitVec 16) : AnswersWf (execPowerUp vin s) := by
  unfold execPowerUp
  dsimp only
  (repeat' split) <;> grind [answersWf_next, wf_mk, wf_fold, State.afterReset_wf, State.setF_wf, State.setB_wf, State.beginStart_wf]
theorem execSupplyBelowReset_wf : AnswersWf (execSupplyBelowReset s) := by simp [hw, execSupplyBelowReset]
theorem execResetNAssert_wf : AnswersWf (execResetNAssert s) := by simp [hw, execResetNAssert]
theorem execResetNRelease_wf : AnswersWf (execResetNRelease s) := by
  unfold execResetNRelease
  grind [answersWf_next, wf_mk, wf_fold, State.beginStart_wf]
theorem execColdReset_wf (v : Via) : AnswersWf (execColdReset v s) := by simp [hw, execColdReset]
theorem execWarmReset_wf (v : Via) : AnswersWf (execWarmReset v s) := by simp [hw, execWarmReset]
theorem execManagementWatchdog_wf : AnswersWf (execManagementWatchdog s) := by simp [hw, execManagementWatchdog]
theorem execGaspSectorErase_wf : AnswersWf (execGaspSectorErase s) := by
  unfold execGaspSectorErase
  grind [answersWf_next, wf_mk, wf_fold]

/-! ### The rows of Machine/Nv -/

theorem execNvProgram_wf (v : Via) : AnswersWf (execNvProgram v s) := by
  unfold execNvProgram
  (repeat' split) <;> simp [hw]
theorem execNvErase_wf (v : Via) : AnswersWf (execNvErase v s) := by
  unfold execNvErase
  (repeat' split) <;> simp [hw]
theorem execNvSuspend_wf (v : Via) : AnswersWf (execNvSuspend v s) := by
  unfold execNvSuspend
  (repeat' split) <;> simp [hw]
theorem execNvResume_wf (v : Via) : AnswersWf (execNvResume v s) := by
  unfold execNvResume
  (repeat' split) <;> simp [hw]
theorem execNvRead_wf (c : CmdRef) : AnswersWf (execNvRead c s) := by
  unfold execNvRead
  split <;> simp [hw]
theorem execNvStat_wf (c : CmdRef) : AnswersWf (execNvStat c s) := by
  unfold execNvStat
  split <;> simp [hw]
theorem execNvWindowRead_wf (k : Fin 16777216) (ecc : Ecc) : AnswersWf (execNvWindowRead k ecc s) := by
  simp [hw, execNvWindowRead]
theorem execNvWindowWrite_wf (_k : Fin 16777216) (_w : Word) : AnswersWf (execNvWindowWrite _k _w s) := by
  simp [hw, execNvWindowWrite]
theorem execFarLineFill_wf (n : Fin 68) (ecc ecc2 : Ecc) : AnswersWf (execFarLineFill n ecc ecc2 s) := by
  unfold execFarLineFill
  (repeat' split) <;>
    grind [answersWf_next, State.nvServe_wf, State.nvReadWords_wf, State.setLeng_wf, State.incR_wf, State.raise_wf, State.takeExc_wf]
theorem execNvProgramStep_wf (pass : Bool) : AnswersWf (execNvProgramStep pass s) := by
  unfold execNvProgramStep
  split <;> grind [answersWf_next, wf_mk, wf_fold, State.nvWordDone_wf, State.raise_wf, State.nvFault_wf, State.nvWarnStop_wf]
theorem execEraseSegmentEnd_wf : AnswersWf (execEraseSegmentEnd s) := by
  unfold execEraseSegmentEnd
  split <;> grind [answersWf_next, wf_mk, wf_fold, State.nvAsked_wf, State.nvBegin_wf, State.nvShow_wf]
theorem execNvErasePulse_wf (pass : Bool) : AnswersWf (execNvErasePulse pass s) := by
  unfold execNvErasePulse
  split <;> grind [answersWf_next, State.nvErased_wf, wf_mk, wf_fold, State.nvWarnStop_wf]
theorem execNvResumeIdle_wf : AnswersWf (execNvResumeIdle s) := by
  unfold execNvResumeIdle
  split <;> simp [hw]

/-! ### The rows of Machine/Arbiters -/

theorem execGrantDecision_wf (r : Fin 5) : AnswersWf (execGrantDecision r s) := by
  unfold execGrantDecision
  dsimp only
  (repeat' split) <;> grind [answersWf_next, State.abortIdle_wf, State.setArb_wf, State.grant_wf, State.decide__wf]
theorem execBackoffExpiry_wf (r : Fin 5) (q : Fin 83) : AnswersWf (execBackoffExpiry r q s) := by simp [hw, execBackoffExpiry]
theorem execBeatComplete_wf (r : Fin 5) (ecc : List Ecc) : AnswersWf (execBeatComplete r ecc s) := by
  unfold execBeatComplete
  (repeat' split) <;> simp [hw]
theorem execLockGapExpiry_wf (r : Fin 5) : AnswersWf (execLockGapExpiry r s) := by
  unfold execLockGapExpiry
  dsimp only
  (repeat' split) <;> simp [hw]
theorem execLongWait_wf (r : Fin 5) : AnswersWf (execLongWait r s) := by
  unfold execLongWait
  grind [answersWf_next, State.setArb_wf, State.raise_wf]
theorem execArbModeWrite_wf (r : Fin 5) (w : Word) : AnswersWf (execArbModeWrite r w s) := by simp [hw, execArbModeWrite]

/-! ### The rows of Machine/AxisRows -/

theorem execPwmWriteApply_wf (e : Fin 64) : AnswersWf (execPwmWriteApply e s) := by
  unfold execPwmWriteApply
  dsimp only
  (repeat' split) <;> simp [hw]
theorem execPwmEdge_wf (e : Fin 64) (k : Fin 6) : AnswersWf (execPwmEdge e k s) := by
  unfold execPwmEdge
  split
  · exact .of hw
  · exact .of (State.setAxis_wf _ _ _ (foldl_wf _ _ _ hw fun u p => u.setCell_wf _ _))
theorem execQuadratureCount_wf (e : Fin 64) (ha hb : BitVec 16) : AnswersWf (execQuadratureCount e ha hb s) := by
  unfold execQuadratureCount
  dsimp only
  (repeat' split) <;> simp [hw]
theorem execIndexEdge_wf (e : Fin 64) (high : Bool) : AnswersWf (execIndexEdge e high s) := by simp [hw, execIndexEdge]
theorem execSsiFrameEnd_wf (e : Fin 64) (bits : Nat) (low : Bool) : AnswersWf (execSsiFrameEnd e bits low s) := by
  unfold execSsiFrameEnd
  dsimp only
  (repeat' split) <;> simp [hw]
theorem execDsSample_wf (e : Fin 64) (k : Fin 4) (bits : List Bool) : AnswersWf (execDsSample e k bits s) := by
  simp [hw, execDsSample]
theorem execDsClklost_wf (e : Fin 64) : AnswersWf (execDsClklost e s) := by simp [hw, execDsClklost]
theorem execConvert_wf (c : Fin 4) : AnswersWf (execConvert c s) := by
  unfold execConvert
  split <;> simp [hw]
theorem execSequence_wf (c : Fin 4) : AnswersWf (execSequence c s) := by
  unfold execSequence
  split <;> simp [hw]
theorem execAdcResult_wf (c : Fin 4) (v : BitVec 16) : AnswersWf (execAdcResult c v s) := by
  unfold execAdcResult
  split <;> grind [answersWf_next, wf_mk, wf_fold, State.setR_wf, State.setAxis_wf]

/-! ### The rows of Machine/EngineIsa -/

theorem execAlu_wf (n : Fin 68) : AnswersWf (execAlu n s) := by
  refine answersWf_engRun hw fun x hx => ?_
  (repeat' split) <;> simp [hx]
theorem execAddi_wf (n : Fin 68) : AnswersWf (execAddi n s) := answersWf_engRun hw fun x hx => by simp [hx]
theorem execAndi_wf (n : Fin 68) : AnswersWf (execAndi n s) := answersWf_engRun hw fun x hx => by simp [hx]
theorem execOri_wf (n : Fin 68) : AnswersWf (execOri n s) := answersWf_engRun hw fun x hx => by simp [hx]
theorem execXori_wf (n : Fin 68) : AnswersWf (execXori n s) := answersWf_engRun hw fun x hx => by simp [hx]
theorem execShi_wf (n : Fin 68) : AnswersWf (execShi n s) := answersWf_engRun hw fun x hx => by simp [hx]
theorem execLdi_wf (n : Fin 68) : AnswersWf (execLdi n s) := answersWf_engRun hw fun x hx => by simp [hx]
theorem execInsh_wf (n : Fin 68) : AnswersWf (execInsh n s) := answersWf_engRun hw fun x hx => by simp [hx]
theorem execCmpi_wf (n : Fin 68) : AnswersWf (execCmpi n s) := answersWf_engRun hw fun x hx => by simp [hx]
theorem execNop_wf (n : Fin 68) : AnswersWf (execNop n s) := answersWf_engRun hw fun x hx => by simp [hx]
theorem execFpu_wf (n : Fin 68) : AnswersWf (execFpu n s) := answersWf_engRun hw fun x hx => by split <;> simp [hx]
theorem execFma_wf (n : Fin 68) : AnswersWf (execFma n s) := answersWf_engRun hw fun x hx => by simp [hx]
theorem execLd_wf (n : Fin 68) (ecc : Ecc) :
    AnswersWf (execLd n ecc s) := answersWf_engRun hw fun x hx => by grind [EngX.setRd_wf, EngX.load_wf]
theorem execLdw_wf (n : Fin 68) (ecc : Ecc) :
    AnswersWf (execLdw n ecc s) := answersWf_engRun hw fun x hx => by grind [EngX.setRd_wf, EngX.load_wf]
theorem execLdws_wf (n : Fin 68) (ecc : Ecc) :
    AnswersWf (execLdws n ecc s) := answersWf_engRun hw fun x hx => by grind [EngX.setRd_wf, EngX.load_wf]
theorem execSt_wf (n : Fin 68) : AnswersWf (execSt n s) := answersWf_engRun hw fun x hx => by simp [hx]
theorem execStw_wf (n : Fin 68) : AnswersWf (execStw n s) := answersWf_engRun hw fun x hx => by simp [hx]
theorem execBcc_wf (n : Fin 68) : AnswersWf (execBcc n s) := answersWf_engRun hw fun x hx => by simp [hx]
theorem execJmp_wf (n : Fin 68) : AnswersWf (execJmp n s) := answersWf_engRun hw fun x hx => by simp [hx]
theorem execCall_wf (n : Fin 68) : AnswersWf (execCall n s) := answersWf_engRun hw fun x hx => by simp [hx]
theorem execJr_wf (n : Fin 68) : AnswersWf (execJr n s) := answersWf_engRun hw fun x hx => by simp [hx]
theorem execRet_wf (n : Fin 68) : AnswersWf (execRet n s) := answersWf_engRun hw fun x hx => by simp [hx]
theorem execFret_wf (n : Fin 68) : AnswersWf (execFret n s) := answersWf_engRun hw fun x hx => by simp [hx]
theorem execFcall_wf (n : Fin 68) : AnswersWf (execFcall n s) := answersWf_engRun hw fun x hx => by grind [EngX.exc_wf, EngX.done_wf]
theorem execMfs_wf (n : Fin 68) : AnswersWf (execMfs n s) := answersWf_engRun hw fun x hx => by simp [hx]
theorem execMts_wf (n : Fin 68) : AnswersWf (execMts n s) := answersWf_engRun hw fun x hx => by split <;> simp [hx]

/-! ### The rows of Machine/EngineAct -/

theorem execPost_wf (n : Fin 68) : AnswersWf (execPost n s) := by
  refine answersWf_engRunW hw fun x hx => ?_
  (repeat' split) <;> simp [hx]
theorem execCancel_wf (n : Fin 68) :
    AnswersWf (execCancel n s) := answersWf_engRun hw fun x hx => by grind [EngX.exc_wf, State.cancel_wf, State.engStatus_wf, EngX.asked_wf]
theorem execWaitt_wf (n : Fin 68) : AnswersWf (execWaitt n s) := by
  refine answersWf_engRun hw fun x hx => ?_
  (repeat' split) <;> grind [EngX.done_wf, EngX.statusIn_wf, EngX.stall_wf]
theorem execWaittWake_wf (n : Fin 68) : AnswersWf (execWaittWake n s) :=
  answersWf_waiting hw fun _ _ hx => by split <;> simp [hw]
theorem execWaitf_wf (n : Fin 68) : AnswersWf (execWaitf n s) := by
  refine answersWf_engRunW hw fun x hx => ?_
  dsimp only
  (repeat' split) <;> simp [hx]
theorem execTfclr_wf (n : Fin 68) : AnswersWf (execTfclr n s) := answersWf_engRun hw fun x hx => by simp [hx]
theorem execSend_wf (n : Fin 68) : AnswersWf (execSend n s) := by
  refine answersWf_engRun hw fun x hx => ?_
  dsimp only
  split
  · exact x.exc_wf 1 hx
  · refine x.asked_wf _ _ hx fun u k hu => ?_
    split <;> simp [hu]
theorem execRecv_wf (n : Fin 68) : AnswersWf (execRecv n s) := by
  refine answersWf_engRunW hw fun x hx => ?_
  dsimp only
  (repeat' split) <;> simp [hw, hx]
theorem execPeek_wf (n : Fin 68) : AnswersWf (execPeek n s) := answersWf_engRun hw fun x hx => by simp [hx]
theorem execRecvm_wf (n : Fin 68) : AnswersWf (execRecvm n s) := by
  refine answersWf_engRunW hw fun x hx => ?_
  dsimp only
  (repeat' split) <;> simp [hw, hx]
theorem execWaitTimeout_wf (n : Fin 68) : AnswersWf (execWaitTimeout n s) := by
  refine answersWf_waiting hw fun x st hx => ?_
  (repeat' split) <;> simp [hw, hx]
theorem execBprd_wf (n : Fin 68) : AnswersWf (execBprd n s) := by
  refine answersWf_engRun hw fun x hx => ?_
  dsimp only
  (repeat' split) <;> simp [hw, hx]
theorem execBpwr_wf (n : Fin 68) : AnswersWf (execBpwr n s) := by
  refine answersWf_engRun hw fun x hx => ?_
  dsimp only
  (repeat' split) <;> simp [hx]
theorem execBpAck_wf (n : Fin 68) (v : DWord) : AnswersWf (execBpAck n v s) := by
  unfold execBpAck
  split
  · refine answersWf_waiting hw fun x st hx => ?_
    split <;> simp [hw]
  · simp [hw]
theorem execBpTimeout_wf (n : Fin 68) : AnswersWf (execBpTimeout n s) := by
  unfold execBpTimeout
  split
  · refine answersWf_waiting hw fun x st hx => ?_
    split <;> simp [hw]
  · simp [hw]
theorem execRqNvRead_wf (n : Fin 68) (ecc : Ecc) : AnswersWf (execRqNvRead n ecc s) :=
  answersWf_engRun hw fun x hx => by simp [hx]
theorem execRqNvProgram_wf (n : Fin 68) (ecc : Ecc) : AnswersWf (execRqNvProgram n ecc s) :=
  answersWf_engRun hw fun x hx => by simp [hx]
theorem execRqNvErase_wf (n : Fin 68) (ecc : Ecc) : AnswersWf (execRqNvErase n ecc s) :=
  answersWf_engRun hw fun x hx => by simp [hx]
theorem execRqPrmRead_wf (n : Fin 68) (ecc : Ecc) : AnswersWf (execRqPrmRead n ecc s) :=
  answersWf_engRun hw fun x hx => by simp [hx]
theorem execRqPrmWrite_wf (n : Fin 68) (ecc : Ecc) : AnswersWf (execRqPrmWrite n ecc s) :=
  answersWf_engRun hw fun x hx => by simp [hx]
theorem execRqTrunkTransmit_wf (n : Fin 68) (ecc : Ecc) : AnswersWf (execRqTrunkTransmit n ecc s) :=
  answersWf_engRun hw fun x hx => by simp [hx]
theorem execPrelog_wf (n : Fin 68) :
    AnswersWf (execPrelog n s) := answersWf_engRun hw fun x hx => by
      grind [EngX.exc_wf, EngX.done_wf, State.markNoRetry_wf, State.putLogged_wf]
theorem execCkhNoretry_wf (n : Fin 68) : AnswersWf (execCkhNoretry n s) := answersWf_engRun hw fun x hx => by simp [hx]
theorem execLogfree_wf (n : Fin 68) : AnswersWf (execLogfree n s) := answersWf_engRun hw fun x hx => by simp [hx]
theorem execCend_wf (n : Fin 68) : AnswersWf (execCend n s) := by
  refine answersWf_engRunW hw fun x hx => ?_
  dsimp only
  (repeat' split) <;> simp [hw]
theorem execDrainTimeout_wf (n : Fin 68) : AnswersWf (execDrainTimeout n s) := answersWf_waiting hw fun _ _ hx => by simp [hw]

/-! ### The rows of Machine/EngineUnits -/

theorem execUwr_wf (n : Fin 68) :
    AnswersWf (execUwr n s) := answersWf_engRun hw fun x hx => by grind [EngX.put_wf, State.axisWrite_wf, EngX.effect_wf]
theorem execUrd_wf (n : Fin 68) : AnswersWf (execUrd n s) := answersWf_engRun hw fun x hx => by split <;> simp [hw, hx]
theorem execTrjGo_wf (n : Fin 68) : AnswersWf (execTrjGo n s) := answersWf_engRun hw fun x hx => by simp [hx]
theorem execTrjStop_wf (n : Fin 68) : AnswersWf (execTrjStop n s) := answersWf_engRun hw fun x hx => by simp [hx]
theorem execQstop_wf (n : Fin 68) : AnswersWf (execQstop n s) := answersWf_engRun hw fun x hx => by simp [hx]
theorem execTrjStep_wf (n : Fin 68) : AnswersWf (execTrjStep n s) := answersWf_engRun hw fun x hx => by simp [hx]
theorem execEngage_wf (n : Fin 68) (ecc : Ecc) : AnswersWf (execEngage n ecc s) :=
  answersWf_engRun hw fun x hx => by grind [EngX.put_wf, EngX.exc_wf, EngX.eccRead_wf]
theorem execDisengage_wf (n : Fin 68) : AnswersWf (execDisengage n s) := answersWf_engRun hw fun x hx => by simp [hx]
theorem execCamStep_wf (n : Fin 68) (ecc : Ecc) : AnswersWf (execCamStep n ecc s) :=
  answersWf_engRun hw fun x hx => by grind [EngX.put_wf, EngX.exc_wf, EngX.eccRead_wf]
theorem execVmset_wf (n : Fin 68) : AnswersWf (execVmset n s) := answersWf_engRun hw fun x hx => by simp [hx]
theorem execCami_wf (n : Fin 68) (ecc : Ecc) :
    AnswersWf (execCami n ecc s) := answersWf_engRun hw fun x hx => by grind [EngX.exc_wf, EngX.put_wf, EngX.eccRead_wf]
theorem execLoopReset_wf (n : Fin 68) : AnswersWf (execLoopReset n s) := answersWf_engRun hw fun x hx => by simp [hx]
theorem execBiqReset_wf (n : Fin 68) : AnswersWf (execBiqReset n s) := answersWf_engRun hw fun x hx => by simp [hx]
theorem execLoopx_wf (n : Fin 68) : AnswersWf (execLoopx n s) := answersWf_engRun hw fun x hx => by simp [hx]
theorem execBiqx_wf (n : Fin 68) : AnswersWf (execBiqx n s) := answersWf_engRun hw fun x hx => by simp [hx]
theorem execLimx_wf (n : Fin 68) : AnswersWf (execLimx n s) := answersWf_engRun hw fun x hx => by simp [hx]
theorem execApply_wf (n : Fin 68) :
    AnswersWf (execApply n s) := answersWf_engRun hw fun x hx => by grind [State.setLeng_wf, EngX.effect_wf]

/-! ### The rows of Machine/EngineRows -/

theorem execCycle_wf (e : Fin 64) : AnswersWf (execCycle e s) := by
  unfold execCycle
  split <;> grind [answersWf_next, State.taken_wf, State.cycleAt_wf]
theorem execSignal_wf (e : Fin 64) : AnswersWf (execSignal e s) := by
  unfold execSignal
  split <;> simp [hw]
theorem execStrobe_wf (t : Fin 384) : AnswersWf (execStrobe t s) := by
  have lost : ∀ (l : List Delivered) (u : State), u.regsWf = true → (l.foldl (fun u d => u.loseStrobe t d) u).regsWf = true :=
    fun l u hu => foldl_wf _ _ _ hu fun u d => u.loseStrobe_wf _ _
  unfold execStrobe
  split <;> grind [answersWf_next, State.taken_wf, State.setR_wf, State.setSector_wf]
theorem execLockstepMismatch_wf (n : Fin 68) (bit : Fin 64) : AnswersWf (execLockstepMismatch n bit s) := by
  unfold execLockstepMismatch
  split <;> simp [hw]
theorem execEngineWatchdog_wf (n : Fin 68) : AnswersWf (execEngineWatchdog n s) := by
  unfold execEngineWatchdog
  split <;> grind [answersWf_next, State.raise_wf, State.abandon_wf]
theorem execRunEnClear_wf (n : Fin 68) : AnswersWf (execRunEnClear n s) := by simp [hw, execRunEnClear]
theorem execMigrate_wf (v : ViaN) : AnswersWf (execMigrate v s) := by
  unfold execMigrate
  (repeat' split) <;> grind [answersWf_next, State.engOrder_wf, State.replyTo_wf, State.pendingReply_wf, State.migrate_wf, State.finish_wf]
theorem execHaltClr_wf (v : ViaN) : AnswersWf (execHaltClr v s) := by
  unfold execHaltClr
  (repeat' split) <;> simp [hw]
theorem execReinstate_wf (v : ViaN) : AnswersWf (execReinstate v s) := by
  unfold execReinstate
  (repeat' split) <;> grind [answersWf_next, State.engOrder_wf, State.replyTo_wf, State.reinstate_wf]
theorem execEngRun_wf (c : CmdRef) : AnswersWf (execEngRun c s) := by
  unfold execEngRun
  split <;> grind [answersWf_next, State.setB_wf, State.overMask_wf, State.replyTo_wf]
theorem execEngHold_wf (c : CmdRef) : AnswersWf (execEngHold c s) := by
  unfold execEngHold
  split <;> grind [answersWf_next, State.clearRun_wf, State.overMask_wf, State.replyTo_wf]
theorem execEngStat_wf (c : CmdRef) : AnswersWf (execEngStat c s) := by
  unfold execEngStat
  (repeat' split) <;> simp [hw]
theorem execDataRamHostWrite_wf (n : Fin 68) (k : Fin 16384) (w : Word) : AnswersWf (execDataRamHostWrite n k w s) := by
  simp [hw, execDataRamHostWrite]
theorem execFarFlush_wf (n : Fin 68) : AnswersWf (execFarFlush n s) := by simp [hw, execFarFlush]
theorem execMboxWrite_wf (v : MboxVia) : AnswersWf (execMboxWrite v s) := by
  unfold execMboxWrite
  (repeat' split) <;> grind [answersWf_next, State.mailboxHi_wf, State.replyTo_wf, State.mailWrite_wf, State.awaitReply_wf]
theorem execMigrationCopyDone_wf (e : Fin 64) : AnswersWf (execMigrationCopyDone e s) := by
  unfold execMigrationCopyDone
  split <;> grind [answersWf_next, State.setLeng_wf, State.afterFailure_wf]

/-! ### The rows of Machine/Front -/

theorem execFrontArm_wf (v : Via) : AnswersWf (execFrontArm v s) := by
  unfold execFrontArm
  (repeat' split) <;> grind [answersWf_next, State.writeFrontCtl_wf, State.replyTo_wf, State.arm_wf]
theorem execFrontCancel_wf (v : Via) : AnswersWf (execFrontCancel v s) := by
  unfold execFrontCancel
  (repeat' split) <;> simp [hw]
theorem execFrontStat_wf (c : CmdRef) : AnswersWf (execFrontStat c s) := by
  unfold execFrontStat
  split <;> simp [hw]
theorem execVerifyDone_wf (bad : List (BitVec 32 × Bool)) : AnswersWf (execVerifyDone bad s) := by
  have verified : ∀ (u : State) (b : Bool), u.regsWf = true → (bad.foldl State.verifyFrame (u, b)).1.regsWf = true :=
    fun u b hu => foldl_wf1 _ _ _ hu fun r m => State.verifyFrame_wf r m
  unfold execVerifyDone
  grind [answersWf_next, State.closeVote_wf, wf_mk, wf_fold, State.raise_wf, State.tryVote_wf, State.frontCancel_wf]
theorem execNotice_wf (m : LaneMsg) (seq : BitVec 16) (dir : Bool) (tf d : DWord) (part : BitVec 16) :
    AnswersWf (execNotice m seq dir tf d part s) := by
  unfold execNotice
  grind [answersWf_next, wf_mk, wf_fold, State.badCrc_wf, State.closeVote_wf, State.flood_wf, State.frontCancel_wf, State.setB_wf,
    State.tryVote_wf]
theorem execNoticeExpiry_wf (st : Fin 16) : AnswersWf (execNoticeExpiry st s) := by simp [hw, execNoticeExpiry]
theorem execVoteClose_wf : AnswersWf (execVoteClose s) := by simp [hw, execVoteClose]
theorem execFrontCommit_wf (line : Bool) : AnswersWf (execFrontCommit line s) := by
  unfold execFrontCommit
  grind [answersWf_next, State.frontCancel_wf, State.setF_wf, State.raise_wf]
theorem execDoneHoldEnd_wf : AnswersWf (execDoneHoldEnd s) := by
  unfold execDoneHoldEnd
  split <;> simp [hw]
theorem execFront_wf : AnswersWf (execFront s) := by simp [hw, execFront]
theorem execFrontBack_wf : AnswersWf (execFrontBack s) := by simp [hw, execFrontBack]
theorem execQuietEnd_wf : AnswersWf (execQuietEnd s) := by simp [hw, execQuietEnd]
theorem execCrossingHoldEnd_wf : AnswersWf (execCrossingHoldEnd s) := by simp [hw, execCrossingHoldEnd]

/-! ### The rows of Machine/LinePower -/

theorem execAuxSet_wf (v : ViaN) : AnswersWf (execAuxSet v s) := by
  unfold execAuxSet
  (repeat' split) <;> grind [answersWf_next, State.writeAuxCtl_wf, State.replyTo_wf]
theorem execAuxSoftStartDone_wf (k : Fin 8) : AnswersWf (execAuxSoftStartDone k s) := by
  unfold execAuxSoftStartDone
  grind [answersWf_next, State.setAux_wf, State.setB_wf]
theorem execAuxStartTimeout_wf (k : Fin 8) : AnswersWf (execAuxStartTimeout k s) := by simp [hw, execAuxStartTimeout]
theorem execAuxFuseTrip_wf (k : Fin 8) : AnswersWf (execAuxFuseTrip k s) := by simp [hw, execAuxFuseTrip]
theorem execAuxBudgetCheck_wf (sum : Nat) : AnswersWf (execAuxBudgetCheck sum s) := by
  unfold execAuxBudgetCheck
  split <;> simp [hw]
theorem execAuxStaggerOn_wf : AnswersWf (execAuxStaggerOn s) := by
  unfold execAuxStaggerOn
  split <;> grind [answersWf_next, wf_mk, wf_fold, State.auxStart_wf, State.raise_wf]
theorem execSupplyWarning_wf : AnswersWf (execSupplyWarning s) := by
  have pend : ∀ (l : List Nat) (u : State), u.regsWf = true → (l.foldl (fun u k =>
      if u.getB (Reg.ANA_AUX_STAT k) auxSHED then u else u.setB (Reg.ANA_AUX_STAT k) auxPEND true) u).regsWf = true :=
    fun l u hu => foldl_wf _ _ _ hu fun u k hu => by split <;> simp [hu]
  have shed : ∀ u : State, u.regsWf = true → ((List.range 8).foldl (fun u k => u.auxShed k) u).regsWf = true :=
    fun u hu => foldl_wf _ _ _ hu fun u k => State.auxShed_wf u k
  unfold execSupplyWarning
  grind [answersWf_next, State.setB_wf, wf_mk, wf_fold, State.addF_wf, State.setF_wf, State.raise_wf, State.nvWarn_wf]
theorem execClearLevelRise_wf : AnswersWf (execClearLevelRise s) := by simp [hw, execClearLevelRise]
theorem execClearLevelFall_wf : AnswersWf (execClearLevelFall s) := by simp [hw, execClearLevelFall]
theorem execWarningClear_wf : AnswersWf (execWarningClear s) := by
  unfold execWarningClear
  refine answersWf_ite _ _ _ (.of hw) (.of (wf_same rfl (foldl_wf _ _ _ ?_ fun u k hu => ?_)))
  · grind [State.setB_wf, State.raise_wf, State.nvClear_wf, State.waitingWriteBack_wf, State.releaseData_wf]
  · split <;> simp [hu]
theorem execPortPowerLoss_wf (p : Fin 2) : AnswersWf (execPortPowerLoss p s) := by
  unfold execPortPowerLoss
  grind [answersWf_next, State.setR_wf, State.raise_wf]
theorem execPortPowerReturn_wf (p : Fin 2) : AnswersWf (execPortPowerReturn p s) := by
  unfold execPortPowerReturn
  grind [answersWf_next, State.setF_wf, State.raise_wf]
theorem execPortOvervoltage_wf (p : Fin 2) : AnswersWf (execPortOvervoltage p s) := by
  unfold execPortOvervoltage
  grind [answersWf_next, State.setF_wf, State.setB_wf, State.raise_wf]
theorem execOvervoltageReconnect_wf (p : Fin 2) : AnswersWf (execOvervoltageReconnect p s) := by
  simp [hw, execOvervoltageReconnect]
theorem execIntakeCurrentLimit_wf (p : Fin 2) : AnswersWf (execIntakeCurrentLimit p s) := by
  unfold execIntakeCurrentLimit
  grind [answersWf_next, State.setB_wf, State.raise_wf]
theorem execPowerMeasure_wf (m : PowerSample) : AnswersWf (execPowerMeasure m s) := by
  unfold execPowerMeasure
  grind [answersWf_next, State.portMeasure_wf, State.putEach_wf, State.setF_wf, State.setB_wf, State.raise_wf]
theorem execThermalRead_wf (t : List (BitVec 16)) : AnswersWf (execThermalRead t s) := by
  have tripped : ∀ u : State, u.regsWf = true → ((List.range 8).foldl (fun u k =>
      if u.auxEn k || u.auxLive k then u.auxTrip k auxTHERM 8 else u) u).regsWf = true :=
    fun u hu => foldl_wf _ _ _ hu fun u k hu => by split <;> simp [hu]
  unfold execThermalRead
  grind [answersWf_next, State.senseAll_wf, State.setB_wf]

/-! ### The rows of Machine/Tables -/

theorem execCtStart_wf (v : CtVia) : AnswersWf (execCtStart v s) :=
  .of (s.ctOrder_wf _ v _ (fun u t d => State.ctStart_wf u t d) hw)
theorem execCtStop_wf (v : CtVia) : AnswersWf (execCtStop v s) :=
  .of (s.ctOrder_wf _ v _ (fun u t d => State.ctStop_wf u t d) hw)
theorem execCtSwap_wf (v : CtVia) : AnswersWf (execCtSwap v s) :=
  .of (s.ctOrder_wf _ v _ (fun u t d => State.ctSwap_wf u t d) hw)
theorem execCtEntryPost_wf (t : Fin 16) : AnswersWf (execCtEntryPost t s) := by
  unfold execCtEntryPost
  split <;> grind [answersWf_next, State.setTbl_wf, State.portServed_wf, State.takeRecord_wf]
theorem execCtStopBoundary_wf (t : Fin 16) : AnswersWf (execCtStopBoundary t s) := by
  unfold execCtStopBoundary
  dsimp only
  (repeat' split) <;> grind [answersWf_next, State.addF_wf, State.setF_wf, State.setTbl_wf]
theorem execCtSwapBoundary_wf (t : Fin 16) : AnswersWf (execCtSwapBoundary t s) := by
  unfold execCtSwapBoundary
  dsimp only
  (repeat' split) <;>
    grind [answersWf_next, wf_mk, wf_fold, State.addF_wf, State.copyAdm_wf, State.setD_wf, State.setB_wf, State.setTbl_wf,
      State.raise_wf]
theorem execCtCopybackDone_wf (t : Fin 16) : AnswersWf (execCtCopybackDone t s) := by
  unfold execCtCopybackDone
  grind [answersWf_next, State.setTbl_wf, applyHeld_wf]
theorem execCtPeriodBoundary_wf (t : Fin 16) : AnswersWf (execCtPeriodBoundary t s) := by
  unfold execCtPeriodBoundary
  grind [answersWf_next, State.setD_wf, State.incR_wf]
theorem execCtWrite_wf (c : CmdRef) : AnswersWf (execCtWrite c s) := by
  unfold execCtWrite
  split <;> grind [answersWf_next, State.replyTo_wf, writeEntries_wf]

/-! ### The rows of Machine/Sched -/

theorem execSchedulerTick_wf : AnswersWf (execSchedulerTick s) := by
  unfold execSchedulerTick
  grind [answersWf_next, wf_mk, wf_fold, State.dispatchTick_wf, State.remoteReports_wf, State.serveMails_wf]
theorem execPostAccept_wf : AnswersWf (execPostAccept s) := by
  unfold execPostAccept
  (repeat' split) <;>
    grind [answersWf_next, State.setFifo_wf, State.portServed_wf, State.takeRecord_wf, State.postsDoneOf_wf, State.servePosts_wf,
      State.offerOn_wf]
theorem execPrewakeRequest_wf : AnswersWf (execPrewakeRequest s) := by
  unfold execPrewakeRequest
  split <;> simp [hw]
theorem execActCancel_wf (v : Via) : AnswersWf (execActCancel v s) := by
  unfold execActCancel
  (repeat' split) <;> simp [hw]
theorem execDriveLow_wf (p : Fin 1152) : AnswersWf (execDriveLow p s) := by simp [hw, execDriveLow]
theorem execDriveHigh_wf (p : Fin 1152) : AnswersWf (execDriveHigh p s) := by simp [hw, execDriveHigh]
theorem execToggle_wf (p : Fin 1152) : AnswersWf (execToggle p s) := by simp [hw, execToggle]
theorem execRelease_wf (p : Fin 1152) : AnswersWf (execRelease p s) := by simp [hw, execRelease]
theorem execPulseHigh_wf (p : Fin 1152) : AnswersWf (execPulseHigh p s) := by simp [hw, execPulseHigh]
theorem execPulseLow_wf (p : Fin 1152) : AnswersWf (execPulseLow p s) := by simp [hw, execPulseLow]
theorem execPulseTrailingEdge_wf (p : Fin 1152) : AnswersWf (execPulseTrailingEdge p s) := by
  unfold execPulseTrailingEdge
  dsimp only
  (repeat' split) <;> simp [hw]
theorem execDisarm_wf (p : Fin 1152) : AnswersWf (execDisarm p s) := by simp [hw, execDisarm]
theorem execArmRise_wf (p : Fin 1152) : AnswersWf (execArmRise p s) := by simp [hw, execArmRise]
theorem execArmFall_wf (p : Fin 1152) : AnswersWf (execArmFall p s) := by simp [hw, execArmFall]
theorem execArmBoth_wf (p : Fin 1152) : AnswersWf (execArmBoth p s) := by simp [hw, execArmBoth]
theorem execWinRise_wf (p : Fin 1152) : AnswersWf (execWinRise p s) := by simp [hw, execWinRise]
theorem execWinFall_wf (p : Fin 1152) : AnswersWf (execWinFall p s) := by simp [hw, execWinFall]
theorem execWinBoth_wf (p : Fin 1152) : AnswersWf (execWinBoth p s) := by simp [hw, execWinBoth]
theorem execCaptureEdge_wf (p : Fin 1152) (ed : Edge) (q : Fin 40) : AnswersWf (execCaptureEdge p ed q s) := by
  unfold execCaptureEdge
  dsimp only
  (repeat' split) <;> simp [hw]
theorem execWindowClose_wf (p : Fin 1152) : AnswersWf (execWindowClose p s) := by
  unfold execWindowClose
  dsimp only
  (repeat' split) <;> simp [hw]
theorem execCapRead_wf (v : ReadVia) : AnswersWf (execCapRead v s) := by
  unfold execCapRead
  (repeat' split) <;> grind [answersWf_next, wf_mk, wf_fold, State.ringPop_wf, State.replyTo_wf, State.setRing_wf]
theorem execRaise_wf (n : Fin 16) : AnswersWf (execRaise n s) := by simp [hw, execRaise]
theorem execAdd_wf (n : Fin 16) : AnswersWf (execAdd n s) := by simp [hw, execAdd]
theorem execCountDown_wf (n : Fin 16) : AnswersWf (execCountDown n s) := by simp [hw, execCountDown]
theorem execLoad_wf (n : Fin 16) : AnswersWf (execLoad n s) := by simp [hw, execLoad]

/-! ### The rows of Machine/SelfTest -/

theorem execPassPeriodExpiry_wf (t : Fin 7) : AnswersWf (execPassPeriodExpiry t s) := by
  unfold execPassPeriodExpiry
  grind [answersWf_next, State.setDtype_wf, State.passEnd_wf]
theorem execDrizzleSliceStart_wf (t : Fin 7) : AnswersWf (execDrizzleSliceStart t s) := by
  unfold execDrizzleSliceStart
  dsimp only
  (repeat' split) <;> simp [hw]
theorem execSliceEnd_wf (t : Fin 7) (pass : Bool) (addr : Word) (bit : Fin 128) : AnswersWf (execSliceEnd t pass addr bit s) := by
  unfold execSliceEnd
  split <;>
    grind [answersWf_next, State.sliceReturn_wf, State.setDtype_wf, State.setR_wf, State.setF_wf, State.addF_wf, State.raise_wf,
      State.countFault_wf, State.sliceLasting_wf]
theorem execTstReinstate_wf (w : Word) : AnswersWf (execTstReinstate w s) := by simp [hw, execTstReinstate]
theorem execJtagInstruction_wf (i : Byte) : AnswersWf (execJtagInstruction i s) := by
  unfold execJtagInstruction
  grind [answersWf_next, wf_mk, wf_fold, State.raise_wf]
theorem execTestLogicReset_wf : AnswersWf (execTestLogicReset s) := by simp [hw, execTestLogicReset]

/-! ### The rows of Machine/Startup -/

theorem execBaseLoad_wf : AnswersWf (execBaseLoad s) := by
  unfold execBaseLoad
  dsimp only
  (repeat' split) <;> grind [answersWf_next, State.imageUp_wf, State.setF_wf, State.raise_wf, State.enterService_wf, State.setB_wf]
theorem execTimeWaitExpiry_wf : AnswersWf (execTimeWaitExpiry s) := by
  unfold execTimeWaitExpiry
  grind [answersWf_next, State.startTime_wf, State.setB_wf]
theorem execDoneReleasePoint_wf : AnswersWf (execDoneReleasePoint s) := by simp [hw, execDoneReleasePoint]
theorem execDoneSample_wf (line : Bool) : AnswersWf (execDoneSample line s) := by simp [hw, execDoneSample]
theorem execThaw_wf : AnswersWf (execThaw s) := by
  unfold execThaw
  split
  · exact .of hw
  · refine answersWf_ite _ _ _ (.of hw) ?_
    extract_lets boot rest g trees sectors shown passed
    have htrees : trees.regsWf = true := State.noteClamps_wf _ (foldl_wf _ _ _ (wf_same rfl hw) fun u k => u.store_wf _ _)
    have hsectors : sectors.regsWf = true := foldl_wf _ _ _ htrees fun u i => u.thawSector_wf i
    have hshown : shown.regsWf = true := State.arbModes_wf _ _ (State.setD_wf _ _ _ (State.setF_wf _ _ _ _ _ hsectors))
    have hpassed : passed.regsWf = true := foldl_wf _ _ _ hshown fun u d => u.setDtype_wf _ _
    refine answersWf_ite _ _ _ (answersWf_ite _ _ _ (.of (wf_key _ _ hpassed)) (.of ?_)) (.of hpassed)
    exact State.keySelect_wf _ _ _ hpassed
theorem execServiceEnter_wf (c : CmdRef) : AnswersWf (execServiceEnter c s) := by
  unfold execServiceEnter
  split
  · exact .of hw
  · refine .of (State.replyTo_wf _ _ _ _ _ (State.enterService_wf _ ?_))
    have stopped := foldl_wf _ (List.range 48) _ (State.stopFormat_wf s hw) fun u i hu =>
      State.setB_wf _ (Reg.SEC_STAT i) 1 false (State.setSector_wf u i { u.sector i with
        ffs := [], mulP := [], mulOvf := [], mulIn := [], stb := [], evp := [], reqSeen := [] } hu)
    split
    · exact State.enterFrost_wf _ stopped
    · exact stopped
theorem execStartupWrite_wf (c : CmdRef) : AnswersWf (execStartupWrite c s) := by
  unfold execStartupWrite
  split <;> grind [answersWf_next, State.replyTo_wf, State.pendingReply_wf, State.setR_wf, State.finish_wf]

/-! ### The rows of Machine/Trunk -/

theorem execPeerDelayExchange_wf (p : Fin 2) (delay : Word) : AnswersWf (execPeerDelayExchange p delay s) := by
  unfold execPeerDelayExchange
  grind [answersWf_next, wf_mk, wf_fold, State.setR_wf, State.setNetPort_wf, State.setCapable_wf, State.setF_wf, State.setB_wf,
    State.raise_wf]
theorem execPdelayReqInterval_wf (p : Fin 2) : AnswersWf (execPdelayReqInterval p s) := by
  unfold execPdelayReqInterval
  grind [answersWf_next, State.setNetPort_wf, State.portSend_wf, State.setCapable_wf]
theorem execLinkUp_wf (p : Fin 2) : AnswersWf (execLinkUp p s) := by
  unfold execLinkUp
  grind [answersWf_next, State.setB_wf, State.setF_wf, State.raise_wf]
theorem execLinkDown_wf (p : Fin 2) : AnswersWf (execLinkDown p s) := by
  unfold execLinkDown
  grind [answersWf_next, State.linkLost_wf, State.portLeaves_wf]
theorem execWakeFrame_wf (p : Fin 2) (f : List Byte) : AnswersWf (execWakeFrame p f s) := by
  unfold execWakeFrame
  grind [answersWf_next, State.wake_wf, State.raise_wf, State.dropRx_wf]
theorem execLineEnergy_wf (p : Fin 2) : AnswersWf (execLineEnergy p s) := by
  unfold execLineEnergy
  grind [answersWf_next, State.wake_wf, State.raise_wf]
theorem execFrameTransmit_wf (p : Fin 2) : AnswersWf (execFrameTransmit p s) := by
  unfold execFrameTransmit
  split <;> grind [answersWf_next, State.setNetPort_wf, State.touch_wf]
theorem execGclChange_wf (p : Fin 2) (w : Word) : AnswersWf (execGclChange p w s) := by simp [hw, execGclChange]
theorem execGclChangeBoundary_wf (p : Fin 2) : AnswersWf (execGclChangeBoundary p s) := by
  unfold execGclChangeBoundary
  dsimp only
  (repeat' split) <;>
    grind [answersWf_next, wf_mk, wf_copy, State.setD_wf, State.setR_wf, State.setNetPort_wf, State.setB_wf, State.raise_wf]
theorem execGateIntervalEnd_wf (p : Fin 2) : AnswersWf (execGateIntervalEnd p s) := by simp [hw, execGateIntervalEnd]
theorem execFrameReceive_wf (p : Fin 2) (f : List Byte) (good : Bool) : AnswersWf (execFrameReceive p f good s) := by
  unfold execFrameReceive
  grind [answersWf_next, State.dropRx_wf, State.touch_wf, State.ptpMessage_wf, State.eliminate_wf, State.consume_wf]
theorem execRecoveryReset_wf (i : Fin 64) : AnswersWf (execRecoveryReset i s) := by
  unfold execRecoveryReset
  grind [answersWf_next, State.setRxs_wf, State.incR_wf, State.raise_wf]
theorem execLatentErrorTest_wf : AnswersWf (execLatentErrorTest s) := by
  unfold execLatentErrorTest
  grind [answersWf_next, wf_mk, wf_fold, State.raise_wf]

/-! ### The rows of Machine/RegAccess -/

theorem execRegisterWrite_wf (a : Word) (w : Word) : AnswersWf (execRegisterWrite a w s) := by simp [hw, execRegisterWrite]
theorem execReadClear_wf (a : Word) : AnswersWf (execReadClear a s) := by
  unfold execReadClear
  split <;> simp [hw]
theorem execEvtRouteWrite_wf (a : Word) (w : Word) : AnswersWf (execEvtRouteWrite a w s) := by
  unfold execEvtRouteWrite
  split <;> simp [hw]
theorem execCauseClear_wf (ev : Fin 320) (w : Word) : AnswersWf (execCauseClear ev w s) := by
  unfold execCauseClear
  split <;> simp [hw]
theorem execSubscriptionSignal_wf : AnswersWf (execSubscriptionSignal s) := by
  unfold execSubscriptionSignal
  (repeat' split) <;> simp [hw]

/-! ### The rows of Machine/Cmd -/

theorem execSessionTimeout_wf (k : Fin 4) : AnswersWf (execSessionTimeout k s) := by simp [hw, execSessionTimeout]
theorem execOpeningTimeout_wf (k : Fin 4) : AnswersWf (execOpeningTimeout k s) := by simp [hw, execOpeningTimeout]
theorem execCommand_wf : AnswersWf (execCommand s) := by
  unfold execCommand
  split <;> grind [answersWf_next, wf_mk, wf_fold, State.useCrypto_wf, State.takePacket_wf]
theorem execRunCommandStart_wf (c : CmdRef) : AnswersWf (execRunCommandStart c s) := by
  unfold execRunCommandStart
  (repeat' split) <;>
    grind [answersWf_next, State.incR_wf, State.raise_wf, State.replyTo_wf, State.setCommand_wf, State.authDenied_wf,
      State.renewLease_wf]
theorem execSvcWrite_wf (b : List Byte) : AnswersWf (execSvcWrite b s) := by
  unfold execSvcWrite
  grind [answersWf_next, State.raise_wf, wf_mk, wf_fold]
theorem execSvcRead_wf : AnswersWf (execSvcRead s) := by
  unfold execSvcRead
  (repeat' split) <;> simp [hw]
theorem execSvcStatus_wf : AnswersWf (execSvcStatus s) := by simp [hw, execSvcStatus]
theorem execEventReport_wf (k : Fin 4) : AnswersWf (execEventReport k s) := by
  unfold execEventReport
  dsimp only
  (repeat' split) <;> simp [hw]

/-! ### The rows of Machine/CmdRows -/

theorem execIdentify_wf (c : CmdRef) : AnswersWf (execIdentify c s) := by
  unfold execIdentify
  split <;> simp [hw]
theorem execSessionOpen_wf (c : CmdRef) : AnswersWf (execSessionOpen c s) := by
  unfold execSessionOpen
  dsimp only
  (repeat' split) <;> grind [answersWf_next, State.replyTo_wf, State.freshBytes_wf, State.setSession_wf, State.replyOpen_wf]
theorem execSessionClose_wf (c : CmdRef) : AnswersWf (execSessionClose c s) := by
  unfold execSessionClose
  (repeat' split) <;> simp [hw]
theorem execPing_wf (c : CmdRef) : AnswersWf (execPing c s) := by
  unfold execPing
  split <;> simp [hw]
theorem execRegRead_wf (c : CmdRef) (ecc : List Ecc) : AnswersWf (execRegRead c ecc s) := by
  have read := fun x : Command => s.readWords_wf (beAt x.payload 4 2) (beAt x.payload 0 4) ecc s [] hw hw
  unfold execRegRead
  (repeat' split) <;> grind [answersWf_next, State.replyTo_wf, State.awaitReply_wf]
theorem execRegWrite_wf (c : CmdRef) : AnswersWf (execRegWrite c s) := by
  unfold execRegWrite
  split <;> grind [answersWf_next, State.replyTo_wf, State.writeWords_wf, State.finish_wf]
theorem execRegRmw_wf (c : CmdRef) (ecc : Ecc) : AnswersWf (execRegRmw c ecc s) := by
  unfold execRegRmw
  split <;> grind [answersWf_next, State.replyTo_wf, State.readReg_wf, State.writeReg_wf, State.finish_wf]
theorem execActPost_wf (c : CmdRef) : AnswersWf (execActPost c s) := by
  unfold execActPost
  split <;> simp [hw]
theorem execTimeRead_wf (c : CmdRef) : AnswersWf (execTimeRead c s) := by
  unfold execTimeRead
  split <;> simp [hw]
theorem execPwrStat_wf (c : CmdRef) : AnswersWf (execPwrStat c s) := by
  unfold execPwrStat
  split <;> simp [hw]
theorem execEvtSubscribe_wf (c : CmdRef) : AnswersWf (execEvtSubscribe c s) := by
  unfold execEvtSubscribe
  (repeat' split) <;> simp [hw]
theorem execEvtRead_wf (c : CmdRef) : AnswersWf (execEvtRead c s) := by
  unfold execEvtRead
  split <;> simp [hw]
theorem execEvtAck_wf (c : CmdRef) : AnswersWf (execEvtAck c s) := by
  unfold execEvtAck
  dsimp only
  (repeat' split) <;> simp [hw]
theorem execLeaseAcquire_wf (c : CmdRef) : AnswersWf (execLeaseAcquire c s) := by
  unfold execLeaseAcquire
  (repeat' split) <;> grind [answersWf_next, State.replyTo_wf, State.renewLease_wf, State.raise_wf]
theorem execLeaseRenew_wf (c : CmdRef) : AnswersWf (execLeaseRenew c s) := by
  unfold execLeaseRenew
  split <;> simp [hw]
theorem execLeaseRelease_wf (c : CmdRef) : AnswersWf (execLeaseRelease c s) := by
  unfold execLeaseRelease
  split <;> grind [answersWf_next, State.endLease_wf, State.replyTo_wf]
theorem execLeaseStat_wf (c : CmdRef) : AnswersWf (execLeaseStat c s) := by
  unfold execLeaseStat
  split <;> simp [hw]
theorem execHold_wf (c : CmdRef) : AnswersWf (execHold c s) := by
  unfold execHold
  split <;> grind [answersWf_next, State.replyTo_wf, State.applyHold_wf]
theorem execStop_wf (c : CmdRef) : AnswersWf (execStop c s) := by
  unfold execStop
  split <;>
    grind [answersWf_next, State.replyTo_wf, State.applyFlags_wf, State.stopEngine_wf, State.overMask_wf, State.raise_wf,
      State.endLease_wf]
theorem execLeaseLapse_wf : AnswersWf (execLeaseLapse s) := by
  unfold execLeaseLapse
  split <;> grind [answersWf_next, wf_mk, wf_fold, State.applyHold_wf, State.raise_wf]
theorem execFwBegin_wf (c : CmdRef) : AnswersWf (execFwBegin c s) := by
  unfold execFwBegin
  split <;> simp [hw]
theorem execFwData_wf (c : CmdRef) : AnswersWf (execFwData c s) := by
  unfold execFwData
  (repeat' split) <;> simp [hw]
theorem execFwDataGap_wf : AnswersWf (execFwDataGap s) := by
  unfold execFwDataGap
  split <;> simp [hw]
theorem execFwEnd_wf (c : CmdRef) (ok : Bool) : AnswersWf (execFwEnd c ok s) := by
  unfold execFwEnd
  (repeat' split) <;> simp [hw]
theorem execTestUnlock_wf (c : CmdRef) : AnswersWf (execTestUnlock c s) := by
  have closed : ∀ u : State, u.regsWf = true → ((List.range 4).foldl (fun u k =>
      if (u.session k).state = 0 then u else u.closeSession k false) u).regsWf = true :=
    fun u hu => foldl_wf _ _ _ hu fun u k hu => by split <;> simp [hu]
  unfold execTestUnlock
  split <;> grind [answersWf_next, State.replyTo_wf, wf_mk, wf_fold, State.setF_wf, State.arbModes_wf, State.raise_wf]

theorem execVaultProv_wf (c : CmdRef) : AnswersWf (execVaultProv c s) := by
  unfold execVaultProv
  split <;> grind [answersWf_next, State.replyTo_wf, State.pendingReply_wf, State.provision_wf, State.finish_wf]

end Rows

/-! ### Every row -/

/-- Every row answers a state whose register table is canonical. -/
theorem exec_wf : ∀ (c : Instr) (s : State), s.regsWf = true → AnswersWf (exec c s)
  | .schedulerTick, _, hw => execSchedulerTick_wf hw ..
  | .postAccept, _, hw => execPostAccept_wf hw ..
  | .prewakeRequest, _, hw => execPrewakeRequest_wf hw ..
  | .actCancel .., _, hw => execActCancel_wf hw ..
  | .driveLow .., _, hw => execDriveLow_wf hw ..
  | .driveHigh .., _, hw => execDriveHigh_wf hw ..
  | .toggle .., _, hw => execToggle_wf hw ..
  | .release .., _, hw => execRelease_wf hw ..
  | .pulseHigh .., _, hw => execPulseHigh_wf hw ..
  | .pulseLow .., _, hw => execPulseLow_wf hw ..
  | .pulseTrailingEdge .., _, hw => execPulseTrailingEdge_wf hw ..
  | .cycle .., _, hw => execCycle_wf hw ..
  | .signal .., _, hw => execSignal_wf hw ..
  | .strobe .., _, hw => execStrobe_wf hw ..
  | .disarm .., _, hw => execDisarm_wf hw ..
  | .armRise .., _, hw => execArmRise_wf hw ..
  | .armFall .., _, hw => execArmFall_wf hw ..
  | .armBoth .., _, hw => execArmBoth_wf hw ..
  | .winRise .., _, hw => execWinRise_wf hw ..
  | .winFall .., _, hw => execWinFall_wf hw ..
  | .winBoth .., _, hw => execWinBoth_wf hw ..
  | .captureEdge .., _, hw => execCaptureEdge_wf hw ..
  | .windowClose .., _, hw => execWindowClose_wf hw ..
  | .capRead .., _, hw => execCapRead_wf hw ..
  | .convert .., _, hw => execConvert_wf hw ..
  | .sequence .., _, hw => execSequence_wf hw ..
  | .adcResult .., _, hw => execAdcResult_wf hw ..
  | .ctStart .., _, hw => execCtStart_wf hw ..
  | .ctStop .., _, hw => execCtStop_wf hw ..
  | .ctSwap .., _, hw => execCtSwap_wf hw ..
  | .ctEntryPost .., _, hw => execCtEntryPost_wf hw ..
  | .ctStopBoundary .., _, hw => execCtStopBoundary_wf hw ..
  | .ctSwapBoundary .., _, hw => execCtSwapBoundary_wf hw ..
  | .ctCopybackDone .., _, hw => execCtCopybackDone_wf hw ..
  | .ctWrite .., _, hw => execCtWrite_wf hw ..
  | .raise .., _, hw => execRaise_wf hw ..
  | .add .., _, hw => execAdd_wf hw ..
  | .countDown .., _, hw => execCountDown_wf hw ..
  | .load .., _, hw => execLoad_wf hw ..
  | .action .., _, hw => execAction_wf hw ..
  | .front, _, hw => execFront_wf hw ..
  | .frontBack, _, hw => execFrontBack_wf hw ..
  | .holdover, _, hw => execHoldover_wf hw ..
  | .clkTbCtlWrite .., _, hw => execClkTbCtlWrite_wf hw ..
  | .timeStep .., _, hw => execTimeStep_wf hw ..
  | .timeStepApply, _, hw => execTimeStepApply_wf hw ..
  | .resFail .., _, hw => execResFail_wf hw ..
  | .lossOfLock .., _, hw => execLossOfLock_wf hw ..
  | .lockComplete .., _, hw => execLockComplete_wf hw ..
  | .timeWaitExpiry, _, hw => execTimeWaitExpiry_wf hw ..
  | .adpllEnable .., _, hw => execAdpllEnable_wf hw ..
  | .relock .., _, hw => execRelock_wf hw ..
  | .fcwWrite .., _, hw => execFcwWrite_wf hw ..
  | .slewDone .., _, hw => execSlewDone_wf hw ..
  | .outputCtlWrite .., _, hw => execOutputCtlWrite_wf hw ..
  | .gclkSrcWrite .., _, hw => execGclkSrcWrite_wf hw ..
  | .runEnClear .., _, hw => execRunEnClear_wf hw ..
  | .lockstepMismatch .., _, hw => execLockstepMismatch_wf hw ..
  | .migrationCopyDone .., _, hw => execMigrationCopyDone_wf hw ..
  | .migrate .., _, hw => execMigrate_wf hw ..
  | .haltClr .., _, hw => execHaltClr_wf hw ..
  | .reinstate .., _, hw => execReinstate_wf hw ..
  | .engineWatchdog .., _, hw => execEngineWatchdog_wf hw ..
  | .dataRamHostWrite .., _, hw => execDataRamHostWrite_wf hw ..
  | .mboxWrite .., _, hw => execMboxWrite_wf hw ..
  | .farFlush .., _, hw => execFarFlush_wf hw ..
  | .farLineFill .., _, hw => execFarLineFill_wf hw ..
  | .effectStatusReturn .., _, hw => execEffectStatusReturn_wf hw ..
  | .drainTimeout .., _, hw => execDrainTimeout_wf hw ..
  | .waitTimeout .., _, hw => execWaitTimeout_wf hw ..
  | .waittWake .., _, hw => execWaittWake_wf hw ..
  | .bpAck .., _, hw => execBpAck_wf hw ..
  | .bpTimeout .., _, hw => execBpTimeout_wf hw ..
  | .alu .., _, hw => execAlu_wf hw ..
  | .addi .., _, hw => execAddi_wf hw ..
  | .andi .., _, hw => execAndi_wf hw ..
  | .ori .., _, hw => execOri_wf hw ..
  | .xori .., _, hw => execXori_wf hw ..
  | .shi .., _, hw => execShi_wf hw ..
  | .ldi .., _, hw => execLdi_wf hw ..
  | .insh .., _, hw => execInsh_wf hw ..
  | .cmpi .., _, hw => execCmpi_wf hw ..
  | .nop .., _, hw => execNop_wf hw ..
  | .fpu .., _, hw => execFpu_wf hw ..
  | .fma .., _, hw => execFma_wf hw ..
  | .ld .., _, hw => execLd_wf hw ..
  | .ldw .., _, hw => execLdw_wf hw ..
  | .ldws .., _, hw => execLdws_wf hw ..
  | .st .., _, hw => execSt_wf hw ..
  | .stw .., _, hw => execStw_wf hw ..
  | .bcc .., _, hw => execBcc_wf hw ..
  | .jmp .., _, hw => execJmp_wf hw ..
  | .call .., _, hw => execCall_wf hw ..
  | .jr .., _, hw => execJr_wf hw ..
  | .ret .., _, hw => execRet_wf hw ..
  | .fret .., _, hw => execFret_wf hw ..
  | .fcall .., _, hw => execFcall_wf hw ..
  | .post .., _, hw => execPost_wf hw ..
  | .cancel .., _, hw => execCancel_wf hw ..
  | .waitt .., _, hw => execWaitt_wf hw ..
  | .waitf .., _, hw => execWaitf_wf hw ..
  | .tfclr .., _, hw => execTfclr_wf hw ..
  | .send .., _, hw => execSend_wf hw ..
  | .recv .., _, hw => execRecv_wf hw ..
  | .peek .., _, hw => execPeek_wf hw ..
  | .recvm .., _, hw => execRecvm_wf hw ..
  | .bprd .., _, hw => execBprd_wf hw ..
  | .bpwr .., _, hw => execBpwr_wf hw ..
  | .uwr .., _, hw => execUwr_wf hw ..
  | .urd .., _, hw => execUrd_wf hw ..
  | .trjGo .., _, hw => execTrjGo_wf hw ..
  | .trjStop .., _, hw => execTrjStop_wf hw ..
  | .qstop .., _, hw => execQstop_wf hw ..
  | .trjStep .., _, hw => execTrjStep_wf hw ..
  | .engage .., _, hw => execEngage_wf hw ..
  | .disengage .., _, hw => execDisengage_wf hw ..
  | .camStep .., _, hw => execCamStep_wf hw ..
  | .vmset .., _, hw => execVmset_wf hw ..
  | .loopReset .., _, hw => execLoopReset_wf hw ..
  | .biqReset .., _, hw => execBiqReset_wf hw ..
  | .apply .., _, hw => execApply_wf hw ..
  | .pwmWriteApply .., _, hw => execPwmWriteApply_wf hw ..
  | .cami .., _, hw => execCami_wf hw ..
  | .loopx .., _, hw => execLoopx_wf hw ..
  | .biqx .., _, hw => execBiqx_wf hw ..
  | .limx .., _, hw => execLimx_wf hw ..
  | .mfs .., _, hw => execMfs_wf hw ..
  | .mts .., _, hw => execMts_wf hw ..
  | .cend .., _, hw => execCend_wf hw ..
  | .prelog .., _, hw => execPrelog_wf hw ..
  | .ckhNoretry .., _, hw => execCkhNoretry_wf hw ..
  | .logfree .., _, hw => execLogfree_wf hw ..
  | .rqNvRead .., _, hw => execRqNvRead_wf hw ..
  | .rqNvProgram .., _, hw => execRqNvProgram_wf hw ..
  | .rqNvErase .., _, hw => execRqNvErase_wf hw ..
  | .rqPrmRead .., _, hw => execRqPrmRead_wf hw ..
  | .rqPrmWrite .., _, hw => execRqPrmWrite_wf hw ..
  | .rqTrunkTransmit .., _, hw => execRqTrunkTransmit_wf hw ..
  | .quadratureCount .., _, hw => execQuadratureCount_wf hw ..
  | .indexEdge .., _, hw => execIndexEdge_wf hw ..
  | .ssiFrameEnd .., _, hw => execSsiFrameEnd_wf hw ..
  | .dsSample .., _, hw => execDsSample_wf hw ..
  | .dsClklost .., _, hw => execDsClklost_wf hw ..
  | .contention .., _, hw => execContention_wf hw ..
  | .scrubRewriteDone .., _, hw => execScrubRewriteDone_wf hw ..
  | .fabricCancel .., _, hw => execFabricCancel_wf hw ..
  | .fabricMboxWrite .., _, hw => execFabricMboxWrite_wf hw ..
  | .fabricRequest .., _, hw => execFabricRequest_wf hw ..
  | .eventPortPulse .., _, hw => execEventPortPulse_wf hw ..
  | .prbPinWrite .., _, hw => execPrbPinWrite_wf hw ..
  | .trcArm .., _, hw => execTrcArm_wf hw ..
  | .trcStop .., _, hw => execTrcStop_wf hw ..
  | .trcForce .., _, hw => execTrcForce_wf hw ..
  | .traceTrigger, _, hw => execTraceTrigger_wf hw ..
  | .traceDone, _, hw => execTraceDone_wf hw ..
  | .trcRead .., _, hw => execTrcRead_wf hw ..
  | .bramEccError .., _, hw => execBramEccError_wf hw ..
  | .memSweepRead .., _, hw => execMemSweepRead_wf hw ..
  | .residueMismatch .., _, hw => execResidueMismatch_wf hw ..
  | .memMove .., _, hw => execMemMove_wf hw ..
  | .memReturn .., _, hw => execMemReturn_wf hw ..
  | .bramCopyDone .., _, hw => execBramCopyDone_wf hw ..
  | .bramInitDone .., _, hw => execBramInitDone_wf hw ..
  | .stagingGo .., _, hw => execStagingGo_wf hw ..
  | .imageHeader, _, hw => execImageHeader_wf hw ..
  | .frame .., _, hw => execFrame_wf hw ..
  | .stgBegin .., _, hw => execStgBegin_wf hw ..
  | .stgData .., _, hw => execStgData_wf hw ..
  | .stgEnd .., _, hw => execStgEnd_wf hw ..
  | .stgAbort .., _, hw => execStgAbort_wf hw ..
  | .hostStreamGap, _, hw => execHostStreamGap_wf hw ..
  | .slotErase .., _, hw => execSlotErase_wf hw ..
  | .slotEraseDone .., _, hw => execSlotEraseDone_wf hw ..
  | .slotStat .., _, hw => execSlotStat_wf hw ..
  | .serviceEnter .., _, hw => execServiceEnter_wf hw ..
  | .scrubRead .., _, hw => execScrubRead_wf hw ..
  | .bcast .., _, hw => execBcast_wf hw ..
  | .frontArm .., _, hw => execFrontArm_wf hw ..
  | .frontCancel .., _, hw => execFrontCancel_wf hw ..
  | .frontStat .., _, hw => execFrontStat_wf hw ..
  | .verifyDone .., _, hw => execVerifyDone_wf hw ..
  | .notice .., _, hw => execNotice_wf hw ..
  | .noticeExpiry .., _, hw => execNoticeExpiry_wf hw ..
  | .voteClose, _, hw => execVoteClose_wf hw ..
  | .frontCommit .., _, hw => execFrontCommit_wf hw ..
  | .doneHoldEnd, _, hw => execDoneHoldEnd_wf hw ..
  | .quietEnd, _, hw => execQuietEnd_wf hw ..
  | .crossingHoldEnd, _, hw => execCrossingHoldEnd_wf hw ..
  | .powerUp .., _, hw => execPowerUp_wf hw ..
  | .baseLoad, _, hw => execBaseLoad_wf hw ..
  | .resetNAssert, _, hw => execResetNAssert_wf hw ..
  | .resetNRelease, _, hw => execResetNRelease_wf hw ..
  | .coldReset .., _, hw => execColdReset_wf hw ..
  | .warmReset .., _, hw => execWarmReset_wf hw ..
  | .managementWatchdog, _, hw => execManagementWatchdog_wf hw ..
  | .doneReleasePoint, _, hw => execDoneReleasePoint_wf hw ..
  | .doneSample .., _, hw => execDoneSample_wf hw ..
  | .thaw, _, hw => execThaw_wf hw ..
  | .supplyBelowReset, _, hw => execSupplyBelowReset_wf hw ..
  | .gaspSectorErase, _, hw => execGaspSectorErase_wf hw ..
  | .startupWrite .., _, hw => execStartupWrite_wf hw ..
  | .keyInsertion .., _, hw => execKeyInsertion_wf hw ..
  | .keyRemoval, _, hw => execKeyRemoval_wf hw ..
  | .keyDiscovery, _, hw => execKeyDiscovery_wf hw ..
  | .keyVoltageRetry, _, hw => execKeyVoltageRetry_wf hw ..
  | .keyOvercurrent, _, hw => execKeyOvercurrent_wf hw ..
  | .keySelect .., _, hw => execKeySelect_wf hw ..
  | .keyRescan .., _, hw => execKeyRescan_wf hw ..
  | .keyStat .., _, hw => execKeyStat_wf hw ..
  | .keyRead .., _, hw => execKeyRead_wf hw ..
  | .settingsLoad .., _, hw => execSettingsLoad_wf hw ..
  | .keyWb .., _, hw => execKeyWb_wf hw ..
  | .wbPeriodExpiry .., _, hw => execWbPeriodExpiry_wf hw ..
  | .prmWindowWrite .., _, hw => execPrmWindowWrite_wf hw ..
  | .prmRead .., _, hw => execPrmRead_wf hw ..
  | .prmWrite .., _, hw => execPrmWrite_wf hw ..
  | .nvProgram .., _, hw => execNvProgram_wf hw ..
  | .nvErase .., _, hw => execNvErase_wf hw ..
  | .nvSuspend .., _, hw => execNvSuspend_wf hw ..
  | .nvResume .., _, hw => execNvResume_wf hw ..
  | .nvRead .., _, hw => execNvRead_wf hw ..
  | .nvStat .., _, hw => execNvStat_wf hw ..
  | .nvWindowRead .., _, hw => execNvWindowRead_wf hw ..
  | .nvWindowWrite k w, _, hw => execNvWindowWrite_wf hw k w
  | .nvProgramStep .., _, hw => execNvProgramStep_wf hw ..
  | .nvErasePulse .., _, hw => execNvErasePulse_wf hw ..
  | .nvResumeIdle, _, hw => execNvResumeIdle_wf hw ..
  | .frameReceive .., _, hw => execFrameReceive_wf hw ..
  | .peerDelayExchange .., _, hw => execPeerDelayExchange_wf hw ..
  | .linkUp .., _, hw => execLinkUp_wf hw ..
  | .linkDown .., _, hw => execLinkDown_wf hw ..
  | .gclChange .., _, hw => execGclChange_wf hw ..
  | .gclChangeBoundary .., _, hw => execGclChangeBoundary_wf hw ..
  | .gateIntervalEnd .., _, hw => execGateIntervalEnd_wf hw ..
  | .frameTransmit .., _, hw => execFrameTransmit_wf hw ..
  | .recoveryReset .., _, hw => execRecoveryReset_wf hw ..
  | .latentErrorTest, _, hw => execLatentErrorTest_wf hw ..
  | .wakeFrame .., _, hw => execWakeFrame_wf hw ..
  | .lineEnergy .., _, hw => execLineEnergy_wf hw ..
  | .hello .., _, hw => execHello_wf hw ..
  | .time .., _, hw => execTime_wf hw ..
  | .delayReq .., _, hw => execDelayReq_wf hw ..
  | .delayResp .., _, hw => execDelayResp_wf hw ..
  | .delayMeasureTimer .., _, hw => execDelayMeasureTimer_wf hw ..
  | .timeSendTimer, _, hw => execTimeSendTimer_wf hw ..
  | .laneDown .., _, hw => execLaneDown_wf hw ..
  | .command, _, hw => execCommand_wf hw ..
  | .runCommandStart .., _, hw => execRunCommandStart_wf hw ..
  | .svcWrite .., _, hw => execSvcWrite_wf hw ..
  | .svcRead, _, hw => execSvcRead_wf hw ..
  | .svcStatus, _, hw => execSvcStatus_wf hw ..
  | .sessionTimeout .., _, hw => execSessionTimeout_wf hw ..
  | .openingTimeout .., _, hw => execOpeningTimeout_wf hw ..
  | .leaseLapse, _, hw => execLeaseLapse_wf hw ..
  | .eventReport .., _, hw => execEventReport_wf hw ..
  | .identify .., _, hw => execIdentify_wf hw ..
  | .sessionOpen .., _, hw => execSessionOpen_wf hw ..
  | .sessionClose .., _, hw => execSessionClose_wf hw ..
  | .ping .., _, hw => execPing_wf hw ..
  | .regRead .., _, hw => execRegRead_wf hw ..
  | .regWrite .., _, hw => execRegWrite_wf hw ..
  | .regRmw .., _, hw => execRegRmw_wf hw ..
  | .actPost .., _, hw => execActPost_wf hw ..
  | .timeRead .., _, hw => execTimeRead_wf hw ..
  | .pwrStat .., _, hw => execPwrStat_wf hw ..
  | .auxSet .., _, hw => execAuxSet_wf hw ..
  | .evtSubscribe .., _, hw => execEvtSubscribe_wf hw ..
  | .evtRead .., _, hw => execEvtRead_wf hw ..
  | .evtAck .., _, hw => execEvtAck_wf hw ..
  | .engRun .., _, hw => execEngRun_wf hw ..
  | .engHold .., _, hw => execEngHold_wf hw ..
  | .engStat .., _, hw => execEngStat_wf hw ..
  | .leaseAcquire .., _, hw => execLeaseAcquire_wf hw ..
  | .leaseRenew .., _, hw => execLeaseRenew_wf hw ..
  | .leaseRelease .., _, hw => execLeaseRelease_wf hw ..
  | .leaseStat .., _, hw => execLeaseStat_wf hw ..
  | .hold .., _, hw => execHold_wf hw ..
  | .stop .., _, hw => execStop_wf hw ..
  | .vaultProv .., _, hw => execVaultProv_wf hw ..
  | .fwBegin .., _, hw => execFwBegin_wf hw ..
  | .fwData .., _, hw => execFwData_wf hw ..
  | .fwDataGap, _, hw => execFwDataGap_wf hw ..
  | .fwEnd .., _, hw => execFwEnd_wf hw ..
  | .testUnlock .., _, hw => execTestUnlock_wf hw ..
  | .grantDecision .., _, hw => execGrantDecision_wf hw ..
  | .backoffExpiry .., _, hw => execBackoffExpiry_wf hw ..
  | .beatComplete .., _, hw => execBeatComplete_wf hw ..
  | .lockGapExpiry .., _, hw => execLockGapExpiry_wf hw ..
  | .arbModeWrite .., _, hw => execArbModeWrite_wf hw ..
  | .domReqOn .., _, hw => execDomReqOn_wf hw ..
  | .domReqRet .., _, hw => execDomReqRet_wf hw ..
  | .domReqOff .., _, hw => execDomReqOff_wf hw ..
  | .domainReset .., _, hw => execDomainReset_wf hw ..
  | .idleTimeout .., _, hw => execIdleTimeout_wf hw ..
  | .wakeRequest .., _, hw => execWakeRequest_wf hw ..
  | .entryDone .., _, hw => execEntryDone_wf hw ..
  | .wakeDone .., _, hw => execWakeDone_wf hw ..
  | .coldRestoreDone .., _, hw => execColdRestoreDone_wf hw ..
  | .supplyWarning, _, hw => execSupplyWarning_wf hw ..
  | .clearLevelRise, _, hw => execClearLevelRise_wf hw ..
  | .warningClear, _, hw => execWarningClear_wf hw ..
  | .portPowerLoss .., _, hw => execPortPowerLoss_wf hw ..
  | .portPowerReturn .., _, hw => execPortPowerReturn_wf hw ..
  | .portOvervoltage .., _, hw => execPortOvervoltage_wf hw ..
  | .overvoltageReconnect .., _, hw => execOvervoltageReconnect_wf hw ..
  | .intakeCurrentLimit .., _, hw => execIntakeCurrentLimit_wf hw ..
  | .powerMeasure .., _, hw => execPowerMeasure_wf hw ..
  | .auxSoftStartDone .., _, hw => execAuxSoftStartDone_wf hw ..
  | .auxStartTimeout .., _, hw => execAuxStartTimeout_wf hw ..
  | .auxFuseTrip .., _, hw => execAuxFuseTrip_wf hw ..
  | .auxBudgetCheck .., _, hw => execAuxBudgetCheck_wf hw ..
  | .auxStaggerOn, _, hw => execAuxStaggerOn_wf hw ..
  | .thermalRead .., _, hw => execThermalRead_wf hw ..
  | .drizzleSliceStart .., _, hw => execDrizzleSliceStart_wf hw ..
  | .sliceEnd .., _, hw => execSliceEnd_wf hw ..
  | .passPeriodExpiry .., _, hw => execPassPeriodExpiry_wf hw ..
  | .tstReinstate .., _, hw => execTstReinstate_wf hw ..
  | .jtagInstruction .., _, hw => execJtagInstruction_wf hw ..
  | .testLogicReset, _, hw => execTestLogicReset_wf hw ..
  | .causeClear .., _, hw => execCauseClear_wf hw ..
  | .subscriptionSignal, _, hw => execSubscriptionSignal_wf hw ..
  | .evtRouteWrite .., _, hw => execEvtRouteWrite_wf hw ..
  | .readClear .., _, hw => execReadClear_wf hw ..
  | .registerWrite .., _, hw => execRegisterWrite_wf hw ..
  | .fabricPost .., _, hw => execFabricPost_wf hw ..
  | .samplingEdge .., _, hw => execSamplingEdge_wf hw ..
  | .eraseSegmentEnd, _, hw => execEraseSegmentEnd_wf hw ..
  | .pdelayReqInterval .., _, hw => execPdelayReqInterval_wf hw ..
  | .laneUp .., _, hw => execLaneUp_wf hw ..
  | .clearLevelFall, _, hw => execClearLevelFall_wf hw ..
  | .ctPeriodBoundary .., _, hw => execCtPeriodBoundary_wf hw ..
  | .pwmEdge .., _, hw => execPwmEdge_wf hw ..
  | .longWait .., _, hw => execLongWait_wf hw ..

/-- Settles O4: a step is a row's answer to the queue's front, whose register table is that of the state, or nothing. -/
theorem registersStayCanonical : Obligations.RegistersStayCanonical := by
  intro s t hs h
  match hp : s.pending with
  | [] =>
    rw [step_of_idle hp] at h
    cases h
    exact hs
  | c :: l =>
    have hc := exec_wf c { s with pending := l } hs
    rw [← step_of_pending hp, h] at hc
    exact (answersWf_next t).1 hc

end Sys2Proof.Machine
end

section
/-!
PROOF. What a request to the user NV array, its SUSPEND and RESUME and an access to its window do (R333, R335, R341, R344–R346), case by
case, and the obligation NvRequests.
-/
namespace Sys2Proof.Machine

/-! ### What runs for each command -/

theorem exec_nvProgram (v : Via) (s : State) : exec (.nvProgram v) s = execNvProgram v s := rfl
theorem exec_nvErase (v : Via) (s : State) : exec (.nvErase v) s = execNvErase v s := rfl
theorem exec_nvSuspend (v : Via) (s : State) : exec (.nvSuspend v) s = execNvSuspend v s := rfl
theorem exec_nvRead (c : CmdRef) (s : State) : exec (.nvRead c) s = execNvRead c s := rfl
theorem exec_nvStat (c : CmdRef) (s : State) : exec (.nvStat c) s = execNvStat c s := rfl
theorem exec_nvWindowRead (k : Fin 16777216) (x : Ecc) (s : State) : exec (.nvWindowRead k x) s = .next (s.nvWindow k x).1 := rfl
theorem exec_nvWindowWrite (k : Fin 16777216) (w : Word) (s : State) :
    exec (.nvWindowWrite k w) s = .next (s.setB Reg.NVC_STAT 15 true) := rfl

/-! ### Requests of the host (R335, R399) -/

section Host
variable {s t : State} {c : CmdRef} {x : Command} {op addr r : Nat} {data : List Byte}

/-- A program or erase that its arbiter takes is answered PENDING. -/
theorem State.nvHostRequest_taken (h : s.submit op addr data.length data 0 (.host x.ref) = (t, 0)) :
    s.nvHostRequest x op addr data = t.pendingReply x := by
  simp only [State.nvHostRequest, h, if_true]

theorem State.nvHostRequest_refused (h : s.submit op addr data.length data 0 (.host x.ref) = (t, r)) (hr : r ≠ 0) :
    s.nvHostRequest x op addr data = t.replyTo x (csOf (if r < 0x40 then 5 else 4) r) true [] := by
  simp only [State.nvHostRequest, h, if_neg hr]

section Program
variable (hx : s.turn c 5 1 = some x)
include hx

theorem exec_nvProgram_taken
    (hs : s.submit 1 (beAt x.payload 0 4) (x.payload.drop 4).length (x.payload.drop 4) 0 (.host x.ref) = (t, 0)) :
    exec (.nvProgram (.cmd c)) s = .next (t.pendingReply x) := by
  simp only [exec_nvProgram, execNvProgram, hx, State.nvHostRequest_taken hs]

/-- A refusal of the array's own is a status of domain 0x04. -/
theorem exec_nvProgram_refused (hr : r ≠ 0) (h40 : 0x40 ≤ r)
    (hs : s.submit 1 (beAt x.payload 0 4) (x.payload.drop 4).length (x.payload.drop 4) 0 (.host x.ref) = (t, r)) :
    exec (.nvProgram (.cmd c)) s = .next (t.replyTo x (csOf 4 r) true []) := by
  simp only [exec_nvProgram, execNvProgram, hx, State.nvHostRequest_refused hs hr, if_neg (Nat.not_lt.2 h40)]

end Program

theorem exec_nvErase_taken (hx : s.turn c 5 2 = some x)
    (hs : s.submit 2 (beAt x.payload 0 4) 0 [] 0 (.host x.ref) = (t, 0)) :
    exec (.nvErase (.cmd c)) s = .next (t.pendingReply x) := by
  simp only [exec_nvErase, execNvErase, hx, State.nvHostRequest_taken (data := []) hs]

theorem exec_nvRead_taken (hx : s.turn c 5 0 = some x)
    (hs : s.submit 0 (beAt x.payload 0 4) (beAt x.payload 4 2) [] 0 (.host x.ref) = (t, 0)) :
    exec (.nvRead c) s = .next (t.awaitReply x) := by
  simp only [exec_nvRead, execNvRead, hx, State.hostRequest_taken hs]

theorem exec_nvStat_answers (hx : s.turn c 5 5 = some x) : exec (.nvStat c) s =
    .next (s.replyTo x csOK true (beBytes 4 (s.getR Reg.NVC_STAT).toNat ++ beBytes 4 (s.getR Reg.NVC_SUSP_CNT).toNat ++ beBytes 4 s.eraseAge)) := by
  simp only [exec_nvStat, execNvStat, hx]

end Host

/-! ### NVC_OP_CTL (R335, R344, R345) -/

section OpCtl
variable {s t : State} {w : Word} {r : Nat}

section Request
variable (h8 : bitOf w 8 = false) (h9 : bitOf w 9 = false)
include h8 h9

/-- Without SUSPEND and RESUME, a request beside one under way is ignored. -/
theorem State.writeNvOpCtl_busy (hop : fld w 1 0 = 1 ∨ fld w 1 0 = 2) (hb : s.getB Reg.NVC_STAT 3 = true) :
    s.writeNvOpCtl w = s.setB Reg.NVC_STAT 15 true := by
  rcases hop with hop | hop <;> simp [State.writeNvOpCtl, h8, h9, hop, hb]

/-- An erase that nothing is under way beside is asked for. -/
theorem State.writeNvOpCtl_erase (hop : fld w 1 0 = 2) (hb : s.getB Reg.NVC_STAT 3 = false) :
    s.writeNvOpCtl w = s.nvRegRequest 2 (fld w 6 4 + 1) := by
  simp [State.writeNvOpCtl, h8, h9, hop, hb]

theorem exec_nvProgram_reg_busy (hop : fld w 1 0 = 1) (hb : s.getB Reg.NVC_STAT 3 = true) :
    exec (.nvProgram (.reg w)) s = .next (s.setB Reg.NVC_STAT 15 true) := by
  simp only [exec_nvProgram, execNvProgram, if_pos hop, State.writeNvOpCtl_busy h8 h9 (.inl hop) hb]

theorem exec_nvErase_reg_busy (hop : fld w 1 0 = 2) (hb : s.getB Reg.NVC_STAT 3 = true) :
    exec (.nvErase (.reg w)) s = .next (s.setB Reg.NVC_STAT 15 true) := by
  simp only [exec_nvErase, execNvErase, if_pos hop, State.writeNvOpCtl_busy h8 h9 (.inr hop) hb]

theorem exec_nvErase_reg_free (hop : fld w 1 0 = 2) (hb : s.getB Reg.NVC_STAT 3 = false) :
    exec (.nvErase (.reg w)) s = .next (s.nvRegRequest 2 (fld w 6 4 + 1)) := by
  simp only [exec_nvErase, execNvErase, if_pos hop, State.writeNvOpCtl_erase h8 h9 hop hb]

end Request

/-- An erase that its arbiter takes shows as under way. -/
theorem State.nvRegRequest_erase_taken {n : Nat} (hs : s.submit 2 (s.getF Reg.NVC_OP_ADDR 25 0) 0 [] 0 .register = (t, 0)) :
    s.nvRegRequest 2 n = (t.setR Reg.NVC_OP_RES 0).setB Reg.NVC_STAT 3 true := by
  simp [State.nvRegRequest, hs]

/-- A refusal shows its code in NVC_OP_RES. -/
theorem State.nvRegRequest_erase_refused {n : Nat} (hr : r ≠ 0)
    (hs : s.submit 2 (s.getF Reg.NVC_OP_ADDR 25 0) 0 [] 0 .register = (t, r)) :
    s.nvRegRequest 2 n = t.setR Reg.NVC_OP_RES (BitVec.ofNat 32 (0x8000 + r)) := by
  simp [State.nvRegRequest, hs, hr]

end OpCtl

/-! ### SUSPEND and RESUME (R344, R345) -/

section Holds
variable {s u : State} {w : Word} {c : CmdRef} {x : Command} {e : NvErase}

/-- SUSPEND without an erase is an error. -/
theorem State.nvCmdSuspend_none (he : s.nv.erase = none) : s.nvCmdSuspend = (s.setB Reg.NVC_STAT 15 true, false) := by
  simp only [State.nvCmdSuspend, he]

/-- In a pulse it waits for the segment's end. -/
theorem State.nvCmdSuspend_inPulse (he : s.nv.erase = some e) (hst : e.stopped = false) (hseg : e.seg ≠ 8) :
    s.nvCmdSuspend = ({ s with nv := { s.nv with erase := some { e with cmdAsk := true } } }, true) := by
  simp [State.nvCmdSuspend, he, hst, hseg]

theorem exec_nvSuspend_reg_none (h8 : bitOf w 8 = true) (h9 : bitOf w 9 = false) (hop : fld w 1 0 = 0) (he : s.nv.erase = none) :
    exec (.nvSuspend (.reg w)) s = .next (s.setB Reg.NVC_STAT 15 true) := by
  simp [exec_nvSuspend, execNvSuspend, State.writeNvOpCtl, h8, h9, hop, State.nvCmdSuspend_none he]

section Command
variable (hx : s.turn c 5 3 = some x)
include hx

theorem exec_nvSuspend_cmd_none (he : s.nv.erase = none) :
    exec (.nvSuspend (.cmd c)) s = .next ((s.setB Reg.NVC_STAT 15 true).replyTo x csBUSY true []) := by
  simp only [exec_nvSuspend, execNvSuspend, hx, State.nvCmdSuspend_none he, Bool.false_eq_true, if_false]

theorem exec_nvSuspend_cmd_inPulse (he : s.nv.erase = some e) (hst : e.stopped = false) (hseg : e.seg ≠ 8) :
    exec (.nvSuspend (.cmd c)) s =
      .next (({ s with nv := { s.nv with erase := some { e with cmdAsk := true } } } : State).replyTo x csOK true []) := by
  simp only [exec_nvSuspend, execNvSuspend, hx, State.nvCmdSuspend_inPulse he hst hseg, if_true]

end Command

/-- RESUME clears the command's hold, and the warning's where nothing else is to clear it. -/
theorem exec_nvResume_reg (h8 : bitOf w 8 = false) (h9 : bitOf w 9 = true) (hop : fld w 1 0 = 0)
    (hu : u = ({ s with nv := { s.nv with erase := s.nv.erase.map (fun e => { e with cmdAsk := false }) } } : State).nvRelease 10 2) :
    exec (.nvResume (.reg w)) s =
      .next (if !u.getB Reg.NVC_CTL 1 && !u.getB Reg.ANA_IN_STAT 16 then u.nvRelease 11 2 else u) := by
  subst hu
  simp only [exec_nvResume, execNvResume, State.writeNvOpCtl, h8, h9, hop, Bool.false_eq_true, if_false, if_true]
  rfl

end Holds

/-! ### The window (R333, R341, R346) -/

section Window
variable {s u : State} {k : Fin 16777216} {x : Ecc} {b : Nat} {p : NvProg}

/-- A read of the sleeping array wakes it. -/
theorem State.nvServe_asleep (hd : s.domOn domNv = false) : s.nvServe b = (s.wake domNv 1, false) := by
  simp only [State.nvServe, hd, Bool.not_false, if_true]

/-- With nothing under way any bank may be read. -/
theorem State.nvServe_free (hd : s.domOn domNv = true) (hp : s.nv.prog = none) (he : s.nv.erase = none) :
    s.nvServe b = (s.touch domNv, true) := by
  have hp' : (s.touch domNv).nv.prog = none := hp
  have he' : (s.touch domNv).nv.erase = none := he
  simp [State.nvServe, hd, hp', he']

/-- A read of the bank of a program's pulse waits for the step's verify. -/
theorem State.nvServe_underPulse (hd : s.domOn domNv = true) (hp : s.nv.prog = some p) (hb : p.addr / 2 ^ 23 = b) (hw : p.waits = false)
    (hr : p.readOk = false) : s.nvServe b =
      ({ s.touch domNv with nv := { (s.touch domNv).nv with prog := some { p with readAsk := true } } }, false) := by
  subst hb
  have hp' : (s.touch domNv).nv.prog = some p := hp
  simp [State.nvServe, hd, hp', hw, hr]

theorem exec_nvWindowRead_waits (h : s.nvServe (k.val / 2 ^ 21) = (u, false)) : exec (.nvWindowRead k x) s = .next u := by
  simp only [exec_nvWindowRead, State.nvWindow, h, Bool.not_false, if_true]

theorem exec_nvWindowRead_served (h : s.nvServe (k.val / 2 ^ 21) = (u, true)) : exec (.nvWindowRead k x) s =
    .next { (u.nvReadWord (k.val / 8) x).1 with readData := BitVec.ofNat 32 (leNat (s.nvBytes (4 * k.val) 4)) } := by
  simp only [exec_nvWindowRead, State.nvWindow, h, Bool.not_true, Bool.false_eq_true, if_false]

end Window

/-- Settles O51: each clause is one case of a request, of SUSPEND or RESUME, or of an access to the window. -/
theorem nvRequests : Obligations.NvRequests :=
  ⟨fun _ _ _ _ => exec_nvProgram_taken, fun _ _ _ _ _ => exec_nvProgram_refused,
    fun _ _ h8 h9 hb => ⟨fun hop => exec_nvProgram_reg_busy h8 h9 hop hb, fun hop => exec_nvErase_reg_busy h8 h9 hop hb⟩,
    fun _ _ _ h8 h9 hop hb hs => by rw [exec_nvErase_reg_free h8 h9 hop hb, State.nvRegRequest_erase_taken hs],
    fun _ _ _ _ h8 h9 hop hb hr hs => by rw [exec_nvErase_reg_free h8 h9 hop hb, State.nvRegRequest_erase_refused hr hs],
    fun _ _ _ _ => exec_nvErase_taken, fun _ _ _ _ => exec_nvRead_taken, fun _ _ _ => exec_nvStat_answers,
    exec_nvWindowWrite, fun _ _ => exec_nvSuspend_reg_none, fun _ _ _ => exec_nvSuspend_cmd_none,
    fun _ _ _ _ => exec_nvSuspend_cmd_inPulse,
    fun _ _ _ h8 h9 hop hu => ⟨fun ha => by rw [exec_nvResume_reg h8 h9 hop hu, if_neg (by simp [ha])],
      fun ha hi => by rw [exec_nvResume_reg h8 h9 hop hu, if_pos (by simp [ha, hi])]⟩,
    fun _ _ _ hd => exec_nvWindowRead_waits (State.nvServe_asleep hd), fun _ _ _ _ => exec_nvWindowRead_waits,
    fun _ _ _ _ => exec_nvWindowRead_served, fun _ _ => State.nvServe_free, fun _ _ _ => State.nvServe_underPulse⟩

end Sys2Proof.Machine
end

section
/-!
PROOF. What the link, the service and 802.1AS of a trunk port do (R357, R362–R366), case by case, and the obligation TrunkService.
-/
namespace Sys2Proof.Machine

/-! ### What runs for each command -/

theorem exec_linkUp (p : Fin 2) (s : State) : exec (.linkUp p) s = execLinkUp p s := rfl
theorem exec_linkDown (p : Fin 2) (s : State) : exec (.linkDown p) s = execLinkDown p s := rfl
theorem exec_peerDelayExchange (p : Fin 2) (d : Word) (s : State) : exec (.peerDelayExchange p d) s = execPeerDelayExchange p d s := rfl
theorem exec_pdelayReqInterval (p : Fin 2) (s : State) : exec (.pdelayReqInterval p) s = execPdelayReqInterval p s := rfl
theorem exec_wakeFrame (p : Fin 2) (f : List Byte) (s : State) : exec (.wakeFrame p f) s = execWakeFrame p f s := rfl
theorem exec_lineEnergy (p : Fin 2) (s : State) : exec (.lineEnergy p) s = execLineEnergy p s := rfl

section Port
variable {p : Fin 2} {s u v w : State} {d : Word} {f : List Byte}

/-! ### The link (R363, R364) -/

theorem exec_linkUp_comes (hen : s.getB (Reg.NET_PORT_CTL p) 0 = true) (hon : s.domOn (domTrunk p) = true)
    (hdown : s.getB (Reg.NET_PORT_STAT p) 3 = false) :
    exec (.linkUp p) s = .next (((s.setB (Reg.NET_PORT_STAT p) 3 true).setF (Reg.NET_PORT_STAT p) 2 0 2).raise (144 + p) 1) := by
  simp [exec_linkUp, execLinkUp, hen, hon, hdown]

/-- A port that is off or asleep sees no link. -/
theorem exec_linkUp_off (h : s.getB (Reg.NET_PORT_CTL p) 0 = false ∨ s.domOn (domTrunk p) = false) : exec (.linkUp p) s = .next s := by
  rcases h with h | h <;> simp [exec_linkUp, execLinkUp, h]

theorem exec_linkUp_up (hup : s.getB (Reg.NET_PORT_STAT p) 3 = true) : exec (.linkUp p) s = .next s := by
  simp [exec_linkUp, execLinkUp, hup]

theorem exec_linkDown_down (hdown : s.getB (Reg.NET_PORT_STAT p) 3 = false) : exec (.linkDown p) s = .next s := by
  simp only [exec_linkDown, execLinkDown, hdown, Bool.not_false, if_true]

/-- A port that loses its link leaves service; one in RET stays there. -/
theorem exec_linkDown_up (hup : s.getB (Reg.NET_PORT_STAT p) 3 = true) :
    exec (.linkDown p) s = .next (if s.portState p = 5 then s.linkLost p else s.portLeaves p 1) := by
  simp only [exec_linkDown, execLinkDown, hup, Bool.not_true, Bool.false_eq_true, if_false]
  split <;> rfl

/-! ### 802.1AS (R357, R364) -/

theorem exec_peerDelayExchange_not (h : s.ptpRuns p = false) : exec (.peerDelayExchange p d) s = .next s := by
  simp only [exec_peerDelayExchange, execPeerDelayExchange, h, Bool.not_false, if_true]

theorem exec_pdelayReqInterval_not (h : s.ptpRuns p = false) : exec (.pdelayReqInterval p) s = .next s := by
  simp only [exec_pdelayReqInterval, execPdelayReqInterval, h, Bool.not_false, if_true]

section Exchange
variable (hr : s.ptpRuns p = true) (hu : u = s.setR (Reg.NET_PORT_PDELAY p) d)
  (hv : v = (u.setNetPort p ({ u.netPort p with
    pdelayOut := false, pdelayLost := 0, joins := (u.netPort p).joins + 1 } : NetPort)).setCapable p true)
  (hw : w = (if v.portState p = 2 then v.setF (Reg.NET_PORT_STAT p) 2 0 3 else v))
include hr hu hv hw

/-- An exchange before the last of JOIN_N leaves the port where it is. -/
theorem exec_peerDelayExchange_counts (h : w.portState p ≠ 3 ∨ (w.netPort p).joins < max 1 (w.getF Reg.NET_CTL 23 16)) :
    exec (.peerDelayExchange p d) s = .next w := by
  have hnot : ¬ (w.portState p = 3 ∧ max 1 (w.getF Reg.NET_CTL 23 16) ≤ (w.netPort p).joins) := by
    rintro ⟨h3, hj⟩
    rcases h with h | h
    · exact h h3
    · exact Nat.not_lt.2 hj h
  subst hw hv hu
  simp only [exec_peerDelayExchange, execPeerDelayExchange, hr, Bool.not_true, Bool.false_eq_true, if_false, if_neg hnot]

/-- The last of them resets what recovery holds of the port, and puts it in service. -/
theorem exec_peerDelayExchange_joins (h3 : w.portState p = 3) (hj : max 1 (w.getF Reg.NET_CTL 23 16) ≤ (w.netPort p).joins) :
    exec (.peerDelayExchange p d) s = .next (((({ w with net := { w.net with
      rxs := (w.net.rxs.map (fun i => (i.1, ({ i.2 with
        latPass := tabErase i.2.latPass p, latDup := tabErase i.2.latDup p, lastSeq := tabErase i.2.lastSeq p } : RxStream)))).filter
          (fun i => i.2 != {}) } } : State).setF (Reg.NET_PORT_STAT p) 2 0 4).setB Reg.NET_STAT p true).raise (144 + p) 16) := by
  have hyes := And.intro h3 hj
  subst hw hv hu
  simp only [exec_peerDelayExchange, execPeerDelayExchange, hr, Bool.not_true, Bool.false_eq_true, if_false, if_pos hyes]

end Exchange

section Request
variable (hr : s.ptpRuns p = true)
include hr

/-- The request that follows an answered one. -/
theorem exec_pdelayReqInterval_answered (hout : (s.netPort p).pdelayOut = false) (hl : (s.netPort p).pdelayLost = 0)
    (hu : u = s.setNetPort p ({ s.netPort p with
      pdelayOut := true, pdelayLost := 0, pdelaySeq := ((s.netPort p).pdelaySeq + 1) % 65536 } : NetPort)) :
    exec (.pdelayReqInterval p) s =
      .next (u.portSend p (u.ptpFrame p 2 0 (s.netPort p).pdelaySeq 5 (List.replicate 20 0))) := by
  have hfew : ¬ allowedLost < 0 := Nat.not_lt_zero _
  subst hu
  simp only [exec_pdelayReqInterval, execPdelayReqInterval, hr, hout, hl, Bool.not_true, Bool.false_eq_true, if_false, if_neg hfew]

/-- One that follows an unanswered one starts the joins again, and more in a row than allowed end asCapable. -/
theorem exec_pdelayReqInterval_unanswered (hout : (s.netPort p).pdelayOut = true)
    (hu : u = s.setNetPort p ({ s.netPort p with
      pdelayOut := true, pdelayLost := (s.netPort p).pdelayLost + 1, joins := 0,
      pdelaySeq := ((s.netPort p).pdelaySeq + 1) % 65536 } : NetPort))
    (hv : v = u.portSend p (u.ptpFrame p 2 0 (s.netPort p).pdelaySeq 5 (List.replicate 20 0))) :
    exec (.pdelayReqInterval p) s = .next (if allowedLost < (s.netPort p).pdelayLost + 1 then v.setCapable p false else v) := by
  subst hv hu
  simp only [exec_pdelayReqInterval, execPdelayReqInterval, hr, hout, Bool.not_true, Bool.false_eq_true, if_false, if_true]

end Request

/-! ### A sleeping port (R366) -/

section Asleep
variable (hd : s.domState (domTrunk p) = 1)
include hd

theorem exec_wakeFrame_wakes (hen : s.getB Reg.NET_CTL 8 = true) (hf : s.isWake f = true) :
    exec (.wakeFrame p f) s = .next ((s.wake (domTrunk p) 5).raise (144 + p) 64) := by
  simp [exec_wakeFrame, execWakeFrame, hd, hen, hf]

theorem exec_wakeFrame_dropped (h : s.isWake f = false ∨ s.getB Reg.NET_CTL 8 = false) :
    exec (.wakeFrame p f) s = .next (s.incR (Reg.NET_PORT_RX_DROP p)) := by
  rcases h with h | h <;> simp [exec_wakeFrame, execWakeFrame, State.dropRx, hd, h]

end Asleep

theorem exec_wakeFrame_notRet (hd : s.domState (domTrunk p) ≠ 1) : exec (.wakeFrame p f) s = .next s := by
  simp only [exec_wakeFrame, execWakeFrame, if_pos hd]

theorem exec_lineEnergy_wakes (hd : s.domState (domTrunk p) = 2) :
    exec (.lineEnergy p) s = .next ((s.wake (domTrunk p) 4).raise (144 + p) 32) := by
  simp only [exec_lineEnergy, execLineEnergy, if_pos hd]

theorem exec_lineEnergy_notOff (hd : s.domState (domTrunk p) ≠ 2) : exec (.lineEnergy p) s = .next s := by
  simp only [exec_lineEnergy, execLineEnergy, if_neg hd]

end Port

/-- Settles O53: each clause is one case of the link, of a peer-delay exchange or request, or of a sleeping port's wake. -/
theorem trunkService : Obligations.TrunkService :=
  ⟨fun _ _ => exec_linkUp_comes, fun _ _ => exec_linkUp_off, fun _ _ => exec_linkDown_down,
    fun _ _ hup h5 => ⟨exec_linkUp_up hup, by rw [exec_linkDown_up hup, if_neg h5]⟩,
    fun _ _ hup h5 => by rw [exec_linkDown_up hup, if_pos h5],
    fun _ _ _ h => ⟨exec_peerDelayExchange_not h, exec_pdelayReqInterval_not h⟩,
    fun _ _ _ _ _ _ hr hu hv hw => ⟨exec_peerDelayExchange_counts hr hu hv hw, exec_peerDelayExchange_joins hr hu hv hw⟩,
    fun _ _ _ => exec_pdelayReqInterval_answered, fun _ _ _ _ => exec_pdelayReqInterval_unanswered,
    fun _ _ _ => exec_wakeFrame_wakes, fun _ _ _ => exec_wakeFrame_dropped,
    fun _ _ _ hd => ⟨exec_wakeFrame_notRet (by omega), exec_lineEnergy_notOff (by omega)⟩, fun _ _ => exec_lineEnergy_wakes⟩

end Sys2Proof.Machine
end

section
/-!
PROOF. What transmission, gate lists, reception and stream recovery of a trunk port do (R355, R358–R360, R362), case by case, and the
obligation TrunkFramesAndGates.
-/
namespace Sys2Proof.Machine

/-! ### What runs for each command -/

theorem exec_frameTransmit (p : Fin 2) (s : State) : exec (.frameTransmit p) s = execFrameTransmit p s := rfl
theorem exec_gclChange (p : Fin 2) (w : Word) (s : State) : exec (.gclChange p w) s = execGclChange p w s := rfl
theorem exec_gclChangeBoundary (p : Fin 2) (s : State) : exec (.gclChangeBoundary p) s = execGclChangeBoundary p s := rfl
theorem exec_gateIntervalEnd (p : Fin 2) (s : State) : exec (.gateIntervalEnd p) s = execGateIntervalEnd p s := rfl
theorem exec_frameReceive (p : Fin 2) (f : List Byte) (b : Bool) (s : State) : exec (.frameReceive p f b) s = execFrameReceive p f b s := rfl
theorem exec_recoveryReset (i : Fin 64) (s : State) : exec (.recoveryReset i) s = execRecoveryReset i s := rfl
theorem exec_latentErrorTest (s : State) : exec .latentErrorTest s = execLatentErrorTest s := rfl

section Port
variable {p : Fin 2} {s u : State} {w : Word}

/-! ### Transmission (R358) -/

section Transmit
variable {q : Nat} {f : List Byte} {t : DWord}

theorem exec_frameTransmit_leaves (hs : s.inService p = true) (hfree : (s.netPort p).txUntil = none)
    (hq : (List.range 8).reverse.findSome? (fun q => (s.frameReady p q).map (fun f => (q, f))) = some (q, f)) :
    exec (.frameTransmit p) s = .next ((s.setNetPort p ({ s.netPort p with
      queues := tabPut (fun _ => []) (s.netPort p).queues q (tabGet (fun _ => []) (s.netPort p).queues q).tail,
      sent := (s.netPort p).sent ++ [wireFrame f], txUntil := some (s.time + units (wireTime f.length)) } : NetPort)).touch (domTrunk p)) := by
  simp only [exec_frameTransmit, execFrameTransmit, hs, hfree, hq, Bool.not_true, Option.any_none, Bool.or_false, Bool.false_eq_true,
    if_false]

theorem exec_frameTransmit_nothingReady
    (hq : (List.range 8).reverse.findSome? (fun q => (s.frameReady p q).map (fun f => (q, f))) = none) :
    exec (.frameTransmit p) s = .next s := by
  simp only [exec_frameTransmit, execFrameTransmit, hq, ite_self]

theorem exec_frameTransmit_noService (hs : s.inService p = false) : exec (.frameTransmit p) s = .next s := by
  simp only [exec_frameTransmit, execFrameTransmit, hs, Bool.not_false, Bool.true_or, if_true]

/-- A frame under way occupies the line. -/
theorem exec_frameTransmit_occupied (ht : (s.netPort p).txUntil = some t) (hb : before s.time t = true) :
    exec (.frameTransmit p) s = .next s := by
  simp only [exec_frameTransmit, execFrameTransmit, ht, Option.any_some, hb, Bool.or_true, if_true]

end Transmit

/-! ### Gate lists (R358–R360) -/

theorem exec_gclChange_not (h : bitOf w 31 = false) : exec (.gclChange p w) s = .next s := by
  simp only [exec_gclChange, execGclChange, h, Bool.false_eq_true, if_false]

/-- CHANGE asks for a change of the list as the write leaves it. -/
theorem exec_gclChange_asked (h : bitOf w 31 = true) : exec (.gclChange p w) s = .next ((s.store (Reg.NET_PORT_GCL_CTL p) w).requestChange p) := by
  simp only [exec_gclChange, execGclChange, State.writeGclCtl, h, if_true]

theorem State.requestChange_invalid (hv : u.gclValid p = false) :
    u.requestChange p = (u.setB (Reg.NET_PORT_GCL_CTL p) 28 true).raise 147 (2 ^ (2 + p.val)) := by
  simp only [State.requestChange, hv, Bool.not_false, if_true]

theorem State.requestChange_valid (hv : u.gclValid p = true) : u.requestChange p = (u.setNetPort p { u.netPort p with
    changeAt := some (if u.getF (Reg.NET_PORT_OPER_LEN p) 8 0 = 0
      then firstAfter (u.getD (Reg.NET_PORT_ADM_BASE p)) ((u.getR (Reg.NET_PORT_ADM_CYCLE p)).toNat * 64) (u.time + units (2 * unitsPerUs))
      else firstAfter (u.netPort p).cycleBase ((u.getR (Reg.NET_PORT_OPER_CYCLE p)).toNat * 64)
        (firstAfter (u.getD (Reg.NET_PORT_ADM_BASE p)) ((u.getR (Reg.NET_PORT_ADM_CYCLE p)).toNat * 64) (u.time + units (2 * unitsPerUs))))
      }).setB (Reg.NET_PORT_GCL_CTL p) 29 true := by
  simp only [State.requestChange, hv, Bool.not_true, Bool.false_eq_true, if_false]

section Boundary
variable {r v : State} {b : DWord}

theorem exec_gclChangeBoundary_none (hc : (s.netPort p).changeAt = none) : exec (.gclChangeBoundary p) s = .next s := by
  simp only [exec_gclChangeBoundary, execGclChangeBoundary, hc]

variable (hc : (s.netPort p).changeAt = some b)
include hc

theorem exec_gclChangeBoundary_notYet (hb : s.reached b = false) : exec (.gclChangeBoundary p) s = .next s := by
  simp only [exec_gclChangeBoundary, execGclChangeBoundary, hc, hb, Bool.not_false, if_true]

theorem exec_gclChangeBoundary_changes (hb : s.reached b = true)
    (hr : r = { s with regs := tabCopy regReset s.regs (Reg.NET_PORT_ADM p 0) 0x800 (Reg.NET_PORT_OPER p 0) })
    (hu : u = (r.setD (Reg.NET_PORT_OPER_BASE p) b).setR (Reg.NET_PORT_OPER_CYCLE p) (r.getR (Reg.NET_PORT_ADM_CYCLE p)))
    (hv : v = u.setR (Reg.NET_PORT_OPER_LEN p) (u.getR (Reg.NET_PORT_ADM_LEN p))) :
    exec (.gclChangeBoundary p) s = .next (((v.setNetPort p ({ s.netPort p with
      changeAt := none, cycleBase := b, gateEntry := 0, gateEnd := b + units (64 * ((v.operSpans p).headD (0, 0)).2) } : NetPort)).setB
        (Reg.NET_PORT_GCL_CTL p) 29 false).raise 147 (2 ^ p.val)) := by
  subst hv hu hr
  simp only [exec_gclChangeBoundary, execGclChangeBoundary, hc, hb, Bool.not_true, Bool.false_eq_true, if_false]

end Boundary

theorem exec_gateIntervalEnd_notDue (h : s.operSpans p = [] ∨ s.reached (s.netPort p).gateEnd = false) :
    exec (.gateIntervalEnd p) s = .next s := by
  have hh : ((s.operSpans p).isEmpty || !s.reached (s.netPort p).gateEnd) = true := by simpa using h
  simp only [exec_gateIntervalEnd, execGateIntervalEnd, if_pos hh]

section Interval
variable (hl : s.operSpans p ≠ []) (hr : s.reached (s.netPort p).gateEnd = true)
include hl hr

theorem not_gateIntervalEnd_early : ¬ ((s.operSpans p).isEmpty || !s.reached (s.netPort p).gateEnd) = true := by simp [hl, hr]

/-- Within the list the next entry's gates apply. -/
theorem exec_gateIntervalEnd_nextEntry (hn : (s.netPort p).gateEntry + 1 < (s.operSpans p).length) :
    exec (.gateIntervalEnd p) s = .next (s.setNetPort p ({ s.netPort p with
      gateEntry := (s.netPort p).gateEntry + 1,
      gateEnd := (s.netPort p).gateEnd + units (64 * (((s.operSpans p).drop ((s.netPort p).gateEntry + 1)).headD (0, 0)).2) } : NetPort)) := by
  simp only [exec_gateIntervalEnd, execGateIntervalEnd, if_neg (not_gateIntervalEnd_early hl hr), decide_eq_false (Nat.not_le.2 hn),
    Bool.false_eq_true, if_false]

/-- After the last one a new cycle begins. -/
theorem exec_gateIntervalEnd_newCycle (hn : (s.operSpans p).length ≤ (s.netPort p).gateEntry + 1) :
    exec (.gateIntervalEnd p) s = .next (s.setNetPort p ({ s.netPort p with
      gateEntry := 0, cycleBase := (s.netPort p).gateEnd,
      gateEnd := (s.netPort p).gateEnd + units (64 * ((s.operSpans p).headD (0, 0)).2) } : NetPort)) := by
  simp only [exec_gateIntervalEnd, execGateIntervalEnd, if_neg (not_gateIntervalEnd_early hl hr), decide_eq_true hn, if_true,
    List.drop_zero]

end Interval

/-! ### Reception (R355, R356, R362) -/

section Receive
variable {f : List Byte} {good : Bool} {i : Nat}

theorem exec_frameReceive_noLink (hup : s.getB (Reg.NET_PORT_STAT p) 3 = false) : exec (.frameReceive p f good) s = .next s := by
  simp only [exec_frameReceive, execFrameReceive, hup, Bool.not_false, if_true]

variable (hup : s.getB (Reg.NET_PORT_STAT p) 3 = true)
include hup

theorem exec_frameReceive_asleep (hd : s.domState (domTrunk p) = 1) :
    exec (.frameReceive p f good) s = .next (s.incR (Reg.NET_PORT_RX_DROP p)) := by
  simp only [exec_frameReceive, execFrameReceive, State.dropRx, hup, hd, Bool.not_true, Bool.false_eq_true, if_false, if_true]

variable (hd : s.domState (domTrunk p) = 0) (hon : s.domOn (domTrunk p) = true)
include hd hon

/-- A port that is ON and has its link judges the frame. -/
theorem exec_frameReceive_awake (hu : u = s.touch (domTrunk p)) : exec (.frameReceive p f good) s =
    if !good || decide (f.length < 60 ∨ 1518 < f.length) || !u.acceptsFrame f then .next (u.incR (Reg.NET_PORT_RX_DROP p))
    else if frType f == 0x88F7 && frDA f == ptpAddr then .next (u.ptpMessage p (frPayload f))
    else if !u.inService p then .next (u.incR (Reg.NET_PORT_RX_DROP p))
    else .next (if (u.eliminate p f).2 then (u.eliminate p f).1.consume p f else (u.eliminate p f).1) := by
  have h1 : ¬ s.domState (domTrunk p) = 1 := by omega
  subst hu
  simp only [exec_frameReceive, execFrameReceive, hup, hon, Bool.not_true, Bool.false_eq_true, if_false, if_neg h1]
  rfl

theorem exec_frameReceive_badFcs :
    exec (.frameReceive p f false) s = .next ((s.touch (domTrunk p)).incR (Reg.NET_PORT_RX_DROP p)) := by
  rw [exec_frameReceive_awake hup hd hon rfl, if_pos (by simp)]

variable (hu : u = s.touch (domTrunk p))
include hu

theorem exec_frameReceive_notForUs (h : f.length < 60 ∨ 1518 < f.length ∨ u.acceptsFrame f = false) :
    exec (.frameReceive p f true) s = .next (u.incR (Reg.NET_PORT_RX_DROP p)) := by
  rw [exec_frameReceive_awake hup hd hon hu, if_pos (by simpa [or_assoc] using h)]

variable (h60 : 60 ≤ f.length) (h1518 : f.length ≤ 1518) (ha : u.acceptsFrame f = true)
include h60 h1518 ha

omit hup hd hon hu in
/-- A frame of a length and an address that the port accepts is no frame to drop. -/
theorem not_frameReceive_dropped : ¬ (!true || decide (f.length < 60 ∨ 1518 < f.length) || !u.acceptsFrame f) = true := by
  simpa [ha] using ⟨h60, h1518⟩

theorem exec_frameReceive_ptp (hp : (frType f == 0x88F7 && frDA f == ptpAddr) = true) :
    exec (.frameReceive p f true) s = .next (u.ptpMessage p (frPayload f)) := by
  rw [exec_frameReceive_awake hup hd hon hu, if_neg (not_frameReceive_dropped h60 h1518 ha), if_pos hp]

variable (ht : frType f ≠ 0x88F7)
include ht

omit hup hd hon hu h60 h1518 ha in
theorem not_ptp_of_type : ¬ (frType f == 0x88F7 && frDA f == ptpAddr) = true := by simp [ht]

theorem exec_frameReceive_noService (hs : u.inService p = false) :
    exec (.frameReceive p f true) s = .next (u.incR (Reg.NET_PORT_RX_DROP p)) := by
  rw [exec_frameReceive_awake hup hd hon hu, if_neg (not_frameReceive_dropped h60 h1518 ha), if_neg (not_ptp_of_type ht), hs,
    Bool.not_false, if_pos rfl]

variable (hs : u.inService p = true)
include hs

/-- In service every other frame goes through elimination to its consumer. -/
theorem exec_frameReceive_service : exec (.frameReceive p f true) s =
    .next (if (u.eliminate p f).2 then (u.eliminate p f).1.consume p f else (u.eliminate p f).1) := by
  rw [exec_frameReceive_awake hup hd hon hu, if_neg (not_frameReceive_dropped h60 h1518 ha), if_neg (not_ptp_of_type ht), hs,
    Bool.not_true, if_neg Bool.false_ne_true]

theorem exec_frameReceive_noStream (hi : u.rxStream f = none) : exec (.frameReceive p f true) s = .next (u.consume p f) := by
  have he : u.eliminate p f = (u, true) := by simp only [State.eliminate, hi]
  rw [exec_frameReceive_service hup hd hon hu h60 h1518 ha ht hs, he, if_pos rfl]

variable (hi : u.rxStream f = some i)
include hi

theorem exec_frameReceive_tagless (hg : frRtag f = false) :
    exec (.frameReceive p f true) s = .next ((u.incR (Reg.NET_RXS_TAGLESS i)).raise 148 8) := by
  have he : u.eliminate p f = ((u.incR (Reg.NET_RXS_TAGLESS i)).raise 148 8, false) := by
    simp only [State.eliminate, hi, hg, Bool.false_eq_true, if_false]
  rw [exec_frameReceive_service hup hd hon hu h60 h1518 ha ht hs, he, if_neg Bool.false_ne_true]

theorem exec_frameReceive_recovers (hg : frRtag f = true) : exec (.frameReceive p f true) s =
    .next (if (u.recover i p (frSeq f)).2 then (u.recover i p (frSeq f)).1.consume p f else (u.recover i p (frSeq f)).1) := by
  have he : u.eliminate p f = u.recover i p (frSeq f) := by simp only [State.eliminate, hi, hg, if_true]
  rw [exec_frameReceive_service hup hd hon hu h60 h1518 ha ht hs, he]

end Receive
end Port

/-! ### Stream recovery (R362) -/

section Recovery
variable {i : Fin 64} {s u : State}

theorem exec_recoveryReset_starts (hf : (s.rxs i).fresh = false) (ht : (s.resetTime : Int) ≤ tdiff s.time (s.rxs i).lastPass) :
    exec (.recoveryReset i) s =
      .next (((s.setRxs i { s.rxs i with fresh := true, seen := [], high := 0 }).incR (Reg.NET_RXS_RESETS i)).raise 148 4) := by
  have hdue : ¬ ((s.rxs i).fresh = true ∨ tdiff s.time (s.rxs i).lastPass < (s.resetTime : Int)) := by simpa [hf] using ht
  simp only [exec_recoveryReset, execRecoveryReset, if_neg hdue]

theorem exec_recoveryReset_not (h : (s.rxs i).fresh = true ∨ tdiff s.time (s.rxs i).lastPass < (s.resetTime : Int)) :
    exec (.recoveryReset i) s = .next s := by
  simp only [exec_recoveryReset, execRecoveryReset, if_pos h]

theorem exec_latentErrorTest_notYet (h : tdiff s.time s.net.latentAt < ((2000 * unitsPerMs : Nat) : Int)) :
    exec .latentErrorTest s = .next s := by
  simp only [exec_latentErrorTest, execLatentErrorTest, if_pos h]

/-- The end of a period clears the counts, and an imbalance between the ports in service raises EV148. -/
theorem exec_latentErrorTest_ends (h : ((2000 * unitsPerMs : Nat) : Int) ≤ tdiff s.time s.net.latentAt)
    (hu : u = { s with net := { s.net with
      rxs := (s.net.rxs.map (fun p => (p.1, ({ p.2 with latPass := [], latDup := [] } : RxStream)))).filter (fun p => p.2 != {}),
      latentAt := s.time } }) :
    exec .latentErrorTest s =
      .next (if s.inService 0 && s.inService 1 && s.net.rxs.any (fun p => p.2.latent) then u.raise 148 1 else u) := by
  subst hu
  simp only [exec_latentErrorTest, execLatentErrorTest, if_neg (Int.not_lt.2 h)]

end Recovery

/-- Settles O54: each clause is one case of a transmission, of the gate list, of a frame received or of a stream's recovery. -/
theorem trunkFramesAndGates : Obligations.TrunkFramesAndGates :=
  ⟨fun _ _ _ _ => exec_frameTransmit_leaves, fun _ _ => exec_frameTransmit_nothingReady, fun _ _ => exec_frameTransmit_noService,
    fun _ _ _ => exec_gclChange_not, fun _ _ _ => exec_frameTransmit_occupied,
    fun _ _ _ _ h hu hv => by rw [exec_gclChange_asked h, ← hu, State.requestChange_invalid hv],
    fun _ _ _ _ h hu hv => by rw [exec_gclChange_asked h, ← hu, State.requestChange_valid hv],
    fun _ _ => exec_gclChangeBoundary_none, fun _ _ _ => exec_gclChangeBoundary_notYet, fun _ _ _ _ _ _ => exec_gclChangeBoundary_changes,
    fun _ _ hn hr => exec_gateIntervalEnd_nextEntry (List.ne_nil_of_length_pos (by omega)) hr hn,
    fun _ _ hl hn hr => exec_gateIntervalEnd_newCycle hl hr hn, fun _ _ => exec_gateIntervalEnd_notDue,
    fun _ _ _ _ => exec_frameReceive_noLink, fun _ _ _ => exec_frameReceive_badFcs, fun _ _ _ _ => exec_frameReceive_asleep,
    fun _ _ _ _ => exec_frameReceive_notForUs,
    fun _ _ _ _ hup hd hon h60 h1518 hu ha hp => exec_frameReceive_ptp hup hd hon hu h60 h1518 ha hp,
    fun _ _ _ _ hup hd hon h60 h1518 hu ha ht hs => exec_frameReceive_noService hup hd hon hu h60 h1518 ha ht hs,
    fun _ _ _ _ _ hup hd hon h60 h1518 hu ha ht hs hi => ⟨exec_frameReceive_tagless hup hd hon hu h60 h1518 ha ht hs hi,
      exec_frameReceive_recovers hup hd hon hu h60 h1518 ha ht hs hi⟩,
    fun _ _ _ _ hup hd hon h60 h1518 hu ha ht hs hi => exec_frameReceive_noStream hup hd hon hu h60 h1518 ha ht hs hi,
    fun _ _ => exec_recoveryReset_starts, fun _ _ => exec_recoveryReset_not, fun _ => exec_latentErrorTest_notYet,
    fun _ _ h hu => ⟨fun hn => by rw [exec_latentErrorTest_ends h hu, if_neg (by grind)],
      fun h0 h1 hl => by rw [exec_latentErrorTest_ends h hu, if_pos (by simp only [h0, h1, hl, Bool.and_self])]⟩⟩

end Sys2Proof.Machine
end

section
/-!
PROOF. What an auxiliary output and the temperatures do (R399, R458–R464), case by case, and the obligation AuxiliaryOutputs.
-/
namespace Sys2Proof.Machine

/-! ### What runs for each command -/

theorem exec_auxSet (v : ViaN) (s : State) : exec (.auxSet v) s = execAuxSet v s := rfl
theorem exec_auxSoftStartDone (k : Fin 8) (s : State) : exec (.auxSoftStartDone k) s = execAuxSoftStartDone k s := rfl
theorem exec_auxStartTimeout (k : Fin 8) (s : State) : exec (.auxStartTimeout k) s = execAuxStartTimeout k s := rfl
theorem exec_auxFuseTrip (k : Fin 8) (s : State) : exec (.auxFuseTrip k) s = execAuxFuseTrip k s := rfl
theorem exec_auxBudgetCheck (n : Nat) (s : State) : exec (.auxBudgetCheck n) s = execAuxBudgetCheck n s := rfl
theorem exec_auxStaggerOn (s : State) : exec .auxStaggerOn s = execAuxStaggerOn s := rfl
theorem exec_thermalRead (t : List (BitVec 16)) (s : State) : exec (.thermalRead t) s = execThermalRead t s := rfl

/-! ### EN (R399, R458–R460, R464) -/

section Enable
variable {k : Nat} {w : Word} {s u v : State} {c : CmdRef} {x : Command}

theorem exec_auxSet_reg (h : k < 8) : exec (.auxSet (.reg k w)) s = .next (s.writeAuxCtl k w) := by
  simp only [exec_auxSet, execAuxSet, if_pos h]

theorem exec_auxSet_reg_noOutput (h : 8 ≤ k) : exec (.auxSet (.reg k w)) s = .next s := by
  simp only [exec_auxSet, execAuxSet, if_neg (Nat.not_lt.2 h)]

section Command
variable (hx : s.turn c 7 2 = some x)
include hx

theorem exec_auxSet_badParam (h : 7 < beAt x.payload 0 1 ∨ 1 < beAt x.payload 1 1 ∨ 2 < beAt x.payload 2 1) :
    exec (.auxSet (.cmd c)) s = .next (s.replyTo x csBADPARAM true []) := by
  simp only [exec_auxSet, execAuxSet, hx, if_pos h]

/-- The command writes the output's register, and is BUSY where the critical state refuses it. -/
theorem exec_auxSet_cmd (hk : beAt x.payload 0 1 ≤ 7) (he : beAt x.payload 1 1 ≤ 1) (hs : beAt x.payload 2 1 ≤ 2) :
    exec (.auxSet (.cmd c)) s = .next ((s.writeAuxCtl (beAt x.payload 0 1)
      (setFld (setFld (s.getR (Reg.ANA_AUX_CTL (beAt x.payload 0 1))) 5 4 (beAt x.payload 2 1)) 0 0 (beAt x.payload 1 1))).replyTo x
        (if beAt x.payload 1 1 = 1 ∧ s.thermCrit = true then csBUSY else csOK) true []) := by
  have hok : ¬ (7 < beAt x.payload 0 1 ∨ 1 < beAt x.payload 1 1 ∨ 2 < beAt x.payload 2 1) := by omega
  simp only [exec_auxSet, execAuxSet, hx, if_neg hok, Bool.and_eq_true, beq_iff_eq]

end Command

section On
variable (h0 : bitOf w 0 = true) (hu : u = s.store (Reg.ANA_AUX_CTL k) w)
include h0 hu

theorem State.writeAuxCtl_refused (ht : u.thermCrit = true) : s.writeAuxCtl k w = u.setB (Reg.ANA_AUX_CTL k) 0 false := by
  subst hu
  simp only [State.writeAuxCtl, h0, ht, Bool.not_true, Bool.false_eq_true, if_false, if_true]

variable (ht : u.thermCrit = false)
  (hv : v = (((u.setB (Reg.ANA_AUX_STAT k) 2 false).setB (Reg.ANA_AUX_STAT k) 3 false).setB (Reg.ANA_AUX_STAT k) 4 false).setB
    (Reg.ANA_AUX_STAT k) 6 false)
include ht hv

/-- EN 1 clears the fault flags and starts an output that is off, at once or when a warning ends. -/
theorem State.writeAuxCtl_on : s.writeAuxCtl k w =
    if v.auxLive k then v
    else if v.warned then (if v.getB (Reg.ANA_AUX_STAT k) 1 then v else v.setB (Reg.ANA_AUX_STAT k) 5 true)
    else v.auxStart k := by
  subst hv hu
  simp only [State.writeAuxCtl, h0, ht, Bool.not_true, Bool.false_eq_true, if_false, List.foldl_cons, List.foldl_nil]
  rfl

end On

theorem State.writeAuxCtl_off (h0 : bitOf w 0 = false)
    (hu : u = ((s.store (Reg.ANA_AUX_CTL k) w).auxOff k).setB (Reg.ANA_AUX_STAT k) 1 false) :
    s.writeAuxCtl k w = { u with ana := { u.ana with stagger := u.ana.stagger.erase k } } := by
  subst hu
  simp only [State.writeAuxCtl, h0, Bool.not_false, if_true]
  rfl

end Enable

/-! ### Trips (R460–R462) -/

/-- A trip switches the output off, clears EN, and shows its flag and its cause. -/
theorem State.auxTrip_eq (s : State) (k flag bit : Nat) : s.auxTrip k flag bit =
    (((s.auxOff k).setB (Reg.ANA_AUX_CTL k) 0 false).setB (Reg.ANA_AUX_STAT k) flag true).raise (248 + k) bit := rfl

section Output
variable {k : Fin 8} {s : State}

theorem exec_auxSoftStartDone_on (h : (s.auxOut k).starting = true) :
    exec (.auxSoftStartDone k) s = .next ((s.setAux k {}).setB (Reg.ANA_AUX_STAT k) 0 true) := by
  simp only [exec_auxSoftStartDone, execAuxSoftStartDone, h, if_true, auxON]

theorem exec_auxSoftStartDone_not (h : (s.auxOut k).starting = false) : exec (.auxSoftStartDone k) s = .next s := by
  simp only [exec_auxSoftStartDone, execAuxSoftStartDone, h, Bool.false_eq_true, if_false]

/-- The soft-start has taken 5 ms. -/
theorem exec_auxStartTimeout_trips (h : (s.auxOut k).starting = true)
    (ht : atOrAfter s.time ((s.auxOut k).since + units (5 * unitsPerMs)) = true) :
    exec (.auxStartTimeout k) s = .next (s.auxTrip k 6 2) := by
  simp only [exec_auxStartTimeout, execAuxStartTimeout, if_pos (And.intro h ht), auxSTART]

theorem exec_auxStartTimeout_early (ht : atOrAfter s.time ((s.auxOut k).since + units (5 * unitsPerMs)) = false) :
    exec (.auxStartTimeout k) s = .next s := by
  simp only [exec_auxStartTimeout, execAuxStartTimeout, ht, Bool.false_eq_true, and_false, if_false]

theorem exec_auxStartTimeout_not (h : (s.auxOut k).starting = false) : exec (.auxStartTimeout k) s = .next s := by
  simp only [exec_auxStartTimeout, execAuxStartTimeout, h, Bool.false_eq_true, false_and, if_false]

/-- An overload trips an output in regulation, and one that a warning has shed in the same instant. -/
theorem exec_auxFuseTrip_trips
    (h : s.getB (Reg.ANA_AUX_STAT k) 0 = true ∨ (s.getB (Reg.ANA_AUX_STAT k) 1 = true ∧ (s.auxOut k).since = s.time)) :
    exec (.auxFuseTrip k) s = .next (s.auxTrip k 2 1) := by
  have hh : (s.getB (Reg.ANA_AUX_STAT k) auxON || (s.getB (Reg.ANA_AUX_STAT k) auxSHED && (s.auxOut k).since == s.time)) = true := by
    simpa [auxON, auxSHED] using h
  simp only [exec_auxFuseTrip, execAuxFuseTrip, if_pos hh, auxFUSE]

theorem exec_auxFuseTrip_not (h0 : s.getB (Reg.ANA_AUX_STAT k) 0 = false)
    (h : s.getB (Reg.ANA_AUX_STAT k) 1 = false ∨ (s.auxOut k).since ≠ s.time) : exec (.auxFuseTrip k) s = .next s := by
  have hh : ¬ (s.getB (Reg.ANA_AUX_STAT k) auxON || (s.getB (Reg.ANA_AUX_STAT k) auxSHED && (s.auxOut k).since == s.time)) = true := by
    rcases h with h | h <;> simp [auxON, auxSHED, h0, h]
  simp only [exec_auxFuseTrip, execAuxFuseTrip, if_neg hh]

end Output

section Budget
variable {n k : Nat} {s : State}

theorem exec_auxBudgetCheck_within (h : n ≤ 600) : exec (.auxBudgetCheck n) s = .next s := by
  simp only [exec_auxBudgetCheck, execAuxBudgetCheck, if_neg (Nat.not_lt.2 h)]

/-- Above the budget the first output in the order of shedding is tripped. -/
theorem exec_auxBudgetCheck_trips (h : 600 < n) (hk : s.shedFirst ((List.range 8).filter (fun k => s.auxLive k)) = some k) :
    exec (.auxBudgetCheck n) s = .next (s.auxTrip k 4 4) := by
  simp only [exec_auxBudgetCheck, execAuxBudgetCheck, if_pos h, hk, auxBUDGET]

theorem exec_auxBudgetCheck_nothingOn (hk : s.shedFirst ((List.range 8).filter (fun k => s.auxLive k)) = none) :
    exec (.auxBudgetCheck n) s = .next s := by
  simp only [exec_auxBudgetCheck, execAuxBudgetCheck, hk, ite_self]

end Budget

/-! ### The return after a warning (R459) -/

section Stagger
variable {k : Nat} {l : List Nat} {s u : State}

theorem exec_auxStaggerOn_notDue (h : s.ana.stagger = [] ∨ s.warned = true ∨ atOrAfter s.time s.ana.staggerAt = false) :
    exec .auxStaggerOn s = .next s := by
  rw [exec_auxStaggerOn, execAuxStaggerOn]
  split
  · rfl
  · rename_i k l hl
    have hh : (s.warned || !atOrAfter s.time s.ana.staggerAt) = true := by simpa [hl] using h
    rw [if_pos hh]

variable (hl : s.ana.stagger = k :: l) (hw : s.warned = false) (ht : atOrAfter s.time s.ana.staggerAt = true)
  (hu : u = { s with ana := { s.ana with stagger := l, staggerAt := s.time + units (200 * unitsPerUs) } })
include hl hw ht hu

/-- The next output's turn, 200 us after the one before. -/
theorem exec_auxStaggerOn_turn : exec .auxStaggerOn s =
    if !u.auxEn k || u.thermCrit || u.auxLive k then .next u
    else .next (if s.getB (Reg.ANA_AUX_STAT k) 1 then (u.auxStart k).raise (248 + k) 32 else u.auxStart k) := by
  subst hu
  simp only [exec_auxStaggerOn, execAuxStaggerOn, hl, hw, ht, Bool.not_true, Bool.or_self, Bool.false_eq_true, if_false]
  rfl

theorem exec_auxStaggerOn_skips (h : u.auxEn k = false ∨ u.thermCrit = true ∨ u.auxLive k = true) : exec .auxStaggerOn s = .next u := by
  rw [exec_auxStaggerOn_turn hl hw ht hu, if_pos (by simpa [or_assoc] using h)]

variable (he : u.auxEn k = true) (hc : u.thermCrit = false) (hn : u.auxLive k = false)
include he hc hn

theorem exec_auxStaggerOn_starts : exec .auxStaggerOn s =
    .next (if s.getB (Reg.ANA_AUX_STAT k) 1 then (u.auxStart k).raise (248 + k) 32 else u.auxStart k) := by
  rw [exec_auxStaggerOn_turn hl hw ht hu, if_neg (by simp [he, hc, hn])]

end Stagger

/-! ### Temperatures (R463, R464) -/

section Thermal
variable {t : List (BitVec 16)} {s u : State}

/-- The critical state is shown as the sensors give it, and its beginning trips every output. -/
theorem exec_thermalRead_shows (hu : u = s.senseAll 0 (t.take 8)) : exec (.thermalRead t) s =
    .next (if !u.ana.hot.isEmpty && !s.thermCrit then
      (List.range 8).foldl (fun s k => if s.auxEn k || s.auxLive k then s.auxTrip k 3 8 else s) (u.setB Reg.ANA_IN_STAT 19 (!u.ana.hot.isEmpty))
    else u.setB Reg.ANA_IN_STAT 19 (!u.ana.hot.isEmpty)) := by
  subst hu
  rw [exec_thermalRead, execThermalRead, apply_ite Host.Outcome.next]
  rfl

end Thermal

/-- Settles O48: each clause is one case of EN, of a soft-start, of a trip, of a return after a warning, or of the sensors. -/
theorem auxiliaryOutputs : Obligations.AuxiliaryOutputs := by
  refine ⟨fun _ _ _ => ⟨exec_auxSet_reg, exec_auxSet_reg_noOutput⟩, fun _ _ _ => exec_auxSet_badParam, fun _ _ _ => exec_auxSet_cmd,
    fun _ _ _ _ => State.writeAuxCtl_refused, fun _ _ _ _ _ h0 hu ht hv => ⟨fun hl => ?_, fun hl hw => ?_, fun hl hw => ?_⟩,
    fun _ _ _ _ => State.writeAuxCtl_off, fun _ _ => rfl, fun _ _ => exec_auxSoftStartDone_on,
    fun _ _ h ht => by rw [exec_auxStartTimeout_trips h ht, State.auxTrip_eq], fun _ _ => exec_auxStartTimeout_early,
    fun _ _ h => ⟨exec_auxSoftStartDone_not h, exec_auxStartTimeout_not h⟩, fun _ _ => exec_auxFuseTrip_not,
    fun _ _ h => by rw [exec_auxFuseTrip_trips h, State.auxTrip_eq], fun _ _ => exec_auxBudgetCheck_within,
    fun _ _ _ h hk => by rw [exec_auxBudgetCheck_trips h hk, State.auxTrip_eq], fun _ _ => exec_auxBudgetCheck_nothingOn,
    fun _ _ _ _ => exec_auxStaggerOn_skips, fun _ => exec_auxStaggerOn_notDue,
    fun _ _ _ _ hl hw ht hu he hc hn => ⟨fun hb => by rw [exec_auxStaggerOn_starts hl hw ht hu he hc hn, if_pos hb],
      fun hb => by rw [exec_auxStaggerOn_starts hl hw ht hu he hc hn, if_neg (by simp [hb])]⟩,
    fun _ _ _ hu => ⟨fun hh => ?_, fun hh hc => ?_, fun hh hc => ?_⟩⟩
  · rw [State.writeAuxCtl_on h0 hu ht hv, if_pos hl]
  · rw [State.writeAuxCtl_on h0 hu ht hv, hl, hw, if_neg Bool.false_ne_true, if_neg Bool.false_ne_true]
  · rw [State.writeAuxCtl_on h0 hu ht hv, hl, hw, if_neg Bool.false_ne_true, if_pos rfl]
  · simp [exec_thermalRead_shows hu, hh]
  · simp [exec_thermalRead_shows hu, List.isEmpty_eq_false_iff.2 hh, hc]
  · simp [exec_thermalRead_shows hu, List.isEmpty_eq_false_iff.2 hh, hc]

end Sys2Proof.Machine
end

section
/-!
PROOF. What a supply warning, the ports and a sample of the line power intake do (R448–R457), case by case, and the obligation
IntakeAndWarnings.
-/
namespace Sys2Proof.Machine

/-! ### What runs for each command -/

theorem exec_supplyWarning (s : State) : exec .supplyWarning s = execSupplyWarning s := rfl
theorem exec_clearLevelRise (s : State) : exec .clearLevelRise s = execClearLevelRise s := rfl
theorem exec_clearLevelFall (s : State) : exec .clearLevelFall s = .next (s.setB Reg.ANA_IN_STAT 17 false) := rfl
theorem exec_warningClear (s : State) : exec .warningClear s = execWarningClear s := rfl
theorem exec_portPowerLoss (p : Fin 2) (s : State) : exec (.portPowerLoss p) s = execPortPowerLoss p s := rfl
theorem exec_portPowerReturn (p : Fin 2) (s : State) : exec (.portPowerReturn p) s = execPortPowerReturn p s := rfl
theorem exec_portOvervoltage (p : Fin 2) (s : State) : exec (.portOvervoltage p) s = execPortOvervoltage p s := rfl
theorem exec_overvoltageReconnect (p : Fin 2) (s : State) : exec (.overvoltageReconnect p) s = execOvervoltageReconnect p s := rfl
theorem exec_intakeCurrentLimit (p : Fin 2) (s : State) : exec (.intakeCurrentLimit p) s = execIntakeCurrentLimit p s := rfl
theorem exec_powerMeasure (m : PowerSample) (s : State) : exec (.powerMeasure m) s = execPowerMeasure m s := rfl

/-! ### Warnings (R453, R454, R459) -/

section Warning
variable {s u v w z : State} {l : List Nat}

theorem exec_supplyWarning_again (h : s.warned = true) : exec .supplyWarning s = .next (s.setB Reg.ANA_IN_STAT 17 false) := by
  simp only [exec_supplyWarning, execSupplyWarning, h, if_true]

/-- A warning raises EV200, counts, and sheds each output by its policy; the outputs still to return keep their claim. -/
theorem exec_supplyWarning_begins (h : s.warned = false) (hu : u = (s.setB Reg.ANA_IN_STAT 16 true).setB Reg.ANA_IN_STAT 17 false)
    (hv : v = (u.addF Reg.ANA_WARN_CNT 15 0 1).setF Reg.ANA_DIP_MIN 15 0 (u.getF Reg.ANA_IN_STAT 15 0))
    (hw : w = (({ v with boot := { v.boot with warns := min 255 (v.boot.warns + 1) } } : State).raise 200 1).nvWarn)
    (hz : z = w.ana.stagger.foldl (fun s k => if s.getB (Reg.ANA_AUX_STAT k) 1 then s else s.setB (Reg.ANA_AUX_STAT k) 5 true) w) :
    exec .supplyWarning s = .next ((List.range 8).foldl (fun s k => s.auxShed k) { z with ana := { z.ana with stagger := [] } }) := by
  subst hz hw hv hu
  simp only [exec_supplyWarning, execSupplyWarning, h, Bool.false_eq_true, if_false]
  rfl

theorem exec_clearLevelRise_counts (h : s.warned = true) (hc : s.getB Reg.ANA_IN_STAT 17 = false) :
    exec .clearLevelRise s = .next { s.setB Reg.ANA_IN_STAT 17 true with ana := { s.ana with clearAt := s.time } } := by
  simp only [exec_clearLevelRise, execClearLevelRise, h, hc, Bool.not_false, Bool.and_self, if_true]

theorem exec_clearLevelRise_not (h : s.warned = false ∨ s.getB Reg.ANA_IN_STAT 17 = true) : exec .clearLevelRise s = .next s := by
  rcases h with h | h <;> simp [exec_clearLevelRise, execClearLevelRise, h]

theorem exec_warningClear_notYet (h : s.warned = false ∨ s.getB Reg.ANA_IN_STAT 17 = false ∨
    (s.timeRuns = true ∧ atOrAfter s.time (s.ana.clearAt + units (500 * unitsPerUs)) = false)) : exec .warningClear s = .next s := by
  have hh : (!s.warned || !s.getB Reg.ANA_IN_STAT 17 ||
      (s.timeRuns && !atOrAfter s.time (s.ana.clearAt + units (500 * unitsPerUs)))) = true := by simpa [or_assoc] using h
  simp only [exec_warningClear, execWarningClear, if_pos hh]

/-- Where the input has held for 500 us the warning ends, and the outputs that return take their turns. -/
theorem exec_warningClear_ends (h : s.warned = true) (hc : s.getB Reg.ANA_IN_STAT 17 = true)
    (ht : s.timeRuns = false ∨ atOrAfter s.time (s.ana.clearAt + units (500 * unitsPerUs)) = true)
    (hu : u = ((((s.setB Reg.ANA_IN_STAT 16 false).setB Reg.ANA_IN_STAT 17 false).raise 201 1).nvClear.waitingWriteBack none).releaseData)
    (hl : l = (List.range 8).filter (fun k => u.auxEn k && !u.auxLive k && (u.getB (Reg.ANA_AUX_STAT k) 5 || (u.auxOut k).returns)))
    (hv : v = (List.range 8).foldl (fun s k => if l.contains k then s else s.setB (Reg.ANA_AUX_STAT k) 1 false) u) :
    exec .warningClear s = .next { v with ana := { v.ana with stagger := l, staggerAt := v.time } } := by
  have hh : ¬ (!s.warned || !s.getB Reg.ANA_IN_STAT 17 ||
      (s.timeRuns && !atOrAfter s.time (s.ana.clearAt + units (500 * unitsPerUs)))) = true := by
    rcases ht with ht | ht <;> simp [h, hc, ht]
  subst hv hl hu
  simp only [exec_warningClear, execWarningClear, if_neg hh]
  rfl

end Warning

/-! ### The ports (R448–R451) -/

section Port
variable {p : Fin 2} {s : State}

theorem exec_portPowerLoss_loses (h : s.getF (Reg.ANA_PORT_STAT p) 6 4 ≠ 0) : exec (.portPowerLoss p) s =
    .next (((s.setR (Reg.ANA_PORT_STAT p) 0).setR (Reg.ANA_PORT_VIN p) 0).raise 202 (2 ^ (2 * p.val + 1))) := by
  simp only [exec_portPowerLoss, execPortPowerLoss, if_neg h]

theorem exec_portPowerLoss_off (h : s.getF (Reg.ANA_PORT_STAT p) 6 4 = 0) : exec (.portPowerLoss p) s = .next s := by
  simp only [exec_portPowerLoss, execPortPowerLoss, if_pos h]

theorem exec_portPowerReturn_returns (h : s.getF (Reg.ANA_PORT_STAT p) 6 4 < 3) : exec (.portPowerReturn p) s =
    .next (((s.setF (Reg.ANA_PORT_STAT p) 6 4 3).setF (Reg.ANA_PORT_STAT p) 3 0 9).raise 202 (2 ^ (2 * p.val))) := by
  simp only [exec_portPowerReturn, execPortPowerReturn, if_neg (Nat.not_le.2 h)]

theorem exec_portPowerReturn_powered (h : 3 ≤ s.getF (Reg.ANA_PORT_STAT p) 6 4) : exec (.portPowerReturn p) s = .next s := by
  simp only [exec_portPowerReturn, execPortPowerReturn, if_pos h]

theorem exec_portOvervoltage_disconnects (h : s.getF (Reg.ANA_PORT_STAT p) 6 4 = 3) : exec (.portOvervoltage p) s =
    .next (((s.setF (Reg.ANA_PORT_STAT p) 6 4 4).setB (Reg.ANA_PORT_STAT p) 8 false).raise 203 (2 ^ (2 + p.val))) := by
  simp only [exec_portOvervoltage, execPortOvervoltage, if_pos h]

theorem exec_portOvervoltage_not (h : s.getF (Reg.ANA_PORT_STAT p) 6 4 ≠ 3) : exec (.portOvervoltage p) s = .next s := by
  simp only [exec_portOvervoltage, execPortOvervoltage, if_neg h]

theorem exec_intakeCurrentLimit_limits (h : s.getF (Reg.ANA_PORT_STAT p) 6 4 = 3) :
    exec (.intakeCurrentLimit p) s = .next ((s.setB (Reg.ANA_PORT_STAT p) 8 true).raise 203 (2 ^ p.val)) := by
  simp only [exec_intakeCurrentLimit, execIntakeCurrentLimit, if_pos h]

theorem exec_intakeCurrentLimit_not (h : s.getF (Reg.ANA_PORT_STAT p) 6 4 ≠ 3) : exec (.intakeCurrentLimit p) s = .next s := by
  simp only [exec_intakeCurrentLimit, execIntakeCurrentLimit, if_neg h]

theorem exec_overvoltageReconnect_reconnects (h : s.getF (Reg.ANA_PORT_STAT p) 6 4 = 4) :
    exec (.overvoltageReconnect p) s = .next (s.setF (Reg.ANA_PORT_STAT p) 6 4 3) := by
  simp only [exec_overvoltageReconnect, execOvervoltageReconnect, if_pos h]

theorem exec_overvoltageReconnect_not (h : s.getF (Reg.ANA_PORT_STAT p) 6 4 ≠ 4) : exec (.overvoltageReconnect p) s = .next s := by
  simp only [exec_overvoltageReconnect, execOvervoltageReconnect, if_neg h]

end Port

/-! ### A sample (R452, R457) -/

section Sample
variable {m : PowerSample} {s u v w : State}
  (hu : u = (((s.portMeasure 0 m.vin.1 m.iin.1 m.pin.1).portMeasure 1 m.vin.2 m.iin.2 m.pin.2).putEach Reg.ANA_RAIL 15 0 0 (m.rail.take 4)).putEach
    Reg.ANA_AUX_STAT 31 16 0 (m.aux.take 8))
  (hv : v = u.setF Reg.ANA_IN_STAT 15 0 (max m.vin.1.toNat m.vin.2.toNat))
  (hw : w = (if v.warned = true ∧ max m.vin.1.toNat m.vin.2.toNat < v.getF Reg.ANA_DIP_MIN 15 0
    then v.setF Reg.ANA_DIP_MIN 15 0 (max m.vin.1.toNat m.vin.2.toNat) else v))
include hu hv hw

theorem exec_powerMeasure_low (h : m.pin.1.toNat + m.pin.2.toNat ≤ w.getF Reg.ANA_PIN_WARN 15 0) :
    exec (.powerMeasure m) s = .next (w.setB Reg.ANA_IN_STAT 18 false) := by
  have hlow := decide_eq_false (Nat.not_lt.2 h)
  subst hw hv hu
  simp only [exec_powerMeasure, execPowerMeasure, hlow, Bool.false_eq_true, if_false]

/-- The peak warning. -/
theorem exec_powerMeasure_high (h : w.getF Reg.ANA_PIN_WARN 15 0 < m.pin.1.toNat + m.pin.2.toNat) :
    exec (.powerMeasure m) s = .next ((w.setB Reg.ANA_IN_STAT 18 true).raise 206 1) := by
  have hhigh := decide_eq_true h
  subst hw hv hu
  simp only [exec_powerMeasure, execPowerMeasure, hhigh, if_true]

end Sample

/-- Settles O47: each clause is one case of a warning, of a port, or of a sample. -/
theorem intakeAndWarnings : Obligations.IntakeAndWarnings :=
  ⟨fun _ => exec_supplyWarning_again, fun _ _ _ _ _ => exec_supplyWarning_begins, fun _ => exec_clearLevelRise_counts,
    fun _ => exec_clearLevelRise_not, fun _ => exec_warningClear_notYet, exec_clearLevelFall, fun _ _ _ _ => exec_warningClear_ends,
    fun _ _ => exec_portPowerLoss_loses, fun _ _ => exec_portPowerLoss_off,
    fun _ _ => ⟨exec_portPowerReturn_returns, exec_portPowerReturn_powered⟩,
    fun _ _ h => ⟨exec_portOvervoltage_not h, exec_intakeCurrentLimit_not h⟩, fun _ _ => exec_overvoltageReconnect_not,
    fun _ _ h => ⟨exec_portOvervoltage_disconnects h, exec_intakeCurrentLimit_limits h⟩, fun _ _ => exec_overvoltageReconnect_reconnects,
    fun _ _ _ _ _ hu hv hw => ⟨exec_powerMeasure_low hu hv hw, exec_powerMeasure_high hu hv hw⟩⟩

end Sys2Proof.Machine
end

section
/-!
PROOF. What requests, wakes and idle times do to a power domain (R430–R433, R435, R436, R440, R445), case by case, and the obligation
PowerRequests.
-/
namespace Sys2Proof.Machine

/-! ### What runs for each command -/

theorem exec_idleTimeout (d : Fin 135) (s : State) : exec (.idleTimeout d) s = execIdleTimeout d s := rfl
theorem exec_wakeRequest (d : Fin 135) (src : Fin 16) (s : State) : exec (.wakeRequest d src) s = execWakeRequest d src s := rfl

section Domain
variable {d st : Nat} {s u : State}

/-! ### Wakes (R433, R435) -/

/-- A wake of an ON domain counts as use of it. -/
theorem State.wake_on {src : Nat} {copy : Bool} (h : s.domState d = 0) : s.wake d src copy = s.touch d := by
  simp only [State.wake, State.wakeAt, h]

/-- One of a domain in RET or OFF starts its wake. -/
theorem State.wake_asleep {src : Nat} {copy : Bool} (h : s.domState d = 1 ∨ s.domState d = 2) :
    s.wake d src copy = s.startWake d src s.time false copy := by
  rcases h with h | h <;> simp only [State.wake, State.wakeAt, h]

/-- One during an entry is latched. -/
theorem State.wake_entering {src : Nat} {copy : Bool} (h : s.domState d = 3 ∨ s.domState d = 4) (hl : (s.domX d).latched = none)
    (hk : s.kept d = none) : s.wake d src copy =
      (s.setDomX d { s.domX d with latched := some (src, s.time), copyWake := copy }).setB (Reg.PWR_DOM_STAT d) 17 true := by
  rcases h with h | h <;>
    simp only [State.wake, State.wakeAt, h, hl, hk, Option.isSome_none, Bool.false_eq_true, reduceCtorEq, or_self, if_false]

/-- One during a wake or the cold path has nothing to do. -/
theorem State.wake_waking {src : Nat} {copy : Bool} (h : 5 ≤ s.domState d) : s.wake d src copy = s := by
  unfold State.wake State.wakeAt
  split
  case h_6 => rfl
  all_goals omega

/-! ### Requests by register (R432, R433, R440) -/

theorem State.powerReq_reg {w : Word} (hd : d < 135) (hst : fld w 1 0 = st) :
    s.powerReq (.reg d w) st = (s.domReq d st).1.setF (Reg.PWR_DOM_STAT d) 22 20 (s.domReq d st).2 := by
  simp only [State.powerReq, State.writeDomReq, hd, hst, and_self, if_true]

/-! ### Requests in a transition (R436) -/

section Transition

/-- A request for ON in a wake or on the cold path is kept. -/
theorem State.domReq_on_waking (h : 5 ≤ s.domState d) : s.domReq d 0 = (s.keepReq d (some 0), 1) := by
  have h3 : 3 ≤ s.domState d := by omega
  have h5 : ¬ s.domState d < 5 := by omega
  simp [State.domReq, h3, h5, pwrQUEUED]

/-- One in an entry latches its wake. -/
theorem State.domReq_on_entering (h : s.domState d = 3 ∨ s.domState d = 4) : s.domReq d 0 = (s.wake d 3, 1) := by
  have h3 : 3 ≤ s.domState d := by omega
  have h5 : s.domState d < 5 := by omega
  simp [State.domReq, h3, h5, pwrQUEUED]

variable (h : 3 ≤ s.domState d) (hst : st = 1 ∨ st = 2)
include h hst

/-- A latched wake supersedes a request for RET or OFF. -/
theorem State.domReq_down_latched (hl : (s.domX d).latched.isSome = true) : s.domReq d st = (s.supersede d, 1) := by
  rcases hst with rfl | rfl <;> simp [State.domReq, h, hl, pwrQUEUED]

theorem State.domReq_down_kept (hl : (s.domX d).latched.isSome = false) : s.domReq d st = (s.keepReq d (some st), 1) := by
  rcases hst with rfl | rfl <;> simp [State.domReq, h, hl, pwrQUEUED]

end Transition

/-! ### Requests of a settled domain (R430, R432, R436, R440) -/

section Settled

/-- A request for RET or OFF supersedes a kept one. -/
theorem State.domReq_down_supersedes (h : s.domState d < 3) (hk : (s.kept d).isSome = true) (hst : st = 1 ∨ st = 2)
    (hu : u = (s.supersede d).keepReq d none) : s.domReq d st = u.reqDown d st := by
  subst hu
  rcases hst with rfl | rfl <;> simp only [State.domReq, if_neg (Nat.not_le.2 h), hk, if_true]

variable (h : s.domState d < 3) (hk : s.kept d = none)
include h hk

theorem State.domReq_down (hst : st = 1 ∨ st = 2) : s.domReq d st = s.reqDown d st := by
  rcases hst with rfl | rfl <;>
    simp only [State.domReq, if_neg (Nat.not_le.2 h), hk, Option.isSome_none, Bool.false_eq_true, if_false]

theorem State.domReq_on : s.domReq d 0 = (s.wake d 3, 0) := by
  simp only [State.domReq, if_neg (Nat.not_le.2 h), hk, Option.isSome_none, Bool.false_eq_true, if_false, pwrOK]

theorem State.domReq_reset (hd : d ≠ domNv) : s.domReq d 3 = (s.startReset d, 0) := by
  simp only [State.domReq, if_neg (Nat.not_le.2 h), hk, Option.isSome_none, Bool.false_eq_true, hd, false_and, if_false, pwrOK]

end Settled

/-! ### RET and OFF (R430, R432, R446) -/

section Down

/-- A hold refuses either; beside the trunk ports that is all. -/
theorem State.reqDown_held (hh : s.held d = true) (hd : d < 122) : s.reqDown d st = (s.raise 211 1, 2) := by
  have hport : ¬ ((d = 122 ∨ d = 123) ∧ s.inService (123 - d) = false) := by omega
  simp only [State.reqDown, hh, if_true, State.refuseHeld, if_neg hport, pwrHELD]

variable (hh : s.held d = false)
include hh

theorem State.reqDown_ret_ret (h : s.domState d = 1) : s.reqDown d 1 = (s, 0) := by
  simp [State.reqDown, hh, h, pwrOK]

theorem State.reqDown_ret_off (h : s.domState d = 1) (hm : s.demoted d = false) : s.reqDown d 2 = (s.enter d 4, 0) := by
  simp [State.reqDown, hh, h, hm, pwrOK]

/-- From OFF a domain reaches RET by way of ON. -/
theorem State.reqDown_off_ret (h : s.domState d = 2) (hu : u = s.wake d 3) :
    s.reqDown d 1 = (u.setDomX d { u.domX d with thenRet := true }, 0) := by
  subst hu
  simp [State.reqDown, hh, h, pwrOK]

theorem State.reqDown_inUse (h : s.domState d = 0) (hp : s.pllInUse d = true) : s.reqDown d st = (s.raise 211 2, pwrINUSE) := by
  simp only [State.reqDown, hh, h, hp, and_self, if_true, Bool.false_eq_true, if_false]

variable (h : s.domState d = 0) (hp : s.pllInUse d = false)
include h hp

theorem State.reqDown_on_ret (hc : s.domInCycle d = false) : s.reqDown d 1 = (s.enter d 3, 0) := by
  simp [State.reqDown, hh, h, hp, hc, pwrOK]

/-- An engine keeps the request until its cycle ends. -/
theorem State.reqDown_on_ret_inCycle (hc : s.domInCycle d = true) : s.reqDown d 1 = (s.keepReq d (some 1), 0) := by
  simp [State.reqDown, hh, h, hp, hc, pwrOK]

theorem State.reqDown_on_off (hc : s.domInCycle d = false) (hm : s.demoted d = false) : s.reqDown d 2 = (s.enter d 4, 0) := by
  simp [State.reqDown, hh, h, hp, hc, hm, pwrOK]

/-- Beside a staged plane OFF is carried out as RET. -/
theorem State.reqDown_on_demoted (hm : s.demoted d = true) (hd : (s.raise 211 4).domState d = 0)
    (hc : (s.raise 211 4).domInCycle d = false) : s.reqDown d 2 = ((s.raise 211 4).enter d 3, pwrDEMOTED) := by
  simp [State.reqDown, hh, h, hp, hm, hd, hc]

end Down
end Domain

/-! ### The idle time (R431) -/

section Idle
variable {d : Fin 135} {s : State}

theorem exec_idleTimeout_enters (h : s.domState d = 0) (h0 : s.idleTime d ≠ 0)
    (ht : (s.idleTime d : Int) ≤ tdiff s.time (s.domX d).active) (hh : s.held d = false) (hc : s.domInCycle d = false)
    (hp : s.pllInUse d = false) : exec (.idleTimeout d) s =
      .next (s.enter d (if s.getF (Reg.PWR_DOM_CTL d) 25 24 = 2 ∧ s.demoted d = false then 4 else 3)) := by
  have hy : s.domState d = 0 ∧ s.idleTime d ≠ 0 ∧ (s.idleTime d : Int) ≤ tdiff s.time (s.domX d).active ∧ s.held d = false ∧
      s.domInCycle d = false ∧ s.pllInUse d = false := ⟨h, h0, ht, hh, hc, hp⟩
  simp only [exec_idleTimeout, execIdleTimeout, if_pos hy, Bool.and_eq_true, beq_iff_eq, Bool.not_eq_true']

theorem exec_idleTimeout_not (h : s.domState d ≠ 0 ∨ s.idleTime d = 0 ∨ tdiff s.time (s.domX d).active < (s.idleTime d : Int) ∨
    s.held d = true ∨ s.domInCycle d = true ∨ s.pllInUse d = true) : exec (.idleTimeout d) s = .next s := by
  have hn : ¬ (s.domState d = 0 ∧ s.idleTime d ≠ 0 ∧ (s.idleTime d : Int) ≤ tdiff s.time (s.domX d).active ∧ s.held d = false ∧
      s.domInCycle d = false ∧ s.pllInUse d = false) := by
    rintro ⟨h1, h2, h3, h4, h5, h6⟩
    simp [h1, h2, Int.not_lt.2 h3, h4, h5, h6] at h
  simp only [exec_idleTimeout, execIdleTimeout, if_neg hn]

end Idle

/-! ### Wake requests (R433, R441) -/

section WakeRequest
variable {d : Fin 135} {src : Fin 16} {s : State}

theorem exec_wakeRequest_noSource (h : src.val = 0 ∨ 11 < src.val) : exec (.wakeRequest d src) s = .next s := by
  have hn : ¬ (1 ≤ src.val ∧ src.val ≤ 11) := by omega
  simp only [exec_wakeRequest, execWakeRequest, if_neg hn]

theorem exec_wakeRequest_source (h1 : 1 ≤ src.val) (h11 : src.val ≤ 11) : exec (.wakeRequest d src) s =
    .next (s.wake d src (src.val == 8 && decide (48 ≤ d.val ∧ d.val < 116) && (s.logicalOf (d.val - 48)).isNone)) := by
  simp only [exec_wakeRequest, execWakeRequest, if_pos (And.intro h1 h11)]

theorem exec_wakeRequest_waking (h : 5 ≤ s.domState d) : exec (.wakeRequest d src) s = .next s := by
  by_cases hs : 1 ≤ src.val ∧ src.val ≤ 11
  · rw [exec_wakeRequest_source hs.1 hs.2, State.wake_waking h]
  · exact exec_wakeRequest_noSource (by omega)

/-- Only an engine can be woken to be copied to. -/
theorem exec_wakeRequest_copy_noEngine (h : d.val < 48 ∨ 116 ≤ d.val) : exec (.wakeRequest d 8) s = .next (s.wake d 8) := by
  have hn : ¬ (48 ≤ d.val ∧ d.val < 116) := by omega
  rw [exec_wakeRequest_source (by decide) (by decide), decide_eq_false hn, Bool.and_false, Bool.false_and]
  rfl

/-- An engine that holds no logical engine is woken to be copied to, without reload and check. -/
theorem exec_wakeRequest_copy {n : Nat} (hd : d.val = 48 + n) (hn : n < 68) (hl : s.logicalOf n = none) :
    exec (.wakeRequest d 8) s = .next (s.wake d 8 true) := by
  have hin : 48 ≤ d.val ∧ d.val < 116 := by omega
  have hsub : d.val - 48 = n := by omega
  rw [exec_wakeRequest_source (by decide) (by decide), decide_eq_true hin, hsub, hl]
  rfl

/-- A wake of another source checks as any. -/
theorem exec_wakeRequest_other (h1 : 1 ≤ src.val) (h11 : src.val ≤ 11) (h8 : src.val ≠ 8) :
    exec (.wakeRequest d src) s = .next (s.wake d src false) := by
  rw [exec_wakeRequest_source h1 h11, beq_eq_false_iff_ne.2 h8, Bool.false_and, Bool.false_and]

end WakeRequest

/-- Settles O45: each clause is one case of a request in a transition, of one of a settled domain, of the idle time, or of a wake. -/
theorem powerRequests : Obligations.PowerRequests := by
  refine ⟨fun d w s hd => ⟨fun h => ?_, fun h => ?_, fun h => ?_, fun h => ?_⟩, fun c s t x r hx h2 hd hr => ?_, fun c s x hx h0 hd => ?_,
    fun _ _ => State.domReq_on_waking, fun _ _ => State.domReq_on_entering,
    fun _ _ _ h hst => ⟨State.domReq_down_latched h hst, State.domReq_down_kept h hst⟩,
    fun _ _ _ _ => State.domReq_down_supersedes,
    fun d s h hk hh => ⟨fun h1 => ?_, fun h1 hm => ?_, fun h2 => ⟨_, rfl, ?_⟩⟩,
    fun d s h hk => ?_, fun d s h hk => ?_, fun d s h hk hh hd => ⟨?_, ?_⟩, fun d s h hk hh hp => ⟨?_, ?_⟩, fun d s h hk hh hp hc => ?_,
    fun d s h hk hh hp hc => ?_, fun d s h hk hh hp hc => ⟨fun hm => ?_, fun hm hd' hc' => ?_⟩,
    fun _ _ h hk hd => State.domReq_reset (by omega) hk hd, fun _ _ => exec_idleTimeout_enters, fun _ _ => exec_idleTimeout_not,
    fun _ _ _ => exec_wakeRequest_noSource, fun _ _ _ => exec_wakeRequest_waking, fun _ _ => exec_wakeRequest_copy_noEngine,
    fun _ _ _ => exec_wakeRequest_copy,
    fun _ _ _ h1 h11 h8 h => by rw [exec_wakeRequest_other h1 h11 h8, State.wake_on h],
    fun _ _ _ h1 h11 h8 h => by rw [exec_wakeRequest_other h1 h11 h8, State.wake_asleep h],
    fun _ _ _ h1 h11 h8 h hl hk => by rw [exec_wakeRequest_other h1 h11 h8, State.wake_entering h hl hk]⟩
  · rw [exec_domReqOn, State.powerReq_reg hd h]
  · rw [exec_domReqRet, State.powerReq_reg hd h]
  · rw [exec_domReqOff, State.powerReq_reg hd h]
  · rw [exec_domainReset, State.powerReq_reg hd h]
  · rw [exec_domReqOff, State.powerReq_answered hx h2 (by decide) hd hr]
  · rw [exec_domReqOn, State.powerReq_badDomain hx h0 (by decide) hd]
    rfl
  · rw [State.domReq_down (by omega) hk (.inl rfl), State.reqDown_ret_ret hh h1]
  · rw [State.domReq_down (by omega) hk (.inr rfl), State.reqDown_ret_off hh h1 hm]
  · rw [State.domReq_down (by omega) hk (.inl rfl), State.reqDown_off_ret hh h2 rfl]
  · rw [State.domReq_on (by omega) hk, State.wake_on h]
  · rw [State.domReq_on (by omega) hk, State.wake_asleep (.inl h)]
  · rw [State.domReq_down (by omega) hk (.inl rfl), State.reqDown_held hh hd]
  · rw [State.domReq_down (by omega) hk (.inr rfl), State.reqDown_held hh hd]
  · rw [State.domReq_down (by omega) hk (.inl rfl), State.reqDown_inUse hh h hp]
  · rw [State.domReq_down (by omega) hk (.inr rfl), State.reqDown_inUse hh h hp]
  · rw [State.domReq_down (by omega) hk (.inl rfl), State.reqDown_on_ret hh h hp hc]
  · rw [State.domReq_down (by omega) hk (.inl rfl), State.reqDown_on_ret_inCycle hh h hp hc]
  · rw [State.domReq_down (by omega) hk (.inr rfl), State.reqDown_on_off hh h hp hc hm]
  · rw [State.domReq_down (by omega) hk (.inr rfl), State.reqDown_on_demoted hh h hp hm hd' hc']

end Sys2Proof.Machine
end

section
/-!
PROOF. What the end of an entry, of a wake and of the cold path does to a domain (R430, R435, R437, R438, R443), case by case, and the
obligation PowerTransitionsEnd.
-/
namespace Sys2Proof.Machine

/-! ### What runs for each command -/

theorem exec_entryDone (d : Fin 135) (s : State) : exec (.entryDone d) s = execEntryDone d s := rfl
theorem exec_wakeDone (d : Fin 135) (r : Retention) (s : State) : exec (.wakeDone d r) s = execWakeDone d r s := rfl
theorem exec_coldRestoreDone (d : Fin 135) (s : State) : exec (.coldRestoreDone d) s = execColdRestoreDone d s := rfl

section Domain
variable {d : Fin 135} {s u : State} {r : Retention}

/-! ### The end of an entry (R430, R435) -/

theorem exec_entryDone_not (h3 : s.domState d ≠ 3) (h4 : s.domState d ≠ 4) : exec (.entryDone d) s = .next s := by
  simp only [exec_entryDone, execEntryDone, if_pos (And.intro h3 h4)]

/-- What a sector's entry to RET keeps. -/
theorem State.keepDomain_sector (hd : d.val < 48) : s.keepDomain d = { s.domX d with
    entries := (s.domX d).entries + 1,
    canaries := (List.range (domBanks d)).map (fun k => canary d k ((s.domX d).entries + 1)),
    checks := (List.range (domBanks d)).map (fun k => canary d k ((s.domX d).entries + 1)),
    save := s.saveArea d, saveCrc := crc32 (s.saveArea d),
    bankCrc := (List.range (domBanks d)).map (fun k => crc32 (s.bankBytes d k)),
    blockCrc := crc32 (s.blockBytes d) } := by
  simp only [State.keepDomain, if_pos hd]

section Sector
variable (hd : d.val < 48)
include hd

/-- A sector reaches RET with what it keeps, and a kept request is acted on. -/
theorem exec_entryDone_ret (h : s.domState d = 3) (hl : (s.domX d).latched = none)
    (hu : u = (s.setDomX d (s.keepDomain d)).setF (Reg.PWR_DOM_STAT d) 2 0 1) :
    exec (.entryDone d) s = .next ((u.endMaskedLocks d).actKept d) := by
  have h1 : ¬ (48 ≤ d.val ∧ d.val < 116) := by omega
  have h34 : ¬ ((3 : Nat) = 4) := by decide
  subst hu
  simp only [exec_entryDone, execEntryDone, h, hl, h1, h34, ne_eq, not_true_eq_false, and_false, false_and, if_false, if_true, Nat.reduceSub]

/-- One reaches OFF with nothing kept, and a latched wake is carried out at once. -/
theorem exec_entryDone_off_latched {src : Nat} {t : DWord} (h : s.domState d = 4) (hl : (s.domX d).latched = some (src, t))
    (hu : u = (s.setDomX d { s.domX d with canaries := [], checks := [], save := [], saveCrc := 0, bankCrc := [], blockCrc := 0 }).setF
      (Reg.PWR_DOM_STAT d) 2 0 2) :
    exec (.entryDone d) s = .next ((((u.endMaskedLocks d).setB (Reg.PWR_DOM_STAT d) 17 false).startWake d src t true
      (s.domX d).copyWake).raise 212 1) := by
  have h1 : ¬ (48 ≤ d.val ∧ d.val < 116) := by omega
  have h2 : ¬ (124 ≤ d.val ∧ d.val < 132) := by omega
  have h3 : ¬ (d.val = 132) := by omega
  subst hu
  simp only [exec_entryDone, execEntryDone, h, hl, h1, h2, h3, ne_eq, not_true_eq_false, and_false, and_true, if_false,
    Nat.reduceEqDiff, Nat.reduceSub]

end Sector

/-! ### The end of a wake (R437, R438, R443) -/

theorem exec_wakeDone_not (h : s.domState d ≠ 5) : exec (.wakeDone d r) s = .next s := by
  simp only [exec_wakeDone, execWakeDone, if_pos h]

/-- A wake for a copy ends ON without a check. -/
theorem exec_wakeDone_copy (h : s.domState d = 5) (hc : (s.domX d).copyWake = true) :
    exec (.wakeDone d r) s = .next ((s.domUp d).afterTrans d) := by
  simp only [exec_wakeDone, execWakeDone, if_neg (not_not.2 h), hc, if_true]

/-- Beside a trunk port and an ADPLL, a wake ends with the domain ON. -/
theorem State.wakeEnds_sector (hd : d.val < 48) : s.wakeEnds d = (s.domUp d).afterTrans d := by
  have h1 : ¬ (d.val = 122 ∨ d.val = 123) := by omega
  have h2 : ¬ (116 ≤ d.val ∧ d.val < 122 ∧ (s.domUp d).getB (Reg.CLK_ADPLL_CTL (d - 114)) 0 = true) := by omega
  simp only [State.wakeEnds, if_neg h1, if_neg h2]

section Checked
variable (h : s.domState d = 5) (hc : (s.domX d).copyWake = false)
include h hc

/-- Any other ends by what the checks find: first a bank that was marked bad before. -/
theorem exec_wakeDone_ok (hb : (s.domX d).badBank = none) : exec (.wakeDone d .ok) s = .next (s.wakeEnds d) := by
  simp only [exec_wakeDone, execWakeDone, if_neg (not_not.2 h), hc, Bool.false_eq_true, if_false, hb]

theorem exec_wakeDone_ok_badBank {k : Nat} (hb : (s.domX d).badBank = some k) :
    exec (.wakeDone d .ok) s = .next (s.retentionLost d k) := by
  simp only [exec_wakeDone, execWakeDone, if_neg (not_not.2 h), hc, Bool.false_eq_true, if_false, hb]

theorem exec_wakeDone_bank {k : Fin 33} (hk : k.val < domBanks d) : exec (.wakeDone d (.bank k)) s = .next (s.retentionLost d k) := by
  simp only [exec_wakeDone, execWakeDone, if_neg (not_not.2 h), hc, Bool.false_eq_true, if_false, if_pos hk]

theorem exec_wakeDone_bank_absent {k : Fin 33} (hk : domBanks d ≤ k.val) : exec (.wakeDone d (.bank k)) s = .next s := by
  simp only [exec_wakeDone, execWakeDone, if_neg (not_not.2 h), hc, Bool.false_eq_true, if_false, if_neg (Nat.not_lt.2 hk)]

/-- Only a sector keeps its block's registers. -/
theorem exec_wakeDone_inBlock (hd : d.val < 48) : exec (.wakeDone d .inBlock) s = .next (s.retentionLost d 254) := by
  simp only [exec_wakeDone, execWakeDone, if_neg (not_not.2 h), hc, Bool.false_eq_true, if_false, if_pos hd]

theorem exec_wakeDone_inBlock_absent (hd : 48 ≤ d.val) : exec (.wakeDone d .inBlock) s = .next s := by
  simp only [exec_wakeDone, execWakeDone, if_neg (not_not.2 h), hc, Bool.false_eq_true, if_false, if_neg (Nat.not_lt.2 hd)]

theorem exec_wakeDone_saveArea : exec (.wakeDone d .saveArea) s = .next (s.retentionLost d 255) := by
  simp only [exec_wakeDone, execWakeDone, if_neg (not_not.2 h), hc, Bool.false_eq_true, if_false]

theorem exec_wakeDone_keepStore_mended : exec (.wakeDone d (.keepStore true)) s = .next ((s.raise 213 1).wakeEnds d) := by
  simp only [exec_wakeDone, execWakeDone, if_neg (not_not.2 h), hc, Bool.false_eq_true, if_false]

theorem exec_wakeDone_keepStore_lost : exec (.wakeDone d (.keepStore false)) s = .next ((s.raise 213 2).retentionLost d 255) := by
  simp only [exec_wakeDone, execWakeDone, if_neg (not_not.2 h), hc, Bool.false_eq_true, if_false]

end Checked

/-! ### The end of the cold path (R438) -/

theorem exec_coldRestoreDone_not (h : s.domState d ≠ 6) : exec (.coldRestoreDone d) s = .next s := by
  simp only [exec_coldRestoreDone, execColdRestoreDone, if_pos h]

theorem exec_coldRestoreDone_sector (h : s.domState d = 6) (hd : d.val < 48) :
    exec (.coldRestoreDone d) s = .next ((((s.coldSector d).raise 209 1).domUp d).afterTrans d) := by
  have hn : ¬ (48 ≤ d.val ∧ d.val < 116) := by omega
  simp only [exec_coldRestoreDone, execColdRestoreDone, if_neg (not_not.2 h), State.coldContent, domKind, if_pos hd, if_neg hn]

end Domain

/-- Settles O46: each clause is one case of an entry's end, of what a wake's checks find, or of the cold path's end. -/
theorem powerTransitionsEnd : Obligations.PowerTransitionsEnd := by
  refine ⟨fun _ _ => exec_entryDone_not, fun d s u h hd hl hu => exec_entryDone_ret hd h hl (by rw [hu, State.keepDomain_sector hd]),
    fun _ _ _ _ _ h hd hl hu => exec_entryDone_off_latched hd h hl hu, fun _ _ _ => exec_wakeDone_not,
    fun d s h hc hd => ⟨fun hb => ?_, fun _ => exec_wakeDone_ok_badBank h hc, exec_wakeDone_inBlock h hc hd, exec_wakeDone_saveArea h hc,
      exec_wakeDone_keepStore_mended h hc, exec_wakeDone_keepStore_lost h hc⟩, fun _ _ _ h hc => exec_wakeDone_bank h hc,
    fun _ _ _ h hc => exec_wakeDone_bank_absent h hc, fun _ _ => exec_wakeDone_inBlock_absent, fun _ _ _ => exec_wakeDone_copy,
    fun _ _ => exec_coldRestoreDone_not, fun _ _ => exec_coldRestoreDone_sector⟩
  rw [exec_wakeDone_ok h hc hb, State.wakeEnds_sector hd]

end Sys2Proof.Machine
end

section
/-!
PROOF. What a decision, a beat and the waits of an arbiter do (R411, R413–R416, R419, R421, R423, R424), case by case, and the
obligation Arbiters.
-/
namespace Sys2Proof.Machine

/-! ### What runs for each command -/

theorem exec_grantDecision (r : Fin 5) (s : State) : exec (.grantDecision r) s = execGrantDecision r s := rfl
theorem exec_beatComplete (r : Fin 5) (ecc : List Ecc) (s : State) : exec (.beatComplete r ecc) s = execBeatComplete r ecc s := rfl
theorem exec_backoffExpiry (r : Fin 5) (q : Fin 83) (s : State) : exec (.backoffExpiry r q) s = execBackoffExpiry r q s := rfl
theorem exec_lockGapExpiry (r : Fin 5) (s : State) : exec (.lockGapExpiry r) s = execLockGapExpiry r s := rfl
theorem exec_longWait (r : Fin 5) (s : State) : exec (.longWait r) s = execLongWait r s := rfl
theorem exec_arbModeWrite (r : Fin 5) (w : Word) (s : State) : exec (.arbModeWrite r w) s = execArbModeWrite r w s := rfl

section Arbiter
variable {r : Fin 5} {s : State}

/-! ### Decisions (R411, R414, R419, R473) -/

/-- A request for a resource whose arbiter is under test aborts the slice. -/
theorem exec_grantDecision_underTest (ht : s.underTest 5 r = true) (hr : (s.arbiter r).reqs ≠ []) :
    exec (.grantDecision r) s = .next (s.abortIdle 5 r) := by
  simp only [exec_grantDecision, execGrantDecision, ht, List.isEmpty_eq_false_iff.2 hr, Bool.not_false, Bool.and_self, if_true]

theorem exec_grantDecision_cannotGrant (ht : s.underTest 5 r = false ∨ (s.arbiter r).reqs = []) (hg : s.canGrant r = false) :
    exec (.grantDecision r) s = .next s := by
  have hn : (s.underTest 5 r && !(s.arbiter r).reqs.isEmpty) = false := by
    rcases ht with ht | ht <;> simp [ht]
  simp only [exec_grantDecision, execGrantDecision, hn, hg, Bool.not_false, Bool.false_eq_true, if_false, if_true]

/-- A lock in force gives the beat to its owner. -/
theorem exec_grantDecision_locked {l : ArbLock} {x : ArbReq} {t : State} (ht : s.underTest 5 r = false) (hg : s.canGrant r = true)
    (hl : (s.arbiter r).locks.find? (fun l => l.inForce) = some l) (hx : s.headOf r l.q = some x) (he : x.sector = l.sector)
    (hst : t = (s.setArb r { s.arbiter r with count := (s.arbiter r).count + 1 }).grant r x) :
    exec (.grantDecision r) s = .next (t.setArb r { t.arbiter r with cycle := max (t.arbiter r).cycle (s.arbNow r + 1) }) := by
  subst hst
  simp only [exec_grantDecision, execGrantDecision, ht, hg, hl, hx, if_pos he, Bool.false_and, Bool.not_true, Bool.false_eq_true, if_false]

/-- An arbiter that is not as at reset is read back. -/
theorem State.arbiter_setArb_same {r : Nat} {a : Arbiter} (h : a ≠ {}) : (s.setArb r a).arbiter r = a :=
  tabGet_tabPut_same_of_ne _ _ _ _ h

theorem State.arbiter_setR {r a : Nat} {w : Word} : (s.setR a w).arbiter r = s.arbiter r := rfl
theorem State.arbiter_incR {r a : Nat} : (s.incR a).arbiter r = s.arbiter r := rfl

/-- The granted beat is the one in progress, and asks no longer. -/
theorem State.grant_arbiter {r : Nat} {x : ArbReq} (hr : r ≠ 0) :
    ((s.grant r x).arbiter r).busy = some x ∧ ((s.grant r x).arbiter r).reqs = (s.arbiter r).reqs.erase x := by
  have h0 : ¬ (r = 0 ∧ x.op = 1) := fun h => hr h.1
  simp only [State.grant, if_neg h0]
  rw [State.arbiter_setR, State.arbiter_incR, State.arbiter_setArb_same]
  · exact ⟨rfl, rfl⟩
  · exact fun h => Option.some_ne_none x (congrArg Arbiter.busy h)

/-! ### Beats (R411) -/

section Beat
variable {ecc : List Ecc}

theorem exec_beatComplete_idle (h : (s.arbiter r).busy = none) : exec (.beatComplete r ecc) s = .next s := by
  simp only [exec_beatComplete, execBeatComplete, h]

variable {q : ArbReq} (h : (s.arbiter r).busy = some q)
include h

theorem exec_beatComplete_read (hop : q.op = 3) :
    exec (.beatComplete r ecc) s = .next (s.readBeat 3 q (s.prmRead q.block.1 (q.block.2 - q.block.1))) := by
  simp only [exec_beatComplete, execBeatComplete, h, hop]

/-- The last block of a parameter write ends the request. -/
theorem exec_beatComplete_write_last (hop : q.op = 4) (hb : q.beats ≤ 1) : exec (.beatComplete r ecc) s =
    .next ((s.prmWrite q.block.1 (sliceB q.data (q.block.1 - q.addr) (q.block.2 - q.block.1))).endRequest 3 q 0 0x8000 []) := by
  simp only [exec_beatComplete, execBeatComplete, h, hop, if_pos hb]

end Beat

/-- The last block that a read needs ends it; any other goes on. -/
theorem State.readBeat_last {n : Nat} {q : ArbReq} {d : List Byte} (hb : q.beats ≤ 1) :
    s.readBeat n q d = s.endRequest n q 0 0x8000 (q.got ++ d) := if_pos hb
theorem State.readBeat_more {n : Nat} {q : ArbReq} {d : List Byte} (hb : 2 ≤ q.beats) :
    s.readBeat n q d = s.nextBeat n q (q.got ++ d) := if_neg (by omega)

/-! ### Lock gaps, modes and long waits (R421, R423, R424) -/

theorem exec_lockGapExpiry_ends {l : ArbLock} (hl : (s.arbiter r).locks.find? (fun l => l.inForce) = some l) (hm : (s.arbiter r).mode = 0)
    (hb : (s.arbiter r).busy = none) (hr : (s.arbiter r).reqs.any (fun x => x.q == l.q && x.sector == l.sector) = false)
    (ht : l.last + s.lockGap r ≤ s.arbNow r) : exec (.lockGapExpiry r) s =
      .next ((s.setArb r { s.arbiter r with locks := (s.arbiter r).locks.erase l }).raise 233 (2 ^ r.val)) := by
  simp only [exec_lockGapExpiry, execLockGapExpiry, hl, hm, hb, hr, ht, Option.isNone_none, and_self, if_true]

theorem exec_arbModeWrite_refused {w : Word} (h : fld w 31 30 ≠ s.getF (Reg.ARB_R_CTL r) 31 30) : exec (.arbModeWrite r w) s =
    .next ((s.setB Reg.ARB_ERR 23 true).store (Reg.ARB_R_CTL r) (setFld w 31 30 (s.getF (Reg.ARB_R_CTL r) 31 30))) := by
  simp only [exec_arbModeWrite, execArbModeWrite, State.writeArbCtl, if_neg h]

theorem exec_arbModeWrite_same {w : Word} (h : fld w 31 30 = s.getF (Reg.ARB_R_CTL r) 31 30) : exec (.arbModeWrite r w) s =
    .next (s.store (Reg.ARB_R_CTL r) (setFld w 31 30 (fld w 31 30))) := by
  simp only [exec_arbModeWrite, execArbModeWrite, State.writeArbCtl, h, if_true]

/-- The requests that have waited too long are marked, each once. -/
theorem exec_longWait_warns (h0 : s.getF (Reg.ARB_R_WAIT_WARN r) 23 0 ≠ 0)
    (hx : ∃ x ∈ (s.arbiter r).reqs, x.warned = false ∧ s.getF (Reg.ARB_R_WAIT_WARN r) 23 0 < s.arbNow r - x.first) :
    exec (.longWait r) s = .next ((s.setArb r { s.arbiter r with reqs := (s.arbiter r).reqs.map (fun x =>
      if x.warned = false ∧ s.getF (Reg.ARB_R_WAIT_WARN r) 23 0 < s.arbNow r - x.first then { x with warned := true } else x) }).raise
        235 (2 ^ r.val)) := by
  have hany : (s.arbiter r).reqs.any (fun x => !x.warned && decide (s.getF (Reg.ARB_R_WAIT_WARN r) 23 0 < s.arbNow r - x.first)) = true := by
    simpa [List.any_eq_true] using hx
  simp only [exec_longWait, execLongWait, bne_iff_ne.2 h0, Bool.true_and, if_pos hany, Bool.and_eq_true, Bool.not_eq_true', decide_eq_true_eq]

end Arbiter

/-- Settles O19: each clause is one case of a decision, of a beat's end, or of what an arbiter watches. -/
theorem arbiters : Obligations.Arbiters :=
  ⟨⟨fun _ _ _ _ ht hg hl hx he => exec_grantDecision_locked ht hg hl hx he rfl, fun _ _ => exec_grantDecision_cannotGrant,
      fun _ _ => exec_grantDecision_underTest, fun _ _ _ => State.grant_arbiter⟩,
    ⟨fun _ _ _ => exec_beatComplete_idle,
      fun _ _ _ _ h hop hb => by rw [exec_beatComplete_read h hop, State.readBeat_last hb],
      fun _ _ _ _ h hop hb => by rw [exec_beatComplete_read h hop, State.readBeat_more hb],
      fun _ _ _ _ h hop hb => ⟨_, rfl, exec_beatComplete_write_last h hop hb⟩⟩,
    ⟨fun _ _ _ => rfl, fun _ _ _ => exec_lockGapExpiry_ends, fun _ _ _ => exec_arbModeWrite_refused, fun _ _ => exec_longWait_warns,
      fun _ _ _ => exec_arbModeWrite_same⟩⟩

end Sys2Proof.Machine
end

section
/-!
PROOF. Drizzle's slices and passes, the reinstatement of blocks and the JTAG port (R468, R475–R477, R482, R486), case by case, and the
obligation SelfTestAndJtag.
-/
namespace Sys2Proof.Machine

/-! ### What runs for each command -/

theorem exec_drizzleSliceStart (t : Fin 7) (s : State) : exec (.drizzleSliceStart t) s = execDrizzleSliceStart t s := rfl
theorem exec_sliceEnd (t : Fin 7) (b : Bool) (a : Word) (bit : Fin 128) (s : State) :
    exec (.sliceEnd t b a bit) s = execSliceEnd t b a bit s := rfl
theorem exec_passPeriodExpiry (t : Fin 7) (s : State) : exec (.passPeriodExpiry t) s = execPassPeriodExpiry t s := rfl
theorem exec_tstReinstate (w : Word) (s : State) : exec (.tstReinstate w) s = .next (s.writeReinstate w) := rfl
theorem exec_jtagInstruction (i : Byte) (s : State) : exec (.jtagInstruction i) s = execJtagInstruction i s := rfl

section Drizzle
variable {t : Fin 7} {s u : State}

/-! ### The start of a slice (R468) -/

theorem exec_drizzleSliceStart_not (h : s.drizzleOn t = false ∨ s.sliceLive t = true) : exec (.drizzleSliceStart t) s = .next s := by
  have hc : (!s.drizzleOn t || s.sliceLive t) = true := by rcases h with h | h <;> simp [h]
  simp only [exec_drizzleSliceStart, execDrizzleSliceStart, if_pos hc]

section Starts
variable (hon : s.drizzleOn t = true) (hl : s.sliceLive t = false) (hu : u = s.setDtype t { s.dtype t with slice := none })
include hon hl hu

/-- A late pass with no unit that can be tested ends. -/
theorem exec_drizzleSliceStart_noUnit (hf : (u.unitsLeft t).find? (fun n => u.canTest t n) = none) :
    exec (.drizzleSliceStart t) s = .next (if (u.dtype t).late && !(u.unitsLeft t).isEmpty then u.passEnd t else u) := by
  subst hu
  simp only [exec_drizzleSliceStart, execDrizzleSliceStart, hon, hl, hf, Bool.not_true, Bool.or_self, Bool.false_eq_true, if_false]
  exact (apply_ite Host.Outcome.next _ _ _).symm

/-- The lowest unit that can be tested comes first. -/
theorem exec_drizzleSliceStart_unit {n : Nat} (hf : (u.unitsLeft t).find? (fun n => u.canTest t n) = some n) :
    exec (.drizzleSliceStart t) s = .next (u.sliceOn t n) := by
  subst hu
  simp only [exec_drizzleSliceStart, execDrizzleSliceStart, hon, hl, hf, Bool.not_true, Bool.or_self, Bool.false_eq_true, if_false]

end Starts

/-! ### The end of a slice (R476, R477) -/

section Ends
variable {b : Bool} {a : Word} {bit : Fin 128} {sl : Slice}

/-- The guard of an outcome that is taken. -/
theorem sliceEnd_taken (hr : sl.restoreAt = none) (hrun : sl.running = true) (he : t.val = 0 → s.engState sl.unit = 9) :
    (sl.restoreAt.isSome || !sl.running || (t.val == 0 && s.engState sl.unit != 9)) = false := by
  by_cases h0 : t.val = 0
  · simp [hr, hrun, he h0]
  · simp [hr, hrun, h0]

theorem exec_sliceEnd_none (h : (s.dtype t).slice = none) : exec (.sliceEnd t b a bit) s = .next s := by
  simp only [exec_sliceEnd, execSliceEnd, h]

variable (h : (s.dtype t).slice = some sl)
include h

/-- The outcome of a slice that was aborted, does not run yet, or has lost its engine is not taken. -/
theorem exec_sliceEnd_ignored (hn : sl.restoreAt ≠ none ∨ sl.running = false ∨ (t.val = 0 ∧ s.engState sl.unit ≠ 9)) :
    exec (.sliceEnd t b a bit) s = .next s := by
  have hc : (sl.restoreAt.isSome || !sl.running || (t.val == 0 && s.engState sl.unit != 9)) = true := by
    rcases hn with hn | hn | ⟨h0, h9⟩
    · simp [Option.isSome_iff_ne_none.2 hn]
    · simp [hn]
    · simp [h0, h9]
  simp only [exec_sliceEnd, execSliceEnd, h, if_pos hc]

variable (hr : sl.restoreAt = none) (hrun : sl.running = true)
include hr hrun

/-- After the last slice of the unit its service returns. -/
theorem exec_sliceEnd_last (he : t.val = 0 → s.engState sl.unit = 9) (hk : typeSlices t ≤ sl.k + 1) :
    exec (.sliceEnd t true a bit) s = .next (s.sliceReturn t sl) := by
  simp only [exec_sliceEnd, execSliceEnd, h, sliceEnd_taken hr hrun he, if_pos hk, Bool.false_eq_true, if_false, if_true]

theorem exec_sliceEnd_next (h0 : t.val ≠ 0) (hk : sl.k + 1 < typeSlices t) :
    exec (.sliceEnd t true a bit) s = .next (s.setDtype t { s.dtype t with
      slice := none, progress := tabPut (fun _ => 0) (s.dtype t).progress sl.unit (sl.k + 1) }) := by
  simp only [exec_sliceEnd, execSliceEnd, h, sliceEnd_taken hr hrun (fun h => absurd h h0), if_neg (Nat.not_le.2 hk), if_neg h0,
    Bool.false_eq_true, if_false, if_true]

/-- An engine goes through its slices in one go. -/
theorem exec_sliceEnd_next_engine (h0 : t.val = 0) (he : s.engState sl.unit = 9) (hk : sl.k + 1 < typeSlices t) :
    exec (.sliceEnd t true a bit) s = .next (s.setDtype 0 { s.dtype 0 with
      slice := some { sl with k := sl.k + 1, again := false },
      progress := tabPut (fun _ => 0) (s.dtype 0).progress sl.unit (sl.k + 1) }) := by
  simp only [exec_sliceEnd, execSliceEnd, h, sliceEnd_taken hr hrun (fun _ => he), if_neg (Nat.not_le.2 hk), if_pos h0,
    Bool.false_eq_true, if_false, if_true]
  rw [h0]

/-- A failing slice is recorded and counted, and runs again unless the unit has a lasting fault. -/
theorem exec_sliceEnd_fails {v : State} (he : t.val = 0 → s.engState sl.unit = 9)
    (hu : u = ((((s.setR (Reg.TST_TYPE_FAIL_UNIT t) (BitVec.ofNat 32 (2 ^ 31 + bit.val * 65536 + sl.unit))).setF
      (Reg.TST_TYPE_FAIL_ADDR t) 19 0 a.toNat).addF (Reg.TST_TYPE_FAIL t) 15 0 1).raise 216 (2 ^ t.val)))
    (hv : v = u.setDtype t { u.dtype t with
      slice := some { sl with again := true }, failed := (u.dtype t).failed.erase sl.unit ++ [sl.unit] }) :
    exec (.sliceEnd t false a bit) s = .next (if (v.countFault t sl.unit (v.unitSquall t sl.unit)).2
      then (v.countFault t sl.unit (v.unitSquall t sl.unit)).1.sliceLasting t sl a (if bit.val = 127 then 255 else bit.val)
      else (v.countFault t sl.unit (v.unitSquall t sl.unit)).1) := by
  subst hv hu
  simp only [exec_sliceEnd, execSliceEnd, h, sliceEnd_taken hr hrun he, Bool.false_eq_true, if_false]

end Ends

/-! ### The period of a pass (R475) -/

theorem exec_passPeriodExpiry_not (h : s.thawed = false ∨
    atOrAfter s.time ((s.dtype t).since + units (1000 * unitsPerMs * max 1 (s.getF (Reg.TST_TYPE_CTL t) 15 0))) = false) :
    exec (.passPeriodExpiry t) s = .next s := by
  have hc : (!s.thawed || !atOrAfter s.time ((s.dtype t).since +
      units (1000 * unitsPerMs * max 1 (s.getF (Reg.TST_TYPE_CTL t) 15 0)))) = true := by
    rcases h with h | h <;> simp [h]
  simp only [exec_passPeriodExpiry, execPassPeriodExpiry, if_pos hc]

section Period
variable {p : Nat} (hth : s.thawed = true) (hp : p = 1000 * unitsPerMs * max 1 (s.getF (Reg.TST_TYPE_CTL t) 15 0))
  (hd : atOrAfter s.time ((s.dtype t).since + units p) = true)
include hth hp hd

theorem exec_passPeriodExpiry_complete (hl : s.unitsLeft t = []) : exec (.passPeriodExpiry t) s =
    .next (s.setDtype t { slice := (s.dtype t).slice, since := (s.dtype t).since + units p }) := by
  subst hp
  simp only [exec_passPeriodExpiry, execPassPeriodExpiry, hth, hd, hl, Bool.not_true, Bool.or_self, Bool.false_eq_true, if_false,
    List.isEmpty_nil, if_true]

/-- A pass that is not complete is late, and ends where no unit left can be tested. -/
theorem exec_passPeriodExpiry_late (hl : s.unitsLeft t ≠ []) (hu : u = s.setDtype t { s.dtype t with late := true }) :
    exec (.passPeriodExpiry t) s = .next
      (if (s.dtype t).slice.isNone && (s.unitsLeft t).all (fun n => !u.canTest t n) then u.passEnd t else u) := by
  subst hp hu
  simp only [exec_passPeriodExpiry, execPassPeriodExpiry, hth, hd, List.isEmpty_eq_false_iff.2 hl, Bool.not_true, Bool.or_self,
    Bool.false_eq_true, if_false]
  exact (apply_ite Host.Outcome.next _ _ _).symm

end Period
end Drizzle

/-! ### Reinstatement (R482) -/

section Reinstate
variable {w : Word} {s : State}

theorem State.writeReinstate_badUnit (h : (fld w 29 28 ≠ 1 ∧ fld w 29 28 ≠ 2) ∨ 47 < fld w 21 16 ∨ 32 < fld w 5 0) :
    s.writeReinstate w = s.setB Reg.TST_STAT 31 true := by
  rw [State.writeReinstate, if_pos h]

variable (ht : fld w 29 28 = 1 ∨ fld w 29 28 = 2) (hi : fld w 21 16 ≤ 47)
include ht hi

/-- A retired block that has had a clean pass returns. -/
theorem State.writeReinstate_block {a : Nat} (hk : fld w 5 0 ≤ 31)
    (ha : a = if fld w 29 28 = 1 then Reg.SEC_BRAM_RETIRED (fld w 21 16) else Reg.SEC_MUL_RETIRED (fld w 21 16)) :
    s.writeReinstate w =
      if s.getB a (fld w 5 0) && s.tst.clean.contains (unitKey (fld w 29 28) (33 * fld w 21 16 + fld w 5 0))
      then (s.setB a (fld w 5 0) false).resolveLog (fld w 29 28) (33 * fld w 21 16 + fld w 5 0)
      else s.setB Reg.TST_STAT 31 true := by
  have hn : ¬ ((fld w 29 28 ≠ 1 ∧ fld w 29 28 ≠ 2) ∨ 47 < fld w 21 16 ∨ 32 < fld w 5 0) := by omega
  have h32 : fld w 5 0 ≠ 32 := by omega
  subst ha
  simp only [State.writeReinstate, if_neg hn, if_neg h32]

/-- So does a spare block that was FAULTY. -/
theorem State.writeReinstate_spare (hk : fld w 5 0 = 32) :
    s.writeReinstate w =
      if s.getB (spareReg (fld w 29 28) (fld w 21 16)) 29 && s.tst.clean.contains (unitKey (fld w 29 28) (33 * fld w 21 16 + 32))
      then (s.setB (spareReg (fld w 29 28) (fld w 21 16)) 29 false).resolveLog (fld w 29 28) (33 * fld w 21 16 + 32)
      else s.setB Reg.TST_STAT 31 true := by
  have hn : ¬ ((fld w 29 28 ≠ 1 ∧ fld w 29 28 ≠ 2) ∨ 47 < fld w 21 16 ∨ 32 < fld w 5 0) := by omega
  rw [State.writeReinstate, if_neg hn]
  simp only [hk, if_true]

end Reinstate

/-! ### The JTAG port (R486) -/

section Jtag
variable {i : Byte} {s : State}

theorem exec_jtagInstruction_open (h : i = 1 ∨ i = 2 ∨ i = 0xFF) : exec (.jtagInstruction i) s =
    .next { s with tst := { s.tst with jtag := i.toNat, jtagDr := jtagCapture i.toNat } } := by
  rcases h with rfl | rfl | rfl <;> rfl

theorem exec_jtagInstruction_unlocked (h : i = 0 ∨ i = 3 ∨ i = 4 ∨ i = 0x20 ∨ i = 0x21) (hs : s.getB Reg.TST_SCAN 0 = true) :
    exec (.jtagInstruction i) s = .next { s with tst := { s.tst with jtag := i.toNat, jtagDr := none } } := by
  rcases h with rfl | rfl | rfl | rfl | rfl <;> exact if_pos hs

theorem exec_jtagInstruction_locked (h : i = 0 ∨ i = 3 ∨ i = 4 ∨ i = 0x20 ∨ i = 0x21) (hs : s.getB Reg.TST_SCAN 0 = false) :
    exec (.jtagInstruction i) s =
      .next (({ s with tst := { s.tst with jtag := 0xFF, jtagDr := some 0 } } : State).raise 223 4) := by
  rcases h with rfl | rfl | rfl | rfl | rfl <;> exact if_neg (by simp [hs])

theorem exec_jtagInstruction_reserved (h : (5 ≤ i.toNat ∧ i.toNat ≤ 0x1F) ∨ (0x22 ≤ i.toNat ∧ i.toNat ≤ 0xFE)) :
    exec (.jtagInstruction i) s = .next { s with tst := { s.tst with jtag := 0xFF, jtagDr := some 0 } } := by
  have ho : jtagOpen.contains i.toNat = false := by
    simp only [jtagOpen, List.contains_eq_mem, List.mem_cons, List.not_mem_nil, or_false, decide_eq_false_iff_not]
    omega
  have hl : jtagLocked.contains i.toNat = false := by
    simp only [jtagLocked, List.contains_eq_mem, List.mem_cons, List.not_mem_nil, or_false, decide_eq_false_iff_not]
    omega
  rw [exec_jtagInstruction, execJtagInstruction, ho, hl]
  rfl

end Jtag

/-- Settles O55: each clause is one case of a slice's start or end, of a pass's period, of a reinstatement, or of a JTAG code. -/
theorem selfTestAndJtag : Obligations.SelfTestAndJtag := by
  refine ⟨fun _ _ => exec_drizzleSliceStart_not, fun _ _ _ => exec_drizzleSliceStart_noUnit, 
    fun _ _ _ _ hon hl hu => exec_drizzleSliceStart_unit hon hl hu,
    fun _ _ _ _ _ => exec_sliceEnd_none,
    fun _ _ _ _ _ h hr hrun hk => ⟨fun h0 => exec_sliceEnd_next h hr hrun h0 hk, fun h0 he => exec_sliceEnd_next_engine h hr hrun h0 he hk⟩,
    fun _ _ _ _ _ _ => exec_sliceEnd_ignored, fun _ _ _ _ _ => exec_sliceEnd_last,
    fun _ _ _ _ _ _ _ h hr hrun he hu hv => ⟨fun h2 => ?_, fun h2 => ?_⟩,
    fun _ _ => exec_passPeriodExpiry_not, fun _ _ _ => exec_passPeriodExpiry_complete, fun _ _ _ _ => exec_passPeriodExpiry_late,
    fun w s h1 hi hk => ⟨fun hb hc => ?_, fun hn => ?_⟩, fun w s h2 hi hk => ⟨fun hb hc => ?_, fun hn => ?_⟩,
    fun w s t i ht hw hi hi' hk => ⟨fun hb hc => ?_, fun hn => ?_⟩, fun w s h => ?_,
    fun _ _ => exec_jtagInstruction_open, rfl, rfl,
    fun _ _ h => ⟨exec_jtagInstruction_unlocked h, exec_jtagInstruction_locked h⟩, fun _ _ => exec_jtagInstruction_reserved,
    fun _ => rfl⟩
  · rw [exec_sliceEnd_fails h hr hrun he hu hv, if_neg (by simp [h2])]
  · rw [exec_sliceEnd_fails h hr hrun he hu hv, if_pos h2]
  · rw [exec_tstReinstate, State.writeReinstate_block (.inl h1) hi hk (if_pos h1).symm, h1, hb, hc]
    rfl
  · rw [exec_tstReinstate, State.writeReinstate_block (.inl h1) hi hk (if_pos h1).symm, h1]
    exact congrArg _ (if_neg (by rcases hn with hn | hn <;> simp only [hn, Bool.false_and, Bool.and_false, Bool.false_eq_true, not_false_eq_true]))
  · rw [exec_tstReinstate, State.writeReinstate_block (.inr h2) hi hk (if_neg (by omega)).symm, h2, hb, hc]
    rfl
  · rw [exec_tstReinstate, State.writeReinstate_block (.inr h2) hi hk (if_neg (by omega)).symm, h2]
    exact congrArg _ (if_neg (by rcases hn with hn | hn <;> simp only [hn, Bool.false_and, Bool.and_false, Bool.false_eq_true, not_false_eq_true]))
  · subst hi
    rw [exec_tstReinstate, State.writeReinstate_spare (by omega) hi' hk, hw, hb, hc]
    rfl
  · subst hi
    rw [exec_tstReinstate, State.writeReinstate_spare (by omega) hi' hk, hw]
    exact congrArg _ (if_neg (by rcases hn with hn | hn <;> simp only [hn, Bool.false_and, Bool.and_false, Bool.false_eq_true, not_false_eq_true]))
  · rw [exec_tstReinstate, State.writeReinstate_badUnit h]

end Sys2Proof.Machine
end

section
/-!
PROOF. The status commands, the event commands and the control lease (R392, R395, R399, R408, R491), case by case, and the obligation
EventsAndLease.
-/
namespace Sys2Proof.Machine

/-! ### What runs for each command -/

theorem exec_timeRead (c : CmdRef) (s : State) : exec (.timeRead c) s = execTimeRead c s := rfl
theorem exec_pwrStat (c : CmdRef) (s : State) : exec (.pwrStat c) s = execPwrStat c s := rfl
theorem exec_evtSubscribe (c : CmdRef) (s : State) : exec (.evtSubscribe c) s = execEvtSubscribe c s := rfl
theorem exec_evtRead (c : CmdRef) (s : State) : exec (.evtRead c) s = execEvtRead c s := rfl
theorem exec_evtAck (c : CmdRef) (s : State) : exec (.evtAck c) s = execEvtAck c s := rfl
theorem exec_leaseAcquire (c : CmdRef) (s : State) : exec (.leaseAcquire c) s = execLeaseAcquire c s := rfl
theorem exec_leaseRenew (c : CmdRef) (s : State) : exec (.leaseRenew c) s = execLeaseRenew c s := rfl
theorem exec_leaseRelease (c : CmdRef) (s : State) : exec (.leaseRelease c) s = execLeaseRelease c s := rfl
theorem exec_leaseStat (c : CmdRef) (s : State) : exec (.leaseStat c) s = execLeaseStat c s := rfl
theorem exec_leaseLapse (s : State) : exec .leaseLapse s = execLeaseLapse s := rfl

section Turn
variable {c : CmdRef} {s : State} {x : Command}

/-! ### Status commands (R399) -/

theorem exec_timeRead_of_turn (h : s.turn c 2 6 = some x) :
    exec (.timeRead c) s = .next (s.replyTo x csOK true (beBytes 8 s.time.toNat ++ beBytes 4 (s.getR Reg.CLK_TB_STAT).toNat)) := by
  simp only [exec_timeRead, execTimeRead, h]

theorem exec_pwrStat_domain {d : Nat} (h : s.turn c 7 1 = some x) (hx : d = beAt x.payload 0 1) (hd : d ≤ 134) :
    exec (.pwrStat c) s = .next (s.replyTo x csOK true (beBytes 1 (s.domState d) ++
      beBytes 4 (s.getR (Reg.PWR_DOM_WAKE d)).toNat ++ beBytes 8 (s.getD (Reg.PWR_DOM_WAKE_TIME d)).toNat)) := by
  subst hx
  simp only [exec_pwrStat, execPwrStat, h, if_neg (Nat.not_lt.2 hd)]

theorem exec_pwrStat_noDomain {d : Nat} (h : s.turn c 7 1 = some x) (hx : d = beAt x.payload 0 1) (hd : 134 < d) :
    exec (.pwrStat c) s = .next (s.replyTo x (csOf 7 5) true []) := by
  subst hx
  simp only [exec_pwrStat, execPwrStat, h, if_pos hd]

/-! ### Event commands (R399, R408, R491) -/

/-- A subscription sets the mask of its session, unless that has closed. -/
theorem exec_evtSubscribe_of_turn {k : Fin 4} (h : s.turn c 8 0 = some x) (hk : x.ref.session = some k) :
    exec (.evtSubscribe c) s = .next ((if x.mute then s
      else s.setSession k { s.session k with mask := beNat x.payload }).replyTo x csOK true []) := by
  cases hm : x.mute <;> simp only [exec_evtSubscribe, execEvtSubscribe, h, hk, hm, Bool.false_eq_true, if_false, if_true]

section Read
variable {e n : Nat} (h : s.turn c 8 1 = some x) (he : e = beAt x.payload 0 2) (hn : n = beAt x.payload 2 1)
include h he hn

theorem exec_evtRead_events (h1 : 1 ≤ n) (h64 : n ≤ 64) (h320 : e + n ≤ 320) : exec (.evtRead c) s =
    .next (s.replyTo x csOK true ((List.range n).flatMap (fun i => beBytes 4 (s.causeWord (e + i)).toNat))) := by
  have hb : ¬ (n = 0 ∨ 64 < n ∨ 320 < e + n) := by omega
  subst he hn
  simp only [exec_evtRead, execEvtRead, h, if_neg hb]

theorem exec_evtRead_badCount (hb : n = 0 ∨ 64 < n ∨ 320 < e + n) :
    exec (.evtRead c) s = .next (s.replyTo x csBADPARAM true []) := by
  subst he hn
  simp only [exec_evtRead, execEvtRead, h, if_pos hb]

end Read

section Ack
variable (h : s.turn c 8 2 = some x)
include h

theorem exec_evtAck_badEvent (he : 320 ≤ beAt x.payload 0 2) : exec (.evtAck c) s = .next (s.replyTo x csBADPARAM true []) := by
  simp only [exec_evtAck, execEvtAck, h, if_pos he]

theorem exec_evtAck_clears {a : Nat} (he : beAt x.payload 0 2 < 320) (ha : s.causeAddr (beAt x.payload 0 2) = some a) :
    exec (.evtAck c) s =
      .next ((s.setR a (s.getR a &&& ~~~(BitVec.ofNat 32 (beAt x.payload 2 4)))).replyTo x csOK true []) := by
  simp only [exec_evtAck, execEvtAck, h, if_neg (Nat.not_le.2 he), ha]

/-- A reserved event has no cause to clear. -/
theorem exec_evtAck_reserved (he : beAt x.payload 0 2 < 320) (ha : s.causeAddr (beAt x.payload 0 2) = none) :
    exec (.evtAck c) s = .next (s.replyTo x csOK true []) := by
  simp only [exec_evtAck, execEvtAck, h, if_neg (Nat.not_le.2 he), ha]

end Ack

/-! ### The lease (R392, R395) -/

section Acquire
variable {k : Fin 4} (h : s.turn c 10 0 = some x) (hk : x.ref.session = some k)
include h hk

theorem exec_leaseAcquire_held (hh : s.holder.isSome = true) :
    exec (.leaseAcquire c) s = .next (s.replyTo x csLEASEHELD true []) := by
  simp only [exec_leaseAcquire, execLeaseAcquire, h, hk, hh, if_true]

theorem exec_leaseAcquire_muted (hh : s.holder = none) (hm : x.mute = true) :
    exec (.leaseAcquire c) s = .next (s.replyTo x csOK true []) := by
  simp only [exec_leaseAcquire, execLeaseAcquire, h, hk, hh, hm, Option.isSome_none, Bool.false_eq_true, if_false, if_true]

theorem exec_leaseAcquire_granted (hh : s.holder = none) (hm : x.mute = false) : exec (.leaseAcquire c) s =
    .next (((s.renewLease k).raise 241 1).replyTo x csOK true (beBytes 1 (s.leaseTime / unitsPerMs))) := by
  simp only [exec_leaseAcquire, execLeaseAcquire, h, hk, hh, hm, Option.isSome_none, Bool.false_eq_true, if_false]

end Acquire

theorem exec_leaseRenew_of_turn (h : s.turn c 10 1 = some x) :
    exec (.leaseRenew c) s = .next (s.replyTo x csOK true (beBytes 4 s.leaseLeft)) := by
  simp only [exec_leaseRenew, execLeaseRenew, h]

theorem exec_leaseStat_of_turn (h : s.turn c 10 3 = some x) :
    exec (.leaseStat c) s = .next (s.replyTo x csOK true (beBytes 4 s.cmdStat.toNat)) := by
  simp only [exec_leaseStat, execLeaseStat, h]

/-- A lease that somebody holds ends with its event. -/
theorem State.endLease_held {k bits : Nat} (hh : s.holder = some k) :
    s.endLease bits = ({ s with cmd := { s.cmd with lease := none } } : State).raise 241 bits := by
  have hl : s.cmd.lease.isSome = true := by
    obtain ⟨_, ha, -⟩ := Option.map_eq_some_iff.1 hh
    exact Option.isSome_of_eq_some ha
  exact if_pos hl

section Release
variable {k : Fin 4} (h : s.turn c 10 2 = some x) (hk : x.ref.session = some k)
include h hk

theorem exec_leaseRelease_holder (hh : s.holder = some k.val) :
    exec (.leaseRelease c) s = .next ((s.endLease 2).replyTo x csOK true []) := by
  simp only [exec_leaseRelease, execLeaseRelease, h, hk, hh, Option.map_some, Option.isSome_some, and_self, if_true]

theorem exec_leaseRelease_other (hh : s.holder ≠ some k.val) :
    exec (.leaseRelease c) s = .next (s.replyTo x csOK true []) := by
  have hn : ¬ (s.holder.isSome = true ∧ s.holder = some k.val) := fun hy => hh hy.2
  simp only [exec_leaseRelease, execLeaseRelease, h, hk, Option.map_some, if_neg hn]

end Release
end Turn

section Lapse
variable {s : State}

theorem exec_leaseLapse_none (h : s.cmd.lease = none) : exec .leaseLapse s = .next s := by
  simp only [exec_leaseLapse, execLeaseLapse, h]

variable {k : Nat} {t : DWord} (h : s.cmd.lease = some (k, t))
include h

theorem exec_leaseLapse_early (ht : s.reached (t + units s.leaseTime) = false) : exec .leaseLapse s = .next s := by
  simp only [exec_leaseLapse, execLeaseLapse, h, if_pos ht]

/-- At LEASE_MS the lease ends, and LAPSE_HOLD performs the HOLD of its registers. -/
theorem exec_leaseLapse_ends {u : State} (ht : s.reached (t + units s.leaseTime) = true)
    (hu : u = { s with cmd := { s.cmd with lease := none } }) : exec .leaseLapse s =
    .next ((if bitOf (s.getR Reg.CMD_LEASE_CFG) 31 then
        (u.applyHold ⟨fld (s.getR Reg.CMD_LEASE_CFG) 3 0, (s.getR Reg.CMD_LAPSE_CODE).toNat, (s.getD Reg.CMD_LAPSE_ENG).toNat,
          s.getF Reg.CMD_LAPSE_TBL 15 0, s.getR Reg.CMD_LAPSE_CANCEL⟩).1
      else u).raise 241 4) := by
  subst hu
  simp only [exec_leaseLapse, execLeaseLapse, h, ht, Bool.true_eq_false, if_false]
  rfl

end Lapse

/-- Settles O58: each clause is one case of a status command, an event command, or the lease. -/
theorem eventsAndLease : Obligations.EventsAndLease := by
  refine ⟨fun _ _ _ => exec_timeRead_of_turn, fun _ _ _ _ h hd => ⟨exec_pwrStat_domain h hd, exec_pwrStat_noDomain h hd⟩,
    fun c s x k h hk hm => ?_, fun c s x k h hk hm => ?_,
    fun _ _ _ _ _ h he hn => ⟨exec_evtRead_events h he hn, exec_evtRead_badCount h he hn⟩,
    fun _ _ _ _ h => exec_evtAck_clears h, fun _ _ _ h => ⟨exec_evtAck_badEvent h, exec_evtAck_reserved h⟩,
    fun _ _ _ _ h hk => ⟨exec_leaseAcquire_granted h hk, exec_leaseAcquire_muted h hk, exec_leaseAcquire_held h hk⟩,
    fun _ _ _ => exec_leaseRenew_of_turn, fun c s x k h hk => ⟨fun hh => ?_, exec_leaseRelease_other h hk⟩,
    fun _ _ _ => exec_leaseStat_of_turn, fun _ => exec_leaseLapse_none, fun _ _ _ => exec_leaseLapse_early,
    fun s u k t h ht hu => ⟨fun hb => ?_, fun hb => ?_⟩⟩
  · rw [exec_evtSubscribe_of_turn h hk, if_neg (by simp [hm])]
  · rw [exec_evtSubscribe_of_turn h hk, if_pos hm]
  · rw [exec_leaseRelease_holder h hk hh, State.endLease_held hh]
  · rw [exec_leaseLapse_ends h ht hu, if_neg (by simp [hb])]
  · rw [exec_leaseLapse_ends h ht hu, if_pos hb]

end Sys2Proof.Machine
end

section
/-!
PROOF. Packets, the service port, the start of RUN-class commands and sessions (R379, R381–R388, R391–R394, R400, R408), case by case,
and the obligation PacketsAndSessions.
-/
namespace Sys2Proof.Machine

/-! ### What runs for each command -/

theorem exec_command (s : State) : exec .command s = execCommand s := rfl
theorem exec_runCommandStart (c : CmdRef) (s : State) : exec (.runCommandStart c) s = execRunCommandStart c s := rfl
theorem exec_svcWrite (b : List Byte) (s : State) : exec (.svcWrite b) s = execSvcWrite b s := rfl
theorem exec_svcRead (s : State) : exec .svcRead s = execSvcRead s := rfl
theorem exec_svcStatus (s : State) : exec .svcStatus s = execSvcStatus s := rfl
theorem exec_sessionTimeout (k : Fin 4) (s : State) : exec (.sessionTimeout k) s = execSessionTimeout k s := rfl
theorem exec_openingTimeout (k : Fin 4) (s : State) : exec (.openingTimeout k) s = execOpeningTimeout k s := rfl
theorem exec_eventReport (k : Fin 4) (s : State) : exec (.eventReport k) s = execEventReport k s := rfl
theorem exec_identify (c : CmdRef) (s : State) : exec (.identify c) s = execIdentify c s := rfl
theorem exec_ping (c : CmdRef) (s : State) : exec (.ping c) s = execPing c s := rfl
theorem exec_sessionClose (c : CmdRef) (s : State) : exec (.sessionClose c) s = execSessionClose c s := rfl
theorem exec_sessionOpen (c : CmdRef) (s : State) : exec (.sessionOpen c) s = execSessionOpen c s := rfl

/-! ### Packets (R379, R382, R386) -/

section Packets
variable {s : State} {p : RxPacket}

theorem exec_command_noPacket (h : s.cmd.rx = []) : exec .command s = .next s := by
  simp only [exec_command, execCommand, h, nextRx]

/-- A packet waits until the command before it has started. -/
theorem exec_command_waits (h : s.cmd.inflight.any (fun x => x.stage == .queued) = true) : exec .command s = .next s := by
  cases hn : nextRx s.cmd.rx with
  | none => simp only [exec_command, execCommand, hn]
  | some p => simp only [exec_command, execCommand, hn, if_pos h]

theorem exec_command_takes (hn : nextRx s.cmd.rx = some p) (h : ∀ x ∈ s.cmd.inflight, x.stage ≠ .queued) : exec .command s =
    .next (({ s with cmd := { s.cmd with rx := s.cmd.rx.erase p } } : State).useCrypto.takePacket p) := by
  have hq : s.cmd.inflight.any (fun x => x.stage == .queued) = false := by
    simpa only [List.any_eq_false, beq_iff_eq] using h
  simp only [exec_command, execCommand, hn, hq, Bool.false_eq_true, if_false]

variable {n : Fin 4}

/-- A COMMAND packet of a session is checked as that session's. -/
theorem State.takePacket_session (ht : beAt p.bytes 1 1 = 1) (hn : beAt p.bytes 2 1 = n.val) : s.takePacket p = s.takeOf n p := by
  have h255 : n.val ≠ 255 := by omega
  simp only [State.takePacket, ht, hn, ne_eq, not_true_eq_false, if_false, if_neg h255, dif_pos n.isLt]

/-- A free session has no key to verify a tag by. -/
theorem State.takeOf_free (h : (s.session n).state = 0) : s.takeOf n p = s.tagFail := by
  simp only [State.takeOf, h, if_true]

theorem State.takeOf_badTag {k : Packet} (h : (s.session n).state ≠ 0) (hi : (s.session n).iface = p.iface)
    (hm : (s.session n).mac = p.mac) (hk : parsePacket (s.session n).v2 p.bytes = some k)
    (ht : k.tag ≠ (hmacSha256 (s.session n).skey k.body).take 16) : s.takeOf n p = s.tagFail := by
  simp only [State.takeOf, if_neg h, hi, hm, ne_eq, not_true_eq_false, or_self, if_false, hk, if_pos ht]

end Packets

/-! ### The start of RUN-class commands (R392–R394, R407) -/

section Run
variable {c : CmdRef} {s : State}

theorem exec_runCommandStart_none (h : ∀ x ∈ s.cmd.inflight, x.stage ≠ .runWait) : exec (.runCommandStart c) s = .next s := by
  have hf : s.cmd.inflight.find? (fun x => x.stage == .runWait) = none := by
    simpa only [List.find?_eq_none, beq_iff_eq] using h
  simp only [exec_runCommandStart, execRunCommandStart, hf]

variable {x : Command} (hf : s.cmd.inflight.find? (fun x => x.stage == .runWait) = some x)
include hf

/-- Before its stamp plus 1 us, and behind an earlier one, a command waits. -/
theorem exec_runCommandStart_waits (h : x.ref ≠ c ∨ s.quietUntil (x.stamp + units unitsPerUs) = false) :
    exec (.runCommandStart c) s = .next s := by
  simp only [exec_runCommandStart, execRunCommandStart, hf, if_pos h]

variable (hc : x.ref = c) (hq : s.quietUntil (x.stamp + units unitsPerUs) = true)
include hc hq

/-- Beside a HOLD or STOP it is refused. -/
theorem exec_runCommandStart_conflict (hx : s.crossed x.stamp = true) : exec (.runCommandStart c) s =
    .next (((s.incR Reg.CMD_CONFLICT_CNT).raise 241 0x10).replyTo x csCONFLICT true []) := by
  have hn : ¬ (x.ref ≠ c ∨ s.quietUntil (x.stamp + units unitsPerUs) = false) := by simp [hc, hq]
  simp only [exec_runCommandStart, execRunCommandStart, hf, if_neg hn, if_pos hx]

variable {k : Fin 4} (hx : s.crossed x.stamp = false) (hk : x.ref.session = some k)
include hx hk

/-- A command of a closed session starts; any other needs the lease, which it renews. -/
theorem exec_runCommandStart_starts : exec (.runCommandStart c) s = .next
    (if x.mute then s.setCommand { x with stage := .started }
    else if s.mayRun k x then
      ((if s.holder.isNone then s.raise 241 1 else s).renewLease k).setCommand { x with stage := .started }
    else s.authDenied x) := by
  have hn : ¬ (x.ref ≠ c ∨ s.quietUntil (x.stamp + units unitsPerUs) = false) := by simp [hc, hq]
  simp only [exec_runCommandStart, execRunCommandStart, hf, if_neg hn, hx, hk, Bool.false_eq_true, if_false]
  cases x.mute <;> cases s.mayRun k x <;> rfl

end Run

/-- A version 2 command takes a lease that nobody holds; the holder's commands may run; no other's may. -/
theorem State.mayRun_takes {s : State} {x : Command} {k : Nat} (h : s.v2Takes x = true) : s.mayRun k x = true := by
  simp only [State.mayRun, h, Bool.or_true]
theorem State.mayRun_holder {s : State} {x : Command} {k : Nat} (h : s.holder = some k) : s.mayRun k x = true := by
  simp only [State.mayRun, h, BEq.rfl, Bool.true_or]
theorem State.mayRun_other {s : State} {x : Command} {k : Nat} (h : s.holder ≠ some k) (hv : s.v2Takes x = false) :
    s.mayRun k x = false := by
  simp only [State.mayRun, beq_eq_false_iff_ne.2 h, hv, Bool.or_self]

/-! ### The service port (R381) -/

section Service
variable {b : List Byte} {s : State}

theorem exec_svcWrite_down (h : s.svcUp = false) : exec (.svcWrite b) s = .next s := by
  simp only [exec_svcWrite, execSvcWrite, h, Bool.not_false, Bool.true_or, if_true]
theorem exec_svcRead_down (h : s.svcUp = false) : exec .svcRead s = .next s := by
  simp only [exec_svcRead, execSvcRead, h, Bool.not_false, if_true]
theorem exec_svcStatus_down (h : s.svcUp = false) : exec .svcStatus s = .next s := by
  simp only [exec_svcStatus, execSvcStatus, h, Bool.not_false, if_true]

theorem exec_svcWrite_disabled (h : s.getB Reg.CMD_CTL 11 = false) : exec (.svcWrite b) s = .next s := by
  simp only [exec_svcWrite, execSvcWrite, h, Bool.not_false, Bool.or_true, if_true]

section Up
variable (hup : s.svcUp = true)
include hup

section Write
variable {v2 : Bool} (hen : s.getB Reg.CMD_CTL 11 = true) (hv : v2 = (beAt b 0 1 == 2))
include hen hv

/-- A packet of the length that its header gives waits its turn, with the time as its stamp. -/
theorem exec_svcWrite_packet (hl : headLen v2 ≤ b.length) (hn : b.length = headLen v2 + lenField v2 b + 16) :
    exec (.svcWrite b) s = .next { s with cmd := { s.cmd with rx := s.cmd.rx ++ [⟨b, 2, 0, 0, s.time⟩] } } := by
  have hok : ¬ (b.length < headLen v2 ∨ b.length ≠ headLen v2 + lenField v2 b + 16) := by omega
  subst hv
  simp only [exec_svcWrite, execSvcWrite, hup, hen, Bool.not_true, Bool.or_self, Bool.false_eq_true, if_false, if_neg hok]

theorem exec_svcWrite_badLength (hn : b.length < headLen v2 ∨ b.length ≠ headLen v2 + lenField v2 b + 16) :
    exec (.svcWrite b) s = .next (s.raise 244 2) := by
  subst hv
  simp only [exec_svcWrite, execSvcWrite, hup, hen, Bool.not_true, Bool.or_self, Bool.false_eq_true, if_false, if_pos hn]

end Write

theorem exec_svcRead_packet {p : OutPacket} {l : List OutPacket} (hq : s.cmd.svcQueue = p :: l) : exec .svcRead s =
    .next { s with cmd := { s.cmd with svcOut := beBytes 2 p.bytes.length ++ p.bytes, svcQueue := l } } := by
  simp only [exec_svcRead, execSvcRead, hup, hq, Bool.not_true, Bool.false_eq_true, if_false]

variable (hq : s.cmd.svcQueue = [])
include hq

theorem exec_svcRead_empty : exec .svcRead s = .next { s with cmd := { s.cmd with svcOut := beBytes 2 0 } } := by
  simp only [exec_svcRead, execSvcRead, hup, hq, Bool.not_true, Bool.false_eq_true, if_false]

theorem exec_svcStatus_empty : exec .svcStatus s =
    .next { s with cmd := { s.cmd with svcOut := beBytes 1 (2 * (s.getB Reg.CMD_CTL 11).toNat) } } := by
  simp only [exec_svcStatus, execSvcStatus, hup, hq, Bool.not_true, Bool.false_eq_true, if_false, List.isEmpty_nil, Bool.toNat_false,
    Nat.zero_add]

end Up
end Service

/-! ### Time-outs and reports (R385, R408) -/

section Session
variable {k : Fin 4} {s : State}

theorem exec_sessionTimeout_closes (h2 : (s.session k).state = 2)
    (hq : s.quietUntil ((s.session k).lastPkt + units (1000 * unitsPerMs * max 1 (s.getF Reg.CMD_CTL 31 24))) = true) :
    exec (.sessionTimeout k) s = .next (s.closeSession k true) := by
  simp only [exec_sessionTimeout, execSessionTimeout, if_pos (And.intro h2 hq)]

theorem exec_sessionTimeout_not (h : (s.session k).state ≠ 2 ∨
    s.quietUntil ((s.session k).lastPkt + units (1000 * unitsPerMs * max 1 (s.getF Reg.CMD_CTL 31 24))) = false) :
    exec (.sessionTimeout k) s = .next s := by
  rcases h with h | h <;>
    simp only [exec_sessionTimeout, execSessionTimeout, h, false_and, Bool.false_eq_true, and_false, if_false]

theorem exec_openingTimeout_closes (h1 : (s.session k).state = 1)
    (hq : s.quietUntil ((s.session k).openedAt + units (1000 * unitsPerMs)) = true) :
    exec (.openingTimeout k) s = .next (s.closeSession k true) := by
  simp only [exec_openingTimeout, execOpeningTimeout, if_pos (And.intro h1 hq)]

theorem exec_openingTimeout_not (h : (s.session k).state ≠ 1 ∨
    s.quietUntil ((s.session k).openedAt + units (1000 * unitsPerMs)) = false) : exec (.openingTimeout k) s = .next s := by
  rcases h with h | h <;>
    simp only [exec_openingTimeout, execOpeningTimeout, h, false_and, Bool.false_eq_true, and_false, if_false]

theorem exec_eventReport_nothing (h : (s.session k).reports = []) : exec (.eventReport k) s = .next s := by
  simp only [exec_eventReport, execEventReport, h, List.take_nil]

/-- Only an OPEN session of version 3 is sent events. -/
theorem exec_eventReport_not (h : (s.session k).state ≠ 2 ∨ (s.session k).v2 = true) : exec (.eventReport k) s = .next s := by
  cases hr : (s.session k).reports.take 60 with
  | nil => simp only [exec_eventReport, execEventReport, hr]
  | cons e l => simp only [exec_eventReport, execEventReport, hr, if_pos h]

theorem exec_eventReport_sends {x : Session} {e : EvEntry} {l : List EvEntry} (hx : s.session k = x) (hr : x.reports.take 60 = e :: l)
    (h2 : x.state = 2) (hv : x.v2 = false) : exec (.eventReport k) s =
      .next ((s.setSession k { x with reports := x.reports.drop 60, evSeq := x.evSeq + 1 }).sendPacket
        ⟨packetBytes false 3 k.val (x.evSeq + 1) 8 0x80 0 true e.time ((e :: l).flatMap EvEntry.bytes) (some x.skey),
          x.iface, x.mac, x.vid, true⟩) := by
  subst hx
  have hn : ¬ ((s.session k).state ≠ 2 ∨ (s.session k).v2 = true) := by simp [h2, hv]
  simp only [exec_eventReport, execEventReport, hr, if_neg hn]

end Session

/-! ### Identity and sessions by command (R384–R386, R399, R400) -/

section Turn
variable {c : CmdRef} {s : State} {x : Command}

theorem exec_identify_of_turn (h : s.turn c 0 0 = some x) : exec (.identify c) s =
    .next (s.replyTo x csOK true (if x.v2 then s.identity.take 16 else s.identity)) := by
  simp only [exec_identify, execIdentify, h]

theorem exec_ping_of_turn (h : s.turn c 0 3 = some x) : exec (.ping c) s = .next (s.replyTo x csOK true (beBytes 8 s.time.toNat)) := by
  simp only [exec_ping, execPing, h]

theorem exec_sessionClose_of_turn {k : Fin 4} (h : s.turn c 0 2 = some x) (hk : x.ref.session = some k) :
    exec (.sessionClose c) s = .next ((s.replyTo x csOK true []).closeSession k false) := by
  simp only [exec_sessionClose, execSessionClose, h, hk]

section Open
variable (h : s.turn c 0 1 = some x)
include h

theorem exec_sessionOpen_noKey {e : Nat} (hk : s.openKey x (beAt x.payload 0 1) = .error e) :
    exec (.sessionOpen c) s = .next (s.replyTo x e true []) := by
  simp only [exec_sessionOpen, execSessionOpen, h, hk]

variable {hk : List Byte} {bare : Bool} (ho : s.openKey x (beAt x.payload 0 1) = .ok (hk, bare))
include ho

theorem exec_sessionOpen_noSlot {e : Nat} (hs : s.openSlot (beAt x.payload 1 1) = .error e) :
    exec (.sessionOpen c) s = .next (s.replyTo x e true []) := by
  simp only [exec_sessionOpen, execSessionOpen, h, ho, hs]

/-- A session opens with a fresh device nonce, and the key that both nonces give. -/
theorem exec_sessionOpen_opens {u : State} {nd ks : List Byte} {k : Nat} (hs : s.openSlot (beAt x.payload 1 1) = .ok k)
    (hf : s.freshBytes 16 = (u, nd))
    (hks : ks = hmacSha256 hk (beBytes 5 0x415A2D534B ++ sliceB x.payload 4 16 ++ nd ++ beBytes 1 k)) :
    exec (.sessionOpen c) s = .next ((u.setSession k {
      state := 1, key := beAt x.payload 0 1, v2 := x.v2, iface := x.iface, mac := x.mac, vid := x.vid, skey := ks, bare := bare,
      openedAt := s.time, lastPkt := s.time }).replyOpen x ks (beBytes 1 k ++ beBytes 3 0 ++ nd)) := by
  subst hks
  simp only [exec_sessionOpen, execSessionOpen, h, ho, hs, hf]

end Open
end Turn

/-- Settles O56: each clause is one case of a packet, of a RUN-class command's start, of the service port, or of a session. -/
theorem packetsAndSessions : Obligations.PacketsAndSessions := by
  refine ⟨fun _ => exec_command_noPacket, fun _ _ => exec_command_takes, fun _ => exec_command_waits,
    fun s n p h0 ht hn => ?_, fun s n p k h hi hm hk ht => State.takeOf_badTag h hi hm hk ht,
    fun _ _ => exec_runCommandStart_none, fun _ _ _ => exec_runCommandStart_waits, fun _ _ _ => exec_runCommandStart_conflict,
    fun c s x k hf hc hq hx hk => ⟨fun hm => ?_, fun hm hh hv => ?_, fun hm hh => ?_, fun hm hh hv => ?_⟩,
    fun _ _ h => ⟨exec_svcWrite_down h, exec_svcRead_down h, exec_svcStatus_down h⟩,
    fun _ _ _ hup hen hv => ⟨exec_svcWrite_packet hup hen hv, exec_svcWrite_badLength hup hen hv⟩, fun _ => ⟨rfl, rfl⟩,
    fun _ _ => exec_svcWrite_disabled, fun _ _ _ hup hq => exec_svcRead_packet hup hq,
    fun _ hup hq => ⟨exec_svcRead_empty hup hq, exec_svcStatus_empty hup hq⟩,
    fun _ _ => exec_sessionTimeout_closes, fun _ _ => exec_openingTimeout_closes, fun _ _ => exec_sessionTimeout_not,
    fun _ _ => exec_openingTimeout_not, fun _ _ => exec_eventReport_not, fun _ _ => exec_eventReport_nothing,
    fun _ _ _ _ _ => exec_eventReport_sends, fun _ _ _ => exec_identify_of_turn, fun _ _ _ => exec_ping_of_turn,
    fun _ _ _ _ => exec_sessionClose_of_turn, fun _ _ _ _ _ _ _ _ _ h ho hs hf hks => exec_sessionOpen_opens h ho hs hf hks,
    fun _ _ _ _ h hk => exec_sessionOpen_noKey h hk, fun _ _ _ _ _ _ h ho hs => exec_sessionOpen_noSlot h ho hs⟩
  · rw [State.takePacket_session ht hn, State.takeOf_free h0]
    rfl
  · rw [exec_runCommandStart_starts hf hc hq hx hk, if_pos hm]
  · rw [exec_runCommandStart_starts hf hc hq hx hk, if_neg (by simp [hm]), if_pos (State.mayRun_takes hv), hh]
    rfl
  · rw [exec_runCommandStart_starts hf hc hq hx hk, if_neg (by simp [hm]), if_pos (State.mayRun_holder hh), hh]
    rfl
  · rw [exec_runCommandStart_starts hf hc hq hx hk, if_neg (by simp [hm]), if_neg (by simp [State.mayRun_other hh hv])]
    rfl

end Sys2Proof.Machine
end
